-- ==== Sys2Proof/Word.lean ====
section
/-! DEFINITION. Register words, bytes, and the finite tables that hold sparse contents (registers, memories,
table entries) as plain data: a list of key and value pairs, the keys strictly rising. -/

namespace Sys2Proof

/-- A register word (R6). -/
abbrev Word := BitVec 32

/-- A byte of a frame, a memory or a message. -/
abbrev Byte := BitVec 8

/-- A sparse table by number. An unlisted key reads as the default that the reader of the table names. -/
abbrev Tab (α : Type) := List (Nat × α)

end Sys2Proof
end

