-- ==== Sys2Proof/Machine/TypesA.lean ====
section
/-! DEFINITION. The shapes of the state of Invar, the ports, the egress schedulers, the policers and the switch core. -/

namespace Sys2Proof.Machine

/-! ## Invar (11_invar_time_unit.md) -/

/-- One time domain (R300): seconds, nanoseconds, 48 held bits of fraction, the signed rate in 2^-48 ns per tick, and the
slew in progress (remainder in 2^-48 ns, and the SHIFT sampled by the SLEW command, R305). -/
structure Domain where
  sec : Nat := 0
  ns : Nat := 0
  frac : Nat := 0
  rate : Int := 0
  slewRem : Int := 0
  slewShift : Nat := 16
  deriving DecidableEq, Repr

/-- The snapshot of a domain (R332). -/
structure DomSnap where
  sec : Nat := 0
  ns : Nat := 0
  frac16 : Nat := 0
  deriving DecidableEq, Repr

/-- An entry of a pin's capture queue (R329). -/
structure Capture where
  sec : Nat
  ns : Nat
  rising : Bool
  gen : Nat
  deriving DecidableEq, Repr

/-- One timed pin (R327 to R329). `out` is what its mode drives (none: high impedance), `held` the level that an enabled output drives in
HOLD instead (R422), `level` the level at the ball, `start` the time T as it was formed at the enable (R607), `rise` and `fall` the scheduled
edges in ns of the pin's domain. -/
structure Tio where
  out : Option Bool := none
  held : Option Bool := none
  level : Bool := false
  queue : List Capture := []
  start : Int := 0
  rise : List Int := []
  fall : Option Int := none
  deriving DecidableEq, Repr

/-- A pending change of a list or of the cycle (R255, R256, R325): its change time and the sampled values. -/
structure PendChange where
  tx : Int
  base : Int
  cycle : Nat
  ext : Nat
  len : Nat
  deriving DecidableEq, Repr

/-- What an accepted write of INV_CMD or INV_TDd_RATE_HI does at the next tick (R304, R306), with the values it sampled. -/
inductive InvAct where
  | nop
  | set (d sec ns : Nat)
  | step (d : Nat) (ofs : Int)
  | slew (d : Nat) (rem : Int) (shift : Nat)
  | stop (d : Nat)
  | snap
  | rate (d : Nat) (r : Int)
  deriving DecidableEq, Repr

structure InvState where
  /-- the model's own: how many TCLK ticks have passed since the last episode that cleared the device; it times what the spec
  times in elapsed ns -/
  ticks : Nat := 0
  dom : Tab Domain := []
  snap : Tab DomSnap := []
  /-- the accepted command, and whether the tick at which it acts has begun (R304, R307) -/
  act : Option (InvAct × Bool) := none
  /-- the next cycle start of a generator that has been started (R323, R324) -/
  cycNext : Option Int := none
  /-- the operative base B as a full time, and the previous start issued -/
  cycBase : Int := 0
  cycPend : Option PendChange := none
  tio : Tab Tio := []
  /-- the TIO outputs are stopped, by the fence or in roles SHADOW and STANDBY: their balls are at high impedance (R405, R420, R572) -/
  fenced : Bool := false
  deriving DecidableEq, Repr

/-! ## Ports (03_ports_and_macs.md) -/

/-- What a MAC sends of its own accord (R88, R89, R96). -/
inductive MacPacket where
  | pause
  | pfc
  | verify
  | respond
  deriving DecidableEq, Repr

/-- The reassembly of a preemptable frame on receive (R91): its number, the frame count of its start, the fragment count expected next,
the fragments received, and the frame's length at the start of the present fragment. -/
structure Reassembly where
  fid : Nat
  frame : Nat
  nextCount : Nat
  frags : Nat
  base : Nat
  deriving DecidableEq, Repr

/-- A PTP insertion request of a host frame (R321). -/
structure PtpReq where
  act : Nat
  td : Nat
  transport : Nat
  ptpOff : Nat
  l4Off : Nat
  arg : Nat
  deriving DecidableEq, Repr

/-- The edit record of a head cell (R218). -/
structure EditRec where
  cls : Nat := 0
  routed : Bool := false
  untag : Bool := false
  vid : Nat := 0
  dmac : Nat := 0
  handle : Nat := 0
  strm : Bool := false
  cpuq : Nat := 0
  cause : Nat := 0
  slow : Nat := 0
  err : Nat := 0
  pdsIndex : Nat := 0
  pdsRole : Nat := 0
  l3off : Nat := 0
  l3t : Nat := 0
  deriving DecidableEq, Repr

/-- What a mirror copy carries beside the frame (R193, R500, R501, R505): its session, direction and SNAP, the port and
queue it names, the reason of a drop capture, and for an egress mirror the departure time in TD0 ns once it is fixed and the bytes as
sent once they have left. -/
structure MirrorInfo where
  session : Nat
  egress : Bool
  snap : Nat
  port : Nat
  queue : Nat
  reason : Nat
  stamp : Option Nat
  gen : Nat
  bytes : Option (List Byte)
  deriving DecidableEq, Repr

/-- One copy of a frame: the copy descriptor of R209. HEAD is the head cell of its edit class. TS, EPOCH, SRC, COLOUR,
DONE, BAD and PRE are those of its frame and stand there once. `sel` says that a CT copy has become selectable (R221),
`nread` how many of its cells have been read, in chain order. -/
structure Copy where
  fid : Nat
  cls : Nat := 0
  ct : Bool := false
  sel : Bool := false
  host : Bool := false
  nread : Nat := 0
  mirror : Option MirrorInfo := none
  twin : Bool := false
  /-- the sequence number the copy took for its attachment (R416) -/
  seq : Option Nat := none
  /-- an HSR pass-through copy, sent in every role with its tag unchanged (R416) -/
  pass : Bool := false
  /-- it was selected before its frame was complete -/
  early : Bool := false
  deriving DecidableEq, Repr

/-- An entry of a launch calendar (R260). `req` is the host's insertion request (R321), `owner` its place in insertion order. -/
structure CalEntry where
  lt : Nat
  queue : Nat
  len : Nat
  src : Nat
  handle : Nat
  req : Option PtpReq
  stamp : Nat
  group : Nat
  /-- the ring sequence number it took at insertion (R416) -/
  seq : Option Nat := none
  deriving DecidableEq, Repr

/-- What R316 chooses for a candidate. -/
inductive PtpAction where
  | none
  | origin (td : Nat)
  | turnaround (arg : Nat)
  | e2e
  | p2p
  deriving DecidableEq, Repr

/-- A candidate for an edit: its action, transport, the offsets of its PTP and UDP headers, its ingress stamp, and whether a host's
request is in error or the frame is forwarded. -/
structure PtpCand where
  action : PtpAction
  badReq : Bool
  forwarded : Bool
  transport : Nat
  ptpOff : Nat
  l4Off : Nat
  stamp : Nat
  deriving DecidableEq, Repr

/-- The departure of a candidate (R312, R316, R317): E in 2^-16 ns, the time of the domain that ORIGIN names, the domain map's ratios
and the link delay of the ingress port. -/
structure PtpCtx where
  at16 : Nat
  sec : Nat
  ns : Nat
  frac16 : Nat
  ratios : List (Nat × Int)
  ldly : Nat
  deriving DecidableEq, Repr

/-- A transmission of one MAC of a port: the copy or the launch entry that is sent, its list and queue, whether its first
symbol has reached the lane, the bytes as they leave where they are known, the number of bytes sent in earlier fragments and the number
of fragments, its length limit if it must end stomped (R222), its departure stamp, and the PTP edit that waits for the frame's last
byte. -/
structure Tx where
  entry : Option CalEntry
  list : Nat
  copy : Copy
  queue : Nat
  started : Bool := false
  bytes : List Byte := []
  sent : Nat := 0
  frags : Nat := 0
  cut : Option Nat := none
  stamp : Nat := 0
  ptp : Option (PtpCand × PtpCtx) := none
  /-- its length was known when it was selected (R264) -/
  known : Bool := true
  /-- the lane time in ps at which it is to start (R242, R524) -/
  startPs : Int := 0
  /-- the deficit idle count before it (R74) -/
  dic : Nat := 0
  /-- the frame count of its start delimiter where preemption is active (R90) -/
  smd : Option Nat := none
  deriving DecidableEq, Repr

/-- One port: its receive and transmit state and what its registers do not show. -/
structure PortSt where
  /-- the frame being received by the express and by the preemptable MAC -/
  rxE : Option Nat := none
  rxP : Option Reassembly := none
  /-- what the scheduler has given the MACs: 0 and 1 what the express and the preemptable MAC are sending (a preempted frame stays in
  1), 2 and 3 what each has been given and has not started -/
  lanes : Tab (Option Tx) := []
  /-- the preemptable frame in progress has been preempted and waits to resume (R32) -/
  preempted : Bool := false
  /-- preemption of the frame in progress has been requested (R243, R92) -/
  preReq : Bool := false
  /-- the lane time, in ps of TD0, from which the lane is free for the next frame (R243); none while it is not known -/
  laneFree : Option Int := some 0
  /-- the TD0 time in ps at which the gap after the last frame, fragment or MAC control frame ends (R524) -/
  gapEnd : Int := 0
  /-- the deficit idle count of the Clause 49 and Clause 107 modes (R74), and the frame count of the next preemptable frame (R90) -/
  dic : Nat := 0
  smdNext : Nat := 0
  /-- a flow-control frame waits to be sent (R96) -/
  fcDue : Bool := false
  /-- the flow-control frame that is being sent, and the lane time in ps at which its last byte leaves (R96, R103) -/
  fcOut : Option (MacPacket × List Byte) := none
  fcEnd : Int := 0
  /-- pairs to be sent as XON in the next flow-control frame: bit 8 the port pair, bits 7:0 the priorities (R96) -/
  xonDue : Nat := 0
  /-- the TD0 ns at which a received pause ends: 0 to 7 the priorities, 8 a PAUSE frame (R98) -/
  pauseEnd : Tab Int := []
  /-- the time spent paused that has not made a quantum yet, in ps (counter 39) -/
  pausedPs : Nat := 0
  /-- the time of the last flow-control frame sent (R97) -/
  fcSent : Option Int := none
  /-- attempts to verify, and the time of the last (R89) -/
  verifyTries : Nat := 0
  verifyAt : Int := 0
  /-- the start of a training in progress, and the coefficients in use during and after training (R77) -/
  trainStart : Option Int := none
  eqUse : Option (BitVec 18) := none
  /-- the link and duplex bits of the last control word (R74, R75) -/
  phyUp : Bool := false
  half : Bool := false
  deriving DecidableEq, Repr

/-! ## Egress (08_egress_scheduling.md) -/

structure GclEntry where
  interval : Nat := 0
  gates : Nat := 0
  op : Nat := 0
  deriving DecidableEq, Repr

/-- A gate control list as it runs: its entries, base, cycle, length and extension (R249, R257); for one that a change has
replaced, the change time, before which it is still the list in force. -/
structure GclRun where
  list : Tab GclEntry
  base : Int
  cycle : Nat
  len : Nat
  ext : Nat
  tx : Int
  deriving DecidableEq, Repr

structure EgsPort where
  /-- the two banks of gate control lists (R255) -/
  bank0 : Tab GclEntry := []
  bank1 : Tab GclEntry := []
  /-- INTERVAL held for the next D1 write (R268) -/
  d0 : Word := 0
  /-- the operative base as a full time and the operative extension (R257) -/
  base : Int := 0
  ext : Nat := 0
  pend : Option PendChange := none
  old : Option GclRun := none
  cal : List CalEntry := []
  /-- the armed entry became due (R261) -/
  due : Bool := false
  /-- EGS_LC_CFG.HOLD_EN as taken at the last arming (R266) -/
  lcHold : Bool := true
  /-- writes of HOLD_ADV and of REL_ADV whose events may still fall under the value before: the lane time of the write and that value,
  newest first (R266) -/
  holdAdv : List (Int × Nat) := []
  relAdv : List (Int × Nat) := []
  /-- finish tags of Q0–Q4, each tag before the cost of its present head, and the virtual time (R246) -/
  tag : Tab Nat := []
  tagBase : Tab Nat := []
  vtime : Nat := 0
  /-- bit q: Qq held a head, and an eligible one, at the last look (R246) -/
  held : Nat := 0
  elig : Nat := 0
  /-- tokens in 2^-24 byte per queue (R264) -/
  tok : Tab Int := []
  deriving DecidableEq, Repr

/-! ## Policing (09_policing.md) -/

/-- Memory fault of an entry: a double-bit error stays until a WRITE rewrites it (R283). -/
structure Meter where
  cir : Nat := 0
  pir : Nat := 0
  cbs : Nat := 0
  pbs : Nat := 0
  cm : Bool := false
  csrc : Bool := false
  redAct : Bool := false
  /-- buckets in 10^-6 byte, in which accrual over whole ns is exact, and T_last in TD0 ns (R276) -/
  tc : Int := 0
  tp : Int := 0
  tlast : Int := 0
  ecc : Bool := false
  deriving DecidableEq, Repr

structure Filter where
  maxSdu : Nat := 0
  blockOvs : Bool := false
  blocked : Bool := false
  matchN : Nat := 0
  passN : Nat := 0
  notPass : Nat := 0
  passSdu : Nat := 0
  notPassSdu : Nat := 0
  redN : Nat := 0
  ecc : Bool := false
  deriving DecidableEq, Repr

structure Gate where
  sched : Nat := 0
  col : Nat := 0
  adminOpen : Bool := false
  schedEn : Bool := false
  closeInvEn : Bool := false
  closedInv : Bool := false
  ecc : Bool := false
  deriving DecidableEq, Repr

structure SchedEntry where
  interval : Nat := 0
  states : Nat := 0
  ipv : Nat := 0
  ipvEn : Bool := false
  ecc : Bool := false
  deriving DecidableEq, Repr

/-- The list that a change of a schedule has replaced, as it ran, with the change time: frames stamped before it still meet this
list (R280). -/
structure OldList where
  list : Tab SchedEntry
  base : Int
  cycle : Nat
  len : Nat
  ext : Nat
  tx : Int
  deriving DecidableEq, Repr

structure Schedule where
  bank0 : Tab SchedEntry := []
  bank1 : Tab SchedEntry := []
  base : Int := 0
  ext : Nat := 0
  pend : Option PendChange := none
  old : Option OldList := none
  deriving DecidableEq, Repr

/-- A command of a table window that runs (R286, R373): its word, INDEX and DATA as sampled, and the STATUS that it has come to
at acceptance (a READ comes to one at completion). -/
structure WinCmd where
  word : Word
  index : Nat
  data : List Word
  host : Nat
  res : Nat := 0
  deriving DecidableEq, Repr

structure PolState where
  meters : Tab Meter := []
  filters : Tab Filter := []
  gates : Tab Gate := []
  scheds : Tab Schedule := []
  cmd : Option WinCmd := none
  deriving DecidableEq, Repr

/-! ## Switch core (07_switch_core.md) -/

/-- A written cell: the frame it belongs to, its data bytes (bytes beyond the frame's end are undefined and not kept), its link entry
(R203), the edit record of a head cell (R218), and the error that every later read of it meets (R230, R231): 1 single-bit, 2
double-bit. -/
structure Cell where
  fid : Nat
  ecc : Nat := 0
  data : List Byte
  next : Option Nat := none
  ref : Nat := 0
  edit : Option EditRec := none
  src : Nat
  pri : Nat
  /-- the cell counts in the ingress occupancy of its source port (R94, R217) -/
  counted : Bool
  deriving DecidableEq, Repr

structure SwcState where
  cells : Tab Cell := []
  /-- cells withheld under R232 -/
  quar : List Nat := []
  lists : Tab (List Copy) := []
  /-- pointers of the write matching and of the read matching (R205): grant pointers by bank, accept pointers and the STARVED flags by group, and the round-robin member pointers -/
  gptrW : Tab Nat := []
  aptrW : Tab Nat := []
  starvedW : Nat := 0
  rrW : Tab Nat := []
  gptrR : Tab Nat := []
  aptrR : Tab Nat := []
  starvedR : Nat := 0
  rrR : Tab Nat := []
  /-- the list the age unit examines next (R228) -/
  ageList : Nat := 0
  deriving DecidableEq, Repr

end Sys2Proof.Machine
end

