-- ==== Sys2Proof/Machine/TypesLkp.lean ====
section
/-! DEFINITION. The shapes of the forwarding tables and of the epoch state (05_forwarding_tables.md, 06_epochs_and_consistency.md). -/

namespace Sys2Proof.Machine

/-- A version of a slot (R175): the entry image, its TAG and SETTLED. -/
structure Version where
  img : Nat := 0
  tag : Nat := 0
  settled : Bool := false
  deriving DecidableEq, Repr

/-- A slot of a table (R175): its two versions, which one NEWEST names (true: `b`), whether that version is pending (R177), the
STALE flag of an FDB slot (R156), a parity error in the stored slot and the poison (R169, R171), whether the pending change clears
them, and the image that an INSERT not yet applied has reserved the slot for (R172, R179). -/
structure Slot9 where
  a : Version := {}
  b : Version := {}
  newB : Bool := false
  pend : Bool := false
  stale : Bool := false
  perr : Bool := false
  poison : Bool := false
  unpoison : Bool := false
  res : Option Nat := none
  deriving DecidableEq, Repr

/-- A staged change (R179): the table, the slot, the OP of R172 that staged it, and the entry image. -/
structure Staged where
  table : Nat
  index : Nat
  op : Nat
  img : Nat
  deriving DecidableEq, Repr

/-- A queued learning request (R157). -/
structure LearnReq where
  fid : Nat
  mac : Nat
  port : Nat
  /-- the stamp of the frame that issued it, as TD0 ns: it says whether the insertion is an UPDATE of a warm join (R425) -/
  time : Int := 0
  deriving DecidableEq, Repr

/-- A command of an access window that runs (R172): its word, and the results it shows at completion: STATUS, and for READ,
INSERT and SEARCH the index, the entry image and EPOCH_RTAG. -/
structure LkpCmd where
  word : Word
  status : Nat
  index : Option Nat
  img : Option Nat
  rtag : Option Word
  deriving DecidableEq, Repr

/-- A hit on an FDB slot in the present TCLK tick (R162): the slot, its STALE flag before the first such hit, and the frame whose source
it was, if its learning would be wanted again. -/
structure FdbHit where
  slot : Nat
  stale : Bool
  again : Option Nat
  deriving DecidableEq, Repr

structure LkpState where
  /-- the nine tables: key 2^20 × table + slot -/
  slots : Tab Slot9 := []
  /-- the rotating pointer of each hashed table (R151) -/
  ptr : Tab Nat := []
  learnQ : List LearnReq := []
  cmd0 : Option LkpCmd := none
  cmd1 : Option LkpCmd := none
  /-- the age scanner's next step (R161) and the stash slot it visits next (R153) -/
  ageStep : Nat := 0
  stashVisit : Nat := 0
  /-- the FLUSH that runs in each window: what it matches and the next of its 32,769 operations, the last of which takes the stash (R172) -/
  flush : Tab (Nat × Nat) := []
  /-- the tick to which the next two belong; the hits of it; the FDB slots that the scanner deleted in it, as they stood (R162) -/
  cycleAt : Nat := 0
  hits : List FdbHit := []
  aged : List (Nat × Slot9) := []
  /-- the set being built (R180) and the set that a commit has taken -/
  staged : List Staged := []
  taken : List Staged := []
  /-- T_c of the last accepted commit as a full time (R183), and that of the epoch in force (R187) -/
  tc : Option Int := none
  tcNow : Option Int := none
  /-- the tag sweep's next slot: table and index (R191) -/
  sweepT : Nat := 0
  sweepI : Nat := 0
  /-- the mode has left LOAD since the last reset episode (R186, R191) -/
  leftLoad : Bool := false
  /-- after an aborted BIST of the tables: their unlisted slots are free values from this draw on (R58) -/
  lost : Option Nat := none
  deriving DecidableEq, Repr

end Sys2Proof.Machine
end

