-- ==== Sys2Proof/Machine/TypesPds.lean ====
section
/-! DEFINITION. The shapes of the buffer pools' state (16_dma_and_buffer_pools.md), of the process-data service
(12_process_data_service.md) and of the DMA engine. -/

namespace Sys2Proof.Machine

/-! ## Buffer pools (R487 to R494) -/

/-- One pool: the cache, oldest entry first; the place of the oldest entry of the free ring and how many entries it holds; the owner
names of each allocated buffer; the free ring lost to a BIST of the service SRAM (R58); an INIT in progress (R488); and buffers
that wait for a spill, with the name whose release is last (R493). -/
structure Pool where
  cache : List Nat := []
  head : Nat := 0
  count : Nat := 0
  alloc : Tab (List Nat) := []
  lost : Bool := false
  init : Bool := false
  waits : List (Nat × Nat) := []
  deriving DecidableEq, Repr

/-! ## The process-data service -/

/-- An entry of the slot table (R375): image bits 104:0 and its state. -/
structure PdsSlot where
  img : Nat := 0
  cur : Bool := false
  fresh : Bool := false
  stale : Bool := false
  fault : Bool := false
  miss : Nat := 0
  deriving DecidableEq, Repr

/-- A fan-out group (R377): its image, its state, and the window of its last pass, by the number of its cycle since the start. -/
structure FanOut where
  img : Nat := 0
  miss : Nat := 0
  fault : Bool := false
  held : Bool := false
  lastRun : Nat := 0
  deriving DecidableEq, Repr

/-- A link operation (R379): its image and its state. -/
structure LinkOp where
  img : Nat := 0
  yvalid : Bool := false
  ylast : Int := 0
  deriving DecidableEq, Repr

/-- The latest frame built for an output slot or a gather group (R361), with what a relaunch needs (R363). -/
structure Retained where
  handles : List Nat
  port : Nat
  queue : Nat
  len : Nat
  timed : Bool
  ofs : Nat
  stamp : Nat
  deriving DecidableEq, Repr

/-- A step of a gather pass, at whose end a fan-out pass may suspend it (R368): a link operation, the VIRTUAL slots after the last of
them (R367), a record of the summation frame of a group, and that frame built and inserted. -/
inductive GatherStep where
  | link (i : Nat)
  | virtuals
  | record (g i : Nat)
  | build (g : Nat)
  deriving DecidableEq, Repr

/-- A gather pass that has taken its snapshot (R346): the start and the count of its cycle, D_k, the CUR bits that it snapshot as 1; the
time in picoseconds from which its cost counts, moved on by every suspension, and the CCLK cycles of the steps it has done; the steps left;
the slots its link operations have written and the records of the frame it builds (R368). -/
structure Gather where
  start : Int
  cnt : Nat
  due : Int
  cur : List Nat
  began : Int
  used : Nat
  todo : List GatherStep
  wrote : List Nat := []
  part : List Byte := []
  deriving DecidableEq, Repr

/-- A held pass that is due (R351, R369): when it fell due, its group, the number of its cycle, and that cycle's start and count. -/
structure HeldRun where
  due : Int
  group : Nat
  id : Nat
  start : Int
  cnt : Nat
  deriving DecidableEq, Repr

/-- The registers that apply from the next cycle start (R381), as they apply. -/
structure PdsOper where
  etype : Nat := 0x88B5
  ofs : Nat := 0
  missOut : Nat := 3
  missIn : Nat := 3
  deriving DecidableEq, Repr

structure PdsState where
  slots : Tab PdsSlot := []
  groups : Tab Nat := []
  fanouts : Tab FanOut := []
  templates : Tab Nat := []
  links : Tab LinkOp := []
  oper : PdsOper := {}
  /-- the current cycle: its number since the start of the PDS (from 1), its start, its INV_CYC_CNT; its gather deadline has passed -/
  cycle : Nat := 0
  start : Int := 0
  cnt : Nat := 0
  gathered : Bool := false
  gather : Option Gather := none
  /-- held passes of past cycles that the engine has not run yet (R369) -/
  late : List HeldRun := []
  /-- the time in picoseconds until which a fan-out pass occupies the pass engine (R368) -/
  foEnd : Int := 0
  /-- HOLD has ended and the next cycle start has not come (R56) -/
  paused : Bool := false
  /-- the last gather deadline whose snapshot was taken (R345) -/
  lastDue : Option Int := none
  retSlot : Tab (Option Retained) := []
  retGroup : Tab (Option Retained) := []
  cmd : Option WinCmd := none
  /-- queued WRITEs: table, index and image (R374) -/
  queue : List (Nat × Nat × Nat) := []
  deriving DecidableEq, Repr

/-! ## The DMA engine -/

/-- A channel's work that its registers do not show: the descriptors fetched and not yet completed, whether the first of them is in
progress and how many of its bytes have been moved, the STATUS and INFO that it has come to, the TX frame being read and whether it has
been committed (R478), the RX copy with its list, its buffer and its metadata without HADDR and BHANDLE (R476), the bytes and FLEN of a
copy written whole whose descriptor has not completed (R478), the device bytes that a read-back compares with their address and the
loader's count at the start (R482), and an owed write-back: the descriptor with STATUS and INFO. -/
structure DmaCh where
  descs : List (BitVec 256) := []
  started : Bool := false
  moved : Nat := 0
  result : Option (Nat × Nat) := none
  fid : Option Nat := none
  committed : Bool := false
  copy : Option (Nat × Copy) := none
  handle : Option Nat := none
  info : Nat := 0
  again : Option (List Byte × Nat) := none
  back : Option (Nat × List Byte) := none
  count0 : Nat := 0
  owed : Option (BitVec 256 × Nat × Nat) := none
  deriving DecidableEq, Repr

structure DmaState where
  ch : Tab DmaCh := []
  /-- the turn of each arbiter (read then write, HA then HB): the channel that had the last beat, and its beats in a row (R480) -/
  turn : Tab Nat := []
  beats : Tab Nat := []
  deriving DecidableEq, Repr

end Sys2Proof.Machine
end

