-- ==== Sys2Proof/Machine/TypesSync.lean ====
section
/-! DEFINITION. What a SYNC message of a warm join carries (R425). The spec names the state of each space and leaves the words that
encode it to the device, so a message stands here as the pieces of state it carries (DESIGN CHOICE, log entry 33). -/

namespace Sys2Proof.Machine

/-- A piece of state in a SYNC message, by the SPACE of R425 that carries it. -/
inductive SyncItem where
  /-- space 0: a table slot, both versions with their metadata and STALE flag -/
  | slot (table index : Nat) (v : Slot9)
  /-- space 0: the staging store -/
  | staged (l : List Staged)
  /-- spaces 1 and 4: a register by its BAR0 offset (the epoch registers, the mirrored registers) -/
  | reg (off : BitVec 24) (w : Word)
  /-- space 1: the time of the last commit and the rotating pointers -/
  | epoch (tc : Option Int) (pointers : Tab Nat)
  /-- space 1: the learning queue, which the learning counts include -/
  | learn (l : List LearnReq)
  /-- space 2 -/
  | meter (k : Nat) (v : Meter)
  | filter (k : Nat) (v : Filter)
  | gate (k : Nat) (v : Gate)
  | schedule (k : Nat) (v : Schedule)
  /-- space 3: the PDS slots, groups, fan-out groups, templates and link operations, and bytes of service SRAM outside the pools -/
  | pdsSlot (i : Nat) (v : PdsSlot)
  | pdsGroup (i img : Nat)
  | pdsFanOut (i : Nat) (v : FanOut)
  | pdsTemplate (i img : Nat)
  | pdsLink (i : Nat) (v : LinkOp)
  | sram (addr : Nat) (bytes : List Byte)
  /-- space 4: a port's lists, shaper tokens and tags; the cycle generator and the pins -/
  | egress (p : Nat) (v : EgsPort)
  | cycle (next : Option Int) (base : Int) (pend : Option PendChange)
  | pin (i : Nat) (v : Tio)
  deriving DecidableEq, Repr

end Sys2Proof.Machine
end

