-- ==== Sys2Proof/Machine/TypesTwn.lean ====
section
/-! DEFINITION. The shapes of the twin controller's state (14_twin_lockstep.md). -/

namespace Sys2Proof.Machine

/-- A key of the duplicate table (R415): attachment, source address, sequence number, and the tick of its acceptance. -/
structure DupKey where
  att : Nat
  mac : Nat
  seq : Nat
  at_ : Nat
  deriving DecidableEq, Repr

/-- An order tag of the log (R404): the arrival cycle as a TCC, TS_OFS, PORT, KIND, KH and ID. -/
structure OrderTag where
  arr : Nat
  tsOfs : Nat
  port : Nat
  kind : Nat
  kh : Nat
  id : Nat
  deriving DecidableEq, Repr

/-- A copy that waits on a lagging device for its order tag (R406, R407): its frame, its attachment, KH and ring sequence number
where it has them, whether the device received it itself, its FID once it has been forwarded or where it came over Dvorfaza, and
the TCC at which its window was complete. -/
structure Held where
  fid : Nat
  att : Option Nat
  kh : Nat
  id : Nat
  own : Bool
  fwdId : Option Nat
  at_ : Nat
  deriving DecidableEq, Repr

/-- An attachment input of the ACTIVE device for which no SEEN key has arrived (R408), with the tick of its arrival position and the
words of its window segment. -/
structure SeenWait where
  fid : Nat
  att : Nat
  kh : Nat
  id : Nat
  at_ : Nat
  win : List Nat
  deriving DecidableEq, Repr

/-- An item of a digest (R417). -/
inductive DigItem where
  | input (fid : Nat) (arr dst queue colour drop epoch seq : Nat)
  | pds (bytes : List Byte) (lt : Nat)
  deriving DecidableEq, Repr

/-- An item in the order of its digest: the cycle in which it became fixed, and its place among the items of that cycle (R417). -/
structure FixedItem where
  at_ : Nat
  place : Nat
  item : DigItem
  deriving DecidableEq, Repr

/-- A frame that waits for the Dvorfaza transmitter (R403): its TYPE, the word H, the payload, the acceptance cycle of a CMD (R411), and
the pieces of state of a SYNC message with the cycle in which they were read (R425). -/
structure LinkMsg where
  type : Nat
  h : Nat
  pl : List Nat
  arr : Option Nat := none
  sync : List SyncItem := []
  deriving DecidableEq, Repr

/-- An order tag that waits for its LOG frame (R404): the arrival cycle, the pipeline and port that order the inputs of one cycle (R24),
and the tag without ARR_OFS. -/
structure OutTag where
  arr : Nat
  pipe : Nat
  port : Nat
  low : Nat
  deriving DecidableEq, Repr

/-- A digest of one interval: its number, CRC-64 and the counts it covers (R402). -/
structure Digest where
  num : Nat
  crc : Nat
  inputs : Nat
  frames : Nat
  deriving DecidableEq, Repr

/-- A twin command that waits for its acceptance cycle plus 1,875 (R411, R413). -/
inductive TwinCmd where
  | write (off : Nat) (data : Word) (be : Nat) (host : Nat)
  | mode (target : Nat)
  | commit (epoch k tsec tns crc : Nat)
  deriving DecidableEq, Repr

/-- What aligns the time base of a joining device with its peer's (R399, R405), beside the TD0 that the heartbeat carries: the peer's TCC
at the present moment, as halving the round trip gives it, the seconds, nanoseconds and fractions of its TD1 to TD3 at BASE, and the pair
time T_p as TD0 ns of the ACTIVE device. -/
structure Align where
  tcc : BitVec 48
  td : List (Nat × Nat × Nat)
  tp : Nat
  deriving DecidableEq, Repr

structure TwnState where
  /-- the sequence counter of each attachment: the last number given (R416) -/
  attSeq : Tab Nat := []
  /-- the duplicate table, oldest key first (R415), and the keys that the pair itself sent (R416) -/
  dup : List DupKey := []
  sent : List DupKey := []
  /-- the next LSEQ to send and the next one expected, by TYPE (R401, R403); an expected value of 256 is none yet -/
  lseqOut : Tab Nat := []
  lseqIn : Tab Nat := []
  /-- TCC is the count of CCLK cycles since reset plus this offset, modulo 2^48 (R402, R405) -/
  tccOfs : Int := 0
  /-- the frames and the order tags that wait for the transmitter, and when it is free, in ps of elapsed time (R403) -/
  txq : List LinkMsg := []
  tagsOut : List OutTag := []
  linkFree : Nat := 0
  /-- BASE of the last heartbeat sent and of the last one received, and the peer's TD0 at the latter: SEC, NS and FRAC (R402) -/
  baseOut : Nat := 0
  baseIn : Nat := 0
  hbTd : Nat × Nat × Nat := (0, 0, 0)
  /-- ticks: the last heartbeat sent and received, and the start of PAIRING or SYNC -/
  hbSent : Option Nat := none
  hbRecv : Option Nat := none
  roleFrom : Nat := 0
  /-- an input has been ordered since LOAD (R398) -/
  ordered : Bool := false
  /-- T_p of a cold pair (R399) in TD0 ns of this device's true time -/
  pairAt : Option Int := none
  /-- the cut TCC of a warm join, and the TD0 time it names (R425) -/
  cut : Option Nat := none
  cutTime : Int := 0
  /-- the state transfer of a join has been made, and the messages received that wait for their cycle plus 1,875 (R425) -/
  synced : Bool := false
  syncs : List (Nat × List SyncItem) := []
  /-- the time base lags (R405), and TD0's advances over the last 750 ticks, newest first, in 2^-48 ns -/
  lagging : Bool := false
  advances : List Int := []
  /-- the order log in hand, and the copies that wait for a tag -/
  log : List OrderTag := []
  held : List Held := []
  /-- directed and launched host frames whose tag has been released and which wait to be acted on (R406, R474) -/
  hostRel : List Nat := []
  /-- inputs that wait for a SEEN key, and the keys received that no input has met, with their ticks -/
  seenWait : List SeenWait := []
  seen : List (Nat × Nat × Nat × Nat) := []
  /-- the next FID, the FID of each frame forwarded, the next body segment of each, and the frames being received by FID -/
  fidNext : Nat := 0
  fidOf : Tab Nat := []
  segOf : Tab Nat := []
  fwdIn : Tab Nat := []
  /-- the TWIN copies in transmission, by list (R210) -/
  fwdTx : Tab (Option Copy) := []
  /-- items of the open interval, its number, and the digests of recent intervals, own and the peer's -/
  items : List FixedItem := []
  digNum : Option Nat := none
  own : List Digest := []
  peer : List Digest := []
  okRun : Nat := 0
  /-- the tick at which TWF_O was asserted -/
  twfO : Option Nat := none
  cmds : List (Nat × TwinCmd) := []
  /-- the tick of entry into HOLD, and of the last release -/
  holdAt : Nat := 0
  lastRel : Nat := 0
  deriving DecidableEq, Repr

end Sys2Proof.Machine
end

