-- ==== Sys2Proof/Syntax.lean ====
section
/-! DEFINITION. The commands that the block takes from outside (spec/opcode_table.json), with their operands: what the host, a
link partner, a twin, a pin or a passing of time brings. The data that the environment supplies (received bytes, host memory
contents, outcomes on a lane) stand in the operands. -/

namespace Sys2Proof

/-- The two host ports (R430). -/
inductive HostId where
  | ha | hb
  deriving DecidableEq, Repr

/-- The windows of an endpoint (R431). -/
inductive Bar where
  | bar0 | bar2 | bar4
  deriving DecidableEq, Repr

/-- Network ports 0 to 71. -/
abbrev Port := Fin 72

/-- Access widths of a host (R15); a request of more than 64 bits carries the words after its first 64 bits. -/
inductive Width where
  | w8 | w16 | w32 | w64
  | burst (rest : List Word)
  deriving DecidableEq, Repr

/-- Where a host's request lies: a window and an offset in it (R431). -/
structure HostAddr where
  bar : Bar
  off : BitVec 24
  deriving DecidableEq, Repr

/-- An offset of BAR0. -/
abbrev at0 (off : BitVec 24) : HostAddr := { bar := .bar0, off := off }

/-- What a host writes: the width of its request and its first 64 bits. -/
structure HostData where
  w : Width
  val : BitVec 64
  deriving DecidableEq, Repr

/-- The time that a HEARTBEAT carries (R402): the TCC at which it was sent and TD0 at it. -/
structure BeatTime where
  base : BitVec 48
  sec : BitVec 48
  ns : BitVec 30
  frac : BitVec 16
  deriving DecidableEq, Repr

/-- What a SYNC message carries (R425): the cycle in which its words were read, and the words. -/
structure SyncMsg where
  cycle : BitVec 48
  items : List Machine.SyncItem
  deriving DecidableEq, Repr

/-- A CMD message by its OP and the low bits of its first word (R413): OP 5 is SYNC_CUT with the cut TCC; OP 1 to 4 have commands of their
own, and the other values mean nothing. -/
structure CutCmd where
  op : BitVec 4
  cut : BitVec 48
  deriving DecidableEq, Repr

/-- Bytes that have arrived for the frame which a MAC of a port receives (`pre`: the preemptable one). -/
structure Arrival where
  port : Port
  pre : Bool
  bytes : List Byte
  deriving DecidableEq, Repr

/-- What the PCS reports at a frame's last byte (R84, R103): a code error inside the frame, an odd nibble, and the errored blocks or
code groups. -/
structure RxSignals where
  code : Bool
  oddNibble : Bool
  blocks : Nat
  deriving DecidableEq, Repr

/-- The start delimiter of a received mPacket of a preemptable frame (R91, IEEE 802.3br Clause 99): the frame count, and in a
continuation the fragment count. -/
inductive Smd where
  | start (frame : Fin 4)
  | cont (frame : Fin 4) (count : Fin 4)
  | unknown
  deriving DecidableEq, Repr

/-- A fragment that has been received: its delimiter, its bytes that no CELL_WRITE has brought before, without the mCRC, and whether it
ends its frame (its check sequence is not an mCRC). -/
structure Fragment where
  smd : Smd
  bytes : List Byte
  last : Bool
  sig : RxSignals
  deriving DecidableEq, Repr

/-- A read request that a reader raises in a read slot (R205): the list and the copy's place on it, or a copy in
transmission on a port's MAC. `ecc`: 0 none, 1 single-bit, 2 uncorrectable error met on this read (R230, R231). -/
structure ReadReq where
  list : Nat
  onLane : Bool
  ecc : Fin 3
  deriving DecidableEq, Repr

/-- A double-bit error of a control memory of the switch core that a read meets (R232): the memory (1 link, 2 descriptor, 3 list
state), the index, the list concerned and how many of its copies can still be reached. -/
structure CtlError where
  mem : Fin 4
  index : BitVec 17
  list : Fin 616
  reach : Nat
  deriving DecidableEq, Repr


/-- The outcome of flash discovery (R457): what the Basic Flash Parameter Table says, where the signature and nine DWORDs of it are
there: 1-1-2 fast read is advertised, its dummy cycles, and 4-byte addresses only. -/
structure Sfdp where
  dual : Bool
  dummy : BitVec 4
  four : Bool
  deriving DecidableEq, Repr


/-- The commands of the block: one constructor for each row of spec/opcode_table.json, in the table's order. -/
inductive Instr where
  /-- REGISTER_WRITE (R9). A host write to a register that has no row of its own is judged under R606 and then field by field under its access codes. -/
  | registerWrite (h : HostId) (off : HostAddr) (w : Width) (data : BitVec 64)
  /-- CLEARING_READ (R10). A read of an RC register returns its value and clears it; an event in the same cycle is applied after the clear. -/
  | clearingRead (h : HostId) (off : HostAddr) (w : Width)
  /-- SC_CLEAR_WRITE (R11). A write to an SC register clears the bits written 1 if its SEQ matches, and otherwise sets STALE. -/
  | scClearWrite (h : HostId) (off : BitVec 24) (data : Word)
  /-- PAIR_LO_READ (R8). A read of the _LO register of a 64-bit pair returns the low word and copies the high word into the reading host's snapshot. -/
  | pairLoRead (h : HostId) (off : BitVec 24)
  /-- ALIAS_WRITE (R447). A BAR2 write acts on one register bit according to the access code of the field that holds it. -/
  | aliasWrite (h : HostId) (off : BitVec 24) (data : HostData)
  /-- ACC_ADDR_READ (R445). A read of GLB_ACC_ADDR returns the capture and clears VALID and MULTI, which frees the capture. -/
  | accAddrRead (h : HostId)
  /-- INGRESS_TIMESTAMP (R21). The first SFD symbol of a received frame reaches the lane and Invar stamps the frame with TD0. -/
  | ingressTimestamp (p : Port) (pre : Bool) (sub : Fin 2)
  /-- CELL_WRITE (R205). A write slot matches a group with a complete cell to a bank, and the cell is written, taking a cell from F. -/
  | cellWrite (arrivals : List Arrival)
  /-- OVERSIZE_TRUNCATE (R86). Byte MAXLEN + 1 of a frame is received; the frame is flagged OVERSIZE, no further byte is stored, and a cut-through copy is stomped. -/
  | oversizeTruncate (p : Port) (pre : Bool) (bytes : List Byte)
  /-- LATE_SDU_EXCESS (R274). A frame's received length first exceeds its filter's MAX_SDU after stage 5 has acted; untransmitted copies are removed and the filter counts are moved. -/
  | lateSduExcess (p : Port) (pre : Bool) (bytes : List Byte)
  /-- FRAME_END (R84). A frame's last byte is received, the MAC records its error flags, and the frame becomes DONE or bad. -/
  | frameEnd (p : Port) (pre : Bool) (bytes : List Byte) (sig : RxSignals)
  /-- FRAGMENT_RECEIVE (R91). An IEEE 802.3br fragment is received and checked for its SMD, fragment count and size before reassembly. -/
  | fragmentReceive (p : Port) (frag : Fragment)
  /-- PAUSE_RECEIVED (R98). A received PAUSE frame stops all eight queues for the quanta it names. -/
  | pauseReceived (p : Port) (pre : Bool) (bytes : List Byte)
  /-- PFC_RECEIVED (R98). A received PFC frame stops each queue mapped from its enabled priorities. -/
  | pfcReceived (p : Port) (pre : Bool) (bytes : List Byte)
  /-- PAUSE_TIMER_EXPIRE (R98). A priority's pause timer expires, and a queue resumes when no timer of its priorities still runs. -/
  | pauseTimerExpire (p : Port) (pri : Fin 9)
  /-- FC_XOFF (R95). An occupancy reaches its HI watermark, the pair enters XOFF, and one flow-control frame is queued. -/
  | fcXoff (p : Port) (pair : Fin 9)
  /-- FC_XON (R95). An occupancy falls below the effective LO, the pair returns to XON, and one flow-control frame is queued. -/
  | fcXon (p : Port) (pair : Fin 9)
  /-- FC_FRAME_SEND (R96). A queued PAUSE or PFC frame starts on the express MAC, with its content taken at that moment. -/
  | fcFrameSend (p : Port)
  /-- FC_REFRESH (R97). The REFRESH interval expires while a pair stays in XOFF, and the flow-control frame is repeated. -/
  | fcRefresh (p : Port)
  /-- FC_CONFIG_RELEASE (R97). A change of MODE, a PFC_EN bit cleared or HI written 0 releases pairs to XON and sends them at once. -/
  | fcConfigRelease (h : HostId) (p : Port) (target : Option (Fin 9)) (data : Word)
  /-- PORT_ENABLE (R83). A write takes PORT_CTRL.ENABLE to 1, and the lane powers up and starts link bring-up. -/
  | portEnable (h : HostId) (p : Port) (loopback : Fin 8)
  /-- PORT_DISABLE (R71). A write takes PORT_CTRL.ENABLE to 0, and the lane powers down, cutting off the frames in progress. -/
  | portDisable (h : HostId) (p : Port) (loopback : Fin 8)
  /-- PORT_MODE_WRITE (R73). A write to PORT_MODE is judged as it would stand after the write and refused with CFG_ERR if invalid. -/
  | portModeWrite (h : HostId) (p : Port) (data : Word)
  /-- PCS_RESET (R83). PCS_RESET restarts the PCS, negotiation, training and FEC lock without changing the configuration. -/
  | pcsReset (h : HostId) (p : Port) (loopback : Fin 8)
  /-- AUTONEG_COMPLETE (R76). Clause 73 or Clause 37 negotiation completes and the FEC and pause abilities are resolved. -/
  | autonegComplete (p : Port) (partner : BitVec 6) (sameTech : Bool)
  /-- TRAINING_COMPLETE (R77). Clause 72 training completes. -/
  | trainingComplete (p : Port) (eq : BitVec 18)
  /-- TRAINING_TIMEOUT (R77). Training has not completed within MAX_WAIT; TRAIN_FAIL is set and negotiation restarts. -/
  | trainingTimeout (p : Port)
  /-- LINK_UP (R82). Every condition of the link holds, and LINK goes to 1. -/
  | linkUp (p : Port)
  /-- LINK_DOWN (R82). A link condition fails; frames in progress are ended and flow-control state is cleared. -/
  | linkDown (p : Port) (cause : Fin 3)
  /-- FEC_UNCORRECTABLE (R81). An FEC block or codeword fails correction; the counter increments and the frames it touches get the CODE flag. -/
  | fecUncorrectable (p : Port) (count corrected : Nat)
  /-- VERIFY_TIMEOUT (R89). VERIFY_TIME passes without a respond; verify repeats, or the third attempt makes the status FAILED. -/
  | verifyTimeout (p : Port)
  /-- RESPOND_RECEIVED (R89). A respond mPacket arrives, and VERIFY_STATUS becomes SUCCEEDED. -/
  | respondReceived (p : Port)
  /-- VERIFY_RECEIVED (R89). A verify mPacket is received while MM_EN is 1, and the port answers it with a respond. -/
  | verifyReceived (p : Port)
  /-- PREEMPT (R90). A preemptable frame reaches its first allowed preemption point while preemption is requested, and its fragment ends with an mCRC. -/
  | preempt (p : Port) (sent : Nat)
  /-- WINDOW_COMPLETE (R110). Byte 63 or the last byte of a frame is received, and its window enters the pipeline's window queue at its arrival position. -/
  | windowComplete (p : Port) (pre : Bool) (bytes : List Byte)
  /-- DISPATCH (R112). A pipeline grants the window at the head of its queue to an idle engine and allocates a reorder-buffer entry. -/
  | dispatch
  /-- BR_NEXT (R118). A microword with BR NEXT executes and continues at the next address. -/
  | brNext (e : Fin 48) (upset : Option (Fin 104))
  /-- BR_GOTO (R118). A microword with BR GOTO executes and continues at TGT. -/
  | brGoto (e : Fin 48) (upset : Option (Fin 104))
  /-- BR_IF (R118). A microword with BR IF executes and branches to TGT if its condition holds. -/
  | brIf (e : Fin 48) (upset : Option (Fin 104))
  /-- BR_MWAY (R118). A microword with BR MWAY executes and continues at TGT + X[3:0]. -/
  | brMway (e : Fin 48) (upset : Option (Fin 104))
  /-- BR_CALL (R118). A microword with BR CALL executes, pushes the return address and continues at TGT. -/
  | brCall (e : Fin 48) (upset : Option (Fin 104))
  /-- BR_RET (R118). A microword with BR RET executes and continues at the popped address. -/
  | brRet (e : Fin 48) (upset : Option (Fin 104))
  /-- BR_END (R120). A microword with BR END completes its writes and ends the parse with VALID set. -/
  | brEnd (e : Fin 48) (upset : Option (Fin 104))
  /-- BR_SLOW (R126). A microword with BR SLOW ends the parse and sends the frame to the slow path with its code. -/
  | brSlow (e : Fin 48) (upset : Option (Fin 104))
  /-- UCODE_SCRUB_STEP (R131). Every 256 CCLK the background scrub reads, corrects and rewrites one microword per cluster. -/
  | ucodeScrubStep (upset : Option (Fin 3 × Fin 104))
  /-- PRV_RETIRE (R114). A PRV retires from the reorder buffer to stage 4 once every earlier frame of its pipeline has retired. -/
  | prvRetire (pl : Fin 2)
  /-- UCODE_WINDOW_WRITE (R133). A write through the microcode window in MAINTENANCE rewrites a word, recomputes its check bits and sets MODIFIED. -/
  | ucodeWindowWrite (h : HostId) (c : Fin 3) (w : Fin 4096) (part : Fin 3) (data : Word)
  /-- LOOKUP (R143). Stage 4 builds the destination set, the queue and the CPU cause from the tables in the frame's epoch. -/
  | lookup (pl : Fin 2) (parity : List (Nat × Nat))
  /-- POLICE (R271). Stage 5 applies the stream filter, the stream gate and the meter to a frame. -/
  | police (pl : Fin 2) (upset : Option (Fin 4 × Bool))
  /-- ADMIT (R212). Stage 6 fixes a frame's copies and tests each against its list limit, the shared pool, the headroom and the descriptors. -/
  | admitFrame (pl : Fin 2)
  /-- CT_SELECTABLE (R221). A cut-through copy becomes selectable when its frame's second cell has been written. -/
  | ctSelectable (n : Fin 576)
  /-- CELL_READ (R203). A read slot delivers a cell to its reader, and the cell's REF falls, freeing it at 0. -/
  | cellRead (reqs : List ReadReq) (ctl : Option CtlError)
  /-- AGE_UNIT_STEP (R228). The age unit examines one list head per tick and removes expired copies under DROP_AGE. -/
  | ageUnitStep
  /-- EGRESS_SELECT (R243). At the tick D_sel before the lane is free, the scheduler selects the next frame of a MAC by strict order and the weighted group. -/
  | egressSelect (p : Port)
  /-- TRANSMIT_START (R312). The first preamble symbol of a copy reaches the lane and its departure stamp is fixed. -/
  | transmitStart (p : Port) (pre : Bool) (sub : Fin 2)
  /-- TRANSMIT_END (R103). A copy's last byte leaves the lane, and it is counted as transmitted. -/
  | transmitEnd (p : Port) (pre : Bool)
  /-- GATE_ENTRY_START (R249). A gate control list entry starts and sets the gate states of the port's queues. -/
  | gateEntryStart (p : Port)
  /-- MAC_HOLD_ASSERT (R253). At an entry's start minus HOLD_ADV, or by the launch hold, the MAC hold is asserted and preemption is requested. -/
  | macHoldAssert (p : Port)
  /-- MAC_HOLD_RELEASE (R253). At an entry's start minus REL_ADV the MAC hold is released and a preempted frame resumes. -/
  | macHoldRelease (p : Port)
  /-- GATE_CHANGE_GO (R255). An EGS_GATE_CHG write with GO checks the administrative list and fixes the change time T_x. -/
  | gateChangeGo (h : HostId) (p : Port)
  /-- GATE_CHANGE_CANCEL (R255). An EGS_GATE_CHG write with CANCEL abandons the pending change. -/
  | gateChangeCancel (h : HostId) (p : Port)
  /-- GATE_CHANGE_TIME (R256). TD0 reaches T_x; the banks swap and the operative registers take the sampled values. -/
  | gateChangeTime (p : Port)
  /-- GCL_WRITE (R258). A write to EGS_GCL_D1 stores an entry into the administrative bank, or is refused while a change is pending. -/
  | gclWrite (h : HostId) (p : Port) (data : Word)
  /-- GCL_READ (R268). A read of EGS_GCL_D1 returns an entry and advances IDX when AUTOINC is set. -/
  | gclRead (h : HostId) (p : Port)
  /-- SHAPER_CONFIG_WRITE (R265). A write of a shaper's EN, RATE or BURST sets or holds its token count as the change requires. -/
  | shaperConfigWrite (h : HostId) (p : Port) (q : Fin 8) (burst : Bool) (data : Word)
  /-- CALENDAR_INSERT (R260). A producer inserts a launch entry into a port's calendar, or is refused when it is full or too far ahead. -/
  | calendarInsert (p : Port) (lt : BitVec 40) (queue : Fin 8) (len : BitVec 14) (src : BitVec 5) (handle : BitVec 24)
  /-- LAUNCH_DUE (R261). The armed entry reaches the tick for its launch time and becomes the head of its queue. -/
  | launchDue (p : Port)
  /-- LAUNCH_DISCARD (R262). A launch entry older than its class age limit is discarded and its buffer released. -/
  | launchDiscard (p : Port)
  /-- LEARN_INSERT (R158). The learning engine executes a queued request as an insertion when the update port serves it. -/
  | learnInsert
  /-- AGE_SCAN_STEP (R161). An age-scanner step marks or deletes the dynamic entries of one bucket and one stash slot. -/
  | ageScanStep
  /-- LKP_NOP (R172). An LKP_CMD NOP completes with status OK. -/
  | lkpNop (h : HostId) (w : Fin 2)
  /-- LKP_READ (R172). An LKP_CMD READ returns the entry at INDEX in the version in force or staged. -/
  | lkpRead (h : HostId) (w : Fin 2) (table : Fin 16) (ver : Bool)
  /-- LKP_WRITE (R172). An LKP_CMD WRITE stages an entry at INDEX. -/
  | lkpWrite (h : HostId) (w : Fin 2) (table : Fin 16)
  /-- LKP_INSERT (R172). An LKP_CMD INSERT stages an entry by key and reserves its slot. -/
  | lkpInsert (h : HostId) (w : Fin 2) (table : Fin 16)
  /-- LKP_DELETE (R172). An LKP_CMD DELETE stages the deletion of a key. -/
  | lkpDelete (h : HostId) (w : Fin 2) (table : Fin 16)
  /-- LKP_SEARCH (R172). An LKP_CMD SEARCH finds a key and returns its index and entry. -/
  | lkpSearch (h : HostId) (w : Fin 2) (table : Fin 16) (ver : Bool)
  /-- LKP_FLUSH (R172). An LKP_CMD FLUSH deletes the matching dynamic FDB entries, one bucket per operation. -/
  | lkpFlush (h : HostId) (w : Fin 2) (table : Fin 16)
  /-- LKP_CMD_COMPLETE (R172). A running LKP window command completes, BUSY falls and CMD_DONE is set. -/
  | lkpCmdComplete (w : Fin 2)
  /-- EPOCH_COMMIT (R183). A KEY 0x5A write to EPOCH_COMMIT is accepted, fixes T_c and takes the staged set. -/
  | epochCommit (h : HostId)
  /-- EPOCH_DISCARD (R181). A KEY 0x5A write to EPOCH_DISCARD empties the set being built and releases its reserved slots. -/
  | epochDiscard (h : HostId)
  /-- COMMIT_APPLIED (R186). The last staged entry is written as a pending version, and the commit machine enters PENDING. -/
  | commitApplied
  /-- COMMIT_TIME_REACHED (R186). TD0 reaches T_c; the epoch in force advances and the drain counts shift. -/
  | commitTimeReached
  /-- EPOCH_DRAINED (R187). The previous epoch's count is 0 and T_c + 8 µs has passed; the commit machine returns to READY. -/
  | epochDrained
  /-- TAG_SWEEP_STEP (R191). The tag sweep visits a slot and settles versions whose tags are outside the live set. -/
  | tagSweepStep
  /-- EPOCH_ECC_ERROR (R195). An ECC error in the epoch state is corrected, or as a double-bit error starts a SYSTEM episode. -/
  | epochEccError (double : Bool)
  /-- MODE_REQUEST (R41). A write to GLB_MODE_REQ is judged step by step and accepted, completed at once, or refused. -/
  | modeRequest (h : HostId) (key : Byte) (mode : Fin 8)
  /-- SWITCH_POINT (R45). TD0 reaches T_s and the mode becomes the target of the accepted transition. -/
  | switchPoint
  /-- PEWTER_DRAIN_COMPLETE (R49). The shared cell memory holds no frame; the capture FIFO is emptied, L1 is requested and power gating begins. -/
  | pewterDrainComplete
  /-- PEWTER_DRAIN_DEADLINE (R49). The drain deadline passes and the frames still present are discarded as stuck. -/
  | pewterDrainDeadline
  /-- PEWTER_GATED (R49). Power gating completes after 30 µs and CUR becomes PEWTER. -/
  | pewterGated
  /-- MAINTENANCE_ENTER (R40). The drain of a MAINTENANCE request completes and CUR becomes MAINTENANCE. -/
  | maintenanceEnter
  /-- KEEPALIVE_FRAME (R51). In PEWTER, a frame received on a keep-alive port is checked against the slots and discarded; a match is a wake event. -/
  | keepaliveFrame (p : Port) (bytes : List Byte)
  /-- TIME_WAKE (R52). In PEWTER, TD0 is at or past the armed wake time, which is a wake event. -/
  | timeWake
  /-- WAKE_START (R53). The first wake event starts the wake sequence, restoring power and link bring-up. -/
  | wakeStart
  /-- WAKE_COMPLETE (R53). 45 µs after the wake event, CUR returns to PREV and receive opens. -/
  | wakeComplete
  /-- MNT_SCRUB (R58). A GLB_MNT_CMD SCRUB starts a scrub of one memory. -/
  | mntScrub (h : HostId) (mem : Fin 8)
  /-- MNT_BIST (R58). A GLB_MNT_CMD BIST starts a destructive BIST of one memory and sets BIST_DIRTY. -/
  | mntBist (h : HostId) (mem : Fin 8)
  /-- MNT_ABORT (R58). A GLB_MNT_CMD ABORT stops the running command within 10 µs. -/
  | mntAbort (h : HostId) (mem : Fin 8)
  /-- MNT_COMPLETE (R58). A scrub or BIST ends; BUSY falls, STATUS takes the outcome and MNT_DONE is set. -/
  | mntComplete (corr : BitVec 16) (unc : BitVec 16) (addr : Option (BitVec 24)) (slots : List (Fin 9 × Nat))
  /-- HOLD_END (R421). The switch-over gap ends; the lag is removed, waiting inputs are released and CUR returns to PREV. -/
  | holdEnd
  /-- INV_NOP (R304). An INV_CMD NOP does nothing. -/
  | invNop (h : HostId) (d : Fin 4)
  /-- INV_SET (R304). An INV_CMD SET loads a new time into a domain and toggles GEN. -/
  | invSet (h : HostId) (d : Fin 4)
  /-- INV_STEP (R304). An INV_CMD STEP adds a signed offset to a domain and toggles GEN. -/
  | invStep (h : HostId) (d : Fin 4)
  /-- INV_SLEW (R304). An INV_CMD SLEW starts or replaces a gradual offset on a domain. -/
  | invSlew (h : HostId) (d : Fin 4)
  /-- INV_SLEW_STOP (R304). An INV_CMD SLEW_STOP discards the slew remainder. -/
  | invSlewStop (h : HostId) (d : Fin 4)
  /-- INV_SNAP_ALL (R332). An INV_CMD SNAP_ALL copies all four domains from one tick into their snapshots. -/
  | invSnapAll (h : HostId) (d : Fin 4)
  /-- RATE_LOAD (R306). A write to INV_TDd_RATE_HI loads RATE at the next tick. -/
  | rateLoad (h : HostId) (d : Fin 4) (data : Word)
  /-- SLEW_DONE (R305). Slew steps bring the remainder to 0, SLEWING clears and SLEW_DONE is set. -/
  | slewDone (d : Fin 4)
  /-- TD_NS_READ (R332). A read of INV_TDd_NS returns the live nanoseconds and fills the domain snapshot. -/
  | tdNsRead (h : HostId) (d : Fin 4)
  /-- CYCLE_START (R323). The cycle generator issues a cycle start and increments INV_CYC_CNT. -/
  | cycleStart
  /-- CYCLE_GEN_ENABLE (R324). EN goes from 0 to 1 and the generator starts at the first grid time 2 µs later. -/
  | cycleGenEnable (h : HostId)
  /-- CYCLE_GEN_DISABLE (R324). EN goes from 1 to 0 and the generator stops, unless the PDS needs it. -/
  | cycleGenDisable (h : HostId)
  /-- CYCLE_CHANGE_GO (R325). An INV_CYC_CHG GO checks the new period and base and fixes T_x. -/
  | cycleChangeGo (h : HostId)
  /-- CYCLE_CHANGE_CANCEL (R325). An INV_CYC_CHG CANCEL abandons the pending cycle change. -/
  | cycleChangeCancel (h : HostId)
  /-- CYCLE_CHANGE_TIME (R325). T_x is reached; the new period and base apply and T_x is a cycle start. -/
  | cycleChangeTime
  /-- TIO_ENABLE (R328). A pin's EN goes from 0 to 1, its fields are sampled and checked, and it starts in its mode. -/
  | tioEnable (h : HostId) (i : Fin 16) (cfg : BitVec 11)
  /-- TIO_DISABLE (R327). A pin's EN goes to 0, and it drives IDLE or stops capturing. -/
  | tioDisable (h : HostId) (i : Fin 16) (cfg : BitVec 11)
  /-- TIO_OUTPUT_EDGE (R327). A pin in EDGE, PULSE or CYCLE reaches a scheduled edge time and changes its level. -/
  | tioOutputEdge (i : Fin 16)
  /-- TIO_CAPTURE (R329). An edge on an input pin is captured into its queue, or lost to a full queue. -/
  | tioCapture (i : Fin 16) (rising : Bool) (sub : Fin 2)
  /-- TIO_CAPTURE_READ (R329). A read of INV_TIOi_CAP_NS returns and removes the oldest capture. -/
  | tioCaptureRead (h : HostId) (i : Fin 16)
  /-- FANIN (R343). The PDS takes a drive-input copy and writes its slot data into the buffer chosen. -/
  | fanin
  /-- GATHER_DEADLINE (R346). At the gather deadline the PDS snapshots every input slot and updates STALE, MISS and FAULT. -/
  | gatherDeadline
  /-- GATHER_PASS (R347). The gather pass runs its link operations and builds and inserts the summation frames. -/
  | gatherPass
  /-- FANOUT_PASS (R354). The first controller frame in a group's window is extracted and the per-axis frames are built. -/
  | fanoutPass
  /-- FANOUT_EXTRA (R353). A further controller frame in the same window is extracted without a pass. -/
  | fanoutExtra
  /-- HELD_PASS (R356). No controller frame arrives by FO_DL, and a held pass rebuilds frames from the held setpoints. -/
  | heldPass (g : Fin 64)
  /-- PDS_NOP (R373). A PDS_CMD NOP completes. -/
  | pdsNop (h : HostId) (table : Fin 8)
  /-- PDS_READ (R373). A PDS_CMD READ returns an entry as applied. -/
  | pdsRead (h : HostId) (table : Fin 8)
  /-- PDS_WRITE (R374). A PDS_CMD WRITE checks an entry and applies it, or queues it while the PDS runs. -/
  | pdsWrite (h : HostId) (table : Fin 8)
  /-- ADAPT_STEP (R387). At an adaptation boundary the histograms are snapshotted and weights and windows are retuned. -/
  | adaptStep
  /-- ADAPT_WINDOW_APPLY (R389). At the first gate cycle start after a step, the GROW and GIVE intervals change. -/
  | adaptWindowApply (p : Port)
  /-- ADAPT_RESTORE_INTERVALS (R391). At the first gate cycle start after leaving ADAPTIVE, the recorded intervals are restored. -/
  | adaptRestoreIntervals (p : Port)
  /-- TWIN_ENABLE (R398). EN is 1 in SCHEDULED or SERVICE and the twin controller enters PAIRING. -/
  | twinEnable
  /-- TWIN_DISABLE (R398). TWN_CTRL.EN is written 0; the device sends FAIL(DISABLED) and goes OFF. -/
  | twinDisable (h : HostId) (data : Word)
  /-- HEARTBEAT_SEND (R402). Every 256 ns a device sends a HEARTBEAT with its role, mode, time base and image key. -/
  | heartbeatSend
  /-- HEARTBEAT_RECEIVE (R398). A peer heartbeat is received and may drive pairing, joining or a dual-active resolution. -/
  | heartbeatReceive (lseq : Byte) (peerRole : Fin 8) (base : BeatTime) (key : BitVec 32) (align : Option Machine.Align)
  /-- PAIR_TIMEOUT (R398). No peer heartbeat for PAIR_WAIT ms, and the pairing device becomes SOLO. -/
  | pairTimeout
  /-- SYNC_CUT (R425). A SYNC_CUT command arrives; the joining device aligns its time base and enters SHADOW. -/
  | syncCut (a : Machine.Align)
  /-- SYNC_WAIT_TIMEOUT (R398). No SYNC_CUT within PAIR_WAIT ms, and the join is abandoned. -/
  | syncWaitTimeout
  /-- SYNC_STATE_COPY (R425). A SYNC message of state words is received and applied 1,875 CCLK after its read cycle. -/
  | syncStateCopy (lseq : Byte) (items : SyncMsg)
  /-- JOIN_COMPLETE (R425). The end conditions of a warm join are met; the joiner becomes STANDBY and its peer ACTIVE. -/
  | joinComplete
  /-- LOG_RECEIVE (R404). The STANDBY receives a LOG frame of order tags. -/
  | logReceive (lseq : Byte) (tags : List (BitVec 64))
  /-- TAG_RELEASE (R406). A logged input is released into the pipeline 1,875 CCLK after its arrival cycle. -/
  | tagRelease
  /-- UNMATCHED_DISCARD (R407). An attachment copy that no tag matched within 8 µs is discarded. -/
  | unmatchedDiscard
  /-- SEEN_RECEIVE (R408). The ACTIVE device receives SEEN keys from the STANDBY. -/
  | seenReceive (lseq : Byte) (keys : List (BitVec 32))
  /-- SEEN_WAIT_EXPIRE (R408). SEEN_WAIT expires without a key or tag, and the input is forwarded over Dvorfaza. -/
  | seenWaitExpire
  /-- FWD_RECEIVE (R409). A forwarded-input segment is received and written through write group 17. -/
  | fwdReceive (lseq : Byte) (fid : BitVec 16) (win last : Bool) (words : List (BitVec 64))
  /-- DIGEST_INTERVAL_END (R417). An interval ends and the device sends its digest. -/
  | digestIntervalEnd
  /-- DIGEST_RECEIVE (R418). A peer digest is received and compared; a mismatch is a lockstep divergence. -/
  | digestReceive (lseq : Byte) (num : BitVec 32) (crc : BitVec 64) (inputs frames : BitVec 32)
  /-- TWIN_CMD_WRITE (R411). A CMD with OP 1 carries a mirrored register write to the STANDBY. -/
  | twinCmdWrite (lseq : Byte) (arrOfs : BitVec 10) (off : BitVec 24) (data : Word) (be : BitVec 4) (host : HostId)
  /-- MIRRORED_WRITE_APPLY (R411). The STANDBY applies a mirrored write 1,875 CCLK after its acceptance cycle. -/
  | mirroredWriteApply
  /-- TWIN_CMD_MODE (R413). A CMD with OP 2 carries a mode request to the STANDBY. -/
  | twinCmdMode (lseq : Byte) (arrOfs : BitVec 10) (target : Fin 8)
  /-- TWIN_CMD_COMMIT (R413). A CMD with OP 3 carries an epoch commit, which the STANDBY checks and applies. -/
  | twinCmdCommit (lseq : Byte) (arrOfs : BitVec 10) (epoch : BitVec 16) (k : BitVec 13) (tsec : BitVec 32) (tns : BitVec 30) (crc : BitVec 64)
  /-- TWIN_CMD_RESET (R413). A CMD with OP 4 tells the STANDBY to reset. -/
  | twinCmdReset (lseq : Byte) (cause : Byte)
  /-- TWIN_CMD_SYNC_CUT (R413). A CMD with OP 5 carries the cut TCC of a warm join; one with an OP that no CMD has is counted. -/
  | twinCmdSyncCut (lseq : Byte) (cut : CutCmd)
  /-- LINK_FRAME_ERROR (R402). A Dvorfaza frame with a bad CRC, type or length is discarded and counted. -/
  | linkFrameError
  /-- FAIL_RECEIVE (R419). A FAIL message from the peer is taken as peer failure, or as divergence for DIVERGED. -/
  | failReceive (lseq : Byte) (cause : Byte)
  /-- HB_TIMEOUT (R419). No valid heartbeat for 768 ns, and the peer is declared failed. -/
  | hbTimeout
  /-- DVORFAZA_LINK_DOWN (R419). TWN_STAT.LINK falls, and the peer is declared failed. -/
  | dvorfazaLinkDown
  /-- DVORFAZA_LINK_UP (R400). Both Dvorfaza lanes reach block lock and alignment. -/
  | dvorfazaLinkUp
  /-- TWF_I_ASSERT (R420). TWF_I is asserted for 50 ns with FENCE_EN set, and transmission stops with a CORE episode. -/
  | twfIAssert (sent : List (Port × Nat))
  /-- TWF_O_RELEASE (R420). TWF_O is released 10 µs after it was asserted. -/
  | twfORelease
  /-- RESET_PEER (R428). A TWN_CMD RESET_PEER sends RESET to the peer. -/
  | resetPeer (h : HostId)
  /-- SWAP (R428). A TWN_CMD SWAP sends FAIL(SWAP) and takes a CORE episode so that the peer promotes. -/
  | swap (h : HostId)
  /-- SEM_CLAIM_READ (R438). A read of GLB_SEMn claims a free semaphore, or reports its owner. -/
  | semClaimRead (h : HostId) (n : Fin 64)
  /-- SEM_WRITE (R439). A write to GLB_SEMn sets the owner's tag or releases the semaphore. -/
  | semWrite (h : HostId) (n : Fin 64) (data : Word)
  /-- HOST_LINK_RESET (R433). FLR, hot reset or link down of one host clears its port state, releases its semaphores and stops its DMA channels. -/
  | hostLinkReset (h : HostId) (cause : Fin 3)
  /-- HOST_D3HOT (R433). A host enters D3hot; messages are suppressed and its DMA channels pause. -/
  | hostD3hot (h : HostId)
  /-- PERST_ASSERT (R583). A low on HA_PERST_N or HB_PERST_N takes that endpoint's link down. -/
  | perstAssert (h : HostId)
  /-- MSIX_MESSAGE (R452). A pending, armed vector whose hold-off has run out sends its message or sets its PBA bit. -/
  | msixMessage (h : HostId) (v : Fin 64) (enabled masked : Bool)
  /-- MSIX_UNMASK (R452). Unmasking a vector whose PBA bit is set sends its message. -/
  | msixUnmask (h : HostId) (v : Fin 64) (enabled masked : Bool)
  /-- DOORBELL (R453). A write to GLB_DOORBELL sets doorbells of the other host. -/
  | doorbell (h : HostId) (ring : Byte)
  /-- SPI_READ (R458). An MGT_SPI_CMD with DIR 0 reads LEN bytes from the flash into MGT_SPI_BUF. -/
  | spiRead (h : HostId) (len : BitVec 9) (dummy : BitVec 5) (abytes : Fin 8) (op : Byte)
  /-- SPI_WRITE (R458). An MGT_SPI_CMD with DIR 1 sends LEN bytes from MGT_SPI_BUF to the flash. -/
  | spiWrite (h : HostId) (len : BitVec 9) (dummy : BitVec 5) (abytes : Fin 8) (op : Byte)
  /-- SPI_DONE (R458). An SPI command completes, BUSY falls and SPI_DONE is set. -/
  | spiDone (data : List Byte)
  /-- MDIO_ADDRESS (R460). A Clause 45 address frame is sent on an MDIO bus. -/
  | mdioAddress (h : HostId) (bus : Fin 4) (phy : Fin 32) (dev : Fin 32) (data : BitVec 16)
  /-- MDIO_WRITE (R460). An MDIO write frame is sent. -/
  | mdioWrite (h : HostId) (bus : Fin 4) (c45 : Bool) (phy : Fin 32) (reg : Fin 32) (data : BitVec 16)
  /-- MDIO_READ (R460). An MDIO read frame is sent and the data sampled. -/
  | mdioRead (h : HostId) (bus : Fin 4) (c45 : Bool) (phy : Fin 32) (reg : Fin 32)
  /-- MDIO_READ_INCREMENT (R460). A Clause 45 read-increment frame is sent. -/
  | mdioReadIncrement (h : HostId) (bus : Fin 4) (phy : Fin 32) (dev : Fin 32)
  /-- MDIO_DONE (R460). An MDIO command completes and MDIO_DONE is set. -/
  | mdioDone (data : BitVec 16) (ta : Bool)
  /-- I2C_WRITE (R459). An I2C write transaction sets the pointer and may write MGT_I2C_MBOX_IN. -/
  | i2cWrite (data : List Byte)
  /-- I2C_READ (R459). An I2C read transaction returns the register at the pointer and advances it. -/
  | i2cRead (words : Nat)
  /-- WDT_CFG_WRITE (R462). The first write of MGT_WDT_CFG arms or locks off the watchdog. -/
  | wdtCfgWrite (h : HostId) (en : Bool) (warn : Byte) (timeout : BitVec 16)
  /-- WDT_KICK (R462). A KEY 0x5A write to MGT_WDT_KICK restarts the watchdog count. -/
  | wdtKick (h : HostId) (key : Byte)
  /-- WDT_WARN (R462). The watchdog count reaches WARN and WDT_WARN is set. -/
  | wdtWarn
  /-- WDT_EXPIRE (R462). The watchdog count reaches 0 and asserts the WDT reset source. -/
  | wdtExpire
  /-- TEMP_ALARM (R603). The junction temperature reaches ALARM and TEMP_HI is set. -/
  | tempAlarm (tj : BitVec 12)
  /-- DMA_START (R478). A START command moves a channel to RUN, issuing an owed write-back first. -/
  | dmaStart (h : HostId) (n : Fin 16)
  /-- DMA_PAUSE (R483). A PAUSE command stops new reads and moves the channel to PAUSING. -/
  | dmaPause (h : HostId) (n : Fin 16)
  /-- DMA_PAUSED (R483). A pausing channel has no read outstanding and every write acknowledged, and it enters PAUSED. -/
  | dmaPaused (n : Fin 16)
  /-- DMA_RESUME (R478). A RESUME command continues the channel from HEAD at CUR. -/
  | dmaResume (h : HostId) (n : Fin 16)
  /-- DMA_STOP (R478). A STOP command returns the channel to IDLE. -/
  | dmaStop (h : HostId) (n : Fin 16)
  /-- DMA_TAIL_WRITE (R467). A write to DMA_CHn_TAIL posts descriptors to the channel. -/
  | dmaTailWrite (h : HostId) (n : Fin 16) (tail : BitVec 16)
  /-- DESCRIPTOR_FETCH (R467). A channel reads up to four owned descriptors from its ring. -/
  | descriptorFetch (n : Fin 16) (descs : List (BitVec 256))
  /-- H2D (R470). A COPY descriptor of type H2D copies host memory into a device space. -/
  | h2d (n : Fin 16) (data : List Byte)
  /-- D2H (R470). A COPY descriptor of type D2H copies a device space into host memory. -/
  | d2h (n : Fin 16) (len : Nat) (data : List Byte)
  /-- TX_SW (R474). A TX_SW descriptor reads a frame and enters it into ingress pipeline 0 as port 72. -/
  | txSw (n : Fin 16) (data : List Byte)
  /-- TX_DIR (R474). A TX_DIR descriptor reads a frame and offers it to admission for a given port and queue. -/
  | txDir (n : Fin 16) (data : List Byte)
  /-- TX_LAUNCH (R474). A TX_LAUNCH descriptor reads a frame into a BPM buffer and inserts it into a launch calendar. -/
  | txLaunch (n : Fin 16) (data : List Byte)
  /-- RX (R476). An RX descriptor receives the head copy of a CPU queue into a host buffer and writes its metadata back. -/
  | rx (n : Fin 16) (len : Nat)
  /-- DESCRIPTOR_COMPLETE (R481). All of a descriptor's writes are acknowledged; it is verified if required, written back and HEAD advances. -/
  | descriptorComplete (n : Fin 16) (same : Bool)
  /-- BEAT_GRANT (R480). A host port's arbiter grants one 64-byte beat to the highest-priority ready channel. -/
  | beatGrant (h : HostId) (write : Bool)
  /-- BUS_ERROR (R484). A DMA read gets an error completion or none within 10 ms, and every active channel stops. -/
  | busError (h : HostId) (kind : Fin 4) (fetch : Bool) (addr : BitVec 64)
  /-- BPM_ALLOC (R490). A BPM_CMD ALLOC takes a buffer from the smallest suitable pool and names its owners. -/
  | bpmAlloc (h : HostId)
  /-- BPM_RELEASE (R491). A BPM_CMD RELEASE removes the requester's name and frees the buffer when no name remains. -/
  | bpmRelease (h : HostId)
  /-- BPM_ADD (R491). A BPM_CMD ADD adds an owner name to an allocated buffer. -/
  | bpmAdd (h : HostId)
  /-- BPM_QUERY (R494). A BPM_CMD QUERY returns a buffer's owner list. -/
  | bpmQuery (h : HostId)
  /-- POOL_INIT (R488). An INIT write starts DMA14 writing every handle of a host-memory pool into its free ring. -/
  | poolInit (h : HostId) (k : Fin 8)
  /-- POOL_READY (R488). The last free-ring write is acknowledged, the pool's EN becomes 1 and READY is set. -/
  | poolReady (k : Fin 8)
  /-- CACHE_REFILL (R489). A pool cache below 8 entries is refilled with 16 handles from its ring. -/
  | cacheRefill (k : Fin 8) (data : List Word)
  /-- CACHE_SPILL (R489). A pool cache above 24 entries spills 16 handles to its ring. -/
  | cacheSpill (k : Fin 8)
  /-- FIFO_TAKE (R505). The FIFO writer takes a selectable mirror copy, fixes its record length and reserves words. -/
  | fifoTake (bad : Option (Fin 125))
  /-- FIFO_RECORD_COMPLETE (R512). A record's last trailer word is written; FRAME is set and CFF_AVAIL increments. -/
  | fifoRecordComplete
  /-- FIFO_WINDOW_READ (R510). A read of the window's low word returns the word at R and advances R. -/
  | fifoWindowRead (h : HostId) (flip : BitVec 48)
  /-- CFF_MARK (R508). A KEY 0x5A write to CFF_MARK sets the mark at R. -/
  | cffMark (h : HostId)
  /-- CFF_REWIND (R508). A KEY 0x5A write to CFF_REWIND moves R back to the mark. -/
  | cffRewind (h : HostId)
  /-- CFF_RELEASE (R508). A KEY 0x5A write to CFF_RELEASE frees the records before the read point or mark. -/
  | cffRelease (h : HostId)
  /-- CFF_SESSION_ENABLE (R516). A session's EN is set, or refused when DIR and DROP_EN are both 1. -/
  | cffSessionEnable (h : HostId) (k : Fin 16) (data : Word)
  /-- CLEAR_GROUPS (R522). A PMC_CMD CLEAR_GROUPS clears every counter of the masked groups. -/
  | clearGroups (h : HostId) (mask : Byte)
  /-- CLEAR_LEDGER (R522). A PMC_CMD CLEAR_LEDGER clears every ledger counter. -/
  | clearLedger (h : HostId) (mask : Byte)
  /-- CLEAR_ALL (R522). A PMC_CMD CLEAR_ALL clears the masked groups and the ledger. -/
  | clearAll (h : HostId) (mask : Byte)
  /-- GROUP_ENABLE_WRITE (R519). A write to PMC_GRP_EN starts or stops groups from the next tick. -/
  | groupEnableWrite (h : HostId) (en : Byte)
  /-- COUNTER_WRAP (R517). An event counter wraps from 2^48 − 1 to 0 and sets its OVF bit. -/
  | counterWrap (n : Fin 512)
  /-- DUMP_ENABLE (R526). PMC_DUMP_CFG.EN goes to 1 and the first snapshot is set 2 µs later on the grid. -/
  | dumpEnable (h : HostId) (ports ledger : Bool) (sel : Byte)
  /-- DUMP_SNAPSHOT (R526). At a snapshot time the counters are copied into the snapshot and DMA15 starts the dump. -/
  | dumpSnapshot
  /-- DUMP_DONE (R526). DMA15's dump descriptor completes and DUMP_DONE is set. -/
  | dumpDone
  /-- DISCOVER (R544). Flash discovery completes, or the BOOT_HOST strap sends the loader to WAIT_HOST. -/
  | discover (sfdp : Option Sfdp)
  /-- FLASH_LOAD_END (R546). A flash slot read ends, either failing or passing every check and moving to VERIFY. -/
  | flashLoadEnd (image : Option (List Byte))
  /-- HOST_LOAD (R545). An IMG_CTRL HOST_LOAD in WAIT_HOST gives the writing host the load. -/
  | hostLoad (h : HostId)
  /-- ABORT (R545). An IMG_CTRL ABORT from the owning host ends the attempt with ABORTED. -/
  | abort (h : HostId)
  /-- IMAGE_BYTES (R545). SPACE 2 bytes reach the loader and are accepted, hashed and applied, or discarded. -/
  | imageBytes
  /-- HOST_LOAD_TIMEOUT (R544). No byte arrives for 1 s in HOST, and the attempt fails with SOURCE. -/
  | hostLoadTimeout
  /-- VERIFY_END (R543). Signature verification ends, passing to RELEASE or failing to CLEAR. -/
  | verifyEnd
  /-- CLEAR_END (R544). Everything the failed attempt wrote is back at reset, LOAD_FAIL is set and the next source is tried. -/
  | clearEnd
  /-- RELEASE_END (R544). RELEASE completes; the loaded values apply, LOAD_DONE is set and the forced transition is accepted. -/
  | releaseEnd
  /-- FUSE_PROGRAM (R542). An IMG_FUSE_CMD write programs the 1 bits of a fuse word, or is refused. -/
  | fuseProgram (h : HostId) (word : Fin 64) (vpp : Bool)
  /-- FUSE_DONE (R542). Fuse programming and its read-back complete with OK or VERIFY. -/
  | fuseDone (readBack : Word)
  /-- PATCH_EN_WRITE (R550). The first write of IMG_CFG.PATCH_EN enables or locks off patches until the next clearing reset. -/
  | patchEnWrite (h : HostId) (en : Bool)
  /-- PATCH (R551). An IMG_PATCH_CMD applies one patch record and logs it, or refuses it with a status. -/
  | patch (h : HostId) (nwords : Fin 32)
  /-- SW_SYS_RESET (R580). An RST_CTRL write with OP 1 pulses the SW_SYS source. -/
  | swSysReset (h : HostId)
  /-- SW_CORE_RESET (R580). An RST_CTRL write with OP 2 pulses the SW_CORE source. -/
  | swCoreReset (h : HostId)
  /-- RESET_SOURCE_ASSERT (R559). A reset source asserts and starts or deepens an episode, clearing the stretch timer. -/
  | resetSourceAssert (src : Fin 11)
  /-- RESET_SOURCE_RELEASE (R559). The last asserted source releases and the stretch timer starts. -/
  | resetSourceRelease (src : Fin 11)
  /-- POR (R585). A supply dips below its threshold for 1 µs or more, or the root PLL is not locked, and POR asserts. -/
  | por
  /-- PLL_LOSS_OF_LOCK (R592). REFCLK is absent or far off frequency, and the root PLL declares loss of lock. -/
  | pllLossOfLock
  /-- RST_N_LOW (R564). Three consecutive low samples of RST_N assert the PIN source. -/
  | rstNLow
  /-- RST_N_HIGH (R564). Three consecutive high samples of RST_N release the PIN source. -/
  | rstNHigh
  /-- MEMORY_INIT_COMPLETE (R562). Memory initialisation of the episode's reach completes. -/
  | memoryInitComplete
  /-- STRETCH_EXPIRE (R559). The stretch timer expires with initialisation complete; RST_N is released into SETTLE, or the episode ends. -/
  | stretchExpire (straps : BitVec 4)
  /-- SETTLE_END (R559). After the 2 µs mask, RST_N reads high and the episode ends, or reads low and PIN asserts. -/
  | settleEnd (high : Bool) (straps : BitVec 4)
  /-- MODE_ECC_ERROR (R575). An ECC error in the mode state is corrected, or as a double-bit error asserts the MODE source. -/
  | modeEccError (double : Bool)
  /-- RSTSTATE_PARITY (R576). A parity error in the reset controller's state asserts RSTSTATE and rebuilds the controller's state. -/
  | rststateParity
  /-- POL_NOP (R286). A POL_CMD NOP completes with status OK. -/
  | polNop (h : HostId) (table : Fin 4) (ver : Bool)
  /-- POL_READ (R286). A POL_CMD READ loads an entry image, with its counters and state, into POL_DATA at completion. -/
  | polRead (h : HostId) (table : Fin 4) (ver : Bool)
  /-- POL_WRITE (R277). A POL_CMD WRITE replaces a meter, filter, gate or schedule entry, resetting buckets as the change requires, or is refused. -/
  | polWrite (h : HostId) (table : Fin 4) (ver : Bool)
  /-- POL_UNBLOCK (R282). A POL_CMD UNBLOCK clears BLOCKED of a filter or CLOSED_INV of a gate. -/
  | polUnblock (h : HostId) (table : Fin 4) (ver : Bool)
  /-- POL_CLRCNT (R279). A POL_CMD CLRCNT clears the six counters of a filter. -/
  | polClrcnt (h : HostId) (table : Fin 4) (ver : Bool)
  /-- POL_CMD_COMPLETE (R286). A running POL window command completes, BUSY falls and POL_EVT.CMD_DONE is set. -/
  | polCmdComplete (upset : Option Bool)
  /-- PDS_CMD_COMPLETE (R373). A running PDS window command completes, BUSY falls and PDS_EVT.CMD_DONE is set. -/
  | pdsCmdComplete
  /-- SCHEDULE_CHANGE_GO (R281). A POL_SGSs_CHG write with GO checks a stream gate schedule's administrative list and fixes its change time T_x. -/
  | scheduleChangeGo (h : HostId) (k : Fin 16)
  /-- SCHEDULE_CHANGE_CANCEL (R281). A POL_SGSs_CHG write with CANCEL abandons a schedule's pending change. -/
  | scheduleChangeCancel (h : HostId) (k : Fin 16)
  /-- SCHEDULE_CHANGE_TIME (R281). TD0 reaches a schedule's T_x; its banks swap, the operative registers take the sampled values and POL_EVT.CHG_DONE is set. -/
  | scheduleChangeTime (k : Fin 16)
  /-- TIME_DOMAIN_TICK (R301). At every TCLK tick each running time domain advances by 2 ns plus RATE and any slew step, carrying NS into SEC. -/
  | timeDomainTick
  /-- SHAPER_TOKEN_ACCRUAL (R264). At every TCLK tick each enabled shaper gains RATE tokens up to BURST, which can make its queue eligible again. -/
  | shaperTokenAccrual
  /-- COUNTER_TICK (R521). At every TCLK tick each event counter of a running group adds the events or occupancy that its selector and mode give. -/
  | counterTick (pdsBusy : Fin 4)
  /-- LEDGER_TICK (R524). At every TCLK tick each port's lane and each enabled cluster's engines are booked to one ledger account. -/
  | ledgerTick
  /-- CONTROL_WORD_RECEIVED (R75). A new SGMII or USXGMII control word from the PHY sets the running speed, or holds the link down for half duplex. -/
  | controlWordReceived (p : Port) (word : BitVec 16)
  /-- TAP_TCK_EDGE (R461). A rising TCK edge advances the IEEE 1149.1 TAP controller, shifting data and applying instructions such as EXTEST or HIGHZ. -/
  | tapTckEdge (tms tdi trst : Bool) (cells : List Bool)
  deriving DecidableEq, Repr

end Sys2Proof
end

