-- ==== Sys2Proof/Decode.lean ====
section
/-! DEFINITION. The words of the opcode table. No row of spec/opcode_table.json gives bits: the block takes commands, not
encoded instructions, so no word spells a command. -/

namespace Sys2Proof

/-- The command that the `nbits` bits of `w` spell. The table numbers no bits for any row, so a word spells none. -/
def decodeTableWord (_nbits _w : Nat) : Option Instr := none

end Sys2Proof
end

