-- ==== Sys2Proof/Config.lean ====
section
/-! DEFINITION. What the spec leaves open. Every constant of this file is opaque: nothing can evaluate it, so a claim
about it holds whatever the hardware puts there. -/

namespace Sys2Proof

/-- UNVERIFIED free value: the `n`-th value the machine draws where the spec says that a value is undefined or does not
state it. The width is the caller's. The counter is State.freeCtr (log entry 1). Safe: a claim about a drawn value holds for every
value of it. -/
opaque Config.freeValue (w n : Nat) : BitVec w

/-- UNVERIFIED free value: what the RSVD bits of a register hold after a write in STRICT decode has changed them: some are test controls
and some are not, and R17 does not say which (log entry 17). `key` names the register, `old` is what the bits held and `new` what was written.
Safe: a claim about such bits holds whatever they take. -/
opaque Config.rsvdTaken (key : Nat) (old new : BitVec 32) : BitVec 32

/-- UNVERIFIED free value: the coefficients with which Clause 72 training starts: the preset (false) or the initialize setting (true)
of PORT_KR_CFG.INIT_MODE (R77), which the spec names and does not give. Safe: a claim about them holds for all coefficients. -/
opaque Config.trainFrom (initSetting : Bool) : BitVec 18

/-- UNVERIFIED free value: whether a microword that breaks a rule of R119 and also reads its window at 64 or beyond stops with
SLOW_PARSE_DEPTH (true) or with SLOW_BAD_UWORD: R119 and R121 do not say which of the two codes it gets (log entry 4). Safe: a claim holds
for both codes. -/
opaque Config.depthWins (word : BitVec 96) : Bool

/-- UNVERIFIED free value: the CCLK cycles that a pass of the process-data service had waited for cell reads and for the service SRAM when
a fan-out pass falls due: the `n`-th such wait. R368 leaves these waits out of its costs and states no number (log entry 51). Safe: a claim
holds for all waits. -/
opaque Config.passWait (n : Nat) : Nat

end Sys2Proof
end

