-- ==== Sys2Proof/Machine/RegSpec.lean ====
section
/-! DEFINITION. How a register is described: its BAR0 offset, the strides of its indices, whether each host has its own
copy, and its fields with their access codes and reset values (R6, R7, R9, R435). -/

namespace Sys2Proof.Machine

/-- The access codes of R9. -/
inductive Acc where
  | rw | ro | wo | rc | sc | rwe | wol | pw
  deriving DecidableEq, Repr

/-- One field of a register, bits `hi`:`lo`. `reset` is its value after a POWER_ON reset; `img` says that the
configuration image gives it, so it reads 0 until the image is applied (R7). -/
structure FieldSpec where
  name : String
  hi : Nat
  lo : Nat
  acc : Acc
  reset : Nat
  img : Bool
  deriving DecidableEq, Repr

/-- One register, or one array of registers with up to two indices (`dims`: count and stride of each index). -/
structure RegSpec where
  name : String
  base : Nat
  dims : List (Nat × Nat)
  /-- R435: held once for each host -/
  hostPrivate : Bool
  fields : List FieldSpec
  deriving DecidableEq, Repr

/-- A field named together with its register. -/
structure Fld where
  reg : RegSpec
  hi : Nat
  lo : Nat
  deriving DecidableEq, Repr

/-- A row of a field table (R6). -/
def fld (name : String) (hi lo : Nat) (acc : Acc) (reset : Nat) (img : Bool := false) : FieldSpec :=
  ⟨name, hi, lo, acc, reset, img⟩

/-- Width of a field in bits. -/
def FieldSpec.width (f : FieldSpec) : Nat := f.hi + 1 - f.lo

/-- Width of a field in bits. -/
def Fld.width (f : Fld) : Nat := f.hi + 1 - f.lo

/-- The mask of bits `hi`:`lo`. -/
def bitMask (hi lo : Nat) : Word := BitVec.ofNat 32 ((2 ^ (hi + 1 - lo) - 1) <<< lo)

/-- The mask of a field in its word. -/
def FieldSpec.mask (f : FieldSpec) : Word := bitMask f.hi f.lo

/-- The value of a register after a POWER_ON reset (R7): every field at its Reset value. -/
def RegSpec.resetWord (r : RegSpec) : Word :=
  r.fields.foldl (fun w f => w ||| BitVec.ofNat 32 (f.reset <<< f.lo)) 0

/-- The offset of a register of an array, by its indices, in the model's key space: the copies of HB's host-private
registers stand 0x100_0000 above HA's, beyond the end of BAR0 (R435; an internal key, no address of the spec). -/
def RegSpec.off (r : RegSpec) (i j : Nat) : Nat :=
  match r.dims with
  | [] => r.base + i * (if r.hostPrivate then 0x1000000 else 0)
  | [(_, s)] => r.base + i * s + j * (if r.hostPrivate then 0x1000000 else 0)
  | (_, s) :: (_, t) :: _ => r.base + i * s + j * t

/-- The indices at which a BAR0 offset names a register of this array, if it names one. -/
def RegSpec.index (r : RegSpec) (a : Nat) : Option (Nat × Nat) :=
  match r.dims with
  | [] => if a = r.base then some (0, 0) else none
  | [(n, s)] =>
    let d := a - r.base
    if r.base ≤ a ∧ d % s = 0 ∧ d / s < n then some (d / s, 0) else none
  | (n, s) :: (m, t) :: _ =>
    let d := a - r.base
    if r.base ≤ a ∧ d / s < n ∧ d % s % t = 0 ∧ d % s / t < m then some (d / s, d % s / t) else none

/-- Bits `hi`:`lo` of a word. -/
def getBits (w : Word) (hi lo : Nat) : Nat := (w.toNat >>> lo) % 2 ^ (hi + 1 - lo)

/-- A word with bits `hi`:`lo` replaced by the low bits of `v`. -/
def setBits (w : Word) (hi lo v : Nat) : Word :=
  (w &&& ~~~ bitMask hi lo) ||| BitVec.ofNat 32 ((v % 2 ^ (hi + 1 - lo)) <<< lo)

end Sys2Proof.Machine
end

