-- ==== Sys2Proof/Machine/RegsCff.lean ====
section
/-! DEFINITION. The registers of the Cff extent: name, BAR0 offset, index strides and fields (access code, value after
POWER_ON reset; `img` marks a field the configuration image gives, which reads 0 until then, R7). From 17_capture_fifo.md R510; 17_capture_fifo.md R516, in the spec's own field tables. -/

namespace Sys2Proof.Machine

/-- CFF_CFG (17_capture_fifo.md R516). -/
def R.CFF_CFG : RegSpec :=
  ⟨"CFF_CFG", 0x70000, [], false,
   [fld "EARLY" 11 0 .rw 0x40]⟩
def F.CFF_CFG_EARLY : Fld := ⟨R.CFF_CFG, 11, 0⟩

/-- CFF_STAT (17_capture_fifo.md R516). -/
def R.CFF_STAT : RegSpec :=
  ⟨"CFF_STAT", 0x70004, [], false,
   [fld "MARK_VALID" 31 31 .ro 0x0,
    fld "WRITING" 30 30 .ro 0x0,
    fld "EMPTY" 29 29 .ro 0x1]⟩
def F.CFF_STAT_MARK_VALID : Fld := ⟨R.CFF_STAT, 31, 31⟩
def F.CFF_STAT_WRITING : Fld := ⟨R.CFF_STAT, 30, 30⟩
def F.CFF_STAT_EMPTY : Fld := ⟨R.CFF_STAT, 29, 29⟩

/-- CFF_EVT (17_capture_fifo.md R516). -/
def R.CFF_EVT : RegSpec :=
  ⟨"CFF_EVT", 0x70008, [], false,
   [fld "SEQ" 31 24 .ro 0x0,
    fld "CFG_ERR" 6 6 .sc 0x0,
    fld "ECC_UNC" 5 5 .sc 0x0,
    fld "ECC_CORR" 4 4 .sc 0x0,
    fld "REWIND_ERR" 3 3 .sc 0x0,
    fld "MARK_LOST" 2 2 .sc 0x0,
    fld "LOST" 1 1 .sc 0x0,
    fld "FRAME" 0 0 .sc 0x0]⟩
def F.CFF_EVT_SEQ : Fld := ⟨R.CFF_EVT, 31, 24⟩
def F.CFF_EVT_CFG_ERR : Fld := ⟨R.CFF_EVT, 6, 6⟩
def F.CFF_EVT_ECC_UNC : Fld := ⟨R.CFF_EVT, 5, 5⟩
def F.CFF_EVT_ECC_CORR : Fld := ⟨R.CFF_EVT, 4, 4⟩
def F.CFF_EVT_REWIND_ERR : Fld := ⟨R.CFF_EVT, 3, 3⟩
def F.CFF_EVT_MARK_LOST : Fld := ⟨R.CFF_EVT, 2, 2⟩
def F.CFF_EVT_LOST : Fld := ⟨R.CFF_EVT, 1, 1⟩
def F.CFF_EVT_FRAME : Fld := ⟨R.CFF_EVT, 0, 0⟩

/-- CFF_LOST (17_capture_fifo.md R516). -/
def R.CFF_LOST : RegSpec :=
  ⟨"CFF_LOST", 0x7000C, [], false,
   [fld "COUNT" 31 0 .rc 0x0]⟩
def F.CFF_LOST_COUNT : Fld := ⟨R.CFF_LOST, 31, 0⟩

/-- CFF_WPTR (17_capture_fifo.md R516). -/
def R.CFF_WPTR : RegSpec :=
  ⟨"CFF_WPTR", 0x70010, [], false,
   [fld "WRAP" 19 19 .ro 0x0,
    fld "INDEX" 18 0 .ro 0x0]⟩
def F.CFF_WPTR_WRAP : Fld := ⟨R.CFF_WPTR, 19, 19⟩
def F.CFF_WPTR_INDEX : Fld := ⟨R.CFF_WPTR, 18, 0⟩

/-- CFF_RPTR (17_capture_fifo.md R516). -/
def R.CFF_RPTR : RegSpec :=
  ⟨"CFF_RPTR", 0x70014, [], false,
   [fld "WRAP" 19 19 .ro 0x0,
    fld "INDEX" 18 0 .ro 0x0]⟩
def F.CFF_RPTR_WRAP : Fld := ⟨R.CFF_RPTR, 19, 19⟩
def F.CFF_RPTR_INDEX : Fld := ⟨R.CFF_RPTR, 18, 0⟩

/-- CFF_FPTR (17_capture_fifo.md R516). -/
def R.CFF_FPTR : RegSpec :=
  ⟨"CFF_FPTR", 0x70018, [], false,
   [fld "WRAP" 19 19 .ro 0x0,
    fld "INDEX" 18 0 .ro 0x0]⟩
def F.CFF_FPTR_WRAP : Fld := ⟨R.CFF_FPTR, 19, 19⟩
def F.CFF_FPTR_INDEX : Fld := ⟨R.CFF_FPTR, 18, 0⟩

/-- CFF_MPTR (17_capture_fifo.md R516). -/
def R.CFF_MPTR : RegSpec :=
  ⟨"CFF_MPTR", 0x7001C, [], false,
   [fld "WRAP" 19 19 .ro 0x0,
    fld "INDEX" 18 0 .ro 0x0]⟩
def F.CFF_MPTR_WRAP : Fld := ⟨R.CFF_MPTR, 19, 19⟩
def F.CFF_MPTR_INDEX : Fld := ⟨R.CFF_MPTR, 18, 0⟩

/-- CFF_MARK (17_capture_fifo.md R516). -/
def R.CFF_MARK : RegSpec :=
  ⟨"CFF_MARK", 0x70020, [], false,
   [fld "KEY" 15 8 .wo 0x0]⟩
def F.CFF_MARK_KEY : Fld := ⟨R.CFF_MARK, 15, 8⟩

/-- CFF_REWIND (17_capture_fifo.md R516). -/
def R.CFF_REWIND : RegSpec :=
  ⟨"CFF_REWIND", 0x70024, [], false,
   [fld "KEY" 15 8 .wo 0x0]⟩
def F.CFF_REWIND_KEY : Fld := ⟨R.CFF_REWIND, 15, 8⟩

/-- CFF_RELEASE (17_capture_fifo.md R516). -/
def R.CFF_RELEASE : RegSpec :=
  ⟨"CFF_RELEASE", 0x70028, [], false,
   [fld "KEY" 15 8 .wo 0x0]⟩
def F.CFF_RELEASE_KEY : Fld := ⟨R.CFF_RELEASE, 15, 8⟩

/-- CFF_AVAIL (17_capture_fifo.md R516). -/
def R.CFF_AVAIL : RegSpec :=
  ⟨"CFF_AVAIL", 0x7002C, [], false,
   [fld "RECORDS" 15 0 .ro 0x0]⟩
def F.CFF_AVAIL_RECORDS : Fld := ⟨R.CFF_AVAIL, 15, 0⟩

/-- CFF_ECC_CORR (17_capture_fifo.md R516). -/
def R.CFF_ECC_CORR : RegSpec :=
  ⟨"CFF_ECC_CORR", 0x70030, [], false,
   [fld "COUNT" 31 0 .rc 0x0]⟩
def F.CFF_ECC_CORR_COUNT : Fld := ⟨R.CFF_ECC_CORR, 31, 0⟩

/-- CFF_ECC_UNC (17_capture_fifo.md R516). -/
def R.CFF_ECC_UNC : RegSpec :=
  ⟨"CFF_ECC_UNC", 0x70034, [], false,
   [fld "COUNT" 31 0 .rc 0x0]⟩
def F.CFF_ECC_UNC_COUNT : Fld := ⟨R.CFF_ECC_UNC, 31, 0⟩

/-- CFF_SESS_CFG (17_capture_fifo.md R516). -/
def R.CFF_SESS_CFG : RegSpec :=
  ⟨"CFF_SESS_CFG", 0x70100, [(16, 0x20)], false,
   [fld "EN" 31 31 .rw 0x0,
    fld "DIR" 30 30 .rwe 0x0,
    fld "DROP_EN" 29 29 .rwe 0x0,
    fld "STRM_EN" 28 28 .rwe 0x0,
    fld "LIST" 26 24 .rwe 0x0,
    fld "QMASK" 23 16 .rwe 0xFF,
    fld "SNAP" 13 0 .rwe 0x0]⟩
def F.CFF_SESS_CFG_EN : Fld := ⟨R.CFF_SESS_CFG, 31, 31⟩
def F.CFF_SESS_CFG_DIR : Fld := ⟨R.CFF_SESS_CFG, 30, 30⟩
def F.CFF_SESS_CFG_DROP_EN : Fld := ⟨R.CFF_SESS_CFG, 29, 29⟩
def F.CFF_SESS_CFG_STRM_EN : Fld := ⟨R.CFF_SESS_CFG, 28, 28⟩
def F.CFF_SESS_CFG_LIST : Fld := ⟨R.CFF_SESS_CFG, 26, 24⟩
def F.CFF_SESS_CFG_QMASK : Fld := ⟨R.CFF_SESS_CFG, 23, 16⟩
def F.CFF_SESS_CFG_SNAP : Fld := ⟨R.CFF_SESS_CFG, 13, 0⟩

/-- CFF_SESS_PORT_A (17_capture_fifo.md R516). -/
def R.CFF_SESS_PORT_A : RegSpec :=
  ⟨"CFF_SESS_PORT_A", 0x70104, [(16, 0x20)], false,
   [fld "PORTS" 31 0 .rwe 0x0]⟩
def F.CFF_SESS_PORT_A_PORTS : Fld := ⟨R.CFF_SESS_PORT_A, 31, 0⟩

/-- CFF_SESS_PORT_B (17_capture_fifo.md R516). -/
def R.CFF_SESS_PORT_B : RegSpec :=
  ⟨"CFF_SESS_PORT_B", 0x70108, [(16, 0x20)], false,
   [fld "PORTS" 31 0 .rwe 0x0]⟩
def F.CFF_SESS_PORT_B_PORTS : Fld := ⟨R.CFF_SESS_PORT_B, 31, 0⟩

/-- CFF_SESS_PORT_C (17_capture_fifo.md R516). -/
def R.CFF_SESS_PORT_C : RegSpec :=
  ⟨"CFF_SESS_PORT_C", 0x7010C, [(16, 0x20)], false,
   [fld "PORTS" 8 0 .rwe 0x0]⟩
def F.CFF_SESS_PORT_C_PORTS : Fld := ⟨R.CFF_SESS_PORT_C, 8, 0⟩

/-- CFF_SESS_MATCH (17_capture_fifo.md R516). -/
def R.CFF_SESS_MATCH : RegSpec :=
  ⟨"CFF_SESS_MATCH", 0x70110, [(16, 0x20)], false,
   [fld "REASON" 23 16 .rwe 0xFF,
    fld "HANDLE" 13 0 .rwe 0x0]⟩
def F.CFF_SESS_MATCH_REASON : Fld := ⟨R.CFF_SESS_MATCH, 23, 16⟩
def F.CFF_SESS_MATCH_HANDLE : Fld := ⟨R.CFF_SESS_MATCH, 13, 0⟩

/-- CFF_SESS_CNT (17_capture_fifo.md R516). -/
def R.CFF_SESS_CNT : RegSpec :=
  ⟨"CFF_SESS_CNT", 0x70114, [(16, 0x20)], false,
   [fld "COUNT" 31 0 .rc 0x0]⟩
def F.CFF_SESS_CNT_COUNT : Fld := ⟨R.CFF_SESS_CNT, 31, 0⟩

/-- CFF_SESS_REFUSED (17_capture_fifo.md R516). -/
def R.CFF_SESS_REFUSED : RegSpec :=
  ⟨"CFF_SESS_REFUSED", 0x70118, [(16, 0x20)], false,
   [fld "COUNT" 31 0 .rc 0x0]⟩
def F.CFF_SESS_REFUSED_COUNT : Fld := ⟨R.CFF_SESS_REFUSED, 31, 0⟩

/-- CFF_WINDOW (17_capture_fifo.md R510). -/
def R.CFF_WINDOW : RegSpec :=
  ⟨"CFF_WINDOW", 0x71000, [(1024, 0x4)], false,
   [fld "DATA" 31 0 .ro 0x0]⟩
def F.CFF_WINDOW_DATA : Fld := ⟨R.CFF_WINDOW, 31, 0⟩

def regsCff : List RegSpec :=
  [R.CFF_CFG, R.CFF_STAT, R.CFF_EVT, R.CFF_LOST, R.CFF_WPTR, R.CFF_RPTR,
   R.CFF_FPTR, R.CFF_MPTR, R.CFF_MARK, R.CFF_REWIND, R.CFF_RELEASE, R.CFF_AVAIL,
   R.CFF_ECC_CORR, R.CFF_ECC_UNC, R.CFF_SESS_CFG, R.CFF_SESS_PORT_A, R.CFF_SESS_PORT_B, R.CFF_SESS_PORT_C,
   R.CFF_SESS_MATCH, R.CFF_SESS_CNT, R.CFF_SESS_REFUSED, R.CFF_WINDOW]

end Sys2Proof.Machine
end

