-- ==== Sys2Proof/Machine/RegsDma.lean ====
section
/-! DEFINITION. The registers of the Dma extent: name, BAR0 offset, index strides and fields (access code, value after
POWER_ON reset; `img` marks a field the configuration image gives, which reads 0 until then, R7). From 16_dma_and_buffer_pools.md R496; 16_dma_and_buffer_pools.md R498, in the spec's own field tables. -/

namespace Sys2Proof.Machine

/-- DMA_CFG (16_dma_and_buffer_pools.md R496). -/
def R.DMA_CFG : RegSpec :=
  ⟨"DMA_CFG", 0x50000, [], false,
   [fld "VERIFY" 0 0 .rw 0x0]⟩
def F.DMA_CFG_VERIFY : Fld := ⟨R.DMA_CFG, 0, 0⟩

/-- DMA_STAT (16_dma_and_buffer_pools.md R496). -/
def R.DMA_STAT : RegSpec :=
  ⟨"DMA_STAT", 0x50004, [], false,
   [fld "ACTIVE" 15 0 .ro 0x0]⟩
def F.DMA_STAT_ACTIVE : Fld := ⟨R.DMA_STAT, 15, 0⟩

/-- DMA_ERR (16_dma_and_buffer_pools.md R496). -/
def R.DMA_ERR : RegSpec :=
  ⟨"DMA_ERR", 0x50008, [], false,
   [fld "VALID" 31 31 .rc 0x0,
    fld "MULTI" 30 30 .rc 0x0,
    fld "FETCH" 3 3 .ro 0x0,
    fld "HOST" 2 2 .ro 0x0,
    fld "KIND" 1 0 .ro 0x0]⟩
def F.DMA_ERR_VALID : Fld := ⟨R.DMA_ERR, 31, 31⟩
def F.DMA_ERR_MULTI : Fld := ⟨R.DMA_ERR, 30, 30⟩
def F.DMA_ERR_FETCH : Fld := ⟨R.DMA_ERR, 3, 3⟩
def F.DMA_ERR_HOST : Fld := ⟨R.DMA_ERR, 2, 2⟩
def F.DMA_ERR_KIND : Fld := ⟨R.DMA_ERR, 1, 0⟩

/-- DMA_ERR_ADDR_LO (16_dma_and_buffer_pools.md R496). -/
def R.DMA_ERR_ADDR_LO : RegSpec :=
  ⟨"DMA_ERR_ADDR_LO", 0x5000C, [], false,
   [fld "ADDR" 31 0 .ro 0x0]⟩
def F.DMA_ERR_ADDR_LO_ADDR : Fld := ⟨R.DMA_ERR_ADDR_LO, 31, 0⟩

/-- DMA_ERR_ADDR_HI (16_dma_and_buffer_pools.md R496). -/
def R.DMA_ERR_ADDR_HI : RegSpec :=
  ⟨"DMA_ERR_ADDR_HI", 0x50010, [], false,
   [fld "ADDR" 31 0 .ro 0x0]⟩
def F.DMA_ERR_ADDR_HI_ADDR : Fld := ⟨R.DMA_ERR_ADDR_HI, 31, 0⟩

/-- DMA_CH_CFG (16_dma_and_buffer_pools.md R496). -/
def R.DMA_CH_CFG : RegSpec :=
  ⟨"DMA_CH_CFG", 0x50100, [(16, 0x40)], false,
   [fld "QMASK" 31 16 .rwe 0x0,
    fld "SIZE" 12 8 .rwe 0x4,
    fld "PRIO" 5 4 .rwe 0x0,
    fld "HOST" 2 2 .rwe 0x0,
    fld "MODE" 1 0 .rwe 0x0]⟩
def F.DMA_CH_CFG_QMASK : Fld := ⟨R.DMA_CH_CFG, 31, 16⟩
def F.DMA_CH_CFG_SIZE : Fld := ⟨R.DMA_CH_CFG, 12, 8⟩
def F.DMA_CH_CFG_PRIO : Fld := ⟨R.DMA_CH_CFG, 5, 4⟩
def F.DMA_CH_CFG_HOST : Fld := ⟨R.DMA_CH_CFG, 2, 2⟩
def F.DMA_CH_CFG_MODE : Fld := ⟨R.DMA_CH_CFG, 1, 0⟩

/-- DMA_CH_CTRL (16_dma_and_buffer_pools.md R496). -/
def R.DMA_CH_CTRL : RegSpec :=
  ⟨"DMA_CH_CTRL", 0x50104, [(16, 0x40)], false,
   [fld "OP" 2 0 .wo 0x0]⟩
def F.DMA_CH_CTRL_OP : Fld := ⟨R.DMA_CH_CTRL, 2, 0⟩

/-- DMA_CH_STAT (16_dma_and_buffer_pools.md R496). -/
def R.DMA_CH_STAT : RegSpec :=
  ⟨"DMA_CH_STAT", 0x50108, [(16, 0x40)], false,
   [fld "ENABLE" 31 31 .ro 0x0,
    fld "COMMITTED" 7 7 .ro 0x0,
    fld "CAUSE" 6 4 .ro 0x0,
    fld "STATE" 2 0 .ro 0x0]⟩
def F.DMA_CH_STAT_ENABLE : Fld := ⟨R.DMA_CH_STAT, 31, 31⟩
def F.DMA_CH_STAT_COMMITTED : Fld := ⟨R.DMA_CH_STAT, 7, 7⟩
def F.DMA_CH_STAT_CAUSE : Fld := ⟨R.DMA_CH_STAT, 6, 4⟩
def F.DMA_CH_STAT_STATE : Fld := ⟨R.DMA_CH_STAT, 2, 0⟩

/-- DMA_CH_EVT (16_dma_and_buffer_pools.md R496). -/
def R.DMA_CH_EVT : RegSpec :=
  ⟨"DMA_CH_EVT", 0x5010C, [(16, 0x40)], false,
   [fld "SEQ" 31 24 .ro 0x0,
    fld "CFG_ERR" 4 4 .sc 0x0,
    fld "STOPPED" 3 3 .sc 0x0,
    fld "PAUSED" 2 2 .sc 0x0,
    fld "DESC_ERR" 1 1 .sc 0x0,
    fld "DESC_DONE" 0 0 .sc 0x0]⟩
def F.DMA_CH_EVT_SEQ : Fld := ⟨R.DMA_CH_EVT, 31, 24⟩
def F.DMA_CH_EVT_CFG_ERR : Fld := ⟨R.DMA_CH_EVT, 4, 4⟩
def F.DMA_CH_EVT_STOPPED : Fld := ⟨R.DMA_CH_EVT, 3, 3⟩
def F.DMA_CH_EVT_PAUSED : Fld := ⟨R.DMA_CH_EVT, 2, 2⟩
def F.DMA_CH_EVT_DESC_ERR : Fld := ⟨R.DMA_CH_EVT, 1, 1⟩
def F.DMA_CH_EVT_DESC_DONE : Fld := ⟨R.DMA_CH_EVT, 0, 0⟩

/-- DMA_CH_RING_LO (16_dma_and_buffer_pools.md R496). -/
def R.DMA_CH_RING_LO : RegSpec :=
  ⟨"DMA_CH_RING_LO", 0x50110, [(16, 0x40)], false,
   [fld "ADDR" 31 5 .rwe 0x0]⟩
def F.DMA_CH_RING_LO_ADDR : Fld := ⟨R.DMA_CH_RING_LO, 31, 5⟩

/-- DMA_CH_RING_HI (16_dma_and_buffer_pools.md R496). -/
def R.DMA_CH_RING_HI : RegSpec :=
  ⟨"DMA_CH_RING_HI", 0x50114, [(16, 0x40)], false,
   [fld "ADDR" 31 0 .rwe 0x0]⟩
def F.DMA_CH_RING_HI_ADDR : Fld := ⟨R.DMA_CH_RING_HI, 31, 0⟩

/-- DMA_CH_HEAD (16_dma_and_buffer_pools.md R496). -/
def R.DMA_CH_HEAD : RegSpec :=
  ⟨"DMA_CH_HEAD", 0x50118, [(16, 0x40)], false,
   [fld "HEAD" 15 0 .rwe 0x0]⟩
def F.DMA_CH_HEAD_HEAD : Fld := ⟨R.DMA_CH_HEAD, 15, 0⟩

/-- DMA_CH_TAIL (16_dma_and_buffer_pools.md R496). -/
def R.DMA_CH_TAIL : RegSpec :=
  ⟨"DMA_CH_TAIL", 0x5011C, [(16, 0x40)], false,
   [fld "TAIL" 15 0 .rw 0x0]⟩
def F.DMA_CH_TAIL_TAIL : Fld := ⟨R.DMA_CH_TAIL, 15, 0⟩

/-- DMA_CH_CUR (16_dma_and_buffer_pools.md R496). -/
def R.DMA_CH_CUR : RegSpec :=
  ⟨"DMA_CH_CUR", 0x50120, [(16, 0x40)], false,
   [fld "BYTES" 23 0 .ro 0x0]⟩
def F.DMA_CH_CUR_BYTES : Fld := ⟨R.DMA_CH_CUR, 23, 0⟩

/-- DMA_CH_DESC_CNT (16_dma_and_buffer_pools.md R496). -/
def R.DMA_CH_DESC_CNT : RegSpec :=
  ⟨"DMA_CH_DESC_CNT", 0x50124, [(16, 0x40)], false,
   [fld "COUNT" 31 0 .rc 0x0]⟩
def F.DMA_CH_DESC_CNT_COUNT : Fld := ⟨R.DMA_CH_DESC_CNT, 31, 0⟩

/-- DMA_CH_ERR_CNT (16_dma_and_buffer_pools.md R496). -/
def R.DMA_CH_ERR_CNT : RegSpec :=
  ⟨"DMA_CH_ERR_CNT", 0x50128, [(16, 0x40)], false,
   [fld "COUNT" 31 0 .rc 0x0]⟩
def F.DMA_CH_ERR_CNT_COUNT : Fld := ⟨R.DMA_CH_ERR_CNT, 31, 0⟩

/-- BPM_CFG (16_dma_and_buffer_pools.md R498). -/
def R.BPM_CFG : RegSpec :=
  ⟨"BPM_CFG", 0x60000, [], false,
   [fld "HOST" 0 0 .ro 0x0 true]⟩
def F.BPM_CFG_HOST : Fld := ⟨R.BPM_CFG, 0, 0⟩

/-- BPM_EVT (16_dma_and_buffer_pools.md R498). -/
def R.BPM_EVT : RegSpec :=
  ⟨"BPM_EVT", 0x60004, [], false,
   [fld "SEQ" 31 24 .ro 0x0,
    fld "READY" 2 2 .sc 0x0,
    fld "FAIL" 1 1 .sc 0x0,
    fld "REJECT" 0 0 .sc 0x0]⟩
def F.BPM_EVT_SEQ : Fld := ⟨R.BPM_EVT, 31, 24⟩
def F.BPM_EVT_READY : Fld := ⟨R.BPM_EVT, 2, 2⟩
def F.BPM_EVT_FAIL : Fld := ⟨R.BPM_EVT, 1, 1⟩
def F.BPM_EVT_REJECT : Fld := ⟨R.BPM_EVT, 0, 0⟩

/-- BPM_ERR (16_dma_and_buffer_pools.md R498). -/
def R.BPM_ERR : RegSpec :=
  ⟨"BPM_ERR", 0x60008, [], false,
   [fld "VALID" 31 31 .rc 0x0,
    fld "MULTI" 30 30 .rc 0x0,
    fld "KIND" 29 28 .ro 0x0,
    fld "REQ" 7 0 .ro 0x0]⟩
def F.BPM_ERR_VALID : Fld := ⟨R.BPM_ERR, 31, 31⟩
def F.BPM_ERR_MULTI : Fld := ⟨R.BPM_ERR, 30, 30⟩
def F.BPM_ERR_KIND : Fld := ⟨R.BPM_ERR, 29, 28⟩
def F.BPM_ERR_REQ : Fld := ⟨R.BPM_ERR, 7, 0⟩

/-- BPM_ERR_HANDLE (16_dma_and_buffer_pools.md R498). -/
def R.BPM_ERR_HANDLE : RegSpec :=
  ⟨"BPM_ERR_HANDLE", 0x6000C, [], false,
   [fld "HANDLE" 23 0 .ro 0x0]⟩
def F.BPM_ERR_HANDLE_HANDLE : Fld := ⟨R.BPM_ERR_HANDLE, 23, 0⟩

/-- BPM_REJ_CNT (16_dma_and_buffer_pools.md R498). -/
def R.BPM_REJ_CNT : RegSpec :=
  ⟨"BPM_REJ_CNT", 0x60010, [], false,
   [fld "COUNT" 31 0 .rc 0x0]⟩
def F.BPM_REJ_CNT_COUNT : Fld := ⟨R.BPM_REJ_CNT, 31, 0⟩

/-- BPM_CMD (16_dma_and_buffer_pools.md R498). -/
def R.BPM_CMD : RegSpec :=
  ⟨"BPM_CMD", 0x60020, [], true,
   [fld "OP" 2 0 .pw 0x0]⟩
def F.BPM_CMD_OP : Fld := ⟨R.BPM_CMD, 2, 0⟩

/-- BPM_CMD_STAT (16_dma_and_buffer_pools.md R498). -/
def R.BPM_CMD_STAT : RegSpec :=
  ⟨"BPM_CMD_STAT", 0x60024, [], true,
   [fld "BUSY" 31 31 .ro 0x0,
    fld "STATUS" 3 0 .ro 0x0]⟩
def F.BPM_CMD_STAT_BUSY : Fld := ⟨R.BPM_CMD_STAT, 31, 31⟩
def F.BPM_CMD_STAT_STATUS : Fld := ⟨R.BPM_CMD_STAT, 3, 0⟩

/-- BPM_ARG (16_dma_and_buffer_pools.md R498). -/
def R.BPM_ARG : RegSpec :=
  ⟨"BPM_ARG", 0x60028, [], true,
   [fld "ARG" 31 0 .rw 0x0]⟩
def F.BPM_ARG_ARG : Fld := ⟨R.BPM_ARG, 31, 0⟩

/-- BPM_OWNERS (16_dma_and_buffer_pools.md R498). -/
def R.BPM_OWNERS : RegSpec :=
  ⟨"BPM_OWNERS", 0x6002C, [], true,
   [fld "NAMES" 31 0 .rw 0x0]⟩
def F.BPM_OWNERS_NAMES : Fld := ⟨R.BPM_OWNERS, 31, 0⟩

/-- BPM_RESULT (16_dma_and_buffer_pools.md R498). -/
def R.BPM_RESULT : RegSpec :=
  ⟨"BPM_RESULT", 0x60030, [], true,
   [fld "HANDLE" 23 0 .ro 0x0]⟩
def F.BPM_RESULT_HANDLE : Fld := ⟨R.BPM_RESULT, 23, 0⟩

/-- BPM_POOL_CFG (16_dma_and_buffer_pools.md R498). -/
def R.BPM_POOL_CFG : RegSpec :=
  ⟨"BPM_POOL_CFG", 0x60100, [(8, 0x20)], false,
   [fld "EN" 31 31 .ro 0x0 true,
    fld "INIT" 30 30 .wo 0x0,
    fld "PLACE" 29 29 .ro 0x0 true,
    fld "USERS" 28 26 .ro 0x0 true,
    fld "COUNT" 20 0 .ro 0x0 true]⟩
def F.BPM_POOL_CFG_EN : Fld := ⟨R.BPM_POOL_CFG, 31, 31⟩
def F.BPM_POOL_CFG_INIT : Fld := ⟨R.BPM_POOL_CFG, 30, 30⟩
def F.BPM_POOL_CFG_PLACE : Fld := ⟨R.BPM_POOL_CFG, 29, 29⟩
def F.BPM_POOL_CFG_USERS : Fld := ⟨R.BPM_POOL_CFG, 28, 26⟩
def F.BPM_POOL_CFG_COUNT : Fld := ⟨R.BPM_POOL_CFG, 20, 0⟩

/-- BPM_POOL_BASE_LO (16_dma_and_buffer_pools.md R498). -/
def R.BPM_POOL_BASE_LO : RegSpec :=
  ⟨"BPM_POOL_BASE_LO", 0x60104, [(8, 0x20)], false,
   [fld "ADDR" 31 7 .rwe 0x0 true]⟩
def F.BPM_POOL_BASE_LO_ADDR : Fld := ⟨R.BPM_POOL_BASE_LO, 31, 7⟩

/-- BPM_POOL_BASE_HI (16_dma_and_buffer_pools.md R498). -/
def R.BPM_POOL_BASE_HI : RegSpec :=
  ⟨"BPM_POOL_BASE_HI", 0x60108, [(8, 0x20)], false,
   [fld "ADDR" 31 0 .rwe 0x0 true]⟩
def F.BPM_POOL_BASE_HI_ADDR : Fld := ⟨R.BPM_POOL_BASE_HI, 31, 0⟩

/-- BPM_POOL_RING_LO (16_dma_and_buffer_pools.md R498). -/
def R.BPM_POOL_RING_LO : RegSpec :=
  ⟨"BPM_POOL_RING_LO", 0x6010C, [(8, 0x20)], false,
   [fld "ADDR" 31 2 .rwe 0x0 true]⟩
def F.BPM_POOL_RING_LO_ADDR : Fld := ⟨R.BPM_POOL_RING_LO, 31, 2⟩

/-- BPM_POOL_RING_HI (16_dma_and_buffer_pools.md R498). -/
def R.BPM_POOL_RING_HI : RegSpec :=
  ⟨"BPM_POOL_RING_HI", 0x60110, [(8, 0x20)], false,
   [fld "ADDR" 31 0 .rwe 0x0 true]⟩
def F.BPM_POOL_RING_HI_ADDR : Fld := ⟨R.BPM_POOL_RING_HI, 31, 0⟩

/-- BPM_POOL_FREE (16_dma_and_buffer_pools.md R498). -/
def R.BPM_POOL_FREE : RegSpec :=
  ⟨"BPM_POOL_FREE", 0x60114, [(8, 0x20)], false,
   [fld "FREE" 20 0 .ro 0x0]⟩
def F.BPM_POOL_FREE_FREE : Fld := ⟨R.BPM_POOL_FREE, 20, 0⟩

/-- BPM_POOL_LOW (16_dma_and_buffer_pools.md R498). -/
def R.BPM_POOL_LOW : RegSpec :=
  ⟨"BPM_POOL_LOW", 0x60118, [(8, 0x20)], false,
   [fld "LOW" 20 0 .rc 0x0]⟩
def F.BPM_POOL_LOW_LOW : Fld := ⟨R.BPM_POOL_LOW, 20, 0⟩

/-- BPM_POOL_FAIL (16_dma_and_buffer_pools.md R498). -/
def R.BPM_POOL_FAIL : RegSpec :=
  ⟨"BPM_POOL_FAIL", 0x6011C, [(8, 0x20)], false,
   [fld "COUNT" 31 0 .rc 0x0]⟩
def F.BPM_POOL_FAIL_COUNT : Fld := ⟨R.BPM_POOL_FAIL, 31, 0⟩

def regsDma : List RegSpec :=
  [R.DMA_CFG, R.DMA_STAT, R.DMA_ERR, R.DMA_ERR_ADDR_LO, R.DMA_ERR_ADDR_HI, R.DMA_CH_CFG,
   R.DMA_CH_CTRL, R.DMA_CH_STAT, R.DMA_CH_EVT, R.DMA_CH_RING_LO, R.DMA_CH_RING_HI, R.DMA_CH_HEAD,
   R.DMA_CH_TAIL, R.DMA_CH_CUR, R.DMA_CH_DESC_CNT, R.DMA_CH_ERR_CNT, R.BPM_CFG, R.BPM_EVT,
   R.BPM_ERR, R.BPM_ERR_HANDLE, R.BPM_REJ_CNT, R.BPM_CMD, R.BPM_CMD_STAT, R.BPM_ARG,
   R.BPM_OWNERS, R.BPM_RESULT, R.BPM_POOL_CFG, R.BPM_POOL_BASE_LO, R.BPM_POOL_BASE_HI, R.BPM_POOL_RING_LO,
   R.BPM_POOL_RING_HI, R.BPM_POOL_FREE, R.BPM_POOL_LOW, R.BPM_POOL_FAIL]

end Sys2Proof.Machine
end

