-- ==== Sys2Proof/Machine/RegsEgs.lean ====
section
/-! DEFINITION. The registers of the Egs extent: name, BAR0 offset, index strides and fields (access code, value after
POWER_ON reset; `img` marks a field the configuration image gives, which reads 0 until then, R7). From 08_egress_scheduling.md R268; 08_egress_scheduling.md R269, in the spec's own field tables. -/

namespace Sys2Proof.Machine

/-- EGS_GATE_CFG (08_egress_scheduling.md R268). -/
def R.EGS_GATE_CFG : RegSpec :=
  ⟨"EGS_GATE_CFG", 0x300000, [(72, 0x1000)], false,
   [fld "GATE_EN" 31 31 .rw 0x0 true,
    fld "HOLD_EN" 30 30 .rw 0x0 true,
    fld "ADM_GATES" 7 0 .rw 0xFF]⟩
def F.EGS_GATE_CFG_GATE_EN : Fld := ⟨R.EGS_GATE_CFG, 31, 31⟩
def F.EGS_GATE_CFG_HOLD_EN : Fld := ⟨R.EGS_GATE_CFG, 30, 30⟩
def F.EGS_GATE_CFG_ADM_GATES : Fld := ⟨R.EGS_GATE_CFG, 7, 0⟩

/-- EGS_HOLD_ADV (08_egress_scheduling.md R268). -/
def R.EGS_HOLD_ADV : RegSpec :=
  ⟨"EGS_HOLD_ADV", 0x300004, [(72, 0x1000)], false,
   [fld "REL_ADV" 31 16 .rw 0x0,
    fld "HOLD_ADV" 15 0 .rw 0x80]⟩
def F.EGS_HOLD_ADV_REL_ADV : Fld := ⟨R.EGS_HOLD_ADV, 31, 16⟩
def F.EGS_HOLD_ADV_HOLD_ADV : Fld := ⟨R.EGS_HOLD_ADV, 15, 0⟩

/-- EGS_GATE_STAT (08_egress_scheduling.md R268). -/
def R.EGS_GATE_STAT : RegSpec :=
  ⟨"EGS_GATE_STAT", 0x300008, [(72, 0x1000)], false,
   [fld "CHG_PEND" 31 31 .ro 0x0,
    fld "HOLD" 30 30 .ro 0x0,
    fld "BANK" 29 29 .ro 0x0,
    fld "CHG_ERR" 28 26 .ro 0x0,
    fld "ENTRY" 23 14 .ro 0x0,
    fld "OPER_GATES" 7 0 .ro 0xFF]⟩
def F.EGS_GATE_STAT_CHG_PEND : Fld := ⟨R.EGS_GATE_STAT, 31, 31⟩
def F.EGS_GATE_STAT_HOLD : Fld := ⟨R.EGS_GATE_STAT, 30, 30⟩
def F.EGS_GATE_STAT_BANK : Fld := ⟨R.EGS_GATE_STAT, 29, 29⟩
def F.EGS_GATE_STAT_CHG_ERR : Fld := ⟨R.EGS_GATE_STAT, 28, 26⟩
def F.EGS_GATE_STAT_ENTRY : Fld := ⟨R.EGS_GATE_STAT, 23, 14⟩
def F.EGS_GATE_STAT_OPER_GATES : Fld := ⟨R.EGS_GATE_STAT, 7, 0⟩

/-- EGS_GATE_CHG (08_egress_scheduling.md R268). -/
def R.EGS_GATE_CHG : RegSpec :=
  ⟨"EGS_GATE_CHG", 0x30000C, [(72, 0x1000)], false,
   [fld "KEY" 15 8 .wo 0x0,
    fld "CANCEL" 1 1 .wo 0x0,
    fld "GO" 0 0 .wo 0x0]⟩
def F.EGS_GATE_CHG_KEY : Fld := ⟨R.EGS_GATE_CHG, 15, 8⟩
def F.EGS_GATE_CHG_CANCEL : Fld := ⟨R.EGS_GATE_CHG, 1, 1⟩
def F.EGS_GATE_CHG_GO : Fld := ⟨R.EGS_GATE_CHG, 0, 0⟩

/-- EGS_GATE_ADM_BASE_SEC (08_egress_scheduling.md R268). -/
def R.EGS_GATE_ADM_BASE_SEC : RegSpec :=
  ⟨"EGS_GATE_ADM_BASE_SEC", 0x300010, [(72, 0x1000)], false,
   [fld "SEC" 31 0 .rw 0x0]⟩
def F.EGS_GATE_ADM_BASE_SEC_SEC : Fld := ⟨R.EGS_GATE_ADM_BASE_SEC, 31, 0⟩

/-- EGS_GATE_ADM_BASE_NS (08_egress_scheduling.md R268). -/
def R.EGS_GATE_ADM_BASE_NS : RegSpec :=
  ⟨"EGS_GATE_ADM_BASE_NS", 0x300014, [(72, 0x1000)], false,
   [fld "NS" 29 0 .rw 0x0]⟩
def F.EGS_GATE_ADM_BASE_NS_NS : Fld := ⟨R.EGS_GATE_ADM_BASE_NS, 29, 0⟩

/-- EGS_GATE_ADM_CYCLE (08_egress_scheduling.md R268). -/
def R.EGS_GATE_ADM_CYCLE : RegSpec :=
  ⟨"EGS_GATE_ADM_CYCLE", 0x300018, [(72, 0x1000)], false,
   [fld "CYCLE" 31 0 .rw 0x0]⟩
def F.EGS_GATE_ADM_CYCLE_CYCLE : Fld := ⟨R.EGS_GATE_ADM_CYCLE, 31, 0⟩

/-- EGS_GATE_ADM_EXT (08_egress_scheduling.md R268). -/
def R.EGS_GATE_ADM_EXT : RegSpec :=
  ⟨"EGS_GATE_ADM_EXT", 0x30001C, [(72, 0x1000)], false,
   [fld "EXT" 31 0 .rw 0x0 true]⟩
def F.EGS_GATE_ADM_EXT_EXT : Fld := ⟨R.EGS_GATE_ADM_EXT, 31, 0⟩

/-- EGS_GATE_ADM_LEN (08_egress_scheduling.md R268). -/
def R.EGS_GATE_ADM_LEN : RegSpec :=
  ⟨"EGS_GATE_ADM_LEN", 0x300020, [(72, 0x1000)], false,
   [fld "LEN" 10 0 .rw 0x0]⟩
def F.EGS_GATE_ADM_LEN_LEN : Fld := ⟨R.EGS_GATE_ADM_LEN, 10, 0⟩

/-- EGS_GATE_OPER_BASE_SEC (08_egress_scheduling.md R268). -/
def R.EGS_GATE_OPER_BASE_SEC : RegSpec :=
  ⟨"EGS_GATE_OPER_BASE_SEC", 0x300024, [(72, 0x1000)], false,
   [fld "SEC" 31 0 .ro 0x0]⟩
def F.EGS_GATE_OPER_BASE_SEC_SEC : Fld := ⟨R.EGS_GATE_OPER_BASE_SEC, 31, 0⟩

/-- EGS_GATE_OPER_BASE_NS (08_egress_scheduling.md R268). -/
def R.EGS_GATE_OPER_BASE_NS : RegSpec :=
  ⟨"EGS_GATE_OPER_BASE_NS", 0x300028, [(72, 0x1000)], false,
   [fld "NS" 29 0 .ro 0x0]⟩
def F.EGS_GATE_OPER_BASE_NS_NS : Fld := ⟨R.EGS_GATE_OPER_BASE_NS, 29, 0⟩

/-- EGS_GATE_OPER_CYCLE (08_egress_scheduling.md R268). -/
def R.EGS_GATE_OPER_CYCLE : RegSpec :=
  ⟨"EGS_GATE_OPER_CYCLE", 0x30002C, [(72, 0x1000)], false,
   [fld "CYCLE" 31 0 .ro 0x0 true]⟩
def F.EGS_GATE_OPER_CYCLE_CYCLE : Fld := ⟨R.EGS_GATE_OPER_CYCLE, 31, 0⟩

/-- EGS_GATE_OPER_LEN (08_egress_scheduling.md R268). -/
def R.EGS_GATE_OPER_LEN : RegSpec :=
  ⟨"EGS_GATE_OPER_LEN", 0x300030, [(72, 0x1000)], false,
   [fld "LEN" 10 0 .ro 0x0 true]⟩
def F.EGS_GATE_OPER_LEN_LEN : Fld := ⟨R.EGS_GATE_OPER_LEN, 10, 0⟩

/-- EGS_GATE_CHG_SEC (08_egress_scheduling.md R268). -/
def R.EGS_GATE_CHG_SEC : RegSpec :=
  ⟨"EGS_GATE_CHG_SEC", 0x300034, [(72, 0x1000)], false,
   [fld "SEC" 31 0 .ro 0x0]⟩
def F.EGS_GATE_CHG_SEC_SEC : Fld := ⟨R.EGS_GATE_CHG_SEC, 31, 0⟩

/-- EGS_GATE_CHG_NS (08_egress_scheduling.md R268). -/
def R.EGS_GATE_CHG_NS : RegSpec :=
  ⟨"EGS_GATE_CHG_NS", 0x300038, [(72, 0x1000)], false,
   [fld "NS" 29 0 .ro 0x0]⟩
def F.EGS_GATE_CHG_NS_NS : Fld := ⟨R.EGS_GATE_CHG_NS, 29, 0⟩

/-- EGS_GCL_IDX (08_egress_scheduling.md R268). -/
def R.EGS_GCL_IDX : RegSpec :=
  ⟨"EGS_GCL_IDX", 0x300040, [(72, 0x1000)], false,
   [fld "AUTOINC" 31 31 .rw 0x0,
    fld "BANK" 16 16 .rw 0x0,
    fld "IDX" 9 0 .rw 0x0]⟩
def F.EGS_GCL_IDX_AUTOINC : Fld := ⟨R.EGS_GCL_IDX, 31, 31⟩
def F.EGS_GCL_IDX_BANK : Fld := ⟨R.EGS_GCL_IDX, 16, 16⟩
def F.EGS_GCL_IDX_IDX : Fld := ⟨R.EGS_GCL_IDX, 9, 0⟩

/-- EGS_GCL_D0 (08_egress_scheduling.md R268). -/
def R.EGS_GCL_D0 : RegSpec :=
  ⟨"EGS_GCL_D0", 0x300044, [(72, 0x1000)], false,
   [fld "INTERVAL" 31 0 .rw 0x0]⟩
def F.EGS_GCL_D0_INTERVAL : Fld := ⟨R.EGS_GCL_D0, 31, 0⟩

/-- EGS_GCL_D1 (08_egress_scheduling.md R268). -/
def R.EGS_GCL_D1 : RegSpec :=
  ⟨"EGS_GCL_D1", 0x300048, [(72, 0x1000)], false,
   [fld "OP" 31 30 .rw 0x0,
    fld "GATES" 7 0 .rw 0x0]⟩
def F.EGS_GCL_D1_OP : Fld := ⟨R.EGS_GCL_D1, 31, 30⟩
def F.EGS_GCL_D1_GATES : Fld := ⟨R.EGS_GCL_D1, 7, 0⟩

/-- EGS_OVERHEAD (08_egress_scheduling.md R269). -/
def R.EGS_OVERHEAD : RegSpec :=
  ⟨"EGS_OVERHEAD", 0x300050, [(72, 0x1000)], false,
   [fld "OVH" 5 0 .rw 0x14]⟩
def F.EGS_OVERHEAD_OVH : Fld := ⟨R.EGS_OVERHEAD, 5, 0⟩

/-- EGS_WGT_A (08_egress_scheduling.md R269). -/
def R.EGS_WGT_A : RegSpec :=
  ⟨"EGS_WGT_A", 0x300054, [(72, 0x1000)], false,
   [fld "W1" 27 16 .rw 0x100,
    fld "W0" 11 0 .rw 0x100]⟩
def F.EGS_WGT_A_W1 : Fld := ⟨R.EGS_WGT_A, 27, 16⟩
def F.EGS_WGT_A_W0 : Fld := ⟨R.EGS_WGT_A, 11, 0⟩

/-- EGS_WGT_B (08_egress_scheduling.md R269). -/
def R.EGS_WGT_B : RegSpec :=
  ⟨"EGS_WGT_B", 0x300058, [(72, 0x1000)], false,
   [fld "W3" 27 16 .rw 0x100,
    fld "W2" 11 0 .rw 0x100]⟩
def F.EGS_WGT_B_W3 : Fld := ⟨R.EGS_WGT_B, 27, 16⟩
def F.EGS_WGT_B_W2 : Fld := ⟨R.EGS_WGT_B, 11, 0⟩

/-- EGS_WGT_C (08_egress_scheduling.md R269). -/
def R.EGS_WGT_C : RegSpec :=
  ⟨"EGS_WGT_C", 0x30005C, [(72, 0x1000)], false,
   [fld "W4" 11 0 .rw 0x100]⟩
def F.EGS_WGT_C_W4 : Fld := ⟨R.EGS_WGT_C, 11, 0⟩

/-- EGS_WGT_ACT_A (08_egress_scheduling.md R269). -/
def R.EGS_WGT_ACT_A : RegSpec :=
  ⟨"EGS_WGT_ACT_A", 0x300060, [(72, 0x1000)], false,
   [fld "W1" 27 16 .ro 0x100,
    fld "W0" 11 0 .ro 0x100]⟩
def F.EGS_WGT_ACT_A_W1 : Fld := ⟨R.EGS_WGT_ACT_A, 27, 16⟩
def F.EGS_WGT_ACT_A_W0 : Fld := ⟨R.EGS_WGT_ACT_A, 11, 0⟩

/-- EGS_WGT_ACT_B (08_egress_scheduling.md R269). -/
def R.EGS_WGT_ACT_B : RegSpec :=
  ⟨"EGS_WGT_ACT_B", 0x300064, [(72, 0x1000)], false,
   [fld "W3" 27 16 .ro 0x100,
    fld "W2" 11 0 .ro 0x100]⟩
def F.EGS_WGT_ACT_B_W3 : Fld := ⟨R.EGS_WGT_ACT_B, 27, 16⟩
def F.EGS_WGT_ACT_B_W2 : Fld := ⟨R.EGS_WGT_ACT_B, 11, 0⟩

/-- EGS_WGT_ACT_C (08_egress_scheduling.md R269). -/
def R.EGS_WGT_ACT_C : RegSpec :=
  ⟨"EGS_WGT_ACT_C", 0x300068, [(72, 0x1000)], false,
   [fld "W4" 11 0 .ro 0x100]⟩
def F.EGS_WGT_ACT_C_W4 : Fld := ⟨R.EGS_WGT_ACT_C, 11, 0⟩

/-- EGS_LC_CFG (08_egress_scheduling.md R269). -/
def R.EGS_LC_CFG : RegSpec :=
  ⟨"EGS_LC_CFG", 0x300070, [(72, 0x1000)], false,
   [fld "HOLD_EN" 31 31 .rw 0x1]⟩
def F.EGS_LC_CFG_HOLD_EN : Fld := ⟨R.EGS_LC_CFG, 31, 31⟩

/-- EGS_LC_STAT (08_egress_scheduling.md R269). -/
def R.EGS_LC_STAT : RegSpec :=
  ⟨"EGS_LC_STAT", 0x300074, [(72, 0x1000)], false,
   [fld "ARMED" 31 31 .ro 0x0,
    fld "OCC" 8 0 .ro 0x0]⟩
def F.EGS_LC_STAT_ARMED : Fld := ⟨R.EGS_LC_STAT, 31, 31⟩
def F.EGS_LC_STAT_OCC : Fld := ⟨R.EGS_LC_STAT, 8, 0⟩

/-- EGS_EVT (08_egress_scheduling.md R269). -/
def R.EGS_EVT : RegSpec :=
  ⟨"EGS_EVT", 0x300078, [(72, 0x1000)], false,
   [fld "SEQ" 31 24 .ro 0x0,
    fld "OVERRUN" 4 4 .sc 0x0,
    fld "LC_FULL" 3 3 .sc 0x0,
    fld "LC_LATE" 2 2 .sc 0x0,
    fld "CFG_ERR" 1 1 .sc 0x0,
    fld "CHG_DONE" 0 0 .sc 0x0]⟩
def F.EGS_EVT_SEQ : Fld := ⟨R.EGS_EVT, 31, 24⟩
def F.EGS_EVT_OVERRUN : Fld := ⟨R.EGS_EVT, 4, 4⟩
def F.EGS_EVT_LC_FULL : Fld := ⟨R.EGS_EVT, 3, 3⟩
def F.EGS_EVT_LC_LATE : Fld := ⟨R.EGS_EVT, 2, 2⟩
def F.EGS_EVT_CFG_ERR : Fld := ⟨R.EGS_EVT, 1, 1⟩
def F.EGS_EVT_CHG_DONE : Fld := ⟨R.EGS_EVT, 0, 0⟩

/-- EGS_LC_LATE (08_egress_scheduling.md R269). -/
def R.EGS_LC_LATE : RegSpec :=
  ⟨"EGS_LC_LATE", 0x300120, [(72, 0x1000)], false,
   [fld "COUNT" 31 0 .rc 0x0]⟩
def F.EGS_LC_LATE_COUNT : Fld := ⟨R.EGS_LC_LATE, 31, 0⟩

/-- EGS_LC_DISC (08_egress_scheduling.md R269). -/
def R.EGS_LC_DISC : RegSpec :=
  ⟨"EGS_LC_DISC", 0x300124, [(72, 0x1000)], false,
   [fld "COUNT" 31 0 .rc 0x0]⟩
def F.EGS_LC_DISC_COUNT : Fld := ⟨R.EGS_LC_DISC, 31, 0⟩

/-- EGS_LC_FULL (08_egress_scheduling.md R269). -/
def R.EGS_LC_FULL : RegSpec :=
  ⟨"EGS_LC_FULL", 0x300128, [(72, 0x1000)], false,
   [fld "COUNT" 31 0 .rc 0x0]⟩
def F.EGS_LC_FULL_COUNT : Fld := ⟨R.EGS_LC_FULL, 31, 0⟩

/-- EGS_OVERRUN (08_egress_scheduling.md R269). -/
def R.EGS_OVERRUN : RegSpec :=
  ⟨"EGS_OVERRUN", 0x30012C, [(72, 0x1000)], false,
   [fld "COUNT" 31 0 .rc 0x0]⟩
def F.EGS_OVERRUN_COUNT : Fld := ⟨R.EGS_OVERRUN, 31, 0⟩

/-- EGS_SHP_CFG (08_egress_scheduling.md R269). -/
def R.EGS_SHP_CFG : RegSpec :=
  ⟨"EGS_SHP_CFG", 0x300080, [(72, 0x1000), (8, 0x10)], false,
   [fld "EN" 31 31 .rw 0x0,
    fld "RATE" 23 0 .rw 0x0]⟩
def F.EGS_SHP_CFG_EN : Fld := ⟨R.EGS_SHP_CFG, 31, 31⟩
def F.EGS_SHP_CFG_RATE : Fld := ⟨R.EGS_SHP_CFG, 23, 0⟩

/-- EGS_SHP_BURST (08_egress_scheduling.md R269). -/
def R.EGS_SHP_BURST : RegSpec :=
  ⟨"EGS_SHP_BURST", 0x300084, [(72, 0x1000), (8, 0x10)], false,
   [fld "BURST" 23 0 .rw 0x3E80]⟩
def F.EGS_SHP_BURST_BURST : Fld := ⟨R.EGS_SHP_BURST, 23, 0⟩

/-- EGS_SHP_TOK (08_egress_scheduling.md R269). -/
def R.EGS_SHP_TOK : RegSpec :=
  ⟨"EGS_SHP_TOK", 0x300088, [(72, 0x1000), (8, 0x10)], false,
   [fld "TOK" 31 0 .ro 0x0]⟩
def F.EGS_SHP_TOK_TOK : Fld := ⟨R.EGS_SHP_TOK, 31, 0⟩

def regsEgs : List RegSpec :=
  [R.EGS_GATE_CFG, R.EGS_HOLD_ADV, R.EGS_GATE_STAT, R.EGS_GATE_CHG, R.EGS_GATE_ADM_BASE_SEC, R.EGS_GATE_ADM_BASE_NS,
   R.EGS_GATE_ADM_CYCLE, R.EGS_GATE_ADM_EXT, R.EGS_GATE_ADM_LEN, R.EGS_GATE_OPER_BASE_SEC, R.EGS_GATE_OPER_BASE_NS, R.EGS_GATE_OPER_CYCLE,
   R.EGS_GATE_OPER_LEN, R.EGS_GATE_CHG_SEC, R.EGS_GATE_CHG_NS, R.EGS_GCL_IDX, R.EGS_GCL_D0, R.EGS_GCL_D1,
   R.EGS_OVERHEAD, R.EGS_WGT_A, R.EGS_WGT_B, R.EGS_WGT_C, R.EGS_WGT_ACT_A, R.EGS_WGT_ACT_B,
   R.EGS_WGT_ACT_C, R.EGS_LC_CFG, R.EGS_LC_STAT, R.EGS_EVT, R.EGS_LC_LATE, R.EGS_LC_DISC,
   R.EGS_LC_FULL, R.EGS_OVERRUN, R.EGS_SHP_CFG, R.EGS_SHP_BURST, R.EGS_SHP_TOK]

end Sys2Proof.Machine
end

