-- ==== Sys2Proof/Machine/RegsGlb.lean ====
section
/-! DEFINITION. The registers of the Glb extent: name, BAR0 offset, index strides and fields (access code, value after
POWER_ON reset; `img` marks a field the configuration image gives, which reads 0 until then, R7). From 00_scope.md R2; 02_operating_modes.md R62; 02_operating_modes.md R63; 02_operating_modes.md R64; 02_operating_modes.md R65; 02_operating_modes.md R66; 02_operating_modes.md R67; 02_operating_modes.md R68; 13_adaptive_mode.md R394; 15_host_ports_and_registers.md R450; 15_host_ports_and_registers.md R455; 15_host_ports_and_registers.md R456, in the spec's own field tables. -/

namespace Sys2Proof.Machine

/-- GLB_ID (00_scope.md R2). -/
def R.GLB_ID : RegSpec :=
  ⟨"GLB_ID", 0x0, [], false,
   [fld "PART" 31 16 .ro 0x7264,
    fld "VARIANT" 15 8 .ro 0x0,
    fld "REV_MAJOR" 7 4 .ro 0xB,
    fld "REV_MINOR" 3 0 .ro 0x0]⟩
def F.GLB_ID_PART : Fld := ⟨R.GLB_ID, 31, 16⟩
def F.GLB_ID_VARIANT : Fld := ⟨R.GLB_ID, 15, 8⟩
def F.GLB_ID_REV_MAJOR : Fld := ⟨R.GLB_ID, 7, 4⟩
def F.GLB_ID_REV_MINOR : Fld := ⟨R.GLB_ID, 3, 0⟩

/-- GLB_CFG (15_host_ports_and_registers.md R455). -/
def R.GLB_CFG : RegSpec :=
  ⟨"GLB_CFG", 0x4, [], false,
   [fld "DECODE" 0 0 .ro 0x0 true]⟩
def F.GLB_CFG_DECODE : Fld := ⟨R.GLB_CFG, 0, 0⟩

/-- GLB_SYSID (15_host_ports_and_registers.md R455). -/
def R.GLB_SYSID : RegSpec :=
  ⟨"GLB_SYSID", 0x8, [], false,
   [fld "SYSID" 13 0 .rw 0x0 true]⟩
def F.GLB_SYSID_SYSID : Fld := ⟨R.GLB_SYSID, 13, 0⟩

/-- GLB_ACC_ERR (15_host_ports_and_registers.md R455). -/
def R.GLB_ACC_ERR : RegSpec :=
  ⟨"GLB_ACC_ERR", 0x10, [], false,
   [fld "SEQ" 31 24 .ro 0x0,
    fld "MASK" 7 7 .sc 0x0,
    fld "UNIMP" 6 6 .sc 0x0,
    fld "ALIGN" 5 5 .sc 0x0,
    fld "WIDTH" 4 4 .sc 0x0,
    fld "BUSY" 3 3 .sc 0x0,
    fld "LOCK" 2 2 .sc 0x0,
    fld "GATED" 1 1 .sc 0x0,
    fld "STALE" 0 0 .sc 0x0]⟩
def F.GLB_ACC_ERR_SEQ : Fld := ⟨R.GLB_ACC_ERR, 31, 24⟩
def F.GLB_ACC_ERR_MASK : Fld := ⟨R.GLB_ACC_ERR, 7, 7⟩
def F.GLB_ACC_ERR_UNIMP : Fld := ⟨R.GLB_ACC_ERR, 6, 6⟩
def F.GLB_ACC_ERR_ALIGN : Fld := ⟨R.GLB_ACC_ERR, 5, 5⟩
def F.GLB_ACC_ERR_WIDTH : Fld := ⟨R.GLB_ACC_ERR, 4, 4⟩
def F.GLB_ACC_ERR_BUSY : Fld := ⟨R.GLB_ACC_ERR, 3, 3⟩
def F.GLB_ACC_ERR_LOCK : Fld := ⟨R.GLB_ACC_ERR, 2, 2⟩
def F.GLB_ACC_ERR_GATED : Fld := ⟨R.GLB_ACC_ERR, 1, 1⟩
def F.GLB_ACC_ERR_STALE : Fld := ⟨R.GLB_ACC_ERR, 0, 0⟩

/-- GLB_ACC_ADDR (15_host_ports_and_registers.md R455). -/
def R.GLB_ACC_ADDR : RegSpec :=
  ⟨"GLB_ACC_ADDR", 0x14, [], false,
   [fld "VALID" 31 31 .rc 0x0,
    fld "MULTI" 30 30 .rc 0x0,
    fld "FLAG" 29 27 .ro 0x0,
    fld "HOST" 26 26 .ro 0x0,
    fld "BAR" 25 24 .ro 0x0,
    fld "OFFSET" 23 0 .ro 0x0]⟩
def F.GLB_ACC_ADDR_VALID : Fld := ⟨R.GLB_ACC_ADDR, 31, 31⟩
def F.GLB_ACC_ADDR_MULTI : Fld := ⟨R.GLB_ACC_ADDR, 30, 30⟩
def F.GLB_ACC_ADDR_FLAG : Fld := ⟨R.GLB_ACC_ADDR, 29, 27⟩
def F.GLB_ACC_ADDR_HOST : Fld := ⟨R.GLB_ACC_ADDR, 26, 26⟩
def F.GLB_ACC_ADDR_BAR : Fld := ⟨R.GLB_ACC_ADDR, 25, 24⟩
def F.GLB_ACC_ADDR_OFFSET : Fld := ⟨R.GLB_ACC_ADDR, 23, 0⟩

/-- GLB_ACC_INFO (15_host_ports_and_registers.md R455). -/
def R.GLB_ACC_INFO : RegSpec :=
  ⟨"GLB_ACC_INFO", 0x18, [], false,
   [fld "WRITE" 31 31 .ro 0x0,
    fld "BE" 27 24 .ro 0x0]⟩
def F.GLB_ACC_INFO_WRITE : Fld := ⟨R.GLB_ACC_INFO, 31, 31⟩
def F.GLB_ACC_INFO_BE : Fld := ⟨R.GLB_ACC_INFO, 27, 24⟩

/-- GLB_ACC_DATA (15_host_ports_and_registers.md R455). -/
def R.GLB_ACC_DATA : RegSpec :=
  ⟨"GLB_ACC_DATA", 0x1C, [], false,
   [fld "DATA" 31 0 .ro 0x0]⟩
def F.GLB_ACC_DATA_DATA : Fld := ⟨R.GLB_ACC_DATA, 31, 0⟩

/-- GLB_WMASK_HA (15_host_ports_and_registers.md R455). -/
def R.GLB_WMASK_HA : RegSpec :=
  ⟨"GLB_WMASK_HA", 0x20, [], false,
   [fld "REGION" 19 0 .ro 0x0 true]⟩
def F.GLB_WMASK_HA_REGION : Fld := ⟨R.GLB_WMASK_HA, 19, 0⟩

/-- GLB_WMASK_HB (15_host_ports_and_registers.md R455). -/
def R.GLB_WMASK_HB : RegSpec :=
  ⟨"GLB_WMASK_HB", 0x24, [], false,
   [fld "REGION" 19 0 .ro 0x0 true]⟩
def F.GLB_WMASK_HB_REGION : Fld := ⟨R.GLB_WMASK_HB, 19, 0⟩

/-- GLB_PCI_ID (15_host_ports_and_registers.md R455). -/
def R.GLB_PCI_ID : RegSpec :=
  ⟨"GLB_PCI_ID", 0x28, [], false,
   [fld "DID" 31 16 .ro 0x7264,
    fld "VID" 15 0 .ro 0x1F9D]⟩
def F.GLB_PCI_ID_DID : Fld := ⟨R.GLB_PCI_ID, 31, 16⟩
def F.GLB_PCI_ID_VID : Fld := ⟨R.GLB_PCI_ID, 15, 0⟩

/-- GLB_HOST_STAT (15_host_ports_and_registers.md R455). -/
def R.GLB_HOST_STAT : RegSpec :=
  ⟨"GLB_HOST_STAT", 0x2C, [], false,
   [fld "SELF" 31 31 .ro 0x0,
    fld "HB_L1" 17 17 .ro 0x0,
    fld "HA_L1" 16 16 .ro 0x0,
    fld "HB_UP" 15 15 .ro 0x0,
    fld "HB_WIDTH" 14 13 .ro 0x0,
    fld "HB_SPEED" 12 11 .ro 0x0,
    fld "HA_UP" 7 7 .ro 0x0,
    fld "HA_WIDTH" 6 5 .ro 0x0,
    fld "HA_SPEED" 4 3 .ro 0x0]⟩
def F.GLB_HOST_STAT_SELF : Fld := ⟨R.GLB_HOST_STAT, 31, 31⟩
def F.GLB_HOST_STAT_HB_L1 : Fld := ⟨R.GLB_HOST_STAT, 17, 17⟩
def F.GLB_HOST_STAT_HA_L1 : Fld := ⟨R.GLB_HOST_STAT, 16, 16⟩
def F.GLB_HOST_STAT_HB_UP : Fld := ⟨R.GLB_HOST_STAT, 15, 15⟩
def F.GLB_HOST_STAT_HB_WIDTH : Fld := ⟨R.GLB_HOST_STAT, 14, 13⟩
def F.GLB_HOST_STAT_HB_SPEED : Fld := ⟨R.GLB_HOST_STAT, 12, 11⟩
def F.GLB_HOST_STAT_HA_UP : Fld := ⟨R.GLB_HOST_STAT, 7, 7⟩
def F.GLB_HOST_STAT_HA_WIDTH : Fld := ⟨R.GLB_HOST_STAT, 6, 5⟩
def F.GLB_HOST_STAT_HA_SPEED : Fld := ⟨R.GLB_HOST_STAT, 4, 3⟩

/-- GLB_SEM_EVT (15_host_ports_and_registers.md R456). -/
def R.GLB_SEM_EVT : RegSpec :=
  ⟨"GLB_SEM_EVT", 0x30, [], false,
   [fld "SEQ" 31 24 .ro 0x0,
    fld "WRONG_REL" 2 2 .sc 0x0,
    fld "AUTO_REL" 1 1 .sc 0x0,
    fld "RELEASED" 0 0 .sc 0x0]⟩
def F.GLB_SEM_EVT_SEQ : Fld := ⟨R.GLB_SEM_EVT, 31, 24⟩
def F.GLB_SEM_EVT_WRONG_REL : Fld := ⟨R.GLB_SEM_EVT, 2, 2⟩
def F.GLB_SEM_EVT_AUTO_REL : Fld := ⟨R.GLB_SEM_EVT, 1, 1⟩
def F.GLB_SEM_EVT_RELEASED : Fld := ⟨R.GLB_SEM_EVT, 0, 0⟩

/-- GLB_DOORBELL (15_host_ports_and_registers.md R456). -/
def R.GLB_DOORBELL : RegSpec :=
  ⟨"GLB_DOORBELL", 0x34, [], false,
   [fld "RING" 7 0 .wo 0x0]⟩
def F.GLB_DOORBELL_RING : Fld := ⟨R.GLB_DOORBELL, 7, 0⟩

/-- GLB_DB_STAT (15_host_ports_and_registers.md R456). -/
def R.GLB_DB_STAT : RegSpec :=
  ⟨"GLB_DB_STAT", 0x38, [], true,
   [fld "SEQ" 31 24 .ro 0x0,
    fld "DB" 7 0 .sc 0x0]⟩
def F.GLB_DB_STAT_SEQ : Fld := ⟨R.GLB_DB_STAT, 31, 24⟩
def F.GLB_DB_STAT_DB : Fld := ⟨R.GLB_DB_STAT, 7, 0⟩

/-- GLB_MODE (02_operating_modes.md R62). -/
def R.GLB_MODE : RegSpec :=
  ⟨"GLB_MODE", 0x40, [], false,
   [fld "FORCED" 15 15 .ro 0x1,
    fld "PREV" 14 12 .ro 0x0,
    fld "TRANSIT" 8 8 .ro 0x0,
    fld "TARGET" 6 4 .ro 0x0,
    fld "CUR" 2 0 .ro 0x0]⟩
def F.GLB_MODE_FORCED : Fld := ⟨R.GLB_MODE, 15, 15⟩
def F.GLB_MODE_PREV : Fld := ⟨R.GLB_MODE, 14, 12⟩
def F.GLB_MODE_TRANSIT : Fld := ⟨R.GLB_MODE, 8, 8⟩
def F.GLB_MODE_TARGET : Fld := ⟨R.GLB_MODE, 6, 4⟩
def F.GLB_MODE_CUR : Fld := ⟨R.GLB_MODE, 2, 0⟩

/-- GLB_MODE_REQ (02_operating_modes.md R63). -/
def R.GLB_MODE_REQ : RegSpec :=
  ⟨"GLB_MODE_REQ", 0x44, [], false,
   [fld "KEY" 15 8 .wo 0x0,
    fld "MODE" 2 0 .wo 0x0]⟩
def F.GLB_MODE_REQ_KEY : Fld := ⟨R.GLB_MODE_REQ, 15, 8⟩
def F.GLB_MODE_REQ_MODE : Fld := ⟨R.GLB_MODE_REQ, 2, 0⟩

/-- GLB_MODE_STAT (02_operating_modes.md R64). -/
def R.GLB_MODE_STAT : RegSpec :=
  ⟨"GLB_MODE_STAT", 0x48, [], false,
   [fld "SEQ" 31 24 .ro 0x0,
    fld "WAKE_SRC" 17 12 .ro 0x0,
    fld "REASON" 11 8 .ro 0x0,
    fld "MNT_DONE" 5 5 .sc 0x0,
    fld "BIST_DIRTY" 4 4 .sc 0x0,
    fld "WAKE" 3 3 .sc 0x0,
    fld "FORCED" 2 2 .sc 0x0,
    fld "REFUSED" 1 1 .sc 0x0,
    fld "DONE" 0 0 .sc 0x0]⟩
def F.GLB_MODE_STAT_SEQ : Fld := ⟨R.GLB_MODE_STAT, 31, 24⟩
def F.GLB_MODE_STAT_WAKE_SRC : Fld := ⟨R.GLB_MODE_STAT, 17, 12⟩
def F.GLB_MODE_STAT_REASON : Fld := ⟨R.GLB_MODE_STAT, 11, 8⟩
def F.GLB_MODE_STAT_MNT_DONE : Fld := ⟨R.GLB_MODE_STAT, 5, 5⟩
def F.GLB_MODE_STAT_BIST_DIRTY : Fld := ⟨R.GLB_MODE_STAT, 4, 4⟩
def F.GLB_MODE_STAT_WAKE : Fld := ⟨R.GLB_MODE_STAT, 3, 3⟩
def F.GLB_MODE_STAT_FORCED : Fld := ⟨R.GLB_MODE_STAT, 2, 2⟩
def F.GLB_MODE_STAT_REFUSED : Fld := ⟨R.GLB_MODE_STAT, 1, 1⟩
def F.GLB_MODE_STAT_DONE : Fld := ⟨R.GLB_MODE_STAT, 0, 0⟩

/-- GLB_MODE_PERMIT (02_operating_modes.md R65). -/
def R.GLB_MODE_PERMIT : RegSpec :=
  ⟨"GLB_MODE_PERMIT", 0x4C, [], false,
   [fld "INIT" 11 8 .ro 0x0 true,
    fld "PERMIT" 7 0 .ro 0x0 true]⟩
def F.GLB_MODE_PERMIT_INIT : Fld := ⟨R.GLB_MODE_PERMIT, 11, 8⟩
def F.GLB_MODE_PERMIT_PERMIT : Fld := ⟨R.GLB_MODE_PERMIT, 7, 0⟩

/-- GLB_PEWTER_CFG (02_operating_modes.md R66). -/
def R.GLB_PEWTER_CFG : RegSpec :=
  ⟨"GLB_PEWTER_CFG", 0x50, [], false,
   [fld "TIME_WAKE_EN" 0 0 .rw 0x0]⟩
def F.GLB_PEWTER_CFG_TIME_WAKE_EN : Fld := ⟨R.GLB_PEWTER_CFG, 0, 0⟩

/-- GLB_WAKE_SEC (02_operating_modes.md R66). -/
def R.GLB_WAKE_SEC : RegSpec :=
  ⟨"GLB_WAKE_SEC", 0x54, [], false,
   [fld "SEC" 31 0 .rw 0x0]⟩
def F.GLB_WAKE_SEC_SEC : Fld := ⟨R.GLB_WAKE_SEC, 31, 0⟩

/-- GLB_WAKE_NS (02_operating_modes.md R66). -/
def R.GLB_WAKE_NS : RegSpec :=
  ⟨"GLB_WAKE_NS", 0x58, [], false,
   [fld "NS" 29 0 .rw 0x0]⟩
def F.GLB_WAKE_NS_NS : Fld := ⟨R.GLB_WAKE_NS, 29, 0⟩

/-- GLB_KA_CFG (02_operating_modes.md R67). -/
def R.GLB_KA_CFG : RegSpec :=
  ⟨"GLB_KA_CFG", 0x60, [(4, 0x10)], false,
   [fld "EN" 31 31 .rw 0x0,
    fld "MATCH" 17 16 .rw 0x0,
    fld "PORT" 6 0 .rw 0x0]⟩
def F.GLB_KA_CFG_EN : Fld := ⟨R.GLB_KA_CFG, 31, 31⟩
def F.GLB_KA_CFG_MATCH : Fld := ⟨R.GLB_KA_CFG, 17, 16⟩
def F.GLB_KA_CFG_PORT : Fld := ⟨R.GLB_KA_CFG, 6, 0⟩

/-- GLB_KA_DA_A (02_operating_modes.md R67). -/
def R.GLB_KA_DA_A : RegSpec :=
  ⟨"GLB_KA_DA_A", 0x64, [(4, 0x10)], false,
   [fld "DA_HI" 31 0 .rw 0x0]⟩
def F.GLB_KA_DA_A_DA_HI : Fld := ⟨R.GLB_KA_DA_A, 31, 0⟩

/-- GLB_KA_DA_B (02_operating_modes.md R67). -/
def R.GLB_KA_DA_B : RegSpec :=
  ⟨"GLB_KA_DA_B", 0x68, [(4, 0x10)], false,
   [fld "DA_LO" 31 16 .rw 0x0,
    fld "ETYPE" 15 0 .rw 0x0]⟩
def F.GLB_KA_DA_B_DA_LO : Fld := ⟨R.GLB_KA_DA_B, 31, 16⟩
def F.GLB_KA_DA_B_ETYPE : Fld := ⟨R.GLB_KA_DA_B, 15, 0⟩

/-- GLB_MNT_CMD (02_operating_modes.md R68). -/
def R.GLB_MNT_CMD : RegSpec :=
  ⟨"GLB_MNT_CMD", 0xB0, [], false,
   [fld "KEY" 15 8 .wo 0x0,
    fld "MEM" 6 4 .wo 0x0,
    fld "OP" 1 0 .wo 0x0]⟩
def F.GLB_MNT_CMD_KEY : Fld := ⟨R.GLB_MNT_CMD, 15, 8⟩
def F.GLB_MNT_CMD_MEM : Fld := ⟨R.GLB_MNT_CMD, 6, 4⟩
def F.GLB_MNT_CMD_OP : Fld := ⟨R.GLB_MNT_CMD, 1, 0⟩

/-- GLB_MNT_STAT (02_operating_modes.md R68). -/
def R.GLB_MNT_STAT : RegSpec :=
  ⟨"GLB_MNT_STAT", 0xB4, [], false,
   [fld "BUSY" 31 31 .ro 0x0,
    fld "MEM" 30 28 .ro 0x0,
    fld "OP" 27 26 .ro 0x0,
    fld "REJECT" 11 8 .ro 0x0,
    fld "STATUS" 3 0 .ro 0x0]⟩
def F.GLB_MNT_STAT_BUSY : Fld := ⟨R.GLB_MNT_STAT, 31, 31⟩
def F.GLB_MNT_STAT_MEM : Fld := ⟨R.GLB_MNT_STAT, 30, 28⟩
def F.GLB_MNT_STAT_OP : Fld := ⟨R.GLB_MNT_STAT, 27, 26⟩
def F.GLB_MNT_STAT_REJECT : Fld := ⟨R.GLB_MNT_STAT, 11, 8⟩
def F.GLB_MNT_STAT_STATUS : Fld := ⟨R.GLB_MNT_STAT, 3, 0⟩

/-- GLB_MNT_RESULT (02_operating_modes.md R68). -/
def R.GLB_MNT_RESULT : RegSpec :=
  ⟨"GLB_MNT_RESULT", 0xB8, [], false,
   [fld "VALID" 31 31 .ro 0x0,
    fld "ADDR" 23 0 .ro 0x0]⟩
def F.GLB_MNT_RESULT_VALID : Fld := ⟨R.GLB_MNT_RESULT, 31, 31⟩
def F.GLB_MNT_RESULT_ADDR : Fld := ⟨R.GLB_MNT_RESULT, 23, 0⟩

/-- GLB_MNT_ERRS (02_operating_modes.md R68). -/
def R.GLB_MNT_ERRS : RegSpec :=
  ⟨"GLB_MNT_ERRS", 0xBC, [], false,
   [fld "CORR" 31 16 .ro 0x0,
    fld "UNC" 15 0 .ro 0x0]⟩
def F.GLB_MNT_ERRS_CORR : Fld := ⟨R.GLB_MNT_ERRS, 31, 16⟩
def F.GLB_MNT_ERRS_UNC : Fld := ⟨R.GLB_MNT_ERRS, 15, 0⟩

/-- GLB_SEM (15_host_ports_and_registers.md R456). -/
def R.GLB_SEM : RegSpec :=
  ⟨"GLB_SEM", 0x100, [(64, 0x4)], false,
   [fld "GOT" 31 31 .ro 0x0,
    fld "OWNER" 29 28 .ro 0x0,
    fld "RELEASE" 16 16 .wo 0x0,
    fld "TAG" 15 0 .rw 0x0]⟩
def F.GLB_SEM_GOT : Fld := ⟨R.GLB_SEM, 31, 31⟩
def F.GLB_SEM_OWNER : Fld := ⟨R.GLB_SEM, 29, 28⟩
def F.GLB_SEM_RELEASE : Fld := ⟨R.GLB_SEM, 16, 16⟩
def F.GLB_SEM_TAG : Fld := ⟨R.GLB_SEM, 15, 0⟩

/-- GLB_ADP_CFG (13_adaptive_mode.md R394). -/
def R.GLB_ADP_CFG : RegSpec :=
  ⟨"GLB_ADP_CFG", 0x200, [], false,
   [fld "PCTL" 25 16 .rw 0x3DE,
    fld "PERIOD" 9 0 .rw 0xA]⟩
def F.GLB_ADP_CFG_PCTL : Fld := ⟨R.GLB_ADP_CFG, 25, 16⟩
def F.GLB_ADP_CFG_PERIOD : Fld := ⟨R.GLB_ADP_CFG, 9, 0⟩

/-- GLB_ADP_STEP (13_adaptive_mode.md R394). -/
def R.GLB_ADP_STEP : RegSpec :=
  ⟨"GLB_ADP_STEP", 0x204, [], false,
   [fld "WSTEP" 27 16 .rw 0x40,
    fld "MIN_SAMP" 15 0 .rw 0x3E8]⟩
def F.GLB_ADP_STEP_WSTEP : Fld := ⟨R.GLB_ADP_STEP, 27, 16⟩
def F.GLB_ADP_STEP_MIN_SAMP : Fld := ⟨R.GLB_ADP_STEP, 15, 0⟩

/-- GLB_ADP_WSTEP_NS (13_adaptive_mode.md R394). -/
def R.GLB_ADP_WSTEP_NS : RegSpec :=
  ⟨"GLB_ADP_WSTEP_NS", 0x208, [], false,
   [fld "STEP" 23 0 .rw 0x3E8]⟩
def F.GLB_ADP_WSTEP_NS_STEP : Fld := ⟨R.GLB_ADP_WSTEP_NS, 23, 0⟩

/-- GLB_ADP_EVT (13_adaptive_mode.md R394). -/
def R.GLB_ADP_EVT : RegSpec :=
  ⟨"GLB_ADP_EVT", 0x20C, [], false,
   [fld "SEQ" 31 24 .ro 0x0,
    fld "WBOUND" 2 2 .sc 0x0,
    fld "CFG_ERR" 1 1 .sc 0x0,
    fld "STEP_DONE" 0 0 .sc 0x0]⟩
def F.GLB_ADP_EVT_SEQ : Fld := ⟨R.GLB_ADP_EVT, 31, 24⟩
def F.GLB_ADP_EVT_WBOUND : Fld := ⟨R.GLB_ADP_EVT, 2, 2⟩
def F.GLB_ADP_EVT_CFG_ERR : Fld := ⟨R.GLB_ADP_EVT, 1, 1⟩
def F.GLB_ADP_EVT_STEP_DONE : Fld := ⟨R.GLB_ADP_EVT, 0, 0⟩

/-- GLB_ADP_HSEL (13_adaptive_mode.md R394). -/
def R.GLB_ADP_HSEL : RegSpec :=
  ⟨"GLB_ADP_HSEL", 0x210, [], false,
   [fld "QUEUE" 10 8 .rw 0x0,
    fld "PORT" 6 0 .rw 0x0]⟩
def F.GLB_ADP_HSEL_QUEUE : Fld := ⟨R.GLB_ADP_HSEL, 10, 8⟩
def F.GLB_ADP_HSEL_PORT : Fld := ⟨R.GLB_ADP_HSEL, 6, 0⟩

/-- GLB_ADP_STEPS (13_adaptive_mode.md R394). -/
def R.GLB_ADP_STEPS : RegSpec :=
  ⟨"GLB_ADP_STEPS", 0x214, [], false,
   [fld "COUNT" 31 0 .rc 0x0]⟩
def F.GLB_ADP_STEPS_COUNT : Fld := ⟨R.GLB_ADP_STEPS, 31, 0⟩

/-- GLB_ADP_HBIN (13_adaptive_mode.md R394). -/
def R.GLB_ADP_HBIN : RegSpec :=
  ⟨"GLB_ADP_HBIN", 0x280, [(32, 0x4)], false,
   [fld "COUNT" 31 0 .ro 0x0]⟩
def F.GLB_ADP_HBIN_COUNT : Fld := ⟨R.GLB_ADP_HBIN, 31, 0⟩

/-- GLB_SEM_OWN (15_host_ports_and_registers.md R456). -/
def R.GLB_SEM_OWN : RegSpec :=
  ⟨"GLB_SEM_OWN", 0x300, [(4, 0x4)], false,
   [fld "OWN" 31 0 .ro 0x0]⟩
def F.GLB_SEM_OWN_OWN : Fld := ⟨R.GLB_SEM_OWN, 31, 0⟩

/-- GLB_INT_PEND_LO (15_host_ports_and_registers.md R456). -/
def R.GLB_INT_PEND_LO : RegSpec :=
  ⟨"GLB_INT_PEND_LO", 0x400, [], false,
   [fld "PEND" 31 0 .ro 0x0]⟩
def F.GLB_INT_PEND_LO_PEND : Fld := ⟨R.GLB_INT_PEND_LO, 31, 0⟩

/-- GLB_INT_PEND_HI (15_host_ports_and_registers.md R456). -/
def R.GLB_INT_PEND_HI : RegSpec :=
  ⟨"GLB_INT_PEND_HI", 0x404, [], false,
   [fld "PEND" 31 0 .ro 0x0]⟩
def F.GLB_INT_PEND_HI_PEND : Fld := ⟨R.GLB_INT_PEND_HI, 31, 0⟩

/-- GLB_INT_CFG (15_host_ports_and_registers.md R456). -/
def R.GLB_INT_CFG : RegSpec :=
  ⟨"GLB_INT_CFG", 0x410, [], true,
   [fld "HOLDOFF" 7 0 .rw 0x0]⟩
def F.GLB_INT_CFG_HOLDOFF : Fld := ⟨R.GLB_INT_CFG, 7, 0⟩

/-- GLB_ADP_PCFG (13_adaptive_mode.md R394). -/
def R.GLB_ADP_PCFG : RegSpec :=
  ⟨"GLB_ADP_PCFG", 0x1000, [(72, 0x40)], false,
   [fld "EN" 31 31 .rw 0x0,
    fld "WIN_EN" 30 30 .rw 0x0,
    fld "WQ" 26 24 .rw 0x0,
    fld "GIVE" 19 10 .rw 0x0,
    fld "GROW" 9 0 .rw 0x0]⟩
def F.GLB_ADP_PCFG_EN : Fld := ⟨R.GLB_ADP_PCFG, 31, 31⟩
def F.GLB_ADP_PCFG_WIN_EN : Fld := ⟨R.GLB_ADP_PCFG, 30, 30⟩
def F.GLB_ADP_PCFG_WQ : Fld := ⟨R.GLB_ADP_PCFG, 26, 24⟩
def F.GLB_ADP_PCFG_GIVE : Fld := ⟨R.GLB_ADP_PCFG, 19, 10⟩
def F.GLB_ADP_PCFG_GROW : Fld := ⟨R.GLB_ADP_PCFG, 9, 0⟩

/-- GLB_ADP_TGT_A (13_adaptive_mode.md R394). -/
def R.GLB_ADP_TGT_A : RegSpec :=
  ⟨"GLB_ADP_TGT_A", 0x1004, [(72, 0x40)], false,
   [fld "TGT" 29 0 .rw 0x3FFFFFFF]⟩
def F.GLB_ADP_TGT_A_TGT : Fld := ⟨R.GLB_ADP_TGT_A, 29, 0⟩

/-- GLB_ADP_TGT_B (13_adaptive_mode.md R394). -/
def R.GLB_ADP_TGT_B : RegSpec :=
  ⟨"GLB_ADP_TGT_B", 0x1008, [(72, 0x40)], false,
   [fld "TGT" 9 0 .rw 0x3FF]⟩
def F.GLB_ADP_TGT_B_TGT : Fld := ⟨R.GLB_ADP_TGT_B, 9, 0⟩

/-- GLB_ADP_WMIN_A (13_adaptive_mode.md R394). -/
def R.GLB_ADP_WMIN_A : RegSpec :=
  ⟨"GLB_ADP_WMIN_A", 0x100C, [(72, 0x40)], false,
   [fld "W1" 27 16 .rw 0x1,
    fld "W0" 11 0 .rw 0x1]⟩
def F.GLB_ADP_WMIN_A_W1 : Fld := ⟨R.GLB_ADP_WMIN_A, 27, 16⟩
def F.GLB_ADP_WMIN_A_W0 : Fld := ⟨R.GLB_ADP_WMIN_A, 11, 0⟩

/-- GLB_ADP_WMIN_B (13_adaptive_mode.md R394). -/
def R.GLB_ADP_WMIN_B : RegSpec :=
  ⟨"GLB_ADP_WMIN_B", 0x1010, [(72, 0x40)], false,
   [fld "W3" 27 16 .rw 0x1,
    fld "W2" 11 0 .rw 0x1]⟩
def F.GLB_ADP_WMIN_B_W3 : Fld := ⟨R.GLB_ADP_WMIN_B, 27, 16⟩
def F.GLB_ADP_WMIN_B_W2 : Fld := ⟨R.GLB_ADP_WMIN_B, 11, 0⟩

/-- GLB_ADP_WMIN_C (13_adaptive_mode.md R394). -/
def R.GLB_ADP_WMIN_C : RegSpec :=
  ⟨"GLB_ADP_WMIN_C", 0x1014, [(72, 0x40)], false,
   [fld "W4" 11 0 .rw 0x1]⟩
def F.GLB_ADP_WMIN_C_W4 : Fld := ⟨R.GLB_ADP_WMIN_C, 11, 0⟩

/-- GLB_ADP_WMAX_A (13_adaptive_mode.md R394). -/
def R.GLB_ADP_WMAX_A : RegSpec :=
  ⟨"GLB_ADP_WMAX_A", 0x1018, [(72, 0x40)], false,
   [fld "W1" 27 16 .rw 0xFFF,
    fld "W0" 11 0 .rw 0xFFF]⟩
def F.GLB_ADP_WMAX_A_W1 : Fld := ⟨R.GLB_ADP_WMAX_A, 27, 16⟩
def F.GLB_ADP_WMAX_A_W0 : Fld := ⟨R.GLB_ADP_WMAX_A, 11, 0⟩

/-- GLB_ADP_WMAX_B (13_adaptive_mode.md R394). -/
def R.GLB_ADP_WMAX_B : RegSpec :=
  ⟨"GLB_ADP_WMAX_B", 0x101C, [(72, 0x40)], false,
   [fld "W3" 27 16 .rw 0xFFF,
    fld "W2" 11 0 .rw 0xFFF]⟩
def F.GLB_ADP_WMAX_B_W3 : Fld := ⟨R.GLB_ADP_WMAX_B, 27, 16⟩
def F.GLB_ADP_WMAX_B_W2 : Fld := ⟨R.GLB_ADP_WMAX_B, 11, 0⟩

/-- GLB_ADP_WMAX_C (13_adaptive_mode.md R394). -/
def R.GLB_ADP_WMAX_C : RegSpec :=
  ⟨"GLB_ADP_WMAX_C", 0x1020, [(72, 0x40)], false,
   [fld "W4" 11 0 .rw 0xFFF]⟩
def F.GLB_ADP_WMAX_C_W4 : Fld := ⟨R.GLB_ADP_WMAX_C, 11, 0⟩

/-- GLB_ADP_GMIN (13_adaptive_mode.md R394). -/
def R.GLB_ADP_GMIN : RegSpec :=
  ⟨"GLB_ADP_GMIN", 0x1024, [(72, 0x40)], false,
   [fld "GMIN" 31 0 .rw 0x8]⟩
def F.GLB_ADP_GMIN_GMIN : Fld := ⟨R.GLB_ADP_GMIN, 31, 0⟩

/-- GLB_ADP_GMAX (13_adaptive_mode.md R394). -/
def R.GLB_ADP_GMAX : RegSpec :=
  ⟨"GLB_ADP_GMAX", 0x1028, [(72, 0x40)], false,
   [fld "GMAX" 31 0 .rw 0xFFFFFFFF]⟩
def F.GLB_ADP_GMAX_GMAX : Fld := ⟨R.GLB_ADP_GMAX, 31, 0⟩

/-- GLB_ADP_PCTL_A (13_adaptive_mode.md R394). -/
def R.GLB_ADP_PCTL_A : RegSpec :=
  ⟨"GLB_ADP_PCTL_A", 0x102C, [(72, 0x40)], false,
   [fld "PCTL" 29 0 .ro 0x0]⟩
def F.GLB_ADP_PCTL_A_PCTL : Fld := ⟨R.GLB_ADP_PCTL_A, 29, 0⟩

/-- GLB_ADP_PCTL_B (13_adaptive_mode.md R394). -/
def R.GLB_ADP_PCTL_B : RegSpec :=
  ⟨"GLB_ADP_PCTL_B", 0x1030, [(72, 0x40)], false,
   [fld "VALID" 23 16 .ro 0x0,
    fld "PCTL" 9 0 .ro 0x0]⟩
def F.GLB_ADP_PCTL_B_VALID : Fld := ⟨R.GLB_ADP_PCTL_B, 23, 16⟩
def F.GLB_ADP_PCTL_B_PCTL : Fld := ⟨R.GLB_ADP_PCTL_B, 9, 0⟩

/-- MSIX_ADDR_LO (15_host_ports_and_registers.md R450). -/
def R.MSIX_ADDR_LO : RegSpec :=
  ⟨"MSIX_ADDR_LO", 0x8000, [(64, 0x10)], true,
   [fld "ADDR" 31 0 .rw 0x0]⟩
def F.MSIX_ADDR_LO_ADDR : Fld := ⟨R.MSIX_ADDR_LO, 31, 0⟩

/-- MSIX_ADDR_HI (15_host_ports_and_registers.md R450). -/
def R.MSIX_ADDR_HI : RegSpec :=
  ⟨"MSIX_ADDR_HI", 0x8004, [(64, 0x10)], true,
   [fld "ADDR" 31 0 .rw 0x0]⟩
def F.MSIX_ADDR_HI_ADDR : Fld := ⟨R.MSIX_ADDR_HI, 31, 0⟩

/-- MSIX_DATA (15_host_ports_and_registers.md R450). -/
def R.MSIX_DATA : RegSpec :=
  ⟨"MSIX_DATA", 0x8008, [(64, 0x10)], true,
   [fld "DATA" 31 0 .rw 0x0]⟩
def F.MSIX_DATA_DATA : Fld := ⟨R.MSIX_DATA, 31, 0⟩

/-- MSIX_CTRL (15_host_ports_and_registers.md R450). -/
def R.MSIX_CTRL : RegSpec :=
  ⟨"MSIX_CTRL", 0x800C, [(64, 0x10)], true,
   [fld "MASKED" 0 0 .rw 0x1]⟩
def F.MSIX_CTRL_MASKED : Fld := ⟨R.MSIX_CTRL, 0, 0⟩

/-- MSIX_PBA (15_host_ports_and_registers.md R450). -/
def R.MSIX_PBA : RegSpec :=
  ⟨"MSIX_PBA", 0x8800, [(2, 0x4)], true,
   [fld "PBA" 31 0 .ro 0x0]⟩
def F.MSIX_PBA_PBA : Fld := ⟨R.MSIX_PBA, 31, 0⟩

def regsGlb : List RegSpec :=
  [R.GLB_ID, R.GLB_CFG, R.GLB_SYSID, R.GLB_ACC_ERR, R.GLB_ACC_ADDR, R.GLB_ACC_INFO,
   R.GLB_ACC_DATA, R.GLB_WMASK_HA, R.GLB_WMASK_HB, R.GLB_PCI_ID, R.GLB_HOST_STAT, R.GLB_SEM_EVT,
   R.GLB_DOORBELL, R.GLB_DB_STAT, R.GLB_MODE, R.GLB_MODE_REQ, R.GLB_MODE_STAT, R.GLB_MODE_PERMIT,
   R.GLB_PEWTER_CFG, R.GLB_WAKE_SEC, R.GLB_WAKE_NS, R.GLB_KA_CFG, R.GLB_KA_DA_A, R.GLB_KA_DA_B,
   R.GLB_MNT_CMD, R.GLB_MNT_STAT, R.GLB_MNT_RESULT, R.GLB_MNT_ERRS, R.GLB_SEM, R.GLB_ADP_CFG,
   R.GLB_ADP_STEP, R.GLB_ADP_WSTEP_NS, R.GLB_ADP_EVT, R.GLB_ADP_HSEL, R.GLB_ADP_STEPS, R.GLB_ADP_HBIN,
   R.GLB_SEM_OWN, R.GLB_INT_PEND_LO, R.GLB_INT_PEND_HI, R.GLB_INT_CFG, R.GLB_ADP_PCFG, R.GLB_ADP_TGT_A,
   R.GLB_ADP_TGT_B, R.GLB_ADP_WMIN_A, R.GLB_ADP_WMIN_B, R.GLB_ADP_WMIN_C, R.GLB_ADP_WMAX_A, R.GLB_ADP_WMAX_B,
   R.GLB_ADP_WMAX_C, R.GLB_ADP_GMIN, R.GLB_ADP_GMAX, R.GLB_ADP_PCTL_A, R.GLB_ADP_PCTL_B, R.MSIX_ADDR_LO,
   R.MSIX_ADDR_HI, R.MSIX_DATA, R.MSIX_CTRL, R.MSIX_PBA]

end Sys2Proof.Machine
end

