-- ==== Sys2Proof/Machine/RegsImg.lean ====
section
/-! DEFINITION. The registers of the Img extent: name, BAR0 offset, index strides and fields (access code, value after
POWER_ON reset; `img` marks a field the configuration image gives, which reads 0 until then, R7). From 19_configuration_image.md R556, in the spec's own field tables. -/

namespace Sys2Proof.Machine

/-- IMG_CFG (19_configuration_image.md R556). -/
def R.IMG_CFG : RegSpec :=
  ⟨"IMG_CFG", 0x90000, [], false,
   [fld "PATCH_EN" 0 0 .wol 0x0]⟩
def F.IMG_CFG_PATCH_EN : Fld := ⟨R.IMG_CFG, 0, 0⟩

/-- IMG_STAT (19_configuration_image.md R556). -/
def R.IMG_STAT : RegSpec :=
  ⟨"IMG_STAT", 0x90004, [], false,
   [fld "STATE" 31 28 .ro 0x0,
    fld "SRC" 27 26 .ro 0x0,
    fld "HOST" 25 25 .ro 0x0,
    fld "OPEN" 24 24 .ro 0x0,
    fld "PATCHED" 23 23 .ro 0x0,
    fld "BOOT_HOST" 22 22 .ro 0x0,
    fld "ERR_HOST" 11 8 .ro 0x0,
    fld "ERR_SLOT1" 7 4 .ro 0x0,
    fld "ERR_SLOT0" 3 0 .ro 0x0]⟩
def F.IMG_STAT_STATE : Fld := ⟨R.IMG_STAT, 31, 28⟩
def F.IMG_STAT_SRC : Fld := ⟨R.IMG_STAT, 27, 26⟩
def F.IMG_STAT_HOST : Fld := ⟨R.IMG_STAT, 25, 25⟩
def F.IMG_STAT_OPEN : Fld := ⟨R.IMG_STAT, 24, 24⟩
def F.IMG_STAT_PATCHED : Fld := ⟨R.IMG_STAT, 23, 23⟩
def F.IMG_STAT_BOOT_HOST : Fld := ⟨R.IMG_STAT, 22, 22⟩
def F.IMG_STAT_ERR_HOST : Fld := ⟨R.IMG_STAT, 11, 8⟩
def F.IMG_STAT_ERR_SLOT1 : Fld := ⟨R.IMG_STAT, 7, 4⟩
def F.IMG_STAT_ERR_SLOT0 : Fld := ⟨R.IMG_STAT, 3, 0⟩

/-- IMG_EVT (19_configuration_image.md R556). -/
def R.IMG_EVT : RegSpec :=
  ⟨"IMG_EVT", 0x90008, [], false,
   [fld "SEQ" 31 24 .ro 0x0,
    fld "FUSE_DONE" 5 5 .sc 0x0,
    fld "DISCARD" 4 4 .sc 0x0,
    fld "PATCH_ERR" 3 3 .sc 0x0,
    fld "PATCH_DONE" 2 2 .sc 0x0,
    fld "LOAD_FAIL" 1 1 .sc 0x0,
    fld "LOAD_DONE" 0 0 .sc 0x0]⟩
def F.IMG_EVT_SEQ : Fld := ⟨R.IMG_EVT, 31, 24⟩
def F.IMG_EVT_FUSE_DONE : Fld := ⟨R.IMG_EVT, 5, 5⟩
def F.IMG_EVT_DISCARD : Fld := ⟨R.IMG_EVT, 4, 4⟩
def F.IMG_EVT_PATCH_ERR : Fld := ⟨R.IMG_EVT, 3, 3⟩
def F.IMG_EVT_PATCH_DONE : Fld := ⟨R.IMG_EVT, 2, 2⟩
def F.IMG_EVT_LOAD_FAIL : Fld := ⟨R.IMG_EVT, 1, 1⟩
def F.IMG_EVT_LOAD_DONE : Fld := ⟨R.IMG_EVT, 0, 0⟩

/-- IMG_CTRL (19_configuration_image.md R556). -/
def R.IMG_CTRL : RegSpec :=
  ⟨"IMG_CTRL", 0x9000C, [], false,
   [fld "KEY" 15 8 .wo 0x0,
    fld "OP" 1 0 .wo 0x0]⟩
def F.IMG_CTRL_KEY : Fld := ⟨R.IMG_CTRL, 15, 8⟩
def F.IMG_CTRL_OP : Fld := ⟨R.IMG_CTRL, 1, 0⟩

/-- IMG_VER (19_configuration_image.md R556). -/
def R.IMG_VER : RegSpec :=
  ⟨"IMG_VER", 0x90010, [], false,
   [fld "MAJOR" 31 24 .ro 0x0 true,
    fld "MINOR" 23 16 .ro 0x0 true,
    fld "BUILD" 15 0 .ro 0x0 true]⟩
def F.IMG_VER_MAJOR : Fld := ⟨R.IMG_VER, 31, 24⟩
def F.IMG_VER_MINOR : Fld := ⟨R.IMG_VER, 23, 16⟩
def F.IMG_VER_BUILD : Fld := ⟨R.IMG_VER, 15, 0⟩

/-- IMG_SVN (19_configuration_image.md R556). -/
def R.IMG_SVN : RegSpec :=
  ⟨"IMG_SVN", 0x90014, [], false,
   [fld "SVN" 31 0 .ro 0x0 true]⟩
def F.IMG_SVN_SVN : Fld := ⟨R.IMG_SVN, 31, 0⟩

/-- IMG_INFO (19_configuration_image.md R556). -/
def R.IMG_INFO : RegSpec :=
  ⟨"IMG_INFO", 0x90018, [], false,
   [fld "FORERUNNER" 31 31 .ro 0x0 true,
    fld "ALLOW_PATCH" 30 30 .ro 0x0 true,
    fld "KEY_IDX" 29 28 .ro 0x0 true,
    fld "NSECT" 2 0 .ro 0x0 true]⟩
def F.IMG_INFO_FORERUNNER : Fld := ⟨R.IMG_INFO, 31, 31⟩
def F.IMG_INFO_ALLOW_PATCH : Fld := ⟨R.IMG_INFO, 30, 30⟩
def F.IMG_INFO_KEY_IDX : Fld := ⟨R.IMG_INFO, 29, 28⟩
def F.IMG_INFO_NSECT : Fld := ⟨R.IMG_INFO, 2, 0⟩

/-- IMG_LEN (19_configuration_image.md R556). -/
def R.IMG_LEN : RegSpec :=
  ⟨"IMG_LEN", 0x9001C, [], false,
   [fld "LEN" 23 0 .ro 0x0 true]⟩
def F.IMG_LEN_LEN : Fld := ⟨R.IMG_LEN, 23, 0⟩

/-- IMG_COUNT (19_configuration_image.md R556). -/
def R.IMG_COUNT : RegSpec :=
  ⟨"IMG_COUNT", 0x90020, [], false,
   [fld "BYTES" 23 0 .ro 0x0]⟩
def F.IMG_COUNT_BYTES : Fld := ⟨R.IMG_COUNT, 23, 0⟩

/-- IMG_ERR_OFS (19_configuration_image.md R556). -/
def R.IMG_ERR_OFS : RegSpec :=
  ⟨"IMG_ERR_OFS", 0x90024, [], false,
   [fld "OFS" 23 0 .ro 0x0]⟩
def F.IMG_ERR_OFS_OFS : Fld := ⟨R.IMG_ERR_OFS, 23, 0⟩

/-- IMG_DIGEST (19_configuration_image.md R556). -/
def R.IMG_DIGEST : RegSpec :=
  ⟨"IMG_DIGEST", 0x90040, [(12, 0x4)], false,
   [fld "DIGEST" 31 0 .ro 0x0 true]⟩
def F.IMG_DIGEST_DIGEST : Fld := ⟨R.IMG_DIGEST, 31, 0⟩

/-- IMG_PATCH_CMD (19_configuration_image.md R556). -/
def R.IMG_PATCH_CMD : RegSpec :=
  ⟨"IMG_PATCH_CMD", 0x90080, [], false,
   [fld "KEY" 15 8 .pw 0x0,
    fld "NWORDS" 4 0 .pw 0x0]⟩
def F.IMG_PATCH_CMD_KEY : Fld := ⟨R.IMG_PATCH_CMD, 15, 8⟩
def F.IMG_PATCH_CMD_NWORDS : Fld := ⟨R.IMG_PATCH_CMD, 4, 0⟩

/-- IMG_PATCH_STAT (19_configuration_image.md R556). -/
def R.IMG_PATCH_STAT : RegSpec :=
  ⟨"IMG_PATCH_STAT", 0x90084, [], false,
   [fld "BUSY" 31 31 .ro 0x0,
    fld "STATUS" 3 0 .ro 0x0]⟩
def F.IMG_PATCH_STAT_BUSY : Fld := ⟨R.IMG_PATCH_STAT, 31, 31⟩
def F.IMG_PATCH_STAT_STATUS : Fld := ⟨R.IMG_PATCH_STAT, 3, 0⟩

/-- IMG_PATCH_CRC (19_configuration_image.md R556). -/
def R.IMG_PATCH_CRC : RegSpec :=
  ⟨"IMG_PATCH_CRC", 0x9008C, [], false,
   [fld "CRC" 31 0 .ro 0x0]⟩
def F.IMG_PATCH_CRC_CRC : Fld := ⟨R.IMG_PATCH_CRC, 31, 0⟩

/-- IMG_PATCH_CNT (19_configuration_image.md R556). -/
def R.IMG_PATCH_CNT : RegSpec :=
  ⟨"IMG_PATCH_CNT", 0x90090, [], false,
   [fld "COUNT" 8 0 .ro 0x0]⟩
def F.IMG_PATCH_CNT_COUNT : Fld := ⟨R.IMG_PATCH_CNT, 8, 0⟩

/-- IMG_PATCH_LOG_SEL (19_configuration_image.md R556). -/
def R.IMG_PATCH_LOG_SEL : RegSpec :=
  ⟨"IMG_PATCH_LOG_SEL", 0x90094, [], false,
   [fld "ENTRY" 7 0 .rw 0x0]⟩
def F.IMG_PATCH_LOG_SEL_ENTRY : Fld := ⟨R.IMG_PATCH_LOG_SEL, 7, 0⟩

/-- IMG_PATCH_LOG_A (19_configuration_image.md R556). -/
def R.IMG_PATCH_LOG_A : RegSpec :=
  ⟨"IMG_PATCH_LOG_A", 0x90098, [], false,
   [fld "VALID" 31 31 .ro 0x0,
    fld "HOST" 30 30 .ro 0x0,
    fld "STAGED" 29 29 .ro 0x0,
    fld "TARGET" 23 16 .ro 0x0,
    fld "RTYPE" 15 8 .ro 0x0,
    fld "COUNT" 7 0 .ro 0x0]⟩
def F.IMG_PATCH_LOG_A_VALID : Fld := ⟨R.IMG_PATCH_LOG_A, 31, 31⟩
def F.IMG_PATCH_LOG_A_HOST : Fld := ⟨R.IMG_PATCH_LOG_A, 30, 30⟩
def F.IMG_PATCH_LOG_A_STAGED : Fld := ⟨R.IMG_PATCH_LOG_A, 29, 29⟩
def F.IMG_PATCH_LOG_A_TARGET : Fld := ⟨R.IMG_PATCH_LOG_A, 23, 16⟩
def F.IMG_PATCH_LOG_A_RTYPE : Fld := ⟨R.IMG_PATCH_LOG_A, 15, 8⟩
def F.IMG_PATCH_LOG_A_COUNT : Fld := ⟨R.IMG_PATCH_LOG_A, 7, 0⟩

/-- IMG_PATCH_LOG_B (19_configuration_image.md R556). -/
def R.IMG_PATCH_LOG_B : RegSpec :=
  ⟨"IMG_PATCH_LOG_B", 0x9009C, [], false,
   [fld "ADDR" 31 0 .ro 0x0]⟩
def F.IMG_PATCH_LOG_B_ADDR : Fld := ⟨R.IMG_PATCH_LOG_B, 31, 0⟩

/-- IMG_PATCH_LOG_C (19_configuration_image.md R556). -/
def R.IMG_PATCH_LOG_C : RegSpec :=
  ⟨"IMG_PATCH_LOG_C", 0x900A0, [], false,
   [fld "CRC" 31 0 .ro 0x0]⟩
def F.IMG_PATCH_LOG_C_CRC : Fld := ⟨R.IMG_PATCH_LOG_C, 31, 0⟩

/-- IMG_PATCH_LOG_D (19_configuration_image.md R556). -/
def R.IMG_PATCH_LOG_D : RegSpec :=
  ⟨"IMG_PATCH_LOG_D", 0x900A4, [], false,
   [fld "TS" 31 0 .ro 0x0]⟩
def F.IMG_PATCH_LOG_D_TS : Fld := ⟨R.IMG_PATCH_LOG_D, 31, 0⟩

/-- IMG_PATCH_DATA (19_configuration_image.md R556). -/
def R.IMG_PATCH_DATA : RegSpec :=
  ⟨"IMG_PATCH_DATA", 0x900C0, [(16, 0x4)], false,
   [fld "DATA" 31 0 .rw 0x0]⟩
def F.IMG_PATCH_DATA_DATA : Fld := ⟨R.IMG_PATCH_DATA, 31, 0⟩

/-- IMG_FUSE_CMD (19_configuration_image.md R556). -/
def R.IMG_FUSE_CMD : RegSpec :=
  ⟨"IMG_FUSE_CMD", 0x90100, [], false,
   [fld "KEY" 15 8 .pw 0x0,
    fld "WORD" 5 0 .pw 0x0]⟩
def F.IMG_FUSE_CMD_KEY : Fld := ⟨R.IMG_FUSE_CMD, 15, 8⟩
def F.IMG_FUSE_CMD_WORD : Fld := ⟨R.IMG_FUSE_CMD, 5, 0⟩

/-- IMG_FUSE_DATA (19_configuration_image.md R556). -/
def R.IMG_FUSE_DATA : RegSpec :=
  ⟨"IMG_FUSE_DATA", 0x90104, [], false,
   [fld "DATA" 31 0 .rw 0x0]⟩
def F.IMG_FUSE_DATA_DATA : Fld := ⟨R.IMG_FUSE_DATA, 31, 0⟩

/-- IMG_FUSE_STAT (19_configuration_image.md R556). -/
def R.IMG_FUSE_STAT : RegSpec :=
  ⟨"IMG_FUSE_STAT", 0x90108, [], false,
   [fld "BUSY" 31 31 .ro 0x0,
    fld "VPP" 30 30 .ro 0x0,
    fld "STATUS" 1 0 .ro 0x0]⟩
def F.IMG_FUSE_STAT_BUSY : Fld := ⟨R.IMG_FUSE_STAT, 31, 31⟩
def F.IMG_FUSE_STAT_VPP : Fld := ⟨R.IMG_FUSE_STAT, 30, 30⟩
def F.IMG_FUSE_STAT_STATUS : Fld := ⟨R.IMG_FUSE_STAT, 1, 0⟩

/-- IMG_FUSE (19_configuration_image.md R556). -/
def R.IMG_FUSE : RegSpec :=
  ⟨"IMG_FUSE", 0x90140, [(48, 0x4)], false,
   [fld "FUSE" 31 0 .ro 0x0]⟩
def F.IMG_FUSE_FUSE : Fld := ⟨R.IMG_FUSE, 31, 0⟩

def regsImg : List RegSpec :=
  [R.IMG_CFG, R.IMG_STAT, R.IMG_EVT, R.IMG_CTRL, R.IMG_VER, R.IMG_SVN,
   R.IMG_INFO, R.IMG_LEN, R.IMG_COUNT, R.IMG_ERR_OFS, R.IMG_DIGEST, R.IMG_PATCH_CMD,
   R.IMG_PATCH_STAT, R.IMG_PATCH_CRC, R.IMG_PATCH_CNT, R.IMG_PATCH_LOG_SEL, R.IMG_PATCH_LOG_A, R.IMG_PATCH_LOG_B,
   R.IMG_PATCH_LOG_C, R.IMG_PATCH_LOG_D, R.IMG_PATCH_DATA, R.IMG_FUSE_CMD, R.IMG_FUSE_DATA, R.IMG_FUSE_STAT,
   R.IMG_FUSE]

end Sys2Proof.Machine
end

