-- ==== Sys2Proof/Machine/RegsInv.lean ====
section
/-! DEFINITION. The registers of the Inv extent: name, BAR0 offset, index strides and fields (access code, value after
POWER_ON reset; `img` marks a field the configuration image gives, which reads 0 until then, R7). From 11_invar_time_unit.md R336; 11_invar_time_unit.md R337; 11_invar_time_unit.md R338; 11_invar_time_unit.md R339, in the spec's own field tables. -/

namespace Sys2Proof.Machine

/-- INV_STAT (11_invar_time_unit.md R336). -/
def R.INV_STAT : RegSpec :=
  ⟨"INV_STAT", 0x30000, [], false,
   [fld "BUSY" 31 31 .ro 0x0,
    fld "SLEWING" 7 4 .ro 0x0,
    fld "GEN" 3 0 .ro 0x0]⟩
def F.INV_STAT_BUSY : Fld := ⟨R.INV_STAT, 31, 31⟩
def F.INV_STAT_SLEWING : Fld := ⟨R.INV_STAT, 7, 4⟩
def F.INV_STAT_GEN : Fld := ⟨R.INV_STAT, 3, 0⟩

/-- INV_EVT (11_invar_time_unit.md R336). -/
def R.INV_EVT : RegSpec :=
  ⟨"INV_EVT", 0x30004, [], false,
   [fld "SEQ" 31 24 .ro 0x0,
    fld "PTP_SKIP" 6 6 .sc 0x0,
    fld "CFG_ERR" 5 5 .sc 0x0,
    fld "CYC_CHG_DONE" 4 4 .sc 0x0,
    fld "TIO_OVF" 3 3 .sc 0x0,
    fld "TIO_CAP" 2 2 .sc 0x0,
    fld "SLEW_DONE" 1 1 .sc 0x0,
    fld "STEP" 0 0 .sc 0x0]⟩
def F.INV_EVT_SEQ : Fld := ⟨R.INV_EVT, 31, 24⟩
def F.INV_EVT_PTP_SKIP : Fld := ⟨R.INV_EVT, 6, 6⟩
def F.INV_EVT_CFG_ERR : Fld := ⟨R.INV_EVT, 5, 5⟩
def F.INV_EVT_CYC_CHG_DONE : Fld := ⟨R.INV_EVT, 4, 4⟩
def F.INV_EVT_TIO_OVF : Fld := ⟨R.INV_EVT, 3, 3⟩
def F.INV_EVT_TIO_CAP : Fld := ⟨R.INV_EVT, 2, 2⟩
def F.INV_EVT_SLEW_DONE : Fld := ⟨R.INV_EVT, 1, 1⟩
def F.INV_EVT_STEP : Fld := ⟨R.INV_EVT, 0, 0⟩

/-- INV_CMD (11_invar_time_unit.md R336). -/
def R.INV_CMD : RegSpec :=
  ⟨"INV_CMD", 0x30008, [], false,
   [fld "DOMAIN" 5 4 .pw 0x0,
    fld "OP" 3 0 .pw 0x0]⟩
def F.INV_CMD_DOMAIN : Fld := ⟨R.INV_CMD, 5, 4⟩
def F.INV_CMD_OP : Fld := ⟨R.INV_CMD, 3, 0⟩

/-- INV_PTP_SKIP (11_invar_time_unit.md R336). -/
def R.INV_PTP_SKIP : RegSpec :=
  ⟨"INV_PTP_SKIP", 0x30010, [(6, 0x4)], false,
   [fld "COUNT" 31 0 .rc 0x0]⟩
def F.INV_PTP_SKIP_COUNT : Fld := ⟨R.INV_PTP_SKIP, 31, 0⟩

/-- INV_PTP_DMAP (11_invar_time_unit.md R336). -/
def R.INV_PTP_DMAP : RegSpec :=
  ⟨"INV_PTP_DMAP", 0x30030, [(4, 0x4)], false,
   [fld "EN" 31 31 .rw 0x0,
    fld "TD" 9 8 .rw 0x0,
    fld "DNUM" 7 0 .rw 0x0]⟩
def F.INV_PTP_DMAP_EN : Fld := ⟨R.INV_PTP_DMAP, 31, 31⟩
def F.INV_PTP_DMAP_TD : Fld := ⟨R.INV_PTP_DMAP, 9, 8⟩
def F.INV_PTP_DMAP_DNUM : Fld := ⟨R.INV_PTP_DMAP, 7, 0⟩

/-- INV_CYC_CTRL (11_invar_time_unit.md R337). -/
def R.INV_CYC_CTRL : RegSpec :=
  ⟨"INV_CYC_CTRL", 0x30040, [], false,
   [fld "EN" 31 31 .rw 0x0 true]⟩
def F.INV_CYC_CTRL_EN : Fld := ⟨R.INV_CYC_CTRL, 31, 31⟩

/-- INV_CYC_CHG (11_invar_time_unit.md R337). -/
def R.INV_CYC_CHG : RegSpec :=
  ⟨"INV_CYC_CHG", 0x30044, [], false,
   [fld "KEY" 15 8 .wo 0x0,
    fld "CANCEL" 1 1 .wo 0x0,
    fld "GO" 0 0 .wo 0x0]⟩
def F.INV_CYC_CHG_KEY : Fld := ⟨R.INV_CYC_CHG, 15, 8⟩
def F.INV_CYC_CHG_CANCEL : Fld := ⟨R.INV_CYC_CHG, 1, 1⟩
def F.INV_CYC_CHG_GO : Fld := ⟨R.INV_CYC_CHG, 0, 0⟩

/-- INV_CYC_STAT (11_invar_time_unit.md R337). -/
def R.INV_CYC_STAT : RegSpec :=
  ⟨"INV_CYC_STAT", 0x30048, [], false,
   [fld "CHG_PEND" 31 31 .ro 0x0,
    fld "RUNNING" 30 30 .ro 0x0,
    fld "CHG_ERR" 28 26 .ro 0x0]⟩
def F.INV_CYC_STAT_CHG_PEND : Fld := ⟨R.INV_CYC_STAT, 31, 31⟩
def F.INV_CYC_STAT_RUNNING : Fld := ⟨R.INV_CYC_STAT, 30, 30⟩
def F.INV_CYC_STAT_CHG_ERR : Fld := ⟨R.INV_CYC_STAT, 28, 26⟩

/-- INV_CYC_ADM_PERIOD (11_invar_time_unit.md R337). -/
def R.INV_CYC_ADM_PERIOD : RegSpec :=
  ⟨"INV_CYC_ADM_PERIOD", 0x3004C, [], false,
   [fld "PERIOD" 23 0 .rw 0x0]⟩
def F.INV_CYC_ADM_PERIOD_PERIOD : Fld := ⟨R.INV_CYC_ADM_PERIOD, 23, 0⟩

/-- INV_CYC_ADM_BASE_SEC (11_invar_time_unit.md R337). -/
def R.INV_CYC_ADM_BASE_SEC : RegSpec :=
  ⟨"INV_CYC_ADM_BASE_SEC", 0x30050, [], false,
   [fld "SEC" 31 0 .rw 0x0]⟩
def F.INV_CYC_ADM_BASE_SEC_SEC : Fld := ⟨R.INV_CYC_ADM_BASE_SEC, 31, 0⟩

/-- INV_CYC_ADM_BASE_NS (11_invar_time_unit.md R337). -/
def R.INV_CYC_ADM_BASE_NS : RegSpec :=
  ⟨"INV_CYC_ADM_BASE_NS", 0x30054, [], false,
   [fld "NS" 29 0 .rw 0x0]⟩
def F.INV_CYC_ADM_BASE_NS_NS : Fld := ⟨R.INV_CYC_ADM_BASE_NS, 29, 0⟩

/-- INV_CYC_OPER_PERIOD (11_invar_time_unit.md R337). -/
def R.INV_CYC_OPER_PERIOD : RegSpec :=
  ⟨"INV_CYC_OPER_PERIOD", 0x30058, [], false,
   [fld "PERIOD" 23 0 .ro 0x0 true]⟩
def F.INV_CYC_OPER_PERIOD_PERIOD : Fld := ⟨R.INV_CYC_OPER_PERIOD, 23, 0⟩

/-- INV_CYC_OPER_BASE_SEC (11_invar_time_unit.md R337). -/
def R.INV_CYC_OPER_BASE_SEC : RegSpec :=
  ⟨"INV_CYC_OPER_BASE_SEC", 0x3005C, [], false,
   [fld "SEC" 31 0 .ro 0x0 true]⟩
def F.INV_CYC_OPER_BASE_SEC_SEC : Fld := ⟨R.INV_CYC_OPER_BASE_SEC, 31, 0⟩

/-- INV_CYC_OPER_BASE_NS (11_invar_time_unit.md R337). -/
def R.INV_CYC_OPER_BASE_NS : RegSpec :=
  ⟨"INV_CYC_OPER_BASE_NS", 0x30060, [], false,
   [fld "NS" 29 0 .ro 0x0 true]⟩
def F.INV_CYC_OPER_BASE_NS_NS : Fld := ⟨R.INV_CYC_OPER_BASE_NS, 29, 0⟩

/-- INV_CYC_CHG_SEC (11_invar_time_unit.md R337). -/
def R.INV_CYC_CHG_SEC : RegSpec :=
  ⟨"INV_CYC_CHG_SEC", 0x30064, [], false,
   [fld "SEC" 31 0 .ro 0x0]⟩
def F.INV_CYC_CHG_SEC_SEC : Fld := ⟨R.INV_CYC_CHG_SEC, 31, 0⟩

/-- INV_CYC_CHG_NS (11_invar_time_unit.md R337). -/
def R.INV_CYC_CHG_NS : RegSpec :=
  ⟨"INV_CYC_CHG_NS", 0x30068, [], false,
   [fld "NS" 29 0 .ro 0x0]⟩
def F.INV_CYC_CHG_NS_NS : Fld := ⟨R.INV_CYC_CHG_NS, 29, 0⟩

/-- INV_CYC_CNT (11_invar_time_unit.md R337). -/
def R.INV_CYC_CNT : RegSpec :=
  ⟨"INV_CYC_CNT", 0x3006C, [], false,
   [fld "COUNT" 31 0 .ro 0x0]⟩
def F.INV_CYC_CNT_COUNT : Fld := ⟨R.INV_CYC_CNT, 31, 0⟩

/-- INV_TD_NS (11_invar_time_unit.md R336). -/
def R.INV_TD_NS : RegSpec :=
  ⟨"INV_TD_NS", 0x30100, [(4, 0x40)], false,
   [fld "NS" 29 0 .ro 0x0]⟩
def F.INV_TD_NS_NS : Fld := ⟨R.INV_TD_NS, 29, 0⟩

/-- INV_TD_SEC_LO (11_invar_time_unit.md R336). -/
def R.INV_TD_SEC_LO : RegSpec :=
  ⟨"INV_TD_SEC_LO", 0x30104, [(4, 0x40)], false,
   [fld "SEC" 31 0 .ro 0x0]⟩
def F.INV_TD_SEC_LO_SEC : Fld := ⟨R.INV_TD_SEC_LO, 31, 0⟩

/-- INV_TD_SEC_HI (11_invar_time_unit.md R336). -/
def R.INV_TD_SEC_HI : RegSpec :=
  ⟨"INV_TD_SEC_HI", 0x30108, [(4, 0x40)], false,
   [fld "SEC" 15 0 .ro 0x0]⟩
def F.INV_TD_SEC_HI_SEC : Fld := ⟨R.INV_TD_SEC_HI, 15, 0⟩

/-- INV_TD_FRAC (11_invar_time_unit.md R336). -/
def R.INV_TD_FRAC : RegSpec :=
  ⟨"INV_TD_FRAC", 0x3010C, [(4, 0x40)], false,
   [fld "FRAC" 15 0 .ro 0x0]⟩
def F.INV_TD_FRAC_FRAC : Fld := ⟨R.INV_TD_FRAC, 15, 0⟩

/-- INV_TD_SNS (11_invar_time_unit.md R336). -/
def R.INV_TD_SNS : RegSpec :=
  ⟨"INV_TD_SNS", 0x30110, [(4, 0x40)], false,
   [fld "NS" 29 0 .ro 0x0]⟩
def F.INV_TD_SNS_NS : Fld := ⟨R.INV_TD_SNS, 29, 0⟩

/-- INV_TD_RATE_LO (11_invar_time_unit.md R336). -/
def R.INV_TD_RATE_LO : RegSpec :=
  ⟨"INV_TD_RATE_LO", 0x30114, [(4, 0x40)], false,
   [fld "RATE" 31 0 .rw 0x0]⟩
def F.INV_TD_RATE_LO_RATE : Fld := ⟨R.INV_TD_RATE_LO, 31, 0⟩

/-- INV_TD_RATE_HI (11_invar_time_unit.md R336). -/
def R.INV_TD_RATE_HI : RegSpec :=
  ⟨"INV_TD_RATE_HI", 0x30118, [(4, 0x40)], false,
   [fld "RATE" 7 0 .pw 0x0]⟩
def F.INV_TD_RATE_HI_RATE : Fld := ⟨R.INV_TD_RATE_HI, 7, 0⟩

/-- INV_TD_SET_NS (11_invar_time_unit.md R336). -/
def R.INV_TD_SET_NS : RegSpec :=
  ⟨"INV_TD_SET_NS", 0x3011C, [(4, 0x40)], false,
   [fld "NS" 29 0 .rw 0x0]⟩
def F.INV_TD_SET_NS_NS : Fld := ⟨R.INV_TD_SET_NS, 29, 0⟩

/-- INV_TD_SET_SEC_LO (11_invar_time_unit.md R336). -/
def R.INV_TD_SET_SEC_LO : RegSpec :=
  ⟨"INV_TD_SET_SEC_LO", 0x30120, [(4, 0x40)], false,
   [fld "SEC" 31 0 .rw 0x0]⟩
def F.INV_TD_SET_SEC_LO_SEC : Fld := ⟨R.INV_TD_SET_SEC_LO, 31, 0⟩

/-- INV_TD_SET_SEC_HI (11_invar_time_unit.md R336). -/
def R.INV_TD_SET_SEC_HI : RegSpec :=
  ⟨"INV_TD_SET_SEC_HI", 0x30124, [(4, 0x40)], false,
   [fld "SEC" 15 0 .rw 0x0]⟩
def F.INV_TD_SET_SEC_HI_SEC : Fld := ⟨R.INV_TD_SET_SEC_HI, 15, 0⟩

/-- INV_TD_OFS_LO (11_invar_time_unit.md R336). -/
def R.INV_TD_OFS_LO : RegSpec :=
  ⟨"INV_TD_OFS_LO", 0x30128, [(4, 0x40)], false,
   [fld "OFS" 31 0 .rw 0x0]⟩
def F.INV_TD_OFS_LO_OFS : Fld := ⟨R.INV_TD_OFS_LO, 31, 0⟩

/-- INV_TD_OFS_HI (11_invar_time_unit.md R336). -/
def R.INV_TD_OFS_HI : RegSpec :=
  ⟨"INV_TD_OFS_HI", 0x3012C, [(4, 0x40)], false,
   [fld "OFS" 31 0 .rw 0x0]⟩
def F.INV_TD_OFS_HI_OFS : Fld := ⟨R.INV_TD_OFS_HI, 31, 0⟩

/-- INV_TD_ADJ (11_invar_time_unit.md R336). -/
def R.INV_TD_ADJ : RegSpec :=
  ⟨"INV_TD_ADJ", 0x30130, [(4, 0x40)], false,
   [fld "ADJ" 31 0 .rw 0x0]⟩
def F.INV_TD_ADJ_ADJ : Fld := ⟨R.INV_TD_ADJ, 31, 0⟩

/-- INV_TD_SLEW_REM (11_invar_time_unit.md R336). -/
def R.INV_TD_SLEW_REM : RegSpec :=
  ⟨"INV_TD_SLEW_REM", 0x30134, [(4, 0x40)], false,
   [fld "REM" 31 0 .ro 0x0]⟩
def F.INV_TD_SLEW_REM_REM : Fld := ⟨R.INV_TD_SLEW_REM, 31, 0⟩

/-- INV_TD_RR (11_invar_time_unit.md R336). -/
def R.INV_TD_RR : RegSpec :=
  ⟨"INV_TD_RR", 0x30138, [(4, 0x40)], false,
   [fld "RRDEV" 31 0 .rw 0x0]⟩
def F.INV_TD_RR_RRDEV : Fld := ⟨R.INV_TD_RR, 31, 0⟩

/-- INV_TD_SLEW_CFG (11_invar_time_unit.md R336). -/
def R.INV_TD_SLEW_CFG : RegSpec :=
  ⟨"INV_TD_SLEW_CFG", 0x3013C, [(4, 0x40)], false,
   [fld "SHIFT" 4 0 .rw 0x10]⟩
def F.INV_TD_SLEW_CFG_SHIFT : Fld := ⟨R.INV_TD_SLEW_CFG, 4, 0⟩

/-- INV_TIO_CFG (11_invar_time_unit.md R338). -/
def R.INV_TIO_CFG : RegSpec :=
  ⟨"INV_TIO_CFG", 0x30200, [(16, 0x20)], false,
   [fld "EN" 31 31 .rw 0x0,
    fld "IDLE" 10 10 .rwe 0x0,
    fld "LEVEL" 9 9 .rwe 0x0,
    fld "TD" 5 4 .rwe 0x0,
    fld "MODE" 2 0 .rwe 0x0]⟩
def F.INV_TIO_CFG_EN : Fld := ⟨R.INV_TIO_CFG, 31, 31⟩
def F.INV_TIO_CFG_IDLE : Fld := ⟨R.INV_TIO_CFG, 10, 10⟩
def F.INV_TIO_CFG_LEVEL : Fld := ⟨R.INV_TIO_CFG, 9, 9⟩
def F.INV_TIO_CFG_TD : Fld := ⟨R.INV_TIO_CFG, 5, 4⟩
def F.INV_TIO_CFG_MODE : Fld := ⟨R.INV_TIO_CFG, 2, 0⟩

/-- INV_TIO_T_SEC (11_invar_time_unit.md R338). -/
def R.INV_TIO_T_SEC : RegSpec :=
  ⟨"INV_TIO_T_SEC", 0x30204, [(16, 0x20)], false,
   [fld "SEC" 31 0 .rwe 0x0]⟩
def F.INV_TIO_T_SEC_SEC : Fld := ⟨R.INV_TIO_T_SEC, 31, 0⟩

/-- INV_TIO_T_NS (11_invar_time_unit.md R338). -/
def R.INV_TIO_T_NS : RegSpec :=
  ⟨"INV_TIO_T_NS", 0x30208, [(16, 0x20)], false,
   [fld "NS" 29 0 .rwe 0x0]⟩
def F.INV_TIO_T_NS_NS : Fld := ⟨R.INV_TIO_T_NS, 29, 0⟩

/-- INV_TIO_PER (11_invar_time_unit.md R338). -/
def R.INV_TIO_PER : RegSpec :=
  ⟨"INV_TIO_PER", 0x3020C, [(16, 0x20)], false,
   [fld "PER" 31 0 .rwe 0x0]⟩
def F.INV_TIO_PER_PER : Fld := ⟨R.INV_TIO_PER, 31, 0⟩

/-- INV_TIO_WIDTH (11_invar_time_unit.md R338). -/
def R.INV_TIO_WIDTH : RegSpec :=
  ⟨"INV_TIO_WIDTH", 0x30210, [(16, 0x20)], false,
   [fld "WIDTH" 31 0 .rwe 0x0]⟩
def F.INV_TIO_WIDTH_WIDTH : Fld := ⟨R.INV_TIO_WIDTH, 31, 0⟩

/-- INV_TIO_CAP_NS (11_invar_time_unit.md R338). -/
def R.INV_TIO_CAP_NS : RegSpec :=
  ⟨"INV_TIO_CAP_NS", 0x30214, [(16, 0x20)], false,
   [fld "VALID" 31 31 .rc 0x0,
    fld "EDGE" 30 30 .rc 0x0,
    fld "NS" 29 0 .rc 0x0]⟩
def F.INV_TIO_CAP_NS_VALID : Fld := ⟨R.INV_TIO_CAP_NS, 31, 31⟩
def F.INV_TIO_CAP_NS_EDGE : Fld := ⟨R.INV_TIO_CAP_NS, 30, 30⟩
def F.INV_TIO_CAP_NS_NS : Fld := ⟨R.INV_TIO_CAP_NS, 29, 0⟩

/-- INV_TIO_CAP_SEC (11_invar_time_unit.md R338). -/
def R.INV_TIO_CAP_SEC : RegSpec :=
  ⟨"INV_TIO_CAP_SEC", 0x30218, [(16, 0x20)], false,
   [fld "SEC" 31 0 .ro 0x0]⟩
def F.INV_TIO_CAP_SEC_SEC : Fld := ⟨R.INV_TIO_CAP_SEC, 31, 0⟩

/-- INV_TIO_STAT (11_invar_time_unit.md R338). -/
def R.INV_TIO_STAT : RegSpec :=
  ⟨"INV_TIO_STAT", 0x3021C, [(16, 0x20)], false,
   [fld "GEN" 24 24 .ro 0x0,
    fld "COUNT" 18 16 .ro 0x0,
    fld "PIN" 8 8 .ro 0x0,
    fld "OVF" 7 0 .rc 0x0]⟩
def F.INV_TIO_STAT_GEN : Fld := ⟨R.INV_TIO_STAT, 24, 24⟩
def F.INV_TIO_STAT_COUNT : Fld := ⟨R.INV_TIO_STAT, 18, 16⟩
def F.INV_TIO_STAT_PIN : Fld := ⟨R.INV_TIO_STAT, 8, 8⟩
def F.INV_TIO_STAT_OVF : Fld := ⟨R.INV_TIO_STAT, 7, 0⟩

/-- INV_PTP_CFG (11_invar_time_unit.md R339). -/
def R.INV_PTP_CFG : RegSpec :=
  ⟨"INV_PTP_CFG", 0x30400, [(72, 0x8)], false,
   [fld "TC_MODE" 1 0 .rw 0x0]⟩
def F.INV_PTP_CFG_TC_MODE : Fld := ⟨R.INV_PTP_CFG, 1, 0⟩

/-- INV_PTP_LDLY (11_invar_time_unit.md R339). -/
def R.INV_PTP_LDLY : RegSpec :=
  ⟨"INV_PTP_LDLY", 0x30404, [(72, 0x8)], false,
   [fld "LDLY" 31 0 .rw 0x0]⟩
def F.INV_PTP_LDLY_LDLY : Fld := ⟨R.INV_PTP_LDLY, 31, 0⟩

def regsInv : List RegSpec :=
  [R.INV_STAT, R.INV_EVT, R.INV_CMD, R.INV_PTP_SKIP, R.INV_PTP_DMAP, R.INV_CYC_CTRL,
   R.INV_CYC_CHG, R.INV_CYC_STAT, R.INV_CYC_ADM_PERIOD, R.INV_CYC_ADM_BASE_SEC, R.INV_CYC_ADM_BASE_NS, R.INV_CYC_OPER_PERIOD,
   R.INV_CYC_OPER_BASE_SEC, R.INV_CYC_OPER_BASE_NS, R.INV_CYC_CHG_SEC, R.INV_CYC_CHG_NS, R.INV_CYC_CNT, R.INV_TD_NS,
   R.INV_TD_SEC_LO, R.INV_TD_SEC_HI, R.INV_TD_FRAC, R.INV_TD_SNS, R.INV_TD_RATE_LO, R.INV_TD_RATE_HI,
   R.INV_TD_SET_NS, R.INV_TD_SET_SEC_LO, R.INV_TD_SET_SEC_HI, R.INV_TD_OFS_LO, R.INV_TD_OFS_HI, R.INV_TD_ADJ,
   R.INV_TD_SLEW_REM, R.INV_TD_RR, R.INV_TD_SLEW_CFG, R.INV_TIO_CFG, R.INV_TIO_T_SEC, R.INV_TIO_T_NS,
   R.INV_TIO_PER, R.INV_TIO_WIDTH, R.INV_TIO_CAP_NS, R.INV_TIO_CAP_SEC, R.INV_TIO_STAT, R.INV_PTP_CFG,
   R.INV_PTP_LDLY]

end Sys2Proof.Machine
end

