-- ==== Sys2Proof/Machine/RegsLkp.lean ====
section
/-! DEFINITION. The registers of the Lkp extent: name, BAR0 offset, index strides and fields (access code, value after
POWER_ON reset; `img` marks a field the configuration image gives, which reads 0 until then, R7). From 05_forwarding_tables.md R174; 06_epochs_and_consistency.md R198, in the spec's own field tables. -/

namespace Sys2Proof.Machine

/-- LKP_CFG (05_forwarding_tables.md R174). -/
def R.LKP_CFG : RegSpec :=
  ⟨"LKP_CFG", 0x100000, [], false,
   [fld "MAX_MOVES" 4 0 .rw 0x8]⟩
def F.LKP_CFG_MAX_MOVES : Fld := ⟨R.LKP_CFG, 4, 0⟩

/-- LKP_EVT (05_forwarding_tables.md R174). -/
def R.LKP_EVT : RegSpec :=
  ⟨"LKP_EVT", 0x100004, [], false,
   [fld "SEQ" 31 24 .ro 0x0,
    fld "CMD_DONE1" 7 7 .sc 0x0,
    fld "CMD_DONE0" 6 6 .sc 0x0,
    fld "LPM_TRUNC" 5 5 .sc 0x0,
    fld "STATIC_MOVE" 4 4 .sc 0x0,
    fld "LIMIT" 3 3 .sc 0x0,
    fld "LEARN_DROP" 2 2 .sc 0x0,
    fld "FDB_FULL" 1 1 .sc 0x0,
    fld "PERR" 0 0 .sc 0x0]⟩
def F.LKP_EVT_SEQ : Fld := ⟨R.LKP_EVT, 31, 24⟩
def F.LKP_EVT_CMD_DONE1 : Fld := ⟨R.LKP_EVT, 7, 7⟩
def F.LKP_EVT_CMD_DONE0 : Fld := ⟨R.LKP_EVT, 6, 6⟩
def F.LKP_EVT_LPM_TRUNC : Fld := ⟨R.LKP_EVT, 5, 5⟩
def F.LKP_EVT_STATIC_MOVE : Fld := ⟨R.LKP_EVT, 4, 4⟩
def F.LKP_EVT_LIMIT : Fld := ⟨R.LKP_EVT, 3, 3⟩
def F.LKP_EVT_LEARN_DROP : Fld := ⟨R.LKP_EVT, 2, 2⟩
def F.LKP_EVT_FDB_FULL : Fld := ⟨R.LKP_EVT, 1, 1⟩
def F.LKP_EVT_PERR : Fld := ⟨R.LKP_EVT, 0, 0⟩

/-- LKP_ERR (05_forwarding_tables.md R174). -/
def R.LKP_ERR : RegSpec :=
  ⟨"LKP_ERR", 0x100008, [], false,
   [fld "VALID" 31 31 .rc 0x0,
    fld "MULTI" 30 30 .rc 0x0,
    fld "TABLE" 21 18 .rc 0x0,
    fld "INDEX" 17 0 .rc 0x0]⟩
def F.LKP_ERR_VALID : Fld := ⟨R.LKP_ERR, 31, 31⟩
def F.LKP_ERR_MULTI : Fld := ⟨R.LKP_ERR, 30, 30⟩
def F.LKP_ERR_TABLE : Fld := ⟨R.LKP_ERR, 21, 18⟩
def F.LKP_ERR_INDEX : Fld := ⟨R.LKP_ERR, 17, 0⟩

/-- LKP_PERR_CNT (05_forwarding_tables.md R174). -/
def R.LKP_PERR_CNT : RegSpec :=
  ⟨"LKP_PERR_CNT", 0x10000C, [], false,
   [fld "COUNT" 31 0 .rc 0x0]⟩
def F.LKP_PERR_CNT_COUNT : Fld := ⟨R.LKP_PERR_CNT, 31, 0⟩

/-- LKP_CPUQ (05_forwarding_tables.md R174). -/
def R.LKP_CPUQ : RegSpec :=
  ⟨"LKP_CPUQ", 0x100010, [], false,
   [fld "L2_Q" 11 8 .rw 0xB,
    fld "NH_Q" 7 4 .rw 0xC,
    fld "TTL_Q" 3 0 .rw 0xD]⟩
def F.LKP_CPUQ_L2_Q : Fld := ⟨R.LKP_CPUQ, 11, 8⟩
def F.LKP_CPUQ_NH_Q : Fld := ⟨R.LKP_CPUQ, 7, 4⟩
def F.LKP_CPUQ_TTL_Q : Fld := ⟨R.LKP_CPUQ, 3, 0⟩

/-- LKP_RMAC_A (05_forwarding_tables.md R174). -/
def R.LKP_RMAC_A : RegSpec :=
  ⟨"LKP_RMAC_A", 0x100014, [], false,
   [fld "RMAC_HI" 31 0 .rw 0x0 true]⟩
def F.LKP_RMAC_A_RMAC_HI : Fld := ⟨R.LKP_RMAC_A, 31, 0⟩

/-- LKP_RMAC_B (05_forwarding_tables.md R174). -/
def R.LKP_RMAC_B : RegSpec :=
  ⟨"LKP_RMAC_B", 0x100018, [], false,
   [fld "RMAC_LO" 31 16 .rw 0x0 true]⟩
def F.LKP_RMAC_B_RMAC_LO : Fld := ⟨R.LKP_RMAC_B, 31, 16⟩

/-- FDB_AGE_CFG (05_forwarding_tables.md R174). -/
def R.FDB_AGE_CFG : RegSpec :=
  ⟨"FDB_AGE_CFG", 0x10001C, [], false,
   [fld "PERIOD" 19 0 .rw 0x249F0]⟩
def F.FDB_AGE_CFG_PERIOD : Fld := ⟨R.FDB_AGE_CFG, 19, 0⟩

/-- FDB_STAT (05_forwarding_tables.md R174). -/
def R.FDB_STAT : RegSpec :=
  ⟨"FDB_STAT", 0x100020, [], false,
   [fld "STASH" 26 22 .ro 0x0,
    fld "COUNT" 17 0 .ro 0x0]⟩
def F.FDB_STAT_STASH : Fld := ⟨R.FDB_STAT, 26, 22⟩
def F.FDB_STAT_COUNT : Fld := ⟨R.FDB_STAT, 17, 0⟩

/-- FDB_LEARN_DROP (05_forwarding_tables.md R174). -/
def R.FDB_LEARN_DROP : RegSpec :=
  ⟨"FDB_LEARN_DROP", 0x100024, [], false,
   [fld "COUNT" 31 0 .rc 0x0]⟩
def F.FDB_LEARN_DROP_COUNT : Fld := ⟨R.FDB_LEARN_DROP, 31, 0⟩

/-- FDB_LEARN_FAIL (05_forwarding_tables.md R174). -/
def R.FDB_LEARN_FAIL : RegSpec :=
  ⟨"FDB_LEARN_FAIL", 0x100028, [], false,
   [fld "COUNT" 31 0 .rc 0x0]⟩
def F.FDB_LEARN_FAIL_COUNT : Fld := ⟨R.FDB_LEARN_FAIL, 31, 0⟩

/-- FDB_MOVE_CNT (05_forwarding_tables.md R174). -/
def R.FDB_MOVE_CNT : RegSpec :=
  ⟨"FDB_MOVE_CNT", 0x10002C, [], false,
   [fld "COUNT" 31 0 .rc 0x0]⟩
def F.FDB_MOVE_CNT_COUNT : Fld := ⟨R.FDB_MOVE_CNT, 31, 0⟩

/-- FDB_STATIC_MOVE (05_forwarding_tables.md R174). -/
def R.FDB_STATIC_MOVE : RegSpec :=
  ⟨"FDB_STATIC_MOVE", 0x100030, [], false,
   [fld "COUNT" 31 0 .rc 0x0]⟩
def F.FDB_STATIC_MOVE_COUNT : Fld := ⟨R.FDB_STATIC_MOVE, 31, 0⟩

/-- LPM_TRUNC (05_forwarding_tables.md R174). -/
def R.LPM_TRUNC : RegSpec :=
  ⟨"LPM_TRUNC", 0x100034, [], false,
   [fld "COUNT" 31 0 .rc 0x0]⟩
def F.LPM_TRUNC_COUNT : Fld := ⟨R.LPM_TRUNC, 31, 0⟩

/-- LKP_SEED (05_forwarding_tables.md R174). -/
def R.LKP_SEED : RegSpec :=
  ⟨"LKP_SEED", 0x100040, [(8, 0x8), (2, 0x4)], false,
   [fld "SEED" 31 0 .ro 0x0 true]⟩
def F.LKP_SEED_SEED : Fld := ⟨R.LKP_SEED, 31, 0⟩

/-- LKP_CMD (05_forwarding_tables.md R174). -/
def R.LKP_CMD : RegSpec :=
  ⟨"LKP_CMD", 0x100100, [(2, 0x80)], false,
   [fld "VER" 8 8 .pw 0x0,
    fld "TABLE" 7 4 .pw 0x0,
    fld "OP" 3 0 .pw 0x0]⟩
def F.LKP_CMD_VER : Fld := ⟨R.LKP_CMD, 8, 8⟩
def F.LKP_CMD_TABLE : Fld := ⟨R.LKP_CMD, 7, 4⟩
def F.LKP_CMD_OP : Fld := ⟨R.LKP_CMD, 3, 0⟩

/-- LKP_STAT (05_forwarding_tables.md R174). -/
def R.LKP_STAT : RegSpec :=
  ⟨"LKP_STAT", 0x100104, [(2, 0x80)], false,
   [fld "BUSY" 31 31 .ro 0x0,
    fld "STATUS" 3 0 .ro 0x0]⟩
def F.LKP_STAT_BUSY : Fld := ⟨R.LKP_STAT, 31, 31⟩
def F.LKP_STAT_STATUS : Fld := ⟨R.LKP_STAT, 3, 0⟩

/-- LKP_INDEX (05_forwarding_tables.md R174). -/
def R.LKP_INDEX : RegSpec :=
  ⟨"LKP_INDEX", 0x100108, [(2, 0x80)], false,
   [fld "INDEX" 17 0 .rw 0x0]⟩
def F.LKP_INDEX_INDEX : Fld := ⟨R.LKP_INDEX, 17, 0⟩

/-- LKP_DATA (05_forwarding_tables.md R174). -/
def R.LKP_DATA : RegSpec :=
  ⟨"LKP_DATA", 0x100140, [(2, 0x80), (14, 0x4)], false,
   [fld "DATA" 31 0 .rw 0x0]⟩
def F.LKP_DATA_DATA : Fld := ⟨R.LKP_DATA, 31, 0⟩

/-- LKP_PROF_A (05_forwarding_tables.md R174). -/
def R.LKP_PROF_A : RegSpec :=
  ⟨"LKP_PROF_A", 0x100200, [(16, 0x8)], false,
   [fld "LEARN_EN" 28 28 .ro 0x0 true,
    fld "ROUTE_EN" 27 27 .ro 0x0 true,
    fld "IFILTER" 26 26 .ro 0x0 true,
    fld "FNA_EN" 25 25 .ro 0x0 true,
    fld "FNA" 24 23 .ro 0x0 true,
    fld "FNB_EN" 22 22 .ro 0x0 true,
    fld "FNB" 21 20 .ro 0x0 true,
    fld "IPMASK" 19 13 .ro 0x0 true]⟩
def F.LKP_PROF_A_LEARN_EN : Fld := ⟨R.LKP_PROF_A, 28, 28⟩
def F.LKP_PROF_A_ROUTE_EN : Fld := ⟨R.LKP_PROF_A, 27, 27⟩
def F.LKP_PROF_A_IFILTER : Fld := ⟨R.LKP_PROF_A, 26, 26⟩
def F.LKP_PROF_A_FNA_EN : Fld := ⟨R.LKP_PROF_A, 25, 25⟩
def F.LKP_PROF_A_FNA : Fld := ⟨R.LKP_PROF_A, 24, 23⟩
def F.LKP_PROF_A_FNB_EN : Fld := ⟨R.LKP_PROF_A, 22, 22⟩
def F.LKP_PROF_A_FNB : Fld := ⟨R.LKP_PROF_A, 21, 20⟩
def F.LKP_PROF_A_IPMASK : Fld := ⟨R.LKP_PROF_A, 19, 13⟩

/-- LKP_PROF_B (05_forwarding_tables.md R174). -/
def R.LKP_PROF_B : RegSpec :=
  ⟨"LKP_PROF_B", 0x100204, [(16, 0x8)], false,
   [fld "QMAP" 23 0 .ro 0x0 true]⟩
def F.LKP_PROF_B_QMAP : Fld := ⟨R.LKP_PROF_B, 23, 0⟩

/-- LKP_PORT (05_forwarding_tables.md R174). -/
def R.LKP_PORT : RegSpec :=
  ⟨"LKP_PORT", 0x100400, [(73, 0x4)], false,
   [fld "LIMIT_ACT" 16 16 .rw 0x0 true,
    fld "PVID" 11 0 .rw 0x0 true]⟩
def F.LKP_PORT_LIMIT_ACT : Fld := ⟨R.LKP_PORT, 16, 16⟩
def F.LKP_PORT_PVID : Fld := ⟨R.LKP_PORT, 11, 0⟩

/-- FDB_LIMIT (05_forwarding_tables.md R174). -/
def R.FDB_LIMIT : RegSpec :=
  ⟨"FDB_LIMIT", 0x100600, [(73, 0x4)], false,
   [fld "LIMIT" 17 0 .rw 0x20000]⟩
def F.FDB_LIMIT_LIMIT : Fld := ⟨R.FDB_LIMIT, 17, 0⟩

/-- FDB_LCNT (05_forwarding_tables.md R174). -/
def R.FDB_LCNT : RegSpec :=
  ⟨"FDB_LCNT", 0x100800, [(73, 0x4)], false,
   [fld "COUNT" 17 0 .ro 0x0]⟩
def F.FDB_LCNT_COUNT : Fld := ⟨R.FDB_LCNT, 17, 0⟩

/-- FDB_LEXC (05_forwarding_tables.md R174). -/
def R.FDB_LEXC : RegSpec :=
  ⟨"FDB_LEXC", 0x100A00, [(73, 0x4)], false,
   [fld "COUNT" 31 0 .rc 0x0]⟩
def F.FDB_LEXC_COUNT : Fld := ⟨R.FDB_LEXC, 31, 0⟩

/-- EPOCH_CUR (06_epochs_and_consistency.md R198). -/
def R.EPOCH_CUR : RegSpec :=
  ⟨"EPOCH_CUR", 0x108000, [], false,
   [fld "PEND" 16 16 .ro 0x0,
    fld "EPOCH" 15 0 .ro 0x0]⟩
def F.EPOCH_CUR_PEND : Fld := ⟨R.EPOCH_CUR, 16, 16⟩
def F.EPOCH_CUR_EPOCH : Fld := ⟨R.EPOCH_CUR, 15, 0⟩

/-- EPOCH_STAT (06_epochs_and_consistency.md R198). -/
def R.EPOCH_STAT : RegSpec :=
  ⟨"EPOCH_STAT", 0x108004, [], false,
   [fld "BUSY" 31 31 .ro 0x1,
    fld "STATE" 26 24 .ro 0x4,
    fld "STAGED" 12 0 .ro 0x0]⟩
def F.EPOCH_STAT_BUSY : Fld := ⟨R.EPOCH_STAT, 31, 31⟩
def F.EPOCH_STAT_STATE : Fld := ⟨R.EPOCH_STAT, 26, 24⟩
def F.EPOCH_STAT_STAGED : Fld := ⟨R.EPOCH_STAT, 12, 0⟩

/-- EPOCH_COMMIT (06_epochs_and_consistency.md R198). -/
def R.EPOCH_COMMIT : RegSpec :=
  ⟨"EPOCH_COMMIT", 0x108008, [], false,
   [fld "KEY" 15 8 .pw 0x0]⟩
def F.EPOCH_COMMIT_KEY : Fld := ⟨R.EPOCH_COMMIT, 15, 8⟩

/-- EPOCH_DISCARD (06_epochs_and_consistency.md R198). -/
def R.EPOCH_DISCARD : RegSpec :=
  ⟨"EPOCH_DISCARD", 0x10800C, [], false,
   [fld "KEY" 15 8 .wo 0x0]⟩
def F.EPOCH_DISCARD_KEY : Fld := ⟨R.EPOCH_DISCARD, 15, 8⟩

/-- EPOCH_COMMIT_TS_SEC (06_epochs_and_consistency.md R198). -/
def R.EPOCH_COMMIT_TS_SEC : RegSpec :=
  ⟨"EPOCH_COMMIT_TS_SEC", 0x108010, [], false,
   [fld "SEC" 31 0 .rw 0x0]⟩
def F.EPOCH_COMMIT_TS_SEC_SEC : Fld := ⟨R.EPOCH_COMMIT_TS_SEC, 31, 0⟩

/-- EPOCH_COMMIT_TS_NS (06_epochs_and_consistency.md R198). -/
def R.EPOCH_COMMIT_TS_NS : RegSpec :=
  ⟨"EPOCH_COMMIT_TS_NS", 0x108014, [], false,
   [fld "NS" 29 0 .rw 0x0]⟩
def F.EPOCH_COMMIT_TS_NS_NS : Fld := ⟨R.EPOCH_COMMIT_TS_NS, 29, 0⟩

/-- EPOCH_TC_SEC (06_epochs_and_consistency.md R198). -/
def R.EPOCH_TC_SEC : RegSpec :=
  ⟨"EPOCH_TC_SEC", 0x108018, [], false,
   [fld "SEC" 31 0 .ro 0x0]⟩
def F.EPOCH_TC_SEC_SEC : Fld := ⟨R.EPOCH_TC_SEC, 31, 0⟩

/-- EPOCH_TC_NS (06_epochs_and_consistency.md R198). -/
def R.EPOCH_TC_NS : RegSpec :=
  ⟨"EPOCH_TC_NS", 0x10801C, [], false,
   [fld "NS" 29 0 .ro 0x0]⟩
def F.EPOCH_TC_NS_NS : Fld := ⟨R.EPOCH_TC_NS, 29, 0⟩

/-- EPOCH_DRAIN (06_epochs_and_consistency.md R198). -/
def R.EPOCH_DRAIN : RegSpec :=
  ⟨"EPOCH_DRAIN", 0x108020, [], false,
   [fld "DRAINED" 31 31 .ro 0x1,
    fld "COUNT" 17 0 .ro 0x0]⟩
def F.EPOCH_DRAIN_DRAINED : Fld := ⟨R.EPOCH_DRAIN, 31, 31⟩
def F.EPOCH_DRAIN_COUNT : Fld := ⟨R.EPOCH_DRAIN, 17, 0⟩

/-- EPOCH_OCC (06_epochs_and_consistency.md R198). -/
def R.EPOCH_OCC : RegSpec :=
  ⟨"EPOCH_OCC", 0x108024, [], false,
   [fld "COUNT" 17 0 .ro 0x0]⟩
def F.EPOCH_OCC_COUNT : Fld := ⟨R.EPOCH_OCC, 17, 0⟩

/-- EPOCH_EVT (06_epochs_and_consistency.md R198). -/
def R.EPOCH_EVT : RegSpec :=
  ⟨"EPOCH_EVT", 0x108028, [], false,
   [fld "SEQ" 31 24 .ro 0x0,
    fld "ECC_CORR" 7 7 .sc 0x0,
    fld "STAGE_FULL" 6 6 .sc 0x0,
    fld "REFUSED" 5 5 .sc 0x0,
    fld "BAD_KEY" 4 4 .sc 0x0,
    fld "TS_ADJ" 3 3 .sc 0x0,
    fld "DRAINED" 2 2 .sc 0x0,
    fld "COMMITTED" 1 1 .sc 0x0,
    fld "ACCEPTED" 0 0 .sc 0x0]⟩
def F.EPOCH_EVT_SEQ : Fld := ⟨R.EPOCH_EVT, 31, 24⟩
def F.EPOCH_EVT_ECC_CORR : Fld := ⟨R.EPOCH_EVT, 7, 7⟩
def F.EPOCH_EVT_STAGE_FULL : Fld := ⟨R.EPOCH_EVT, 6, 6⟩
def F.EPOCH_EVT_REFUSED : Fld := ⟨R.EPOCH_EVT, 5, 5⟩
def F.EPOCH_EVT_BAD_KEY : Fld := ⟨R.EPOCH_EVT, 4, 4⟩
def F.EPOCH_EVT_TS_ADJ : Fld := ⟨R.EPOCH_EVT, 3, 3⟩
def F.EPOCH_EVT_DRAINED : Fld := ⟨R.EPOCH_EVT, 2, 2⟩
def F.EPOCH_EVT_COMMITTED : Fld := ⟨R.EPOCH_EVT, 1, 1⟩
def F.EPOCH_EVT_ACCEPTED : Fld := ⟨R.EPOCH_EVT, 0, 0⟩

/-- EPOCH_HIST_PTR (06_epochs_and_consistency.md R198). -/
def R.EPOCH_HIST_PTR : RegSpec :=
  ⟨"EPOCH_HIST_PTR", 0x10802C, [], false,
   [fld "NEWEST" 3 0 .ro 0x0]⟩
def F.EPOCH_HIST_PTR_NEWEST : Fld := ⟨R.EPOCH_HIST_PTR, 3, 0⟩

/-- EPOCH_RTAG (06_epochs_and_consistency.md R198). -/
def R.EPOCH_RTAG : RegSpec :=
  ⟨"EPOCH_RTAG", 0x108030, [(2, 0x4)], false,
   [fld "VALID" 31 31 .ro 0x0,
    fld "NEWEST" 30 30 .ro 0x0,
    fld "SETTLED" 29 29 .ro 0x0,
    fld "TAG" 15 0 .ro 0x0]⟩
def F.EPOCH_RTAG_VALID : Fld := ⟨R.EPOCH_RTAG, 31, 31⟩
def F.EPOCH_RTAG_NEWEST : Fld := ⟨R.EPOCH_RTAG, 30, 30⟩
def F.EPOCH_RTAG_SETTLED : Fld := ⟨R.EPOCH_RTAG, 29, 29⟩
def F.EPOCH_RTAG_TAG : Fld := ⟨R.EPOCH_RTAG, 15, 0⟩

/-- EPOCH_ECC_CNT (06_epochs_and_consistency.md R198). -/
def R.EPOCH_ECC_CNT : RegSpec :=
  ⟨"EPOCH_ECC_CNT", 0x108038, [], false,
   [fld "COUNT" 31 0 .rc 0x0]⟩
def F.EPOCH_ECC_CNT_COUNT : Fld := ⟨R.EPOCH_ECC_CNT, 31, 0⟩

/-- EPOCH_HIST_A (06_epochs_and_consistency.md R198). -/
def R.EPOCH_HIST_A : RegSpec :=
  ⟨"EPOCH_HIST_A", 0x108100, [(16, 0x10)], false,
   [fld "VALID" 31 31 .ro 0x0,
    fld "TWIN" 30 30 .ro 0x0,
    fld "HOST" 29 29 .ro 0x0,
    fld "STAGED" 28 16 .ro 0x0,
    fld "EPOCH" 15 0 .ro 0x0]⟩
def F.EPOCH_HIST_A_VALID : Fld := ⟨R.EPOCH_HIST_A, 31, 31⟩
def F.EPOCH_HIST_A_TWIN : Fld := ⟨R.EPOCH_HIST_A, 30, 30⟩
def F.EPOCH_HIST_A_HOST : Fld := ⟨R.EPOCH_HIST_A, 29, 29⟩
def F.EPOCH_HIST_A_STAGED : Fld := ⟨R.EPOCH_HIST_A, 28, 16⟩
def F.EPOCH_HIST_A_EPOCH : Fld := ⟨R.EPOCH_HIST_A, 15, 0⟩

/-- EPOCH_HIST_SEC (06_epochs_and_consistency.md R198). -/
def R.EPOCH_HIST_SEC : RegSpec :=
  ⟨"EPOCH_HIST_SEC", 0x108104, [(16, 0x10)], false,
   [fld "SEC" 31 0 .ro 0x0]⟩
def F.EPOCH_HIST_SEC_SEC : Fld := ⟨R.EPOCH_HIST_SEC, 31, 0⟩

/-- EPOCH_HIST_NS (06_epochs_and_consistency.md R198). -/
def R.EPOCH_HIST_NS : RegSpec :=
  ⟨"EPOCH_HIST_NS", 0x108108, [(16, 0x10)], false,
   [fld "NS" 29 0 .ro 0x0]⟩
def F.EPOCH_HIST_NS_NS : Fld := ⟨R.EPOCH_HIST_NS, 29, 0⟩

def regsLkp : List RegSpec :=
  [R.LKP_CFG, R.LKP_EVT, R.LKP_ERR, R.LKP_PERR_CNT, R.LKP_CPUQ, R.LKP_RMAC_A,
   R.LKP_RMAC_B, R.FDB_AGE_CFG, R.FDB_STAT, R.FDB_LEARN_DROP, R.FDB_LEARN_FAIL, R.FDB_MOVE_CNT,
   R.FDB_STATIC_MOVE, R.LPM_TRUNC, R.LKP_SEED, R.LKP_CMD, R.LKP_STAT, R.LKP_INDEX,
   R.LKP_DATA, R.LKP_PROF_A, R.LKP_PROF_B, R.LKP_PORT, R.FDB_LIMIT, R.FDB_LCNT,
   R.FDB_LEXC, R.EPOCH_CUR, R.EPOCH_STAT, R.EPOCH_COMMIT, R.EPOCH_DISCARD, R.EPOCH_COMMIT_TS_SEC,
   R.EPOCH_COMMIT_TS_NS, R.EPOCH_TC_SEC, R.EPOCH_TC_NS, R.EPOCH_DRAIN, R.EPOCH_OCC, R.EPOCH_EVT,
   R.EPOCH_HIST_PTR, R.EPOCH_RTAG, R.EPOCH_ECC_CNT, R.EPOCH_HIST_A, R.EPOCH_HIST_SEC, R.EPOCH_HIST_NS]

end Sys2Proof.Machine
end

