-- ==== Sys2Proof/Machine/RegsMgmt.lean ====
section
/-! DEFINITION. The registers of the Mgmt extent: name, BAR0 offset, index strides and fields (access code, value after
POWER_ON reset; `img` marks a field the configuration image gives, which reads 0 until then, R7). From 15_host_ports_and_registers.md R464; 15_host_ports_and_registers.md R465; 20_reset_and_errors.md R580, in the spec's own field tables. -/

namespace Sys2Proof.Machine

/-- RST_CAUSE (20_reset_and_errors.md R580). -/
def R.RST_CAUSE : RegSpec :=
  ⟨"RST_CAUSE", 0x10000, [], false,
   [fld "SEQ" 31 24 .ro 0x1,
    fld "DIVERGE" 10 10 .sc 0x0,
    fld "RSTSTATE" 9 9 .sc 0x0,
    fld "MODE" 8 8 .sc 0x0,
    fld "EPOCH" 7 7 .sc 0x0,
    fld "UCODE" 6 6 .sc 0x0,
    fld "TWIN" 5 5 .sc 0x0,
    fld "SW_CORE" 4 4 .sc 0x0,
    fld "SW_SYS" 3 3 .sc 0x0,
    fld "WDT" 2 2 .sc 0x0,
    fld "PIN" 1 1 .sc 0x0,
    fld "POR" 0 0 .sc 0x1]⟩
def F.RST_CAUSE_SEQ : Fld := ⟨R.RST_CAUSE, 31, 24⟩
def F.RST_CAUSE_DIVERGE : Fld := ⟨R.RST_CAUSE, 10, 10⟩
def F.RST_CAUSE_RSTSTATE : Fld := ⟨R.RST_CAUSE, 9, 9⟩
def F.RST_CAUSE_MODE : Fld := ⟨R.RST_CAUSE, 8, 8⟩
def F.RST_CAUSE_EPOCH : Fld := ⟨R.RST_CAUSE, 7, 7⟩
def F.RST_CAUSE_UCODE : Fld := ⟨R.RST_CAUSE, 6, 6⟩
def F.RST_CAUSE_TWIN : Fld := ⟨R.RST_CAUSE, 5, 5⟩
def F.RST_CAUSE_SW_CORE : Fld := ⟨R.RST_CAUSE, 4, 4⟩
def F.RST_CAUSE_SW_SYS : Fld := ⟨R.RST_CAUSE, 3, 3⟩
def F.RST_CAUSE_WDT : Fld := ⟨R.RST_CAUSE, 2, 2⟩
def F.RST_CAUSE_PIN : Fld := ⟨R.RST_CAUSE, 1, 1⟩
def F.RST_CAUSE_POR : Fld := ⟨R.RST_CAUSE, 0, 0⟩

/-- RST_EVT (20_reset_and_errors.md R580). -/
def R.RST_EVT : RegSpec :=
  ⟨"RST_EVT", 0x10004, [], false,
   [fld "SEQ" 31 24 .ro 0x0,
    fld "MODE_CORR" 2 2 .sc 0x0,
    fld "CFG_ERR" 1 1 .sc 0x0,
    fld "CORE_END" 0 0 .sc 0x0]⟩
def F.RST_EVT_SEQ : Fld := ⟨R.RST_EVT, 31, 24⟩
def F.RST_EVT_MODE_CORR : Fld := ⟨R.RST_EVT, 2, 2⟩
def F.RST_EVT_CFG_ERR : Fld := ⟨R.RST_EVT, 1, 1⟩
def F.RST_EVT_CORE_END : Fld := ⟨R.RST_EVT, 0, 0⟩

/-- RST_CTRL (20_reset_and_errors.md R580). -/
def R.RST_CTRL : RegSpec :=
  ⟨"RST_CTRL", 0x10008, [], false,
   [fld "KEY" 15 8 .wo 0x0,
    fld "OP" 1 0 .wo 0x0]⟩
def F.RST_CTRL_KEY : Fld := ⟨R.RST_CTRL, 15, 8⟩
def F.RST_CTRL_OP : Fld := ⟨R.RST_CTRL, 1, 0⟩

/-- RST_STAT (20_reset_and_errors.md R580). -/
def R.RST_STAT : RegSpec :=
  ⟨"RST_STAT", 0x1000C, [], false,
   [fld "PIN" 31 31 .ro 0x1,
    fld "DRIVE" 30 30 .ro 0x0,
    fld "REACH" 29 28 .ro 0x3,
    fld "STATE" 26 24 .ro 0x0,
    fld "LIVE" 10 0 .ro 0x0]⟩
def F.RST_STAT_PIN : Fld := ⟨R.RST_STAT, 31, 31⟩
def F.RST_STAT_DRIVE : Fld := ⟨R.RST_STAT, 30, 30⟩
def F.RST_STAT_REACH : Fld := ⟨R.RST_STAT, 29, 28⟩
def F.RST_STAT_STATE : Fld := ⟨R.RST_STAT, 26, 24⟩
def F.RST_STAT_LIVE : Fld := ⟨R.RST_STAT, 10, 0⟩

/-- RST_MODE_ECC (20_reset_and_errors.md R580). -/
def R.RST_MODE_ECC : RegSpec :=
  ⟨"RST_MODE_ECC", 0x10010, [], false,
   [fld "COUNT" 31 0 .rc 0x0]⟩
def F.RST_MODE_ECC_COUNT : Fld := ⟨R.RST_MODE_ECC, 31, 0⟩

/-- MGT_EVT (15_host_ports_and_registers.md R465). -/
def R.MGT_EVT : RegSpec :=
  ⟨"MGT_EVT", 0x20000, [], false,
   [fld "SEQ" 31 24 .ro 0x0,
    fld "MBOX_IN" 5 5 .sc 0x0,
    fld "WDT_WARN" 4 4 .sc 0x0,
    fld "MDIO_DONE" 3 3 .sc 0x0,
    fld "SPI_ERR" 2 2 .sc 0x0,
    fld "SPI_DONE" 1 1 .sc 0x0,
    fld "TEMP_HI" 0 0 .sc 0x0]⟩
def F.MGT_EVT_SEQ : Fld := ⟨R.MGT_EVT, 31, 24⟩
def F.MGT_EVT_MBOX_IN : Fld := ⟨R.MGT_EVT, 5, 5⟩
def F.MGT_EVT_WDT_WARN : Fld := ⟨R.MGT_EVT, 4, 4⟩
def F.MGT_EVT_MDIO_DONE : Fld := ⟨R.MGT_EVT, 3, 3⟩
def F.MGT_EVT_SPI_ERR : Fld := ⟨R.MGT_EVT, 2, 2⟩
def F.MGT_EVT_SPI_DONE : Fld := ⟨R.MGT_EVT, 1, 1⟩
def F.MGT_EVT_TEMP_HI : Fld := ⟨R.MGT_EVT, 0, 0⟩

/-- MGT_TEMP (15_host_ports_and_registers.md R465). -/
def R.MGT_TEMP : RegSpec :=
  ⟨"MGT_TEMP", 0x20004, [], false,
   [fld "ALARM" 27 16 .rw 0x1A4,
    fld "TJ" 11 0 .ro 0x0]⟩
def F.MGT_TEMP_ALARM : Fld := ⟨R.MGT_TEMP, 27, 16⟩
def F.MGT_TEMP_TJ : Fld := ⟨R.MGT_TEMP, 11, 0⟩

/-- MGT_SPI_CFG (15_host_ports_and_registers.md R465). -/
def R.MGT_SPI_CFG : RegSpec :=
  ⟨"MGT_SPI_CFG", 0x20010, [], false,
   [fld "DIV" 7 0 .rw 0x4]⟩
def F.MGT_SPI_CFG_DIV : Fld := ⟨R.MGT_SPI_CFG, 7, 0⟩

/-- MGT_SPI_CMD (15_host_ports_and_registers.md R465). -/
def R.MGT_SPI_CMD : RegSpec :=
  ⟨"MGT_SPI_CMD", 0x20014, [], false,
   [fld "DIR" 25 25 .pw 0x0,
    fld "LEN" 24 16 .pw 0x0,
    fld "DUMMY" 15 11 .pw 0x0,
    fld "ABYTES" 10 8 .pw 0x0,
    fld "OPCODE" 7 0 .pw 0x0]⟩
def F.MGT_SPI_CMD_DIR : Fld := ⟨R.MGT_SPI_CMD, 25, 25⟩
def F.MGT_SPI_CMD_LEN : Fld := ⟨R.MGT_SPI_CMD, 24, 16⟩
def F.MGT_SPI_CMD_DUMMY : Fld := ⟨R.MGT_SPI_CMD, 15, 11⟩
def F.MGT_SPI_CMD_ABYTES : Fld := ⟨R.MGT_SPI_CMD, 10, 8⟩
def F.MGT_SPI_CMD_OPCODE : Fld := ⟨R.MGT_SPI_CMD, 7, 0⟩

/-- MGT_SPI_ADDR (15_host_ports_and_registers.md R465). -/
def R.MGT_SPI_ADDR : RegSpec :=
  ⟨"MGT_SPI_ADDR", 0x20018, [], false,
   [fld "ADDR" 31 0 .rw 0x0]⟩
def F.MGT_SPI_ADDR_ADDR : Fld := ⟨R.MGT_SPI_ADDR, 31, 0⟩

/-- MGT_SPI_STAT (15_host_ports_and_registers.md R465). -/
def R.MGT_SPI_STAT : RegSpec :=
  ⟨"MGT_SPI_STAT", 0x2001C, [], false,
   [fld "BUSY" 31 31 .ro 0x1,
    fld "LOADER" 30 30 .ro 0x1,
    fld "SFDP_OK" 14 14 .ro 0x0,
    fld "BOOT_DUMMY" 13 10 .ro 0x0,
    fld "BOOT_ABYTES" 9 8 .ro 0x0,
    fld "BOOT_OP" 7 0 .ro 0x0]⟩
def F.MGT_SPI_STAT_BUSY : Fld := ⟨R.MGT_SPI_STAT, 31, 31⟩
def F.MGT_SPI_STAT_LOADER : Fld := ⟨R.MGT_SPI_STAT, 30, 30⟩
def F.MGT_SPI_STAT_SFDP_OK : Fld := ⟨R.MGT_SPI_STAT, 14, 14⟩
def F.MGT_SPI_STAT_BOOT_DUMMY : Fld := ⟨R.MGT_SPI_STAT, 13, 10⟩
def F.MGT_SPI_STAT_BOOT_ABYTES : Fld := ⟨R.MGT_SPI_STAT, 9, 8⟩
def F.MGT_SPI_STAT_BOOT_OP : Fld := ⟨R.MGT_SPI_STAT, 7, 0⟩

/-- MGT_MDIO_CFG (15_host_ports_and_registers.md R465). -/
def R.MGT_MDIO_CFG : RegSpec :=
  ⟨"MGT_MDIO_CFG", 0x20040, [], false,
   [fld "DIV" 7 0 .rw 0x31]⟩
def F.MGT_MDIO_CFG_DIV : Fld := ⟨R.MGT_MDIO_CFG, 7, 0⟩

/-- MGT_MDIO_CMD (15_host_ports_and_registers.md R465). -/
def R.MGT_MDIO_CMD : RegSpec :=
  ⟨"MGT_MDIO_CMD", 0x20044, [], false,
   [fld "BUS" 31 30 .pw 0x0,
    fld "C45" 29 29 .pw 0x0,
    fld "OP" 28 27 .pw 0x0,
    fld "PHYAD" 26 22 .pw 0x0,
    fld "REGAD" 21 17 .pw 0x0,
    fld "DATA" 15 0 .pw 0x0]⟩
def F.MGT_MDIO_CMD_BUS : Fld := ⟨R.MGT_MDIO_CMD, 31, 30⟩
def F.MGT_MDIO_CMD_C45 : Fld := ⟨R.MGT_MDIO_CMD, 29, 29⟩
def F.MGT_MDIO_CMD_OP : Fld := ⟨R.MGT_MDIO_CMD, 28, 27⟩
def F.MGT_MDIO_CMD_PHYAD : Fld := ⟨R.MGT_MDIO_CMD, 26, 22⟩
def F.MGT_MDIO_CMD_REGAD : Fld := ⟨R.MGT_MDIO_CMD, 21, 17⟩
def F.MGT_MDIO_CMD_DATA : Fld := ⟨R.MGT_MDIO_CMD, 15, 0⟩

/-- MGT_MDIO_STAT (15_host_ports_and_registers.md R465). -/
def R.MGT_MDIO_STAT : RegSpec :=
  ⟨"MGT_MDIO_STAT", 0x20048, [], false,
   [fld "BUSY" 31 31 .ro 0x0,
    fld "TA_ERR" 16 16 .ro 0x0,
    fld "RDATA" 15 0 .ro 0x0]⟩
def F.MGT_MDIO_STAT_BUSY : Fld := ⟨R.MGT_MDIO_STAT, 31, 31⟩
def F.MGT_MDIO_STAT_TA_ERR : Fld := ⟨R.MGT_MDIO_STAT, 16, 16⟩
def F.MGT_MDIO_STAT_RDATA : Fld := ⟨R.MGT_MDIO_STAT, 15, 0⟩

/-- MGT_I2C_CFG (15_host_ports_and_registers.md R465). -/
def R.MGT_I2C_CFG : RegSpec :=
  ⟨"MGT_I2C_CFG", 0x20060, [], false,
   [fld "ADDR_PINS" 2 0 .ro 0x0]⟩
def F.MGT_I2C_CFG_ADDR_PINS : Fld := ⟨R.MGT_I2C_CFG, 2, 0⟩

/-- MGT_I2C_MBOX_IN (15_host_ports_and_registers.md R465). -/
def R.MGT_I2C_MBOX_IN : RegSpec :=
  ⟨"MGT_I2C_MBOX_IN", 0x20064, [], false,
   [fld "DATA" 31 0 .ro 0x0]⟩
def F.MGT_I2C_MBOX_IN_DATA : Fld := ⟨R.MGT_I2C_MBOX_IN, 31, 0⟩

/-- MGT_I2C_MBOX_OUT (15_host_ports_and_registers.md R465). -/
def R.MGT_I2C_MBOX_OUT : RegSpec :=
  ⟨"MGT_I2C_MBOX_OUT", 0x20068, [], false,
   [fld "DATA" 31 0 .rw 0x0]⟩
def F.MGT_I2C_MBOX_OUT_DATA : Fld := ⟨R.MGT_I2C_MBOX_OUT, 31, 0⟩

/-- MGT_WDT_CFG (15_host_ports_and_registers.md R465). -/
def R.MGT_WDT_CFG : RegSpec :=
  ⟨"MGT_WDT_CFG", 0x20080, [], false,
   [fld "EN" 31 31 .wol 0x0,
    fld "WARN" 23 16 .rwe 0x0,
    fld "TIMEOUT" 15 0 .rwe 0x3E8]⟩
def F.MGT_WDT_CFG_EN : Fld := ⟨R.MGT_WDT_CFG, 31, 31⟩
def F.MGT_WDT_CFG_WARN : Fld := ⟨R.MGT_WDT_CFG, 23, 16⟩
def F.MGT_WDT_CFG_TIMEOUT : Fld := ⟨R.MGT_WDT_CFG, 15, 0⟩

/-- MGT_WDT_KICK (15_host_ports_and_registers.md R465). -/
def R.MGT_WDT_KICK : RegSpec :=
  ⟨"MGT_WDT_KICK", 0x20084, [], false,
   [fld "KEY" 15 8 .wo 0x0]⟩
def F.MGT_WDT_KICK_KEY : Fld := ⟨R.MGT_WDT_KICK, 15, 8⟩

/-- MGT_WDT_LEFT (15_host_ports_and_registers.md R465). -/
def R.MGT_WDT_LEFT : RegSpec :=
  ⟨"MGT_WDT_LEFT", 0x20088, [], false,
   [fld "LEFT" 15 0 .ro 0x0]⟩
def F.MGT_WDT_LEFT_LEFT : Fld := ⟨R.MGT_WDT_LEFT, 15, 0⟩

/-- MGT_TAP_ID (15_host_ports_and_registers.md R465). -/
def R.MGT_TAP_ID : RegSpec :=
  ⟨"MGT_TAP_ID", 0x20090, [], false,
   [fld "IDCODE" 31 0 .ro 0x17264DE3]⟩
def F.MGT_TAP_ID_IDCODE : Fld := ⟨R.MGT_TAP_ID, 31, 0⟩

/-- MGT_TAP_STAT (15_host_ports_and_registers.md R465). -/
def R.MGT_TAP_STAT : RegSpec :=
  ⟨"MGT_TAP_STAT", 0x20094, [], false,
   [fld "LOCKED" 0 0 .ro 0x0]⟩
def F.MGT_TAP_STAT_LOCKED : Fld := ⟨R.MGT_TAP_STAT, 0, 0⟩

/-- MGT_SPI_BUF (15_host_ports_and_registers.md R464). -/
def R.MGT_SPI_BUF : RegSpec :=
  ⟨"MGT_SPI_BUF", 0x20100, [(64, 0x4)], false,
   [fld "DATA" 31 0 .rw 0x0]⟩
def F.MGT_SPI_BUF_DATA : Fld := ⟨R.MGT_SPI_BUF, 31, 0⟩

def regsMgmt : List RegSpec :=
  [R.RST_CAUSE, R.RST_EVT, R.RST_CTRL, R.RST_STAT, R.RST_MODE_ECC, R.MGT_EVT,
   R.MGT_TEMP, R.MGT_SPI_CFG, R.MGT_SPI_CMD, R.MGT_SPI_ADDR, R.MGT_SPI_STAT, R.MGT_MDIO_CFG,
   R.MGT_MDIO_CMD, R.MGT_MDIO_STAT, R.MGT_I2C_CFG, R.MGT_I2C_MBOX_IN, R.MGT_I2C_MBOX_OUT, R.MGT_WDT_CFG,
   R.MGT_WDT_KICK, R.MGT_WDT_LEFT, R.MGT_TAP_ID, R.MGT_TAP_STAT, R.MGT_SPI_BUF]

end Sys2Proof.Machine
end

