-- ==== Sys2Proof/Machine/RegsPds.lean ====
section
/-! DEFINITION. The registers of the Pds extent: name, BAR0 offset, index strides and fields (access code, value after
POWER_ON reset; `img` marks a field the configuration image gives, which reads 0 until then, R7). From 12_process_data_service.md R381; 12_process_data_service.md R382; 12_process_data_service.md R383, in the spec's own field tables. -/

namespace Sys2Proof.Machine

/-- PDS_CFG (12_process_data_service.md R381). -/
def R.PDS_CFG : RegSpec :=
  ⟨"PDS_CFG", 0x500000, [], false,
   [fld "ETYPE" 31 16 .rw 0x88B5]⟩
def F.PDS_CFG_ETYPE : Fld := ⟨R.PDS_CFG, 31, 16⟩

/-- PDS_STAT (12_process_data_service.md R381). -/
def R.PDS_STAT : RegSpec :=
  ⟨"PDS_STAT", 0x500004, [], false,
   [fld "RUNNING" 31 31 .ro 0x0,
    fld "HOLDING" 30 30 .ro 0x0,
    fld "GATHER_BUSY" 29 29 .ro 0x0,
    fld "FANOUT_BUSY" 28 28 .ro 0x0,
    fld "PEND" 6 0 .ro 0x0]⟩
def F.PDS_STAT_RUNNING : Fld := ⟨R.PDS_STAT, 31, 31⟩
def F.PDS_STAT_HOLDING : Fld := ⟨R.PDS_STAT, 30, 30⟩
def F.PDS_STAT_GATHER_BUSY : Fld := ⟨R.PDS_STAT, 29, 29⟩
def F.PDS_STAT_FANOUT_BUSY : Fld := ⟨R.PDS_STAT, 28, 28⟩
def F.PDS_STAT_PEND : Fld := ⟨R.PDS_STAT, 6, 0⟩

/-- PDS_EVT (12_process_data_service.md R381). -/
def R.PDS_EVT : RegSpec :=
  ⟨"PDS_EVT", 0x500008, [], false,
   [fld "SEQ" 31 24 .ro 0x0,
    fld "CMD_DONE" 9 9 .sc 0x0,
    fld "OVERRUN" 7 7 .sc 0x0,
    fld "BUILD_ERR" 6 6 .sc 0x0,
    fld "LINK_LIMIT" 5 5 .sc 0x0,
    fld "LC_REFUSED" 4 4 .sc 0x0,
    fld "ALLOC_FAIL" 3 3 .sc 0x0,
    fld "OUT_FAULT" 2 2 .sc 0x0,
    fld "IN_FAULT" 1 1 .sc 0x0,
    fld "LATE" 0 0 .sc 0x0]⟩
def F.PDS_EVT_SEQ : Fld := ⟨R.PDS_EVT, 31, 24⟩
def F.PDS_EVT_CMD_DONE : Fld := ⟨R.PDS_EVT, 9, 9⟩
def F.PDS_EVT_OVERRUN : Fld := ⟨R.PDS_EVT, 7, 7⟩
def F.PDS_EVT_BUILD_ERR : Fld := ⟨R.PDS_EVT, 6, 6⟩
def F.PDS_EVT_LINK_LIMIT : Fld := ⟨R.PDS_EVT, 5, 5⟩
def F.PDS_EVT_LC_REFUSED : Fld := ⟨R.PDS_EVT, 4, 4⟩
def F.PDS_EVT_ALLOC_FAIL : Fld := ⟨R.PDS_EVT, 3, 3⟩
def F.PDS_EVT_OUT_FAULT : Fld := ⟨R.PDS_EVT, 2, 2⟩
def F.PDS_EVT_IN_FAULT : Fld := ⟨R.PDS_EVT, 1, 1⟩
def F.PDS_EVT_LATE : Fld := ⟨R.PDS_EVT, 0, 0⟩

/-- PDS_GATHER (12_process_data_service.md R381). -/
def R.PDS_GATHER : RegSpec :=
  ⟨"PDS_GATHER", 0x50000C, [], false,
   [fld "OFS" 23 0 .rw 0x0 true]⟩
def F.PDS_GATHER_OFS : Fld := ⟨R.PDS_GATHER, 23, 0⟩

/-- PDS_MISS_THR (12_process_data_service.md R381). -/
def R.PDS_MISS_THR : RegSpec :=
  ⟨"PDS_MISS_THR", 0x500010, [], false,
   [fld "OUT" 15 8 .rw 0x3,
    fld "IN" 7 0 .rw 0x3]⟩
def F.PDS_MISS_THR_OUT : Fld := ⟨R.PDS_MISS_THR, 15, 8⟩
def F.PDS_MISS_THR_IN : Fld := ⟨R.PDS_MISS_THR, 7, 0⟩

/-- PDS_SRAM_PAGE (12_process_data_service.md R381). -/
def R.PDS_SRAM_PAGE : RegSpec :=
  ⟨"PDS_SRAM_PAGE", 0x500014, [], false,
   [fld "PAGE" 5 0 .rw 0x0]⟩
def F.PDS_SRAM_PAGE_PAGE : Fld := ⟨R.PDS_SRAM_PAGE, 5, 0⟩

/-- PDS_CMD (12_process_data_service.md R381). -/
def R.PDS_CMD : RegSpec :=
  ⟨"PDS_CMD", 0x500020, [], false,
   [fld "TABLE" 6 4 .pw 0x0,
    fld "OP" 3 0 .pw 0x0]⟩
def F.PDS_CMD_TABLE : Fld := ⟨R.PDS_CMD, 6, 4⟩
def F.PDS_CMD_OP : Fld := ⟨R.PDS_CMD, 3, 0⟩

/-- PDS_CMD_STAT (12_process_data_service.md R381). -/
def R.PDS_CMD_STAT : RegSpec :=
  ⟨"PDS_CMD_STAT", 0x500024, [], false,
   [fld "BUSY" 31 31 .ro 0x0,
    fld "STATUS" 2 0 .ro 0x0]⟩
def F.PDS_CMD_STAT_BUSY : Fld := ⟨R.PDS_CMD_STAT, 31, 31⟩
def F.PDS_CMD_STAT_STATUS : Fld := ⟨R.PDS_CMD_STAT, 2, 0⟩

/-- PDS_INDEX (12_process_data_service.md R381). -/
def R.PDS_INDEX : RegSpec :=
  ⟨"PDS_INDEX", 0x500028, [], false,
   [fld "INDEX" 11 0 .rw 0x0]⟩
def F.PDS_INDEX_INDEX : Fld := ⟨R.PDS_INDEX, 11, 0⟩

/-- PDS_DATA (12_process_data_service.md R381). -/
def R.PDS_DATA : RegSpec :=
  ⟨"PDS_DATA", 0x500040, [(6, 0x4)], false,
   [fld "DATA" 31 0 .rw 0x0]⟩
def F.PDS_DATA_DATA : Fld := ⟨R.PDS_DATA, 31, 0⟩

/-- PDS_RGN_BASE (12_process_data_service.md R381). -/
def R.PDS_RGN_BASE : RegSpec :=
  ⟨"PDS_RGN_BASE", 0x500060, [(2, 0x8)], false,
   [fld "ADDR" 17 0 .ro 0x0 true]⟩
def F.PDS_RGN_BASE_ADDR : Fld := ⟨R.PDS_RGN_BASE, 17, 0⟩

/-- PDS_RGN_TOP (12_process_data_service.md R381). -/
def R.PDS_RGN_TOP : RegSpec :=
  ⟨"PDS_RGN_TOP", 0x500064, [(2, 0x8)], false,
   [fld "ADDR" 17 0 .ro 0x0 true]⟩
def F.PDS_RGN_TOP_ADDR : Fld := ⟨R.PDS_RGN_TOP, 17, 0⟩

/-- PDS_CNT (12_process_data_service.md R382). -/
def R.PDS_CNT : RegSpec :=
  ⟨"PDS_CNT", 0x500080, [(21, 0x4)], false,
   [fld "COUNT" 31 0 .rc 0x0]⟩
def F.PDS_CNT_COUNT : Fld := ⟨R.PDS_CNT, 31, 0⟩

/-- PDS_STALE (12_process_data_service.md R381). -/
def R.PDS_STALE : RegSpec :=
  ⟨"PDS_STALE", 0x500100, [(128, 0x4)], false,
   [fld "STALE" 31 0 .ro 0x0]⟩
def F.PDS_STALE_STALE : Fld := ⟨R.PDS_STALE, 31, 0⟩

/-- PDS_FAULT (12_process_data_service.md R381). -/
def R.PDS_FAULT : RegSpec :=
  ⟨"PDS_FAULT", 0x500300, [(128, 0x4)], false,
   [fld "FAULT" 31 0 .ro 0x0]⟩
def F.PDS_FAULT_FAULT : Fld := ⟨R.PDS_FAULT, 31, 0⟩

/-- PDS_FO_FAULT_A (12_process_data_service.md R381). -/
def R.PDS_FO_FAULT_A : RegSpec :=
  ⟨"PDS_FO_FAULT_A", 0x500500, [], false,
   [fld "FAULT" 31 0 .ro 0x0]⟩
def F.PDS_FO_FAULT_A_FAULT : Fld := ⟨R.PDS_FO_FAULT_A, 31, 0⟩

/-- PDS_FO_FAULT_B (12_process_data_service.md R381). -/
def R.PDS_FO_FAULT_B : RegSpec :=
  ⟨"PDS_FO_FAULT_B", 0x500504, [], false,
   [fld "FAULT" 31 0 .ro 0x0]⟩
def F.PDS_FO_FAULT_B_FAULT : Fld := ⟨R.PDS_FO_FAULT_B, 31, 0⟩

/-- PDS_SRAM_WINDOW (12_process_data_service.md R383). -/
def R.PDS_SRAM_WINDOW : RegSpec :=
  ⟨"PDS_SRAM_WINDOW", 0x510000, [(16384, 0x4)], false,
   [fld "DATA" 31 0 .rw 0x0]⟩
def F.PDS_SRAM_WINDOW_DATA : Fld := ⟨R.PDS_SRAM_WINDOW, 31, 0⟩

def regsPds : List RegSpec :=
  [R.PDS_CFG, R.PDS_STAT, R.PDS_EVT, R.PDS_GATHER, R.PDS_MISS_THR, R.PDS_SRAM_PAGE,
   R.PDS_CMD, R.PDS_CMD_STAT, R.PDS_INDEX, R.PDS_DATA, R.PDS_RGN_BASE, R.PDS_RGN_TOP,
   R.PDS_CNT, R.PDS_STALE, R.PDS_FAULT, R.PDS_FO_FAULT_A, R.PDS_FO_FAULT_B, R.PDS_SRAM_WINDOW]

end Sys2Proof.Machine
end

