-- ==== Sys2Proof/Machine/RegsPmc.lean ====
section
/-! DEFINITION. The registers of the Pmc extent: name, BAR0 offset, index strides and fields (access code, value after
POWER_ON reset; `img` marks a field the configuration image gives, which reads 0 until then, R7). From 18_counters_and_telemetry.md R534, in the spec's own field tables. -/

namespace Sys2Proof.Machine

/-- PMC_CFG (18_counters_and_telemetry.md R534). -/
def R.PMC_CFG : RegSpec :=
  ⟨"PMC_CFG", 0x80000, [], false,
   [fld "USER_EN" 0 0 .rw 0x0]⟩
def F.PMC_CFG_USER_EN : Fld := ⟨R.PMC_CFG, 0, 0⟩

/-- PMC_EVT (18_counters_and_telemetry.md R534). -/
def R.PMC_EVT : RegSpec :=
  ⟨"PMC_EVT", 0x80004, [], false,
   [fld "SEQ" 31 24 .ro 0x0,
    fld "CFG_ERR" 3 3 .sc 0x0,
    fld "DUMP_SKIP" 2 2 .sc 0x0,
    fld "DUMP_DONE" 1 1 .sc 0x0,
    fld "OVF" 0 0 .sc 0x0]⟩
def F.PMC_EVT_SEQ : Fld := ⟨R.PMC_EVT, 31, 24⟩
def F.PMC_EVT_CFG_ERR : Fld := ⟨R.PMC_EVT, 3, 3⟩
def F.PMC_EVT_DUMP_SKIP : Fld := ⟨R.PMC_EVT, 2, 2⟩
def F.PMC_EVT_DUMP_DONE : Fld := ⟨R.PMC_EVT, 1, 1⟩
def F.PMC_EVT_OVF : Fld := ⟨R.PMC_EVT, 0, 0⟩

/-- PMC_CMD (18_counters_and_telemetry.md R534). -/
def R.PMC_CMD : RegSpec :=
  ⟨"PMC_CMD", 0x80008, [], false,
   [fld "MASK" 23 16 .wo 0x0,
    fld "KEY" 15 8 .wo 0x0,
    fld "OP" 3 0 .wo 0x0]⟩
def F.PMC_CMD_MASK : Fld := ⟨R.PMC_CMD, 23, 16⟩
def F.PMC_CMD_KEY : Fld := ⟨R.PMC_CMD, 15, 8⟩
def F.PMC_CMD_OP : Fld := ⟨R.PMC_CMD, 3, 0⟩

/-- PMC_GRP_EN (18_counters_and_telemetry.md R534). -/
def R.PMC_GRP_EN : RegSpec :=
  ⟨"PMC_GRP_EN", 0x8000C, [], false,
   [fld "EN" 7 0 .rw 0x0]⟩
def F.PMC_GRP_EN_EN : Fld := ⟨R.PMC_GRP_EN, 7, 0⟩

/-- PMC_DUMP_CFG (18_counters_and_telemetry.md R534). -/
def R.PMC_DUMP_CFG : RegSpec :=
  ⟨"PMC_DUMP_CFG", 0x80010, [], false,
   [fld "EN" 31 31 .rw 0x0,
    fld "PORT" 9 9 .rwe 0x0,
    fld "LEDGER" 8 8 .rwe 0x1,
    fld "SEL" 7 0 .rwe 0xFF]⟩
def F.PMC_DUMP_CFG_EN : Fld := ⟨R.PMC_DUMP_CFG, 31, 31⟩
def F.PMC_DUMP_CFG_PORT : Fld := ⟨R.PMC_DUMP_CFG, 9, 9⟩
def F.PMC_DUMP_CFG_LEDGER : Fld := ⟨R.PMC_DUMP_CFG, 8, 8⟩
def F.PMC_DUMP_CFG_SEL : Fld := ⟨R.PMC_DUMP_CFG, 7, 0⟩

/-- PMC_DUMP_PERIOD (18_counters_and_telemetry.md R534). -/
def R.PMC_DUMP_PERIOD : RegSpec :=
  ⟨"PMC_DUMP_PERIOD", 0x80014, [], false,
   [fld "PERIOD" 29 0 .rwe 0xF4240]⟩
def F.PMC_DUMP_PERIOD_PERIOD : Fld := ⟨R.PMC_DUMP_PERIOD, 29, 0⟩

/-- PMC_DUMP_BASE_SEC (18_counters_and_telemetry.md R534). -/
def R.PMC_DUMP_BASE_SEC : RegSpec :=
  ⟨"PMC_DUMP_BASE_SEC", 0x80018, [], false,
   [fld "SEC" 31 0 .rwe 0x0]⟩
def F.PMC_DUMP_BASE_SEC_SEC : Fld := ⟨R.PMC_DUMP_BASE_SEC, 31, 0⟩

/-- PMC_DUMP_BASE_NS (18_counters_and_telemetry.md R534). -/
def R.PMC_DUMP_BASE_NS : RegSpec :=
  ⟨"PMC_DUMP_BASE_NS", 0x8001C, [], false,
   [fld "NS" 29 0 .rwe 0x0]⟩
def F.PMC_DUMP_BASE_NS_NS : Fld := ⟨R.PMC_DUMP_BASE_NS, 29, 0⟩

/-- PMC_DUMP_STAT (18_counters_and_telemetry.md R534). -/
def R.PMC_DUMP_STAT : RegSpec :=
  ⟨"PMC_DUMP_STAT", 0x80020, [], false,
   [fld "BUSY" 31 31 .ro 0x0,
    fld "BYTES" 15 0 .ro 0x0]⟩
def F.PMC_DUMP_STAT_BUSY : Fld := ⟨R.PMC_DUMP_STAT, 31, 31⟩
def F.PMC_DUMP_STAT_BYTES : Fld := ⟨R.PMC_DUMP_STAT, 15, 0⟩

/-- PMC_DUMP_SKIP (18_counters_and_telemetry.md R534). -/
def R.PMC_DUMP_SKIP : RegSpec :=
  ⟨"PMC_DUMP_SKIP", 0x80024, [], false,
   [fld "COUNT" 31 0 .rc 0x0]⟩
def F.PMC_DUMP_SKIP_COUNT : Fld := ⟨R.PMC_DUMP_SKIP, 31, 0⟩

/-- PMC_DUMP_SEQ (18_counters_and_telemetry.md R534). -/
def R.PMC_DUMP_SEQ : RegSpec :=
  ⟨"PMC_DUMP_SEQ", 0x80028, [], false,
   [fld "DSEQ" 31 0 .ro 0x0]⟩
def F.PMC_DUMP_SEQ_DSEQ : Fld := ⟨R.PMC_DUMP_SEQ, 31, 0⟩

/-- PMC_OVF (18_counters_and_telemetry.md R534). -/
def R.PMC_OVF : RegSpec :=
  ⟨"PMC_OVF", 0x80040, [(16, 0x4)], false,
   [fld "OVF" 31 0 .rc 0x0]⟩
def F.PMC_OVF_OVF : Fld := ⟨R.PMC_OVF, 31, 0⟩

/-- PMC_EVSEL (18_counters_and_telemetry.md R534). -/
def R.PMC_EVSEL : RegSpec :=
  ⟨"PMC_EVSEL", 0x81000, [(512, 0x8)], false,
   [fld "MODE" 31 30 .rwe 0x0,
    fld "EVENT" 23 16 .rwe 0x40,
    fld "INST" 9 0 .rwe 0x0]⟩
def F.PMC_EVSEL_MODE : Fld := ⟨R.PMC_EVSEL, 31, 30⟩
def F.PMC_EVSEL_EVENT : Fld := ⟨R.PMC_EVSEL, 23, 16⟩
def F.PMC_EVSEL_INST : Fld := ⟨R.PMC_EVSEL, 9, 0⟩

/-- PMC_THR (18_counters_and_telemetry.md R534). -/
def R.PMC_THR : RegSpec :=
  ⟨"PMC_THR", 0x81004, [(512, 0x8)], false,
   [fld "THR" 23 0 .rwe 0x0]⟩
def F.PMC_THR_THR : Fld := ⟨R.PMC_THR, 23, 0⟩

/-- PMC_CNT_LO (18_counters_and_telemetry.md R534). -/
def R.PMC_CNT_LO : RegSpec :=
  ⟨"PMC_CNT_LO", 0x82000, [(512, 0x8)], false,
   [fld "COUNT" 31 0 .rwe 0x0]⟩
def F.PMC_CNT_LO_COUNT : Fld := ⟨R.PMC_CNT_LO, 31, 0⟩

/-- PMC_CNT_HI (18_counters_and_telemetry.md R534). -/
def R.PMC_CNT_HI : RegSpec :=
  ⟨"PMC_CNT_HI", 0x82004, [(512, 0x8)], false,
   [fld "COUNT" 15 0 .rwe 0x0]⟩
def F.PMC_CNT_HI_COUNT : Fld := ⟨R.PMC_CNT_HI, 15, 0⟩

/-- PMC_LP_LO (18_counters_and_telemetry.md R534). -/
def R.PMC_LP_LO : RegSpec :=
  ⟨"PMC_LP_LO", 0x83000, [(72, 0x20), (4, 0x8)], false,
   [fld "COUNT" 31 0 .ro 0x0]⟩
def F.PMC_LP_LO_COUNT : Fld := ⟨R.PMC_LP_LO, 31, 0⟩

/-- PMC_LP_HI (18_counters_and_telemetry.md R534). -/
def R.PMC_LP_HI : RegSpec :=
  ⟨"PMC_LP_HI", 0x83004, [(72, 0x20), (4, 0x8)], false,
   [fld "COUNT" 15 0 .ro 0x0]⟩
def F.PMC_LP_HI_COUNT : Fld := ⟨R.PMC_LP_HI, 15, 0⟩

/-- PMC_LC_LO (18_counters_and_telemetry.md R534). -/
def R.PMC_LC_LO : RegSpec :=
  ⟨"PMC_LC_LO", 0x83900, [(3, 0x20), (4, 0x8)], false,
   [fld "COUNT" 31 0 .ro 0x0]⟩
def F.PMC_LC_LO_COUNT : Fld := ⟨R.PMC_LC_LO, 31, 0⟩

/-- PMC_LC_HI (18_counters_and_telemetry.md R534). -/
def R.PMC_LC_HI : RegSpec :=
  ⟨"PMC_LC_HI", 0x83904, [(3, 0x20), (4, 0x8)], false,
   [fld "COUNT" 15 0 .ro 0x0]⟩
def F.PMC_LC_HI_COUNT : Fld := ⟨R.PMC_LC_HI, 15, 0⟩

def regsPmc : List RegSpec :=
  [R.PMC_CFG, R.PMC_EVT, R.PMC_CMD, R.PMC_GRP_EN, R.PMC_DUMP_CFG, R.PMC_DUMP_PERIOD,
   R.PMC_DUMP_BASE_SEC, R.PMC_DUMP_BASE_NS, R.PMC_DUMP_STAT, R.PMC_DUMP_SKIP, R.PMC_DUMP_SEQ, R.PMC_OVF,
   R.PMC_EVSEL, R.PMC_THR, R.PMC_CNT_LO, R.PMC_CNT_HI, R.PMC_LP_LO, R.PMC_LP_HI,
   R.PMC_LC_LO, R.PMC_LC_HI]

end Sys2Proof.Machine
end

