-- ==== Sys2Proof/Machine/RegsPol.lean ====
section
/-! DEFINITION. The registers of the Pol extent: name, BAR0 offset, index strides and fields (access code, value after
POWER_ON reset; `img` marks a field the configuration image gives, which reads 0 until then, R7). From 09_policing.md R285; 09_policing.md R288, in the spec's own field tables. -/

namespace Sys2Proof.Machine

/-- POL_CFG (09_policing.md R285). -/
def R.POL_CFG : RegSpec :=
  ⟨"POL_CFG", 0x400000, [], false,
   [fld "RESET_TO" 0 0 .rw 0x1]⟩
def F.POL_CFG_RESET_TO : Fld := ⟨R.POL_CFG, 0, 0⟩

/-- POL_OVERHEAD (09_policing.md R285). -/
def R.POL_OVERHEAD : RegSpec :=
  ⟨"POL_OVERHEAD", 0x400004, [], false,
   [fld "OVH" 5 0 .rw 0x14]⟩
def F.POL_OVERHEAD_OVH : Fld := ⟨R.POL_OVERHEAD, 5, 0⟩

/-- POL_PCP_COLOUR (09_policing.md R285). -/
def R.POL_PCP_COLOUR : RegSpec :=
  ⟨"POL_PCP_COLOUR", 0x400008, [], false,
   [fld "MAP" 15 0 .rw 0x0]⟩
def F.POL_PCP_COLOUR_MAP : Fld := ⟨R.POL_PCP_COLOUR, 15, 0⟩

/-- POL_EVT (09_policing.md R285). -/
def R.POL_EVT : RegSpec :=
  ⟨"POL_EVT", 0x40000C, [], false,
   [fld "SEQ" 31 24 .ro 0x0,
    fld "CMD_DONE" 6 6 .sc 0x0,
    fld "ECC_UNC" 5 5 .sc 0x0,
    fld "SDU_LATE" 4 4 .sc 0x0,
    fld "GATE_INV" 3 3 .sc 0x0,
    fld "BLOCKED" 2 2 .sc 0x0,
    fld "CFG_ERR" 1 1 .sc 0x0,
    fld "CHG_DONE" 0 0 .sc 0x0]⟩
def F.POL_EVT_SEQ : Fld := ⟨R.POL_EVT, 31, 24⟩
def F.POL_EVT_CMD_DONE : Fld := ⟨R.POL_EVT, 6, 6⟩
def F.POL_EVT_ECC_UNC : Fld := ⟨R.POL_EVT, 5, 5⟩
def F.POL_EVT_SDU_LATE : Fld := ⟨R.POL_EVT, 4, 4⟩
def F.POL_EVT_GATE_INV : Fld := ⟨R.POL_EVT, 3, 3⟩
def F.POL_EVT_BLOCKED : Fld := ⟨R.POL_EVT, 2, 2⟩
def F.POL_EVT_CFG_ERR : Fld := ⟨R.POL_EVT, 1, 1⟩
def F.POL_EVT_CHG_DONE : Fld := ⟨R.POL_EVT, 0, 0⟩

/-- POL_ERR (09_policing.md R285). -/
def R.POL_ERR : RegSpec :=
  ⟨"POL_ERR", 0x400010, [], false,
   [fld "VALID" 31 31 .rc 0x0,
    fld "MULTI" 30 30 .rc 0x0,
    fld "TABLE" 15 14 .rc 0x0,
    fld "INDEX" 13 0 .rc 0x0]⟩
def F.POL_ERR_VALID : Fld := ⟨R.POL_ERR, 31, 31⟩
def F.POL_ERR_MULTI : Fld := ⟨R.POL_ERR, 30, 30⟩
def F.POL_ERR_TABLE : Fld := ⟨R.POL_ERR, 15, 14⟩
def F.POL_ERR_INDEX : Fld := ⟨R.POL_ERR, 13, 0⟩

/-- POL_ECC_CNT (09_policing.md R285). -/
def R.POL_ECC_CNT : RegSpec :=
  ⟨"POL_ECC_CNT", 0x400014, [], false,
   [fld "COUNT" 31 0 .rc 0x0]⟩
def F.POL_ECC_CNT_COUNT : Fld := ⟨R.POL_ECC_CNT, 31, 0⟩

/-- POL_SDU_LATE (09_policing.md R285). -/
def R.POL_SDU_LATE : RegSpec :=
  ⟨"POL_SDU_LATE", 0x400018, [], false,
   [fld "COUNT" 31 0 .rc 0x0]⟩
def F.POL_SDU_LATE_COUNT : Fld := ⟨R.POL_SDU_LATE, 31, 0⟩

/-- POL_CMD (09_policing.md R285). -/
def R.POL_CMD : RegSpec :=
  ⟨"POL_CMD", 0x400020, [], false,
   [fld "VER" 6 6 .pw 0x0,
    fld "TABLE" 5 4 .pw 0x0,
    fld "OP" 3 0 .pw 0x0]⟩
def F.POL_CMD_VER : Fld := ⟨R.POL_CMD, 6, 6⟩
def F.POL_CMD_TABLE : Fld := ⟨R.POL_CMD, 5, 4⟩
def F.POL_CMD_OP : Fld := ⟨R.POL_CMD, 3, 0⟩

/-- POL_STAT (09_policing.md R285). -/
def R.POL_STAT : RegSpec :=
  ⟨"POL_STAT", 0x400024, [], false,
   [fld "BUSY" 31 31 .ro 0x0,
    fld "STATUS" 2 0 .ro 0x0]⟩
def F.POL_STAT_BUSY : Fld := ⟨R.POL_STAT, 31, 31⟩
def F.POL_STAT_STATUS : Fld := ⟨R.POL_STAT, 2, 0⟩

/-- POL_INDEX (09_policing.md R285). -/
def R.POL_INDEX : RegSpec :=
  ⟨"POL_INDEX", 0x400028, [], false,
   [fld "INDEX" 13 0 .rw 0x0]⟩
def F.POL_INDEX_INDEX : Fld := ⟨R.POL_INDEX, 13, 0⟩

/-- POL_DATA (09_policing.md R285). -/
def R.POL_DATA : RegSpec :=
  ⟨"POL_DATA", 0x400040, [(8, 0x4)], false,
   [fld "DATA" 31 0 .rw 0x0]⟩
def F.POL_DATA_DATA : Fld := ⟨R.POL_DATA, 31, 0⟩

/-- POL_COLOUR_CNT (09_policing.md R285). -/
def R.POL_COLOUR_CNT : RegSpec :=
  ⟨"POL_COLOUR_CNT", 0x400080, [(3, 0x4)], false,
   [fld "COUNT" 31 0 .rc 0x0]⟩
def F.POL_COLOUR_CNT_COUNT : Fld := ⟨R.POL_COLOUR_CNT, 31, 0⟩

/-- POL_SGS_CHG (09_policing.md R288). -/
def R.POL_SGS_CHG : RegSpec :=
  ⟨"POL_SGS_CHG", 0x401000, [(16, 0x40)], false,
   [fld "KEY" 15 8 .wo 0x0,
    fld "CANCEL" 1 1 .wo 0x0,
    fld "GO" 0 0 .wo 0x0]⟩
def F.POL_SGS_CHG_KEY : Fld := ⟨R.POL_SGS_CHG, 15, 8⟩
def F.POL_SGS_CHG_CANCEL : Fld := ⟨R.POL_SGS_CHG, 1, 1⟩
def F.POL_SGS_CHG_GO : Fld := ⟨R.POL_SGS_CHG, 0, 0⟩

/-- POL_SGS_ADM_BASE_SEC (09_policing.md R288). -/
def R.POL_SGS_ADM_BASE_SEC : RegSpec :=
  ⟨"POL_SGS_ADM_BASE_SEC", 0x401004, [(16, 0x40)], false,
   [fld "SEC" 31 0 .rw 0x0]⟩
def F.POL_SGS_ADM_BASE_SEC_SEC : Fld := ⟨R.POL_SGS_ADM_BASE_SEC, 31, 0⟩

/-- POL_SGS_ADM_BASE_NS (09_policing.md R288). -/
def R.POL_SGS_ADM_BASE_NS : RegSpec :=
  ⟨"POL_SGS_ADM_BASE_NS", 0x401008, [(16, 0x40)], false,
   [fld "NS" 29 0 .rw 0x0]⟩
def F.POL_SGS_ADM_BASE_NS_NS : Fld := ⟨R.POL_SGS_ADM_BASE_NS, 29, 0⟩

/-- POL_SGS_ADM_CYCLE (09_policing.md R288). -/
def R.POL_SGS_ADM_CYCLE : RegSpec :=
  ⟨"POL_SGS_ADM_CYCLE", 0x40100C, [(16, 0x40)], false,
   [fld "CYCLE" 31 0 .rw 0x0]⟩
def F.POL_SGS_ADM_CYCLE_CYCLE : Fld := ⟨R.POL_SGS_ADM_CYCLE, 31, 0⟩

/-- POL_SGS_ADM_EXT (09_policing.md R288). -/
def R.POL_SGS_ADM_EXT : RegSpec :=
  ⟨"POL_SGS_ADM_EXT", 0x401010, [(16, 0x40)], false,
   [fld "EXT" 31 0 .rw 0x0 true]⟩
def F.POL_SGS_ADM_EXT_EXT : Fld := ⟨R.POL_SGS_ADM_EXT, 31, 0⟩

/-- POL_SGS_ADM_LEN (09_policing.md R288). -/
def R.POL_SGS_ADM_LEN : RegSpec :=
  ⟨"POL_SGS_ADM_LEN", 0x401014, [(16, 0x40)], false,
   [fld "LEN" 8 0 .rw 0x0]⟩
def F.POL_SGS_ADM_LEN_LEN : Fld := ⟨R.POL_SGS_ADM_LEN, 8, 0⟩

/-- POL_SGS_OPER_BASE_SEC (09_policing.md R288). -/
def R.POL_SGS_OPER_BASE_SEC : RegSpec :=
  ⟨"POL_SGS_OPER_BASE_SEC", 0x401018, [(16, 0x40)], false,
   [fld "SEC" 31 0 .ro 0x0]⟩
def F.POL_SGS_OPER_BASE_SEC_SEC : Fld := ⟨R.POL_SGS_OPER_BASE_SEC, 31, 0⟩

/-- POL_SGS_OPER_BASE_NS (09_policing.md R288). -/
def R.POL_SGS_OPER_BASE_NS : RegSpec :=
  ⟨"POL_SGS_OPER_BASE_NS", 0x40101C, [(16, 0x40)], false,
   [fld "NS" 29 0 .ro 0x0]⟩
def F.POL_SGS_OPER_BASE_NS_NS : Fld := ⟨R.POL_SGS_OPER_BASE_NS, 29, 0⟩

/-- POL_SGS_OPER_CYCLE (09_policing.md R288). -/
def R.POL_SGS_OPER_CYCLE : RegSpec :=
  ⟨"POL_SGS_OPER_CYCLE", 0x401020, [(16, 0x40)], false,
   [fld "CYCLE" 31 0 .ro 0x0 true]⟩
def F.POL_SGS_OPER_CYCLE_CYCLE : Fld := ⟨R.POL_SGS_OPER_CYCLE, 31, 0⟩

/-- POL_SGS_OPER_LEN (09_policing.md R288). -/
def R.POL_SGS_OPER_LEN : RegSpec :=
  ⟨"POL_SGS_OPER_LEN", 0x401024, [(16, 0x40)], false,
   [fld "LEN" 8 0 .ro 0x0 true]⟩
def F.POL_SGS_OPER_LEN_LEN : Fld := ⟨R.POL_SGS_OPER_LEN, 8, 0⟩

/-- POL_SGS_CHG_SEC (09_policing.md R288). -/
def R.POL_SGS_CHG_SEC : RegSpec :=
  ⟨"POL_SGS_CHG_SEC", 0x401028, [(16, 0x40)], false,
   [fld "SEC" 31 0 .ro 0x0]⟩
def F.POL_SGS_CHG_SEC_SEC : Fld := ⟨R.POL_SGS_CHG_SEC, 31, 0⟩

/-- POL_SGS_CHG_NS (09_policing.md R288). -/
def R.POL_SGS_CHG_NS : RegSpec :=
  ⟨"POL_SGS_CHG_NS", 0x40102C, [(16, 0x40)], false,
   [fld "NS" 29 0 .ro 0x0]⟩
def F.POL_SGS_CHG_NS_NS : Fld := ⟨R.POL_SGS_CHG_NS, 29, 0⟩

/-- POL_SGS_STAT (09_policing.md R288). -/
def R.POL_SGS_STAT : RegSpec :=
  ⟨"POL_SGS_STAT", 0x401030, [(16, 0x40)], false,
   [fld "CHG_PEND" 31 31 .ro 0x0,
    fld "BANK" 29 29 .ro 0x0,
    fld "CHG_ERR" 28 26 .ro 0x0,
    fld "ENTRY" 23 16 .ro 0x0,
    fld "STATES" 15 0 .ro 0x0]⟩
def F.POL_SGS_STAT_CHG_PEND : Fld := ⟨R.POL_SGS_STAT, 31, 31⟩
def F.POL_SGS_STAT_BANK : Fld := ⟨R.POL_SGS_STAT, 29, 29⟩
def F.POL_SGS_STAT_CHG_ERR : Fld := ⟨R.POL_SGS_STAT, 28, 26⟩
def F.POL_SGS_STAT_ENTRY : Fld := ⟨R.POL_SGS_STAT, 23, 16⟩
def F.POL_SGS_STAT_STATES : Fld := ⟨R.POL_SGS_STAT, 15, 0⟩

def regsPol : List RegSpec :=
  [R.POL_CFG, R.POL_OVERHEAD, R.POL_PCP_COLOUR, R.POL_EVT, R.POL_ERR, R.POL_ECC_CNT,
   R.POL_SDU_LATE, R.POL_CMD, R.POL_STAT, R.POL_INDEX, R.POL_DATA, R.POL_COLOUR_CNT,
   R.POL_SGS_CHG, R.POL_SGS_ADM_BASE_SEC, R.POL_SGS_ADM_BASE_NS, R.POL_SGS_ADM_CYCLE, R.POL_SGS_ADM_EXT, R.POL_SGS_ADM_LEN,
   R.POL_SGS_OPER_BASE_SEC, R.POL_SGS_OPER_BASE_NS, R.POL_SGS_OPER_CYCLE, R.POL_SGS_OPER_LEN, R.POL_SGS_CHG_SEC, R.POL_SGS_CHG_NS,
   R.POL_SGS_STAT]

end Sys2Proof.Machine
end

