-- ==== Sys2Proof/Machine/RegsPort.lean ====
section
/-! DEFINITION. The registers of the Port extent: name, BAR0 offset, index strides and fields (access code, value after
POWER_ON reset; `img` marks a field the configuration image gives, which reads 0 until then, R7). From 03_ports_and_macs.md R105; 03_ports_and_macs.md R106; 03_ports_and_macs.md R107; 03_ports_and_macs.md R108, in the spec's own field tables. -/

namespace Sys2Proof.Machine

/-- PORT_CTRL (03_ports_and_macs.md R105). -/
def R.PORT_CTRL : RegSpec :=
  ⟨"PORT_CTRL", 0x800000, [(72, 0x10000)], false,
   [fld "ENABLE" 31 31 .rw 0x0 true,
    fld "LOOPBACK" 6 4 .rw 0x0,
    fld "PCS_RESET" 0 0 .wo 0x0]⟩
def F.PORT_CTRL_ENABLE : Fld := ⟨R.PORT_CTRL, 31, 31⟩
def F.PORT_CTRL_LOOPBACK : Fld := ⟨R.PORT_CTRL, 6, 4⟩
def F.PORT_CTRL_PCS_RESET : Fld := ⟨R.PORT_CTRL, 0, 0⟩

/-- PORT_MODE (03_ports_and_macs.md R105). -/
def R.PORT_MODE : RegSpec :=
  ⟨"PORT_MODE", 0x800004, [(72, 0x10000)], false,
   [fld "FEC" 11 10 .rwe 0x0 true,
    fld "AN_EN" 9 9 .rwe 0x0 true,
    fld "SPEED" 7 4 .rwe 0x0 true,
    fld "MODE" 3 0 .rwe 0x0 true]⟩
def F.PORT_MODE_FEC : Fld := ⟨R.PORT_MODE, 11, 10⟩
def F.PORT_MODE_AN_EN : Fld := ⟨R.PORT_MODE, 9, 9⟩
def F.PORT_MODE_SPEED : Fld := ⟨R.PORT_MODE, 7, 4⟩
def F.PORT_MODE_MODE : Fld := ⟨R.PORT_MODE, 3, 0⟩

/-- PORT_LANE (03_ports_and_macs.md R105). -/
def R.PORT_LANE : RegSpec :=
  ⟨"PORT_LANE", 0x800008, [(72, 0x10000)], false,
   [fld "RX_INV" 17 17 .rwe 0x0 true,
    fld "TX_INV" 16 16 .rwe 0x0 true,
    fld "LANE" 6 0 .ro 0x0 true]⟩
def F.PORT_LANE_RX_INV : Fld := ⟨R.PORT_LANE, 17, 17⟩
def F.PORT_LANE_TX_INV : Fld := ⟨R.PORT_LANE, 16, 16⟩
def F.PORT_LANE_LANE : Fld := ⟨R.PORT_LANE, 6, 0⟩

/-- PORT_TX_EQ (03_ports_and_macs.md R105). -/
def R.PORT_TX_EQ : RegSpec :=
  ⟨"PORT_TX_EQ", 0x80000C, [(72, 0x10000)], false,
   [fld "POST" 17 12 .rwe 0x0 true,
    fld "MAIN" 11 6 .rwe 0x0 true,
    fld "PRE" 5 0 .rwe 0x0 true]⟩
def F.PORT_TX_EQ_POST : Fld := ⟨R.PORT_TX_EQ, 17, 12⟩
def F.PORT_TX_EQ_MAIN : Fld := ⟨R.PORT_TX_EQ, 11, 6⟩
def F.PORT_TX_EQ_PRE : Fld := ⟨R.PORT_TX_EQ, 5, 0⟩

/-- PORT_STAT (03_ports_and_macs.md R105). -/
def R.PORT_STAT : RegSpec :=
  ⟨"PORT_STAT", 0x800010, [(72, 0x10000)], false,
   [fld "FEC_RES" 13 12 .ro 0x0,
    fld "FC_RX_PAUSED" 11 11 .ro 0x0,
    fld "FEC_LOCK" 10 10 .ro 0x0,
    fld "TRAIN_DONE" 9 9 .ro 0x0,
    fld "AN_DONE" 8 8 .ro 0x0,
    fld "SPEED_RES" 6 4 .ro 0x0,
    fld "LINK" 0 0 .ro 0x0]⟩
def F.PORT_STAT_FEC_RES : Fld := ⟨R.PORT_STAT, 13, 12⟩
def F.PORT_STAT_FC_RX_PAUSED : Fld := ⟨R.PORT_STAT, 11, 11⟩
def F.PORT_STAT_FEC_LOCK : Fld := ⟨R.PORT_STAT, 10, 10⟩
def F.PORT_STAT_TRAIN_DONE : Fld := ⟨R.PORT_STAT, 9, 9⟩
def F.PORT_STAT_AN_DONE : Fld := ⟨R.PORT_STAT, 8, 8⟩
def F.PORT_STAT_SPEED_RES : Fld := ⟨R.PORT_STAT, 6, 4⟩
def F.PORT_STAT_LINK : Fld := ⟨R.PORT_STAT, 0, 0⟩

/-- PORT_EVT (03_ports_and_macs.md R105). -/
def R.PORT_EVT : RegSpec :=
  ⟨"PORT_EVT", 0x800014, [(72, 0x10000)], false,
   [fld "SEQ" 31 24 .ro 0x0,
    fld "CFG_ERR" 9 9 .sc 0x0,
    fld "FEC_UNCORR" 8 8 .sc 0x0,
    fld "RX_XOFF" 7 7 .sc 0x0,
    fld "TX_XOFF" 6 6 .sc 0x0,
    fld "VERIFY_FAIL" 5 5 .sc 0x0,
    fld "VERIFY_OK" 4 4 .sc 0x0,
    fld "TRAIN_FAIL" 3 3 .sc 0x0,
    fld "AN_DONE" 2 2 .sc 0x0,
    fld "LINK_DOWN" 1 1 .sc 0x0,
    fld "LINK_UP" 0 0 .sc 0x0]⟩
def F.PORT_EVT_SEQ : Fld := ⟨R.PORT_EVT, 31, 24⟩
def F.PORT_EVT_CFG_ERR : Fld := ⟨R.PORT_EVT, 9, 9⟩
def F.PORT_EVT_FEC_UNCORR : Fld := ⟨R.PORT_EVT, 8, 8⟩
def F.PORT_EVT_RX_XOFF : Fld := ⟨R.PORT_EVT, 7, 7⟩
def F.PORT_EVT_TX_XOFF : Fld := ⟨R.PORT_EVT, 6, 6⟩
def F.PORT_EVT_VERIFY_FAIL : Fld := ⟨R.PORT_EVT, 5, 5⟩
def F.PORT_EVT_VERIFY_OK : Fld := ⟨R.PORT_EVT, 4, 4⟩
def F.PORT_EVT_TRAIN_FAIL : Fld := ⟨R.PORT_EVT, 3, 3⟩
def F.PORT_EVT_AN_DONE : Fld := ⟨R.PORT_EVT, 2, 2⟩
def F.PORT_EVT_LINK_DOWN : Fld := ⟨R.PORT_EVT, 1, 1⟩
def F.PORT_EVT_LINK_UP : Fld := ⟨R.PORT_EVT, 0, 0⟩

/-- PORT_AN_ADV (03_ports_and_macs.md R106). -/
def R.PORT_AN_ADV : RegSpec :=
  ⟨"PORT_AN_ADV", 0x800018, [(72, 0x10000)], false,
   [fld "BASER_REQ" 7 7 .rwe 0x0,
    fld "RS_REQ" 6 6 .rwe 0x0,
    fld "FEC_REQ" 5 5 .rwe 0x0,
    fld "FEC_ABIL" 4 4 .rwe 0x1,
    fld "ASM_DIR" 3 3 .rwe 0x0,
    fld "PAUSE" 2 2 .rwe 0x0]⟩
def F.PORT_AN_ADV_BASER_REQ : Fld := ⟨R.PORT_AN_ADV, 7, 7⟩
def F.PORT_AN_ADV_RS_REQ : Fld := ⟨R.PORT_AN_ADV, 6, 6⟩
def F.PORT_AN_ADV_FEC_REQ : Fld := ⟨R.PORT_AN_ADV, 5, 5⟩
def F.PORT_AN_ADV_FEC_ABIL : Fld := ⟨R.PORT_AN_ADV, 4, 4⟩
def F.PORT_AN_ADV_ASM_DIR : Fld := ⟨R.PORT_AN_ADV, 3, 3⟩
def F.PORT_AN_ADV_PAUSE : Fld := ⟨R.PORT_AN_ADV, 2, 2⟩

/-- PORT_AN_LP (03_ports_and_macs.md R106). -/
def R.PORT_AN_LP : RegSpec :=
  ⟨"PORT_AN_LP", 0x80001C, [(72, 0x10000)], false,
   [fld "LP_WORD" 31 16 .ro 0x0,
    fld "LP_ABIL" 7 2 .ro 0x0]⟩
def F.PORT_AN_LP_LP_WORD : Fld := ⟨R.PORT_AN_LP, 31, 16⟩
def F.PORT_AN_LP_LP_ABIL : Fld := ⟨R.PORT_AN_LP, 7, 2⟩

/-- PORT_KR_CFG (03_ports_and_macs.md R106). -/
def R.PORT_KR_CFG : RegSpec :=
  ⟨"PORT_KR_CFG", 0x800020, [(72, 0x10000)], false,
   [fld "INIT_MODE" 13 13 .rwe 0x0,
    fld "TRAIN_EN" 12 12 .rwe 0x1,
    fld "MAX_WAIT" 9 0 .rwe 0x1F4]⟩
def F.PORT_KR_CFG_INIT_MODE : Fld := ⟨R.PORT_KR_CFG, 13, 13⟩
def F.PORT_KR_CFG_TRAIN_EN : Fld := ⟨R.PORT_KR_CFG, 12, 12⟩
def F.PORT_KR_CFG_MAX_WAIT : Fld := ⟨R.PORT_KR_CFG, 9, 0⟩

/-- PORT_RXCFG (03_ports_and_macs.md R106). -/
def R.PORT_RXCFG : RegSpec :=
  ⟨"PORT_RXCFG", 0x800024, [(72, 0x10000)], false,
   [fld "DELIVER_BAD" 31 31 .rw 0x0,
    fld "BAD_CPUQ" 27 24 .rw 0xE,
    fld "MAXLEN" 13 0 .rwe 0x3E80]⟩
def F.PORT_RXCFG_DELIVER_BAD : Fld := ⟨R.PORT_RXCFG, 31, 31⟩
def F.PORT_RXCFG_BAD_CPUQ : Fld := ⟨R.PORT_RXCFG, 27, 24⟩
def F.PORT_RXCFG_MAXLEN : Fld := ⟨R.PORT_RXCFG, 13, 0⟩

/-- PORT_MM_CFG (03_ports_and_macs.md R106). -/
def R.PORT_MM_CFG : RegSpec :=
  ⟨"PORT_MM_CFG", 0x800028, [(72, 0x10000)], false,
   [fld "MM_EN" 31 31 .rwe 0x0 true,
    fld "VERIFY_DIS" 30 30 .rwe 0x0 true,
    fld "VERIFY_TIME" 23 16 .rw 0xA,
    fld "EXPRESS" 7 0 .rw 0x0 true]⟩
def F.PORT_MM_CFG_MM_EN : Fld := ⟨R.PORT_MM_CFG, 31, 31⟩
def F.PORT_MM_CFG_VERIFY_DIS : Fld := ⟨R.PORT_MM_CFG, 30, 30⟩
def F.PORT_MM_CFG_VERIFY_TIME : Fld := ⟨R.PORT_MM_CFG, 23, 16⟩
def F.PORT_MM_CFG_EXPRESS : Fld := ⟨R.PORT_MM_CFG, 7, 0⟩

/-- PORT_MM_STAT (03_ports_and_macs.md R106). -/
def R.PORT_MM_STAT : RegSpec :=
  ⟨"PORT_MM_STAT", 0x80002C, [(72, 0x10000)], false,
   [fld "TX_ACTIVE" 3 3 .ro 0x0,
    fld "VERIFY_STATUS" 2 0 .ro 0x0]⟩
def F.PORT_MM_STAT_TX_ACTIVE : Fld := ⟨R.PORT_MM_STAT, 3, 3⟩
def F.PORT_MM_STAT_VERIFY_STATUS : Fld := ⟨R.PORT_MM_STAT, 2, 0⟩

/-- PORT_MAC_A (03_ports_and_macs.md R107). -/
def R.PORT_MAC_A : RegSpec :=
  ⟨"PORT_MAC_A", 0x800030, [(72, 0x10000)], false,
   [fld "SA_HI" 31 0 .rw 0x0 true]⟩
def F.PORT_MAC_A_SA_HI : Fld := ⟨R.PORT_MAC_A, 31, 0⟩

/-- PORT_MAC_B (03_ports_and_macs.md R107). -/
def R.PORT_MAC_B : RegSpec :=
  ⟨"PORT_MAC_B", 0x800034, [(72, 0x10000)], false,
   [fld "SA_LO" 31 16 .rw 0x0 true]⟩
def F.PORT_MAC_B_SA_LO : Fld := ⟨R.PORT_MAC_B, 31, 16⟩

/-- PORT_FC_CFG (03_ports_and_macs.md R107). -/
def R.PORT_FC_CFG : RegSpec :=
  ⟨"PORT_FC_CFG", 0x800040, [(72, 0x10000)], false,
   [fld "MODE" 31 30 .rw 0x0,
    fld "RX_EN" 29 29 .rw 0x1,
    fld "DEF_PRI" 26 24 .rw 0x0,
    fld "PFC_EN" 15 8 .rw 0x0]⟩
def F.PORT_FC_CFG_MODE : Fld := ⟨R.PORT_FC_CFG, 31, 30⟩
def F.PORT_FC_CFG_RX_EN : Fld := ⟨R.PORT_FC_CFG, 29, 29⟩
def F.PORT_FC_CFG_DEF_PRI : Fld := ⟨R.PORT_FC_CFG, 26, 24⟩
def F.PORT_FC_CFG_PFC_EN : Fld := ⟨R.PORT_FC_CFG, 15, 8⟩

/-- PORT_FC_TIME (03_ports_and_macs.md R107). -/
def R.PORT_FC_TIME : RegSpec :=
  ⟨"PORT_FC_TIME", 0x800044, [(72, 0x10000)], false,
   [fld "REFRESH" 31 16 .rw 0x8000,
    fld "QUANTA" 15 0 .rw 0xFFFF]⟩
def F.PORT_FC_TIME_REFRESH : Fld := ⟨R.PORT_FC_TIME, 31, 16⟩
def F.PORT_FC_TIME_QUANTA : Fld := ⟨R.PORT_FC_TIME, 15, 0⟩

/-- PORT_FC_MAP (03_ports_and_macs.md R107). -/
def R.PORT_FC_MAP : RegSpec :=
  ⟨"PORT_FC_MAP", 0x800048, [(72, 0x10000)], false,
   [fld "PRI_Q" 23 0 .rw 0xFAC688]⟩
def F.PORT_FC_MAP_PRI_Q : Fld := ⟨R.PORT_FC_MAP, 23, 0⟩

/-- PORT_FC_STAT (03_ports_and_macs.md R107). -/
def R.PORT_FC_STAT : RegSpec :=
  ⟨"PORT_FC_STAT", 0x80004C, [(72, 0x10000)], false,
   [fld "RX_PAUSED_Q" 23 16 .ro 0x0,
    fld "TX_XOFF_PRI" 15 8 .ro 0x0,
    fld "TX_XOFF_PORT" 0 0 .ro 0x0]⟩
def F.PORT_FC_STAT_RX_PAUSED_Q : Fld := ⟨R.PORT_FC_STAT, 23, 16⟩
def F.PORT_FC_STAT_TX_XOFF_PRI : Fld := ⟨R.PORT_FC_STAT, 15, 8⟩
def F.PORT_FC_STAT_TX_XOFF_PORT : Fld := ⟨R.PORT_FC_STAT, 0, 0⟩

/-- PORT_WM_PORT_HI (03_ports_and_macs.md R107). -/
def R.PORT_WM_PORT_HI : RegSpec :=
  ⟨"PORT_WM_PORT_HI", 0x800050, [(72, 0x10000)], false,
   [fld "HI" 17 0 .rw 0x0]⟩
def F.PORT_WM_PORT_HI_HI : Fld := ⟨R.PORT_WM_PORT_HI, 17, 0⟩

/-- PORT_WM_PORT_LO (03_ports_and_macs.md R107). -/
def R.PORT_WM_PORT_LO : RegSpec :=
  ⟨"PORT_WM_PORT_LO", 0x800054, [(72, 0x10000)], false,
   [fld "LO" 17 0 .rw 0x0]⟩
def F.PORT_WM_PORT_LO_LO : Fld := ⟨R.PORT_WM_PORT_LO, 17, 0⟩

/-- PORT_OCC_PORT (03_ports_and_macs.md R107). -/
def R.PORT_OCC_PORT : RegSpec :=
  ⟨"PORT_OCC_PORT", 0x800058, [(72, 0x10000)], false,
   [fld "OCC" 17 0 .ro 0x0]⟩
def F.PORT_OCC_PORT_OCC : Fld := ⟨R.PORT_OCC_PORT, 17, 0⟩

/-- PORT_WM_HI (03_ports_and_macs.md R107). -/
def R.PORT_WM_HI : RegSpec :=
  ⟨"PORT_WM_HI", 0x800060, [(72, 0x10000), (8, 0x8)], false,
   [fld "HI" 17 0 .rw 0x0]⟩
def F.PORT_WM_HI_HI : Fld := ⟨R.PORT_WM_HI, 17, 0⟩

/-- PORT_WM_LO (03_ports_and_macs.md R107). -/
def R.PORT_WM_LO : RegSpec :=
  ⟨"PORT_WM_LO", 0x800064, [(72, 0x10000), (8, 0x8)], false,
   [fld "LO" 17 0 .rw 0x0]⟩
def F.PORT_WM_LO_LO : Fld := ⟨R.PORT_WM_LO, 17, 0⟩

/-- PORT_OCC_PRI (03_ports_and_macs.md R107). -/
def R.PORT_OCC_PRI : RegSpec :=
  ⟨"PORT_OCC_PRI", 0x8000A0, [(72, 0x10000), (8, 0x4)], false,
   [fld "OCC" 17 0 .ro 0x0]⟩
def F.PORT_OCC_PRI_OCC : Fld := ⟨R.PORT_OCC_PRI, 17, 0⟩

/-- PORT_CNT_LO (03_ports_and_macs.md R108). -/
def R.PORT_CNT_LO : RegSpec :=
  ⟨"PORT_CNT_LO", 0x801000, [(72, 0x10000), (48, 0x8)], false,
   [fld "COUNT" 31 0 .rc 0x0]⟩
def F.PORT_CNT_LO_COUNT : Fld := ⟨R.PORT_CNT_LO, 31, 0⟩

/-- PORT_CNT_HI (03_ports_and_macs.md R108). -/
def R.PORT_CNT_HI : RegSpec :=
  ⟨"PORT_CNT_HI", 0x801004, [(72, 0x10000), (48, 0x8)], false,
   [fld "COUNT" 31 0 .ro 0x0]⟩
def F.PORT_CNT_HI_COUNT : Fld := ⟨R.PORT_CNT_HI, 31, 0⟩

def regsPort : List RegSpec :=
  [R.PORT_CTRL, R.PORT_MODE, R.PORT_LANE, R.PORT_TX_EQ, R.PORT_STAT, R.PORT_EVT,
   R.PORT_AN_ADV, R.PORT_AN_LP, R.PORT_KR_CFG, R.PORT_RXCFG, R.PORT_MM_CFG, R.PORT_MM_STAT,
   R.PORT_MAC_A, R.PORT_MAC_B, R.PORT_FC_CFG, R.PORT_FC_TIME, R.PORT_FC_MAP, R.PORT_FC_STAT,
   R.PORT_WM_PORT_HI, R.PORT_WM_PORT_LO, R.PORT_OCC_PORT, R.PORT_WM_HI, R.PORT_WM_LO, R.PORT_OCC_PRI,
   R.PORT_CNT_LO, R.PORT_CNT_HI]

end Sys2Proof.Machine
end

