-- ==== Sys2Proof/Machine/RegsSwc.lean ====
section
/-! DEFINITION. The registers of the Swc extent: name, BAR0 offset, index strides and fields (access code, value after
POWER_ON reset; `img` marks a field the configuration image gives, which reads 0 until then, R7). From 07_switch_core.md R235; 07_switch_core.md R236; 07_switch_core.md R237, in the spec's own field tables. -/

namespace Sys2Proof.Machine

/-- SWC_CFG (07_switch_core.md R235). -/
def R.SWC_CFG : RegSpec :=
  ⟨"SWC_CFG", 0x200000, [], false,
   [fld "CT_EN" 0 0 .rw 0x1]⟩
def F.SWC_CFG_CT_EN : Fld := ⟨R.SWC_CFG, 0, 0⟩

/-- SWC_EVT (07_switch_core.md R236). -/
def R.SWC_EVT : RegSpec :=
  ⟨"SWC_EVT", 0x200004, [], false,
   [fld "SEQ" 31 24 .ro 0x0,
    fld "QUAR" 6 6 .sc 0x0,
    fld "ECC_UNC" 5 5 .sc 0x0,
    fld "STOMP" 4 4 .sc 0x0,
    fld "NO_CELL" 3 3 .sc 0x0,
    fld "AGE" 2 2 .sc 0x0,
    fld "PUSHOUT" 1 1 .sc 0x0,
    fld "ADMIT" 0 0 .sc 0x0]⟩
def F.SWC_EVT_SEQ : Fld := ⟨R.SWC_EVT, 31, 24⟩
def F.SWC_EVT_QUAR : Fld := ⟨R.SWC_EVT, 6, 6⟩
def F.SWC_EVT_ECC_UNC : Fld := ⟨R.SWC_EVT, 5, 5⟩
def F.SWC_EVT_STOMP : Fld := ⟨R.SWC_EVT, 4, 4⟩
def F.SWC_EVT_NO_CELL : Fld := ⟨R.SWC_EVT, 3, 3⟩
def F.SWC_EVT_AGE : Fld := ⟨R.SWC_EVT, 2, 2⟩
def F.SWC_EVT_PUSHOUT : Fld := ⟨R.SWC_EVT, 1, 1⟩
def F.SWC_EVT_ADMIT : Fld := ⟨R.SWC_EVT, 0, 0⟩

/-- SWC_FREE (07_switch_core.md R235). -/
def R.SWC_FREE : RegSpec :=
  ⟨"SWC_FREE", 0x200008, [], false,
   [fld "CELLS" 17 0 .ro 0x20000]⟩
def F.SWC_FREE_CELLS : Fld := ⟨R.SWC_FREE, 17, 0⟩

/-- SWC_FREE_DESC (07_switch_core.md R235). -/
def R.SWC_FREE_DESC : RegSpec :=
  ⟨"SWC_FREE_DESC", 0x20000C, [], false,
   [fld "DESC" 17 0 .ro 0x20000]⟩
def F.SWC_FREE_DESC_DESC : Fld := ⟨R.SWC_FREE_DESC, 17, 0⟩

/-- SWC_HEADROOM (07_switch_core.md R235). -/
def R.SWC_HEADROOM : RegSpec :=
  ⟨"SWC_HEADROOM", 0x200010, [], false,
   [fld "H" 17 0 .ro 0x0 true]⟩
def F.SWC_HEADROOM_H : Fld := ⟨R.SWC_HEADROOM, 17, 0⟩

/-- SWC_POOL (07_switch_core.md R235). -/
def R.SWC_POOL : RegSpec :=
  ⟨"SWC_POOL", 0x200014, [], false,
   [fld "P" 17 0 .ro 0x0 true]⟩
def F.SWC_POOL_P : Fld := ⟨R.SWC_POOL, 17, 0⟩

/-- SWC_SHARED (07_switch_core.md R235). -/
def R.SWC_SHARED : RegSpec :=
  ⟨"SWC_SHARED", 0x200018, [], false,
   [fld "S" 17 0 .ro 0x0]⟩
def F.SWC_SHARED_S : Fld := ⟨R.SWC_SHARED, 17, 0⟩

/-- SWC_QUAR (07_switch_core.md R235). -/
def R.SWC_QUAR : RegSpec :=
  ⟨"SWC_QUAR", 0x20001C, [], false,
   [fld "CELLS" 17 0 .ro 0x0]⟩
def F.SWC_QUAR_CELLS : Fld := ⟨R.SWC_QUAR, 17, 0⟩

/-- SWC_PO_CFG (07_switch_core.md R235). -/
def R.SWC_PO_CFG : RegSpec :=
  ⟨"SWC_PO_CFG", 0x200020, [], false,
   [fld "MAX_VICTIMS" 7 4 .rw 0x4,
    fld "EN" 2 0 .rw 0x4]⟩
def F.SWC_PO_CFG_MAX_VICTIMS : Fld := ⟨R.SWC_PO_CFG, 7, 4⟩
def F.SWC_PO_CFG_EN : Fld := ⟨R.SWC_PO_CFG, 2, 0⟩

/-- SWC_PO_CNT (07_switch_core.md R236). -/
def R.SWC_PO_CNT : RegSpec :=
  ⟨"SWC_PO_CNT", 0x200024, [], false,
   [fld "COUNT" 31 0 .rc 0x0]⟩
def F.SWC_PO_CNT_COUNT : Fld := ⟨R.SWC_PO_CNT, 31, 0⟩

/-- SWC_CT_STOMP (07_switch_core.md R236). -/
def R.SWC_CT_STOMP : RegSpec :=
  ⟨"SWC_CT_STOMP", 0x200028, [], false,
   [fld "COUNT" 31 0 .rc 0x0]⟩
def F.SWC_CT_STOMP_COUNT : Fld := ⟨R.SWC_CT_STOMP, 31, 0⟩

/-- SWC_ECC_STOMP (07_switch_core.md R236). -/
def R.SWC_ECC_STOMP : RegSpec :=
  ⟨"SWC_ECC_STOMP", 0x20002C, [], false,
   [fld "COUNT" 31 0 .rc 0x0]⟩
def F.SWC_ECC_STOMP_COUNT : Fld := ⟨R.SWC_ECC_STOMP, 31, 0⟩

/-- SWC_CT_DIS_A (07_switch_core.md R235). -/
def R.SWC_CT_DIS_A : RegSpec :=
  ⟨"SWC_CT_DIS_A", 0x200030, [], false,
   [fld "DIS" 31 0 .rw 0x0]⟩
def F.SWC_CT_DIS_A_DIS : Fld := ⟨R.SWC_CT_DIS_A, 31, 0⟩

/-- SWC_CT_DIS_B (07_switch_core.md R235). -/
def R.SWC_CT_DIS_B : RegSpec :=
  ⟨"SWC_CT_DIS_B", 0x200034, [], false,
   [fld "DIS" 31 0 .rw 0x0]⟩
def F.SWC_CT_DIS_B_DIS : Fld := ⟨R.SWC_CT_DIS_B, 31, 0⟩

/-- SWC_CT_DIS_C (07_switch_core.md R235). -/
def R.SWC_CT_DIS_C : RegSpec :=
  ⟨"SWC_CT_DIS_C", 0x200038, [], false,
   [fld "DIS" 7 0 .rw 0x0]⟩
def F.SWC_CT_DIS_C_DIS : Fld := ⟨R.SWC_CT_DIS_C, 7, 0⟩

/-- SWC_AGE_LIMIT (07_switch_core.md R235). -/
def R.SWC_AGE_LIMIT : RegSpec :=
  ⟨"SWC_AGE_LIMIT", 0x200040, [(4, 0x4)], false,
   [fld "LIMIT" 19 0 .rw 0xFA0]⟩
def F.SWC_AGE_LIMIT_LIMIT : Fld := ⟨R.SWC_AGE_LIMIT, 19, 0⟩

/-- SWC_AGE_CNT (07_switch_core.md R236). -/
def R.SWC_AGE_CNT : RegSpec :=
  ⟨"SWC_AGE_CNT", 0x200050, [(4, 0x4)], false,
   [fld "COUNT" 31 0 .rc 0x0]⟩
def F.SWC_AGE_CNT_COUNT : Fld := ⟨R.SWC_AGE_CNT, 31, 0⟩

/-- SWC_ERR (07_switch_core.md R236). -/
def R.SWC_ERR : RegSpec :=
  ⟨"SWC_ERR", 0x200060, [], false,
   [fld "VALID" 31 31 .rc 0x0,
    fld "MULTI" 30 30 .rc 0x0,
    fld "MEM" 29 28 .rc 0x0,
    fld "INDEX" 16 0 .rc 0x0]⟩
def F.SWC_ERR_VALID : Fld := ⟨R.SWC_ERR, 31, 31⟩
def F.SWC_ERR_MULTI : Fld := ⟨R.SWC_ERR, 30, 30⟩
def F.SWC_ERR_MEM : Fld := ⟨R.SWC_ERR, 29, 28⟩
def F.SWC_ERR_INDEX : Fld := ⟨R.SWC_ERR, 16, 0⟩

/-- SWC_ECC_CORR (07_switch_core.md R236). -/
def R.SWC_ECC_CORR : RegSpec :=
  ⟨"SWC_ECC_CORR", 0x200080, [(16, 0x4)], false,
   [fld "COUNT" 31 0 .rc 0x0]⟩
def F.SWC_ECC_CORR_COUNT : Fld := ⟨R.SWC_ECC_CORR, 31, 0⟩

/-- SWC_ECC_UNC (07_switch_core.md R236). -/
def R.SWC_ECC_UNC : RegSpec :=
  ⟨"SWC_ECC_UNC", 0x2000C0, [(16, 0x4)], false,
   [fld "COUNT" 31 0 .rc 0x0]⟩
def F.SWC_ECC_UNC_COUNT : Fld := ⟨R.SWC_ECC_UNC, 31, 0⟩

/-- SWC_DROP_CNT (07_switch_core.md R236). -/
def R.SWC_DROP_CNT : RegSpec :=
  ⟨"SWC_DROP_CNT", 0x200100, [(66, 0x4)], false,
   [fld "COUNT" 31 0 .rc 0x0]⟩
def F.SWC_DROP_CNT_COUNT : Fld := ⟨R.SWC_DROP_CNT, 31, 0⟩

/-- SWC_QRES (07_switch_core.md R237). -/
def R.SWC_QRES : RegSpec :=
  ⟨"SWC_QRES", 0x201000, [(616, 0x10)], false,
   [fld "RES" 17 0 .ro 0x0 true]⟩
def F.SWC_QRES_RES : Fld := ⟨R.SWC_QRES, 17, 0⟩

/-- SWC_QLIM (07_switch_core.md R237). -/
def R.SWC_QLIM : RegSpec :=
  ⟨"SWC_QLIM", 0x201004, [(616, 0x10)], false,
   [fld "YFRAC" 31 28 .rw 0x0 true,
    fld "RFRAC" 27 24 .rw 0x0 true,
    fld "LIMIT" 17 0 .rw 0x0 true]⟩
def F.SWC_QLIM_YFRAC : Fld := ⟨R.SWC_QLIM, 31, 28⟩
def F.SWC_QLIM_RFRAC : Fld := ⟨R.SWC_QLIM, 27, 24⟩
def F.SWC_QLIM_LIMIT : Fld := ⟨R.SWC_QLIM, 17, 0⟩

/-- SWC_QOCC (07_switch_core.md R237). -/
def R.SWC_QOCC : RegSpec :=
  ⟨"SWC_QOCC", 0x201008, [(616, 0x10)], false,
   [fld "CELLS" 17 0 .ro 0x0]⟩
def F.SWC_QOCC_CELLS : Fld := ⟨R.SWC_QOCC, 17, 0⟩

/-- SWC_QFRM (07_switch_core.md R237). -/
def R.SWC_QFRM : RegSpec :=
  ⟨"SWC_QFRM", 0x20100C, [(616, 0x10)], false,
   [fld "COPIES" 17 0 .ro 0x0]⟩
def F.SWC_QFRM_COPIES : Fld := ⟨R.SWC_QFRM, 17, 0⟩

def regsSwc : List RegSpec :=
  [R.SWC_CFG, R.SWC_EVT, R.SWC_FREE, R.SWC_FREE_DESC, R.SWC_HEADROOM, R.SWC_POOL,
   R.SWC_SHARED, R.SWC_QUAR, R.SWC_PO_CFG, R.SWC_PO_CNT, R.SWC_CT_STOMP, R.SWC_ECC_STOMP,
   R.SWC_CT_DIS_A, R.SWC_CT_DIS_B, R.SWC_CT_DIS_C, R.SWC_AGE_LIMIT, R.SWC_AGE_CNT, R.SWC_ERR,
   R.SWC_ECC_CORR, R.SWC_ECC_UNC, R.SWC_DROP_CNT, R.SWC_QRES, R.SWC_QLIM, R.SWC_QOCC,
   R.SWC_QFRM]

end Sys2Proof.Machine
end

