-- ==== Sys2Proof/Machine/RegsTin.lean ====
section
/-! DEFINITION. The registers of the Tin extent: name, BAR0 offset, index strides and fields (access code, value after
POWER_ON reset; `img` marks a field the configuration image gives, which reads 0 until then, R7). From 04_tin_parse_engines.md R135; 04_tin_parse_engines.md R136; 04_tin_parse_engines.md R138, in the spec's own field tables. -/

namespace Sys2Proof.Machine

/-- TIN_CFG (04_tin_parse_engines.md R135). -/
def R.TIN_CFG : RegSpec :=
  ⟨"TIN_CFG", 0xA0000, [], false,
   [fld "ENABLE" 3 3 .ro 0x1,
    fld "CLUSTER_EN" 2 0 .ro 0x0 true]⟩
def F.TIN_CFG_ENABLE : Fld := ⟨R.TIN_CFG, 3, 3⟩
def F.TIN_CFG_CLUSTER_EN : Fld := ⟨R.TIN_CFG, 2, 0⟩

/-- TIN_UCODE_VER (04_tin_parse_engines.md R135). -/
def R.TIN_UCODE_VER : RegSpec :=
  ⟨"TIN_UCODE_VER", 0xA0004, [], false,
   [fld "MAJOR" 31 24 .ro 0x0 true,
    fld "MINOR" 23 16 .ro 0x0 true,
    fld "BUILD" 15 1 .ro 0x0 true,
    fld "MODIFIED" 0 0 .ro 0x0]⟩
def F.TIN_UCODE_VER_MAJOR : Fld := ⟨R.TIN_UCODE_VER, 31, 24⟩
def F.TIN_UCODE_VER_MINOR : Fld := ⟨R.TIN_UCODE_VER, 23, 16⟩
def F.TIN_UCODE_VER_BUILD : Fld := ⟨R.TIN_UCODE_VER, 15, 1⟩
def F.TIN_UCODE_VER_MODIFIED : Fld := ⟨R.TIN_UCODE_VER, 0, 0⟩

/-- TIN_UCODE_CRC (04_tin_parse_engines.md R135). -/
def R.TIN_UCODE_CRC : RegSpec :=
  ⟨"TIN_UCODE_CRC", 0xA0008, [], false,
   [fld "CRC" 31 0 .ro 0x0 true]⟩
def F.TIN_UCODE_CRC_CRC : Fld := ⟨R.TIN_UCODE_CRC, 31, 0⟩

/-- TIN_PROG_INFO (04_tin_parse_engines.md R135). -/
def R.TIN_PROG_INFO : RegSpec :=
  ⟨"TIN_PROG_INFO", 0xA000C, [], false,
   [fld "LONGEST" 31 24 .ro 0x0 true,
    fld "BUDGET" 23 16 .ro 0x0 true,
    fld "AVG_Q" 15 8 .ro 0x0 true]⟩
def F.TIN_PROG_INFO_LONGEST : Fld := ⟨R.TIN_PROG_INFO, 31, 24⟩
def F.TIN_PROG_INFO_BUDGET : Fld := ⟨R.TIN_PROG_INFO, 23, 16⟩
def F.TIN_PROG_INFO_AVG_Q : Fld := ⟨R.TIN_PROG_INFO, 15, 8⟩

/-- TIN_ENTRY_A (04_tin_parse_engines.md R135). -/
def R.TIN_ENTRY_A : RegSpec :=
  ⟨"TIN_ENTRY_A", 0xA0010, [], false,
   [fld "ENTRY1" 27 16 .ro 0x0 true,
    fld "ENTRY0" 11 0 .ro 0x0 true]⟩
def F.TIN_ENTRY_A_ENTRY1 : Fld := ⟨R.TIN_ENTRY_A, 27, 16⟩
def F.TIN_ENTRY_A_ENTRY0 : Fld := ⟨R.TIN_ENTRY_A, 11, 0⟩

/-- TIN_ENTRY_B (04_tin_parse_engines.md R135). -/
def R.TIN_ENTRY_B : RegSpec :=
  ⟨"TIN_ENTRY_B", 0xA0014, [], false,
   [fld "ENTRY3" 27 16 .ro 0x0 true,
    fld "ENTRY2" 11 0 .ro 0x0 true]⟩
def F.TIN_ENTRY_B_ENTRY3 : Fld := ⟨R.TIN_ENTRY_B, 27, 16⟩
def F.TIN_ENTRY_B_ENTRY2 : Fld := ⟨R.TIN_ENTRY_B, 11, 0⟩

/-- TIN_PORT_SEL (04_tin_parse_engines.md R135). -/
def R.TIN_PORT_SEL : RegSpec :=
  ⟨"TIN_PORT_SEL", 0xA0020, [(5, 0x4)], false,
   [fld "SEL" 31 0 .ro 0x0 true]⟩
def F.TIN_PORT_SEL_SEL : Fld := ⟨R.TIN_PORT_SEL, 31, 0⟩

/-- TIN_EVT (04_tin_parse_engines.md R136). -/
def R.TIN_EVT : RegSpec :=
  ⟨"TIN_EVT", 0xA0040, [], false,
   [fld "SEQ" 31 24 .ro 0x0,
    fld "TRACE_DONE" 4 4 .sc 0x0,
    fld "DISP_OVF" 3 3 .sc 0x0,
    fld "BAD_UWORD" 2 2 .sc 0x0,
    fld "UWORD_LIMIT" 1 1 .sc 0x0,
    fld "ECC_CORR" 0 0 .sc 0x0]⟩
def F.TIN_EVT_SEQ : Fld := ⟨R.TIN_EVT, 31, 24⟩
def F.TIN_EVT_TRACE_DONE : Fld := ⟨R.TIN_EVT, 4, 4⟩
def F.TIN_EVT_DISP_OVF : Fld := ⟨R.TIN_EVT, 3, 3⟩
def F.TIN_EVT_BAD_UWORD : Fld := ⟨R.TIN_EVT, 2, 2⟩
def F.TIN_EVT_UWORD_LIMIT : Fld := ⟨R.TIN_EVT, 1, 1⟩
def F.TIN_EVT_ECC_CORR : Fld := ⟨R.TIN_EVT, 0, 0⟩

/-- TIN_ERR_ADDR (04_tin_parse_engines.md R136). -/
def R.TIN_ERR_ADDR : RegSpec :=
  ⟨"TIN_ERR_ADDR", 0xA0044, [], false,
   [fld "VALID" 31 31 .ro 0x0,
    fld "CLUSTER" 17 16 .ro 0x0,
    fld "ADDR" 11 0 .ro 0x0]⟩
def F.TIN_ERR_ADDR_VALID : Fld := ⟨R.TIN_ERR_ADDR, 31, 31⟩
def F.TIN_ERR_ADDR_CLUSTER : Fld := ⟨R.TIN_ERR_ADDR, 17, 16⟩
def F.TIN_ERR_ADDR_ADDR : Fld := ⟨R.TIN_ERR_ADDR, 11, 0⟩

/-- TIN_TRACE_CTRL (04_tin_parse_engines.md R136). -/
def R.TIN_TRACE_CTRL : RegSpec :=
  ⟨"TIN_TRACE_CTRL", 0xA0048, [], false,
   [fld "ARM" 31 31 .rw 0x0,
    fld "PORT" 6 0 .rw 0x0]⟩
def F.TIN_TRACE_CTRL_ARM : Fld := ⟨R.TIN_TRACE_CTRL, 31, 31⟩
def F.TIN_TRACE_CTRL_PORT : Fld := ⟨R.TIN_TRACE_CTRL, 6, 0⟩

/-- TIN_ECC_CORR (04_tin_parse_engines.md R136). -/
def R.TIN_ECC_CORR : RegSpec :=
  ⟨"TIN_ECC_CORR", 0xA0050, [(3, 0x4)], false,
   [fld "COUNT" 31 0 .rc 0x0]⟩
def F.TIN_ECC_CORR_COUNT : Fld := ⟨R.TIN_ECC_CORR, 31, 0⟩

/-- TIN_PIPE_STAT (04_tin_parse_engines.md R136). -/
def R.TIN_PIPE_STAT : RegSpec :=
  ⟨"TIN_PIPE_STAT", 0xA0060, [(2, 0x4)], false,
   [fld "ROB_OCC" 22 16 .ro 0x0,
    fld "WQ_OCC" 5 0 .ro 0x0]⟩
def F.TIN_PIPE_STAT_ROB_OCC : Fld := ⟨R.TIN_PIPE_STAT, 22, 16⟩
def F.TIN_PIPE_STAT_WQ_OCC : Fld := ⟨R.TIN_PIPE_STAT, 5, 0⟩

/-- TIN_DISP_OVF (04_tin_parse_engines.md R136). -/
def R.TIN_DISP_OVF : RegSpec :=
  ⟨"TIN_DISP_OVF", 0xA0068, [(2, 0x4)], false,
   [fld "COUNT" 31 0 .rc 0x0]⟩
def F.TIN_DISP_OVF_COUNT : Fld := ⟨R.TIN_DISP_OVF, 31, 0⟩

/-- TIN_SLOW_CNT (04_tin_parse_engines.md R136). -/
def R.TIN_SLOW_CNT : RegSpec :=
  ⟨"TIN_SLOW_CNT", 0xA0070, [(9, 0x4)], false,
   [fld "COUNT" 31 0 .rc 0x0]⟩
def F.TIN_SLOW_CNT_COUNT : Fld := ⟨R.TIN_SLOW_CNT, 31, 0⟩

/-- TIN_TRACE_PRV (04_tin_parse_engines.md R136). -/
def R.TIN_TRACE_PRV : RegSpec :=
  ⟨"TIN_TRACE_PRV", 0xA00A0, [(8, 0x4)], false,
   [fld "PRV" 31 0 .ro 0x0]⟩
def F.TIN_TRACE_PRV_PRV : Fld := ⟨R.TIN_TRACE_PRV, 31, 0⟩

/-- TIN_UW_LO (04_tin_parse_engines.md R138). -/
def R.TIN_UW_LO : RegSpec :=
  ⟨"TIN_UW_LO", 0xB0000, [(3, 0x10000), (4096, 0x10)], false,
   [fld "UW" 31 0 .rwe 0x0 true]⟩
def F.TIN_UW_LO_UW : Fld := ⟨R.TIN_UW_LO, 31, 0⟩

/-- TIN_UW_MID (04_tin_parse_engines.md R138). -/
def R.TIN_UW_MID : RegSpec :=
  ⟨"TIN_UW_MID", 0xB0004, [(3, 0x10000), (4096, 0x10)], false,
   [fld "UW" 31 0 .rwe 0x0 true]⟩
def F.TIN_UW_MID_UW : Fld := ⟨R.TIN_UW_MID, 31, 0⟩

/-- TIN_UW_HI (04_tin_parse_engines.md R138). -/
def R.TIN_UW_HI : RegSpec :=
  ⟨"TIN_UW_HI", 0xB0008, [(3, 0x10000), (4096, 0x10)], false,
   [fld "UW" 31 0 .rwe 0x0 true]⟩
def F.TIN_UW_HI_UW : Fld := ⟨R.TIN_UW_HI, 31, 0⟩

/-- TIN_UW_ECC (04_tin_parse_engines.md R138). -/
def R.TIN_UW_ECC : RegSpec :=
  ⟨"TIN_UW_ECC", 0xB000C, [(3, 0x10000), (4096, 0x10)], false,
   [fld "CHECK" 7 0 .ro 0x0 true]⟩
def F.TIN_UW_ECC_CHECK : Fld := ⟨R.TIN_UW_ECC, 7, 0⟩

def regsTin : List RegSpec :=
  [R.TIN_CFG, R.TIN_UCODE_VER, R.TIN_UCODE_CRC, R.TIN_PROG_INFO, R.TIN_ENTRY_A, R.TIN_ENTRY_B,
   R.TIN_PORT_SEL, R.TIN_EVT, R.TIN_ERR_ADDR, R.TIN_TRACE_CTRL, R.TIN_ECC_CORR, R.TIN_PIPE_STAT,
   R.TIN_DISP_OVF, R.TIN_SLOW_CNT, R.TIN_TRACE_PRV, R.TIN_UW_LO, R.TIN_UW_MID, R.TIN_UW_HI,
   R.TIN_UW_ECC]

end Sys2Proof.Machine
end

