-- ==== Sys2Proof/Machine/RegsTwn.lean ====
section
/-! DEFINITION. The registers of the Twn extent: name, BAR0 offset, index strides and fields (access code, value after
POWER_ON reset; `img` marks a field the configuration image gives, which reads 0 until then, R7). From 14_twin_lockstep.md R428; 14_twin_lockstep.md R429, in the spec's own field tables. -/

namespace Sys2Proof.Machine

/-- TWN_CTRL (14_twin_lockstep.md R428). -/
def R.TWN_CTRL : RegSpec :=
  ⟨"TWN_CTRL", 0x40000, [], false,
   [fld "EN" 31 31 .rw 0x0 true,
    fld "FENCE_EN" 30 30 .rw 0x0 true,
    fld "SIDE" 0 0 .ro 0x0 true]⟩
def F.TWN_CTRL_EN : Fld := ⟨R.TWN_CTRL, 31, 31⟩
def F.TWN_CTRL_FENCE_EN : Fld := ⟨R.TWN_CTRL, 30, 30⟩
def F.TWN_CTRL_SIDE : Fld := ⟨R.TWN_CTRL, 0, 0⟩

/-- TWN_CFG (14_twin_lockstep.md R428). -/
def R.TWN_CFG : RegSpec :=
  ⟨"TWN_CFG", 0x40004, [], false,
   [fld "PAIR_WAIT" 31 16 .rw 0x64,
    fld "SEEN_WAIT" 9 0 .rw 0x190]⟩
def F.TWN_CFG_PAIR_WAIT : Fld := ⟨R.TWN_CFG, 31, 16⟩
def F.TWN_CFG_SEEN_WAIT : Fld := ⟨R.TWN_CFG, 9, 0⟩

/-- TWN_STAT (14_twin_lockstep.md R428). -/
def R.TWN_STAT : RegSpec :=
  ⟨"TWN_STAT", 0x40008, [], false,
   [fld "LINK" 31 31 .ro 0x0,
    fld "PEER" 30 30 .ro 0x0,
    fld "HOLDING" 29 29 .ro 0x0,
    fld "PEER_ROLE" 26 24 .ro 0x0,
    fld "ROLE" 2 0 .ro 0x0]⟩
def F.TWN_STAT_LINK : Fld := ⟨R.TWN_STAT, 31, 31⟩
def F.TWN_STAT_PEER : Fld := ⟨R.TWN_STAT, 30, 30⟩
def F.TWN_STAT_HOLDING : Fld := ⟨R.TWN_STAT, 29, 29⟩
def F.TWN_STAT_PEER_ROLE : Fld := ⟨R.TWN_STAT, 26, 24⟩
def F.TWN_STAT_ROLE : Fld := ⟨R.TWN_STAT, 2, 0⟩

/-- TWN_EVT (14_twin_lockstep.md R428). -/
def R.TWN_EVT : RegSpec :=
  ⟨"TWN_EVT", 0x4000C, [], false,
   [fld "SEQ" 31 24 .ro 0x0,
    fld "JOINED" 8 8 .sc 0x0,
    fld "DUAL" 7 7 .sc 0x0,
    fld "CFG_ERR" 6 6 .sc 0x0,
    fld "WR_STANDBY" 5 5 .sc 0x0,
    fld "LINK_ERR" 4 4 .sc 0x0,
    fld "DIVERGED" 3 3 .sc 0x0,
    fld "PROMOTED" 2 2 .sc 0x0,
    fld "PEER_LOST" 1 1 .sc 0x0,
    fld "ROLE_CHG" 0 0 .sc 0x0]⟩
def F.TWN_EVT_SEQ : Fld := ⟨R.TWN_EVT, 31, 24⟩
def F.TWN_EVT_JOINED : Fld := ⟨R.TWN_EVT, 8, 8⟩
def F.TWN_EVT_DUAL : Fld := ⟨R.TWN_EVT, 7, 7⟩
def F.TWN_EVT_CFG_ERR : Fld := ⟨R.TWN_EVT, 6, 6⟩
def F.TWN_EVT_WR_STANDBY : Fld := ⟨R.TWN_EVT, 5, 5⟩
def F.TWN_EVT_LINK_ERR : Fld := ⟨R.TWN_EVT, 4, 4⟩
def F.TWN_EVT_DIVERGED : Fld := ⟨R.TWN_EVT, 3, 3⟩
def F.TWN_EVT_PROMOTED : Fld := ⟨R.TWN_EVT, 2, 2⟩
def F.TWN_EVT_PEER_LOST : Fld := ⟨R.TWN_EVT, 1, 1⟩
def F.TWN_EVT_ROLE_CHG : Fld := ⟨R.TWN_EVT, 0, 0⟩

/-- TWN_CAUSE (14_twin_lockstep.md R428). -/
def R.TWN_CAUSE : RegSpec :=
  ⟨"TWN_CAUSE", 0x40010, [], false,
   [fld "PEER" 8 8 .ro 0x0,
    fld "CAUSE" 7 0 .ro 0x0]⟩
def F.TWN_CAUSE_PEER : Fld := ⟨R.TWN_CAUSE, 8, 8⟩
def F.TWN_CAUSE_CAUSE : Fld := ⟨R.TWN_CAUSE, 7, 0⟩

/-- TWN_LAG (14_twin_lockstep.md R428). -/
def R.TWN_LAG : RegSpec :=
  ⟨"TWN_LAG", 0x40014, [], false,
   [fld "LAG" 31 0 .ro 0x0]⟩
def F.TWN_LAG_LAG : Fld := ⟨R.TWN_LAG, 31, 0⟩

/-- TWN_CMD (14_twin_lockstep.md R428). -/
def R.TWN_CMD : RegSpec :=
  ⟨"TWN_CMD", 0x40018, [], false,
   [fld "KEY" 15 8 .wo 0x0,
    fld "OP" 3 0 .wo 0x0]⟩
def F.TWN_CMD_KEY : Fld := ⟨R.TWN_CMD, 15, 8⟩
def F.TWN_CMD_OP : Fld := ⟨R.TWN_CMD, 3, 0⟩

/-- TWN_TCC_LO (14_twin_lockstep.md R428). -/
def R.TWN_TCC_LO : RegSpec :=
  ⟨"TWN_TCC_LO", 0x40020, [], false,
   [fld "TCC" 31 0 .ro 0x0]⟩
def F.TWN_TCC_LO_TCC : Fld := ⟨R.TWN_TCC_LO, 31, 0⟩

/-- TWN_TCC_HI (14_twin_lockstep.md R428). -/
def R.TWN_TCC_HI : RegSpec :=
  ⟨"TWN_TCC_HI", 0x40024, [], false,
   [fld "TCC" 15 0 .ro 0x0]⟩
def F.TWN_TCC_HI_TCC : Fld := ⟨R.TWN_TCC_HI, 15, 0⟩

/-- TWN_DIG_LO (14_twin_lockstep.md R428). -/
def R.TWN_DIG_LO : RegSpec :=
  ⟨"TWN_DIG_LO", 0x40028, [], false,
   [fld "DIG" 31 0 .ro 0x0]⟩
def F.TWN_DIG_LO_DIG : Fld := ⟨R.TWN_DIG_LO, 31, 0⟩

/-- TWN_DIG_HI (14_twin_lockstep.md R428). -/
def R.TWN_DIG_HI : RegSpec :=
  ⟨"TWN_DIG_HI", 0x4002C, [], false,
   [fld "DIG" 31 0 .ro 0x0]⟩
def F.TWN_DIG_HI_DIG : Fld := ⟨R.TWN_DIG_HI, 31, 0⟩

/-- TWN_DIG_INT (14_twin_lockstep.md R428). -/
def R.TWN_DIG_INT : RegSpec :=
  ⟨"TWN_DIG_INT", 0x40030, [], false,
   [fld "INT" 31 0 .ro 0x0]⟩
def F.TWN_DIG_INT_INT : Fld := ⟨R.TWN_DIG_INT, 31, 0⟩

/-- TWN_ATT_A (14_twin_lockstep.md R429). -/
def R.TWN_ATT_A : RegSpec :=
  ⟨"TWN_ATT_A", 0x40040, [(16, 0x8)], false,
   [fld "EN" 31 31 .ro 0x0 true,
    fld "MODE" 30 30 .ro 0x0 true,
    fld "PORT_B" 22 16 .ro 0x0 true,
    fld "PORT_A" 6 0 .ro 0x0 true]⟩
def F.TWN_ATT_A_EN : Fld := ⟨R.TWN_ATT_A, 31, 31⟩
def F.TWN_ATT_A_MODE : Fld := ⟨R.TWN_ATT_A, 30, 30⟩
def F.TWN_ATT_A_PORT_B : Fld := ⟨R.TWN_ATT_A, 22, 16⟩
def F.TWN_ATT_A_PORT_A : Fld := ⟨R.TWN_ATT_A, 6, 0⟩

/-- TWN_ATT_B (14_twin_lockstep.md R429). -/
def R.TWN_ATT_B : RegSpec :=
  ⟨"TWN_ATT_B", 0x40044, [(16, 0x8)], false,
   [fld "FORGET" 19 0 .rw 0x3E8]⟩
def F.TWN_ATT_B_FORGET : Fld := ⟨R.TWN_ATT_B, 19, 0⟩

/-- TWN_CNT (14_twin_lockstep.md R429). -/
def R.TWN_CNT : RegSpec :=
  ⟨"TWN_CNT", 0x40100, [(15, 0x4)], false,
   [fld "COUNT" 31 0 .rc 0x0]⟩
def F.TWN_CNT_COUNT : Fld := ⟨R.TWN_CNT, 31, 0⟩

def regsTwn : List RegSpec :=
  [R.TWN_CTRL, R.TWN_CFG, R.TWN_STAT, R.TWN_EVT, R.TWN_CAUSE, R.TWN_LAG,
   R.TWN_CMD, R.TWN_TCC_LO, R.TWN_TCC_HI, R.TWN_DIG_LO, R.TWN_DIG_HI, R.TWN_DIG_INT,
   R.TWN_ATT_A, R.TWN_ATT_B, R.TWN_CNT]

end Sys2Proof.Machine
end

