-- ==== Sys2Proof/Machine/TypesFrame.lean ====
section
/-! DEFINITION. What travels with a frame (01_frame_journey.md), and what the block drives outward. -/

namespace Sys2Proof.Machine

/-- How a frame came into the device (R22). -/
inductive Origin where
  | net
  | hostSw (ch : Nat)
  | hostDir (ch : Nat)
  | twin
  deriving DecidableEq, Repr

/-- How far a frame has come. -/
inductive Stage where
  | arriving    -- its window is not complete
  | held        -- its window is complete and waits for the twin's order tag
  | queued      -- its window waits for an engine
  | parsing     -- an engine holds it
  | parsed      -- its PRV has retired; it waits for stage 4
  | looked      -- stage 4 is done
  | policed     -- stage 5 is done
  | admitted    -- stage 6 is done
  | gone        -- dropped; it remains until its last byte and its last copy
  deriving DecidableEq, Repr

/-- What stage 4 decided for a frame (R143): the destination set over ports 0 to 74, the queue, the copies that lose their
outer tag, the routed rewrite, the stream entry's fields, and the CPU queue and cause of a copy for port 72. -/
structure Decision where
  dst : Nat := 0
  queue : Nat := 0
  untag : Nat := 0
  routed : Bool := false
  vid : Nat := 0
  dmac : Nat := 0
  hit : Bool := false
  handle : Nat := 0
  filterEn : Bool := false
  filter : Nat := 0
  gateEn : Bool := false
  gate : Nat := 0
  meterEn : Bool := false
  meter : Nat := 0
  pdsRole : Nat := 0
  pdsIndex : Nat := 0
  cpuq : Nat := 0
  cause : Nat := 0
  slow : Nat := 0
  learn : Bool := false
  learnFid : Nat := 0
  /-- stage 4 has given the frame its queue -/
  queued : Bool := false
  deriving DecidableEq, Repr

/-- A mirror session as it stood when a frame was stamped, for DIR 0 (R502). -/
structure Sess where
  num : Nat
  drop : Bool
  strm : Bool
  list : Nat
  qmask : Nat
  snap : Nat
  ports : Nat
  reason : Nat
  handle : Nat
  deriving DecidableEq, Repr

/-- What the registers held when a frame was stamped, for the decisions that use them (R46, R87, R174, R502): the mode,
DELIVER_BAD and BAD_CPUQ, LKP_PORT of its source, LKP_CPUQ, the router address, and the DIR 0 mirror sessions. -/
structure StampCfg where
  mode : Nat := 0
  /-- the PDS takes input frames: SERVICE, or HOLD entered from it (R37, R39) -/
  fanIn : Bool := false
  deliverBad : Bool := false
  badQ : Nat := 0
  pvid : Nat := 0
  limitAct : Nat := 0
  cpuq : Word := 0
  rmac : Nat := 0
  sess : List Sess := []
  deriving DecidableEq, Repr

/-- A frame in the device (R21 to R29), from its start-of-frame delimiter until its last byte has been received and its last
copy has left. `rx` are all the bytes received; only the first `cap` of them may be written (MAXLEN, and no further byte after a
drop, R20, R86, R213, R214). `begun` counts the cells taken from F, `cells` the written cells in chain order, `headCls` the edit
class whose head is the first written cell, `heads` the extra head cells by class (none: not written yet, R217), `liveBy` the
copies of each class that are linked or in transmission. -/
structure Frame where
  src : Nat
  origin : Origin
  pre : Bool
  rx : List Byte := []
  cap : Nat
  maxlen : Nat
  /-- the TD0 time of the stamp in ns, its 40-bit form and TSGEN (R21, R303, R308) -/
  time : Int
  stamp : Nat
  gen : Nat
  epoch : Nat
  cfg : StampCfg := {}
  flags : Nat := 0
  done : Bool := false
  bad : Bool := false
  stage : Stage := .arriving
  prv : BitVec 256 := 0
  slow : Nat := 0
  dec : Decision := {}
  colour : Nat := 0
  /-- its late SDU excess has been handled (R274) -/
  sduLate : Bool := false
  /-- l_dec (R273) and the buckets that the decision debited: 0 none, 1 peak, 2 both -/
  ldec : Nat := 0
  debited : Nat := 0
  /-- the drop code that took the frame (R233), and that of the last refused copy of its own (R213); 0 none -/
  drop : Nat := 0
  refused : Nat := 0
  begun : Nat := 0
  cells : List Nat := []
  headCls : Nat := 0
  heads : List (Nat × Option Nat) := []
  liveBy : List Nat := [0, 0, 0, 0]
  pri : Nat := 0
  edits : List EditRec := []
  /-- the frame is an input forwarded to the other twin: a TWIN copy is fixed at stage 6 (R409) -/
  fwd : Bool := false
  /-- the port to which HSR passes the frame with its tag unchanged (R416) -/
  passTo : Option Nat := none
  /-- the host's insertion request (R321) and the port and queue of a directed frame (R474) -/
  req : Option PtpReq := none
  dirPort : Nat := 0
  dirQueue : Nat := 0
  /-- the descriptor TYPE of a host frame and the LT of a launched one (R473) -/
  hostType : Nat := 0
  lt : Nat := 0
  /-- the TCC cycle of its arrival position (R404) -/
  tcc : Nat := 0
  deriving DecidableEq, Repr

/-- What the block drives outward, in the order in which it drives it. -/
inductive Out where
  /-- a frame or fragment whose last byte has left the lane of a port -/
  | lane (port : Nat) (bytes : List Byte)
  /-- a fragment of a preemptable frame whose last byte has left the lane (R90, IEEE 802.3br): the frame count of its delimiter, the
  fragment count of a continuation, and its bytes with its mCRC or FCS -/
  | fragment (port : Nat) (frame : Nat) (cont : Option Nat) (bytes : List Byte)
  /-- a base page of Clause 37 or Clause 73: the technology ability that it names (the port's MODE), and the pause and FEC bits as
  PORT_AN_ADV has them (R76) -/
  | advertise (port : Nat) (mode : Nat) (abilities : Nat)
  /-- a MAC control frame or mPacket on a port (R88, R96) -/
  | mac (port : Nat) (kind : MacPacket) (bytes : List Byte)
  /-- the completion of a host's read, with its data -/
  | readData (host : Nat) (data : BitVec 64)
  /-- the completion of a host's read of more than 64 bits: its words in ascending order -/
  | readBurst (host : Nat) (data : List Word)
  /-- completer abort: no part of the access was performed (R15, R432) -/
  | abort (host : Nat)
  /-- a read request to a host's memory: its first address and its byte count (R472) -/
  | hostRead (host : Nat) (addr : Nat) (len : Nat)
  /-- a write to a host's memory -/
  | hostWrite (host : Nat) (addr : Nat) (data : List Byte)
  /-- an MSI-X message -/
  | message (host : Nat) (vector : Nat) (addr : Nat) (data : Word)
  /-- a frame on the Dvorfaza link: its type and payload -/
  | dvorfaza (type : Nat) (data : List Nat)
  /-- a SYNC message on the Dvorfaza link (R425): its LSEQ, the cycle in which its pieces of state were read, and the pieces -/
  | sync (lseq cycle : Nat) (items : List SyncItem)
  /-- the pair time T_p, as TD0 ns, that side A sends in a cold pair (R399) -/
  | pairTime (tp : Int)
  /-- a command on the SPI boot port: the bytes sent, the dummy cycles, and how many bytes are then read (R458) -/
  | spi (data : List Byte) (dummy read : Nat)
  /-- an MDIO frame: bus, start code, operation, addresses, data -/
  | mdio (bus st op phy reg : Nat) (data : Nat)
  /-- bytes returned to an I2C master -/
  | i2c (data : List Byte)
  /-- what the TAP drives onto the balls of the boundary register, or high impedance (R461) -/
  | boundary (cells : Option (List Bool))
  /-- the level of an output pin -/
  | pin (name : String) (level : Bool)
  deriving DecidableEq, Repr

end Sys2Proof.Machine
end

