-- ==== Sys2Proof/Machine/TypesHost.lean ====
section
/-! DEFINITION. The shapes of the host ports' state and of the management interfaces (15_host_ports_and_registers.md), and of the
test access port (R461). -/

namespace Sys2Proof.Machine

/-- What the registers of a host port do not show (R433, R452): the host is in D3hot; the vectors whose message has been sent and
which no new event has armed again, bit v for vector v; the tick at which each vector's last message was sent. -/
structure HostPort where
  d3 : Bool := false
  sent : Nat := 0
  lastMsg : Tab Nat := []
  deriving DecidableEq, Repr

/-- The management interfaces: the SPI command that runs with its address (R458), the MDIO command that runs (R460), the pointer of the
I2C target (R459), the watchdog's lock (R462) and whether the present count has warned. -/
structure MgtState where
  spi : Option (Word × Word) := none
  mdio : Option Word := none
  i2cPtr : Nat := 0
  wdtLocked : Bool := false
  warned : Bool := false
  deriving DecidableEq, Repr

/-- The states of the TAP controller (IEEE 1149.1). -/
inductive TapFsm where
  | testLogicReset | runTestIdle
  | selectDr | captureDr | shiftDr | exit1Dr | pauseDr | exit2Dr | updateDr
  | selectIr | captureIr | shiftIr | exit1Ir | pauseIr | exit2Ir | updateIr
  deriving DecidableEq, Repr

/-- The TAP: its controller, the instruction in force, the instruction and data shift registers (the bit next to TDO first), and the
update stage of the boundary register. -/
structure TapState where
  fsm : TapFsm := .testLogicReset
  ir : Nat := 1
  irShift : List Bool := []
  drShift : List Bool := []
  boundary : List Bool := []
  deriving DecidableEq, Repr

end Sys2Proof.Machine
end

