-- ==== Sys2Proof/Machine/TypesRst.lean ====
section
/-! DEFINITION. The shapes of the reset controller's state (20_reset_and_errors.md). -/

namespace Sys2Proof.Machine

structure RstState where
  /-- the pulse sources whose event has been detected and that assert in the next ACLK cycle (R557, R575) -/
  due : Nat := 0
  /-- memory initialisation of the episode is complete (R562) -/
  initDone : Bool := true
  /-- a source of SYSTEM or POWER_ON reach other than PIN was the last of its reach to release: the stretch drives RST_N (R565) -/
  driveStretch : Bool := false
  deriving DecidableEq, Repr

end Sys2Proof.Machine
end

