-- ==== Sys2Proof/Machine/TypesSys.lean ====
section
/-! DEFINITION. The shapes of the mode machine's state and of the image loader's (02_operating_modes.md,
19_configuration_image.md) and of the capture FIFO. -/

namespace Sys2Proof.Machine

/-- A keep-alive slot as sampled at the acceptance of a PEWTER request (R54, R67). -/
structure KaSlot where
  en : Bool
  match_ : Nat
  port : Nat
  da : Nat
  etype : Nat
  deriving DecidableEq, Repr

/-- What the mode registers do not show: T_s of a transition that takes effect at a switch point (R45) and whether hardware forced it,
the acceptance time and deadline of an entry sequence (R49), the ticks at which power gating and a wake began (R49, R53), the wake
sources that have fired and wait for WAKE_START, the switch point at which the PDS starts after a wake, the sampled keep-alive slots,
an ABORT in progress, a destructive BIST since reset (R57, R58), and the TD0 time of the last change of CUR with what held before it: the
mode, and whether the PDS took input frames (R46). -/
structure ModeState where
  ts : Option Int := none
  forced : Bool := false
  accept : Option Int := none
  deadline : Int := 0
  gate : Option Nat := none
  wakeDue : Nat := 0
  wake : Option Nat := none
  pdsAt : Option Int := none
  ka : List KaSlot := []
  aborting : Bool := false
  dirty : Bool := false
  before : Option (Int × Nat × Bool) := none
  deriving DecidableEq, Repr

/-- An interval change of ADAPTIVE that waits for a gate cycle start (R389): the lane time, and the intervals of two entries. -/
structure WinChange where
  at_ : Int
  grow : Nat
  growNs : Nat
  give : Nat
  giveNs : Nat
  deriving DecidableEq, Repr

/-- A restore of intervals that waits for a gate cycle start (R391): the lane time, and the entries with the intervals they take back. -/
structure WinRestore where
  at_ : Int
  ents : List (Nat × Nat)
  deriving DecidableEq, Repr

/-- The adaptive state (13_adaptive_mode.md): T_a and the last boundary of a stay in ADAPTIVE, the histograms of the period, those of
copies whose departure stamp lies past its end, and the snapshots (key (8 × port + queue) × 32 + bin); the intervals to restore of the
entries that a stay has changed, and the interval changes and restores that wait, by port. -/
structure AdpState where
  ta : Option Int := none
  last : Int := 0
  hist : Tab Nat := []
  later : Tab Nat := []
  snap : Tab Nat := []
  kept : Tab (List (Nat × Nat)) := []
  win : Tab (List WinChange) := []
  restore : Tab (Option WinRestore) := []
  deriving DecidableEq, Repr

/-- An entry of the patch log (R553): its four words. -/
structure PatchLog where
  a : Word
  b : Word
  c : Word
  d : Word
  deriving DecidableEq, Repr

/-- The loader: the patch log; the bytes of SPACE 2 that wait for it, with the host that sent them, and its count of accepted bytes;
the bytes of the attempt in progress; the state that follows CLEAR; the tick of the last byte of a host load (R544); the OTP fuse array
and the word that is being programmed with its bits (R540, R542); the lock of PATCH_EN (R550). -/
structure ImgState where
  log : List PatchLog := []
  inbox : List (Nat × List Byte) := []
  accepted : Nat := 0
  bytes : List Byte := []
  next : Nat := 0
  lastByte : Nat := 0
  fuses : Tab Word := []
  fusing : Option (Nat × Word) := none
  patchLocked : Bool := false
  deriving DecidableEq, Repr

/-! ## The capture FIFO (17_capture_fifo.md) -/

/-- A record held in the FIFO: its first word, its words, how many are written, and whether its trailer is. -/
structure CffRec where
  start : Nat
  len : Nat
  wr : Nat
  done : Bool
  deriving DecidableEq, Repr

/-- The FIFO: its words by index (payload in bits 31:0, tag in bits 39:32), the records held, oldest first, the next SEQ (R194), the
mirror list that the writer looks at first, and the session and trailer of the record being written. -/
structure CffState where
  words : Tab (BitVec 40) := []
  recs : List CffRec := []
  seq : Nat := 0
  rr : Nat := 0
  job : Option (Nat × Nat) := none
  deriving DecidableEq, Repr

/-! ## Counters (18_counters_and_telemetry.md) -/

/-- What the PMC registers do not show: the group enables in force (R519), the groups and the ledger to clear at the next tick
(R522), the occupancies of the counters' sources at the start of the present tick and of the one before (R520, R521), the counters
that have wrapped and whose OVF bit is not set yet (R517), the next snapshot time, the snapshot (SPACE 3), and whether a dump is in progress, DMA15 may take a descriptor, and its descriptor has
completed; the snapshots skipped since the last dump (R529). -/
structure PmcState where
  eff : Nat := 0
  clear : Nat := 0
  clearLed : Bool := false
  samp : Tab Nat := []
  prev : Tab Nat := []
  wraps : List Nat := []
  next : Option Int := none
  snap : List Byte := []
  busy : Bool := false
  go : Bool := false
  ended : Bool := false
  skips : Nat := 0
  deriving DecidableEq, Repr

end Sys2Proof.Machine
end

