-- ==== Sys2Proof/Machine/TypesTin.lean ====
section
/-! DEFINITION. The shapes of the Tin parse engines' state (04_tin_parse_engines.md). -/

namespace Sys2Proof.Machine

/-- A microword as stored: 96 bits and its 8 check bits (R116, R131). -/
structure UWord where
  uw : BitVec 96 := 0
  chk : BitVec 8 := 0
  deriving DecidableEq, Repr

/-- The state of an engine that holds a frame (R115). -/
structure Engine where
  fid : Nat
  pipe : Nat
  win : List Byte
  wlen : Nat
  cur : Nat
  gregs : List (BitVec 16)
  prv : BitVec 256
  stack : List Nat
  count : Nat
  addr : Nat
  deriving DecidableEq, Repr

/-- An entry of a window queue: the frame, the port whose entry number it uses (R115), and its window (R110, R111). -/
structure WqEntry where
  fid : Nat
  port : Nat
  win : List Byte
  deriving DecidableEq, Repr

/-- An entry of a reorder buffer (R114): the frame, its source port and, once returned, its PRV. -/
structure RobEntry where
  fid : Nat
  port : Nat
  prv : Option (BitVec 256)
  deriving DecidableEq, Repr

/-- One ingress pipeline: its window queue (R111), its reorder buffer (R114), and the frames that wait for stages 4, 5
and 6 in their order (R24, R31). -/
structure Pipe where
  wq : List WqEntry := []
  rob : List RobEntry := []
  st4 : List Nat := []
  st5 : List Nat := []
  st6 : List Nat := []
  deriving DecidableEq, Repr

structure TinState where
  pipe : Tab Pipe := []
  engines : Tab (Option Engine) := []
  /-- the round-robin pointer over the engines, and the first choice when both pipelines dispatch (R112) -/
  ptr : Nat := 0
  firstP1 : Bool := false
  /-- the three stores: key 4096 × cluster + address (R130) -/
  store : Tab UWord := []
  /-- the word the background scrub visits next in every cluster (R131) -/
  scrub : Nat := 0
  /-- after an aborted BIST of the store: its unlisted words are free values from this draw on (R58) -/
  lost : Option Nat := none
  deriving DecidableEq, Repr

end Sys2Proof.Machine
end

