-- ==== Sys2Proof/Machine/State.lean ====
section
/-! DEFINITION. The whole state of the XS-7264 as plain data, and the state after a POWER_ON reset. -/

namespace Sys2Proof.Machine

/-- Nothing in the spec stops this block as a whole, so no meaning raises a fault. -/
inductive Fault where
  /-- UNVERIFIED: raised by nothing; kept because the host's interface has a type of faults. Safe. -/
  | none
  deriving DecidableEq, Repr

/-- Why a command has no meaning. -/
inductive Refusal where
  /-- The command is not modelled yet; raised only by an arm of Machine/Dispatch.lean. Safe. -/
  | notModelled (mnemonic : String)
  deriving DecidableEq, Repr

/-- The state of the block. -/
structure State where
  /-- the registers that software can address, by BAR0 offset; an unlisted register holds its reset value (R7) -/
  regs : Tab Word := []
  /-- the snapshots of high words, by host and register (R8): key 2 × offset + host -/
  snaps : Tab Word := []
  /-- what the RSVD bits hold under STRICT decode, by the key of their register (R17); they reset to 0 (R7) -/
  rsvd : Tab Word := []
  inv : InvState := {}
  ports : Tab PortSt := []
  egs : Tab EgsPort := []
  pol : PolState := {}
  swc : SwcState := {}
  tin : TinState := {}
  lkp : LkpState := {}
  twn : TwnState := {}
  rst : RstState := {}
  md : ModeState := {}
  adp : AdpState := {}
  img : ImgState := {}
  pds : PdsState := {}
  dma : DmaState := {}
  cff : CffState := {}
  pmc : PmcState := {}
  ha : HostPort := {}
  hb : HostPort := {}
  mgt : MgtState := {}
  tap : TapState := {}
  pools : Tab Pool := []
  /-- the service SRAM (R383); after an aborted BIST its unlisted bytes are free values from this draw on (R58) -/
  sram : Tab Byte := []
  sramLost : Option Nat := none
  /-- the frames in the device, and the number the next one takes (the model's own names) -/
  frames : Tab (Option Frame) := []
  nextFid : Nat := 0
  /-- the events of the current tick, by EVENT and INST (R520) -/
  events : Tab Nat := []
  /-- the model's own: how many free values have been drawn -/
  freeCtr : Nat := 0
  /-- the model's own: what the block has driven outward, oldest first -/
  out : List Out := []
  /-- the commands that wait, first in, first out -/
  pending : List Instr := []
  deriving DecidableEq, Repr

/-- The state right after a POWER_ON reset (R7, R570). -/
def State.reset : State := {}

end Sys2Proof.Machine
end

