-- ==== Sys2Proof/Machine/Ops.lean ====
section
/-! DEFINITION. The operations that every meaning is built from: registers and their fields, event registers with their
sequence numbers (R11), saturating and wrapping counters, free values, the TD0 time, and the access to each part of the state. -/

namespace Sys2Proof.Machine

/-- The number of a host: HA 0, HB 1 (R435). -/
def hostNum : HostId → Nat
  | .ha => 0
  | .hb => 1

/-! ## Registers -/

/-- The word a register holds. -/
def State.reg (s : State) (r : RegSpec) (i : Nat := 0) (j : Nat := 0) : Word :=
  tabGet r.resetWord s.regs (r.off i j)

/-- Set the word of a register. -/
def State.setReg (s : State) (r : RegSpec) (v : Word) (i : Nat := 0) (j : Nat := 0) : State :=
  { s with regs := tabSet r.resetWord s.regs (r.off i j) v }

/-- The value of a field. -/
def State.get (s : State) (f : Fld) (i : Nat := 0) (j : Nat := 0) : Nat := getBits (s.reg f.reg i j) f.hi f.lo

/-- A one-bit field as a truth value. -/
def State.bit (s : State) (f : Fld) (i : Nat := 0) (j : Nat := 0) : Bool := s.get f i j != 0

/-- Set a field; the value is taken modulo the field's width. -/
def State.put (s : State) (f : Fld) (v : Nat) (i : Nat := 0) (j : Nat := 0) : State :=
  s.setReg f.reg (setBits (s.reg f.reg i j) f.hi f.lo v) i j

/-- Set or clear bit `k` of a field. -/
def State.putBit (s : State) (f : Fld) (k : Nat) (b : Bool) (i : Nat := 0) (j : Nat := 0) : State :=
  let v := s.get f i j
  s.put f (if b then v ||| 2 ^ k else v &&& (2 ^ f.width - 1 - 2 ^ k)) i j

/-- The vectors 0 to 15, 32 and 33 in the order of R451: the event register of each. -/
def vectorSources : List (RegSpec × Nat) :=
  [(R.GLB_ACC_ERR, 0), (R.GLB_MODE_STAT, 1), (R.GLB_ADP_EVT, 2), (R.GLB_SEM_EVT, 3), (R.RST_EVT, 4), (R.MGT_EVT, 5), (R.IMG_EVT, 6),
   (R.TWN_EVT, 7), (R.INV_EVT, 8), (R.EPOCH_EVT, 9), (R.LKP_EVT, 10), (R.TIN_EVT, 11), (R.SWC_EVT, 12), (R.POL_EVT, 13),
   (R.PDS_EVT, 14), (R.BPM_EVT, 15), (R.CFF_EVT, 32), (R.PMC_EVT, 33)]

/-- The vector that an event register drives on both hosts (R451). -/
def eventVector (r : RegSpec) (i : Nat) : Option Nat :=
  if r.base = R.DMA_CH_EVT.base then some (16 + i)
  else if r.base = R.PORT_EVT.base then some (34 + i / 8)
  else if r.base = R.EGS_EVT.base then some (43 + i / 8)
  else (vectorSources.find? (fun e => e.1.base == r.base)).map (·.2)

/-- A vector of a host is armed again (R452). -/
def HostPort.arm (x : HostPort) (v : Nat) : HostPort := if x.sent.testBit v then { x with sent := x.sent ^^^ 2 ^ v } else x

/-- A new event of a source arms its vector again on both hosts (R452). -/
def State.armVector (s : State) (v : Option Nat) : State :=
  match v with
  | none => s
  | some v => { s with ha := s.ha.arm v, hb := s.hb.arm v }

/-- An event sets (or re-asserts) a bit of an SC register and SEQ [31:24] advances by one, modulo 256 (R11). -/
def State.evt (s : State) (f : Fld) (i : Nat := 0) (j : Nat := 0) : State :=
  let w := s.reg f.reg i j
  let w := setBits w 31 24 (getBits w 31 24 + 1)
  (s.setReg f.reg (setBits w f.hi f.lo (2 ^ f.width - 1)) i j).armVector (eventVector f.reg i)

/-- An event when a condition holds. -/
def State.evtIf (s : State) (c : Bool) (f : Fld) (i : Nat := 0) (j : Nat := 0) : State :=
  if c then s.evt f i j else s

/-- One event that sets two bits of the same SC register: SEQ advances once (R11; DEDUCED, log entry 5). -/
def State.evt2 (s : State) (f g : Fld) (i : Nat := 0) : State :=
  let s := s.evt f i
  s.put g 1 i

/-- Add to a counter field that saturates at its largest value. -/
def State.inc (s : State) (f : Fld) (i : Nat := 0) (j : Nat := 0) (n : Nat := 1) : State :=
  s.put f (min (s.get f i j + n) (2 ^ f.width - 1)) i j

/-- Add to a counter field that wraps. -/
def State.incWrap (s : State) (f : Fld) (i : Nat := 0) (j : Nat := 0) (n : Nat := 1) : State :=
  s.put f (s.get f i j + n) i j

/-- Take from a count field, not below 0. -/
def State.dec (s : State) (f : Fld) (i : Nat := 0) (j : Nat := 0) (n : Nat := 1) : State :=
  s.put f (s.get f i j - n) i j

/-- Capture an error in a VALID/MULTI register: the first is kept, a later one sets MULTI only. `w` is the word captured. -/
def State.capture (s : State) (valid multi : Fld) (w : Word) : State :=
  if s.bit valid then s.put multi 1 else s.setReg valid.reg (setBits w valid.hi valid.lo 1)

/-- Port counter `k` of port `p` (R102): 64 bits, wrapping. -/
def State.portCnt (s : State) (p k : Nat) (n : Nat := 1) : State :=
  let v := s.get F.PORT_CNT_LO_COUNT p k + 2 ^ 32 * s.get F.PORT_CNT_HI_COUNT p k + n
  let s := s.put F.PORT_CNT_LO_COUNT (v % 2 ^ 32) p k
  s.put F.PORT_CNT_HI_COUNT (v / 2 ^ 32) p k

/-! ## Free values, output, counted events -/

/-- Draw a free value of `w` bits: nothing constrains it (log entry 1). -/
def State.draw (s : State) (w : Nat) : BitVec w × State :=
  (Config.freeValue w s.freeCtr, { s with freeCtr := s.freeCtr + 1 })

/-- Drive something outward. -/
def State.emit (s : State) (o : Out) : State := { s with out := s.out ++ [o] }

/-- An event of R520 happens `n` times in the current tick. -/
def State.count (s : State) (event inst : Nat) (n : Nat := 1) : State :=
  let k := event * 1024 + inst
  { s with events := tabSet 0 s.events k (tabGet 0 s.events k + n) }

/-- A drop counts under one code of R233. -/
def State.dropCount (s : State) (code : Nat) : State :=
  (s.inc F.SWC_DROP_CNT_COUNT code).count 0x47 code

/-- The event of a pulse reset source is detected: the source asserts in the next ACLK cycle (R557, R575). -/
def State.rstDue (s : State) (source : Nat) : State := { s with rst := { s.rst with due := s.rst.due ||| 2 ^ source } }

/-! ## Access to the parts -/

def State.port (s : State) (p : Nat) : PortSt := tabGet {} s.ports p
def State.setPort (s : State) (p : Nat) (v : PortSt) : State := { s with ports := tabSet {} s.ports p v }
def State.eg (s : State) (p : Nat) : EgsPort := tabGet {} s.egs p
def State.setEg (s : State) (p : Nat) (v : EgsPort) : State := { s with egs := tabSet {} s.egs p v }
def State.frame (s : State) (k : Nat) : Option Frame := tabGet none s.frames k
def State.setFrame (s : State) (k : Nat) (v : Option Frame) : State := { s with frames := tabSet none s.frames k v }
def State.list (s : State) (n : Nat) : List Copy := tabGet [] s.swc.lists n
def State.setList (s : State) (n : Nat) (v : List Copy) : State :=
  { s with swc := { s.swc with lists := tabSet [] s.swc.lists n v } }
def State.cell (s : State) (k : Nat) : Option Cell := tabFind? k s.swc.cells
def State.pipe (s : State) (p : Nat) : Pipe := tabGet {} s.tin.pipe p
def State.setPipe (s : State) (p : Nat) (v : Pipe) : State :=
  { s with tin := { s.tin with pipe := tabSet {} s.tin.pipe p v } }
def State.dom (s : State) (d : Nat) : Domain := tabGet {} s.inv.dom d
def State.setDom (s : State) (d : Nat) (v : Domain) : State :=
  { s with inv := { s.inv with dom := tabSet {} s.inv.dom d v } }
def State.tio (s : State) (i : Nat) : Tio := tabGet {} s.inv.tio i
def State.setTio (s : State) (i : Nat) (v : Tio) : State :=
  { s with inv := { s.inv with tio := tabSet {} s.inv.tio i v } }

/-- Change the state of a frame, if it is in the device. -/
def State.modFrame (s : State) (k : Nat) (g : Frame → Frame) : State :=
  match s.frame k with
  | some f => s.setFrame k (some (g f))
  | none => s

/-! ## Time (R300 to R303, R607) -/

/-- Whole nanoseconds of a domain since its second 0. -/
def domNs (d : Domain) : Int := (d.sec : Int) * 1000000000 + d.ns

/-- The time of a domain rounded to the nearest ns; a FRAC of exactly one half rounds up (R303). -/
def domRound (d : Domain) : Int := domNs d + (if 2 ^ 47 ≤ d.frac then 1 else 0)

/-- TD0 in whole nanoseconds. -/
def State.now (s : State) : Int := domNs (s.dom 0)

/-- TD0 in picoseconds, for lane times (R242). -/
def State.nowPs (s : State) : Int := s.now * 1000 + ((s.dom 0).frac * 1000 / 2 ^ 48 : Nat)

/-- A 40-bit timestamp (R303). -/
def ts40 (t : Int) : Nat := (t % 2 ^ 40).toNat

/-- The full time that a pair of seconds [31:0] and nanoseconds stands for in a domain (R607): the 48-bit seconds with those
low 32 bits that lie within -2^31 to 2^31 - 1 seconds of the domain's seconds. -/
def fullTime (d : Domain) (sec32 ns : Nat) : Int :=
  let diff : Int := ((sec32 : Int) - (d.sec : Int)) % 2 ^ 32
  let diff := if diff < 2 ^ 31 then diff else diff - 2 ^ 32
  ((d.sec : Int) + diff) * 1000000000 + ns

/-- The age of a stamp: (now − stamp) modulo 2^40, an age of 2^39 ns or more taken as 0 (R30, R309). -/
def State.age (s : State) (stamp : Nat) : Nat :=
  let a := ((s.now - stamp) % 2 ^ 40).toNat
  if 2 ^ 39 ≤ a then 0 else a

/-- The least B + n × P at or after `t`, for an integer n ≥ 0 or any integer (P > 0). -/
def gridAtOrAfter (b : Int) (p : Nat) (t : Int) : Int :=
  if p = 0 then b else b + ((t - b + (p : Int) - 1) / (p : Int)) * (p : Int)

/-! ## Modes (R36) -/

def modeLOAD : Nat := 0
def modeBRIDGE : Nat := 1
def modeSCHEDULED : Nat := 2
def modeSERVICE : Nat := 3
def modeADAPTIVE : Nat := 4
def modePEWTER : Nat := 5
def modeHOLD : Nat := 6
def modeMAINTENANCE : Nat := 7

/-- GLB_MODE.CUR. -/
def State.mode (s : State) : Nat := s.get F.GLB_MODE_CUR

/-- A mode that forwards network traffic (R36). -/
def forwards (m : Nat) : Bool := m == 1 || m == 2 || m == 3 || m == 4 || m == 6

/-- A memory is under BIST in MAINTENANCE (R58): no function but the BIST reads or writes it. -/
def State.underTest (s : State) (mem : Nat) : Bool :=
  s.bit F.GLB_MNT_STAT_BUSY && s.get F.GLB_MNT_STAT_OP == 2 && s.get F.GLB_MNT_STAT_MEM == mem

/-- A reset episode is in progress (R559). -/
def State.episode (s : State) : Bool := s.get F.RST_STAT_STATE != 0

/-- The loopback of a port that is in force (R59, R101). -/
def State.loop (s : State) (p : Nat) : Nat := if s.mode = modeMAINTENANCE then s.get F.PORT_CTRL_LOOPBACK p else 0

/-! ## Lists of bytes -/

/-- A number as `n` bytes, most significant first. -/
def beBytes (n v : Nat) : List Byte := (List.range n).map (fun i => BitVec.ofNat 8 (v >>> (8 * (n - 1 - i))))

/-- A number as `n` bytes, least significant first. -/
def leBytes (n v : Nat) : List Byte := (List.range n).map (fun i => BitVec.ofNat 8 (v >>> (8 * i)))

/-- The number that bytes spell, most significant first. -/
def beNat (l : List Byte) : Nat := l.foldl (fun a b => a * 256 + b.toNat) 0

/-- The number that bytes spell, least significant first. -/
def leNat (l : List Byte) : Nat := l.foldr (fun b a => b.toNat + 256 * a) 0

/-- `n` bytes from offset `i`; bytes beyond the end read 0. -/
def bytesAt (l : List Byte) (i n : Nat) : List Byte := (List.range n).map (fun k => (l[i + k]?).getD 0)

/-- The number of `n` big-endian bytes from offset `i`. -/
def beAt (l : List Byte) (i n : Nat) : Nat := beNat (bytesAt l i n)

/-- One step of a reflected CRC of `w` bits over one bit. -/
def crcBit {w : Nat} (poly c : BitVec w) : BitVec w := if c.getLsbD 0 then (c >>> 1) ^^^ poly else c >>> 1

/-- A reflected CRC of `w` bits over bytes, before the final XOR. -/
def crcBytes {w : Nat} (poly : BitVec w) : BitVec w → List Byte → BitVec w
  | c, [] => c
  | c, b :: t =>
    let c := c ^^^ (b.setWidth w)
    crcBytes poly (crcBit poly (crcBit poly (crcBit poly (crcBit poly (crcBit poly (crcBit poly (crcBit poly (crcBit poly c)))))))) t

/-- The CRC-32 of IEEE 802.3 (R147). -/
def crc32 (l : List Byte) : BitVec 32 := ~~~ (crcBytes (0xEDB88320 : BitVec 32) (0xFFFFFFFF : BitVec 32) l)

/-- CRC-32C (R147). -/
def crc32c (l : List Byte) : BitVec 32 := ~~~ (crcBytes (0x82F63B78 : BitVec 32) (0xFFFFFFFF : BitVec 32) l)

/-- Replace the bytes from offset `i` on; bytes beyond the end are not written. -/
def putBytes (l : List Byte) (i : Nat) (v : List Byte) : List Byte :=
  (l.take i) ++ ((v.take (l.length - i)) ++ l.drop (i + v.length))

end Sys2Proof.Machine
end

