-- ==== Sys2Proof/Machine/CffOps.lean ====
section
/-! DEFINITION. The capture FIFO (17_capture_fifo.md R504 to R514): its pointers, the reservation with its overwrites, the read
window, the mark, and the records with their trailers. -/

namespace Sys2Proof.Machine

def State.setCff (s : State) (c : CffState) : State := { s with cff := c }

/-- A pointer as a number of 20 bits: the index and the WRAP bit above it (R507). -/
def cffW (s : State) : Nat := s.get F.CFF_WPTR_INDEX + 2 ^ 19 * s.get F.CFF_WPTR_WRAP
def cffR (s : State) : Nat := s.get F.CFF_RPTR_INDEX + 2 ^ 19 * s.get F.CFF_RPTR_WRAP
def cffF (s : State) : Nat := s.get F.CFF_FPTR_INDEX + 2 ^ 19 * s.get F.CFF_FPTR_WRAP
def cffM (s : State) : Nat := s.get F.CFF_MPTR_INDEX + 2 ^ 19 * s.get F.CFF_MPTR_WRAP

/-- Set a pointer. -/
def State.setPtr (s : State) (index wrap : Fld) (v : Nat) : State := (s.put index v).put wrap (v / 2 ^ 19)
def State.setW (s : State) (v : Nat) : State := s.setPtr F.CFF_WPTR_INDEX F.CFF_WPTR_WRAP v
def State.setR (s : State) (v : Nat) : State := s.setPtr F.CFF_RPTR_INDEX F.CFF_RPTR_WRAP v
def State.setF (s : State) (v : Nat) : State := s.setPtr F.CFF_FPTR_INDEX F.CFF_FPTR_WRAP v
def State.setM (s : State) (v : Nat) : State := s.setPtr F.CFF_MPTR_INDEX F.CFF_MPTR_WRAP v

/-- The distance from a pointer to a later one. -/
def ptrDist (a b : Nat) : Nat := (b + 2 ^ 20 - a % 2 ^ 20) % 2 ^ 20

/-- Free space in words (R507). -/
def State.cffFree (s : State) : Nat := 524288 - ptrDist (cffF s) (cffW s)

/-- The record that holds the word at a pointer. -/
def State.recAt (s : State) (x : Nat) : Option CffRec := s.cff.recs.find? (fun r => decide (ptrDist r.start x < r.len))

/-- The word at R is readable (R509). -/
def State.cffReadable (s : State) : Bool :=
  match s.recAt (cffR s) with
  | some r =>
    let early := s.get F.CFF_CFG_EARLY
    decide (ptrDist r.start (cffR s) < r.wr) && (r.done || (early != 0 && decide (early ≤ r.wr)))
  | none => false

/-- CFF_AVAIL and CFF_STAT as the pointers and records stand (R509, R512). -/
def State.cffShow (s : State) : State :=
  let ahead := s.cff.recs.filter (fun r => r.done && decide (ptrDist (cffF s) (cffR s) < ptrDist (cffF s) r.start + r.len))
  let s := s.put F.CFF_AVAIL_RECORDS ahead.length
  let s := s.put F.CFF_STAT_WRITING (if s.cff.job.isSome then 1 else 0)
  s.put F.CFF_STAT_EMPTY (if s.cffReadable then 0 else 1)

/-- Pointers, marks and records as after a reset episode that clears the FIFO, and at step 4 of a PEWTER entry (R49, R508). -/
def State.cffEmpty (s : State) : State :=
  let s := (((s.setW 0).setR 0).setF 0).setM 0
  let s := (s.put F.CFF_STAT_MARK_VALID 0).setCff { s.cff with words := [], recs := [], job := none }
  s.cffShow

/-- Overwrite the oldest records until `n` words are free (R508); at most `k` records. -/
def State.cffMakeRoom (s : State) (n : Nat) : Nat → State
  | 0 => s
  | k + 1 =>
    if n ≤ s.cffFree then s
    else
      match s.cff.recs with
      | [] => s
      | r :: rest =>
        let next := (r.start + r.len) % 2 ^ 20
        let unread := decide (ptrDist r.start (cffR s) < r.len)
        let marked := s.bit F.CFF_STAT_MARK_VALID && decide (ptrDist r.start (cffM s) < r.len)
        let s := (s.setF next).setCff { s.cff with recs := rest }
        let s := if unread then ((s.setR next).inc F.CFF_LOST_COUNT).evt F.CFF_EVT_LOST else s
        let s := if marked then (s.put F.CFF_STAT_MARK_VALID 0).evt F.CFF_EVT_MARK_LOST else s
        s.cffMakeRoom n k

/-- A word stored at a pointer: payload and tag (R506). -/
def State.cffPut (s : State) (x : Nat) (payload tag : Nat) : State :=
  s.setCff { s.cff with words := tabInsert (x % 2 ^ 19) (BitVec.ofNat 40 (payload % 2 ^ 32 + 2 ^ 32 * tag)) s.cff.words }

/-- The data words of captured bytes from pointer `x` on (R506). -/
def State.cffData (s : State) (x : Nat) (b : List Byte) : State :=
  (List.range ((b.length + 3) / 4)).foldl (fun s i =>
    let nb := min 4 (b.length - 4 * i)
    s.cffPut (x + i) (beAt b (4 * i) 4) (2 ^ 7 + (if i = 0 then 2 ^ 6 else 0) + (nb - 1) * 4)) s

/-- A record is taken (R505): `want` bytes fix the reservation, `b` are the bytes that are good, and `trailer` its 160 bits with SEQ 0.
The data words are written; the trailer follows (DESIGN CHOICE, log entry 60). -/
def State.cffTake (s : State) (session want : Nat) (b : List Byte) (trailer : Nat) : State :=
  let n := (want + 3) / 4 + 5
  let s := s.cffMakeRoom n 131072
  let x := cffW s
  let s := s.setW ((x + n) % 2 ^ 20)
  let s := s.cffData x b
  let r : CffRec := { start := x, len := n, wr := (b.length + 3) / 4, done := false }
  (s.setCff { s.cff with recs := s.cff.recs ++ [r], job := some (session, trailer) }).cffShow

/-- The trailer of the record being written is stored (R193, R194, R505, R512): the unused part of its reservation returns. -/
def State.cffComplete (s : State) : State :=
  match s.cff.job, s.cff.recs.getLast? with
  | some (session, trailer), some r =>
    let t := trailer + s.cff.seq * 2 ^ 48
    let x := r.start + r.wr
    let s := (List.range 5).foldl (fun s k =>
      s.cffPut (x + k) (t >>> (128 - 32 * k)) (2 ^ 7 + 2 ^ 4 + 12 + (if k = 4 then 2 ^ 5 else 0))) s
    let r' : CffRec := { r with len := r.wr + 5, wr := r.wr + 5, done := true }
    let s := s.setW ((r.start + r'.len) % 2 ^ 20)
    let s := s.setCff { s.cff with recs := s.cff.recs.dropLast ++ [r'], seq := (s.cff.seq + 1) % 2 ^ 32, job := none }
    ((s.inc F.CFF_SESS_CNT_COUNT session).evt F.CFF_EVT_FRAME).cffShow
  | _, _ => s

/-- The key under which the tag snapshot of a host stands beside those of R8 (DEDUCED, log entry 61). -/
def cffSnapKey (host : Nat) : Nat := 2 * R.CFF_WINDOW.base + host

/-- The number of ones of a word with its check bits. -/
def weight48 (x : BitVec 48) : Nat := ((List.range 48).filter (fun i => x.getLsbD i)).length

/-- A read of the window's low word by a host (R510, R511, R514). `flip`: the bits of the stored word (39:0) and of its check bits
(47:40) that an upset has inverted. Under BIST and in PEWTER no word is returned (R54, R58). -/
def State.cffRead (s : State) (host : Nat) (flip : BitVec 48) : Word × State :=
  if s.underTest 4 || s.mode == modePEWTER || !s.cffReadable then (0, { s with snaps := tabSet 0 s.snaps (cffSnapKey host) 0 })
  else
    let x := cffR s
    let w := tabGet 0 s.cff.words (x % 2 ^ 19)
    let n := weight48 flip
    let s := if n = 0 then s
      else if n = 1 then (s.inc F.CFF_ECC_CORR_COUNT).evt F.CFF_EVT_ECC_CORR
      else (s.inc F.CFF_ECC_UNC_COUNT).evt F.CFF_EVT_ECC_UNC
    let w := if n ≤ 1 then w else w ^^^ (flip.setWidth 40)
    let tag := w.toNat / 2 ^ 32
    let tag := if n ≤ 1 then tag else tag ||| 0x81
    let s := { s with snaps := tabSet 0 s.snaps (cffSnapKey host) (BitVec.ofNat 32 tag) }
    (w.setWidth 32, (s.setR ((x + 1) % 2 ^ 20)).cffShow)

/-- A write of CFF_MARK (R508). -/
def State.cffMark (s : State) (key : Nat) : State :=
  if key = 0x5A then ((s.setM (cffR s)).put F.CFF_STAT_MARK_VALID 1).cffShow else s.evt F.CFF_EVT_CFG_ERR

/-- A write of CFF_REWIND (R508). -/
def State.cffRewind (s : State) (key : Nat) : State :=
  if key ≠ 0x5A then s.evt F.CFF_EVT_CFG_ERR
  else if s.bit F.CFF_STAT_MARK_VALID then (s.setR (cffM s)).cffShow
  else s.evt F.CFF_EVT_REWIND_ERR

/-- A write of CFF_RELEASE (R508). -/
def State.cffRelease (s : State) (key : Nat) : State :=
  if key ≠ 0x5A then s.evt F.CFF_EVT_CFG_ERR
  else
    let base := cffF s
    let point := if s.bit F.CFF_STAT_MARK_VALID && decide (ptrDist base (cffM s) < ptrDist base (cffR s)) then cffM s else cffR s
    let keep := s.cff.recs.filter (fun r => decide (ptrDist base point < ptrDist base r.start + r.len))
    let f := match keep with | r :: _ => r.start | [] => point
    ((s.setF f).setCff { s.cff with recs := keep }).cffShow

/-- A write of CFF_SESSs_CFG (R502, R516): while EN is 1 only EN changes; an enable with DIR and DROP_EN both 1 is refused. -/
def State.cffSession (s : State) (k : Nat) (w : Word) : State :=
  let s := if s.bit F.CFF_SESS_CFG_EN k then s
    else
      let snap := getBits w 13 0
      let snap := if snap = 0 then 0 else if snap < 64 then 64 else if 16000 < snap then 16000 else snap
      let en := s.get F.CFF_SESS_CFG_EN k
      ((s.setReg R.CFF_SESS_CFG (w &&& 0x77FF3FFF) k).put F.CFF_SESS_CFG_SNAP snap k).put F.CFF_SESS_CFG_EN en k
  if getBits w 31 31 = 0 then s.put F.CFF_SESS_CFG_EN 0 k
  else if s.bit F.CFF_SESS_CFG_DIR k && s.bit F.CFF_SESS_CFG_DROP_EN k then (s.put F.CFF_SESS_CFG_EN 0 k).evt F.CFF_EVT_CFG_ERR
  else s.put F.CFF_SESS_CFG_EN 1 k

end Sys2Proof.Machine
end

