-- ==== Sys2Proof/Machine/InvOps.lean ====
section
/-! DEFINITION. Invar (11_invar_time_unit.md): the domains, their commands, the cycle generator, the timed pins and the one-step
PTP edits. -/

namespace Sys2Proof.Machine

/-! ## The domains at a tick (R301, R305) -/

/-- What the slew in progress adds at one tick, in 2^-48 ns: sign(R) × 2^-SHIFT ns, the last tick what remains (R305). -/
def slewStep (d : Domain) : Int :=
  let step : Int := 2 ^ (48 - d.slewShift)
  if d.slewRem = 0 then 0
  else if 0 < d.slewRem then min step d.slewRem
  else max (-step) d.slewRem

/-- A domain moved by an amount of 2^-48 ns, carrying into NS and SEC; below 0 it loads 0 (R301, R304). -/
def domAdd (d : Domain) (x : Int) : Domain :=
  let t : Int := ((d.sec : Int) * 1000000000 + d.ns) * 2 ^ 48 + d.frac + x
  if t < 0 then { d with sec := 0, ns := 0, frac := 0 }
  else
    let n := t.toNat
    let ns := n / 2 ^ 48
    { d with frac := n % 2 ^ 48, ns := ns % 1000000000, sec := ns / 1000000000 % 2 ^ 48 }

/-- A domain after one TCLK tick: 2 ns + RATE × 2^-48 ns, and the slew step (R301). -/
def domTick (d : Domain) : Domain :=
  let st := slewStep d
  let e := domAdd d (2 * 2 ^ 48 + d.rate + st)
  { e with slewRem := d.slewRem - st }

/-- The domains that run: TD0 always, TD1 to TD3 but for PEWTER (R331). -/
def State.domRuns (s : State) (d : Nat) : Bool := d == 0 || s.mode != modePEWTER

/-- One domain's tick. -/
def State.tickDom (s : State) (d : Nat) : State := if s.domRuns d then s.setDom d (domTick (s.dom d)) else s

/-! ## Steps (R308, R309) -/

/-- The next start of the cycle generator is judged against a new TD0 after a backward step (R326). -/
def State.cycRejudge (s : State) (before : Int) : State :=
  match s.inv.cycNext with
  | none => s
  | some n =>
    let p := s.get F.INV_CYC_OPER_PERIOD_PERIOD
    if s.now < before then
      let n' := gridAtOrAfter s.inv.cycBase p (s.now + 1)
      { s with inv := { s.inv with cycNext := some (min n n') } }
    else s

/-- T_last of every meter moves with a step of TD0 (R309). The lists that gates and schedules have replaced serve no time
before the step any longer (DEDUCED, log entry 105). -/
def State.moveMeters (s : State) (delta : Int) : State :=
  { s with pol := { s.pol with meters := s.pol.meters.map (fun kv => (kv.1, { kv.2 with tlast := kv.2.tlast + delta })),
                               scheds := s.pol.scheds.map (fun kv => (kv.1, { kv.2 with old := none })) },
           egs := s.egs.map (fun kv => (kv.1, { kv.2 with old := none })) }

/-- Domain of a pin: TD0 in mode CYCLE, else the domain its TD names (R327). -/
def State.tioDom (s : State) (i : Nat) : Nat := if s.get F.INV_TIO_CFG_MODE i = 6 then 0 else s.get F.INV_TIO_CFG_TD i

/-- The time in whole ns of the domain a pin follows. -/
def State.tioNow (s : State) (i : Nat) : Int := domNs (s.dom (s.tioDom i))

/-- The time T of a pin, formed under R607 in its domain (R327). -/
def State.tioT (s : State) (i : Nat) : Int :=
  fullTime (s.dom (s.tioDom i)) (s.get F.INV_TIO_T_SEC_SEC i) (s.get F.INV_TIO_T_NS_NS i)

/-- A PULSE pin after a step of its domain: the next rising edge after the new time; a pulse in progress ends at its computed
falling time, or at once if that has passed (R328). T stays as it was formed at the enable (R607). -/
def State.tioRejudge (s : State) (d i : Nat) : State :=
  if s.bit F.INV_TIO_CFG_EN i && s.get F.INV_TIO_CFG_MODE i == 5 && s.tioDom i == d then
    let t := s.tio i
    let per := s.get F.INV_TIO_PER_PER i
    let now := s.tioNow i
    let rise := if per = 0 then t.rise else t.rise.map (fun _ => max t.start (gridAtOrAfter t.start per (now + 1)))
    s.setTio i { t with rise := rise }
  else s

/-- What a SET or STEP of domain `d` does beside the time: GEN toggles, STEP is set, and for TD0 the time-driven functions are
judged against the new time (R308, R309, R326, R328). `old` is the domain before the step. -/
def State.stepEffects (s : State) (d : Nat) (old : Domain) : State :=
  let g := s.get F.INV_STAT_GEN
  let s := s.putBit F.INV_STAT_GEN d (!g.testBit d)
  let s := s.evt F.INV_EVT_STEP
  let s := (List.range 16).foldl (fun s i => s.tioRejudge d i) s
  if d = 0 then
    let delta := domNs (s.dom 0) - domNs old
    (s.moveMeters delta).cycRejudge (domNs old)
  else s

/-- Two's complement reading of a word of `w` bits. -/
def signed (w v : Nat) : Int := if v < 2 ^ (w - 1) then (v : Int) else (v : Int) - 2 ^ w

/-- Copy a domain into its snapshot (R332). -/
def State.snapDom (s : State) (d : Nat) : State :=
  let m := s.dom d
  { s with inv := { s.inv with snap := tabSet {} s.inv.snap d { sec := m.sec, ns := m.ns, frac16 := m.frac / 2 ^ 32 } } }

/-- The slew of a domain ends without SLEW_DONE (R305). -/
def State.slewStop (s : State) (d : Nat) : State :=
  (s.setDom d { s.dom d with slewRem := 0 }).putBit F.INV_STAT_SLEWING d false

/-- A command or RATE load has been accepted: it waits for the tick at which it acts. -/
def State.invTake (s : State) (a : InvAct) : State :=
  { (s.put F.INV_STAT_BUSY 1) with inv := { s.inv with act := some (a, false) } }

/-- An accepted INV_CMD (R304): it samples its staging registers. -/
def State.invCommand (s : State) (op d : Nat) : State :=
  match op with
  | 0 => s.invTake .nop
  | 1 => s.invTake (.set d (s.get F.INV_TD_SET_SEC_LO_SEC d + 2 ^ 32 * s.get F.INV_TD_SET_SEC_HI_SEC d) (s.get F.INV_TD_SET_NS_NS d))
  | 2 => s.invTake (.step d (signed 64 (s.get F.INV_TD_OFS_LO_OFS d + 2 ^ 32 * s.get F.INV_TD_OFS_HI_OFS d)))
  | 3 =>
    let adj := signed 32 (s.get F.INV_TD_ADJ_ADJ d)
    s.invTake (if adj = 0 then .stop d else .slew d (adj * 2 ^ 32) (s.get F.INV_TD_SLEW_CFG_SHIFT d))
  | 4 => s.invTake (.stop d)
  | 5 => s.invTake .snap
  | _ => (s.invTake .nop).evt F.INV_EVT_CFG_ERR

/-- An accepted write of INV_TDd_RATE_HI (R306, R333). -/
def State.rateLoad (s : State) (d hi : Nat) : State :=
  let s := s.put F.INV_TD_RATE_HI_RATE hi d
  s.invTake (.rate d (signed 40 (s.get F.INV_TD_RATE_LO_RATE d + 2 ^ 32 * (hi % 256))))

/-- The tick at which the accepted command acts begins: a slew, a stop and a RATE load hold from this tick's increment on, and a SET ends
the slew; the step itself comes after the tick (R307, R309). -/
def State.invBegin (s : State) : State :=
  match s.inv.act with
  | some (a, false) =>
    let s := { s with inv := { s.inv with act := some (a, true) } }
    (match a with
     | .set d _ _ => s.slewStop d
     | .stop d => s.slewStop d
     | .slew d rem shift => (s.setDom d { s.dom d with slewRem := rem, slewShift := shift }).putBit F.INV_STAT_SLEWING d true
     | .rate d r => s.setDom d { s.dom d with rate := r }
     | _ => s)
  | _ => s

/-- The tick at which the command has acted is over: the step moves the time, which stamps, captures and compares of that tick have not
seen (R307, R308). Registers show it with the same delay, which R332 leaves open (log entry 6). -/
def State.invEnd (s : State) : State :=
  match s.inv.act with
  | some (a, true) =>
    let s := { (s.put F.INV_STAT_BUSY 0) with inv := { s.inv with act := none } }
    (match a with
     | .set d sec ns => (s.setDom d { s.dom d with sec := sec, ns := ns, frac := 0 }).stepEffects d (s.dom d)
     | .step d ofs => (s.setDom d (domAdd (s.dom d) (ofs * 2 ^ 48))).stepEffects d (s.dom d)
     | _ => s)
  | _ => s

/-- SNAP_ALL takes the four domains of the tick at which it acts. -/
def State.invSnap (s : State) : State :=
  match s.inv.act with
  | some (.snap, true) => [0, 1, 2, 3].foldl State.snapDom s
  | _ => s

/-- The running domains advance by one tick. -/
def State.domsTick (s : State) : State :=
  [0, 1, 2, 3].foldl State.tickDom { s with inv := { s.inv with ticks := s.inv.ticks + 1 } }

/-- One TCLK tick of the domains; a step of the tick before has come before it. -/
def State.tickDomains (s : State) : State := s.invBegin.domsTick.invSnap

/-- The remainder of a slew has come to 0 by slew steps (R305). -/
def State.slewDone (s : State) (d : Nat) : State :=
  if (s.dom d).slewRem = 0 ∧ (s.get F.INV_STAT_SLEWING).testBit d = true then
    (s.putBit F.INV_STAT_SLEWING d false).evt F.INV_EVT_SLEW_DONE
  else s

/-! ## The cycle generator (R323 to R326) -/

/-- The period is one a generator may run with (R324). -/
def cycPeriodOk (p : Nat) : Bool := decide (4000 ≤ p ∧ p ≤ 16000000)

/-- Take EN from 0 to 1 (R324): the first start is the first B + k × P at or after the write plus 2 µs. -/
def State.cycStart (s : State) : State :=
  let p := s.get F.INV_CYC_OPER_PERIOD_PERIOD
  if cycPeriodOk p then
    let b := fullTime (s.dom 0) (s.get F.INV_CYC_OPER_BASE_SEC_SEC) (s.get F.INV_CYC_OPER_BASE_NS_NS)
    let s := s.put F.INV_CYC_CTRL_EN 1
    { s with inv := { s.inv with cycBase := b, cycNext := some (gridAtOrAfter b p (s.now + 2000)) } }
  else (s.put F.INV_CYC_CTRL_EN 0).evt F.INV_EVT_CFG_ERR

/-- The PDS needs the generator (R324). -/
def State.cycNeeded (s : State) : Bool :=
  s.mode == modeSERVICE
  || (s.bit F.GLB_MODE_TRANSIT && s.get F.GLB_MODE_TARGET == modeSERVICE)
  || (s.mode == modeHOLD && s.get F.GLB_MODE_PREV == modeSERVICE)

/-- Take EN from 1 to 0, unless the stop is refused (R324). -/
def State.cycStop (s : State) : State :=
  if s.cycNeeded then s.evt F.INV_EVT_CFG_ERR
  else
    let s := (s.put F.INV_CYC_CTRL_EN 0).put F.INV_CYC_STAT_RUNNING 0
    { s with inv := { s.inv with cycNext := none } }

/-- A write of INV_CYC_CTRL.EN (R324). -/
def State.cycCtrl (s : State) (en : Nat) : State :=
  let was := s.bit F.INV_CYC_CTRL_EN
  if en = 1 ∧ was = false then s.cycStart else if en = 0 ∧ was = true then s.cycStop else s

/-- The change time of an accepted change (R256): the base, moved on by whole cycles to 2 µs after acceptance or later. -/
def changeTime (now base : Int) (cycle : Nat) : Int :=
  if now + 2000 ≤ base then base else gridAtOrAfter base cycle (now + 2000)

/-- Report T_x in a pair of registers (R256, R325). -/
def State.putTime (s : State) (fsec fns : Fld) (t : Int) (i : Nat := 0) : State :=
  (s.put fsec ((t / 1000000000) % 2 ^ 32).toNat i).put fns (t % 1000000000).toNat i

/-- A refused cycle change (R325). -/
def State.cycRefuse (s : State) (code : Nat) : State := (s.put F.INV_CYC_STAT_CHG_ERR code).evt F.INV_EVT_CFG_ERR

/-- A write of INV_CYC_CHG (R325 with the checks of its table, in order). -/
def State.cycChange (s : State) (key : Nat) (go cancel : Bool) : State :=
  let pend := s.bit F.INV_CYC_STAT_CHG_PEND
  let per := s.get F.INV_CYC_ADM_PERIOD_PERIOD
  let bns := s.get F.INV_CYC_ADM_BASE_NS_NS
  if key ≠ 0x5A ∨ go = cancel then s.cycRefuse 6
  else if (go && pend) || (cancel && !pend) then s.cycRefuse 5
  else if cancel then
    ({ (s.put F.INV_CYC_STAT_CHG_PEND 0) with inv := { s.inv with cycPend := none } }).evt F.INV_EVT_CYC_CHG_DONE
  else if !cycPeriodOk per then s.cycRefuse 1
  else if 1000000000 ≤ bns then s.cycRefuse 4
  else
    let b := fullTime (s.dom 0) (s.get F.INV_CYC_ADM_BASE_SEC_SEC) bns
    let tx := changeTime s.now b per
    let s := (s.put F.INV_CYC_STAT_CHG_PEND 1).put F.INV_CYC_STAT_CHG_ERR 0
    let s := s.putTime F.INV_CYC_CHG_SEC_SEC F.INV_CYC_CHG_NS_NS tx
    { s with inv := { s.inv with cycPend := some { tx := tx, base := b, cycle := per, ext := 0, len := 0 } } }

/-- A start that a pending change holds back: it lies less than 4 µs before T_x (R325). -/
def State.cycHeldBack (s : State) (t : Int) : Bool :=
  match s.inv.cycPend with
  | some c => decide (t < c.tx ∧ c.tx - t < 4000) || decide (c.tx ≤ t)
  | none => false

/-- The pins in mode CYCLE take the edges that follow a cycle start at `t` (R327). -/
def State.tioCycle (s : State) (t : Int) : State :=
  (List.range 16).foldl (fun s i =>
    if s.bit F.INV_TIO_CFG_EN i && s.get F.INV_TIO_CFG_MODE i == 6 then
      s.setTio i { s.tio i with rise := (s.tio i).rise ++ [t + s.get F.INV_TIO_T_NS_NS i] }
    else s) s

/-- A cycle start at `t` is issued; `n` starts are counted (R323, R326). -/
def State.cycIssue (s : State) (t : Int) (n : Nat) : State :=
  ((s.incWrap F.INV_CYC_CNT_COUNT (n := n)).put F.INV_CYC_STAT_RUNNING 1).tioCycle t

/-- The latest time at which a start of the present grid may be issued: a pending change holds back those less than 4 µs before T_x
(R325). -/
def State.cycLimit (s : State) : Int :=
  match s.inv.cycPend with
  | some c => min s.now (c.tx - 4000)
  | none => s.now

/-- The start that is due at the present time, if any: the start, how many starts have been passed, and the next one. -/
def State.cycDue (s : State) : Option (Int × Nat × Int) :=
  match s.inv.cycNext with
  | none => none
  | some n =>
    let p := s.get F.INV_CYC_OPER_PERIOD_PERIOD
    if n ≤ s.cycLimit ∧ p ≠ 0 then
      let k := ((s.cycLimit - n) / (p : Int)).toNat
      some (n + k * p, k + 1, n + (k + 1) * p)
    else none

/-- TD0 reaches the next start (R323): it is issued, unless a pending change holds it back (R325). The Bool says whether a
start was issued. -/
def State.cycTick (s : State) : Bool × State :=
  match s.cycDue with
  | none => (false, s)
  | some (t, n, next) =>
    if s.cycHeldBack t then (false, s)
    else (true, { (s.cycIssue t n) with inv := { (s.cycIssue t n).inv with cycNext := some next } })

/-- TD0 reaches T_x of a cycle change (R325): the new values apply, and T_x is a cycle start of a generator that is enabled. Starts of the
old grid that a step of TD0 has passed before T_x count with it (R326). -/
def State.cycChangeTime (s : State) : Bool × State :=
  match s.inv.cycPend with
  | none => (false, s)
  | some c =>
    if s.now < c.tx then (false, s)
    else
      let passed := match s.cycDue with | some (_, n, _) => n | none => 0
      let s := s.put F.INV_CYC_OPER_PERIOD_PERIOD c.cycle
      let s := s.putTime F.INV_CYC_OPER_BASE_SEC_SEC F.INV_CYC_OPER_BASE_NS_NS c.base
      let s := (s.put F.INV_CYC_STAT_CHG_PEND 0).evt F.INV_EVT_CYC_CHG_DONE
      let s := { s with inv := { s.inv with cycPend := none, cycBase := c.base } }
      if s.inv.cycNext.isSome then
        let k := ((s.now - c.tx) / (c.cycle : Int)).toNat
        let s := s.cycIssue (c.tx + k * c.cycle) (k + 1 + passed)
        (true, { s with inv := { s.inv with cycNext := some (c.tx + (k + 1) * c.cycle) } })
      else (false, s)

/-! ## Timed pins (R327 to R329) -/

/-- An output mode of a pin. -/
def tioOutputMode (m : Nat) : Bool := m == 4 || m == 5 || m == 6 || m == 7

/-- The enable check of R328. -/
def State.tioEnableOk (s : State) (i : Nat) : Bool :=
  let per := s.get F.INV_TIO_PER_PER i
  let w := s.get F.INV_TIO_WIDTH_WIDTH i
  match s.get F.INV_TIO_CFG_MODE i with
  | 5 => !(decide (1 ≤ per ∧ per ≤ 15)) && w != 0 && (per == 0 || decide (w < per))
  | 6 =>
    let p := s.get F.INV_CYC_OPER_PERIOD_PERIOD
    decide (s.get F.INV_TIO_T_NS_NS i < p) && decide (1 ≤ w ∧ w ≤ p)
  | _ => true

/-- The level a pin drives when it is not enabled: IDLE in an output mode, else nothing (R327). -/
def State.tioIdle (s : State) (i : Nat) : Option Bool :=
  if tioOutputMode (s.get F.INV_TIO_CFG_MODE i) then some (s.bit F.INV_TIO_CFG_IDLE i) else none

/-- Names of the timed pins. -/
def tioName (i : Nat) : String := "TIO" ++ toString i

/-- What a pin drives onto its ball: nothing while the outputs are stopped, in HOLD the level it is held at. -/
def State.tioBall (s : State) (i : Nat) : Option Bool :=
  let t := s.tio i
  if s.inv.fenced then none else match t.held with
    | some b => some b
    | none => t.out

/-- The level at a pin's ball follows what it drives. -/
def State.tioShow (s : State) (i : Nat) : State :=
  match s.tioBall i with
  | none => s
  | some b => if (s.tio i).level = b then s else (s.setTio i { s.tio i with level := b }).emit (.pin (tioName i) b)

/-- A pin's mode drives a level (or nothing). -/
def State.tioDrive (s : State) (i : Nat) (v : Option Bool) : State := (s.setTio i { s.tio i with out := v }).tioShow i

/-- The TIO outputs may drive again (R572). -/
def State.tioUnfence (s : State) : State :=
  if s.inv.fenced then (List.range 16).foldl State.tioShow { s with inv := { s.inv with fenced := false } } else s

/-- The TIO outputs are stopped. -/
def State.tioFence (s : State) : State := { s with inv := { s.inv with fenced := true } }

/-- HOLD begins (R422): every enabled output is driven at the level sensed at its ball. -/
def State.tioHold (s : State) : State :=
  (List.range 16).foldl (fun s i =>
    if s.bit F.INV_TIO_CFG_EN i && tioOutputMode (s.get F.INV_TIO_CFG_MODE i) then
      s.setTio i { s.tio i with held := some (s.tio i).level }
    else s) s

/-- HOLD ends: each pin's schedule resumes. -/
def State.tioResume (s : State) : State :=
  (List.range 16).foldl (fun s i => (s.setTio i { s.tio i with held := none }).tioShow i) s

/-- The schedules of the pins stand still: in HOLD (R422), and with their domain in PEWTER (R331). -/
def State.tioFrozen (s : State) (i : Nat) : Bool :=
  s.mode == modeHOLD || (s.mode == modePEWTER && s.tioDom i != 0)

/-- A pin falls at its scheduled time, unless another pulse begins no later. -/
def State.tioFall (s : State) (i : Nat) : State :=
  let t := s.tio i
  match t.fall with
  | some f => if f ≤ s.tioNow i ∧ t.rise.all (fun r => f < r) = true then (s.setTio i { t with fall := none }).tioDrive i (some false) else s
  | none => s

/-- A pin rises at its scheduled time, and falls WIDTH later; a periodic PULSE plans the next pulse. -/
def State.tioRise (s : State) (i : Nat) : State :=
  let t := s.tio i
  let now := s.tioNow i
  let per := s.get F.INV_TIO_PER_PER i
  match t.rise with
  | r :: rest =>
    if r ≤ now then
      let next := if s.get F.INV_TIO_CFG_MODE i = 5 ∧ per ≠ 0 then [max (r + per) (gridAtOrAfter r per (now + 1))] else rest
      (s.setTio i { t with rise := next, fall := some (r + s.get F.INV_TIO_WIDTH_WIDTH i) }).tioDrive i (some true)
    else s
  | [] => s

/-- The edges of a pin that are due at the present time: EDGE drives LEVEL from T on; a PULSE or CYCLE pin rises and falls at its
scheduled times (R327, R328). -/
def State.tioAct (s : State) (i : Nat) : State :=
  if !(s.bit F.INV_TIO_CFG_EN i) || s.tioFrozen i then s
  else match s.get F.INV_TIO_CFG_MODE i with
    | 4 => if s.tioT i ≤ s.tioNow i then s.tioDrive i (some (s.bit F.INV_TIO_CFG_LEVEL i)) else s
    | 5 | 6 => ((s.tioFall i).tioRise i).tioFall i
    | _ => s

/-- Take EN of a pin from 0 to 1 (R328). -/
def State.tioEnable (s : State) (i : Nat) : State :=
  if !(s.tioEnableOk i) then ((s.put F.INV_TIO_CFG_EN 0 i).evt F.INV_EVT_CFG_ERR).tioDrive i (s.tioIdle i)
  else
    let s := s.put F.INV_TIO_CFG_EN 1 i
    let now := s.tioNow i
    let t := s.tioT i
    let per := s.get F.INV_TIO_PER_PER i
    match s.get F.INV_TIO_CFG_MODE i with
    | 4 => (s.tioDrive i (s.tioIdle i)).tioAct i
    | 5 =>
      let first := if per = 0 then max t now else max t (gridAtOrAfter t per (now + 100))
      let s := s.tioDrive i (some false)
      (s.setTio i { s.tio i with start := t, rise := [first], fall := none }).tioAct i
    | 6 =>
      let s := s.tioDrive i (some false)
      s.setTio i { s.tio i with rise := [], fall := none }
    | 7 => s.tioDrive i (some (s.bit F.INV_TIO_CFG_LEVEL i))
    | _ => s.tioDrive i none

/-- Take EN of a pin to 0: an output mode drives IDLE, an input mode captures nothing (R327). -/
def State.tioDisable (s : State) (i : Nat) : State :=
  let s := s.put F.INV_TIO_CFG_EN 0 i
  let s := s.setTio i { s.tio i with rise := [], fall := none }
  s.tioDrive i (s.tioIdle i)

/-- A write of INV_TIOi_CFG: the RWE fields under R12, then EN (R327, R328). The fields have been stored by the caller; `en` is the
written EN and `was` the EN before the write. -/
def State.tioCtrl (s : State) (i : Nat) (en was : Bool) : State :=
  if en && !was then s.tioEnable i
  else if !en then s.tioDisable i
  else s

/-- An edge on an input pin (R329): captured into its queue, or lost to a full queue. -/
def State.tioCapture (s : State) (i : Nat) (rising : Bool) (sub : Nat) : State :=
  let s := s.setTio i { s.tio i with level := rising }
  let m := s.get F.INV_TIO_CFG_MODE i
  let d := s.tioDom i
  let wanted := (m == 1 && rising) || (m == 2 && !rising) || m == 3
  if s.bit F.INV_TIO_CFG_EN i && wanted && s.domRuns d then
    let t := s.tio i
    if t.queue.length < 4 then
      let at' := domRound (s.dom d) + sub
      let c : Capture := { sec := (at' / 1000000000).toNat % 2 ^ 48, ns := (at' % 1000000000).toNat, rising := rising,
                           gen := if (s.get F.INV_STAT_GEN).testBit d then 1 else 0 }
      (s.setTio i { t with queue := t.queue ++ [c] }).evt F.INV_EVT_TIO_CAP
    else (s.inc F.INV_TIO_STAT_OVF i).evt F.INV_EVT_TIO_OVF
  else s

/-- A read of INV_TIOi_CAP_NS (R329): the oldest capture, removed; its seconds and GEN move into CAP_SEC and STAT.GEN. -/
def State.tioCapRead (s : State) (i : Nat) : Word × State :=
  let t := s.tio i
  match t.queue with
  | [] => (0, s)
  | c :: rest =>
    let w := BitVec.ofNat 32 (2 ^ 31 + (if c.rising then 2 ^ 30 else 0) + c.ns)
    let s := s.setTio i { t with queue := rest }
    (w, (s.put F.INV_TIO_CAP_SEC_SEC c.sec i).put F.INV_TIO_STAT_GEN c.gen i)

/-! ## One-step insertion (R315 to R320) -/

/-- Nearest integer to n / d (d > 0), halves away from zero (R317). -/
def roundDiv (n : Int) (d : Nat) : Int :=
  if 0 ≤ n then (2 * n + d) / (2 * d) else - ((2 * (-n) + d) / (2 * d))

/-- The enabled entries of the domain map in order, with the numerator over 2^41 of the ratio each gives (R317). -/
def State.ptpRatios (s : State) : List (Nat × Int) :=
  ((List.range 4).filter (fun k => s.bit F.INV_PTP_DMAP_EN k)).map (fun k =>
    (s.get F.INV_PTP_DMAP_DNUM k, 2 ^ 41 + signed 32 (s.get F.INV_TD_RR_RRDEV (s.get F.INV_PTP_DMAP_TD k))))

/-- The ratio's numerator over 2^41 for a domainNumber (R317): the first entry that matches; no match gives exactly 1. -/
def ptpRatio (l : List (Nat × Int)) (dnum : Nat) : Int :=
  match l.find? (fun e => e.1 == dnum) with
  | some e => e.2
  | none => 2 ^ 41

/-- The correction field after an edit that adds `x` (R318). -/
def ptpCorrect (old : Nat) (x : Int) : Nat :=
  if old = 0x7FFFFFFFFFFFFFFF then old
  else
    let v := signed 64 old + x
    if 0x7FFFFFFFFFFFFFFF < v then 0x7FFFFFFFFFFFFFFF else (v % 2 ^ 64).toNat

/-- Sum of the 16-bit big-endian words of a byte string, an odd last byte taken as a high byte. -/
def sum16 : List Byte → Nat
  | [] => 0
  | [a] => a.toNat * 256
  | a :: b :: t => a.toNat * 256 + b.toNat + sum16 t

/-- One's-complement folding to 16 bits (0 stays 0, else 1 to 65535). -/
def fold16 (n : Nat) : Nat := if n = 0 then 0 else (n - 1) % 65535 + 1

/-- The UDP checksum after bytes of the datagram changed (RFC 1624), R319: ~(~HC + ~m + m'). -/
def udpFix (hc : Nat) (before after : List Byte) : Nat :=
  let inv := fun n => 65535 - n
  let c := inv (fold16 (inv hc + inv (fold16 (sum16 before)) + fold16 (sum16 after)) % 65536)
  if c = 0 then 65535 else c

/-- The frame's bytes (without FCS) after the transport has been kept valid for an edit from `old` to `new` (R319). -/
def ptpTransport (tr l4 : Nat) (old new : List Byte) : List Byte :=
  let udpLen := beAt new (l4 + 4) 2
  match tr with
  | 2 =>
    let hc := beAt old (l4 + 6) 2
    if hc = 0 then new
    else putBytes new (l4 + 6) (beBytes 2 (udpFix hc (bytesAt old l4 udpLen) (bytesAt new l4 udpLen)))
  | 3 =>
    -- the complement bytes at UDP length - 2 leave the datagram's one's-complement sum unchanged
    let at' := l4 + udpLen - 2
    let oddAt := (udpLen - 2) % 2 == 1
    let sOld := fold16 (sum16 (bytesAt old l4 udpLen))
    let cleared := putBytes new at' [0, 0]
    let sNew := fold16 (sum16 (bytesAt cleared l4 udpLen))
    let need := fold16 (sOld + (65535 - sNew))
    let v := if oddAt then need % 256 * 256 + need / 256 else need
    putBytes new at' (beBytes 2 v)
  | _ => new

/-- The outcome of a candidate at departure: edited bytes, or a skip with its reason (R320), or neither. -/
inductive PtpResult where
  | asIs
  | edited (bytes : List Byte)
  | skip (reason : Nat)
  deriving DecidableEq, Repr

/-- The residence of R316 in 2^-16 ns from a departure at `e` in 2^-16 ns and a 40-bit stamp, none where it is negative or 2^39 ns
or more (STEPPED). -/
def residence (e i : Nat) : Option Int :=
  let d := ((e : Int) - i * 65536) % 2 ^ 56
  if d < 2 ^ 55 then some d else none

/-- The edit of a candidate whose frame, without its FCS, is `b`, at the departure `x` (R315 to R320). Reasons are tried in the
order of R320's table; a host's offset beyond the frame's end is judged first, since no header can be read there (DEDUCED,
log entry 7). -/
def ptpEdit (c : PtpCand) (x : PtpCtx) (b : List Byte) : PtpResult :=
  let h := c.ptpOff
  let ver := beAt b (h + 1) 1 % 16
  let typ := beAt b h 1 % 16
  let two := (beAt b (h + 6) 1 / 2) % 2
  let last := match c.action with | .origin _ => 43 | _ => 15
  let udpLen := beAt b (c.l4Off + 4) 2
  let msgLen := beAt b (h + 2) 2
  if c.action = .none && !c.badReq then .asIs
  else if !c.forwarded && decide (b.length ≤ h) then .skip 4
  else if ver ≠ 2 then .skip 0
  else if c.forwarded && decide (3 < typ) then .asIs
  else if c.forwarded && two == 1 then .skip 1
  else if b.length ≤ h + last then .skip 2
  else if c.transport = 3 ∧ (udpLen < 8 + msgLen + 2 ∨ b.length < c.l4Off + udpLen) then .skip 3
  else if c.badReq then .skip 4
  else
    let old := beAt b (h + 8) 8
    let fin := fun (nb : List Byte) => PtpResult.edited (ptpTransport c.transport c.l4Off b nb)
    match c.action with
    | .none => .asIs
    | .origin _ =>
      let nb := putBytes b (h + 34) (beBytes 6 x.sec)
      let nb := putBytes nb (h + 40) (beBytes 4 x.ns)
      fin (putBytes nb (h + 8) (beBytes 8 (ptpCorrect old x.frac16)))
    | .turnaround arg =>
      match residence x.at16 arg with
      | none => .skip 5
      | some r => fin (putBytes b (h + 8) (beBytes 8 (ptpCorrect old r)))
    | .e2e =>
      match residence x.at16 c.stamp with
      | none => .skip 5
      | some r =>
        fin (putBytes b (h + 8) (beBytes 8 (ptpCorrect old (roundDiv (r * ptpRatio x.ratios (beAt b (h + 4) 1)) (2 ^ 41)))))
    | .p2p =>
      match residence x.at16 c.stamp with
      | none => .skip 5
      | some r =>
        let y := r + x.ldly
        fin (putBytes b (h + 8) (beBytes 8 (ptpCorrect old (roundDiv (y * ptpRatio x.ratios (beAt b (h + 4) 1)) (2 ^ 41)))))

/-- A skip is counted by reason and sets PTP_SKIP (R320). -/
def State.ptpSkip (s : State) (r : Nat) : State := (s.inc F.INV_PTP_SKIP_COUNT r).evt F.INV_EVT_PTP_SKIP

end Sys2Proof.Machine
end

