-- ==== Sys2Proof/Machine/EgsOps.lean ====
section
/-! DEFINITION. The egress schedulers (08_egress_scheduling.md): gate control lists and their position, the MAC hold, changes of a
list, shapers, weights and finish tags, and the launch calendars. -/

namespace Sys2Proof.Machine

/-! ## Speeds and lane times (R241, R242) -/

/-- Running speed in Mb/s of a PORT_STAT.SPEED_RES code. -/
def speedMbps (code : Nat) : Nat :=
  match code with
  | 0 => 10
  | 1 => 100
  | 2 => 1000
  | 3 => 2500
  | 4 => 5000
  | 5 => 10000
  | _ => 25000

/-- The running speed of a port, Mb/s. -/
def State.portMbps (s : State) (p : Nat) : Nat := speedMbps (s.get F.PORT_STAT_SPEED_RES p)

/-- Wire time of `b` bytes in ps (R242): 8b / r. -/
def wirePs (mbps b : Nat) : Nat := 8000000 * b / mbps

/-- The transmit delay that FEC adds, ps (R79). -/
def State.fecTxPs (s : State) (p : Nat) : Nat :=
  match s.get F.PORT_STAT_FEC_RES p with
  | 1 => 6400
  | 2 => 12800
  | _ => 0

/-- The receive delay that FEC adds, ps (R79). -/
def State.fecRxPs (s : State) (p : Nat) : Nat :=
  match s.get F.PORT_STAT_FEC_RES p, s.get F.PORT_STAT_SPEED_RES p with
  | 1, 6 => 94720
  | 1, _ => 217600
  | 2, _ => 230400
  | _, _ => 0

/-- D_sel of a port in ps (R241). -/
def State.dselPs (s : State) (p : Nat) : Nat :=
  (match s.get F.PORT_STAT_SPEED_RES p with
   | 6 => 20000
   | 5 => 22000
   | 4 => 30000
   | 3 => 38000
   | _ => 54000) + s.fecTxPs p

/-- The lane time, in ps, of a decision taken at this tick: now + D_sel (R242). -/
def State.lanePs (s : State) (p : Nat) : Int := s.nowPs + s.dselPs p

/-- The lane time in whole ns. -/
def State.laneNs (s : State) (p : Nat) : Int := s.lanePs p / 1000

/-! ## Position in a list (R249, R257, R281) -/

/-- The start offsets of the executed entries of a list, as pairs of index and offset: entries that would start at or after the
cycle's end are not executed (R249). -/
def listStarts (interval : Nat → Nat) (cyc : Nat) : Nat → Nat → Nat → List (Nat × Nat)
  | 0, _, _ => []
  | n + 1, i, off => if off < cyc then (i, off) :: listStarts interval cyc n (i + 1) (off + interval i) else []

/-- The entry in force at an offset into the cycle: the last one whose start is at or before it. -/
def entryAt (starts : List (Nat × Nat)) (x : Nat) : Nat :=
  starts.foldl (fun a e => if e.2 ≤ x then e.1 else a) 0

/-- Offset of a time in its cycle. -/
def cycleOffset (base : Int) (cyc : Nat) (t : Int) : Nat := if cyc = 0 then 0 else ((t - base) % (cyc : Int)).toNat

/-- The time at which the position is taken, for a list that ends at `tx`: within an extended last cycle the entry in force at its
end stays (R257). -/
def positionTime (base : Int) (cyc ext : Nat) (tx : Option Int) (t : Int) : Int :=
  match tx with
  | none => t
  | some tx =>
    let tk := tx - 1 - (cycleOffset base cyc (tx - 1) : Int)
    if cyc ≠ 0 ∧ tx - tk < ext ∧ tk ≤ t ∧ t < tx then tk - 1 else t

/-- The time from which on no entry of a list that ends at `tx` starts: the end of an extended cycle, else `tx` (R257). -/
def lastStart (base : Int) (cyc ext : Nat) (tx : Int) : Int :=
  let tk := tx - 1 - (cycleOffset base cyc (tx - 1) : Int)
  if cyc ≠ 0 ∧ tx - tk < ext then tk else tx

/-- The operative bank of a port. -/
def State.operBank (s : State) (p : Nat) : Tab GclEntry :=
  if s.get F.EGS_GATE_STAT_BANK p = 0 then (s.eg p).bank0 else (s.eg p).bank1

/-- Entry `i` of the operative list. -/
def State.operEntry (s : State) (p i : Nat) : GclEntry := tabGet {} (s.operBank p) i

/-- The administrative bank of a port. -/
def State.admBank (s : State) (p : Nat) : Tab GclEntry :=
  if s.get F.EGS_GATE_STAT_BANK p = 0 then (s.eg p).bank1 else (s.eg p).bank0

/-- The operative list of a port as it runs. -/
def State.operRun (s : State) (p : Nat) : GclRun :=
  { list := s.operBank p, base := (s.eg p).base, cycle := s.get F.EGS_GATE_OPER_CYCLE_CYCLE p,
    len := s.get F.EGS_GATE_OPER_LEN_LEN p, ext := (s.eg p).ext, tx := 0 }

/-- The list of a port in force at lane time `t`, with the times at which it begins and ends, where it does: the operative one; for
a time before the last change the one that this change replaced; from T_x of a pending change on the one that it installs (R242,
R256). -/
def State.runAt (s : State) (p : Nat) (t : Int) : Option Int × GclRun × Option Int :=
  let g := s.eg p
  let now : Option Int → Option Int × GclRun × Option Int := fun b => match g.pend with
    | none => (b, s.operRun p, none)
    | some c =>
      if c.tx ≤ t then (some c.tx, { list := s.admBank p, base := c.base, cycle := c.cycle, len := c.len, ext := c.ext, tx := 0 }, none)
      else (b, s.operRun p, some c.tx)
  match g.old with
  | none => now none
  | some o => if t < o.tx then (none, o, some o.tx) else now (some o.tx)

/-- The executed entries of a list. -/
def GclRun.starts (r : GclRun) : List (Nat × Nat) := listStarts (fun i => (tabGet {} r.list i).interval) r.cycle r.len 0 0

/-- The entries of a list that start in the cycle of `t`, the one before and the one after, in order, each with its start; `e` ends
the list. -/
def GclRun.around (r : GclRun) (e : Option Int) (t : Int) : List (Int × GclEntry) :=
  let start : Int := t - cycleOffset r.base r.cycle t
  let l := [start - r.cycle, start, start + r.cycle].flatMap (fun c => r.starts.map (fun x => (c + (x.2 : Int), tabGet {} r.list x.1)))
  match e with
  | none => l
  | some tx => l.filter (fun x => decide (x.1 < lastStart r.base r.cycle r.ext tx))

/-- The modes in which the gate control list runs (R37, R266); BRIDGE opens every gate. -/
def State.gatesRun (s : State) : Bool := s.mode != modeBRIDGE

/-- The index of the entry in force at lane time `t` (R249). -/
def State.gateEntry (s : State) (p : Nat) (t : Int) : Nat :=
  let x := s.runAt p t
  let r := x.2.1
  entryAt r.starts (cycleOffset r.base r.cycle (positionTime r.base r.cycle r.ext x.2.2 t))

/-- The entry in force at lane time `t`; none without a list. -/
def State.gateInForce (s : State) (p : Nat) (t : Int) : Option GclEntry :=
  if (s.runAt p t).2.1.len = 0 then none else some (tabGet {} (s.runAt p t).2.1.list (s.gateEntry p t))

/-- Gate states in force at lane time `t`: the list's, ADM_GATES without a list, all open with GATE_EN = 0 or in BRIDGE
(R37, R249, R252). -/
def State.gatesAt (s : State) (p : Nat) (t : Int) : Nat :=
  if !(s.gatesRun) || !(s.bit F.EGS_GATE_CFG_GATE_EN p) then 0xFF
  else match s.gateInForce p t with
    | none => s.get F.EGS_GATE_CFG_ADM_GATES p
    | some e => e.gates

/-- The next lane time after `t` at which the gate of queue `q` is closed, if it closes at all: the starts of the entries that
follow, and from T_x of a pending change on those of the list that it installs (R251; DEDUCED, log entry 106). -/
def State.nextClose (s : State) (p q : Nat) (t : Int) : Option Int :=
  if !(s.gatesRun) || !(s.bit F.EGS_GATE_CFG_GATE_EN p) then none
  else
    let x := s.runAt p t
    let cands := (x.2.1.around x.2.2 t).filter (fun e => decide (t < e.1))
    let next := match x.2.2 with
      | none => []
      | some tx => ((s.runAt p tx).2.1.around (s.runAt p tx).2.2 tx).filter (fun e => decide (tx ≤ e.1))
    ((cands ++ next).find? (fun e => !(e.2.gates.testBit q))).map (fun e => e.1)

/-! ## The MAC hold (R253) -/

/-- The latest start, at or before `t`, of an executed entry with operation `op` (R253), in the list in force at `t` or in the one
before it (DEDUCED, log entry 106). -/
def State.lastOp (s : State) (p op : Nat) (t : Int) : Option Int :=
  let x := s.runAt p t
  let at' : Option Int × GclRun × Option Int → Int → Option Int := fun x t =>
    (((x.2.1.around x.2.2 t).filter (fun e => decide (e.1 ≤ t) && e.2.op == op
      && (match x.1 with | some b => decide (b ≤ e.1) | none => true))).getLast?).map (fun e => e.1)
  match at' x t, x.1 with
  | some a, _ => some a
  | none, some b => at' (s.runAt p (b - 1)) (b - 1)
  | none, none => none

/-- The latest start of an executed entry with operation `op` whose advanced time has come by lane time `t`: a new advance `v` applies to the
events whose advanced time falls after its write, the value before it to the others (R266). -/
def State.lastAdvanced (s : State) (p op v : Nat) (t : Int) : List (Int × Nat) → Option Int
  | [] => s.lastOp p op (t + v)
  | (w, v0) :: rest =>
    if t < w then s.lastAdvanced p op v0 t rest
    else
      let m : Int := w + (max v v0 : Nat)
      match (s.lastOp p op (t + v)).filter (fun a => decide (m < a)) with
      | some a => some a
      | none => s.lastAdvanced p op v0 (min t (m - v0)) rest

/-- The advanced time of an event at lane time `a` (R266). -/
def advancedTime (a : Int) (v : Nat) : List (Int × Nat) → Int
  | [] => a - v
  | (w, v0) :: rest =>
    let old := advancedTime a v0 rest
    if w < a - v ∧ w < old then a - v else old

/-- The list's hold state at lane time `t` (R253): of the entries whose advanced time has come, the last in list order decides. -/
def State.listHold (s : State) (p : Nat) (t : Int) : Bool :=
  if !(s.gatesRun) || !(s.bit F.EGS_GATE_CFG_GATE_EN p) then false
  else
    let h := s.lastAdvanced p 1 (s.get F.EGS_HOLD_ADV_HOLD_ADV p) t (s.eg p).holdAdv
    let r := s.lastAdvanced p 2 (s.get F.EGS_HOLD_ADV_REL_ADV p) t (s.eg p).relAdv
    match h, r with
    | some a, some b => decide (b < a)
    | some _, none => true
    | none, _ => false

/-- A write of EGS_HOLD_ADV is about to be made (R266): the values before it are kept for as long as an event may fall under them. -/
def State.holdAdvNote (s : State) (p : Nat) : State :=
  let w := s.laneNs p
  let keep := fun (l : List (Int × Nat)) => l.filter (fun e => decide (w < e.1 + 65536))
  let x := s.eg p
  s.setEg p { x with holdAdv := (w, s.get F.EGS_HOLD_ADV_HOLD_ADV p) :: keep x.holdAdv,
                     relAdv := (w, s.get F.EGS_HOLD_ADV_REL_ADV p) :: keep x.relAdv }

/-- The armed entry of a calendar: the earliest (R261). -/
def State.armed (s : State) (p : Nat) : Option CalEntry := (s.eg p).cal.head?

/-- A launch time as a full time: the one nearest to the present. -/
def State.launchNs (s : State) (lt : Nat) : Int :=
  let d := ((lt : Int) - s.now) % 2 ^ 40
  s.now + (if d < 2 ^ 39 then d else d - 2 ^ 40)

/-- Queue `q` uses the express MAC (R88, R93): all do while preemption is not active. -/
def State.isExpress (s : State) (p q : Nat) : Bool :=
  !(s.bit F.PORT_MM_STAT_TX_ACTIVE p) || (s.get F.PORT_MM_CFG_EXPRESS p).testBit q

/-- The launch hold at lane time `t` (R261): from LT − HOLD_ADV until the armed entry starts. -/
def State.launchHold (s : State) (p : Nat) (t : Int) : Bool :=
  match s.armed p with
  | none => false
  | some e =>
    s.mode != modeBRIDGE && (s.eg p).lcHold && s.bit F.PORT_MM_STAT_TX_ACTIVE p && s.isExpress p e.queue
    && decide (advancedTime (s.launchNs e.lt) (s.get F.EGS_HOLD_ADV_HOLD_ADV p) (s.eg p).holdAdv ≤ t)

/-- The MAC hold that R253 asserts at lane time `t`. -/
def State.holdAt (s : State) (p : Nat) (t : Int) : Bool :=
  s.bit F.PORT_MM_STAT_TX_ACTIVE p && ((s.bit F.EGS_GATE_CFG_HOLD_EN p && s.listHold p t) || s.launchHold p t)

/-! ## Gate events -/

/-- The gate states and the entry in force are brought to the present lane time (R242, R249). -/
def State.gateUpdate (s : State) (p : Nat) : State :=
  let t := s.laneNs p
  let s := s.put F.EGS_GATE_STAT_OPER_GATES (s.gatesAt p t) p
  if s.get F.EGS_GATE_OPER_LEN_LEN p = 0 then s.put F.EGS_GATE_STAT_ENTRY 0 p
  else s.put F.EGS_GATE_STAT_ENTRY (s.gateEntry p t) p

/-! ## Changes of a list (R255 to R258) -/

/-- An entry that makes a list unacceptable (R255): INTERVAL below 8 or OP 3. -/
def badEntry (e : GclEntry) : Bool := decide (e.interval < 8) || e.op == 3

def State.gateRefuse (s : State) (p code : Nat) : State :=
  (s.put F.EGS_GATE_STAT_CHG_ERR code p).evt F.EGS_EVT_CFG_ERR p

/-- A write of EGS_GATE_CHG (R255, R256). -/
def State.gateChange (s : State) (p key : Nat) (go cancel : Bool) : State :=
  let pend := s.bit F.EGS_GATE_STAT_CHG_PEND p
  let len := s.get F.EGS_GATE_ADM_LEN_LEN p
  let cyc := s.get F.EGS_GATE_ADM_CYCLE_CYCLE p
  let ext := s.get F.EGS_GATE_ADM_EXT_EXT p
  let bns := s.get F.EGS_GATE_ADM_BASE_NS_NS p
  if key ≠ 0x5A ∨ go = cancel then s.gateRefuse p 6
  else if (go && pend) || (cancel && !pend) then s.gateRefuse p 5
  else if cancel then
    ((s.put F.EGS_GATE_STAT_CHG_PEND 0 p).setEg p { s.eg p with pend := none }).evt F.EGS_EVT_CHG_DONE p
  else if len = 0 ∨ 1024 < len then s.gateRefuse p 1
  else if (List.range len).any (fun i => badEntry (tabGet {} (s.admBank p) i)) then s.gateRefuse p 2
  else if cyc < 16 ∨ 1000000000 < cyc ∨ cyc < ext then s.gateRefuse p 3
  else if 1000000000 ≤ bns then s.gateRefuse p 4
  else
    let b := fullTime (s.dom 0) (s.get F.EGS_GATE_ADM_BASE_SEC_SEC p) bns
    let tx := changeTime s.now b cyc
    let s := (s.put F.EGS_GATE_STAT_CHG_PEND 1 p).put F.EGS_GATE_STAT_CHG_ERR 0 p
    let s := s.putTime F.EGS_GATE_CHG_SEC_SEC F.EGS_GATE_CHG_NS_NS tx p
    s.setEg p { s.eg p with pend := some { tx := tx, base := b, cycle := cyc, ext := ext, len := len } }

/-- TD0 reaches T_x, as a lane time (R242, R256): the banks swap and the OPER registers take the sampled values. -/
def State.gateChangeTime (s : State) (p : Nat) : State :=
  match (s.eg p).pend with
  | none => s
  | some c =>
    if s.laneNs p < c.tx then s
    else
      let o := { s.operRun p with tx := c.tx }
      let s := s.put F.EGS_GATE_STAT_BANK (1 - s.get F.EGS_GATE_STAT_BANK p) p
      let s := s.putTime F.EGS_GATE_OPER_BASE_SEC_SEC F.EGS_GATE_OPER_BASE_NS_NS c.base p
      let s := s.put F.EGS_GATE_OPER_CYCLE_CYCLE c.cycle p
      let s := s.put F.EGS_GATE_OPER_LEN_LEN c.len p
      let s := s.put F.EGS_GATE_STAT_CHG_PEND 0 p
      let s := s.setEg p { s.eg p with pend := none, base := c.base, ext := c.ext, old := some o }
      (s.evt F.EGS_EVT_CHG_DONE p).gateUpdate p

/-- IDX advances after a D1 access when AUTOINC is set, wrapping from 1,023 to 0 (R268). -/
def State.gclAdvance (s : State) (p : Nat) : State :=
  if s.bit F.EGS_GCL_IDX_AUTOINC p then s.put F.EGS_GCL_IDX_IDX (s.get F.EGS_GCL_IDX_IDX p + 1) p else s

/-- A write of EGS_GCL_D1 (R258, R268): OP, GATES and the held INTERVAL go into entry IDX of the administrative bank. -/
def State.gclWrite (s : State) (p : Nat) (w : Word) : State :=
  if s.get F.EGS_GCL_IDX_BANK p = 1 ∨ s.bit F.EGS_GATE_STAT_CHG_PEND p = true then s.evt F.EGS_EVT_CFG_ERR p
  else
    let e : GclEntry := { interval := (s.eg p).d0.toNat, gates := getBits w 7 0, op := getBits w 31 30 }
    let i := s.get F.EGS_GCL_IDX_IDX p
    let g := s.eg p
    let s := if s.get F.EGS_GATE_STAT_BANK p = 0 then s.setEg p { g with bank1 := tabSet {} g.bank1 i e }
      else s.setEg p { g with bank0 := tabSet {} g.bank0 i e }
    s.gclAdvance p

/-- The entry that EGS_GCL_D0 and D1 show (R268). -/
def State.gclEntry (s : State) (p : Nat) : GclEntry :=
  tabGet {} (if s.get F.EGS_GCL_IDX_BANK p = 1 then s.operBank p else s.admBank p) (s.get F.EGS_GCL_IDX_IDX p)

/-- EGS_GCL_D1 as it reads. -/
def gclD1 (e : GclEntry) : Word := BitVec.ofNat 32 (e.op * 2 ^ 30 + e.gates % 256)

/-! ## Shapers (R264, R265): tokens in 2^-24 byte -/

/-- BURST in 2^-24 byte. -/
def State.shpBurst (s : State) (p q : Nat) : Int := (s.get F.EGS_SHP_BURST_BURST p q : Int) * 2 ^ 24

/-- Tokens that one tick adds: RATE × 1,000 bytes/s × 2 ns = RATE × 2 × 10^-6 byte, in 2^-24 byte. -/
def shpPerTick (rate : Nat) : Int := (rate * 2 * 2 ^ 24 / 1000000 : Nat)

def State.tok (s : State) (p q : Nat) : Int := tabGet 0 (s.eg p).tok q
def State.setTok (s : State) (p q : Nat) (v : Int) : State := s.setEg p { s.eg p with tok := tabSet 0 (s.eg p).tok q v }

/-- One tick of one shaper: tokens accrue up to BURST while it is enabled. -/
def State.shpTick (s : State) (p q : Nat) : State :=
  if s.bit F.EGS_SHP_CFG_EN p q then
    s.setTok p q (min (s.tok p q + shpPerTick (s.get F.EGS_SHP_CFG_RATE p q)) (s.shpBurst p q))
  else s

/-- A frame of `l` bytes debits L + OVH, to no less than −16,063 bytes (R264). -/
def State.shpDebit (s : State) (p q l : Nat) : State :=
  if s.bit F.EGS_SHP_CFG_EN p q then
    s.setTok p q (max (s.tok p q - ((l + s.get F.EGS_OVERHEAD_OVH p : Nat) : Int) * 2 ^ 24) (-16063 * 2 ^ 24))
  else s

/-- A write of EGS_SHP_CFGq (R265). -/
def State.shpCfg (s : State) (p q : Nat) (w : Word) : State :=
  let was := s.bit F.EGS_SHP_CFG_EN p q
  let en := getBits w 31 31 == 1
  let s := (s.put F.EGS_SHP_CFG_EN (getBits w 31 31) p q).put F.EGS_SHP_CFG_RATE (getBits w 23 0) p q
  if en && !was then s.setTok p q (s.shpBurst p q)
  else if en then s.setTok p q (min (s.tok p q) (s.shpBurst p q))
  else s

/-- A write of EGS_SHP_BURSTq (R265): the count is held to the new BURST at once. -/
def State.shpBurstWrite (s : State) (p q : Nat) (w : Word) : State :=
  let s := s.put F.EGS_SHP_BURST_BURST (getBits w 23 0) p q
  if s.bit F.EGS_SHP_CFG_EN p q then s.setTok p q (min (s.tok p q) (s.shpBurst p q)) else s

/-- The token count as EGS_SHP_TOKq reads: whole bytes, rounded toward zero (R264). -/
def State.tokWord (s : State) (p q : Nat) : Word := BitVec.ofInt 32 ((s.tok p q).tdiv (2 ^ 24))

/-! ## Weights and tags (R246 to R248) -/

/-- The weight of Qq in use, q = 0 to 4. -/
def State.weight (s : State) (p q : Nat) : Nat :=
  match q with
  | 0 => s.get F.EGS_WGT_ACT_A_W0 p
  | 1 => s.get F.EGS_WGT_ACT_A_W1 p
  | 2 => s.get F.EGS_WGT_ACT_B_W2 p
  | 3 => s.get F.EGS_WGT_ACT_B_W3 p
  | _ => s.get F.EGS_WGT_ACT_C_W4 p

/-- The configured weight of Qq. -/
def State.weightCfg (s : State) (p q : Nat) : Nat :=
  match q with
  | 0 => s.get F.EGS_WGT_A_W0 p
  | 1 => s.get F.EGS_WGT_A_W1 p
  | 2 => s.get F.EGS_WGT_B_W2 p
  | 3 => s.get F.EGS_WGT_B_W3 p
  | _ => s.get F.EGS_WGT_C_W4 p

/-- Set the weight in use. -/
def State.setWeight (s : State) (p q w : Nat) : State :=
  match q with
  | 0 => s.put F.EGS_WGT_ACT_A_W0 w p
  | 1 => s.put F.EGS_WGT_ACT_A_W1 w p
  | 2 => s.put F.EGS_WGT_ACT_B_W2 w p
  | 3 => s.put F.EGS_WGT_ACT_B_W3 w p
  | _ => s.put F.EGS_WGT_ACT_C_W4 w p

/-- The weights in use follow the configured ones in every mode except ADAPTIVE (R248). -/
def State.weightsFollow (s : State) (p : Nat) : State :=
  if s.mode = modeADAPTIVE then s
  else [0, 1, 2, 3, 4].foldl (fun s q => s.setWeight p q (s.weightCfg p q)) s

/-- C = ⌈(L + OVH) × 4,096 / w⌉ (R246). -/
def sfqCost (l ovh w : Nat) : Nat := ((l + ovh) * 4096 + w - 1) / w

/-- Tag `a` is smaller than tag `b` (R246). -/
def tagLt (a b : Nat) : Bool := decide (2 ^ 31 ≤ (a + 2 ^ 32 - b % 2 ^ 32) % 2 ^ 32)

/-- The larger of two tags. -/
def tagMax (a b : Nat) : Nat := if tagLt a b then b else a

/-! ## Launch calendars (R260 to R263) -/

/-- Insert an entry in order of launch time, behind the entries of equal time. -/
def calInsert (now : Int) (e : CalEntry) : List CalEntry → List CalEntry
  | [] => [e]
  | x :: t =>
    let key := fun (c : CalEntry) => ((c.lt : Int) - now + 2 ^ 39) % 2 ^ 40
    if key e < key x then e :: x :: t else x :: calInsert now e t

/-- Report the calendar in EGS_LC_STAT, and take the launch hold enable at an arming (R266). -/
def State.calReport (s : State) (p : Nat) (rearmed : Bool) : State :=
  let c := (s.eg p).cal
  let s := (s.put F.EGS_LC_STAT_OCC c.length p).put F.EGS_LC_STAT_ARMED (if c.isEmpty then 0 else 1) p
  if rearmed then s.setEg p { s.eg p with due := false, lcHold := s.bit F.EGS_LC_CFG_HOLD_EN p } else s

/-- What a producer hears of its insertion. -/
inductive CalResult where
  | accepted
  | full
  | tooFar
  deriving DecidableEq, Repr

/-- Insert a launch entry (R260): refused at 256 entries, or with LT more than 1 s ahead. -/
def State.calAdd (s : State) (p : Nat) (e : CalEntry) : CalResult × State :=
  let g := s.eg p
  if 256 ≤ g.cal.length then (.full, (s.inc F.EGS_LC_FULL_COUNT p).evt F.EGS_EVT_LC_FULL p)
  else if s.now + 1000000000 < s.launchNs e.lt then (.tooFar, s)
  else
    let cal := calInsert s.now e g.cal
    let rearmed := decide (cal.head? ≠ g.cal.head?)
    (.accepted, (s.setEg p { g with cal := cal }).calReport p rearmed)

/-- The armed entry is due at the present tick (R261); in BRIDGE at once (R263). -/
def State.launchIsDue (s : State) (p : Nat) : Bool :=
  match s.armed p with
  | none => false
  | some e => s.mode == modeBRIDGE || decide (s.launchNs e.lt * 1000 ≤ s.lanePs p)

/-- Remove the armed entry and arm the next. -/
def State.calPop (s : State) (p : Nat) : State :=
  (s.setEg p { s.eg p with cal := (s.eg p).cal.tail }).calReport p true

/-- The class of a queue or list (R208): 0 bulk, 1 sync, 2 control, 3 express. -/
def queueClass (q : Nat) : Nat := if q = 7 then 3 else if q = 6 then 2 else if q = 5 then 1 else 0

/-- Class of list `n` (R208). -/
def listClass (n : Nat) : Nat :=
  if n < 576 then queueClass (n % 8)
  else if n < 584 then queueClass (n - 576)
  else if 608 ≤ n then queueClass (n - 608)
  else 0

/-- The age limit of a class in ns (R228). -/
def State.ageLimit (s : State) (k : Nat) : Nat := s.get F.SWC_AGE_LIMIT_LIMIT k * 1000

/-- Round-robin bytes of guard length L_g + 20 (R251). -/
def State.guardPs (s : State) (p q lg : Nat) (tclose : Option Int) : Nat :=
  let short := !(s.isExpress p q) && s.bit F.PORT_MM_STAT_TX_ACTIVE p && decide (124 ≤ lg)
    && (match tclose with | some t => s.holdAt p t | none => false)
  wirePs (s.portMbps p) (if short then 84 else lg + 20)

/-- The gate of `q` is open at lane start `ls` (ps) and stays open for the guard time of a head of guard length `lg` (R244, R251). -/
def State.gateAdmits (s : State) (p q lg : Nat) (ls : Int) : Bool :=
  let t := ls / 1000
  if !((s.gatesAt p t).testBit q) then false
  else
    match s.nextClose p q t with
    | none => true
    | some tc => decide (ls + s.guardPs p q lg (some tc) ≤ tc * 1000)

end Sys2Proof.Machine
end

