-- ==== Sys2Proof/Machine/AdpOps.lean ====
section
/-! DEFINITION. The adaptive mode (13_adaptive_mode.md): histograms, the adaptation step, windows, entering and leaving. -/

namespace Sys2Proof.Machine

def State.setAdp (s : State) (a : AdpState) : State := { s with adp := a }

/-! ## Histograms (R384 to R386) -/

/-- The upper edge E_b of bin `b` in ns (R385). -/
def binEdge (b : Nat) : Nat := (if b % 2 = 0 then 256 else 384) * 2 ^ (b / 2)

/-- The bin of a latency (R385). -/
def binOf (lat : Nat) : Nat := ((List.range 31).find? (fun b => decide (lat < binEdge b))).getD 31

/-- Key of a bin. -/
def binKey (p q b : Nat) : Nat := (8 * p + q) * 32 + b

/-- The adaptation period in ns. -/
def State.adpPeriod (s : State) : Nat := max 1 (min 1000 (s.get F.GLB_ADP_CFG_PERIOD)) * 1000000

/-- The end of the period that runs: the first boundary of the T_a grid after the last one served (R387). -/
def State.adpEnd (s : State) (ta : Int) : Int := ta + ((s.adp.last - ta) / (s.adpPeriod : Int) + 1) * (s.adpPeriod : Int)

/-- One more copy in a bin; bins saturate. -/
def binAdd (h : Tab Nat) (k : Nat) : Tab Nat := tabSet 0 h k (min (tabGet 0 h k + 1) 0xFFFFFFFF)

/-- A copy's departure stamp has been fixed at `stamp` in TD0 ns (R384): it counts in the period that holds the stamp (R387). -/
def State.adpCount (s : State) (p q lat : Nat) (stamp : Int) : State :=
  match s.adp.ta with
  | none => s
  | some ta =>
    let k := binKey p q (binOf lat)
    if s.mode ≠ modeADAPTIVE ∨ stamp < ta then s
    else if stamp < s.adpEnd ta then s.setAdp { s.adp with hist := binAdd s.adp.hist k }
    else s.setAdp { s.adp with later := binAdd s.adp.later k }

/-- A bin of the snapshot that GLB_ADP_HBINb shows (R394). -/
def State.adpBin (s : State) (b : Nat) : Nat :=
  let p := s.get F.GLB_ADP_HSEL_PORT
  if 71 < p then 0 else tabGet 0 s.adp.snap (binKey p (s.get F.GLB_ADP_HSEL_QUEUE) b)

/-- The percentile of a histogram (R386): none where it is not valid. -/
def State.percentile (s : State) (p q : Nat) : Option Nat :=
  let c := fun b => tabGet 0 s.adp.snap (binKey p q b)
  let n := (List.range 32).foldl (fun a b => a + c b) 0
  if n < s.get F.GLB_ADP_STEP_MIN_SAMP then none
  else
    let need := (n * s.get F.GLB_ADP_CFG_PCTL + 999) / 1000
    (List.range 32).find? (fun b => decide (need ≤ (List.range (b + 1)).foldl (fun a i => a + c i) 0))

/-! ## Intervals (R389 to R391) -/

/-- Set the interval of an entry of the operative bank. -/
def State.setOperInterval (s : State) (p i ns : Nat) : State :=
  let e := { s.operEntry p i with interval := ns }
  let g := s.eg p
  if s.get F.EGS_GATE_STAT_BANK p = 0 then s.setEg p { g with bank0 := tabSet {} g.bank0 i e }
  else s.setEg p { g with bank1 := tabSet {} g.bank1 i e }

/-- The interval of an entry that a stay in ADAPTIVE is about to change for the first time is kept, to be restored (R391): nothing else
changes an operative interval, so it is the one recorded at entry, or at the last T_x under R390. -/
def State.keepInterval (s : State) (p i : Nat) : State :=
  let l := tabGet [] s.adp.kept p
  if l.any (fun e => e.1 == i) then s
  else s.setAdp { s.adp with kept := tabSet [] s.adp.kept p (l ++ [(i, (s.operEntry p i).interval)]) }

/-- Apply an interval change whose cycle start has come. -/
def State.winApply (s : State) (p : Nat) (w : WinChange) : State :=
  (((s.keepInterval p w.grow).keepInterval p w.give).setOperInterval p w.grow w.growNs).setOperInterval p w.give w.giveNs

/-- ADAPT_WINDOW_APPLY: the changes whose cycle start has come, in their order. -/
def State.adaptApply (s : State) (p : Nat) : State :=
  let due := (tabGet [] s.adp.win p).filter (fun w => decide (w.at_ ≤ s.laneNs p))
  let left := (tabGet [] s.adp.win p).filter (fun w => !decide (w.at_ ≤ s.laneNs p))
  due.foldl (fun s w => s.winApply p w) (s.setAdp { s.adp with win := tabSet [] s.adp.win p left })

/-- ADAPT_RESTORE_INTERVALS. -/
def State.adaptRestore (s : State) (p : Nat) : State :=
  match tabGet none s.adp.restore p with
  | none => s
  | some w =>
    if s.laneNs p < w.at_ then s
    else w.ents.foldl (fun s e => s.setOperInterval p e.1 e.2) (s.setAdp { s.adp with restore := tabSet none s.adp.restore p none })

/-- A change of a port's gate list has taken effect (R390): a waiting interval change is discarded, and the new list's intervals are
the ones to restore. -/
def State.adpListChanged (s : State) (p : Nat) : State :=
  s.setAdp { s.adp with win := tabSet [] s.adp.win p [], restore := tabSet none s.adp.restore p none, kept := tabSet [] s.adp.kept p [] }

/-! ## The step (R387 to R389) -/

/-- The target bin of a queue. -/
def State.adpTarget (s : State) (p q : Nat) : Nat :=
  if q < 6 then s.get F.GLB_ADP_TGT_A_TGT p / 2 ^ (5 * q) % 32 else s.get F.GLB_ADP_TGT_B_TGT p / 2 ^ (5 * (q - 6)) % 32

/-- WMIN of a queue, 0 taken as 1, and WMAX. -/
def State.adpWmin (s : State) (p q : Nat) : Nat :=
  max 1 (match q with
  | 0 => s.get F.GLB_ADP_WMIN_A_W0 p
  | 1 => s.get F.GLB_ADP_WMIN_A_W1 p
  | 2 => s.get F.GLB_ADP_WMIN_B_W2 p
  | 3 => s.get F.GLB_ADP_WMIN_B_W3 p
  | _ => s.get F.GLB_ADP_WMIN_C_W4 p)
def State.adpWmax (s : State) (p q : Nat) : Nat :=
  match q with
  | 0 => s.get F.GLB_ADP_WMAX_A_W0 p
  | 1 => s.get F.GLB_ADP_WMAX_A_W1 p
  | 2 => s.get F.GLB_ADP_WMAX_B_W2 p
  | 3 => s.get F.GLB_ADP_WMAX_B_W3 p
  | _ => s.get F.GLB_ADP_WMAX_C_W4 p

/-- What a step reports beside its results: WBOUND and CFG_ERR. -/
structure StepFlags where
  bound : Bool
  cfg : Bool
  deriving DecidableEq, Repr

/-- The weight rule for one queue (R388). -/
def State.adpWeight (s : State) (p q : Nat) (fl : StepFlags) : StepFlags × State :=
  let lo := s.adpWmin p q
  let hi := s.adpWmax p q
  if hi < lo then ({ fl with cfg := true }, s)
  else match s.percentile p q with
    | none => (fl, s)
    | some pc =>
      let w := max lo (min hi (s.weight p q))
      let st := max 1 (s.get F.GLB_ADP_STEP_WSTEP)
      let t := s.adpTarget p q
      if t < pc then ({ fl with bound := fl.bound || decide (hi < w + st) }, s.setWeight p q (min hi (w + st)))
      else if pc + 2 ≤ t then ({ fl with bound := fl.bound || decide (w < lo + st) }, s.setWeight p q (max lo (w - st)))
      else (fl, s.setWeight p q w)

/-- The first start of a gate cycle of a port at or after `t` (R249). -/
def State.gateCycleAt (s : State) (p : Nat) (t : Int) : Int := gridAtOrAfter (s.eg p).base (s.get F.EGS_GATE_OPER_CYCLE_CYCLE p) t

/-- The window rule for one port (R389). -/
def State.adpWindow (s : State) (p : Nat) (boundary : Int) (fl : StepFlags) : StepFlags × State :=
  let grow := s.get F.GLB_ADP_PCFG_GROW p
  let give := s.get F.GLB_ADP_PCFG_GIVE p
  let len := s.get F.EGS_GATE_OPER_LEN_LEN p
  let gmin := s.get F.GLB_ADP_GMIN_GMIN p
  let gmax := s.get F.GLB_ADP_GMAX_GMAX p
  if !(s.bit F.GLB_ADP_PCFG_WIN_EN p) then (fl, s)
  else if !(s.bit F.EGS_GATE_CFG_GATE_EN p) || len == 0 || s.bit F.EGS_GATE_STAT_CHG_PEND p || grow == give || decide (len ≤ grow)
      || decide (len ≤ give) || decide (gmax < gmin) then ({ fl with cfg := true }, s)
  else
    let wq := s.get F.GLB_ADP_PCFG_WQ p
    match s.percentile p wq with
    | none => (fl, s)
    | some pc =>
      let g : Int := (s.operEntry p grow).interval
      let v : Int := (s.operEntry p give).interval
      let st : Int := s.get F.GLB_ADP_WSTEP_NS_STEP
      let t := s.adpTarget p wq
      let d : Int := if t < pc then max 0 (min st (min (gmax - g) (v - 8)))
        else if pc + 2 ≤ t then -(max 0 (min st (g - gmin))) else 0
      let wanted := t < pc ∨ pc + 2 ≤ t
      let fl := { fl with bound := fl.bound || (decide wanted && decide (d.natAbs < st.natAbs)) }
      if d = 0 then (fl, s)
      else
        let w : WinChange := { at_ := s.gateCycleAt p (boundary + 2000), grow := grow, growNs := (g + d).toNat, give := give,
                               giveNs := (v - d).toNat }
        (fl, s.setAdp { s.adp with win := tabSet [] s.adp.win p (tabGet [] s.adp.win p ++ [w]) })

/-- The percentiles of a port in their registers (R387). -/
def State.adpShow (s : State) (p : Nat) : State :=
  let pc := fun q => (s.percentile p q).getD 0
  let s1 := s.put F.GLB_ADP_PCTL_A_PCTL ((List.range 6).foldl (fun a q => a + pc q * 2 ^ (5 * q)) 0) p
  let s2 := s1.put F.GLB_ADP_PCTL_B_PCTL (pc 6 + pc 7 * 32) p
  s2.put F.GLB_ADP_PCTL_B_VALID ((List.range 8).foldl (fun a q => if (s.percentile p q).isSome then a + 2 ^ q else a) 0) p

/-- One port's part of the step. An interval change of an earlier step whose cycle start has come holds already. -/
def State.adpPort (s : State) (p : Nat) (boundary : Int) (fl : StepFlags) : StepFlags × State :=
  if s.bit F.GLB_ADP_PCFG_EN p then
    let s := (s.adaptApply p).adpShow p
    let (fl, s) := (List.range 5).foldl (fun (a : StepFlags × State) q => a.2.adpWeight p q a.1) (fl, s)
    s.adpWindow p boundary fl
  else (fl, s)

/-- The latest boundary of the T_a grid that has been reached and not been served. -/
def State.adpBoundary (s : State) : Option Int :=
  match s.adp.ta with
  | none => none
  | some ta =>
    let per : Int := s.adpPeriod
    let k := (s.now - ta) / per
    let b := ta + k * per
    if 1 ≤ k ∧ s.adp.last < b then some b else none

/-- ADAPT_STEP (R387): snapshots, a new period, and the step for every enabled port. -/
def State.adaptStep (s : State) : State :=
  match s.adpBoundary with
  | none => s
  | some b =>
    if s.mode ≠ modeADAPTIVE then s
    else
      let s := s.setAdp { s.adp with snap := s.adp.hist, hist := s.adp.later, later := [], last := b }
      let (fl, s) := (List.range 72).foldl (fun (a : StepFlags × State) p => a.2.adpPort p b a.1) ({ bound := false, cfg := false }, s)
      let s := (s.inc F.GLB_ADP_STEPS_COUNT).evt F.GLB_ADP_EVT_STEP_DONE
      (s.evtIf fl.cfg F.GLB_ADP_EVT_CFG_ERR).evtIf fl.bound F.GLB_ADP_EVT_WBOUND

/-- After a backward step of TD0 the next boundary is the first on the grid after the new time (R387). -/
def State.adpRejudge (s : State) (before : Int) : State :=
  if s.now < before then s.setAdp { s.adp with last := min s.adp.last s.now } else s

/-! ## Entering and leaving (R391) -/

/-- Adaptation starts at `t`, with empty histograms. -/
def State.adpWake (s : State) (t : Int) : State := s.setAdp { s.adp with ta := some t, last := t, hist := [], later := [] }

/-- The switch point into ADAPTIVE at `t`: no interval has been changed yet. -/
def State.adpEnter (s : State) (t : Int) : State :=
  let s := (s.setAdp { s.adp with win := [], kept := [] }).adpWake t
  (List.range 72).foldl (fun s p =>
    if s.bit F.GLB_ADP_PCFG_EN p then
      [0, 1, 2, 3, 4].foldl (fun s q => s.setWeight p q (max (s.adpWmin p q) (min (s.adpWmax p q) (s.weightCfg p q)))) s
    else s) s

/-- The switch point out of ADAPTIVE at `t`; the mode has changed. -/
def State.adpLeave (s : State) (t : Int) : State :=
  let due := s.adp.kept.foldl (fun l e => tabSet none l e.1 (some { at_ := s.gateCycleAt e.1 t, ents := e.2 })) s.adp.restore
  let s := s.setAdp { s.adp with ta := none, hist := [], later := [], win := [], kept := [], restore := due }
  (List.range 72).foldl State.weightsFollow s

/-- The entry into PEWTER from ADAPTIVE: adaptation stops, and the stay changes neither weights nor intervals. -/
def State.adpPause (s : State) : State := s.setAdp { s.adp with ta := none, hist := [], later := [] }

end Sys2Proof.Machine
end

