-- ==== Sys2Proof/Machine/BpmOps.lean ====
section
/-! DEFINITION. The service SRAM (R383) and the buffer pools (16_dma_and_buffer_pools.md R487 to R494). -/

namespace Sys2Proof.Machine

/-! ## Service SRAM -/

def sramSize : Nat := 4194304

/-- A byte of the service SRAM; under BIST it reads as holding nothing (R58). -/
def State.sramByte (s : State) (a : Nat) : Byte :=
  if s.underTest 3 then 0
  else match tabFind? a s.sram with
    | some b => b
    | none => match s.sramLost with
      | none => 0
      | some n => Config.freeValue 8 (n + a)

/-- `n` bytes from address `a`; beyond the end of the memory nothing is read. -/
def State.sramBytes (s : State) (a n : Nat) : List Byte := (List.range (min n (sramSize - a))).map (fun i => s.sramByte (a + i))

/-- Set one byte. -/
def State.sramPut (s : State) (a : Nat) (b : Byte) : State :=
  match s.sramLost with
  | none => { s with sram := tabSet 0 s.sram a b }
  | some _ => { s with sram := tabInsert a b s.sram }

/-- Write bytes from address `a` on; bytes beyond the end are not written, and under BIST nothing is (R58). -/
def State.sramWrite (s : State) : Nat → List Byte → State
  | _, [] => s
  | a, b :: t => if sramSize ≤ a ∨ s.underTest 3 then s else (s.sramPut a b).sramWrite (a + 1) t

/-! ## Pools -/

def State.pool (s : State) (k : Nat) : Pool := tabGet {} s.pools k
def State.setPool (s : State) (k : Nat) (p : Pool) : State := { s with pools := tabSet {} s.pools k p }

/-- Buffer bytes of a pool (R487). -/
def poolBytes (k : Nat) : Nat :=
  match k with
  | 0 => 128
  | 1 => 256
  | 2 => 512
  | 3 => 1024
  | 4 => 2048
  | 5 => 4096
  | 6 => 9216
  | _ => 16384

/-- A pool placed in host memory. -/
def State.poolHost (s : State) (k : Nat) : Bool := s.bit F.BPM_POOL_CFG_PLACE k

def State.poolCount (s : State) (k : Nat) : Nat := s.get F.BPM_POOL_CFG_COUNT k

/-- BASE and RING of a pool. -/
def State.poolBase (s : State) (k : Nat) : Nat := s.get F.BPM_POOL_BASE_LO_ADDR k * 128 + 2 ^ 32 * s.get F.BPM_POOL_BASE_HI_ADDR k
def State.poolRing (s : State) (k : Nat) : Nat := s.get F.BPM_POOL_RING_LO_ADDR k * 4 + 2 ^ 32 * s.get F.BPM_POOL_RING_HI_ADDR k

/-- The handle of buffer `i` of pool `k`, and back (R488). -/
def handleOf (k i : Nat) : Nat := k * 2 ^ 21 + i
def handlePool (h : Nat) : Nat := h / 2 ^ 21 % 8
def handleIndex (h : Nat) : Nat := h % 2 ^ 21

/-- Where a buffer lies. -/
def State.bufAddr (s : State) (h : Nat) : Nat := s.poolBase (handlePool h) + handleIndex h * poolBytes (handlePool h)

/-- The bytes of a buffer in service SRAM, from its byte `o` on. -/
def State.bufBytes (s : State) (h o n : Nat) : List Byte := s.sramBytes (s.bufAddr h + o) n

/-- An address of the service SRAM lies in a pool placed there: in its buffers or in its free ring (R488). -/
def State.sramPooled (s : State) (a : Nat) : Bool :=
  (List.range 8).any (fun k => !s.poolHost k
    && (decide (s.poolBase k ≤ a ∧ a < s.poolBase k + s.poolCount k * poolBytes k)
      || decide (s.poolRing k ≤ a ∧ a < s.poolRing k + 4 * s.poolCount k)))

/-- FREE counts the buffers in the cache and the ring together, and LOW follows its lowest value (R489, R498). -/
def State.poolShow (s : State) (k : Nat) : State :=
  let p := s.pool k
  let free := p.cache.length + p.count
  let s := s.put F.BPM_POOL_FREE_FREE free k
  s.put F.BPM_POOL_LOW_LOW (min (s.get F.BPM_POOL_LOW_LOW k) free) k

/-- Replace a pool and report its count. -/
def State.poolSet (s : State) (k : Nat) (p : Pool) : State := (s.setPool k p).poolShow k

/-- A handle as a ring entry holds it (R489): 4 bytes, least significant first (DESIGN CHOICE, log entry 40). -/
def ringEntry (h : Nat) : List Byte := leBytes 4 (h % 2 ^ 24)

/-- Write the handles of buffers into the ring from place `pos` on: in service SRAM, or as writes to the host's memory. -/
def State.ringWrite (s : State) (k pos : Nat) (l : List Nat) : State :=
  let n := s.poolCount k
  (l.zipIdx).foldl (fun s e =>
    let a := s.poolRing k + 4 * ((pos + e.2) % n)
    if s.poolHost k then s.emit (.hostWrite (s.get F.BPM_CFG_HOST) a (ringEntry (handleOf k e.1)))
    else s.sramWrite a (ringEntry (handleOf k e.1))) s

/-- A pool in service SRAM is filled with every buffer free, in ascending handle order (R488, R571): the cache holds the first 16,
the ring the rest (DESIGN CHOICE, log entry 41). -/
def State.poolBuild (s : State) (k : Nat) : State :=
  let n := s.poolCount k
  if n = 0 ∨ s.poolHost k = true then s.setPool k {}
  else
    let c := min 16 n
    let rest := (List.range (n - c)).map (fun i => c + i)
    ((s.ringWrite k 0 rest).poolSet k { cache := List.range c, head := 0, count := n - c }).put F.BPM_POOL_LOW_LOW n k

/-- All pools of the service SRAM. -/
def State.poolsBuild (s : State) : State := (List.range 8).foldl State.poolBuild s

/-- A BIST of the service SRAM loses the free rings of its pools until the next reset episode (R58). -/
def State.poolsLost (s : State) : State :=
  (List.range 8).foldl (fun s k =>
    if s.poolCount k = 0 ∨ s.poolHost k = true then s
    else s.poolSet k { s.pool k with cache := [], count := 0, lost := true }) s

/-- DMA14 carries free-ring traffic: unless it is paused or stopped (DEDUCED, log entry 42). -/
def State.dma14Runs (s : State) : Bool :=
  let st := s.get F.DMA_CH_STAT_STATE 14
  st == 0 || st == 1

/-- The read requests for `n` bytes of host memory from `a` on: each of at most 512 bytes, none across a boundary of 4 KiB (R472). -/
def readParts : Nat → Nat → Nat → List (Nat × Nat)
  | 0, _, _ => []
  | k + 1, a, n =>
    if n = 0 then []
    else
      let m := min n (512 - a % 512)
      (a, m) :: readParts k (a + m) (n - m)

/-- Issue the read requests for `n` bytes of a host's memory from `a` on (R472). -/
def State.hostReads (s : State) (host a n : Nat) : State :=
  { s with out := s.out ++ (readParts n (a % 2 ^ 64) n).map (fun e => .hostRead host (e.1 % 2 ^ 64) e.2) }

/-- Read `n` items of `size` bytes of a ring in a host's memory, from place `pos` on: up to the ring's end, then from its start. -/
def State.ringReads (s : State) (host base size len pos n : Nat) : State :=
  let first := min n (len - pos)
  (s.hostReads host (base + size * pos) (size * first)).hostReads host base (size * (n - first))

/-- Refill the cache with up to 16 handles from its ring (R489). For a pool in host memory `data` is what the ring entries hold. -/
def State.cacheRefill (s : State) (k : Nat) (data : List Word) : State :=
  let p := s.pool k
  let n := min 16 p.count
  if p.cache.length < 8 ∧ 0 < n ∧ p.lost = false then
    if s.poolHost k then
      if s.dma14Runs ∧ data.length = n then
        let s := s.ringReads (s.get F.BPM_CFG_HOST) (s.poolRing k) 4 (s.poolCount k) p.head n
        s.poolSet k { p with cache := p.cache ++ data.map (fun w => handleIndex w.toNat), head := (p.head + n) % s.poolCount k,
                             count := p.count - n }
      else s
    else
      let l := (List.range n).map (fun i => handleIndex (leNat (s.sramBytes (s.poolRing k + 4 * ((p.head + i) % s.poolCount k)) 4)))
      s.poolSet k { p with cache := p.cache ++ l, head := (p.head + n) % s.poolCount k, count := p.count - n }
  else s

/-- Spill 16 handles from the cache to the ring (R489). -/
def State.spill (s : State) (k : Nat) : State :=
  let p := s.pool k
  let s := s.ringWrite k (p.head + p.count) (p.cache.take 16)
  s.poolSet k { p with cache := p.cache.drop 16, count := p.count + (p.cache.take 16).length }

/-! ## Requests (R490 to R493) -/

/-- An owner name of R490. -/
def nameOk (n : Nat) : Bool :=
  n == 1 || n == 2 || n == 0x10 || decide (0x20 ≤ n ∧ n < 0x30) || decide (0x40 ≤ n ∧ n < 0x40 + 72)

/-- Users of the pools (R487). -/
def userPDS : Nat := 0
def userDMA : Nat := 1
def userHOST : Nat := 2

/-- The pool that serves a request (R490): the smallest one open to the user, in the placement the user needs, that fits. -/
def State.servingPool (s : State) (size user : Nat) (place : Option Bool) : Option Nat :=
  (List.range 8).find? (fun k => s.poolCount k != 0 && s.bit F.BPM_POOL_CFG_EN k && (s.get F.BPM_POOL_CFG_USERS k).testBit user
    && (match place with | some b => s.poolHost k == b | none => true) && decide (size ≤ poolBytes k)
    && (user != userPDS || decide (k < 4)))

/-- Statuses of R494. -/
def bpmOK : Nat := 0
def bpmNO_POOL : Nat := 1
def bpmEMPTY : Nat := 2
def bpmBAD_ARG : Nat := 3
def bpmUNKNOWN : Nat := 4
def bpmDOUBLE : Nat := 5
def bpmNOT_OWNER : Nat := 6
def bpmOWNERS_FULL : Nat := 7
def bpmRETRY : Nat := 8

/-- The distinct names of a list (R490); 0 is no name. -/
def ownerList (names : List Nat) : List Nat := ((names.filter (fun n => n != 0)).reverse.foldl (fun (l : List Nat) n => if l.contains n then l else n :: l) [])

/-- Allocate a buffer (R490): the status, the handle, and the state. -/
def State.bpmAlloc (s : State) (size user : Nat) (place : Option Bool) (names : List Nat) : Nat × Nat × State :=
  match s.servingPool size user place with
  | none => (bpmNO_POOL, 0xFFFFFF, s.evt F.BPM_EVT_FAIL)
  | some k =>
    let p := s.pool k
    match p.cache with
    | i :: t =>
      if s.underTest 3 ∧ s.poolHost k = false then (bpmEMPTY, 0xFFFFFF, (s.inc F.BPM_POOL_FAIL_COUNT k).evt F.BPM_EVT_FAIL)
      else (bpmOK, handleOf k i, s.poolSet k { p with cache := t, alloc := tabInsert i (ownerList names) p.alloc })
    | [] => (bpmEMPTY, 0xFFFFFF, (s.inc F.BPM_POOL_FAIL_COUNT k).evt F.BPM_EVT_FAIL)

/-- A handle names no buffer of an open pool (R492). -/
def State.handleUnknown (s : State) (h : Nat) : Bool :=
  let k := handlePool h
  h == 0xFFFFFF || s.poolCount k == 0 || !(s.bit F.BPM_POOL_CFG_EN k) || decide (s.poolCount k ≤ handleIndex h)

/-- The owners of a buffer; none for a free one. -/
def State.owners (s : State) (h : Nat) : Option (List Nat) := tabFind? (handleIndex h) (s.pool (handlePool h)).alloc

/-- A RELEASE or ADD is rejected (R492). -/
def State.bpmReject (s : State) (kind req h : Nat) : State :=
  let first := !(s.bit F.BPM_ERR_VALID)
  let s := ((s.inc F.BPM_REJ_CNT_COUNT).evt F.BPM_EVT_REJECT).capture F.BPM_ERR_VALID F.BPM_ERR_MULTI
    (BitVec.ofNat 32 (kind * 2 ^ 28 + req))
  if first then s.put F.BPM_ERR_HANDLE_HANDLE h else s

/-- The case of R492 that rejects a handle for a requester, if any: its KIND. -/
def State.rejectKind (s : State) (h req : Nat) : Option Nat :=
  if s.handleUnknown h then some 1
  else match s.owners h with
    | none => some 2
    | some l => if l.contains req then none else some 3

/-- A buffer returns to its pool's cache. -/
def State.bufferBack (s : State) (h : Nat) : State :=
  let k := handlePool h
  let p := s.pool k
  s.poolSet k { p with alloc := tabErase (handleIndex h) p.alloc, cache := p.cache ++ (if p.lost then [] else [handleIndex h]) }

/-- Remove a name that is in the buffer's list. A full cache spills first: at once in service SRAM; for a pool in host memory the
release waits for DMA14, or a host's release meets RETRY while DMA14 is stopped (R493). The answer is the status, none while it
waits. -/
def State.dropName (s : State) (h req : Nat) : Option Nat × State :=
  let k := handlePool h
  let p := s.pool k
  match s.owners h with
  | none => (some bpmDOUBLE, s)
  | some l =>
    let l := l.filter (fun n => n != req)
    if !l.isEmpty then (some bpmOK, s.setPool k { p with alloc := tabInsert (handleIndex h) l p.alloc })
    else if p.cache.length < 32 then (some bpmOK, s.bufferBack h)
    else if s.poolHost k then
      if !s.dma14Runs ∧ (req = 1 ∨ req = 2) then (some bpmRETRY, s)
      else (none, s.setPool k { p with waits := p.waits ++ [(h, req)] })
    else (some bpmOK, (s.spill k).bufferBack h)

/-- RELEASE (R491, R492). -/
def State.bpmRelease (s : State) (h req : Nat) : Option Nat × State :=
  match s.rejectKind h req with
  | some kind => (some (kind + 3), s.bpmReject kind req h)
  | none => s.dropName h req

/-- ADD by a requester (R491, R492). -/
def State.bpmAdd (s : State) (h req name : Nat) : Nat × State :=
  match s.rejectKind h req with
  | some kind => (kind + 3, s.bpmReject kind req h)
  | none =>
    match s.owners h with
    | none => (bpmDOUBLE, s)
    | some l =>
      if l.contains name then (bpmOK, s)
      else if 4 ≤ l.length then (bpmOWNERS_FULL, s)
      else
        let k := handlePool h
        (bpmOK, s.setPool k { s.pool k with alloc := tabInsert (handleIndex h) (l ++ [name]) (s.pool k).alloc })

/-- A hardware holder releases its name (R491). -/
def State.hwRelease (s : State) (h req : Nat) : State := (s.bpmRelease h req).2

/-- A host command has ended with a status. -/
def State.bpmStatus (s : State) (host st : Nat) : State := (s.put F.BPM_CMD_STAT_STATUS st host).put F.BPM_CMD_STAT_BUSY 0 host

/-- The four names of a word, N0 first. -/
def wordNames (w : Word) : List Nat := [getBits w 7 0, getBits w 15 8, getBits w 23 16, getBits w 31 24]

/-- A host command (R494). It ends at once, but for a release that waits for a spill (R493). -/
def State.bpmCommand (s : State) (host op : Nat) : State :=
  let arg := s.get F.BPM_ARG_ARG host
  let names := wordNames (s.reg R.BPM_OWNERS host)
  let h := arg % 2 ^ 24
  let req := host + 1
  match op with
  | 1 =>
    if arg = 0 ∨ (ownerList names).isEmpty = true ∨ (ownerList names).all nameOk = false then
      (s.put F.BPM_RESULT_HANDLE 0xFFFFFF host).bpmStatus host bpmBAD_ARG
    else
      let (st, h, s) := s.bpmAlloc arg userHOST none names
      (s.put F.BPM_RESULT_HANDLE h host).bpmStatus host st
  | 2 =>
    match s.bpmRelease h req with
    | (some st, s) => s.bpmStatus host st
    | (none, s) => s.put F.BPM_CMD_STAT_BUSY 1 host
  | 3 =>
    let n := names.headD 0
    if !nameOk n then s.bpmStatus host bpmBAD_ARG
    else
      let (st, s) := s.bpmAdd h req n
      s.bpmStatus host st
  | 4 =>
    if s.handleUnknown h then s.bpmStatus host bpmUNKNOWN
    else
      let l := (s.owners h).getD []
      let w := (l.zipIdx).foldl (fun a e => a + e.1 * 2 ^ (8 * e.2)) 0
      (s.setReg R.BPM_OWNERS (BitVec.ofNat 32 w) host).bpmStatus host bpmOK
  | _ => s.bpmStatus host bpmBAD_ARG

/-- Releases that waited are made as the cache takes them (R493). -/
def State.waitsGo (s : State) (k : Nat) : Nat → State
  | 0 => s
  | n + 1 =>
    let p := s.pool k
    match p.waits with
    | [] => s
    | (h, req) :: t =>
      if 32 ≤ p.cache.length then s
      else
        let s := (s.setPool k { p with waits := t }).bufferBack h
        let s := if req = 1 ∨ req = 2 then s.bpmStatus (req - 1) bpmOK else s
        s.waitsGo k n

/-- CACHE_SPILL: a cache of more than 24 entries spills 16 (R489); for a pool in host memory through DMA14. -/
def State.cacheSpill (s : State) (k : Nat) : State :=
  if 24 < (s.pool k).cache.length ∧ (s.poolHost k = false ∨ s.dma14Runs = true) then
    (s.spill k).waitsGo k 16
  else s

/-- DMA14 has stopped: a host's release that waits completes with RETRY, and its name stays (R493). -/
def State.waitsRetry (s : State) : State :=
  (List.range 8).foldl (fun s k =>
    let p := s.pool k
    let mine := p.waits.filter (fun w => w.2 == 1 || w.2 == 2)
    let s := s.setPool k { p with waits := p.waits.filter (fun w => !(w.2 == 1 || w.2 == 2)) }
    mine.foldl (fun s w => s.bpmStatus (w.2 - 1) bpmRETRY) s) s

/-- Every name of host `h` is removed, as if it had released it (R491). -/
def State.bpmHostGone (s : State) (host : Nat) : State :=
  (List.range 8).foldl (fun s k =>
    ((s.pool k).alloc.filter (fun e => e.2.contains (host + 1))).foldl (fun s e =>
      match s.dropName (handleOf k e.1) (host + 1) with
      | (some 8, s) =>
        s.setPool k { s.pool k with waits := (s.pool k).waits ++ [(handleOf k e.1, 0)] }
      | (_, s) => s) s) s

/-- INIT of a pool in host memory (R488): ignored with PLACE = 0 or EN = 1. -/
def State.poolInit (s : State) (k : Nat) : State :=
  if s.poolHost k ∧ s.bit F.BPM_POOL_CFG_EN k = false ∧ s.poolCount k ≠ 0 then s.setPool k { s.pool k with init := true } else s

/-- The last free-ring write of an INIT is acknowledged (R488): the ring holds every handle, EN becomes 1. -/
def State.poolReady (s : State) (k : Nat) : State :=
  if (s.pool k).init ∧ s.dma14Runs = true then
    let n := s.poolCount k
    let s := s.ringWrite k 0 (List.range n)
    let s := s.poolSet k { count := n }
    (s.put F.BPM_POOL_CFG_EN 1 k).evt F.BPM_EVT_READY
  else s

end Sys2Proof.Machine
end

