-- ==== Sys2Proof/Machine/DigOps.lean ====
section
/-! DEFINITION. The twin's role, its cycle count, and the items of a digest (14_twin_lockstep.md R397, R402, R417). -/

namespace Sys2Proof.Machine

/-- Roles of TWN_STAT.ROLE (R428). -/
def roleOFF : Nat := 0
def rolePAIRING : Nat := 1
def roleSYNC : Nat := 2
def roleSHADOW : Nat := 3
def roleSTANDBY : Nat := 4
def roleACTIVE : Nat := 5
def roleSOLO : Nat := 6
def roleBAD : Nat := 7

/-- TWN_STAT.ROLE. -/
def State.role (s : State) : Nat := s.get F.TWN_STAT_ROLE

/-- The STANDBY of a pair: roles SYNC, SHADOW and STANDBY (R397). -/
def State.isStandby (s : State) : Bool := s.role == roleSYNC || s.role == roleSHADOW || s.role == roleSTANDBY

/-- The ACTIVE device: roles ACTIVE and SOLO (R397). -/
def State.isActive (s : State) : Bool := s.role == roleACTIVE || s.role == roleSOLO

/-- The role in which logged inputs alone enter the pipelines (R406). -/
def State.isLogged (s : State) : Bool := s.role == roleSHADOW || s.role == roleSTANDBY

/-- The twin cycle count (R402): five CCLK cycles in two TCLK ticks, from reset, moved by pairing (R405). -/
def State.tcc (s : State) : Nat := (((s.inv.ticks * 5 / 2 : Nat) : Int) + s.twn.tccOfs).toNat % 2 ^ 48

/-- Digests are formed in the roles that run the common core (R417). -/
def State.digests (s : State) : Bool := s.isLogged || s.isActive

/-- The pipeline that a port feeds (R23). -/
def pipeOf (p : Nat) : Nat := if p < 32 then 0 else if p < 64 then 1 else if p < 68 then 0 else if p < 72 then 1 else 0

/-- Items in the order of their cycle, those of one cycle by place (R417). -/
def insertItem (x : FixedItem) : List FixedItem → List FixedItem
  | [] => [x]
  | y :: t => if x.at_ < y.at_ ∨ (x.at_ = y.at_ ∧ x.place < y.place) then x :: y :: t else y :: insertItem x t

/-- An item becomes fixed in the present cycle. -/
def State.digestItem (s : State) (place : Nat) (i : DigItem) : State :=
  if s.digests then { s with twn := { s.twn with items := insertItem { at_ := s.tcc, place := place, item := i } s.twn.items } } else s

/-- The item of an input, with the drop code of stages 1 to 5: the inputs of one cycle are ordered by arrival cycle, pipeline and
port (R24, R417). -/
def State.digestAt (s : State) (k pipe : Nat) (f : Frame) (code : Nat) : State :=
  s.digestItem (f.tcc * 2 ^ 8 + pipe * 2 ^ 7 + f.src % 2 ^ 7) (.input k f.tcc (f.dec.dst % 2 ^ 74) f.dec.queue f.colour code f.epoch 0)

/-- An input's item enters the open digest: it is fixed when stage 5 completes, or at its drop by stages 1 to 5 (R417). -/
def State.digestInput (s : State) (k : Nat) (f : Frame) (code : Nat) : State :=
  if f.stage == .queued || f.stage == .parsing || f.stage == .parsed || f.stage == .looked || f.stage == .policed then
    s.digestAt k (pipeOf f.src) f code
  else s

/-- The number of the first ring sequence number that an input took at stage 6 stands in its item (R416, R417; log entry 30). -/
def State.digestSeq (s : State) (k seq : Nat) : State :=
  { s with twn := { s.twn with items := s.twn.items.map (fun x => match x.item with
    | .input j arr dst q col code ep 0 => if j = k then { x with item := .input j arr dst q col code ep seq } else x
    | _ => x) } }

/-- A frame that the PDS has built enters the open digest at its insertion, after the inputs of its cycle (R417). -/
def State.digestPds (s : State) (bytes : List Byte) (lt : Nat) : State := s.digestItem (2 ^ 60) (.pds bytes lt)

/-- The bytes of an item (R417). -/
def digItemBytes : DigItem → List Byte
  | .input _ arr dst q col code ep seq =>
    beBytes 20 ((arr % 2 ^ 32) * 2 ^ 128 + dst * 2 ^ 54 + q * 2 ^ 51 + col * 2 ^ 49 + code * 2 ^ 41 + ep * 2 ^ 25 + seq * 2 ^ 9)
  | .pds b lt => b ++ beBytes 5 lt

/-- The CRC-64 of ECMA-182 in its reflected form (R417). -/
def crc64 (l : List Byte) : BitVec 64 := ~~~ (crcBytes (0xC96C5795D7870F42 : BitVec 64) (0xFFFFFFFFFFFFFFFF : BitVec 64) l)

end Sys2Proof.Machine
end

