-- ==== Sys2Proof/Machine/SwcOps.lean ====
section
/-! DEFINITION. The switch core (07_switch_core.md): cells and their references, the write and read matching, lists, admission,
push-out, drops, mirror selection (17_capture_fifo.md R499 to R503), stomping, ageing and memory errors. -/

namespace Sys2Proof.Machine

/-! ## Counts (R210, R211) -/

/-- Cells that `n` bytes occupy (R202). -/
def cellsOf (n : Nat) : Nat := (n + 127) / 128

/-- Set O_n; S follows as the sum of max(0, O_n − RES_n) (R211). -/
def State.setOcc (s : State) (n v : Nat) : State :=
  let res := s.get F.SWC_QRES_RES n
  let old := s.get F.SWC_QOCC_CELLS n
  (s.put F.SWC_QOCC_CELLS v n).put F.SWC_SHARED_S (s.get F.SWC_SHARED_S + (v - res) - (old - res))

/-- O_n grows by `k` cells. -/
def State.addOcc (s : State) (n k : Nat) : State := s.setOcc n (s.get F.SWC_QOCC_CELLS n + k)

/-- O_n falls by `k` cells. -/
def State.subOcc (s : State) (n k : Nat) : State := s.setOcc n (s.get F.SWC_QOCC_CELLS n - k)

/-- The frame's stored length: the bytes received that may be written (R86). -/
def storedLen (f : Frame) : Nat := min f.rx.length f.cap

/-- The bytes stored. -/
def stored (f : Frame) : List Byte := f.rx.take f.cap

/-- The copies of a frame that are linked or in transmission. -/
def liveCount (f : Frame) : Nat := f.liveBy.foldl (· + ·) 0

/-- The class of list or copies changed by one. -/
def liveAdd (f : Frame) (cls : Nat) : Frame := { f with liveBy := f.liveBy.set cls ((f.liveBy[cls]?).getD 0 + 1) }
def liveSub (f : Frame) (cls : Nat) : Frame := { f with liveBy := f.liveBy.set cls ((f.liveBy[cls]?).getD 0 - 1) }

/-! ## Cells (R201 to R203) -/

/-- The cell of index `i`, where it belongs to frame `k`: an index that the frame once held may have been given out again. -/
def State.cellOf (s : State) (k i : Nat) : Option Cell := (s.cell i).bind (fun c => if c.fid = k then some c else none)

/-- Write a cell. -/
def State.setCell (s : State) (i : Nat) (c : Cell) : State :=
  { s with swc := { s.swc with cells := tabInsert i c s.swc.cells } }

/-- A cell of frame `k` returns to the free list of its bank (R203): F rises and the ingress occupancy of its source falls (R94). -/
def State.freeCell (s : State) (k i : Nat) : State :=
  match s.cellOf k i with
  | none => s
  | some c =>
    let s := { s with swc := { s.swc with cells := tabErase i s.swc.cells } }
    let s := s.put F.SWC_FREE_CELLS (s.get F.SWC_FREE_CELLS + 1)
    if c.counted ∧ c.src < 72 then
      (s.dec F.PORT_OCC_PORT_OCC c.src).dec F.PORT_OCC_PRI_OCC c.src c.pri
    else s

/-- One copy of frame `k` no longer reads a cell: REF falls, and the cell is freed at 0 (R203). -/
def State.unrefCell (s : State) (k i : Nat) : State :=
  match s.cellOf k i with
  | none => s
  | some c => if c.ref ≤ 1 then s.freeCell k i else s.setCell i { c with ref := c.ref - 1 }

/-- Set the REF of a cell of frame `k`. -/
def State.setRef (s : State) (k i r : Nat) : State :=
  match s.cellOf k i with
  | none => s
  | some c => s.setCell i { c with ref := r }

/-- One more copy of frame `k` reads a cell. -/
def State.addRef (s : State) (k i : Nat) : State :=
  match s.cellOf k i with
  | none => s
  | some c => s.setCell i { c with ref := c.ref + 1 }

/-- The head cell of a class, where it is written: the first written cell for the frame's lowest class, else an extra head cell
(R217). -/
def headCell (f : Frame) (cls : Nat) : Option Nat :=
  if cls = f.headCls then f.cells.head?
  else ((f.heads.find? (fun e => e.1 == cls)).bind (fun e => e.2))

/-- The cells of a copy in chain order, by place; none where the head cell is not written yet. -/
def chain (f : Frame) (cls : Nat) : List (Option Nat) := headCell f cls :: (f.cells.drop 1).map some

/-- The references of a copy that it has not read yet are released, in chain order (R203). -/
def State.releaseRefs (s : State) (f : Frame) (c : Copy) : State :=
  ((chain f c.cls).drop c.nread).foldl (fun s o => match o with | some i => s.unrefCell c.fid i | none => s) s

/-- A copy on its frame's own path: neither a mirror copy nor a TWIN copy (R34, R35). -/
def mainCopy (c : Copy) : Bool := c.mirror.isNone && !c.twin

/-- A frame that no copy holds any longer gives back what it took from F, once it may: at its last byte where it was dropped
before its copies were fixed (R20), at once where its last copy was removed (R225). A frame whose last byte has been received
leaves the device. -/
def State.settle (s : State) (k : Nat) : State :=
  match s.frame k with
  | none => s
  | some f =>
    if liveCount f = 0 ∧ (f.stage == .admitted || (f.stage == .gone && f.done && !f.fwd)) then
      let s := f.cells.foldl (fun s i => s.freeCell k i) s
      let s := f.heads.foldl (fun s e => match e.2 with
        | some i => s.freeCell k i
        | none => s.put F.SWC_FREE_CELLS (s.get F.SWC_FREE_CELLS + 1)) s
      let s := s.put F.SWC_FREE_CELLS (s.get F.SWC_FREE_CELLS + (f.begun - f.cells.length))
      if f.done then s.setFrame k none
      else s.setFrame k (some { f with stage := .gone, cap := 0, begun := 0, cells := [], heads := [] })
    else s

/-! ## Lists (R208 to R210) -/

/-- Link a copy at the tail of a list: O_n, D, the copies linked, and the frame's copies (R210, R212). -/
def State.linkCopy (s : State) (n : Nat) (c : Copy) (cells : Nat) : State :=
  let s := s.addOcc n cells
  let s := s.dec F.SWC_FREE_DESC_DESC
  let s := s.put F.SWC_QFRM_COPIES (s.get F.SWC_QFRM_COPIES n + 1) n
  let s := s.setList n (s.list n ++ [c])
  s.modFrame c.fid (fun f => liveAdd f c.cls)

/-- Unlink the copy at place `i` of a list; its cells stay in O_n and its descriptor returns. -/
def State.unlink (s : State) (n i : Nat) : State :=
  let s := s.setList n ((s.list n).eraseIdx i)
  let s := s.put F.SWC_FREE_DESC_DESC (s.get F.SWC_FREE_DESC_DESC + 1)
  s.put F.SWC_QFRM_COPIES (s.get F.SWC_QFRM_COPIES n - 1) n

/-- A copy that has left its list ends: O_n falls by its cells, its unread references are released, and its frame may settle. -/
def State.endCopy (s : State) (n : Nat) (c : Copy) : State :=
  match s.frame c.fid with
  | none => s
  | some f =>
    let s := s.subOcc n f.begun
    let s := s.releaseRefs f c
    let s := s.modFrame c.fid (fun f =>
      let f := liveSub f c.cls
      if liveCount f = 0 ∧ !f.done then { f with cap := min f.cap f.rx.length } else f)
    s.settle c.fid

/-- Remove the copy at place `i` of a list (R210). -/
def State.removeCopy (s : State) (n i : Nat) : State :=
  match (s.list n)[i]? with
  | none => s
  | some c => (s.unlink n i).endCopy n c

/-- Remove from a list every copy that satisfies `p`, one at a time; `k` bounds the number. -/
def State.removeWhere (s : State) (n : Nat) (p : Copy → Bool) : Nat → State
  | 0 => s
  | k + 1 =>
    match (s.list n).findIdx? p with
    | none => s
    | some i => (s.removeCopy n i).removeWhere n p k

/-- The lists that hold some copy. -/
def State.usedLists (s : State) : List Nat := s.swc.lists.map (fun e => e.1)

/-- Remove every linked copy of a frame that satisfies `p`. -/
def State.removeFrameCopies (s : State) (k : Nat) (p : Copy → Bool) : State :=
  s.usedLists.foldl (fun s n => s.removeWhere n (fun c => c.fid == k && p c) (s.list n).length) s

/-- The number of linked copies of a frame that satisfy `p`. -/
def State.countCopies (s : State) (k : Nat) (p : Copy → Bool) : Nat :=
  s.swc.lists.foldl (fun a e => a + (e.2.filter (fun c => c.fid == k && p c)).length) 0

/-- The transmissions of a port. -/
def laneTxs (ps : PortSt) : List Tx := ps.lanes.filterMap (fun e => e.2)

/-- The number of copies of a frame in transmission that satisfy `p`. -/
def State.countTx (s : State) (k : Nat) (p : Tx → Bool) : Nat :=
  s.ports.foldl (fun a e => a + ((laneTxs e.2).filter (fun x => x.entry.isNone && x.copy.fid == k && p x)).length) 0

/-- An exit has taken a copy of frame `k` before its last byte (R34, R35): where no other copy of its own is left, the exit has taken
the frame. -/
def State.exitTaken (s : State) (k code : Nat) : State :=
  if s.countCopies k mainCopy = 0 ∧ s.countTx k (fun _ => true) = 0 then
    s.modFrame k (fun f => if f.done ∨ f.drop ≠ 0 ∨ f.stage ≠ .admitted then f else { f with drop := code })
  else s

/-- A copy is removed from place `i` of a list by the exit of a code (R34). -/
def State.exitCopy (s : State) (n i code : Nat) : State :=
  match (s.list n)[i]? with
  | none => s
  | some c => (s.removeCopy n i).exitTaken c.fid code

/-! ## Mirror selection (R499 to R503) -/

/-- The bits of the 73 ports of a session. -/
def State.sessPorts (s : State) (k : Nat) : Nat :=
  s.get F.CFF_SESS_PORT_A_PORTS k + 2 ^ 32 * s.get F.CFF_SESS_PORT_B_PORTS k + 2 ^ 64 * s.get F.CFF_SESS_PORT_C_PORTS k

/-- Session `k` as its registers stand. -/
def State.session (s : State) (k : Nat) : Sess :=
  { num := k, drop := s.bit F.CFF_SESS_CFG_DROP_EN k, strm := s.bit F.CFF_SESS_CFG_STRM_EN k,
    list := s.get F.CFF_SESS_CFG_LIST k, qmask := s.get F.CFF_SESS_CFG_QMASK k, snap := s.get F.CFF_SESS_CFG_SNAP k,
    ports := s.sessPorts k, reason := s.get F.CFF_SESS_MATCH_REASON k, handle := s.get F.CFF_SESS_MATCH_HANDLE k }

/-- The active sessions of one direction. -/
def State.sessions (s : State) (egress : Bool) : List Sess :=
  ((List.range 16).filter (fun k => s.bit F.CFF_SESS_CFG_EN k && (s.bit F.CFF_SESS_CFG_DIR k == egress))).map s.session

/-- A session's criteria of port, queue and stream (R499). -/
def sessCriteria (x : Sess) (port queue : Nat) (hit : Bool) (handle : Nat) : Bool :=
  x.ports.testBit port && x.qmask.testBit queue && (!x.strm || (hit && handle == x.handle))

/-- The codes that a drop session may capture (R501). -/
def capturable (code : Nat) : Bool :=
  code == 0x01 || code == 0x08 || code == 0x09 || (decide (0x10 ≤ code) && decide (code ≤ 0x23))
    || code == 0x30 || code == 0x31 || code == 0x32 || code == 0x38

/-- The source port that sessions judge: 72 for a host frame (R499). -/
def mirrorSrc (f : Frame) : Nat :=
  match f.origin with
  | .hostSw _ => 72
  | .hostDir _ => 72
  | _ => f.src

/-- The mirror copy that a session takes of a frame. -/
def mirrorCopy (k : Nat) (f : Frame) (x : Sess) (cls : Nat) (egress : Bool) (port queue reason : Nat) : Nat × Copy :=
  (584 + x.list,
   { fid := k, cls := cls,
     mirror := some { session := x.num, egress := egress, snap := x.snap, port := port, queue := queue, reason := reason,
                      stamp := none, gen := f.gen, bytes := none } })

/-! ## Admission tests (R212) -/

/-- The colour limit L_n (R212); colour 0 green, 1 yellow, 2 red. -/
def State.colourLimit (s : State) (n colour : Nat) : Nat :=
  let l := s.get F.SWC_QLIM_LIMIT n
  if colour = 0 then l
  else if colour = 1 then l * (s.get F.SWC_QLIM_YFRAC n + 1) / 16
  else l * s.get F.SWC_QLIM_RFRAC n / 16

/-- The first failing test of R212 for a copy of `c` cells: 0, or the drop code and whether push-out is allowed. -/
def State.admitTest (s : State) (n c colour : Nat) : Nat × Bool :=
  let o := s.get F.SWC_QOCC_CELLS n
  let res := s.get F.SWC_QRES_RES n
  if s.colourLimit n colour < o + c then (0x30, false)
  else if s.get F.SWC_POOL_P < (o + c - res) - (o - res) + s.get F.SWC_SHARED_S then (0x31, true)
  else if s.get F.SWC_FREE_CELLS ≤ s.get F.SWC_HEADROOM_H then (0x31, true)
  else if s.get F.SWC_FREE_DESC_DESC = 0 then (0x32, true)
  else (0, false)

/-- A refusal at admission (R213): counted under its code; a mirror copy also counts for its session (R503). -/
def State.refuse (s : State) (c : Copy) (code : Nat) : State :=
  let s := (s.dropCount code).evt F.SWC_EVT_ADMIT
  match c.mirror with
  | some m => s.inc F.CFF_SESS_REFUSED_COUNT m.session
  | none => s

/-- The references of a copy linked to a frame whose copies are already fixed. -/
def State.addRefs (s : State) (k cls : Nat) : State :=
  match s.frame k with
  | none => s
  | some f => (chain f cls).foldl (fun s o => match o with | some i => s.addRef k i | none => s) s

/-- Admit a mirror copy outside the fixing of copies: a capture by drop reason (R501, R503). -/
def State.admitMirror (s : State) (n : Nat) (c : Copy) : State :=
  match s.frame c.fid with
  | none => s
  | some f =>
    match s.admitTest n f.begun f.colour with
    | (0, _) => ((s.linkCopy n c f.begun).addRefs c.fid c.cls).count 0x45 n
    | (code, _) => (s.refuse c code).count 0x46 n

/-- Sessions judge a drop of frame `k` under `code` (R499 to R501): a drop of a copy at stage 6 or of the frame before it. The
mirror copy uses the frame's first written cell as its head. -/
def State.captureDrop (s : State) (k code : Nat) : State :=
  match s.frame k with
  | none => s
  | some f =>
    if capturable code then
      let sel := f.cfg.sess.filter (fun x => x.drop && (x.reason == code || x.reason == 0xFF)
        && sessCriteria x (mirrorSrc f) f.dec.queue f.dec.hit f.dec.handle)
      sel.foldl (fun s x =>
        let (n, c) := mirrorCopy k f x f.headCls false (mirrorSrc f) f.dec.queue code
        s.admitMirror n c) s
    else s

/-- A frame is dropped before its copies are fixed (stages 1 to 5, R20, R34): one count, judged by the drop sessions; it writes
no further bytes unless a mirror copy or a TWIN copy still needs them. The cells of a frame that stage 6 will still give a TWIN copy
bear that copy's references from now on (R409). -/
def State.dropFrame (s : State) (k code : Nat) : State :=
  match s.frame k with
  | none => s
  | some f =>
    if f.stage == .gone then s
    else
      let s := if f.stage == .policed then s.dropCount code else (s.dropCount code).digestInput k f code
      let s := s.modFrame k (fun f => { f with stage := .gone, drop := code })
      let s := if f.fwd then s.addRefs k f.headCls else s
      let s := s.captureDrop k code
      let s := s.modFrame k (fun f =>
        if liveCount f = 0 ∧ !f.fwd then { f with cap := min f.cap f.rx.length } else f)
      s.settle k

/-- A dropped frame gets no TWIN copy after all: its cells no longer wait for one. -/
def State.dropHold (s : State) (k : Nat) : State :=
  match s.frame k with
  | none => s
  | some f =>
    let s := if f.stage = .gone ∧ f.fwd then s.releaseRefs f { fid := k, cls := f.headCls } else s
    s.modFrame k (fun f => { f with fwd := false, cap := if liveCount f = 0 then min f.cap f.rx.length else f.cap })

/-! ## Push-out (R224 to R226) -/

/-- Bulk occupancy of a port: O_n over its Q0 to Q4. -/
def State.bulkOcc (s : State) (p : Nat) : Nat :=
  (List.range 5).foldl (fun a q => a + s.get F.SWC_QOCC_CELLS (8 * p + q)) 0

/-- The port of largest bulk occupancy, the lower number first among equals. -/
def State.largestBulk (s : State) : Nat :=
  (List.range 72).foldl (fun b p => if s.bulkOcc b < s.bulkOcc p then p else b) 0

/-- The victim list for an arrival at list `n` (R224), if any. -/
def State.victimList (s : State) (n : Nat) : Option Nat :=
  let p := n / 8
  let q := n % 8
  match (List.range q).find? (fun j => !(s.list (8 * p + j)).isEmpty) with
  | some j => some (8 * p + j)
  | none =>
    let w := s.largestBulk
    ((List.range 5).find? (fun j => !(s.list (8 * w + j)).isEmpty)).map (fun j => 8 * w + j)

/-- An arrival at list `n` may push out (R224): a network list of Q5 to Q7 whose class is enabled. -/
def State.pushes (s : State) (n : Nat) : Bool :=
  decide (n < 576) && decide (5 ≤ n % 8) && (s.get F.SWC_PO_CFG_EN).testBit (n % 8 - 5)

/-- Evict the tail copy of a list (R226). -/
def State.evict (s : State) (v : Nat) : State :=
  match (s.list v).getLast? with
  | none => s
  | some c =>
    let s := ((s.dropCount 0x38).inc F.SWC_PO_CNT_COUNT).evt F.SWC_EVT_PUSHOUT
    let s := s.captureDrop c.fid 0x38
    s.exitCopy v ((s.list v).length - 1) 0x38

/-- Test a copy, evicting at most `m` victims (R213, R226): 0 if admitted, else the code of the last failed test. -/
def State.admitLoop (s : State) (n c colour : Nat) : Nat → Nat × State
  | 0 => ((s.admitTest n c colour).1, s)
  | m + 1 =>
    match s.admitTest n c colour with
    | (0, _) => (0, s)
    | (code, po) =>
      if po && s.pushes n then
        match s.victimList n with
        | none => (code, s)
        | some v => (s.evict v).admitLoop n c colour m
      else (code, s)

/-! ## Copies and head cells (R217, R218) -/

/-- The edit record of a class (R218). -/
def editRec (f : Frame) (cls : Nat) : EditRec :=
  { cls := cls, routed := cls == 0 && f.dec.routed,
    untag := cls == 1 || (cls == 0 && f.dec.routed && decide ((f.dec.dst &&& f.dec.untag) % 2 ^ 72 ≠ 0)),
    vid := if f.dec.routed then f.dec.vid else 0, dmac := if f.dec.routed then f.dec.dmac else 0,
    handle := f.dec.handle, strm := f.dec.hit, cpuq := f.dec.cpuq,
    cause := if f.slow = 0 ∧ !f.bad then f.dec.cause else 0, slow := f.slow, err := f.flags,
    pdsIndex := f.dec.pdsIndex, pdsRole := f.dec.pdsRole,
    l3off := (f.prv.toNat >>> 170) % 64, l3t := (f.prv.toNat >>> 236) % 8 }

/-- The edit classes of a frame's copies beyond the lowest: each takes one extra head cell (R217). -/
def extraHeads (f : Frame) : List Nat := ((List.range 4).filter (fun c => (f.liveBy[c]?).getD 0 != 0)).drop 1

/-- Once a frame's copies are admitted: the lowest class present takes the first written cell as its head, every further class
one extra head cell taken from F, and the written cells take their references (R203, R217). -/
def State.fixHeads (s : State) (k : Nat) : State :=
  match s.frame k with
  | none => s
  | some f =>
    let low := ((List.range 4).find? (fun c => (f.liveBy[c]?).getD 0 != 0)).getD 0
    let extra := extraHeads f
    let f := { f with headCls := low, heads := extra.map (fun c => (c, none)), edits := (List.range 4).map (editRec f) }
    let s := s.setFrame k (some f)
    let s := s.dec F.SWC_FREE_CELLS 0 0 extra.length
    match f.cells with
    | [] => s
    | h :: t =>
      let s := s.setRef k h ((f.liveBy[low]?).getD 0)
      let s := match s.cellOf k h with
        | some c => s.setCell h { c with edit := some (editRec f low) }
        | none => s
      t.foldl (fun s i => s.setRef k i (liveCount f)) s

/-! ## Receiving bytes and running out of cells (R20, R212, R214) -/

/-- The transmissions of a port that carry a copy of frame `k` and are not cut short yet. -/
def txOf (t : Option Tx) (k : Nat) : Option Tx :=
  match t with
  | some x => if x.entry.isNone ∧ x.copy.fid = k ∧ x.cut.isNone then some x else none
  | none => none

/-- The transmission in place `k` of a port: 0 and 1 in progress on the express and the preemptable MAC, 2 and 3 about to start. -/
def State.txGet (s : State) (p k : Nat) : Option Tx := tabGet none (s.port p).lanes k

/-- Set the transmission in a place of a port. -/
def State.txSet (s : State) (p k : Nat) (x : Option Tx) : State :=
  let ps := s.port p
  s.setPort p { ps with lanes := tabSet none ps.lanes k x }

/-- The number of cells a frame occupies on a chain. -/
def chainLen (f : Frame) : Nat := f.begun

/-- Every cell of a copy has been read. -/
def allRead (f : Frame) (c : Copy) : Bool := f.done && decide (chainLen f ≤ c.nread)

/-- The cells that a copy in transmission has not read are released, and its list's O_n falls by the copy (R203, R210). -/
def State.txRelease (s : State) (x : Tx) : State :=
  match s.frame x.copy.fid with
  | none => s
  | some f => if allRead f x.copy then s else (s.subOcc x.list f.begun).releaseRefs f x.copy

/-- Cut short the transmission in progress in one MAC of a port: it ends after `n` bytes with a stomped FCS (R222, R223), and the lane is
free from that end on. A frame whose last reader it was writes no further bytes. -/
def State.stompTx (s : State) (p k n : Nat) (mem : Bool) : State :=
  match s.txGet p k with
  | none => s
  | some x =>
    if x.cut.isSome then s else
    let s := s.txRelease x
    let s := s.txSet p k (some { x with cut := some n, copy := { x.copy with nread := 1000 } })
    let s := if k = 2 ∨ k = 3 ∨ ((s.txGet p 2).isNone ∧ (s.txGet p 3).isNone) then s.setPort p { s.port p with laneFree := none } else s
    let s := s.modFrame x.copy.fid (fun f =>
      if liveCount f ≤ s.countTx x.copy.fid (fun y => y.cut.isSome) ∧ !f.done then { f with cap := min f.cap f.rx.length } else f)
    let s := s.portCnt p 35
    let s := s.inc (if mem then F.SWC_ECC_STOMP_COUNT else F.SWC_CT_STOMP_COUNT)
    s.evt F.SWC_EVT_STOMP

/-- Stomp every copy of a frame that is in transmission, after `n` good bytes (R222). -/
def State.stompFrame (s : State) (k n : Nat) (mem : Bool) : State :=
  (List.range 72).foldl (fun s p =>
    [0, 1, 2, 3].foldl (fun s i => if (txOf (s.txGet p i) k).isSome then s.stompTx p i n mem else s) s) s

/-- The lists whose O_n counts a copy of frame `k` in transmission (R210). -/
def State.txLists (s : State) (k : Nat) : List Nat :=
  s.ports.flatMap (fun e =>
    ((laneTxs e.2).filter (fun x => (txOf (some x) k).isSome)).map (fun x => x.list))
    ++ (s.twn.fwdTx.filter (fun e => match e.2 with | some c => c.fid == k | none => false)).map (fun e => e.1)

/-- A frame begins `c` further cells: each is taken from F and adds one cell to the O_n of each of its copies (R212). -/
def State.beginCells (s : State) (k c : Nat) : State :=
  let s := s.dec F.SWC_FREE_CELLS 0 0 c
  let s := s.modFrame k (fun f => { f with begun := f.begun + c })
  let s := (s.txLists k).foldl (fun s n => s.addOcc n c) s
  s.swc.lists.foldl (fun s e => s.addOcc e.1 (c * (e.2.filter (fun x => x.fid == k)).length)) s

/-- F is 0 where a frame must begin a cell (R214): it writes no further bytes, its copies that have not started are removed,
those in transmission end stomped, and the frame counts once. -/
def State.noCell (s : State) (k : Nat) : State :=
  let s := (s.dropCount 0x03).evt F.SWC_EVT_NO_CELL
  let s := s.modFrame k (fun f => { f with cap := min f.cap (128 * f.begun), drop := 0x03 })
  let n := match s.frame k with | some f => storedLen f | none => 0
  let s := s.stompFrame k n true
  let s := (s.removeFrameCopies k (fun _ => true)).dropHold k
  let s := s.modFrame k (fun f => if f.stage == .admitted ∧ liveCount f ≠ 0 then f else { f with stage := .gone })
  s.settle k

/-- The priority of a frame for the ingress occupancy (R94): the PCP of its outermost VLAN tag, else DEF_PRI. -/
def State.framePri (s : State) (port : Nat) (rx : List Byte) : Nat :=
  if 16 ≤ rx.length ∧ (beAt rx 12 2 = 0x8100 ∨ beAt rx 12 2 = 0x88A8) then beAt rx 14 1 / 32
  else s.get F.PORT_FC_CFG_DEF_PRI port

/-- Bytes of a frame are received (R20): they are kept, and the cells they begin are taken from F in that cycle. The MAC fixes the
priority at byte 18 (R94). -/
def State.takeBytes (s : State) (k : Nat) (b : List Byte) : State :=
  match s.frame k with
  | none => s
  | some f =>
    let rx := f.rx ++ b
    let pri := if f.origin == .net ∧ f.rx.length < 18 then s.framePri f.src rx else f.pri
    let f := { f with rx := rx, pri := pri }
    let s := s.setFrame k (some f)
    let need := cellsOf (storedLen f) - f.begun
    let free := s.get F.SWC_FREE_CELLS
    if need ≤ free then s.beginCells k need
    else (s.beginCells k free).noCell k

/-! ## The write and read matching (R204, R205) -/

/-- The channel number that marks a host frame delivered over Dvorfaza, which the Dvorfaza writer writes (R409). -/
def chTwin : Nat := 31

/-- The write group of a frame's writer (R204). -/
def writeGroup (f : Frame) : Nat :=
  match f.origin with
  | .net => if f.src < 64 then f.src / 4 else if f.src < 68 then 16 else 17
  | .hostSw c => if c = chTwin then 17 else 16
  | .hostDir c => if c = chTwin then 17 else 16
  | .twin => 17

/-- The member number of a writer within its group. -/
def writeMember (f : Frame) : Nat :=
  match f.origin with
  | .net => f.src % 4
  | _ => 4

/-- The cells of a frame that are complete: full cells, and the final partial one at the last byte (R205). -/
def completeCells (f : Frame) : Nat :=
  let n := storedLen f
  if f.done || decide (f.cap ≤ f.rx.length) then cellsOf n else n / 128

/-- A frame waits to write a cell: a cell of its chain, or an extra head cell (R217). -/
def writesCell (f : Frame) : Bool :=
  decide (f.cells.length < completeCells f ∧ f.cells.length < f.begun)
    || (!f.cells.isEmpty && f.heads.any (fun e => e.2.isNone))

/-- The oldest frame of member `m` of write group `g` that has a cell to write. -/
def State.memberFrame (s : State) (g m : Nat) : Option Nat :=
  (s.frames.find? (fun e => match e.2 with
    | some f => writeGroup f == g && writeMember f == m && writesCell f
    | none => false)).map (fun e => e.1)

/-- Row `r` of bank `b` is free: the cell is neither written nor withheld. -/
def State.rowFree (s : State) (b r : Nat) : Bool :=
  (s.cell (16 * r + b)).isNone && !s.swc.quar.contains (16 * r + b)

/-- The cell that bank `b` gives: its free row of lowest number (DESIGN CHOICE, log entry 8: the spec does not order a free
list). -/
def State.bankCell (s : State) (b : Nat) : Option Nat :=
  ((List.range 8192).find? (s.rowFree b)).map (fun r => 16 * r + b)

/-- Pointers of one kind of slot. -/
structure Slot where
  gptr : Tab Nat
  aptr : Tab Nat
  starved : Nat
  deriving DecidableEq, Repr

/-- The first number at or after `start`, wrapping at `n`, that satisfies `p`. -/
def rotFind (n start : Nat) (p : Nat → Bool) : Option Nat :=
  ((List.range n).map (fun i => (start + i) % n)).find? p

/-- The group that bank `b` grants among the groups that request it (R205): a STARVED one first, then an express request, then
any, each by the rotating grant pointer. -/
def grantOf (sl : Slot) (b : Nat) (req expr : Nat → Bool) : Option Nat :=
  let g0 := tabGet 0 sl.gptr b
  (rotFind 18 g0 (fun g => req g && sl.starved.testBit g)).orElse fun _ =>
    (rotFind 18 g0 (fun g => req g && expr g)).orElse fun _ => rotFind 18 g0 req

/-- One iteration: every unmatched bank grants, every unmatched group with a grant accepts one (R205). -/
def matchIter (sl : Slot) (req : Nat → Nat → Bool) (expr : Nat → Bool) (done : List (Nat × Nat)) : List (Nat × Nat) :=
  let gFree := fun g => done.all (fun m => m.1 != g)
  let bFree := fun b => done.all (fun m => m.2 != b)
  let grants := (List.range 16).filterMap (fun b =>
    if bFree b then (grantOf sl b (fun g => gFree g && req g b) expr).map (fun g => (g, b)) else none)
  (List.range 18).filterMap (fun g =>
    ((rotFind 16 (tabGet 0 sl.aptr g) (fun b => grants.contains (g, b)))).map (fun b => (g, b)))

/-- One slot of the central scheduler (R205): the matching, and the pointers after it. -/
def matchSlot (sl : Slot) (req : Nat → Nat → Bool) (expr : Nat → Bool) : List (Nat × Nat) × Slot :=
  let m1 := matchIter sl req expr []
  let sl' := m1.foldl (fun a m => { a with gptr := tabSet 0 a.gptr m.2 ((m.1 + 1) % 18), aptr := tabSet 0 a.aptr m.1 ((m.2 + 1) % 16) }) sl
  let m := m1 ++ matchIter sl' req expr m1
  let starved := (List.range 18).foldl (fun a g =>
    if (List.range 16).any (req g) && m.all (fun x => x.1 != g) then a + 2 ^ g else a) 0
  (m, { sl' with starved := starved })

/-! ## The write slot -/

/-- The member of group `g` on whose behalf it requests, in round robin among those with a cell to write. -/
def State.writeMemberOf (s : State) (g : Nat) : Option Nat :=
  rotFind 5 (tabGet 0 s.swc.rrW g) (fun m => (s.memberFrame g m).isSome)

/-- The copies that will still read a cell of frame `k` that is written now (R203): those of class `cls`, or all (none), without those
that have been cut short, and with the TWIN copy that a dropped frame still waits for. -/
def State.readers (s : State) (k : Nat) (f : Frame) (cls : Option Nat) : Nat :=
  let cut := s.countTx k (fun x => x.cut.isSome && cls.all (fun c => x.copy.cls == c))
  let all := match cls with | some c => (f.liveBy[c]?).getD 0 | none => liveCount f
  all - cut + (if f.stage = .gone ∧ f.fwd then 1 else 0)

/-- Cell `l` is followed by cell `i`. -/
def State.linkNext (s : State) (k l i : Nat) : State :=
  match s.cellOf k l with
  | some c => s.setCell l { c with next := some i }
  | none => s

/-- Write one cell of frame `k` into cell index `i` (R202, R203, R217, R218). The frame's second cell follows every head cell. -/
def State.writeCell (s : State) (k i : Nat) : State :=
  match s.frame k with
  | none => s
  | some f =>
    let j := f.cells.length
    let fixed := f.stage == .admitted
    if j < completeCells f ∧ j < f.begun then
      let data := ((stored f).drop (128 * j)).take 128
      let ref := s.readers k f (if j = 0 then some f.headCls else none)
      let ed := if j = 0 ∧ fixed then f.edits[f.headCls]? else none
      let net := f.origin == .net
      let s := s.setCell i { fid := k, data := data, ref := ref, edit := ed, src := f.src, pri := f.pri, counted := net }
      let s := match f.cells.getLast? with
        | some l => s.linkNext k l i
        | none => s
      let s := if j = 1 then f.heads.foldl (fun s e => match e.2 with | some h => s.linkNext k h i | none => s) s else s
      let s := s.setFrame k (some { f with cells := f.cells ++ [i] })
      if net then (s.inc F.PORT_OCC_PORT_OCC f.src).inc F.PORT_OCC_PRI_OCC f.src f.pri else s
    else
      match f.heads.find? (fun e => e.2.isNone) with
      | none => s
      | some (cls, _) =>
        let s := s.setCell i { fid := k, data := (stored f).take 128, next := f.cells[1]?, ref := s.readers k f (some cls),
                               edit := f.edits[cls]?, src := f.src, pri := f.pri, counted := false }
        s.setFrame k (some { f with heads := f.heads.map (fun e => if e.1 = cls then (cls, some i) else e) })

/-- A write slot (R205): groups are matched to banks with a free list, and each accepted group writes one cell. -/
def State.writeSlot (s : State) : State :=
  let want := fun g => (s.writeMemberOf g).isSome
  let bank := fun b => (s.bankCell b).isSome
  let sl : Slot := { gptr := s.swc.gptrW, aptr := s.swc.aptrW, starved := s.swc.starvedW }
  let (m, sl) := matchSlot sl (fun g b => want g && bank b) (fun _ => false)
  let picks := m.filterMap (fun x => (s.writeMemberOf x.1).map (fun mem => (x.1, mem, x.2)))
  let s := { s with swc := { s.swc with gptrW := sl.gptr, aptrW := sl.aptr, starvedW := sl.starved } }
  picks.foldl (fun s x =>
    let s1 := { s with swc := { s.swc with rrW := tabSet 0 s.swc.rrW x.1 ((x.2.1 + 1) % 5) } }
    match s.memberFrame x.1 x.2.1, s.bankCell x.2.2 with
    | some k, some i => s1.writeCell k i
    | _, _ => s1) s

/-! ## Expiry (R228) -/

/-- A copy has expired. -/
def State.expired (s : State) (n : Nat) (c : Copy) : Bool :=
  match s.frame c.fid with
  | some f => decide (s.ageLimit (listClass n) < s.age f.stamp)
  | none => false

/-- Discard the head of a list as expired (R228). -/
def State.ageDiscard (s : State) (n : Nat) : State :=
  let s := ((s.dropCount 0x40).inc F.SWC_AGE_CNT_COUNT (listClass n)).evt F.SWC_EVT_AGE
  s.exitCopy n 0 0x40

/-! ## The read slot (R203, R205, R207, R230 to R232) -/

/-- The place of the transmission whose cells a list's port reads: the first one that has cells to read. -/
def State.readPlace (s : State) (r : ReadReq) : Option Nat :=
  [0, 1, 2, 3].find? (fun k =>
    match s.txGet (r.list / 8) k with
    | some x => x.entry.isNone && x.list == r.list && x.cut.isNone
        && (match s.frame x.copy.fid with | some f => !allRead f x.copy | none => false)
    | none => false)

/-- The next cell of a copy in chain order, where it has been written. -/
def State.nextCell (s : State) (c : Copy) : Option Nat :=
  (s.frame c.fid).bind (fun f => ((chain f c.cls)[c.nread]?).join)

/-- The copy of a TWIN list that the Dvorfaza reader has taken and has not sent to its end (R210, R409). -/
def State.fwdTaken (s : State) (n : Nat) : Option Copy := tabGet none s.twn.fwdTx n

/-- Set it. -/
def State.setFwdTaken (s : State) (n : Nat) (c : Option Copy) : State :=
  { s with twn := { s.twn with fwdTx := tabSet none s.twn.fwdTx n c } }

/-- A list of the Dvorfaza reader (R208). -/
def twinList (n : Nat) : Bool := decide (576 ≤ n) && decide (n < 584)

/-- The place in its list of the copy that a request names which is for no transmission: the head; of a PDS list, the first of its
first eight copies that has a written cell to read (R207, R342). -/
def State.readIndex (s : State) (n : Nat) : Nat :=
  if n < 608 then 0
  else ((List.range 8).find? (fun i => match (s.list n)[i]? with | some c => (s.nextCell c).isSome | none => false)).getD 0

/-- The input of the TWIN copy at the head of a list is forwarded: its window segment has gone out (R408, R409). -/
def State.headForwarded (s : State) (n : Nat) : Bool :=
  match (s.list n).head? with
  | some c => (tabFind? c.fid s.twn.fidOf).isSome
  | none => false

/-- The copy that a read request names: a copy in transmission from the list, or one linked on it. The Dvorfaza reader takes a copy
of a list after it has sent the one before (DESIGN CHOICE, log entry 36). -/
def State.readCopy (s : State) (r : ReadReq) : Option Copy :=
  if r.onLane then
    (if twinList r.list then s.fwdTaken r.list
     else (s.readPlace r).bind (fun k => (s.txGet (r.list / 8) k).map (fun x => x.copy)))
  else if twinList r.list && ((s.fwdTaken r.list).isSome || !s.headForwarded r.list) then none
  else (s.list r.list)[s.readIndex r.list]?

/-- The bytes of a transmission that have left the lane, by its lane time. -/
def State.bytesOut (s : State) (p : Nat) (x : Tx) : Nat :=
  if x.started then x.sent + (((s.nowPs - x.startPs) * s.portMbps p / 8000000).toNat - 8) else 0

/-- The reader has room for the cell that a request asks for (R207): a head buffer holds the first cell alone, and a transmission has
its next read raised when two or fewer of its further cells remain buffered. -/
def State.readRoom (s : State) (r : ReadReq) (c : Copy) : Bool :=
  if 576 ≤ r.list then true
  else if r.onLane then
    match (s.readPlace r).bind (fun k => s.txGet (r.list / 8) k) with
    | some x => decide (c.nread ≤ 3 + s.bytesOut (r.list / 8) x / 128)
    | none => false
  else c.nread == 0

/-- The cell that a read request asks for: the copy's next cell, where it has been written and the reader has room for it. -/
def State.readCell (s : State) (r : ReadReq) : Option Nat :=
  match s.readCopy r with
  | none => none
  | some c => if s.readRoom r c then s.nextCell c else none

/-- The read group and member of a list (R204). -/
def readGroup (n : Nat) : Nat :=
  if n < 512 then n / 32
  else if n < 544 then 16 else if n < 576 then 17
  else if n < 584 then 17 else if n < 608 then 16 else 17
def readMember (n : Nat) : Nat :=
  if n < 576 then n / 8 % 4
  else if n < 584 then 5 else if n < 592 then 5 else 4

/-- A request is express: for Q7 of a network port (R205, R207). -/
def readExpress (n : Nat) : Bool := decide (n < 576) && n % 8 == 7

/-- The request that group `g` raises among those raised: an express member first, then round robin (R205). -/
def State.groupRead (s : State) (reqs : List ReadReq) (g : Nat) : Option ReadReq :=
  let mine := reqs.filter (fun r => readGroup r.list == g && (s.readCell r).isSome)
  let ex := mine.filter (fun r => readExpress r.list)
  let cand := if ex.isEmpty then mine else ex
  match rotFind 6 (tabGet 0 s.swc.rrR g) (fun m => cand.any (fun r => readMember r.list == m)) with
  | none => none
  | some m => cand.find? (fun r => readMember r.list == m)

/-- A copy whose last cell has been read leaves O_n (R210). -/
def State.readLast (s : State) (n : Nat) (c : Copy) : State :=
  match s.frame c.fid with
  | some f => if allRead f c then s.subOcc n f.begun else s
  | none => s

/-- A cell has been delivered to its reader: its REF falls, and a copy in transmission whose last cell was read leaves O_n; a copy
for the other twin leaves its list with its first cell (R203, R210). -/
def State.readDone (s : State) (r : ReadReq) (i : Nat) : State :=
  match s.readCopy r with
  | none => s
  | some c =>
    let c' := { c with nread := c.nread + 1 }
    let s := s.unrefCell c.fid i
    if twinList r.list then
      let s := if r.onLane then s else s.unlink r.list 0
      (s.setFwdTaken r.list (some c')).readLast r.list c'
    else if r.onLane then
      let k := (s.readPlace r).getD 0
      match s.txGet (r.list / 8) k with
      | none => s
      | some x => (s.txSet (r.list / 8) k (some { x with copy := c' })).readLast r.list c'
    else s.setList r.list ((s.list r.list).set (s.readIndex r.list) c')

/-- An uncorrectable error of cell `i` is reported (R231). -/
def State.eccReport (s : State) (i : Nat) : State :=
  let s := s.inc F.SWC_ECC_UNC_COUNT (i % 16)
  let s := s.capture F.SWC_ERR_VALID F.SWC_ERR_MULTI (BitVec.ofNat 32 i)
  s.evt F.SWC_EVT_ECC_UNC

/-- A copy that its transmission or its reader holds ends: its frame may settle. -/
def State.copyGone (s : State) (c : Copy) : State :=
  let s := s.modFrame c.fid (fun f =>
    let f := liveSub f c.cls
    if liveCount f = 0 ∧ !f.done then { f with cap := min f.cap f.rx.length } else f)
  s.settle c.fid

/-- The copy that the Dvorfaza reader has taken from list `n` ends before it is wholly read. -/
def State.fwdStop (s : State) (n : Nat) : State :=
  match s.fwdTaken n with
  | none => s
  | some c =>
    let s := match s.frame c.fid with
      | some f => if allRead f c then s else (s.subOcc n f.begun).releaseRefs f c
      | none => s
    (s.setFwdTaken n none).copyGone c

/-- An uncorrectable cell error met by one copy (R231). A copy in transmission to the other twin ends without its last segment
(DEDUCED, log entry 36). -/
def State.readBad (s : State) (r : ReadReq) (i : Nat) : State :=
  let s := s.eccReport i
  match s.readCopy r with
  | none => s
  | some c =>
    if r.onLane then
      (if twinList r.list then (s.inc F.SWC_ECC_STOMP_COUNT).fwdStop r.list
       else s.stompTx (r.list / 8) ((s.readPlace r).getD 0) (128 * c.nread) true)
    else (s.dropCount 0x41).exitCopy r.list (s.readIndex r.list) 0x41

/-- A read meets a new error in cell `i`: it stays in the cell, which is not rewritten before its next use (R230, R231). -/
def State.markEcc (s : State) (i e : Nat) : State :=
  match s.cell i with
  | some c => if c.ecc < e then s.setCell i { c with ecc := e } else s
  | none => s

/-- The error that a read of cell `i` meets. -/
def State.cellEcc (s : State) (i : Nat) : Nat := ((s.cell i).map (fun c => c.ecc)).getD 0

/-- One chosen request reads its cell. An expired copy at the head of a TWIN list is discarded where it would be taken (R228). -/
def State.readServe (s : State) (r : ReadReq) : State :=
  match s.readCell r with
  | none => s
  | some i =>
    let expired := twinList r.list && !r.onLane && (match (s.list r.list).head? with | some c => s.expired r.list c | none => false)
    if expired then s.ageDiscard r.list
    else
      let s := s.markEcc i r.ecc
      if s.cellEcc i = 2 then s.readBad r i
      else (if s.cellEcc i = 1 then s.inc F.SWC_ECC_CORR_COUNT (i % 16) else s).readDone r i

/-- A read slot (R205): the matched groups read one cell each. -/
def State.readSlot (s : State) (reqs : List ReadReq) : State :=
  let chosen := fun g => s.groupRead reqs g
  let req := fun g b => match chosen g with
    | some r => (s.readCell r).map (fun i => i % 16) == some b
    | none => false
  let expr := fun g => match chosen g with | some r => readExpress r.list | none => false
  let sl : Slot := { gptr := s.swc.gptrR, aptr := s.swc.aptrR, starved := s.swc.starvedR }
  let (m, sl) := matchSlot sl req expr
  let picks := m.filterMap (fun x => (chosen x.1).map (fun r => (x.1, r)))
  let s := { s with swc := { s.swc with gptrR := sl.gptr, aptrR := sl.aptr, starvedR := sl.starved } }
  picks.foldl (fun s x =>
    let s := { s with swc := { s.swc with rrR := tabSet 0 s.swc.rrR x.1 ((readMember x.2.list + 1) % 6) } }
    s.readServe x.2) s

/-- Withhold cells from the free lists (R232). -/
def State.quarantine (s : State) (cells : List Nat) : State :=
  let new := cells.filter (fun i => !s.swc.quar.contains i)
  let s := { s with swc := { s.swc with quar := s.swc.quar ++ new, cells := tabKeep (fun i => !new.contains i) s.swc.cells } }
  s.put F.SWC_QUAR_CELLS (s.get F.SWC_QUAR_CELLS + new.length)

/-- The cells that still bear a reference of a copy. -/
def State.unreadCells (s : State) (c : Copy) : List Nat :=
  match s.frame c.fid with
  | none => []
  | some f => ((chain f c.cls).drop c.nread).filterMap id

/-- The cells of a frame's chain from cell `i` on. -/
def State.chainFrom (s : State) (i : Nat) : List Nat :=
  match s.frames.find? (fun e => match e.2 with | some f => f.cells.contains i | none => false) with
  | some (_, some f) => f.cells.drop (f.cells.findIdx (· == i))
  | _ => if (s.cell i).isSome then [i] else []

/-- Copies whose descriptors cannot be reached any more: they are lost with the references they hold (R232). -/
def State.loseCopies (s : State) (cs : List Copy) : State :=
  cs.foldl (fun s c => (s.quarantine (s.unreadCells c)).copyGone c) s

/-- The cells of list `n` in transmission that still count in its O_n. -/
def State.txOcc (s : State) (n : Nat) : Nat :=
  let held := fun (c : Copy) => match s.frame c.fid with
    | some f => if allRead f c then 0 else f.begun
    | none => 0
  s.ports.foldl (fun a e =>
    (laneTxs e.2).foldl (fun a x => if x.entry.isNone ∧ x.list = n ∧ x.cut.isNone then a + held x.copy else a) a)
    (match s.fwdTaken n with | some c => held c | none => 0)

/-- A double-bit error of a control memory (R232): `mem` 1 link, 2 descriptor, 3 list state. The list is flushed, the first
`reach` copies can still be reached, and cells that cannot be trusted are withheld. -/
def State.controlError (s : State) (mem index n reach : Nat) : State :=
  let s := s.capture F.SWC_ERR_VALID F.SWC_ERR_MULTI (setBits (BitVec.ofNat 32 (index % 2 ^ 17)) 29 28 mem)
  let s := s.evt F.SWC_EVT_QUAR
  let s := if mem = 1 then s.quarantine (s.chainFrom index) else s
  let lost := (s.list n).drop reach
  let s := (List.range (min reach (s.list n).length)).foldl (fun s _ => (s.dropCount 0x41).exitCopy n 0 0x41) s
  let s := (s.setList n []).loseCopies lost
  (s.setOcc n (s.txOcc n)).put F.SWC_QFRM_COPIES 0 n

/-! ## Fixing and admitting a frame's copies (R212 to R221) -/

/-- Cut-through is disabled to port `p` (R220). -/
def State.ctDisabled (s : State) (p : Nat) : Bool :=
  if p < 32 then (s.get F.SWC_CT_DIS_A_DIS).testBit p
  else if p < 64 then (s.get F.SWC_CT_DIS_B_DIS).testBit (p - 32)
  else (s.get F.SWC_CT_DIS_C_DIS).testBit (p - 64)

/-- A copy for list `n` is marked CT (R220). -/
def State.marksCt (s : State) (f : Frame) (n : Nat) : Bool :=
  let p := n / 8
  s.bit F.SWC_CFG_CT_EN && decide (n < 576) && !s.ctDisabled p && (s.list n).isEmpty
    && decide (s.get F.PORT_STAT_SPEED_RES p ≤ s.get F.PORT_STAT_SPEED_RES f.src)
    && !f.pre && f.flags == 0 && !f.bad
    && (match f.origin with | .hostSw _ => false | .hostDir _ => false | _ => true)

/-- Test one copy and link it, or refuse it (R212, R213). A refused network copy is judged by the drop sessions; refused mirror
copies and copies for ports 72 and 73 and the other twin are not captured (R503). Answers whether it was admitted. -/
def State.admitCopy (s : State) (n : Nat) (c : Copy) : Bool × State :=
  match s.frame c.fid with
  | none => (false, s)
  | some f =>
    let colour := if c.host then 0 else f.colour
    match s.admitLoop n f.begun colour (s.get F.SWC_PO_CFG_MAX_VICTIMS) with
    | (0, s) =>
      let ct := c.mirror.isNone && !c.twin && s.marksCt f n
      let s := (s.linkCopy n { c with ct := ct } f.begun).count 0x45 n
      (true, if ct then s.count 0x4A (n / 8) else s)
    | (code, s) =>
      let s := (s.refuse c code).count 0x46 n
      let s := if mainCopy c then s.modFrame c.fid (fun f => { f with refused := code }) else s
      (false, if n < 576 then s.captureDrop c.fid code else s)

/-- Admit copies in order. -/
def State.admitCopies (s : State) : List (Nat × Copy) → State
  | [] => s
  | (n, c) :: t => (s.admitCopy n c).2.admitCopies t

/-- Admit the network copies, and collect the mirror copies that DIR 1 sessions take of those admitted (R499, R500); a copy that
a STANDBY will suppress at the MAC is not mirrored (R503). -/
def State.admitNets (s : State) (standby : Bool) : List (Nat × Copy) → List (Nat × Copy) × State
  | [] => ([], s)
  | (n, c) :: t =>
    let (ok, s) := s.admitCopy n c
    let (ms, s) := s.admitNets standby t
    match s.frame c.fid with
    | some f =>
      if ok ∧ (!standby || c.pass) then
        (((s.sessions true).filter (fun x => sessCriteria x (n / 8) (n % 8) f.dec.hit f.dec.handle)).map
          (fun x => mirrorCopy c.fid f x c.cls true (n / 8) (n % 8) 0) ++ ms, s)
      else (ms, s)
    | none => (ms, s)

/-- The mirror copies of the DIR 0 sessions without DROP_EN (R500). -/
def ingressMirrors (k : Nat) (f : Frame) : List (Nat × Copy) :=
  (f.cfg.sess.filter (fun x => !x.drop && sessCriteria x (mirrorSrc f) f.dec.queue f.dec.hit f.dec.handle)).map
    (fun x => mirrorCopy k f x 0 false (mirrorSrc f) f.dec.queue 0)

/-- Sort requests by list number, keeping the order of equals. -/
def insertReq (x : Nat × Copy) : List (Nat × Copy) → List (Nat × Copy)
  | [] => [x]
  | y :: t => if x.1 < y.1 then x :: y :: t else y :: insertReq x t

/-- The copies of a frame have been tested: it is admitted with those that were linked, or it writes no further bytes (R213). Where F
has no cell left for an extra head cell, it ends as R214 says. -/
def State.admitEnd (s : State) (k : Nat) : State :=
  match s.frame k with
  | none => s
  | some f =>
    if liveCount f = 0 then
      let code := if f.drop ≠ 0 then f.drop else if f.refused ≠ 0 then f.refused else 0x30
      (s.setFrame k (some { f with stage := .gone, fwd := false, drop := code, cap := min f.cap f.rx.length })).settle k
    else
      let s := s.setFrame k (some { f with stage := .admitted })
      if s.get F.SWC_FREE_CELLS < (extraHeads f).length then s.noCell k
      else
        let s := s.fixHeads k
        if f.refused = 0 then s else s.exitTaken k f.refused

/-- The TWIN list of a forwarded frame (R409): that of its stage-4 queue, or of queue 7 where it has none. -/
def fwdList (f : Frame) : Nat :=
  let hostDir : Bool := match f.origin with | .hostDir _ => true | _ => false
  576 + (if f.dec.queued && !hostDir then f.dec.queue else 7)

/-- A frame that stages 1 to 5 dropped gets its TWIN copy, which its cells already wait for (R409). -/
def State.admitDropped (s : State) (k : Nat) : State :=
  match s.frame k with
  | none => s
  | some f =>
    match s.admitCopy (fwdList f) { fid := k, cls := f.headCls, twin := true } with
    | (true, s) => s.modFrame k (fun f => { f with stage := .admitted, edits := (List.range 4).map (editRec f) })
    | (false, s) => (s.dropHold k).settle k

/-- Stage 6 for one frame: its network copies, then the TWIN copy, the mirror copies, and the copies for ports 72 and 73, in
ascending list number (R212, R217). A frame that stages 1 to 5 dropped gets a TWIN copy only (R409). -/
def State.admitFrame (s : State) (k : Nat) (nets : List (Nat × Copy)) (standby : Bool) : State :=
  match s.frame k with
  | none => s
  | some f =>
    if f.stage == .gone then s.admitDropped k
    else
      let (egress, s) := s.admitNets standby nets
      let rest : List (Nat × Copy) :=
        (if f.fwd then [(fwdList f, { fid := k, twin := true })] else []) ++ egress ++ ingressMirrors k f
          ++ (if f.dec.dst.testBit 72 then [(592 + f.dec.cpuq, { fid := k, cls := 2 })] else [])
          ++ (if f.dec.dst.testBit 73 then [(608 + f.dec.queue, { fid := k, cls := 3 })] else [])
      let sorted := rest.foldl (fun l x => insertReq x l) []
      (s.admitCopies sorted).admitEnd k

/-! ## Selectable copies (R220, R221) -/

/-- A copy on a network list is selectable: a CT copy once its mark says so, any copy once its frame is complete and good. -/
def State.selectable (s : State) (c : Copy) : Bool :=
  match s.frame c.fid with
  | some f => (c.ct && c.sel) || (f.done && !f.bad)
  | none => false

/-- The second cell of a CT copy's frame has been written (R221). -/
def State.ctSelectable (s : State) (n : Nat) : State :=
  s.setList n ((s.list n).map (fun c =>
    match s.frame c.fid with
    | some f => if c.ct ∧ 2 ≤ f.cells.length ∧ !f.bad then { c with sel := true } else c
    | none => c))

/-! ## Ageing (R228) -/

/-- One tick of the age unit (R228). -/
def State.ageUnit (s : State) : State :=
  let n := s.swc.ageList
  match s.list n with
  | c :: _ =>
    if s.expired n c then s.ageDiscard n
    else { s with swc := { s.swc with ageList := (n + 1) % 616 } }
  | [] => { s with swc := { s.swc with ageList := (n + 1) % 616 } }

/-- An internal reader takes the head of a list (R210): an expired head is discarded instead (R228). Answers the copy taken; its
cells have been read. -/
def State.takeHead (s : State) (n : Nat) : Option Copy × State :=
  match s.list n with
  | [] => (none, s)
  | c :: _ => if s.expired n c then (none, s.ageDiscard n) else (some c, s.unlink n 0)

/-- A single-bit error of each of the cells is corrected and counted (R230). -/
def State.eccCorrect (s : State) (cells : List Nat) : State :=
  cells.foldl (fun s i => if s.cellEcc i = 1 then s.inc F.SWC_ECC_CORR_COUNT (i % 16) else s) s

/-- A reader that needs a copy whole takes the head of a list: a copy with an uncorrectable cell is removed instead (R231). -/
def State.takeSound (s : State) (n : Nat) : Option Copy × State :=
  match s.takeHead n with
  | (none, s) => (none, s)
  | (some c, s) =>
    let cells := s.unreadCells c
    match cells.find? (fun i => s.cellEcc i == 2) with
    | some i => (none, ((((s.eccCorrect (cells.takeWhile (fun i => s.cellEcc i != 2))).eccReport i).dropCount 0x41).endCopy n c).exitTaken c.fid 0x41)
    | none => (some c, s.eccCorrect cells)

/-- The ingress occupancies of the ports fall to 0 with the cells (R94). -/
def State.clearOcc (s : State) : State :=
  { s with regs := tabKeep (fun a => (R.PORT_OCC_PORT.index a).isNone && (R.PORT_OCC_PRI.index a).isNone) s.regs }

/-- The whole switch core is cleared (R238): memories, lists and counts; the age unit starts at list 0 (R228). The COUNT and
configuration registers follow their own reset rules. -/
def State.clearSwc (s : State) : State :=
  let s := s.usedLists.foldl (fun s n => ((s.put F.SWC_QOCC_CELLS 0 n).put F.SWC_QFRM_COPIES 0 n)) s.clearOcc
  let s := s.twn.fwdTx.foldl (fun s e => s.put F.SWC_QOCC_CELLS 0 e.1) s
  let s := (s.put F.SWC_FREE_CELLS 131072).put F.SWC_FREE_DESC_DESC 131072
  let s := (s.put F.SWC_SHARED_S 0).put F.SWC_QUAR_CELLS 0
  { s with swc := {}, frames := [], twn := { s.twn with fwdTx := [] } }

end Sys2Proof.Machine
end

