-- ==== Sys2Proof/Machine/Tin.lean ====
section
/-! DEFINITION. One microword on one engine (R116 to R126) and the check code of the microcode store (R131). -/

namespace Sys2Proof.Machine

/-! ## Microword fields (R116) -/

/-- Bits `hi`:`lo` of a microword. -/
def uwBits (u : BitVec 96) (hi lo : Nat) : Nat := (u.toNat >>> lo) % 2 ^ (hi + 1 - lo)

def uwBr (u : BitVec 96) : Nat := uwBits u 95 93
def uwTgt (u : BitVec 96) : Nat := uwBits u 92 81
def uwCnd (u : BitVec 96) : Nat := uwBits u 80 78
def uwXsrc (u : BitVec 96) : Nat := uwBits u 77 77
def uwXoff (u : BitVec 96) : Nat := uwBits u 76 71
def uwXsh (u : BitVec 96) : Nat := uwBits u 70 67
def uwXw (u : BitVec 96) : Nat := uwBits u 66 63
def uwImm (u : BitVec 96) : Nat := uwBits u 62 47
def uwAop (u : BitVec 96) : Nat := uwBits u 46 44
def uwAd (u : BitVec 96) : Nat := uwBits u 43 41
def uwCup (u : BitVec 96) : Nat := uwBits u 40 39
def uwCinc (u : BitVec 96) : Nat := uwBits u 38 32
def uwPst (u : BitVec 96) : Nat := uwBits u 31 31
def uwPsrc (u : BitVec 96) : Nat := uwBits u 30 29
def uwPreg (u : BitVec 96) : Nat := uwBits u 28 26
def uwPpos (u : BitVec 96) : Nat := uwBits u 25 18
def uwPwid (u : BitVec 96) : Nat := uwBits u 17 14
def uwRsvd (u : BitVec 96) : Nat := uwBits u 13 0

/-! ## Window and registers -/

/-- Window byte `i` as the program reads it: bytes at or beyond WLEN read 0 (R115, R121). -/
def winByte (e : Engine) (i : Nat) : Nat := if i < e.wlen ∧ i < 64 then ((e.win[i]?).getD 0).toNat else 0

/-- General register `i`. -/
def greg (e : Engine) (i : Nat) : Nat := ((e.gregs[i]?).getD 0).toNat

/-- The window address p = C + XOFF of a microword's operand (R118). -/
def xAddr (u : BitVec 96) (e : Engine) : Nat := e.cur + uwXoff u

/-- The operand X (R118 step 1): 16 big-endian bits of the window or a register, shifted and cut to XW + 1 bits. -/
def operandX (u : BitVec 96) (e : Engine) : Nat :=
  let src := if uwXsrc u = 0 then winByte e (xAddr u e) * 256 + winByte e (xAddr u e + 1) else greg e (uwXoff u % 8)
  (src >>> uwXsh u) % 2 ^ (uwXw u + 1)

/-- The ALU result Y (R116). -/
def aluY (u : BitVec 96) (x : Nat) : Nat :=
  match uwAop u with
  | 2 => (x + uwImm u) % 65536
  | 3 => x &&& uwImm u
  | 4 => x ||| uwImm u
  | 5 => (x <<< (uwImm u % 16)) % 65536
  | 6 => uwImm u
  | 7 => (x + 65536 - uwImm u) % 65536
  | _ => x

/-- The condition of BR = IF (R116). -/
def condHolds (u : BitVec 96) (x : Nat) : Bool :=
  match uwCnd u with
  | 0 => x == uwImm u
  | 1 => x != uwImm u
  | 2 => decide (x < uwImm u)
  | 3 => decide (uwImm u ≤ x)
  | 4 => (x &&& uwImm u) != 0
  | 5 => (x &&& uwImm u) == 0
  | _ => false

/-- A slow-path code that a program may emit with BR = SLOW (R126). -/
def slowCodeOk (c : Nat) : Bool := decide (1 ≤ c ∧ c ≤ 8 ∨ 0x80 ≤ c ∧ c ≤ 0xFF)

/-- PRV bits that the device owns (R124): 255 to 246, 226, 225 and 26 to 0. -/
def prvOwned (i : Nat) : Bool := decide (246 ≤ i) || i == 226 || i == 225 || decide (i ≤ 26)

/-- The mask of PRV bits a program may store (R124). -/
def prvMask : BitVec 256 :=
  BitVec.ofNat 256 ((2 ^ 246 - 1) - (2 ^ 27 - 1) - 2 ^ 225 - 2 ^ 226)

/-- Bits `hi`:`lo` of a PRV. -/
def prvBits (p : BitVec 256) (hi lo : Nat) : Nat := (p.toNat >>> lo) % 2 ^ (hi + 1 - lo)

/-- A PRV with bits `hi`:`lo` replaced. -/
def prvSet (p : BitVec 256) (hi lo v : Nat) : BitVec 256 :=
  let m : BitVec 256 := BitVec.ofNat 256 ((2 ^ (hi + 1 - lo) - 1) <<< lo)
  (p &&& ~~~ m) ||| (BitVec.ofNat 256 (v <<< lo) &&& m)

/-- A program's store into the PRV: stores to bits the device owns are discarded (R118 step 3, R124). -/
def prvStore (p : BitVec 256) (hi lo v : Nat) : BitVec 256 :=
  (p &&& ~~~ prvMask) ||| (prvSet p hi lo v &&& prvMask)

/-- The cases of R119 that the word shows by itself. -/
def badStatic (u : BitVec 96) : Bool :=
  uwRsvd u != 0
  || (uwBr u == 2 && decide (6 ≤ uwCnd u))
  || (uwXsrc u == 1 && uwXoff u / 8 != 0)
  || (uwPst u == 1 && decide (255 < uwPpos u + uwPwid u))
  || (uwBr u == 7 && (uwTgt u / 256 != 0 || !slowCodeOk (uwTgt u % 256)))

/-- The cases of R119 that the engine's address and stack show: NEXT or CALL at address 4,095, CALL with two entries on the
stack, RET with none. -/
def badControl (u : BitVec 96) (e : Engine) : Bool :=
  ((uwBr u == 0 || uwBr u == 4) && e.addr == 4095)
  || (uwBr u == 4 && decide (2 ≤ e.stack.length))
  || (uwBr u == 5 && e.stack.isEmpty)

/-- The cases of R119 that need the operand: an IF whose condition fails at address 4,095, and MWAY beyond 4,095. -/
def badDynamic (u : BitVec 96) (e : Engine) (x : Nat) : Bool :=
  (uwBr u == 2 && !condHolds u x && e.addr == 4095)
  || (uwBr u == 3 && decide (4095 < uwTgt u + x % 16))

/-- A window read at p ≥ 64 (R121). -/
def depthFault (u : BitVec 96) (e : Engine) : Bool := uwXsrc u == 0 && decide (64 ≤ xAddr u e)

/-- The writes of a microword, all from the state at the start of the cycle (R118 step 3; the cursor stops at 127, R117). -/
def uwWrites (u : BitVec 96) (e : Engine) (x : Nat) : Engine :=
  let y := aluY u x
  let cur := match uwCup u with
    | 1 => e.cur + uwCinc u
    | 2 => e.cur + y
    | 3 => uwCinc u
    | _ => e.cur
  let sv := match uwPsrc u with
    | 0 => x
    | 1 => y
    | 2 => greg e (uwPreg u)
    | _ => e.cur
  { e with
    gregs := if uwAop u = 0 then e.gregs else e.gregs.set (uwAd u) (BitVec.ofNat 16 y)
    cur := min cur 127
    prv := if uwPst u = 1 then prvStore e.prv (uwPpos u + uwPwid u) (uwPpos u) sv else e.prv }

/-- What one microword does to an engine: it goes on, or the parse ends with a slow-path code (0: END). -/
inductive UwResult where
  | more (e : Engine)
  | stop (e : Engine) (code : Nat)
  deriving DecidableEq, Repr

/-- Continue at an address, or stop with SLOW_UWORD_LIMIT once 64 microwords have been executed (R120). -/
def uwGoOn (e : Engine) (addr : Nat) (stack : List Nat) : UwResult :=
  if e.count = 64 then .stop e 5 else .more { e with addr := addr, stack := stack }

/-- One microword (R118 to R121). The count includes it whatever becomes of it. The cases of R119 that
the word, the address and the stack show need no operand: which code such a word gets that also reads its window too deep is open (log entry
4). Those that need the operand are judged after the read. -/
def uwExec (u : BitVec 96) (e0 : Engine) : UwResult :=
  let e := { e0 with count := e0.count + 1 }
  let x := operandX u e
  if badStatic u || badControl u e then .stop e (if depthFault u e && Config.depthWins u then 1 else 6)
  else if depthFault u e then .stop e 1
  else if badDynamic u e x then .stop e 6
  else
    let w := uwWrites u e x
    match uwBr u with
    | 0 => uwGoOn w (e.addr + 1) e.stack
    | 1 => uwGoOn w (uwTgt u) e.stack
    | 2 => uwGoOn w (if condHolds u x then uwTgt u else e.addr + 1) e.stack
    | 3 => uwGoOn w (uwTgt u + x % 16) e.stack
    | 4 => uwGoOn w (uwTgt u) ((e.addr + 1) :: e.stack)
    | 5 => uwGoOn w (e.stack.headD 0) e.stack.tail
    | 6 => .stop w 0
    | _ => .stop w (uwTgt u % 256)

/-- The fields that the device sets when the program stops (R124): VALID, SLOWP, SLOW_CODE, ENGINE, NEXEC, WLEN. -/
def prvFinish (e : Engine) (engine code : Nat) : BitVec 256 :=
  let p := prvSet e.prv 255 255 (if code = 0 then 1 else 0)
  let p := prvSet p 254 254 (if code = 0 then 0 else 1)
  let p := prvSet p 253 246 code
  let p := prvSet p 26 21 engine
  let p := prvSet p 20 14 e.count
  prvSet p 13 7 e.wlen

/-- The state an engine starts a frame with (R115): DA_MC and DA_BC come from window bytes 0 to 5 (R124). -/
def engineStart (fid pipe : Nat) (win : List Byte) (wlen entry : Nat) : Engine :=
  let w := win.take 64
  let mc := (((w[0]?).getD 0).toNat) % 2
  let bc := if (w.take 6).length = 6 ∧ (w.take 6).all (fun b => b = 0xFF) then 1 else 0
  { fid := fid, pipe := pipe, win := w, wlen := wlen, cur := 0, gregs := List.replicate 8 0,
    prv := prvSet (prvSet 0 226 226 mc) 225 225 bc, stack := [], count := 0, addr := entry }

/-! ## The check code of the store (R131) -/

/-- The positions of microword bits 0 to 95: ascending from 3, powers of two left out (R131). -/
def uwPositions : List Nat :=
  (List.range 104).filter (fun p => decide (3 ≤ p) && p != 4 && p != 8 && p != 16 && p != 32 && p != 64)

/-- Parity of the bits of a list. -/
def xorAll (l : List Bool) : Bool := l.foldl xor false

/-- CHECK[i] for i = 0 to 6: the parity of the microword bits whose position has bit i set (R131). -/
def uwHamming (u : BitVec 96) (i : Nat) : Bool :=
  xorAll ((uwPositions.zip (List.range 96)).map (fun pk => pk.1.testBit i && u.getLsbD pk.2))

/-- CHECK[6:0] as a number. -/
def uwCheck7 (u : BitVec 96) : Nat :=
  (List.range 7).foldl (fun a i => a + (if uwHamming u i then 2 ^ i else 0)) 0

/-- Parity of the bits of a number below 2^`n`. -/
def parityN (n v : Nat) : Bool := xorAll ((List.range n).map (fun i => v.testBit i))

/-- The check bits of a microword (R131). -/
def uwCheck (u : BitVec 96) : BitVec 8 :=
  let c := uwCheck7 u
  BitVec.ofNat 8 (c + (if xor (parityN 96 u.toNat) (parityN 7 c) then 128 else 0))

/-- What a read of a stored word shows: sound, one bit wrong (with the corrected word), or two bits wrong. -/
inductive EccRead where
  | sound
  | single (w : UWord)
  | double
  deriving DecidableEq, Repr

/-- The extended Hamming decoding of a stored word (R131). A syndrome that names no position of the word is more than one
wrong bit (DEDUCED, log entry 3). -/
def uwDecode (w : UWord) : EccRead :=
  let syn := uwCheck7 w.uw ^^^ (w.chk.toNat % 128)
  let odd := xor (parityN 96 w.uw.toNat) (parityN 8 w.chk.toNat)
  if odd then
    if syn = 0 then .single { w with chk := w.chk ^^^ 0x80 }
    else match uwPositions.idxOf? syn with
      | some k => .single { w with uw := w.uw ^^^ BitVec.ofNat 96 (2 ^ k) }
      | none =>
        if [1, 2, 4, 8, 16, 32, 64].contains syn then .single { w with chk := w.chk ^^^ BitVec.ofNat 8 syn } else .double
  else if syn = 0 then .sound else .double

/-- A stored word with one of its 104 bits upset: bits 0 to 95 are the microword's, 96 to 103 the check bits'. -/
def uwFlip (w : UWord) (k : Nat) : UWord :=
  if k < 96 then { w with uw := w.uw ^^^ BitVec.ofNat 96 (2 ^ k) }
  else { w with chk := w.chk ^^^ BitVec.ofNat 8 (2 ^ (k - 96)) }

end Sys2Proof.Machine
end

