-- ==== Sys2Proof/Machine/TinOps.lean ====
section
/-! DEFINITION. The Tin engines at work (04_tin_parse_engines.md): window queues, dispatch, the microword cycle, the reorder
buffers, the microcode store with its scrub, and the microcode window. -/

namespace Sys2Proof.Machine

def State.engine (s : State) (e : Nat) : Option Engine := tabGet none s.tin.engines e
def State.setEngine (s : State) (e : Nat) (v : Option Engine) : State :=
  { s with tin := { s.tin with engines := tabSet none s.tin.engines e v } }

/-- The word at an address of a cluster's store; a store under BIST holds nothing (R58). -/
def State.uword (s : State) (c a : Nat) : UWord :=
  if s.underTest 1 then {}
  else match tabFind? (4096 * c + a) s.tin.store with
    | some w => w
    | none => match s.tin.lost with
      | none => {}
      | some n => { uw := Config.freeValue 96 (n + 4096 * c + a), chk := Config.freeValue 8 (n + 12288 + 4096 * c + a) }

/-- Set a word of the store; writes under BIST are ignored (R58). -/
def State.setUword (s : State) (c a : Nat) (w : UWord) : State :=
  if s.underTest 1 then s
  else match s.tin.lost with
    | none => { s with tin := { s.tin with store := tabSet {} s.tin.store (4096 * c + a) w } }
    | some _ => { s with tin := { s.tin with store := tabInsert (4096 * c + a) w s.tin.store } }

/-- Report the occupancy of a pipeline (R136). -/
def State.pipeShow (s : State) (pl : Nat) : State :=
  (s.put F.TIN_PIPE_STAT_WQ_OCC (s.pipe pl).wq.length pl).put F.TIN_PIPE_STAT_ROB_OCC (s.pipe pl).rob.length pl

/-- A queue of windows with one more: windows whose positions fell in one CCLK cycle stand by ascending port (R24). `same` says which
frames have that position. -/
def windowInsert (same : Nat → Bool) (x : WqEntry) : List WqEntry → List WqEntry
  | [] => [x]
  | y :: t => if same y.fid && decide (x.port < y.port) then x :: y :: t else y :: windowInsert same x t

/-- A frame whose position has been taken joins its pipeline's queue of windows, or is dropped when that is full (R24, R111). -/
def State.enqueueWindow (s : State) (pl k : Nat) : State :=
  match s.frame k with
  | none => s
  | some f =>
    if 32 ≤ (s.pipe pl).wq.length then
      ((s.inc F.TIN_DISP_OVF_COUNT pl).evt F.TIN_EVT_DISP_OVF).dropFrame k 0x09
    else
      let p := s.pipe pl
      let same := fun y => match s.frame y with | some g => g.tcc == f.tcc | none => false
      let s := s.setFrame k (some { f with stage := .queued })
      (s.setPipe pl { p with wq := windowInsert same { fid := k, port := f.src, win := f.rx.take 64 } p.wq }).pipeShow pl

/-! ## Dispatch (R112) -/

/-- The engines of enabled clusters (R109). -/
def State.engineOn (s : State) (e : Nat) : Bool := (s.get F.TIN_CFG_CLUSTER_EN).testBit (e / 16)

/-- An engine that may be granted a window. -/
def State.engineIdle (s : State) (e : Nat) : Bool := s.engineOn e && (s.engine e).isNone

/-- The entry address of a port (R115). -/
def State.entryAddr (s : State) (port : Nat) : Nat :=
  match s.get F.TIN_PORT_SEL_SEL (port / 16) / 4 ^ (port % 16) % 4 with
  | 0 => s.get F.TIN_ENTRY_A_ENTRY0
  | 1 => s.get F.TIN_ENTRY_A_ENTRY1
  | 2 => s.get F.TIN_ENTRY_B_ENTRY2
  | _ => s.get F.TIN_ENTRY_B_ENTRY3

/-- A pipeline may dispatch: a window waits and the reorder buffer has a free entry. -/
def State.pipeReady (s : State) (pl : Nat) : Bool := !(s.pipe pl).wq.isEmpty && decide ((s.pipe pl).rob.length < 64)

/-- Grant the head window of a pipeline to the first idle enabled engine at or after the pointer. Answers whether it was
granted. -/
def State.grant (s : State) (pl : Nat) : Bool × State :=
  match (s.pipe pl).wq, rotFind 48 s.tin.ptr s.engineIdle with
  | w :: rest, some e =>
    if s.underTest 1 then
      let s := s.setPipe pl { s.pipe pl with wq := rest }
      (true, (s.pipeShow pl).dropFrame w.fid 0x02)
    else
    let p := s.pipe pl
    let s := s.setPipe pl { p with wq := rest, rob := p.rob ++ [{ fid := w.fid, port := w.port, prv := none }] }
    let s := s.setEngine e (some (engineStart w.fid pl w.win w.win.length (s.entryAddr w.port)))
    let next := (rotFind 48 ((e + 1) % 48) s.engineOn).getD e
    let s := { s with tin := { s.tin with ptr := next } }
    let s := s.modFrame w.fid (fun f => if f.stage == .queued then { f with stage := .parsing } else f)
    (true, (s.pipeShow pl).count 0x41 pl)
  | _, _ => (false, s)

/-- One CCLK cycle of the dispatcher (R112). -/
def State.dispatch (s : State) : State :=
  let r0 := s.pipeReady 0
  let r1 := s.pipeReady 1
  if r0 && r1 then
    let first := if s.tin.firstP1 then 1 else 0
    let (g1, s) := s.grant first
    if g1 then
      let (g2, s) := s.grant (1 - first)
      if g2 then { s with tin := { s.tin with firstP1 := !s.tin.firstP1 } } else s
    else s
  else if r0 then (s.grant 0).2
  else if r1 then (s.grant 1).2
  else s

/-! ## The microword cycle (R118 to R121, R131, R132) -/

/-- A single-bit error of the store has been corrected (R131). -/
def State.uwCorrected (s : State) (c a : Nat) : State :=
  let s := s.inc F.TIN_ECC_CORR_COUNT c
  let s := (s.put F.TIN_ERR_ADDR_VALID 1).put F.TIN_ERR_ADDR_CLUSTER c
  (s.put F.TIN_ERR_ADDR_ADDR a).evt F.TIN_EVT_ECC_CORR

/-- The PRV of engine `e`'s frame returns to its reorder buffer, and the engine is idle (R113, R114). -/
def State.engineStop (s : State) (e : Nat) (x : Engine) (code : Nat) : State :=
  let prv := prvFinish x e code
  let p := s.pipe x.pipe
  let s := s.setPipe x.pipe { p with rob := p.rob.map (fun r => if r.fid = x.fid then { r with prv := some prv } else r) }
  s.setEngine e none

/-- Engine `e` executes the microword at its address, if its BR is `br`. `upset`: a bit of the stored word that an upset has
flipped before the fetch. -/
def State.engineStep (s0 : State) (e br : Nat) (upset : Option Nat) : State :=
  match s0.engine e with
  | none => s0
  | some x =>
    let c := e / 16
    let s := match upset with
      | some k => s0.setUword c x.addr (uwFlip (s0.uword c x.addr) k)
      | none => s0
    let w := s.uword c x.addr
    match uwDecode w with
    | .double => s.rstDue 6
    | r =>
      let u := match r with | .single v => v | _ => w
      if uwBr u.uw ≠ br then s0
      else
        let s := match r with | .single _ => s.uwCorrected c x.addr | _ => s
        let s := s.count 0x42 c
        match uwExec u.uw x with
        | .more y => s.setEngine e (some y)
        | .stop y code => s.engineStop e y code

/-- The background scrub visits one word of one cluster (R131, R132). -/
def State.scrubWord (s : State) (c : Nat) (upset : Option Nat) : State :=
  let a := s.tin.scrub
  let s := match upset with
    | some k => s.setUword c a (uwFlip (s.uword c a) k)
    | none => s
  match uwDecode (s.uword c a) with
  | .sound => s
  | .single w => (s.setUword c a w).uwCorrected c a
  | .double => s.rstDue 6

/-- One step of the background scrub: one word per cluster, in every mode except PEWTER (R131). -/
def State.scrubStep (s : State) (upset : Option (Nat × Nat)) : State :=
  if s.mode = modePEWTER then s
  else
    let up := fun c => match upset with | some (d, k) => if c = d then some k else none | none => none
    let s := [0, 1, 2].foldl (fun s c => s.scrubWord c (up c)) s
    { s with tin := { s.tin with scrub := (s.tin.scrub + 1) % 4096 } }

/-! ## Retirement (R114, R127, R137) -/

/-- The first retiring PRV of the armed port is captured (R137). -/
def State.traceCapture (s : State) (port : Nat) (prv : BitVec 256) : State :=
  if s.bit F.TIN_TRACE_CTRL_ARM && s.get F.TIN_TRACE_CTRL_PORT == port then
    let s := (List.range 8).foldl (fun s k => s.put F.TIN_TRACE_PRV_PRV ((prv.toNat >>> (32 * k)) % 2 ^ 32) k) s
    (s.put F.TIN_TRACE_CTRL_ARM 0).evt F.TIN_EVT_TRACE_DONE
  else s

/-- A frame on the slow path (R127): destination set 72 on CPU queue 15, counted by its code. -/
def State.slowPath (s : State) (pl k : Nat) (prv : BitVec 256) : State :=
  let code := prvBits prv 253 246
  let s := s.inc F.TIN_SLOW_CNT_COUNT (if code ≤ 8 then code else 0)
  let s := s.evtIf (code == 5) F.TIN_EVT_UWORD_LIMIT
  let s := s.evtIf (code == 6) F.TIN_EVT_BAD_UWORD
  let s := s.count 0x43 pl
  s.modFrame k (fun f => { f with slow := code, dec := { dst := 2 ^ 72, cpuq := 15, slow := code } })

/-- The PRV at the head of a reorder buffer retires to stage 4, if it has returned (R114). -/
def State.retire (s : State) (pl : Nat) : State :=
  let p := s.pipe pl
  match p.rob with
  | { fid := k, port := port, prv := some prv } :: rest =>
    let live : Bool := match s.frame k with | some f => f.stage == .parsing | none => false
    let s := s.modFrame k (fun f => if live then { f with stage := .parsed, prv := prv } else f)
    let s := if live && prvBits prv 254 254 == 1 then s.slowPath pl k prv else s
    let s := s.traceCapture port prv
    (s.setPipe pl { s.pipe pl with rob := rest, st4 := (s.pipe pl).st4 ++ [k] }).pipeShow pl
  | _ => s

/-! ## The microcode window (R133) -/

/-- One word of the window: parts 0 to 2 are bits 31:0, 63:32 and 95:64, part 3 the check bits, without correction. -/
def uwPart (w : UWord) (part : Nat) : Word :=
  if part = 3 then BitVec.ofNat 32 w.chk.toNat else BitVec.ofNat 32 (w.uw.toNat >>> (32 * part))

/-- A write of a data word recomputes the check bits and sets MODIFIED. -/
def State.uwWrite (s : State) (c a part : Nat) (d : Word) : State :=
  let w := s.uword c a
  let m : BitVec 96 := BitVec.ofNat 96 ((2 ^ 32 - 1) <<< (32 * part))
  let uw := (w.uw &&& ~~~ m) ||| BitVec.ofNat 96 (d.toNat <<< (32 * part))
  (s.setUword c a { uw := uw, chk := uwCheck uw }).put F.TIN_UCODE_VER_MODIFIED 1

end Sys2Proof.Machine
end

