-- ==== Sys2Proof/Machine/LkpOps.lean ====
section
/-! DEFINITION. The nine forwarding tables (05_forwarding_tables.md): versions, hashing, lookup, insertion, the decision of stage
4, learning, ageing and the access windows. -/

namespace Sys2Proof.Machine

/-- Bits `hi`:`lo` of a number. -/
def nb (x hi lo : Nat) : Nat := (x >>> lo) % 2 ^ (hi + 1 - lo)

/-! ## Tables and slots (R139, R147, R148) -/

/-- A hashed table. -/
def hashed (t : Nat) : Bool := t == 0 || t == 2 || t == 3 || t == 4 || t == 7

/-- Buckets per half. -/
def tblB (t : Nat) : Nat :=
  match t with
  | 0 => 16384
  | 2 => 4096
  | 3 => 1024
  | 4 => 2048
  | 7 => 2048
  | _ => 0

/-- Stash slots. -/
def tblStash (t : Nat) : Nat := if t = 0 then 16 else if hashed t then 8 else 0

/-- Slots of a table. -/
def tblSlots (t : Nat) : Nat :=
  match t with
  | 1 => 4096
  | 5 => 16
  | 6 => 4096
  | 8 => 8192
  | _ => 8 * tblB t + tblStash t

/-- The VALID bit of an entry image; next hops and masks have none. -/
def imgValid (t img : Nat) : Bool :=
  match t with
  | 0 => img.testBit 64
  | 1 => img.testBit 0
  | 2 => img.testBit 41
  | 3 => img.testBit 139
  | 4 => img.testBit 28
  | 5 => img.testBit 0
  | 7 => img.testBit 0
  | _ => true

/-- The key of an entry image (R148). -/
def imgKey (t img : Nat) : Nat :=
  match t with
  | 0 => img % 2 ^ 60
  | 2 => img % 2 ^ 41
  | 3 => img % 2 ^ 139
  | 4 => img % 2 ^ 28
  | _ => let k := nb img 431 96; k - 4 * nb k 3 2

/-- The bytes of a key (R147, R148). -/
def keyBytes (t k : Nat) : List Byte :=
  beBytes (match t with | 0 => 8 | 2 => 6 | 3 => 18 | 4 => 4 | _ => 42) k

/-- An image without its VALID bit. -/
def imgClear (t img : Nat) : Nat :=
  match t with
  | 0 => img - (if img.testBit 64 then 2 ^ 64 else 0)
  | 2 => img - (if img.testBit 41 then 2 ^ 41 else 0)
  | 3 => img - (if img.testBit 139 then 2 ^ 139 else 0)
  | 4 => img - (if img.testBit 28 then 2 ^ 28 else 0)
  | _ => img - (if img.testBit 0 then 1 else 0)

/-- The candidate bucket of a key in half `h`, as a bucket number over both halves (R147). -/
def State.hashBucket (s : State) (t h k : Nat) : Nat :=
  let b := keyBytes t k
  let c := if h = 0 then crc32 b else crc32c b
  h * tblB t + (c ^^^ BitVec.ofNat 32 (s.get F.LKP_SEED_SEED t h)).toNat % tblB t

/-- The bits of an entry image (R146 to R168). -/
def imgWidth (t : Nat) : Nat :=
  match t with
  | 0 => 96
  | 1 => 64
  | 2 => 64
  | 3 => 160
  | 4 => 136
  | 5 => 64
  | 6 => 96
  | 7 => 432
  | _ => 96

/-- What an aborted BIST leaves in a slot of table `t` (R58): free values. -/
def lostSlot (t n : Nat) : Slot9 :=
  let f := fun w i => (Config.freeValue w (n + i)).toNat
  { a := { img := f (imgWidth t) 0, tag := f 16 1, settled := f 1 2 != 0 }, b := { img := f (imgWidth t) 3, tag := f 16 4, settled := f 1 5 != 0 },
    newB := f 1 6 != 0, stale := f 1 7 != 0, perr := f 1 8 != 0, poison := f 1 9 != 0 }

/-- Slot `i` of table `t`; tables under BIST hold nothing (R58). -/
def State.slot (s : State) (t i : Nat) : Slot9 :=
  if s.underTest 0 then {}
  else match tabFind? (t * 2 ^ 20 + i) s.lkp.slots with
    | some x => x
    | none => match s.lkp.lost with
      | none => {}
      | some n => lostSlot t (n + 10 * (t * 2 ^ 20 + i))

/-- Set a slot. -/
def State.setSlot (s : State) (t i : Nat) (v : Slot9) : State :=
  if s.underTest 0 then s
  else match s.lkp.lost with
    | none => { s with lkp := { s.lkp with slots := tabSet {} s.lkp.slots (t * 2 ^ 20 + i) v } }
    | some _ => { s with lkp := { s.lkp with slots := tabInsert (t * 2 ^ 20 + i) v s.lkp.slots } }

/-- The version that NEWEST names, and the other one. -/
def newest (x : Slot9) : Version := if x.newB then x.b else x.a
def older (x : Slot9) : Version := if x.newB then x.a else x.b

/-- The version that a lookup for epoch `e` reads (R176). -/
def versionFor (x : Slot9) (e : Nat) : Version :=
  let n := newest x
  if !n.settled && n.tag == (e + 1) % 65536 then older x else n

/-- The epoch in force. -/
def State.epoch (s : State) : Nat := s.get F.EPOCH_CUR_EPOCH

/-- An access finds a parity error in a slot (R169): recorded, counted, and the slot poisoned. -/
def State.parityFound (s : State) (t i : Nat) : State :=
  let s := s.capture F.LKP_ERR_VALID F.LKP_ERR_MULTI (BitVec.ofNat 32 (t * 2 ^ 18 + i))
  let s := (s.inc F.LKP_PERR_CNT_COUNT).evt F.LKP_EVT_PERR
  s.setSlot t i { s.slot t i with poison := true }

/-- Read one slot for epoch `e`: the image, 0 where the slot has a parity error (R169, R170). -/
def State.readSlot9 (s : State) (t i e : Nat) : Nat × State :=
  let x := s.slot t i
  if x.perr then (0, s.parityFound t i) else ((versionFor x e).img, s)

/-- The slots that a lookup of a key compares: the ways of its two candidate buckets and the stash (R149). -/
def State.candidates (s : State) (t k : Nat) : List Nat :=
  (List.range 4).map (fun w => 4 * s.hashBucket t 0 k + w) ++ (List.range 4).map (fun w => 4 * s.hashBucket t 1 k + w)
    ++ (List.range (tblStash t)).map (fun i => 8 * tblB t + i)

/-- Find the slots among `l` with a parity error. -/
def State.parityAmong (s : State) (t : Nat) (l : List Nat) : State :=
  l.foldl (fun s i => if (s.slot t i).perr then s.parityFound t i else s) s

/-- The image of an IPv6 stream entry: FN 3 and FAMILY 1 (R154, R168). -/
def isPair (t img : Nat) : Bool := t == 7 && nb img 97 96 == 3 && img.testBit 100

/-- A slot holds a valid entry with key `k` for epoch `e`; an IPv6 stream entry has a parity error where its odd slot has one (R154, R169). -/
def State.matches (s : State) (t k e i : Nat) : Bool :=
  let x := s.slot t i
  let v := (versionFor x e).img
  !x.perr && imgValid t v && imgKey t v == k && !(isPair t v && (s.slot t (i + 1)).perr)

/-- Look a key up for epoch `e` (R149): the slot that holds it. -/
def State.hashFind (s : State) (t k e : Nat) : Option Nat × State :=
  let c := s.candidates t k
  (c.find? (fun i => s.matches t k e i), s.parityAmong t c)

/-! ## Counts of frames by epoch (R187) -/

/-- A frame counts for its epoch: it has not been dropped, and either its copies are not fixed yet or one that is no mirror copy
is still in the device. Host frames directed to a port are not counted. -/
def State.counted (s : State) (k : Nat) (f : Frame) : Bool :=
  (match f.origin with | .hostDir _ => false | _ => true) && f.stage != .gone
    && (f.stage != .admitted || decide (s.countCopies k (fun c => c.mirror.isSome) < liveCount f))

/-- The frames of epoch `e` in the device. -/
def State.epochCount (s : State) (e : Nat) : Nat :=
  (s.frames.filter (fun x => match x.2 with | some f => f.epoch == e && s.counted x.1 f | none => false)).length

/-- The epoch before the one in force. -/
def State.prevEpoch (s : State) : Nat := (s.epoch + 65535) % 65536

/-- The epoch of a frame stamped at `t` (R25, R184). -/
def State.epochOf (s : State) (t : Int) : Nat :=
  match s.lkp.tc with
  | none => s.epoch
  | some tc =>
    if s.bit F.EPOCH_CUR_PEND then (if tc ≤ t then (s.epoch + 1) % 65536 else s.epoch)
    else (if tc ≤ t then s.epoch else s.prevEpoch)

/-! ## Free slots (R178, R154) -/

/-- The drain condition of R187: no frame of the epoch before is left, and TD0 is 8 µs past the T_c of the epoch in force. -/
def State.drainDone (s : State) : Bool :=
  s.epochCount s.prevEpoch == 0 && (match s.lkp.tcNow with | some tc => decide (tc + 8000 ≤ s.now) | none => true)

/-- The epoch has no frame left in the device, as judged under "Drain" (R178, R187). -/
def State.epochGone (s : State) (e : Nat) : Bool :=
  if e = s.epoch then false
  else if e = s.prevEpoch then s.drainDone
  else true

/-- A slot counts as free by its own contents (R178, R171): R178's list, and no frame of the epoch before could still hit the
deleted key (DEDUCED, log entry 103). -/
def State.slotFree (s : State) (t i : Nat) : Bool :=
  let x := s.slot t i
  !x.poison && !x.perr && x.res.isNone && !x.pend && !imgValid t (newest x).img
    && (!imgValid t (older x).img || (s.epochGone (older x).tag
      && (!imgValid t (versionFor x s.prevEpoch).img || s.epochGone s.prevEpoch)))

/-- Some content of a slot is, or will be, an IPv6 stream entry that also occupies the next slot (R154). -/
def State.slotPairs (s : State) (t i : Nat) : Bool :=
  let x := s.slot t i
  (imgValid t x.a.img && isPair t x.a.img) || (imgValid t x.b.img && isPair t x.b.img)
    || (match x.res with | some m => isPair t m | none => false)

/-- Slot `i` is free for an entry; the odd slot of a pair belongs to the entry in the even one. -/
def State.isFree (s : State) (t i : Nat) : Bool :=
  s.slotFree t i && !(t == 7 && i % 2 == 1 && s.slotPairs t (i - 1) && !s.slotFree t (i - 1))

/-- The lowest free place of an entry of image `img` among slots `lo` to `lo` + `n` − 1: one slot, or an even pair. -/
def State.freePlace (s : State) (t img lo n : Nat) : Option Nat :=
  ((List.range n).map (fun w => lo + w)).find? (fun i =>
    if isPair t img then i % 2 == 0 && s.isFree t i && s.isFree t (i + 1) else s.isFree t i)

/-! ## Insertion (R151 to R154) -/

/-- The image that names a slot's key: the reserved one, else the newest valid version, else the other. -/
def slotImg (t : Nat) (x : Slot9) : Option Nat :=
  match x.res with
  | some m => some m
  | none =>
    if imgValid t (newest x).img then some (newest x).img
    else if imgValid t (older x).img then some (older x).img
    else none

/-- The other candidate bucket of the entry in slot `i`. -/
def State.otherBucket (s : State) (t i img : Nat) : Nat :=
  let b := i / 4
  s.hashBucket t (if b < tblB t then 1 else 0) (imgKey t img)

/-- A way of bucket `b` that may be moved for an entry `img`: the first from `start` whose other bucket is not on the path. An IPv6
pair moves only for a pair, and a single entry only for a single one (R154). -/
def State.victimWay (s : State) (t img b start : Nat) (path : List Nat) : Option (Nat × Nat) :=
  ((List.range 4).map (fun i => 4 * b + (start + i) % 4)).findSome? (fun i =>
    let x := s.slot t i
    match slotImg t x with
    | none => none
    | some m =>
      let o := s.otherBucket t i m
      let y := s.slot t (i + 1)
      if x.poison || x.perr || (isPair t m && (y.poison || y.perr)) || path.contains o || isPair t m != isPair t img
        || (isPair t m && i % 2 == 1) || (t == 7 && i % 2 == 1 && s.slotPairs t (i - 1)) then none
      else some (i, o))

/-- The path of moves from bucket `b`: the slots moved, in order, and the free slot at its end (R151). Every bucket read on the way shows its
parity errors (R169). -/
def State.movePath (s : State) (t img ptr : Nat) : Nat → Nat → Nat → List Nat → List Nat → Option (List Nat × Nat) × State
  | 0, _, _, _, _ => (none, s)
  | n + 1, m, b, path, picks =>
    match s.victimWay t img b (ptr + m) path with
    | none => (none, s)
    | some (i, o) =>
      let s := s.parityAmong t ((List.range 4).map (fun w => 4 * o + w))
      match s.freePlace t img (4 * o) 4 with
      | some f => (some (picks ++ [i], f), s)
      | none => s.movePath t img ptr n (m + 1) o (path ++ [o]) (picks ++ [i])

/-- The path of moves from the first candidate bucket, else from the second. -/
def State.movePaths (s : State) (t img ptr m b0 b1 : Nat) : Option (List Nat × Nat) × State :=
  match s.movePath t img ptr m 0 b0 [b0] [] with
  | (some r, s) => (some r, s)
  | (none, s) => s.movePath t img ptr m 0 b1 [b1] []

/-- Move an entry to another slot (R152): its key, both versions, any staged data and its stale flag; the old slot is cleared. -/
def State.moveSlot (s : State) (t src dst : Nat) : State :=
  let x := s.slot t src
  let re := fun (l : List Staged) => l.map (fun e => if e.table = t ∧ e.index = src then { e with index := dst } else e)
  let s := (s.setSlot t dst x).setSlot t src {}
  { s with lkp := { s.lkp with staged := re s.lkp.staged, taken := re s.lkp.taken } }

/-- Move entries back along a path: the last pick into the free slot, each earlier one into the place freed after it. -/
def State.moveAlong (s : State) (t : Nat) : List Nat → Nat → State
  | [], _ => s
  | i :: rest, dst => s.moveSlot t i dst |>.moveAlong t rest i

/-- Choose a slot for a key that is not present (R151): a free way, a way freed by moves, or a stash slot. -/
def State.placeKey (s : State) (t img : Nat) : Option Nat × State :=
  let k := imgKey t img
  let b0 := s.hashBucket t 0 k
  let b1 := s.hashBucket t 1 k
  let m := max 1 (min 16 (s.get F.LKP_CFG_MAX_MOVES))
  let ptr := tabGet 0 s.lkp.ptr t
  match (s.freePlace t img (4 * b0) 4).orElse (fun _ => s.freePlace t img (4 * b1) 4) with
  | some i => (some i, s)
  | none =>
    match s.movePaths t img ptr m b0 b1 with
    | (some (picks, f), s) =>
      let s := s.moveAlong t picks.reverse f
      (some (picks.headD 0), { s with lkp := { s.lkp with ptr := tabSet 0 s.lkp.ptr t ((ptr + 1) % 4) } })
    | (none, s) => (s.freePlace t img (8 * tblB t) (tblStash t), s)

/-- The slot where a key is present for an insertion: in the version in force, in a pending version, or reserved. -/
def State.findPresent (s : State) (t k : Nat) : Option Nat :=
  (s.candidates t k).find? (fun i =>
    let x := s.slot t i
    !x.perr && (s.matches t k s.epoch i
      || (x.pend && imgValid t (newest x).img && imgKey t (newest x).img == k)
      || (match x.res with | some m => imgKey t m == k | none => false)))

/-! ## Hardware changes (R141, R177) -/

/-- A hardware change writes every version of the entry except a pending one. -/
def hwVersions (x : Slot9) (f : Nat → Nat) : Slot9 :=
  let up := fun (v : Version) => { v with img := f v.img }
  { x with a := if x.pend && !x.newB then x.a else up x.a, b := if x.pend && x.newB then x.b else up x.b }

/-- An insertion by hardware into a free slot: both versions, with TAG the epoch in force and SETTLED 0 (R177). -/
def State.hwInsert (s : State) (t i img : Nat) : State :=
  let v : Version := { img := img, tag := s.epoch, settled := false }
  s.setSlot t i { a := v, b := v, newB := true }

/-! ## The learning database (R155 to R160) -/

/-- The image of a learned entry (R155). -/
def learnedImg (mac fid port : Nat) : Nat := mac + fid * 2 ^ 48 + 2 ^ 64 + port * 2 ^ 68

/-- A dynamic entry of the FDB. -/
def fdbDynamic (img : Nat) : Bool := imgValid 0 img && !img.testBit 65

/-- FDB_LCNTp (R159): dynamic entries whose DEST is the port, and the queued requests for it. -/
def State.lcnt (s : State) (p : Nat) : Nat :=
  (s.lkp.slots.filter (fun e => decide (e.1 < 2 ^ 20) &&
    (let v := (versionFor e.2 s.epoch).img; fdbDynamic v && nb v 80 68 == p))).length
  + (s.lkp.learnQ.filter (fun r => r.port == p)).length

/-- Valid entries of the FDB in the version in force, and the stash slots in use (R174). -/
def State.fdbCount (s : State) : Nat :=
  (s.lkp.slots.filter (fun e => decide (e.1 < 2 ^ 20) && imgValid 0 (versionFor e.2 s.epoch).img)).length
def State.fdbStash (s : State) : Nat :=
  (s.lkp.slots.filter (fun e => decide (131072 ≤ e.1) && decide (e.1 < 2 ^ 20) && imgValid 0 (versionFor e.2 s.epoch).img)).length

/-- Queue a learning request (R157): merged with one that matches, or discarded when the queue is full. -/
def State.learnQueue (s : State) (fid mac port : Nat) (time : Int) : State :=
  let q := s.lkp.learnQ
  if q.any (fun r => r.fid == fid && r.mac == mac) then
    { s with lkp := { s.lkp with learnQ := q.map (fun r => if r.fid = fid ∧ r.mac = mac then { r with port := port, time := time } else r) } }
  else if 64 ≤ q.length then (s.inc F.FDB_LEARN_DROP_COUNT).evt F.LKP_EVT_LEARN_DROP
  else { s with lkp := { s.lkp with learnQ := q ++ [{ fid := fid, mac := mac, port := port, time := time }] } }

/-- A complete, good frame whose lookup wanted learning issues its request once (R157). -/
def State.learnIssue (s : State) (k : Nat) : State :=
  match s.frame k with
  | none => s
  | some f =>
    if f.dec.learn ∧ f.done ∧ f.flags = 0 then
      (s.setFrame k (some { f with dec := { f.dec with learn := false } })).learnQueue f.dec.learnFid (beAt f.rx 6 6) f.src f.time
    else s

/-- An FDB image with another DEST. -/
def withDest (port img : Nat) : Nat := img - nb img 80 68 * 2 ^ 68 + port * 2 ^ 68

/-- Slots of the FDB that operation `b` of a FLUSH takes: a bucket, or at the end the stash (R150, R172). -/
def flushOp (i : Nat) : Nat := if i < 131072 then i / 4 else 32768
def flushOps : Nat := 32769

/-- Operations `lo` to `hi` − 1 of a FLUSH (R172): delete the dynamic entries that match DATA0. -/
def State.flushRange (s : State) (d lo hi : Nat) : State :=
  let hit := fun (img : Nat) => fdbDynamic img
    && (!d.testBit 7 || nb img 80 68 == nb d 6 0) && (!d.testBit 20 || nb img 59 48 == nb d 19 8)
  let all := match s.lkp.lost with
    | none => (s.lkp.slots.map (fun (e : Nat × Slot9) => e.1)).filter (fun i => decide (i < 2 ^ 20))
    | some _ => List.range (tblSlots 0)
  (all.filter (fun i => decide (lo ≤ flushOp i ∧ flushOp i < hi))).foldl (fun s i =>
    let x := s.slot 0 i
    if !x.perr && hit (versionFor x s.epoch).img then s.setSlot 0 i { hwVersions x (imgClear 0) with stale := false } else s) s

/-- The operations that a running FLUSH has done by now (R150): at least `least` more, where the update port serves another requester in
round robin, and a free number beyond them (log entry 135). -/
def State.flushSome (s : State) (least : Nat) : State :=
  s.lkp.flush.foldl (fun s e =>
    let (n, s) := s.draw 16
    let b := min flushOps (e.2.2 + least + n.toNat)
    let s := s.flushRange e.2.1 e.2.2 b
    { s with lkp := { s.lkp with flush := tabInsert e.1 (e.2.1, b) s.lkp.flush } }) s

/-- The rest of the FLUSH in window `w`. -/
def State.flushRest (s : State) (w : Nat) : State :=
  match tabFind? w s.lkp.flush with
  | none => s
  | some (d, b) =>
    let s := s.flushRange d b flushOps
    { s with lkp := { s.lkp with flush := s.lkp.flush.filter (fun e => e.1 != w) } }

/-- The learning engine executes the oldest request (R158). -/
def State.learnInsert (s : State) : State :=
  if s.underTest 0 then s
  else let s := s.flushSome 1
    match s.lkp.learnQ with
    | [] => s
    | r :: rest =>
      let s := ({ s with lkp := { s.lkp with learnQ := rest } }).count 0x4E 0
      let img := learnedImg r.mac r.fid r.port
      let k := imgKey 0 img
      let s := s.parityAmong 0 (s.candidates 0 k)
      match s.findPresent 0 k with
      | some i =>
        let x := s.slot 0 i
        let v := (versionFor x s.epoch).img
        if imgValid 0 v && imgKey 0 v == k then
          if v.testBit 65 then (s.inc F.FDB_STATIC_MOVE_COUNT).evt F.LKP_EVT_STATIC_MOVE
          else (s.inc F.FDB_MOVE_CNT_COUNT).setSlot 0 i (hwVersions x (withDest r.port))
        else s.setSlot 0 i { hwVersions x (fun _ => img) with stale := false }
      | none =>
        match s.placeKey 0 img with
        | (some i, s) => s.hwInsert 0 i img
        | (none, s) => (s.inc F.FDB_LEARN_FAIL_COUNT).evt F.LKP_EVT_FDB_FULL

/-- The hits and the deletions of this tick begin anew when it is another one (R162). -/
def State.cycleFresh (s : State) : State :=
  if s.lkp.cycleAt = s.inv.ticks then s
  else { s with lkp := { s.lkp with cycleAt := s.inv.ticks, hits := [], aged := [] } }

/-- A hit clears the STALE flag of an FDB slot (R156). Its former value is kept for the rest of the tick (R162). -/
def State.fdbHit (s : State) (i : Nat) (again : Option Nat) : State :=
  let s := s.cycleFresh
  let was := match s.lkp.hits.find? (fun h => h.slot == i) with | some h => h.stale | none => (s.slot 0 i).stale
  let h : FdbHit := { slot := i, stale := was, again := again }
  let s : State := { s with lkp := { s.lkp with hits := s.lkp.hits ++ [h] } }
  s.setSlot 0 i { s.slot 0 i with stale := false }

/-- Frame `k` learns in any case: no deletion of this tick need ask for it again. -/
def State.learnsAnyway (s : State) (k : Nat) : State :=
  { s with lkp := { s.lkp with hits := s.lkp.hits.map (fun h => if h.again = some k then { h with again := none } else h) } }

/-- The frame's own excess is judged (R160), and its request is left pending or issued. -/
def State.learnLate (s : State) (k : Nat) : State :=
  match s.frame k with
  | none => s
  | some f =>
    if s.get F.FDB_LIMIT_LIMIT f.src ≤ s.lcnt f.src then
      let s := (s.inc F.FDB_LEXC_COUNT f.src).evt F.LKP_EVT_LIMIT
      if f.cfg.limitAct = 0 then s.dropFrame k 0x13 else s
    else (s.setFrame k (some { f with dec := { f.dec with learn := true } })).learnIssue k

/-- The scanner ages one slot (R161): a dynamic entry is marked, or deleted if it was marked. A hit of the same tick keeps an unmarked entry
unmarked, and leaves the deletion of a marked one standing: its source frame learns the address again (R162). -/
def State.ageSlot (s : State) (i : Nat) : State :=
  let s := s.cycleFresh
  let x := s.slot 0 i
  let here := s.lkp.hits.filter (fun h => h.slot == i)
  let stale := match here.head? with | some h => h.stale | none => x.stale
  if x.poison then s
  else if x.perr then s.parityFound 0 i
  else if fdbDynamic (versionFor x s.epoch).img then
    if stale then
      let s : State := { s with lkp := { s.lkp with aged := s.lkp.aged ++ [(i, x)] } }
      let s := s.setSlot 0 i { hwVersions x (imgClear 0) with stale := false }
      (here.filterMap (fun h => h.again)).foldl State.learnLate s
    else if here.isEmpty then s.setSlot 0 i { x with stale := true }
    else s
  else s

/-- The stash visit of a scanner step (R153): an entry whose candidate bucket has a free way is moved there. The step shows the parity errors
of what it reads (R169). -/
def State.stashRelocate (s : State) (n : Nat) : State :=
  let i := 131072 + n
  let x := s.slot 0 i
  if x.poison then s
  else if x.perr then s.parityFound 0 i
  else match slotImg 0 x with
    | none => s
    | some img =>
      let k := imgKey 0 img
      let s := s.parityAmong 0 ((s.candidates 0 k).take 8)
      match (s.freePlace 0 img (4 * s.hashBucket 0 0 k) 4).orElse (fun _ => s.freePlace 0 img (4 * s.hashBucket 0 1 k) 4) with
      | some f => s.moveSlot 0 i f
      | none => s

/-- One step of the age scanner (R161): it ages its slots, then visits a stash slot (log entry 134). -/
def State.ageScan (s : State) : State :=
  if s.get F.FDB_AGE_CFG_PERIOD = 0 ∨ s.underTest 0 = true ∨ s.mode = modePEWTER then s
  else
    let s := s.flushSome 1
    let i := s.lkp.ageStep
    let s := (List.range 4).foldl (fun s w => s.ageSlot (4 * i + w)) s
    let s := if i % 2048 = 0 then s.ageSlot (131072 + i / 2048) else s
    let s := s.stashRelocate s.lkp.stashVisit
    { s with lkp := { s.lkp with ageStep := (i + 1) % 32768, stashVisit := (s.lkp.stashVisit + 1) % 16 } }

/-! ## The decision of stage 4 (R143 to R145, R163 to R168) -/

/-- What stage 4 knows of a frame while it builds the decision. -/
structure LkpIn where
  fid : Nat
  prv : BitVec 256
  win : List Byte
  src : Nat
  epoch : Nat
  cfg : StampCfg
  prof : Nat
  vid : Nat
  vlan : Nat
  deriving DecidableEq, Repr

/-- Bits of a PRV. -/
def LkpIn.p (x : LkpIn) (hi lo : Nat) : Nat := prvBits x.prv hi lo

/-- The port bits of mask `i` (R146, R170); bit 74 has no effect on a destination set. -/
def State.maskPorts (s : State) (i e : Nat) : Nat × State :=
  let (v, s) := s.readSlot9 8 i e
  (v % 2 ^ 74, s)

/-- The IP addresses of a frame (R144, R167): 4 or 16 bytes at the offsets of its network header. -/
def LkpIn.sip (x : LkpIn) : Nat :=
  if x.p 238 236 = 1 then beAt x.win (x.p 175 170 + 12) 4 else beAt x.win (x.p 175 170 + 8) 16
def LkpIn.dip (x : LkpIn) : Nat :=
  if x.p 238 236 = 1 then beAt x.win (x.p 175 170 + 16) 4 else beAt x.win (x.p 175 170 + 24) 16

/-- The stream key of one identification function (R167, R168), if it forms one. -/
def State.streamKey (s : State) (x : LkpIn) (fn : Nat) : Option Nat :=
  let im := fun b => (s.get F.LKP_PROF_A_IPMASK x.prof).testBit b
  let pick := fun b (v : Nat) => if im b then v else 0
  if fn = 0 ∨ fn = 2 then some (fn + x.vid * 2 ^ 5 + beAt x.win 0 6 * 2 ^ 32)
  else if fn = 1 then some (fn + x.vid * 2 ^ 5 + beAt x.win 6 6 * 2 ^ 32)
  else if x.p 238 236 ≠ 1 ∧ x.p 238 236 ≠ 2 then none
  else
    let l4 := x.p 235 233 == 1 || x.p 235 233 == 2
    some (3 + (if x.p 238 236 = 2 then 2 ^ 4 else 0) + pick 0 x.vid * 2 ^ 5
      + (pick 4 (x.p 134 127) + pick 3 (x.p 150 145) * 2 ^ 8
         + pick 5 (if l4 then x.p 126 111 else 0) * 2 ^ 16 + pick 6 (if l4 then x.p 110 95 else 0) * 2 ^ 32) * 2 ^ 32
      + pick 1 x.sip * 2 ^ 80 + pick 2 x.dip * 2 ^ 208)

/-- TAGM of a stream entry (R168). -/
def tagmOk (x : LkpIn) (img : Nat) : Bool :=
  let tagged := x.p 229 228 != 0 && x.p 219 208 != 0
  match nb img 99 98 with
  | 0 => true
  | 1 => tagged
  | 2 => !tagged
  | _ => false

/-- One identification function's lookup: the entry image of a hit. -/
def State.streamFn (s : State) (x : LkpIn) (en : Bool) (fn : Nat) : Option Nat × State :=
  if !en then (none, s)
  else match s.streamKey x fn with
    | none => (none, s)
    | some k =>
      match s.hashFind 7 k x.epoch with
      | (none, s) => (none, s)
      | (some i, s) =>
        let img := (versionFor (s.slot 7 i) x.epoch).img
        (if tagmOk x img then some img else none, s)

/-- The stream lookup: function A, then B; the first hit wins (R167). -/
def State.streamLookup (s : State) (x : LkpIn) : Option Nat × State :=
  match s.streamFn x (s.bit F.LKP_PROF_A_FNA_EN x.prof) (s.get F.LKP_PROF_A_FNA x.prof) with
  | (some v, s) => (some v, s)
  | (none, s) => s.streamFn x (s.bit F.LKP_PROF_A_FNB_EN x.prof) (s.get F.LKP_PROF_A_FNB x.prof)

/-- An FDB lookup, which clears STALE on a hit (R143, R156): the entry image, and whether the scanner deleted that entry in the same tick,
in which case the frame still uses it (R162). `again` names the frame of a source lookup whose learning would be wanted without a hit. -/
def State.fdbLookup (s : State) (mac fid e : Nat) (again : Option Nat) : Option (Nat × Bool) × State :=
  let k := mac + fid * 2 ^ 48
  match s.hashFind 0 k e with
  | (some i, s) => (some ((versionFor (s.slot 0 i) e).img, false), s.fdbHit i again)
  | (none, s) =>
    let s := s.cycleFresh
    ((s.lkp.aged.findSome? (fun x =>
      let v := (versionFor x.2 e).img
      if (s.candidates 0 k).contains x.1 && imgValid 0 v && imgKey 0 v == k then some v else none)).map (fun v => (v, true)), s)

/-- The lengths that a bit vector marks, longest first: bit `b` marks length `off` + `b`. -/
def lengthsOf (v n off : Nat) : List Nat := (((List.range n).filter (fun b => v.testBit b)).map (fun b => off + b)).reverse

/-- An address with the bits below a prefix length cleared. -/
def maskAddr (a width len : Nat) : Nat := a / 2 ^ (width - len) * 2 ^ (width - len)

/-- Probe the lengths in order; at most six. Answers the next-hop index of the first hit, and how many probes were made. -/
def State.probeLens (s : State) (t w v a e : Nat) : List Nat → Nat → Option Nat × Nat × State
  | [], n => (none, n, s)
  | l :: rest, n =>
    let k := maskAddr a w l + l * 2 ^ w + v * 2 ^ (w + (if w = 32 then 6 else 8))
    match s.hashFind t k e with
    | (some i, s) =>
      let img := (versionFor (s.slot t i) e).img
      (some (if w = 32 then nb img 53 42 else nb img 151 140), n + 1, s)
    | (none, s) => s.probeLens t w v a e rest (n + 1)

/-- The LPM lookup (R166): the next-hop index. -/
def State.lpm (s : State) (vrf l3t a e pl : Nat) : Option Nat × State :=
  let fam := if l3t = 1 then 0 else 1
  let w := if fam = 0 then 32 else 128
  let top := if fam = 0 then 16 else 24
  let (vr, s) := s.readSlot9 5 (fam * 8 + vrf) e
  if !imgValid 5 vr then (none, s)
  else
    let (fi, s) := s.hashFind 4 (a / 2 ^ (w - top) + vrf * 2 ^ 24 + fam * 2 ^ 27) e
    let long := match fi with
      | some i => lengthsOf (nb (versionFor (s.slot 4 i) e).img 135 32) (w - top) (top + 1)
      | none => []
    let lens := long ++ lengthsOf (nb vr 27 4) top 1
    let (r, n, s) := s.probeLens (if fam = 0 then 2 else 3) w vrf a e (lens.take 6) 0
    let s := s.count 0x44 pl n
    match r with
    | some nh => (some nh, s)
    | none =>
      let s := if 6 < lens.length then (s.inc F.LPM_TRUNC_COUNT).evt F.LKP_EVT_LPM_TRUNC else s
      (if vr.testBit 28 then some (nb vr 40 29) else none, s)

/-- What the destination lookup decides: a drop, or the set and the cause. -/
inductive DestResult where
  | drop (code : Nat)
  | dest (set cause : Nat) (routed : Bool) (vid dmac untag : Nat)
  deriving DecidableEq, Repr

/-- The routed branch of R143. A next hop's VLAN without a valid entry has an empty UNTAG mask (DESIGN CHOICE, log entry 134). -/
def State.routedDest (s : State) (x : LkpIn) (pl : Nat) : DestResult × State :=
  if x.p 142 135 ≤ 1 then (.dest (2 ^ 72) 1 false 0 0 0, s)
  else match s.lpm (nb x.vlan 15 13) (x.p 238 236) x.dip x.epoch pl with
    | (none, s) => (.drop 0x14, s)
    | (some nh, s) =>
      let (v, s) := s.readSlot9 6 nh x.epoch
      let act := nb v 68 67
      if act = 0 then (.drop 0x15, s)
      else
        let vid := nb v 59 48
        let (ev, s) := s.readSlot9 1 vid x.epoch
        let (um, s) := if imgValid 1 ev then s.maskPorts (nb ev 56 44) x.epoch else (0, s)
        let set := (if act % 2 = 1 then 2 ^ nb v 66 60 else 0) + (if 2 ≤ act then 2 ^ 72 else 0)
        (.dest set (if 2 ≤ act then 2 else 0) (act % 2 == 1) vid (nb v 47 0) um, s)

/-- The bridged branch of R143. -/
def State.bridgedDest (s : State) (x : LkpIn) : DestResult × State :=
  let fid := nb x.vlan 12 1
  let (da, s) := s.fdbLookup (beAt x.win 0 6) fid x.epoch none
  match da with
  | some (d, _) =>
    if d.testBit 82 then (.drop 0x12, s)
    else
      let (m, s) := if d.testBit 67 then s.maskPorts (nb d 80 68) x.epoch else (2 ^ (nb d 80 68), s)
      let (mem, s) := s.maskPorts (nb x.vlan 30 18) x.epoch
      let (um, s) := s.maskPorts (nb x.vlan 56 44) x.epoch
      let set := m &&& mem
      let set := if set.testBit x.src then set - 2 ^ x.src else set
      let set := if d.testBit 83 then set ||| 2 ^ 72 else set
      (.dest set 0 false 0 0 um, s)
  | none =>
    let (m, s) := s.maskPorts (nb x.vlan 43 31) x.epoch
    let (mem, s) := s.maskPorts (nb x.vlan 30 18) x.epoch
    let (um, s) := s.maskPorts (nb x.vlan 56 44) x.epoch
    let set := m &&& mem
    (.dest (if set.testBit x.src then set - 2 ^ x.src else set) 0 false 0 0 um, s)

/-- A frame that meets its stream with DOVR: the mask replaces the destination lookup. -/
def State.overrideDest (s : State) (x : LkpIn) (st : Nat) : DestResult × State :=
  let (m, s) := s.maskPorts (nb st 86 74) x.epoch
  let (um, s) := s.maskPorts (nb x.vlan 56 44) x.epoch
  (.dest m 0 false 0 0 um, s)

/-- A frame is routed (R144). -/
def State.isRouted (s : State) (x : LkpIn) : Bool :=
  s.bit F.LKP_PROF_A_ROUTE_EN x.prof && x.vlan.testBit 17 && (x.p 238 236 == 1 || x.p 238 236 == 2)
    && beAt x.win 0 6 == x.cfg.rmac

/-- The stream's fields as the frame carries them (R143, R168, R192). -/
def streamDec (d : Decision) (st : Option Nat) : Decision :=
  match st with
  | none => d
  | some v => { d with
      hit := true, handle := nb v 14 1, filter := nb v 28 15, filterEn := v.testBit 29, gate := nb v 39 30, gateEn := v.testBit 40,
      meter := nb v 53 41, meterEn := v.testBit 54, pdsRole := nb v 56 55, pdsIndex := nb v 68 57 }

/-- The end of R143: port 73, the empty set, the queue and the CPU queue; port 73 is removed outside SERVICE (R37), but
kept in a HOLD entered from it (R39; DEDUCED, log entry 136). -/
def State.finishDecision (s : State) (k : Nat) (x : LkpIn) (st : Option Nat) (d : Decision) (r : DestResult) : State :=
  match r with
  | .drop code => (s.modFrame k (fun f => { f with dec := d })).dropFrame k code
  | .dest set cause routed vid dmac um =>
    let cause := if set.testBit 72 && cause == 0 then 3 else cause
    let set := if d.hit ∧ d.pdsRole ≠ 0 then set ||| 2 ^ 73 else set
    let set := set % 2 ^ 74
    let set := if x.cfg.fanIn = false ∧ set.testBit 73 then set - 2 ^ 73 else set
    let q := match st with
      | some v => if v.testBit 69 then nb v 72 70 else (s.get F.LKP_PROF_B_QMAP x.prof / 8 ^ x.p 241 239) % 8
      | none => (s.get F.LKP_PROF_B_QMAP x.prof / 8 ^ x.p 241 239) % 8
    let cq := match cause with
      | 1 => getBits x.cfg.cpuq 3 0
      | 2 => getBits x.cfg.cpuq 7 4
      | _ => getBits x.cfg.cpuq 11 8
    let d := { d with dst := set, queue := q, queued := true, cause := cause, cpuq := cq, routed := routed, vid := vid, dmac := dmac, untag := um }
    if set = 0 then (s.modFrame k (fun f => { f with dec := { d with queue := q, queued := true } })).dropFrame k 0x16
    else s.modFrame k (fun f => { f with dec := d, stage := .looked })

/-- The learning request that R143 leaves pending, and the excess count (R160). `sa`: the entry the source lookup hit. -/
def State.learnWanted (s : State) (x : LkpIn) (sa : Option Nat) : Bool :=
  s.bit F.LKP_PROF_A_LEARN_EN x.prof && x.vlan.testBit 16 && !((x.win[6]?).getD 0).getLsbD 0
    && (match sa with
        | none => true
        | some v => !v.testBit 65 && nb v 80 68 != x.src)

/-- Stage 4 decides frame `k` of pipeline `pl` (R143). -/
def State.lookupFrame (s : State) (pl k : Nat) : State :=
  match s.frame k with
  | none => s
  | some f =>
    if f.stage != .parsed then s
    else if f.slow ≠ 0 then s.setFrame k (some { f with stage := .looked })
    else
      let s := s.flushSome 0
      let tagged := prvBits f.prv 229 228 != 0 && prvBits f.prv 219 208 != 0
      let vid := if tagged then prvBits f.prv 219 208 else f.cfg.pvid
      let (v, s) := s.readSlot9 1 vid f.epoch
      let x : LkpIn := { fid := k, prv := f.prv, win := f.rx.take 64, src := f.src, epoch := f.epoch, cfg := f.cfg,
                         prof := prvBits f.prv 245 242, vid := vid, vlan := v }
      if !imgValid 1 v then s.dropFrame k 0x10
      else
        let (member, s) := if s.bit F.LKP_PROF_A_IFILTER x.prof then s.maskPorts (nb v 30 18) x.epoch else (2 ^ x.src, s)
        if !member.testBit x.src then s.dropFrame k 0x10
        else
          let (st, s) := s.streamLookup x
          let d := streamDec {} st
          let s := s.modFrame k (fun f => { f with dec := d })
          let again := if s.learnWanted x none then some k else none
          let (sa9, s) := s.fdbLookup (beAt x.win 6 6) (nb v 12 1) x.epoch again
          let sa := sa9.map (fun y => y.1)
          let relearn := match sa9 with | some y => y.2 | none => false
          if (match sa with | some a => a.testBit 81 | none => false) then s.dropFrame k 0x11
          else
            let want := s.learnWanted x (if relearn then none else sa)
            let s := if want then s.learnsAnyway k else s
            let excess := want && decide (s.get F.FDB_LIMIT_LIMIT x.src ≤ s.lcnt x.src)
            let s := if excess then (s.inc F.FDB_LEXC_COUNT x.src).evt F.LKP_EVT_LIMIT else s
            if excess ∧ x.cfg.limitAct = 0 then s.dropFrame k 0x13
            else
              let d := { d with learn := want && !excess, learnFid := nb v 12 1 }
              let s := (s.modFrame k (fun f => { f with dec := d })).learnIssue k
              let d := { d with learn := d.learn && !f.done }
              let ovr := match st with | some e => e.testBit 73 | none => false
              let (r, s) := if ovr then s.overrideDest x (st.getD 0)
                else if s.isRouted x then s.routedDest x pl
                else s.bridgedDest x
              s.finishDecision k x st d r

end Sys2Proof.Machine
end

