-- ==== Sys2Proof/Machine/LkpCmd.lean ====
section
/-! DEFINITION. The table access windows (05_forwarding_tables.md R146, R155, R163 to R165, R168, R172) and staging
(06_epochs_and_consistency.md R179, R180, R198). -/

namespace Sys2Proof.Machine

/-- The RSVD bits of an image are 0. -/
def rsvdOk (t m : Nat) : Bool :=
  match t with
  | 0 => nb m 63 60 == 0 && nb m 95 84 == 0
  | 1 => nb m 63 57 == 0
  | 2 => nb m 63 54 == 0
  | 3 => nb m 159 152 == 0
  | 4 => nb m 31 29 == 0
  | 5 => nb m 63 41 == 0
  | 6 => nb m 95 69 == 0
  | 7 => nb m 95 87 == 0 && nb m 127 113 == 0 && (nb m 97 96 != 3 || nb m 143 142 == 0)
  | _ => nb m 95 75 == 0

/-- The rules on the fields of an image of table `t` at index `i` (R146, R155, R163, R164, R168). An image without VALID is no
prefix and no length-filter entry (DEDUCED, log entry 104). -/
def keyOk (t i m : Nat) : Bool :=
  match t with
  | 0 => (m.testBit 65 || !m.testBit 67) && (m.testBit 67 || decide (nb m 80 68 ≤ 73))
  | 2 => !imgValid t m || decide (1 ≤ nb m 37 32) && decide (nb m 37 32 ≤ 32) && maskAddr (nb m 31 0) 32 (nb m 37 32) == nb m 31 0
  | 3 => !imgValid t m || decide (1 ≤ nb m 135 128) && decide (nb m 135 128 ≤ 128) && maskAddr (nb m 127 0) 128 (nb m 135 128) == nb m 127 0
  | 4 => !imgValid t m || m.testBit 27 || (nb m 23 16 == 0 && nb m 135 48 == 0)
  | 5 => decide (8 ≤ i) || nb m 27 20 == 0
  | 6 => decide (nb m 66 60 ≤ 71) || nb m 68 67 == 0 || nb m 68 67 == 2
  | 7 => nb m 99 98 != 3 && nb m 56 55 != 3
  | _ => true

/-- The number of ones among bits `hi`:`lo`. -/
def ones (x hi lo : Nat) : Nat := ((List.range (hi + 1 - lo)).filter (fun i => x.testBit (lo + i))).length

/-- The staged change of a slot in the set being built (R179). -/
def State.stagedAt (s : State) (t i : Nat) : Option Staged := s.lkp.staged.find? (fun e => e.table == t && e.index == i)

/-- The image that the next commit would leave in a direct table's slot: the staged one, else that of the version in force. -/
def State.nextImg (s : State) (t i : Nat) : Nat :=
  match s.stagedAt t i with
  | some e => e.img
  | none => (versionFor (s.slot t i) s.epoch).img

/-- The probe bound of R165. -/
def State.boundOk (s : State) (t m : Nat) : Bool :=
  match t with
  | 4 => decide (ones m 135 32 ≤ nb (s.nextImg 5 ((if m.testBit 27 then 8 else 0) + nb m 26 24)) 3 1)
  | 5 => decide (ones m 27 4 + nb m 3 1 ≤ 6)
  | _ => true

/-- Stage a change (R179): a second change of a slot replaces the first; STATUS 8 where all 4,096 entries are in use. -/
def State.stage (s : State) (e : Staged) : Nat × State :=
  let l := s.lkp.staged
  if l.any (fun x => x.table == e.table && x.index == e.index) then
    (0, { s with lkp := { s.lkp with staged := l.map (fun x => if x.table = e.table ∧ x.index = e.index then e else x) } })
  else if 4096 ≤ l.length + s.lkp.taken.length then (8, s.evt F.EPOCH_EVT_STAGE_FULL)
  else
    let s := { s with lkp := { s.lkp with staged := l ++ [e] } }
    (0, s.put F.EPOCH_STAT_STAGED s.lkp.staged.length)

/-- Remove a staged change and release what it reserved. -/
def State.unstage (s : State) (t i : Nat) : State :=
  let s := { s with lkp := { s.lkp with staged := s.lkp.staged.filter (fun x => !(x.table == t && x.index == i)) } }
  let s := s.put F.EPOCH_STAT_STAGED s.lkp.staged.length
  s.setSlot t i { s.slot t i with res := none }

/-- The result of a command: its STATUS, and the index, image and RTAG that completion shows. -/
structure LkpRes where
  status : Nat
  index : Option Nat := none
  img : Option Nat := none
  rtag : Option Word := none
  deriving DecidableEq, Repr

/-- EPOCH_RTAG for a version (R198). -/
def rtagWord (isNew settled : Bool) (tag : Nat) : Word :=
  BitVec.ofNat 32 (2 ^ 31 + (if isNew then 2 ^ 30 else 0) + (if settled then 2 ^ 29 else 0) + tag % 65536)

/-- The image as a READ shows it: an FDB entry carries its STALE flag in bit 66 (R155). -/
def shownImg (t : Nat) (x : Slot9) (m : Nat) : Nat := if t = 0 ∧ x.stale then m ||| 2 ^ 66 else m

/-- READ (R172, R179, R198). -/
def State.lkpRead (s : State) (t i : Nat) (staged : Bool) : LkpRes × State :=
  let x := s.slot t i
  let v := versionFor x s.epoch
  let tag := rtagWord (v == newest x) v.settled v.tag
  match (if staged then s.stagedAt t i else none) with
  | some e =>
    let n := s.epoch + (if s.bit F.EPOCH_CUR_PEND then 2 else 1)
    ({ status := 0, img := some e.img, rtag := some (rtagWord true false n) }, s)
  | none =>
    let bad := if x.perr then [i] else if isPair t v.img && (s.slot t (i + 1)).perr then [i + 1] else []
    if !bad.isEmpty then ({ status := 7, img := some (shownImg t x v.img), rtag := some tag }, s.parityAmong t bad)
    else ({ status := 0, img := some (shownImg t x v.img), rtag := some tag }, s)

/-- WRITE (R172): staged at INDEX. -/
def State.lkpWrite (s : State) (t i m : Nat) : LkpRes × State :=
  let m := if t = 0 ∧ m.testBit 66 then m - 2 ^ 66 else m
  if hashed t && imgValid t m then ({ status := 4 }, s)
  else if !rsvdOk t m || !keyOk t i m then ({ status := 3 }, s)
  else if !s.boundOk t m && t == 5 then ({ status := 6 }, s)
  else
    let (st, s) := s.stage { table := t, index := i, op := 2, img := m }
    ({ status := st }, if st = 0 ∧ (s.slot t i).res.isSome = true then s.setSlot t i { s.slot t i with res := none } else s)

/-- INSERT (R172): staged by key; its slot is reserved at once. -/
def State.lkpInsert (s : State) (t m : Nat) : LkpRes × State :=
  let m := if t = 0 ∧ m.testBit 66 then m - 2 ^ 66 else m
  if !rsvdOk t m || !keyOk t 0 m then ({ status := 3 }, s)
  else if !s.boundOk t m then ({ status := 6 }, s)
  else
    let k := imgKey t m
    let s := s.parityAmong t (s.candidates t k)
    match s.findPresent t k with
    | some i =>
      let (st, s) := s.stage { table := t, index := i, op := 3, img := m }
      let s := if st = 0 then s.setSlot t i { s.slot t i with res := some m } else s
      ({ status := st, index := some i }, s)
    | none =>
      if 4096 ≤ s.lkp.staged.length + s.lkp.taken.length then ({ status := 8 }, s.evt F.EPOCH_EVT_STAGE_FULL)
      else match s.placeKey t m with
        | (none, s) => ({ status := 2 }, s)
        | (some i, s) =>
          let s := s.setSlot t i { s.slot t i with res := some m }
          let (st, s) := s.stage { table := t, index := i, op := 3, img := m }
          ({ status := st, index := some i }, s)

/-- DELETE (R172, R179): a staged INSERT of the key in the same set is cancelled, else the deletion is staged. -/
def State.lkpDelete (s : State) (t m : Nat) : LkpRes × State :=
  let k := imgKey t m
  match s.findPresent t k with
  | none => ({ status := 1 }, s)
  | some i =>
    match s.stagedAt t i with
    | some e =>
      if e.op = 3 then ({ status := 0 }, s.unstage t i)
      else
        let (st, s) := s.stage { table := t, index := i, op := 4, img := imgClear t (versionFor (s.slot t i) s.epoch).img }
        ({ status := st }, s)
    | none =>
      let x := s.slot t i
      let v := if x.pend then newest x else versionFor x s.epoch
      let (st, s) := s.stage { table := t, index := i, op := 4, img := imgClear t v.img }
      ({ status := st }, s)

/-- SEARCH (R172): the key in the version in force, or as the set being built would leave it. -/
def State.lkpSearch (s : State) (t m : Nat) (staged : Bool) : LkpRes × State :=
  let k := imgKey t m
  let c := s.candidates t k
  let s := s.parityAmong t c
  let hit := c.find? (fun i =>
    match (if staged then s.stagedAt t i else none) with
    | some e => imgValid t e.img && imgKey t e.img == k
    | none => s.matches t k s.epoch i)
  match hit with
  | none => ({ status := 1 }, s)
  | some i =>
    let v := match (if staged then s.stagedAt t i else none) with
      | some e => e.img
      | none => shownImg t (s.slot t i) (versionFor (s.slot t i) s.epoch).img
    ({ status := 0, index := some i, img := some v }, s)

/-- An odd slot that belongs to an IPv6 stream entry (R172). -/
def State.oddPair (s : State) (t i : Nat) : Bool := t == 7 && i % 2 == 1 && s.slotPairs t (i - 1)

/-- What a window command does at once (R172). The image is taken modulo the width of the table's image. A command that breaks several
conditions takes the first STATUS of BAD_OP, BAD_INDEX, BAD_KEY, BOUND, and STAGE_FULL or FULL (log entry 134). A FLUSH only
begins: its operations follow. -/
def State.lkpDo (s : State) (op t i : Nat) (ver : Bool) (m : Nat) : LkpRes × State :=
  let mm := m % 2 ^ imgWidth t
  if 7 ≤ op ∨ 9 ≤ t ∨ s.underTest 0 = true ∨ (3 ≤ op ∧ op ≤ 5 ∧ !hashed t) ∨ (op = 6 ∧ t ≠ 0)
      ∨ (op = 2 ∧ hashed t = true ∧ imgValid t mm = true) then ({ status := 4 }, s)
  else if op = 0 then ({ status := 0 }, s)
  else if (op = 1 ∨ op = 2) ∧ (tblSlots t ≤ i ∨ s.oddPair t i = true) then ({ status := 5 }, s)
  else match op with
    | 1 => s.lkpRead t i ver
    | 2 => s.lkpWrite t i mm
    | 3 => s.lkpInsert t mm
    | 4 => s.lkpDelete t mm
    | 5 => s.lkpSearch t mm ver
    | _ => ({ status := 0 }, s)

def State.lkpCmdOf (s : State) (w : Nat) : Option LkpCmd := if w = 0 then s.lkp.cmd0 else s.lkp.cmd1
def State.setLkpCmd (s : State) (w : Nat) (c : Option LkpCmd) : State :=
  { s with lkp := if w = 0 then { s.lkp with cmd0 := c } else { s.lkp with cmd1 := c } }

/-- The image in the data registers of window `w`. -/
def State.lkpData (s : State) (w : Nat) : Nat := (List.range 14).foldl (fun a i => a + s.get F.LKP_DATA_DATA w i * 2 ^ (32 * i)) 0

/-- An accepted write of LKP_CMDw (R172): INDEX and DATA are sampled and BUSY rises. The command takes its turn on the update port
in the order of acceptance, so its effect is complete for every later command and commit (R182; log entry 9); a FLUSH begins its
operations (R150). -/
def State.lkpAccept (s : State) (w : Nat) (word : Word) : State :=
  let op := getBits word 3 0
  let m := s.lkpData w
  let (r, s) := (s.flushSome 0).lkpDo op (getBits word 7 4) (s.get F.LKP_INDEX_INDEX w) (getBits word 8 8 == 1) m
  let s : State := if op = 6 ∧ r.status = 0 then { s with lkp := { s.lkp with flush := tabInsert w (m, 0) s.lkp.flush } } else s
  (s.put F.LKP_STAT_BUSY 1 w).setLkpCmd w (some { word := word, status := r.status, index := r.index, img := r.img, rtag := r.rtag })

/-- The running command of window `w` completes (R172): a FLUSH has done its last operation, results are loaded, BUSY falls, CMD_DONE is set. -/
def State.lkpComplete (s : State) (w : Nat) : State :=
  match s.lkpCmdOf w with
  | none => s
  | some c =>
    let s := s.flushRest w
    let s : State := match c.index with | some i => s.put F.LKP_INDEX_INDEX i w | none => s
    let s : State := match c.img with
      | some m => (List.range 14).foldl (fun s i => s.put F.LKP_DATA_DATA (m >>> (32 * i)) w i) s
      | none => s
    let s : State := match c.rtag with | some r => s.setReg R.EPOCH_RTAG r w | none => s
    let s := (s.put F.LKP_STAT_STATUS c.status w).put F.LKP_STAT_BUSY 0 w
    (s.setLkpCmd w none).evt (if w = 0 then F.LKP_EVT_CMD_DONE0 else F.LKP_EVT_CMD_DONE1)

end Sys2Proof.Machine
end

