-- ==== Sys2Proof/Machine/EpochOps.lean ====
section
/-! DEFINITION. Epochs (06_epochs_and_consistency.md): commits, the commit machine, the drain and the tag sweep. -/

namespace Sys2Proof.Machine

/-- States of the commit machine (R198). -/
def esREADY : Nat := 0
def esDRAINING : Nat := 1
def esAPPLYING : Nat := 2
def esPENDING : Nat := 3
def esLOCKED : Nat := 4

/-- Enter a state of the commit machine; BUSY is 0 only in READY (R186), and 1 on a PAIRING device, which refuses commits (R397). -/
def State.epochState (s : State) (st : Nat) : State :=
  (s.put F.EPOCH_STAT_STATE st).put F.EPOCH_STAT_BUSY (if st = esREADY ∧ s.role ≠ rolePAIRING then 0 else 1)

/-- T_c of R183 and whether TS_ADJ is set: `a` the acceptance time, `k` the entries taken. -/
def State.commitTime (s : State) (a : Int) (k : Nat) : Int × Bool :=
  let tmin := a + 4000 + ((16 * k + 9) / 10 : Nat)
  let sec := s.get F.EPOCH_COMMIT_TS_SEC_SEC
  let ns := s.get F.EPOCH_COMMIT_TS_NS_NS
  if sec = 0 ∧ ns = 0 then (tmin, false)
  else
    let tw := fullTime (s.dom 0) sec ns
    if tw < tmin then (tmin, true)
    else if a + 1000000000000 < tw then (a + 1000000000000, true)
    else (tw, false)

/-- Start a commit: PEND, T_c, and the history entry (R186, R198). -/
def State.startCommit (s : State) (tc : Int) (k epoch host : Nat) (twin : Bool) : State :=
  let s := s.epochState esAPPLYING
  let s := s.put F.EPOCH_CUR_PEND 1
  let s := s.putTime F.EPOCH_TC_SEC_SEC F.EPOCH_TC_NS_NS tc
  let n := s.get F.EPOCH_HIST_PTR_NEWEST
  let e := if s.bit F.EPOCH_HIST_A_VALID n then (n + 1) % 16 else n
  let s := s.setReg R.EPOCH_HIST_A (BitVec.ofNat 32 (2 ^ 31 + (if twin then 2 ^ 30 else host * 2 ^ 29) + k * 2 ^ 16 + epoch)) e
  let s := s.putTime F.EPOCH_HIST_SEC_SEC F.EPOCH_HIST_NS_NS tc e
  let s := s.put F.EPOCH_HIST_PTR_NEWEST e
  ({ s with lkp := { s.lkp with tc := some tc, taken := s.lkp.staged, staged := [] } }.put F.EPOCH_STAT_STAGED 0).evt F.EPOCH_EVT_ACCEPTED

/-- A write of EPOCH_COMMIT found acceptable for BUSY (R182, R183): KEY 0x5A commits the set being built. -/
def State.commit (s : State) (key host : Nat) : State :=
  if key ≠ 0x5A then s.evt F.EPOCH_EVT_BAD_KEY
  else
    let k := s.lkp.staged.length
    let (tc, adj) := s.commitTime s.now k
    (s.startCommit tc k ((s.epoch + 1) % 65536) host false).evtIf adj F.EPOCH_EVT_TS_ADJ

/-- A write of EPOCH_DISCARD (R181). -/
def State.discard (s : State) (key : Nat) : State :=
  if key ≠ 0x5A then s.evt F.EPOCH_EVT_BAD_KEY
  else if s.get F.EPOCH_STAT_STATE = esREADY ∨ s.get F.EPOCH_STAT_STATE = esDRAINING then
    s.lkp.staged.foldl (fun s e => s.unstage e.table e.index) s
  else s.evt F.EPOCH_EVT_REFUSED

/-- Write one staged entry as a pending version tagged N + 1 (R177, R186): the version that NEWEST does not name is replaced. The slot's
reservation ends, unless an INSERT of the set being built has it (R172, R180). -/
def State.applyStaged (s : State) (e : Staged) : State :=
  let x := s.slot e.table e.index
  let v : Version := { img := e.img, tag := (s.epoch + 1) % 65536, settled := false }
  let x := { x with pend := true, unpoison := x.unpoison || e.op == 2,
                    res := match s.stagedAt e.table e.index with | some n => if n.op = 3 then some n.img else none | none => none }
  s.setSlot e.table e.index (if x.newB then { x with a := v, newB := false } else { x with b := v, newB := true })

/-- The last staged entry of the commit is written (R186). -/
def State.commitApplied (s : State) : State :=
  if s.get F.EPOCH_STAT_STATE = esAPPLYING then
    let s := s.lkp.taken.foldl State.applyStaged s
    { s with lkp := { s.lkp with taken := [] } }.epochState esPENDING
  else s

/-- Pending versions take effect, and a WRITE clears the poison of its slot (R171, R177). -/
def settlePending (x : Slot9) : Slot9 :=
  if x.pend then
    { x with pend := false, unpoison := false, poison := x.poison && !x.unpoison, perr := x.perr && !x.unpoison,
             stale := false }
  else x

/-- TD0 reaches T_c (R186, R187). -/
def State.commitTimeReached (s : State) : State :=
  match s.lkp.tc with
  | none => s
  | some tc =>
    if s.get F.EPOCH_STAT_STATE = esPENDING ∧ tc ≤ s.now then
      let s := (s.flushSome 0).put F.EPOCH_CUR_EPOCH (s.epoch + 1)
      let s := s.put F.EPOCH_CUR_PEND 0
      let s := s.put F.EPOCH_DRAIN_DRAINED 0
      let s := { s with lkp := { s.lkp with tcNow := some tc, slots := s.lkp.slots.map (fun (e : Nat × Slot9) => (e.1, settlePending e.2)) } }
      ((s.epochState esDRAINING).evt F.EPOCH_EVT_COMMITTED).count 0x51 0
    else s

/-- The previous epoch is drained (R186): READY, or LOCKED on the STANDBY. -/
def State.epochDrained (s : State) : State :=
  if s.get F.EPOCH_STAT_STATE = esDRAINING ∧ s.drainDone = true then
    let s := (s.put F.EPOCH_DRAIN_DRAINED 1).evt F.EPOCH_EVT_DRAINED
    s.epochState (if s.isStandby then esLOCKED else esREADY)
  else s

/-- The mode leaves LOAD for the first time after a reset episode (R186): every version of every loaded entry is tagged 0 and
settled, and the tag sweep starts at slot 0 (R191). A PAIRING device or a STANDBY stays LOCKED. -/
def State.unlockEpoch (s : State) : State :=
  if s.lkp.leftLoad then s
  else
    let fix := fun (x : Slot9) => { x with a := { (versionFor x s.epoch) with tag := 0, settled := true },
                                           b := { (versionFor x s.epoch) with tag := 0, settled := true } }
    let s := { s with lkp := { s.lkp with leftLoad := true, sweepT := 0, sweepI := 0,
                                          slots := s.lkp.slots.map (fun e => (e.1, fix e.2)) } }
    if s.isStandby then s else s.epochState esREADY

/-- The tag sweep settles a version whose TAG is outside the live set (R191). -/
def State.sweepVersion (s : State) (v : Version) : Version :=
  let n := s.epoch
  let live := v.tag == s.prevEpoch || v.tag == n || (s.bit F.EPOCH_CUR_PEND && v.tag == (n + 1) % 65536)
  if live then v else { v with settled := true }

/-- The sweep visits one slot and moves on (R191). It runs in every mode except LOAD and PEWTER. -/
def State.tagSweep (s : State) : State :=
  if s.mode = modeLOAD ∨ s.mode = modePEWTER ∨ s.underTest 0 = true then s
  else
    let t := s.lkp.sweepT
    let i := s.lkp.sweepI
    let x := s.slot t i
    let s := s.setSlot t i { x with a := s.sweepVersion x.a, b := s.sweepVersion x.b }
    let last := tblSlots t ≤ i + 1
    { s with lkp := { s.lkp with sweepI := if last then 0 else i + 1, sweepT := if last then (t + 1) % 9 else t } }

/-- An ECC error in the epoch state (R195). -/
def State.epochEcc (s : State) (double : Bool) : State :=
  if double then s.rstDue 7 else (s.inc F.EPOCH_ECC_CNT_COUNT).evt F.EPOCH_EVT_ECC_CORR

/-- The twin controller's role bears on the commit machine (R186, R397): a STANDBY is LOCKED with its set discarded, a device that is ACTIVE,
or whose controller is disabled, outside LOAD leaves LOCKED, and BUSY follows the role. -/
def State.epochRole (s : State) : State :=
  let st := s.get F.EPOCH_STAT_STATE
  if s.isStandby then
    if st = esREADY ∨ st = esDRAINING then
      (s.lkp.staged.foldl (fun s e => s.unstage e.table e.index) s).epochState esLOCKED
    else s.epochState st
  else if st = esLOCKED ∧ (s.isActive = true ∨ s.role = roleOFF) ∧ s.mode ≠ modeLOAD ∧ s.lkp.leftLoad = true then
    if s.drainDone then s.epochState esREADY else s.epochState esDRAINING
  else s.epochState st

/-- EPOCH_DRAIN as it reads: the frames of the epoch before, and DRAINED (R187). -/
def State.drainWord (s : State) (w : Word) : Word :=
  setBits (setBits w 17 0 (s.epochCount s.prevEpoch)) 31 31 (if s.drainDone then 1 else 0)

end Sys2Proof.Machine
end

