-- ==== Sys2Proof/Machine/PolOps.lean ====
section
/-! DEFINITION. Stage 5 (09_policing.md): stream filters, stream gates with their schedules, meters, and the policing window. -/

namespace Sys2Proof.Machine

/-! ## Entries -/

def State.meter (s : State) (k : Nat) : Meter := tabGet {} s.pol.meters k
def State.setMeter (s : State) (k : Nat) (m : Meter) : State :=
  { s with pol := { s.pol with meters := tabSet {} s.pol.meters k m } }
def State.filter (s : State) (k : Nat) : Filter := tabGet {} s.pol.filters k
def State.setFilter (s : State) (k : Nat) (f : Filter) : State :=
  { s with pol := { s.pol with filters := tabSet {} s.pol.filters k f } }
def State.gate (s : State) (k : Nat) : Gate := tabGet {} s.pol.gates k
def State.setGate (s : State) (k : Nat) (g : Gate) : State :=
  { s with pol := { s.pol with gates := tabSet {} s.pol.gates k g } }
def State.sched (s : State) (k : Nat) : Schedule := tabGet {} s.pol.scheds k
def State.setSched (s : State) (k : Nat) (x : Schedule) : State :=
  { s with pol := { s.pol with scheds := tabSet {} s.pol.scheds k x } }

/-- A counter of a filter: 32 bits, wrapping (R279). -/
def wrap32 (n : Nat) : Nat := n % 2 ^ 32

/-! ## Schedules (R280, R281) -/

/-- The operative bank of a schedule. -/
def State.schedOper (s : State) (k : Nat) : Tab SchedEntry :=
  if s.get F.POL_SGS_STAT_BANK k = 0 then (s.sched k).bank0 else (s.sched k).bank1

/-- The administrative bank of a schedule. -/
def State.schedAdm (s : State) (k : Nat) : Tab SchedEntry :=
  if s.get F.POL_SGS_STAT_BANK k = 0 then (s.sched k).bank1 else (s.sched k).bank0

/-- The list of a schedule that is in force at time `t`, as it runs: the operative one, or for a time before the last change the
one that this change replaced, and from T_x of a pending change on the one that it installs (R249, R280, R281). -/
def State.schedAt (s : State) (k : Nat) (t : Int) : OldList × Option Int :=
  let x := s.sched k
  let run : OldList := { list := s.schedOper k, base := x.base, cycle := s.get F.POL_SGS_OPER_CYCLE_CYCLE k,
                         len := s.get F.POL_SGS_OPER_LEN_LEN k, ext := x.ext, tx := 0 }
  let now : OldList × Option Int := match x.pend with
    | none => (run, none)
    | some c =>
      if c.tx ≤ t then ({ list := s.schedAdm k, base := c.base, cycle := c.cycle, len := c.len, ext := c.ext, tx := 0 }, none)
      else (run, some c.tx)
  match x.old with
  | none => now
  | some o => if t < o.tx then (o, some o.tx) else now

/-- The index of the entry in force at time `t` (R249, R257, R281). -/
def State.schedIndex (s : State) (k : Nat) (t : Int) : Nat :=
  let x := s.schedAt k t
  let starts := listStarts (fun i => (tabGet {} x.1.list i).interval) x.1.cycle x.1.len 0 0
  entryAt starts (cycleOffset x.1.base x.1.cycle (positionTime x.1.base x.1.cycle x.1.ext x.2 t))

/-- The entry in force at time `t`; none with OPER_LEN 0. -/
def State.schedEntry (s : State) (k : Nat) (t : Int) : Option SchedEntry :=
  if (s.schedAt k t).1.len = 0 then none
  else some (tabGet {} (s.schedAt k t).1.list (s.schedIndex k t))

/-- The state of a gate for a frame stamped `t` (R280, R282): open, and the IPV if it is valid. -/
def State.gateState (s : State) (k : Nat) (t : Int) : Bool × Option Nat :=
  let g := s.gate k
  if g.closedInv then (false, none)
  else if !g.schedEn then (g.adminOpen, none)
  else
    match s.schedEntry g.sched t with
    | none => (false, none)
    | some e => (e.states.testBit g.col, if e.ipvEn then some e.ipv else none)

/-- A schedule's STAT as it reads: with the entry in force and its STATES at the present time (R288). -/
def State.schedStatWord (s : State) (k : Nat) (w : Word) : Word :=
  match s.schedEntry k s.now with
  | none => setBits w 23 0 0
  | some e => setBits (setBits w 23 16 (s.schedIndex k s.now)) 15 0 e.states

def State.schedRefuse (s : State) (k code : Nat) : State :=
  (s.put F.POL_SGS_STAT_CHG_ERR code k).evt F.POL_EVT_CFG_ERR

/-- A write of POL_SGSs_CHG (R255 to R257, R281, R288). -/
def State.schedChange (s : State) (k key : Nat) (go cancel : Bool) : State :=
  let pend := s.bit F.POL_SGS_STAT_CHG_PEND k
  let len := s.get F.POL_SGS_ADM_LEN_LEN k
  let cyc := s.get F.POL_SGS_ADM_CYCLE_CYCLE k
  let ext := s.get F.POL_SGS_ADM_EXT_EXT k
  let bns := s.get F.POL_SGS_ADM_BASE_NS_NS k
  if key ≠ 0x5A ∨ go = cancel then s.schedRefuse k 6
  else if (go && pend) || (cancel && !pend) then s.schedRefuse k 5
  else if cancel then
    ((s.put F.POL_SGS_STAT_CHG_PEND 0 k).setSched k { s.sched k with pend := none }).evt F.POL_EVT_CHG_DONE
  else if len = 0 ∨ 256 < len then s.schedRefuse k 1
  else if (List.range len).any (fun i => decide ((tabGet {} (s.schedAdm k) i).interval < 8)) then s.schedRefuse k 2
  else if cyc < 16 ∨ 1000000000 < cyc ∨ cyc < ext then s.schedRefuse k 3
  else if 1000000000 ≤ bns then s.schedRefuse k 4
  else
    let b := fullTime (s.dom 0) (s.get F.POL_SGS_ADM_BASE_SEC_SEC k) bns
    let tx := changeTime s.now b cyc
    let s := (s.put F.POL_SGS_STAT_CHG_PEND 1 k).put F.POL_SGS_STAT_CHG_ERR 0 k
    let s := s.putTime F.POL_SGS_CHG_SEC_SEC F.POL_SGS_CHG_NS_NS tx k
    s.setSched k { s.sched k with pend := some { tx := tx, base := b, cycle := cyc, ext := ext, len := len } }

/-- TD0 reaches T_x of a schedule's change (R256, R281). -/
def State.schedChangeTime (s : State) (k : Nat) : State :=
  match (s.sched k).pend with
  | none => s
  | some c =>
    if s.now < c.tx then s
    else
      let o : OldList := { list := s.schedOper k, base := (s.sched k).base, cycle := s.get F.POL_SGS_OPER_CYCLE_CYCLE k,
                           len := s.get F.POL_SGS_OPER_LEN_LEN k, ext := (s.sched k).ext, tx := c.tx }
      let s := s.put F.POL_SGS_STAT_BANK (1 - s.get F.POL_SGS_STAT_BANK k) k
      let s := s.putTime F.POL_SGS_OPER_BASE_SEC_SEC F.POL_SGS_OPER_BASE_NS_NS c.base k
      let s := s.put F.POL_SGS_OPER_CYCLE_CYCLE c.cycle k
      let s := s.put F.POL_SGS_OPER_LEN_LEN c.len k
      let s := s.put F.POL_SGS_STAT_CHG_PEND 0 k
      let s := s.setSched k { s.sched k with pend := none, base := c.base, ext := c.ext, old := some o }
      s.evt F.POL_EVT_CHG_DONE

/-! ## Meters (R273 to R278) -/

/-- Bytes in the unit of the buckets. -/
def toUnit (n : Nat) : Int := (n : Int) * 1000000

/-- Accrual up to a frame stamped `ts` (R276): rate × 1,000 bytes/s over the ns since T_last, held to the burst. -/
def accrue (m : Meter) (ts : Int) : Meter :=
  if ts < m.tlast then m
  else
    let d := ts - m.tlast
    { m with tc := min (m.tc + m.cir * d) (toUnit m.cbs), tp := min (m.tp + m.pir * d) (toUnit m.pbs), tlast := ts }

/-- Colour a frame of debited length `b` (R275), with its input colour: the colour and the debited meter. -/
def meterColour (m : Meter) (b : Nat) (input : Nat) : Nat × Meter :=
  let b := toUnit b
  if (m.cm && input == 2) || decide (m.tp < b) then (2, m)
  else if (m.cm && input == 1) || decide (m.tc < b) then (1, { m with tp := m.tp - b })
  else (0, { m with tc := m.tc - b, tp := m.tp - b })

/-- The input colour of a frame (R275): green when it is untagged or has a priority tag (VID 0) only, else that of its outer tag. -/
def State.inputColour (s : State) (m : Meter) (prv : BitVec 256) : Nat :=
  let bits := fun hi lo => (prv.toNat >>> lo) % 2 ^ (hi + 1 - lo)
  let tags := bits 229 228
  if tags = 0 ∨ (tags = 1 ∧ bits 219 208 = 0) then 0
  else if !m.csrc then bits 220 220
  else min 2 ((s.get F.POL_PCP_COLOUR_MAP / 4 ^ bits 223 221) % 4)

/-- The least value of a bucket, −15,936 bytes (R273). -/
def bucketFloor : Int := -15936000000

/-- The bytes received after stage 5 are debited, without accrual, from the buckets that the decision debited (R273). -/
def State.lateDebit (s : State) (f : Frame) : State :=
  if f.dec.meterEn ∧ f.debited ≠ 0 then
    let m := s.meter f.dec.meter
    let b := toUnit (f.rx.length - f.ldec)
    let m := { m with tp := max (m.tp - b) bucketFloor }
    s.setMeter f.dec.meter (if f.debited = 2 then { m with tc := max (m.tc - b) bucketFloor } else m)
  else s

/-! ## Memory errors (R283) -/

/-- A double-bit error in an entry that a frame uses. -/
def State.polError (s : State) (table index : Nat) : State :=
  (s.capture F.POL_ERR_VALID F.POL_ERR_MULTI (BitVec.ofNat 32 (table * 2 ^ 14 + index))).evt F.POL_EVT_ECC_UNC

/-- A double-bit error stays with entry `i` of bank `b` of schedule `k` until a WRITE; the list that a change has replaced keeps it too. -/
def State.schedMark (s : State) (k i : Nat) (bank1 : Bool) : State :=
  let x := s.sched k
  let mark := fun t => tabSet {} t i { tabGet ({} : SchedEntry) t i with ecc := true }
  s.setSched k (if bank1 then { x with bank1 := mark x.bank1 } else { x with bank0 := mark x.bank0 })

/-- The bank of schedule `k` that a READ or WRITE names: the operative one (`ver`) or the administrative one. -/
def State.schedBank (s : State) (k : Nat) (ver : Bool) : Bool := (s.get F.POL_SGS_STAT_BANK k != 0) == ver

/-- The error that the read of a meter, filter, gate or schedule entry meets: single-bit errors are corrected and counted; a double-bit
one stays with it. `ver`: the operative bank of a schedule. -/
def State.polUpset (s : State) (table index : Nat) (ver double : Bool) : State :=
  if !double then s.inc F.POL_ECC_CNT_COUNT
  else match table with
    | 0 => s.setMeter index { s.meter index with ecc := true }
    | 1 => s.setFilter index { s.filter index with ecc := true }
    | 2 => s.setGate index { s.gate index with ecc := true }
    | _ => s.schedMark (index / 256) (index % 256) (s.schedBank (index / 256) ver)

/-- The error that a frame stamped `t` meets in the entry of schedule `k` that is in force for it: in the operative bank, or in the
administrative one, which holds the list that a change installs and, after a change, the one that it replaced. -/
def State.schedUpset (s : State) (k : Nat) (t : Int) (double : Bool) : State :=
  let i := s.schedIndex k t
  let x := s.sched k
  let old := match x.old with | some o => decide (t < o.tx) | none => false
  let next := match x.pend with | some c => decide (c.tx ≤ t) | none => false
  if !double then s.inc F.POL_ECC_CNT_COUNT
  else if old then
    let s := s.setSched k { x with old := x.old.map (fun o =>
      { o with list := tabSet {} o.list i { tabGet ({} : SchedEntry) o.list i with ecc := true } }) }
    s.schedMark k i (s.schedBank k false)
  else s.schedMark k i (s.schedBank k (!next))

/-! ## Stage 5 for one frame (R271) -/

/-- What a step of stage 5 decides: go on, or drop under a code. -/
inductive PolResult where
  | pass (s : State)
  | drop (code : Nat) (s : State)

/-- The filter step. -/
def State.filterStep (s : State) (f : Frame) (ldec : Nat) : PolResult :=
  if f.dec.hit ∧ f.dec.filterEn ∧ f.cfg.mode ≠ modeBRIDGE then
    let k := f.dec.filter
    let x := s.filter k
    if x.ecc then .drop 0x22 (s.polError 1 k)
    else
      let x := { x with matchN := wrap32 (x.matchN + 1) }
      if x.blocked then .drop 0x22 (s.setFilter k { x with notPassSdu := wrap32 (x.notPassSdu + 1) })
      else if x.maxSdu ≠ 0 ∧ x.maxSdu < ldec then
        let x := { x with notPassSdu := wrap32 (x.notPassSdu + 1) }
        if x.blockOvs then .drop 0x21 ((s.setFilter k { x with blocked := true }).evt F.POL_EVT_BLOCKED)
        else .drop 0x21 (s.setFilter k x)
      else .pass (s.setFilter k { x with passSdu := wrap32 (x.passSdu + 1) })
  else .pass s

/-- The gate step; it may replace the queue. -/
def State.gateStep (s : State) (k : Nat) (f : Frame) : PolResult :=
  if f.dec.hit ∧ f.dec.gateEn ∧ f.cfg.mode ≠ modeBRIDGE then
    let n := f.dec.gate
    let g := s.gate n
    let e := if g.schedEn && !g.closedInv then s.schedEntry g.sched f.time else none
    if g.ecc then .drop 0x22 (s.polError 2 n)
    else if e.any (fun e => e.ecc) then .drop 0x22 (s.polError 3 (256 * g.sched + s.schedIndex g.sched f.time))
    else
      let x := s.filter f.dec.filter
      let (isOpen, ipv) := s.gateState n f.time
      if !isOpen then
        let s := if f.dec.filterEn then s.setFilter f.dec.filter { x with notPass := wrap32 (x.notPass + 1) } else s
        .drop 0x23 (if g.closeInvEn ∧ !g.closedInv then (s.setGate n { g with closedInv := true }).evt F.POL_EVT_GATE_INV else s)
      else
        let s := if f.dec.filterEn then s.setFilter f.dec.filter { x with passN := wrap32 (x.passN + 1) } else s
        .pass (match ipv with
          | some q => s.modFrame k (fun f => { f with dec := { f.dec with queue := q } })
          | none => s)
  else .pass s

/-- The meter step (R273, R275, R278). -/
def State.meterStep (s : State) (k : Nat) (f : Frame) (ldec : Nat) : PolResult :=
  if f.dec.hit ∧ f.dec.meterEn then
    let n := f.dec.meter
    let m := s.meter n
    if m.ecc then .drop 0x20 (s.polError 0 n)
    else
      let m := accrue m f.time
      let (colour, m) := meterColour m (ldec + s.get F.POL_OVERHEAD_OVH) (s.inputColour m f.prv)
      let s := (s.setMeter n m).inc F.POL_COLOUR_CNT_COUNT colour
      let s := s.modFrame k (fun f => { f with colour := colour, ldec := ldec, debited := 2 - colour })
      let x := s.filter f.dec.filter
      let s := if colour = 2 ∧ f.dec.filterEn ∧ f.cfg.mode ≠ modeBRIDGE then
        s.setFilter f.dec.filter { x with redN := wrap32 (x.redN + 1) } else s
      if colour = 2 ∧ m.redAct = false then .drop 0x20 s else .pass s
  else .pass s

/-- Stage 5 acts on frame `k` (R271). A frame on the slow path takes no policing (R127). -/
def State.policeFrame (s : State) (k : Nat) : State :=
  match s.frame k with
  | none => s
  | some f =>
    if f.stage != .looked then s
    else if f.slow ≠ 0 then s.setFrame k (some { f with stage := .policed })
    else
      let ldec := f.rx.length
      let s := s.modFrame k (fun f => { f with ldec := ldec, stage := .policed })
      match s.filterStep f ldec with
      | .drop c s => s.dropFrame k c
      | .pass s =>
        match s.gateStep k f with
        | .drop c s => s.dropFrame k c
        | .pass s =>
          match s.meterStep k f ldec with
          | .drop c s => s.dropFrame k c
          | .pass s => s

/-! ## The late SDU excess (R274) -/

/-- A policed frame's received length exceeds the MAX_SDU of its filter. -/
def State.sduExceeds (s : State) (f : Frame) : Bool :=
  f.dec.hit && f.dec.filterEn && decide (f.cfg.mode ≠ modeBRIDGE) && (f.stage == .policed || f.stage == .admitted)
    && decide ((s.filter f.dec.filter).maxSdu ≠ 0) && decide ((s.filter f.dec.filter).maxSdu < f.rx.length)
    && decide (f.ldec ≤ (s.filter f.dec.filter).maxSdu) && !f.sduLate

/-- The frame's copies in transmission. -/
def State.txCount (s : State) (k : Nat) : Nat :=
  s.ports.foldl (fun a e =>
    a + ((laneTxs e.2).filter (fun x => (txOf (some x) k).isSome)).length) 0

/-- The handling of a late excess (R274): every copy not yet in transmission goes, the others count as late, the filter's counts move (DEDUCED,
log entry 137). -/
def State.lateSdu (s : State) (k : Nat) : State :=
  match s.frame k with
  | none => s
  | some f =>
    let linked := s.countCopies k (fun _ => true)
    let sent := s.txCount k
    let x := s.filter f.dec.filter
    let x := { x with passSdu := wrap32 (x.passSdu + 2 ^ 32 - 1), notPassSdu := wrap32 (x.notPassSdu + 1) }
    let s := if x.blockOvs then (s.setFilter f.dec.filter { x with blocked := true }).evt F.POL_EVT_BLOCKED
      else s.setFilter f.dec.filter x
    let s := s.modFrame k (fun f => { f with sduLate := true })
    let s := if sent ≠ 0 then (s.inc F.POL_SDU_LATE_COUNT (n := sent)).evt F.POL_EVT_SDU_LATE else s
    if f.stage == .policed then s.dropFrame k 0x21
    else if linked ≠ 0 then
      let s := s.captureDrop k 0x21
      let s := s.modFrame k (fun f => { f with drop := 0x21 })
      (s.dropCount 0x21).removeFrameCopies k (fun _ => true)
    else s

/-! ## The policing window (R277, R286, R287) -/

/-- Entries of a table. -/
def polEntries (table : Nat) : Nat :=
  match table with
  | 0 => 8192
  | 1 => 16384
  | 2 => 1024
  | _ => 4096

/-- A bucket in whole bytes, rounded toward zero, as 32 bits of two's complement. -/
def bucketWord (t : Int) : Nat := (BitVec.ofInt 32 (t.tdiv 1000000)).toNat

/-- Bits of an entry image given as words. -/
def imageBits (ws : List Word) (hi lo : Nat) : Nat :=
  ((ws.foldr (fun w a => w.toNat + 2 ^ 32 * a) 0) >>> lo) % 2 ^ (hi + 1 - lo)

/-- An entry image as eight words. -/
def imageWords (n v : Nat) : List Word := (List.range n).map (fun i => BitVec.ofNat 32 (v >>> (32 * i)))

/-- The image of an entry (R287). `ver`: the operative bank of a schedule. -/
def State.polImage (s : State) (table index : Nat) (ver : Bool) : Nat :=
  match table with
  | 0 =>
    let m := s.meter index
    m.cir + m.pir * 2 ^ 24 + m.cbs * 2 ^ 48 + m.pbs * 2 ^ 72 + (if m.cm then 2 ^ 96 else 0) + (if m.csrc then 2 ^ 97 else 0)
      + (if m.redAct then 2 ^ 98 else 0) + bucketWord m.tc * 2 ^ 128 + bucketWord m.tp * 2 ^ 160
  | 1 =>
    let f := s.filter index
    f.maxSdu + (if f.blockOvs then 2 ^ 14 else 0) + (if f.blocked then 2 ^ 15 else 0) + f.matchN * 2 ^ 64 + f.passN * 2 ^ 96
      + f.notPass * 2 ^ 128 + f.passSdu * 2 ^ 160 + f.notPassSdu * 2 ^ 192 + f.redN * 2 ^ 224
  | 2 =>
    let g := s.gate index
    g.sched + g.col * 16 + (if g.adminOpen then 2 ^ 8 else 0) + (if g.schedEn then 2 ^ 9 else 0)
      + (if g.closeInvEn then 2 ^ 10 else 0) + (if g.closedInv then 2 ^ 11 else 0)
  | _ =>
    let k := index / 256
    let e := tabGet {} (if ver then s.schedOper k else s.schedAdm k) (index % 256)
    e.interval + e.states * 2 ^ 32 + e.ipv * 2 ^ 48 + (if e.ipvEn then 2 ^ 51 else 0)

/-- The entry carries an uncorrectable error (R283). -/
def State.polEcc (s : State) (table index : Nat) (ver : Bool) : Bool :=
  match table with
  | 0 => (s.meter index).ecc
  | 1 => (s.filter index).ecc
  | 2 => (s.gate index).ecc
  | _ => (tabGet {} (if ver then s.schedOper (index / 256) else s.schedAdm (index / 256)) (index % 256)).ecc

/-- The bits of an image that are neither fields nor state: they must be 0 (R286, R287). -/
def polRsvd (table : Nat) (ws : List Word) : Nat :=
  match table with
  | 0 => imageBits ws 127 99 + imageBits ws 255 192
  | 1 => imageBits ws 63 16
  | 2 => imageBits ws 255 12
  | _ => imageBits ws 255 52

/-- A WRITE of a meter (R277). -/
def writeMeter (m : Meter) (ws : List Word) (resetFull : Bool) (now : Int) : Meter :=
  let n : Meter := { cir := imageBits ws 23 0, pir := imageBits ws 47 24, cbs := imageBits ws 71 48, pbs := imageBits ws 95 72,
                     cm := imageBits ws 96 96 == 1, csrc := imageBits ws 97 97 == 1, redAct := imageBits ws 98 98 == 1,
                     tc := m.tc, tp := m.tp, tlast := m.tlast }
  if n.cir ≠ m.cir ∨ n.pir ≠ m.pir then
    { n with tc := if resetFull then toUnit n.cbs else 0, tp := if resetFull then toUnit n.pbs else 0, tlast := now }
  else if n.cbs ≠ m.cbs ∨ n.pbs ≠ m.pbs then
    { n with tc := min m.tc (toUnit n.cbs), tp := min m.tp (toUnit n.pbs) }
  else n

/-- A WRITE of the policing window: its STATUS and the state after it (R277, R286, R287). -/
def State.polWrite (s : State) (table index : Nat) (ws : List Word) : Nat × State :=
  if polRsvd table ws ≠ 0 then (3, s)
  else match table with
    | 0 =>
      if imageBits ws 47 24 < imageBits ws 23 0 then (3, s)
      else (0, s.setMeter index (writeMeter (s.meter index) ws (s.bit F.POL_CFG_RESET_TO) s.now))
    | 1 =>
      let m := imageBits ws 13 0
      if 1 ≤ m ∧ m ≤ 63 then (3, s)
      else (0, s.setFilter index { s.filter index with maxSdu := min m 16000, blockOvs := imageBits ws 14 14 == 1, ecc := false })
    | 2 =>
      (0, s.setGate index { s.gate index with
        sched := imageBits ws 3 0, col := imageBits ws 7 4, adminOpen := imageBits ws 8 8 == 1,
        schedEn := imageBits ws 9 9 == 1, closeInvEn := imageBits ws 10 10 == 1, ecc := false })
    | _ =>
      let k := index / 256
      if s.bit F.POL_SGS_STAT_CHG_PEND k then (4, s)
      else
        let e : SchedEntry := { interval := imageBits ws 31 0, states := imageBits ws 47 32, ipv := imageBits ws 50 48,
                                ipvEn := imageBits ws 51 51 == 1 }
        let x := s.sched k
        (0, s.setSched k (if s.get F.POL_SGS_STAT_BANK k = 0 then { x with bank1 := tabSet {} x.bank1 (index % 256) e }
          else { x with bank0 := tabSet {} x.bank0 (index % 256) e }))

/-- Set POL_DATA0 to POL_DATA7. -/
def State.polData (s : State) (v : Nat) : State :=
  (List.range 8).foldl (fun s i => s.put F.POL_DATA_DATA ((v >>> (32 * i)) % 2 ^ 32) i) s

/-- What a window command does, and its STATUS (R286). -/
def State.polDo (s : State) (c : WinCmd) : Nat × State :=
  let op := getBits c.word 3 0
  let table := getBits c.word 5 4
  let ver := getBits c.word 6 6 == 1
  let f := s.filter c.index
  let g := s.gate c.index
  if op = 0 then (0, s)
  else if 5 ≤ op ∨ (op = 2 ∧ ver) ∨ (op = 3 ∧ table ≠ 1 ∧ table ≠ 2) ∨ (op = 4 ∧ table ≠ 1) then (1, s)
  else if polEntries table ≤ c.index then (2, s)
  else if op = 1 then
    (if s.polEcc table c.index ver then 5 else 0, s.polData (s.polImage table c.index ver))
  else if op = 2 then s.polWrite table c.index c.data
  else if op = 3 then
    (0, if table = 1 then s.setFilter c.index { f with blocked := false } else s.setGate c.index { g with closedInv := false })
  else (0, s.setFilter c.index { f with matchN := 0, passN := 0, notPass := 0, passSdu := 0, notPassSdu := 0, redN := 0 })

/-- An accepted write of POL_CMD (R286): INDEX and DATA are sampled, BUSY rises. The command acts at its completion. -/
def State.polAccept (s : State) (w : Word) (host : Nat) : State :=
  let c : WinCmd := { word := w, index := s.get F.POL_INDEX_INDEX, data := (List.range 8).map (fun i => s.reg R.POL_DATA i), host := host }
  { (s.put F.POL_STAT_BUSY 1) with pol := { s.pol with cmd := some c } }

/-- The running command completes: it takes effect for the frames that reach stage 5 from now on, a READ loads its entry, STATUS is reported,
BUSY falls, CMD_DONE is set (R286). `upset`: the error that a READ meets (R283). -/
def State.polComplete (s : State) (upset : Option Bool) : State :=
  match s.pol.cmd with
  | none => s
  | some c =>
    let table := getBits c.word 5 4
    let s := match upset with
      | some d => if getBits c.word 3 0 = 1 ∧ c.index < polEntries table then s.polUpset table c.index (getBits c.word 6 6 == 1) d else s
      | none => s
    let (st, s) := s.polDo c
    let s := { s with pol := { s.pol with cmd := none } }
    ((s.put F.POL_STAT_STATUS st).put F.POL_STAT_BUSY 0).evt F.POL_EVT_CMD_DONE

end Sys2Proof.Machine
end

