-- ==== Sys2Proof/Machine/RxOps.lean ====
section
/-! DEFINITION. A frame from its stamp to its last byte (01_frame_journey.md, 03_ports_and_macs.md R84 to R87): what is common to
frames of a port, of a host and of the other twin. -/

namespace Sys2Proof.Machine

/-! ## A new frame (R21, R22, R25, R46, R87) -/

/-- The PDS takes input frames in the present mode: SERVICE, or HOLD entered from it (R37, R39; DEDUCED, log entry 136). -/
def State.fanInMode (s : State) : Bool :=
  s.mode == modeSERVICE || (s.mode == modeHOLD && s.get F.GLB_MODE_PREV == modeSERVICE)

/-- CUR is about to change at time `t`: frames stamped before it are decided under the mode that ends (R46). -/
def State.noteMode (s : State) (t : Int) : State := { s with md := { s.md with before := some (t, s.mode, s.fanInMode) } }

/-- The mode at time `t`, and whether the PDS took input frames then (R46). -/
def State.modeAt (s : State) (t : Int) : Nat × Bool :=
  match s.md.before with
  | some (u, m, x) => if t < u then (m, x) else (s.mode, s.fanInMode)
  | none => (s.mode, s.fanInMode)

/-- What the decisions about a frame stamped `t` read from the registers: the mode of its stamp, the rest as it stands. -/
def State.stampCfg (s : State) (src : Nat) (t : Int) : StampCfg :=
  { mode := (s.modeAt t).1, fanIn := (s.modeAt t).2, deliverBad := decide (src < 72) && s.bit F.PORT_RXCFG_DELIVER_BAD src,
    badQ := s.get F.PORT_RXCFG_BAD_CPUQ src, pvid := s.get F.LKP_PORT_PVID src, limitAct := s.get F.LKP_PORT_LIMIT_ACT src,
    cpuq := s.reg R.LKP_CPUQ, rmac := s.get F.LKP_RMAC_A_RMAC_HI * 2 ^ 16 + s.get F.LKP_RMAC_B_RMAC_LO, sess := s.sessions false }

/-- A frame record for a frame stamped at time `t`. -/
def State.mkFrame (s : State) (src : Nat) (origin : Origin) (pre : Bool) (maxlen : Nat) (t : Int) : Frame :=
  { src := src, origin := origin, pre := pre, cap := maxlen, maxlen := maxlen, time := t, stamp := ts40 t,
    gen := s.get F.INV_STAT_GEN % 2, epoch := s.epochOf t, cfg := s.stampCfg src t }

/-- Enter a frame; the answer is its number. -/
def State.addFrame (s : State) (f : Frame) : Nat × State :=
  (s.nextFid, { s.setFrame s.nextFid (some f) with nextFid := s.nextFid + 1 })

/-- A frame that the mode keeps out (R39, R49): it stays only to be counted at its last byte. In LOAD it counts under no DROP code. -/
def modeDropped (f : Frame) : Frame := { f with stage := .gone, drop := 0x02, cap := 0 }

/-! ## Error flags (R84) -/

/-- The LENGTH flag: a length field of at most 1,500 against the data length, in the untagged frame's place for it; a frame of fewer than
18 bytes, whose length field overlaps its FCS, is not judged (DEDUCED, log entry 27). -/
def lengthBad (b : List Byte) : Bool :=
  let n := b.length
  let v := beAt b 12 2
  decide (18 ≤ n ∧ v ≤ 1500) && (decide (n - 18 < v) || (decide (64 < n) && decide (v < n - 18)))

/-- The FCS of a received frame matches. -/
def fcsOk (b : List Byte) : Bool := decide (4 ≤ b.length) && leNat (b.drop (b.length - 4)) == (crc32 (b.take (b.length - 4))).toNat

/-- The seven flags of a frame at its last byte. -/
def errorFlags (b : List Byte) (maxlen : Nat) (align code reasm : Bool) : Nat :=
  (if fcsOk b then 0 else 1) + (if 14 ≤ b.length ∧ b.length ≤ 63 then 2 else 0) + (if maxlen < b.length then 4 else 0)
    + (if align then 8 else 0) + (if code then 16 else 0) + (if reasm then 32 else 0) + (if lengthBad b then 64 else 0)

/-! ## Bad frames (R35, R85, R86, R222, R223) -/

/-- Byte MAXLEN + 1 has been received (R86): the frame is bad from now on, and a copy being cut through ends stomped. -/
def State.oversize (s : State) (k : Nat) : State :=
  match s.frame k with
  | none => s
  | some f =>
    if f.maxlen < f.rx.length ∧ f.flags.testBit 2 = false then
      (s.setFrame k (some { f with flags := f.flags + 4, bad := true })).stompFrame k f.maxlen false
    else s

/-- The number of good bytes that a stomped copy sends of a bad frame: all but its FCS, or what is stored if it was cut short
(DEDUCED, log entry 20). -/
def goodBytes (f : Frame) : Nat := if f.rx.length ≤ f.cap then f.rx.length - 4 else storedLen f

/-- Deliver a bad frame by one copy on the CPU queue for bad frames (R35, R85). Its stored copies go without a DROP code. The copy
keeps the frame's written cells; the class C edit record stands in its head cell. -/
def State.deliverBad (s : State) (k : Nat) : State :=
  match s.frame k with
  | none => s
  | some f =>
    let f := { f with stage := .admitted, slow := 0, dec := { f.dec with cpuq := f.cfg.badQ, cause := 0, slow := 0 } }
    let f := { f with edits := (List.range 4).map (fun _ => editRec f 2) }
    let s := ((s.setFrame k (some (liveAdd f f.headCls))).addRefs k f.headCls)
    let s := s.removeFrameCopies k mainCopy
    match s.frame k with
    | none => s
    | some f =>
      let n := 592 + f.cfg.badQ
      match s.admitTest n f.begun 0 with
      | (0, _) =>
        let s := s.setFrame k (some (liveSub f f.headCls))
        (s.linkCopy n { fid := k, cls := f.headCls } f.begun).count 0x45 n
      | (code, _) =>
        let s := (s.refuse { fid := k } code).count 0x46 n
        let s := s.releaseRefs f { fid := k, cls := f.headCls }
        (s.modFrame k (fun f => liveSub f f.headCls)).settle k

/-- A frame is found bad at its last byte (R35, R85): copies in transmission end stomped, the stored ones go, and the frame is
delivered or counts once under DROP_BAD_FRAME. A frame that an earlier exit has taken keeps its code (R34). Mirror copies and TWIN
copies stay (DEDUCED, log entry 21). `port`: counters 20 and 21 are the port's. -/
def State.badFrame (s : State) (k port : Nat) : State :=
  match s.frame k with
  | none => s
  | some f =>
    let s := s.stompFrame k (goodBytes f) false
    if f.drop ≠ 0 ∨ f.stage = .gone then (s.removeFrameCopies k mainCopy).settle k
    else if f.cfg.deliverBad ∧ 14 ≤ f.rx.length then
      let s := if port < 72 then s.portCnt port 20 else s
      let s := s.deliverBad k
      if f.stage != .admitted && f.fwd then s.admitMirror (fwdList f) { fid := k, cls := f.headCls, twin := true } else s
    else
      let s := if port < 72 then s.portCnt port 21 else s
      let s := s.dropCount 0x01
      let early := f.stage != .admitted
      let s := if early then s.digestInput k f 0x01 else s
      let s := if early ∧ f.fwd then s.addRefs k f.headCls else s
      let s := s.modFrame k (fun f => { f with drop := 0x01, stage := if early then .gone else f.stage })
      let s := s.captureDrop k 0x01
      let s := s.removeFrameCopies k mainCopy
      s.settle k

/-! ## The last byte -/

/-- A frame's last byte has been received, with its flags (R84 to R86): it is DONE, or bad. A good frame issues its learning request
(R157) and its late debit (R273). -/
def State.frameDone (s : State) (k flags port : Nat) : State :=
  match s.frame k with
  | none => s
  | some f =>
    let bad := flags ≠ 0 ∨ f.rx.length < 14
    let s := s.setFrame k (some { f with done := true, flags := flags, bad := decide bad })
    let s := s.lateDebit f
    if bad then s.badFrame k port else (s.learnIssue k).settle k

/-- Discard a frame that the device holds, without a DROP code: its copies that have not started go. -/
def State.discardFrame (s : State) (k : Nat) : State :=
  let s := s.dropHold k
  let s := s.modFrame k (fun f => if f.stage = .admitted then f else { f with stage := .gone, cap := min f.cap f.rx.length })
  (s.removeFrameCopies k (fun _ => true)).settle k

/-! ## Stages 4 and 5 (R143, R271) -/

/-- Stage 4 takes the oldest frame of a pipeline. `parity`: the slots, by table and index, whose stored parity has failed (R169). -/
def State.stage4 (s : State) (pl : Nat) (parity : List (Nat × Nat)) : State :=
  match (s.pipe pl).st4 with
  | [] => s
  | k :: rest =>
    let s := parity.foldl (fun s e =>
      if e.1 < 9 ∧ e.2 < tblSlots e.1 then s.setSlot e.1 e.2 { s.slot e.1 e.2 with perr := true } else s) s
    let needs : Bool := match s.frame k with
      | some f => f.stage == .parsed && f.slow == 0
      | none => false
    let s := if s.underTest 0 && needs then s.dropFrame k 0x02 else s.lookupFrame pl k
    s.setPipe pl { s.pipe pl with st4 := rest, st5 := (s.pipe pl).st5 ++ [k] }

/-- Stage 5 takes the oldest frame of a pipeline. `upset`: a policing memory (0 meters, 1 filters, 2 gates, 3 schedules) whose entry
for this frame meets an error, and whether it is a double-bit one (R283). -/
def State.stage5 (s : State) (pl : Nat) (upset : Option (Nat × Bool)) : State :=
  match (s.pipe pl).st5 with
  | [] => s
  | k :: rest =>
    let s : State := match upset, s.frame k with
      | some (t, double), some f =>
        let e := match t with
          | 0 => f.dec.meter
          | 1 => f.dec.filter
          | _ => f.dec.gate
        if f.stage != .looked then s
        else if t = 3 then s.schedUpset (s.gate f.dec.gate).sched f.time double
        else s.polUpset t e true double
      | _, _ => s
    let s := s.policeFrame k
    let s : State := match s.frame k with
      | some f => if f.stage == .policed then s.digestInput k f 0 else s
      | none => s
    s.setPipe pl { s.pipe pl with st5 := rest, st6 := (s.pipe pl).st6 ++ [k] }

end Sys2Proof.Machine
end

