-- ==== Sys2Proof/Machine/TwnOps.lean ====
section
/-! DEFINITION. The twin controller and the Dvorfaza link (14_twin_lockstep.md): link frames, the order log, forwarding,
attachments, digests, roles and switch-over. -/

namespace Sys2Proof.Machine

def State.setTwn (s : State) (t : TwnState) : State := { s with twn := t }

/-- A counter TWN_CNTk (R429). -/
def State.twnCnt (s : State) (k : Nat) (n : Nat := 1) : State := s.inc F.TWN_CNT_COUNT k (n := n)

/-- Causes (R428). -/
def causeHB_TIMEOUT : Nat := 1
def causeLINK_DOWN : Nat := 2
def causeCRITICAL : Nat := 3
def causeDIVERGED : Nat := 4
def causeLOG_LOST : Nat := 5
def causeLATE_RECORD : Nat := 6
def causeUNRESOLVED : Nat := 7
def causeFENCED : Nat := 8
def causeDUAL_ACTIVE : Nat := 9
def causeDISABLED : Nat := 10
def causeIMAGE_MISMATCH : Nat := 11
def causeSWAP : Nat := 12

/-- Record a cause; `peer` says that the peer reported it. -/
def State.cause (s : State) (c : Nat) (peer : Bool := false) : State :=
  (s.put F.TWN_CAUSE_CAUSE c).put F.TWN_CAUSE_PEER (if peer then 1 else 0)

/-! ## Link frames (R401 to R403) -/

/-- The words of a link frame: header, payload, trailer with the CRC-32C. -/
def linkWords (type lseq h : Nat) (pl : List Nat) : List Nat :=
  let ws := (type * 2 ^ 60 + lseq * 2 ^ 52 + pl.length * 2 ^ 44 + h) :: pl
  ws ++ [(crc32c (ws.flatMap (beBytes 8))).toNat * 2 ^ 32]

/-- The order in which frames leave (R403): FAIL, HEARTBEAT, CMD, LOG, window segments, DIGEST, SEEN, body segments, SYNC. -/
def linkRank (type h : Nat) : Nat :=
  match type with
  | 8 => 0
  | 1 => 1
  | 6 => 2
  | 2 => 3
  | 4 => if h.testBit 27 then 4 else 7
  | 5 => 5
  | 3 => 6
  | _ => 8

/-- A frame waits for the transmitter. A transmitter whose link is down takes nothing. -/
def State.linkQueue (s : State) (m : LinkMsg) : State :=
  if s.bit F.TWN_STAT_LINK then s.setTwn { s.twn with txq := s.twn.txq ++ [m] } else s

/-- Send a link frame. -/
def State.sendLink (s : State) (type h : Nat) (pl : List Nat) : State := s.linkQueue { type := type, h := h, pl := pl }

/-- Elapsed time in ps. -/
def State.elapsedPs (s : State) : Nat := s.inv.ticks * 2000

/-- A frame leaves: it takes its LSEQ, and the link is busy for 1.28 ns a word (R400). A SYNC message counts as the longest frame. A
heartbeat's BASE is from now on the reference of the tags and commands that follow it (R404, R411). -/
def State.linkSend (s : State) (m : LinkMsg) : State :=
  let n := tabGet 0 s.twn.lseqOut m.type
  let words := if m.type = 7 then 34 else m.pl.length + 2
  let start := if s.twn.linkFree + 2000 ≤ s.elapsedPs then s.elapsedPs else s.twn.linkFree
  let h := match m.arr with | some a => m.h + (a + 2 ^ 48 - s.twn.baseOut) % 1024 * 2 ^ 30 | none => m.h
  let base := if m.type = 1 then m.pl.headD 0 / 2 ^ 16 else s.twn.baseOut
  let s := s.setTwn { s.twn with lseqOut := tabSet 0 s.twn.lseqOut m.type ((n + 1) % 256), linkFree := start + words * 1280, baseOut := base }
  s.emit (if m.type = 7 then .sync n (m.arr.getD 0) m.sync else .dvorfaza m.type (linkWords m.type n h m.pl))

/-- The oldest of the waiting frames of lowest rank. -/
def linkBest (q : List LinkMsg) : Option LinkMsg :=
  let low := q.foldl (fun a m => min a (linkRank m.type m.h)) 9
  q.find? (fun m => linkRank m.type m.h == low)

/-- The tags that wait leave in a LOG frame, sixteen at most (R402, R404). -/
def State.logSend (s : State) : State :=
  let tags := s.twn.tagsOut.take 16
  let words := tags.map (fun t => (t.arr + 2 ^ 48 - s.twn.baseOut) % 2 ^ 48 % 1024 * 2 ^ 54 + t.low)
  (s.setTwn { s.twn with tagsOut := s.twn.tagsOut.drop 16 }).linkSend { type := 2, h := 0, pl := words }

/-- One tick of the transmitter (R403): once it is free, the waiting frame of lowest rank leaves. -/
def State.linkServe (s : State) : State :=
  if !s.bit F.TWN_STAT_LINK || decide (s.elapsedPs < s.twn.linkFree) then s
  else
    match linkBest s.twn.txq with
    | some m =>
      if !s.twn.tagsOut.isEmpty ∧ 3 < linkRank m.type m.h then s.logSend
      else (s.setTwn { s.twn with txq := s.twn.txq.erase m }).linkSend m
    | none => if s.twn.tagsOut.isEmpty then s else s.logSend

/-- An episode begins: the FAIL messages that wait leave before the transmitter stops (R419). -/
def State.failFlush (s : State) : State :=
  (s.twn.txq.filter (fun m => m.type == 8)).foldl State.linkSend
    (s.setTwn { s.twn with txq := s.twn.txq.filter (fun m => m.type != 8) })

/-- Send FAIL with a cause. -/
def State.sendFail (s : State) (c : Nat) : State := s.sendLink 8 (c * 2 ^ 36) []

/-- Send a CMD (R411, R413): OP, the acceptance cycle, and the rest of H. -/
def State.sendCmd (s : State) (op low : Nat) (pl : List Nat) : State :=
  s.linkQueue { type := 6, h := op * 2 ^ 40 + low, pl := pl, arr := some s.tcc }

/-- IMGK (R549): the CRC-32C over IMG_VER, TIN_UCODE_CRC, IMG_PATCH_CNT and IMG_PATCH_CRC, each most significant byte first. -/
def State.imgKey (s : State) : Nat :=
  let ws := [s.reg R.IMG_VER, s.reg R.TIN_UCODE_CRC, s.reg R.IMG_PATCH_CNT, s.reg R.IMG_PATCH_CRC]
  (crc32c (ws.flatMap (fun w => beBytes 4 w.toNat))).toNat

/-- A heartbeat (R402): its BASE is the present TCC. -/
def State.heartbeat (s : State) : State :=
  let d := s.dom 0
  (s.setTwn { s.twn with hbSent := some s.inv.ticks }).sendLink 1 (s.role * 2 ^ 41 + s.mode * 2 ^ 38 + s.get F.TWN_STAT_HOLDING * 2 ^ 37)
    [s.tcc * 2 ^ 16 + d.frac / 2 ^ 32, d.sec * 2 ^ 16, d.ns * 2 ^ 34 + s.imgKey]

/-- HEARTBEAT_SEND: due every 256 ns in a twin role (R402). -/
def State.heartbeatSend (s : State) : State :=
  let due : Bool := match s.twn.hbSent with | some t => decide (t + 128 ≤ s.inv.ticks) | none => true
  if s.role ≠ roleOFF ∧ s.role ≠ roleBAD ∧ due then s.heartbeat else s

/-! ## Roles (R398) -/

/-- Enter a role; the commit machine follows it (R186), and the TIO outputs stop in SHADOW and STANDBY (R405). -/
def State.setRole (s : State) (r : Nat) : State :=
  if s.role = r then s
  else
    let s := if r = roleACTIVE ∨ r = roleSOLO then s.tioUnfence else if r = roleSHADOW ∨ r = roleSTANDBY then s.tioFence else s
    ((s.put F.TWN_STAT_ROLE r).evt F.TWN_EVT_ROLE_CHG).epochRole

/-- The role OFF: the receive side is forgotten. -/
def State.roleOff (s : State) : State :=
  let s := s.setRole roleOFF
  let s := s.twn.held.foldl (fun s h => s.discardFrame h.fid) s
  let t := s.twn
  (s.setTwn { t with log := [], held := [], tagsOut := [], synced := false, syncs := [], seenWait := [], seen := [], cmds := [], items := [], own := [], peer := [], okRun := 0,
                     digNum := none, cut := none, pairAt := none, lagging := false, advances := [] }).put F.TWN_LAG_LAG 0

/-- Leave a role through a CORE episode of the twin command source (R398). -/
def State.roleCore (s : State) : State := (s.setRole roleOFF).rstDue 5

/-- HOLD is entered (R40, R43, R421 step 1): a requested transition in progress is preempted. -/
def State.enterHold (s : State) : State :=
  let s := if s.bit F.GLB_MODE_TRANSIT then
      (((s.put F.GLB_MODE_TRANSIT 0).put F.GLB_MODE_STAT_REASON 8).evt F.GLB_MODE_STAT_REFUSED)
    else s
  let cur := s.mode
  if cur = modeSCHEDULED ∨ cur = modeSERVICE then
    let s := ((s.noteMode s.now).put F.GLB_MODE_PREV cur).put F.GLB_MODE_CUR modeHOLD
    let s := (s.tioHold.put F.GLB_MODE_TARGET modeHOLD).put F.GLB_MODE_FORCED 1
    let s := (s.put F.TWN_STAT_HOLDING 1).evt2 F.GLB_MODE_STAT_DONE F.GLB_MODE_STAT_FORCED
    { s with md := { s.md with ts := none, accept := none, gate := none }, twn := { s.twn with holdAt := s.inv.ticks, lastRel := s.inv.ticks } }
  else s

/-- Assert TWF_O for 10 µs, which FENCE_EN drives (R420, R428). -/
def State.assertFence (s : State) : State :=
  if s.bit F.TWN_CTRL_FENCE_EN then (s.setTwn { s.twn with twfO := some s.inv.ticks }).emit (.pin "TWF_O" true) else s

/-- TWF_O is released 10 µs after it was asserted. -/
def State.releaseFence (s : State) : State :=
  match s.twn.twfO with
  | some t => if t + 5000 ≤ s.inv.ticks then (s.setTwn { s.twn with twfO := none }).emit (.pin "TWF_O" false) else s
  | none => s

/-- A lockstep divergence of a device in role SHADOW or STANDBY (R418): FAIL(DIVERGED), role BAD, a CORE episode of its own source. -/
def State.diverge (s : State) (c : Nat) : State :=
  if s.isLogged then
    let s := if 5 ≤ c ∧ c ≤ 7 then s.twnCnt 12 else s
    let s := ((s.cause c).evt F.TWN_EVT_DIVERGED).sendFail causeDIVERGED
    (s.setRole roleBAD).rstDue 10
  else s

/-- The ACTIVE device learns of a divergence (R418): it goes on alone, tells the peer to reset and fences it. -/
def State.peerDiverged (s : State) (peer : Bool) : State :=
  if s.isActive then
    let s := ((s.cause causeDIVERGED peer).evt F.TWN_EVT_DIVERGED).setRole roleSOLO
    (s.sendCmd 4 causeDIVERGED []).assertFence
  else s

/-- The peer has failed (R398, R419, R421). -/
def State.peerFailed (s : State) (c : Nat) (peer : Bool) : State :=
  let s := (s.put F.TWN_STAT_PEER 0).setTwn { s.twn with hbRecv := none, cut := if s.role = roleSOLO then none else s.twn.cut, synced := false }
  if s.role = roleSTANDBY then
    let s := ((s.cause c peer).evt F.TWN_EVT_PEER_LOST).evt F.TWN_EVT_PROMOTED
    (((s.twnCnt 14).setRole roleSOLO).enterHold).assertFence
  else if s.role = roleACTIVE then ((s.cause c peer).evt F.TWN_EVT_PEER_LOST).setRole roleSOLO
  else if s.role = roleOFF ∨ s.role = roleBAD then s
  else (s.cause c peer).evt F.TWN_EVT_PEER_LOST

/-- LSEQ of a received frame (R403): a gap in LOG, CMD or SYNC diverges a lagging device, any other is counted. Answers whether the
frame is to be acted on. -/
def State.takeLseq (s : State) (type lseq : Nat) : State :=
  let e := tabGet 256 s.twn.lseqIn type
  let s := s.setTwn { s.twn with lseqIn := tabSet 256 s.twn.lseqIn type ((lseq + 1) % 256) }
  if e = 256 ∨ e = lseq then s
  else if (type = 2 ∨ type = 6 ∨ type = 7) ∧ s.isLogged = true then s.diverge causeLOG_LOST
  else (s.twnCnt 8).evt F.TWN_EVT_LINK_ERR

/-! ## Attachments (R414 to R416) -/

/-- The attachment of a port. -/
def State.attOf (s : State) (p : Nat) : Option Nat :=
  (List.range 16).find? (fun c => s.bit F.TWN_ATT_A_EN c && (s.get F.TWN_ATT_A_PORT_A c == p || s.get F.TWN_ATT_A_PORT_B c == p))

/-- The two ports of an attachment. -/
def State.attPorts (s : State) (c : Nat) : List Nat := [s.get F.TWN_ATT_A_PORT_A c, s.get F.TWN_ATT_A_PORT_B c]

/-- The offset of the EtherType after the outer VLAN tag, where the HSR tag stands. -/
def hsrOff (b : List Byte) : Nat := if beAt b 12 2 = 0x8100 ∨ beAt b 12 2 = 0x88A8 then 16 else 12

/-- The sequence number of a frame's HSR tag (IEC 62439-3 Clause 5). -/
def hsrSeq (b : List Byte) : Option Nat :=
  let o := hsrOff b
  if beAt b o 2 = 0x892F ∧ o + 6 ≤ b.length then some (beAt b (o + 4) 2) else none

/-- The sequence number of a frame's PRP trailer, the six bytes before the FCS (IEC 62439-3 Clause 4). -/
def prpSeq (b : List Byte) : Option Nat :=
  let n := b.length
  if 24 ≤ n ∧ beAt b (n - 6) 2 = 0x88FB ∧ (beAt b (n - 8) 1 / 16 = 0xA ∨ beAt b (n - 8) 1 / 16 = 0xB) then some (beAt b (n - 10) 2)
  else none

/-- The key of a frame received on an attachment (R415): attachment, source address, sequence number. A frame without a tag or
trailer has none. -/
def State.attKey (s : State) (f : Frame) : Option (Nat × Nat × Nat) :=
  match f.origin, s.attOf f.src with
  | .hostSw _, _ => none
  | .hostDir _, _ => none
  | _, none => none
  | _, some c =>
    let q := if s.get F.TWN_ATT_A_MODE c = 0 then hsrSeq f.rx else if f.done then prpSeq f.rx else none
    q.map (fun n => (c, beAt f.rx 6 6, n))

/-- KH: bits [11:0] of the CRC-32C over the source address and the attachment number (R404). -/
def keyHash (c mac : Nat) : Nat := (crc32c (beBytes 6 mac ++ beBytes 1 c)).toNat % 4096

/-- A key is still in force in a table of keys: FORGET is counted in elapsed time. -/
def State.keyLive (s : State) (l : List DupKey) (c mac seq : Nat) : Bool :=
  l.any (fun k => k.att == c && k.mac == mac && k.seq == seq && decide (s.inv.ticks < k.at_ + s.get F.TWN_ATT_B_FORGET c * 500))

/-- Enter a key; the oldest gives way in a full table. -/
def addKey (l : List DupKey) (k : DupKey) : List DupKey :=
  let l := (l.filter (fun x => !(x.att == k.att && x.mac == k.mac && x.seq == k.seq))) ++ [k]
  l.drop (l.length - 8192)

/-- Judge a key against the duplicate table (R415): true for a later copy. -/
def State.dupCheck (s : State) (c mac seq : Nat) : Bool × State :=
  if s.keyLive s.twn.dup c mac seq then (true, s)
  else (false, s.setTwn { s.twn with dup := addKey s.twn.dup { att := c, mac := mac, seq := seq, at_ := s.inv.ticks } })

/-- The next sequence number of an attachment, entered as sent by the pair with the frame's source address (R416). -/
def State.takeSeq (s : State) (c mac : Nat) : Nat × State :=
  let n := (tabGet 0 s.twn.attSeq c + 1) % 65536
  (n, s.setTwn { s.twn with attSeq := tabSet 0 s.twn.attSeq c n,
                            sent := addKey s.twn.sent { att := c, mac := mac, seq := n, at_ := s.inv.ticks } })

/-! ## Order tags and forwarding (R404, R408, R409) -/

/-- The pair's ACTIVE device talks to a peer: the link is up. -/
def State.logs (s : State) : Bool := s.isActive && s.bit F.TWN_STAT_LINK

/-- The tags of one cycle stand in the order of the inputs: pipeline, then port (R24, R417). -/
def insertTag (x : OutTag) : List OutTag → List OutTag
  | [] => [x]
  | y :: t =>
    if x.arr = y.arr ∧ x.pipe * 2 ^ 7 + x.port < y.pipe * 2 ^ 7 + y.port then x :: y :: t else y :: insertTag x t

/-- The order tag of an input that takes its arrival position now waits for its LOG frame; an extra heartbeat goes before a tag whose
ARR_OFS would not fit. -/
def State.orderTag (s : State) (f : Frame) (port kind kh id : Nat) : State :=
  let s := { s with twn := { s.twn with ordered := true } }
  if s.logs then
    let s := if 1023 < s.tcc - s.twn.baseOut ∧ s.twn.txq.all (fun m => m.type != 1) = true then s.heartbeat else s
    let low := ((s.now - f.time).toNat % 2 ^ 17) * 2 ^ 37 + port * 2 ^ 30 + kind * 2 ^ 28 + kh * 2 ^ 16 + id
    (s.setTwn { s.twn with tagsOut := insertTag { arr := s.tcc, pipe := pipeOf f.src, port := port, low := low } s.twn.tagsOut }).twnCnt 0
  else s

/-- A FID for a frame that is forwarded. -/
def State.newFid (s : State) (k : Nat) : Nat × State :=
  let n := s.twn.fidNext
  (n, s.setTwn { s.twn with fidNext := (n + 1) % 65536, fidOf := tabInsert k n s.twn.fidOf })

/-- Words of a byte string, eight bytes each, the last padded with 0. -/
def wordsOf (b : List Byte) : List Nat := (List.range ((b.length + 7) / 8)).map (fun i => beAt b (8 * i) 8)

/-- The payload of the window segment of a frame (R409), with the words that a host frame adds. -/
def windowWords (f : Frame) (extra : List Nat) : List Nat := [f.stamp * 2 ^ 24 + f.src * 2 ^ 17] ++ wordsOf (bytesAt f.rx 0 64) ++ extra

/-- Send the window segment of frame `k`. Answers the FID. -/
def State.sendWindow (s : State) (k : Nat) (words : List Nat) : Nat × State :=
  let (fid, s) := s.newFid k
  (fid, (s.sendLink 4 (fid * 2 ^ 28 + 2 ^ 27) words).twnCnt 1)

/-- Forward frame `k` (R409): its window segment goes out, and its body follows through a TWIN copy fixed at stage 6. Answers the
FID. -/
def State.fwdWindow (s : State) (k : Nat) (extra : List Nat) : Nat × State :=
  match s.frame k with
  | none => (0, s)
  | some f => (s.setFrame k (some { f with fwd := true })).sendWindow k (windowWords f extra)

/-- A body segment of a TWIN copy (R409), `last` with the status word. -/
def State.fwdSegment (s : State) (fid seg : Nat) (b : List Byte) (last : Option (Nat × Nat)) : State :=
  let pl := wordsOf b ++ (match last with | some (len, flags) => [len * 2 ^ 50 + flags * 2 ^ 43] | none => [])
  s.sendLink 4 (fid * 2 ^ 28 + (if last.isSome then 2 ^ 26 else 0) + (seg % 256) * 2 ^ 18) pl

/-- The Dvorfaza reader sends what it has read of the TWIN copy that it has taken from list `n`, up to `fuel` segments of 256 bytes from
frame byte 64 on (R409). A segment ends the frame where its bytes and the status word fit into 32 words (R401); a copy wholly sent
ends. -/
def State.fwdBody (s : State) (n : Nat) : Nat → State
  | 0 => s
  | fuel + 1 =>
    match s.fwdTaken n with
    | none => s
    | some c =>
      match s.frame c.fid with
      | none => s.setFwdTaken n none
      | some f =>
        let fid := tabGet 0 s.twn.fidOf c.fid
        let seg := tabGet 1 s.twn.segOf c.fid
        let all := allRead f c
        let avail := if all then storedLen f else min (128 * c.nread) (storedLen f)
        let start := 64 + 256 * (seg - 1)
        if all ∧ avail ≤ start + 248 then
          let s := s.fwdSegment fid seg ((stored f).drop start) (some (f.rx.length, f.flags))
          let t := s.twn
          let s := s.setTwn { t with segOf := tabErase c.fid t.segOf, fidOf := tabErase c.fid t.fidOf }
          (s.setFwdTaken n none).copyGone c
        else if all ∨ start + 256 ≤ avail then
          let s := s.fwdSegment fid seg (((stored f).drop start).take 256) none
          (s.setTwn { s.twn with segOf := tabSet 1 s.twn.segOf c.fid (seg + 1) }).fwdBody n fuel
        else s

/-- The Dvorfaza reader after a read slot. -/
def State.fwdBodies (s : State) : State := (List.range 8).foldl (fun s q => s.fwdBody (576 + q) 64) s

/-! ## A complete window (R24, R110, R111, R404, R406 to R408, R415) -/

/-- A window takes its arrival position in its pipeline. -/
def State.takePosition (s : State) (k : Nat) : State :=
  match s.frame k with
  | none => s
  | some f => (s.setFrame k (some { f with tcc := s.tcc })).enqueueWindow (pipeOf f.src) k

/-- The port to which HSR passes an accepted frame (R416): the other port of its attachment, unless the pair sent the frame. -/
def State.passPort (s : State) (f : Frame) (c mac seq : Nat) : Option Nat :=
  if s.get F.TWN_ATT_A_MODE c = 0 ∧ !s.keyLive s.twn.sent c mac seq then (s.attPorts c).find? (fun p => p != f.src) else none

/-- The window queue of a frame's pipeline has room. -/
def State.queueRoom (s : State) (f : Frame) : Bool := decide ((s.pipe (pipeOf f.src)).wq.length < 32)

/-- The attachment of a port redundantly attached to two LANs, whose frames have their key at their end (R414, R415). -/
def State.prpPort (s : State) (p : Nat) : Bool := match s.attOf p with | some c => s.get F.TWN_ATT_A_MODE c == 1 | none => false

/-- A key that the other twin has announced already. -/
def seenKey (c kh seq : Nat) (x : Nat × Nat × Nat × Nat) : Bool := x.1 == c && x.2.1 == kh && x.2.2.1 == seq

/-- An input takes its arrival position on a device that orders its own inputs. An attachment input that the other twin has not announced
waits for its SEEN key: should none come it is forwarded, so it keeps a TWIN copy until then (R408, R409; log entry 132). -/
def State.orderInput (s : State) (k : Nat) : State :=
  match s.frame k with
  | none => s
  | some f =>
    match s.attKey f with
    | some (c, mac, seq) =>
      let (dup, s) := s.dupCheck c mac seq
      if dup then (s.dropFrame k 0x08).twnCnt 6
      else
        let f := { f with passTo := s.passPort f c mac seq }
        let s := s.setFrame k (some f)
        if s.queueRoom f then
          let kh := keyHash c mac
          let s := s.orderTag f f.src 0 kh seq
          let s := if !s.logs then s
            else if s.twn.seen.any (seenKey c kh seq) then
              (s.setTwn { s.twn with seen := s.twn.seen.filter (fun x => !seenKey c kh seq x) }).twnCnt 4
            else (s.setFrame k (some { f with fwd := true })).setTwn { s.twn with
              seenWait := s.twn.seenWait ++ [{ fid := k, att := c, kh := kh, id := seq, at_ := s.inv.ticks, win := windowWords f [] }] }
          s.takePosition k
        else s.takePosition k
    | none =>
      if s.queueRoom f then
        if s.logs then
          let (fid, s) := s.fwdWindow k []
          (s.orderTag f f.src 1 0 fid).takePosition k
        else (s.orderTag f f.src 1 0 0).takePosition k
      else s.takePosition k

/-- A copy's window is complete on a lagging device (R406, R408): the copy waits for its tag. An attachment copy is announced with a
SEEN key, any other is forwarded at once. Of the copies of one key only the first waits: the duplicate table serves matching alone
(R407, R415). -/
def State.holdInput (s : State) (k : Nat) : State :=
  match s.frame k with
  | none => s
  | some f =>
    let s := s.setFrame k (some { f with stage := .held })
    let held : Held := { fid := k, att := none, kh := 0, id := 0, own := true, fwdId := none, at_ := s.tcc }
    let wait := fun (s : State) (h : Held) => s.setTwn { s.twn with held := s.twn.held ++ [h] }
    match s.attKey f with
    | some (c, mac, seq) =>
      let kh := keyHash c mac
      let w := c * 2 ^ 28 + kh * 2 ^ 16 + seq
      let s := if s.isLogged then (s.sendLink 3 0 [w * 2 ^ 32 + w]).twnCnt 3 else s
      let (dup, s) := s.dupCheck c mac seq
      if dup then s.discardFrame k else wait s { held with att := some c, kh := kh, id := seq }
    | none =>
      if s.isLogged then
        let (fid, s) := s.fwdWindow k []
        wait s { held with fwdId := some fid }
      else wait s held

/-- Byte 63 or the last byte of a frame has been received (R110). On a PRP attachment the key stands at the frame's end, so its
window waits for the last byte (DEDUCED, log entry 31). A MAC control frame (R98) and a frame found bad (R34, exit 1) never enter. -/
def State.windowArrived (s : State) (k : Nat) : State :=
  match s.frame k with
  | none => s
  | some f =>
    if f.stage != .arriving || (f.rx.length < 64 && !f.done) || f.bad || f.rx.length < 14 then s
    else if s.prpPort f.src && !f.done && f.origin == .net then s
    else if beAt f.rx 12 2 = 0x8808 ∧ f.origin = .net then s
    else if s.twn.lagging then s.holdInput k
    else s.orderInput k

/-! ## Stage 6 (R212, R217, R409, R416) -/

/-- The network copies of a frame, in ascending port order: a copy for one port of an attachment is made for both under one
number, an HSR frame passes on with its tag unchanged. -/
def State.netCopies (s : State) (k : Nat) (f : Frame) : List (Nat × Copy) × State :=
  let dst := f.dec.dst % 2 ^ 72
  let own := match f.passTo with | some _ => s.attOf f.src | none => none
  let tagged := decide ((f.prv.toNat >>> 228) % 4 ≠ 0)
  let cls := fun p => if f.dec.routed then 0 else if f.dec.untag.testBit p && tagged then 1 else 0
  let mk := fun p (seq : Option Nat) (pass : Bool) => (8 * p + f.dec.queue, ({ fid := k, cls := if pass then 0 else cls p, seq := seq, pass := pass } : Copy))
  let bound := (List.range 16).filter (fun c => own != some c && s.bit F.TWN_ATT_A_EN c
    && (s.attPorts c).any (fun p => decide (p < 72) && dst.testBit p))
  let (seqs, s) := bound.foldl (fun (a : List (Nat × Nat) × State) c =>
    let (n, s) := a.2.takeSeq c (beAt f.rx 6 6)
    (a.1 ++ [(c, n)], s)) ([], s)
  let s := match seqs.head? with | some (_, n) => s.digestSeq k n | none => s
  let copies := (List.range 72).filterMap (fun p =>
    if f.passTo = some p then some (mk p none true)
    else match s.attOf p with
      | some c =>
        if own = some c then none
        else (seqs.find? (fun e => e.1 == c)).map (fun e => mk p (some e.2) false)
      | none => if dst.testBit p then some (mk p none false) else none)
  (copies, s)

/-- Stage 6 takes the oldest frame of a pipeline. A TWIN copy refused on a lagging device is a divergence (R409). -/
def State.stage6 (s : State) (pl : Nat) : State :=
  match (s.pipe pl).st6 with
  | [] => s
  | k :: rest =>
    let s : State := match s.frame k with
      | none => s
      | some f =>
        if f.stage == .policed then
          if s.underTest 2 then s.dropFrame k 0x02
          else
            let (nets, s) := s.netCopies k f
            let s := s.admitFrame k nets s.isStandby
            if f.fwd && s.countCopies k (fun c => c.twin) == 0 then s.diverge causeUNRESOLVED else s
        else if f.stage == .gone && f.fwd then
          let s := s.admitFrame k [] s.isStandby
          if s.countCopies k (fun c => c.twin) == 0 then s.diverge causeUNRESOLVED else s
        else s
    s.setPipe pl { s.pipe pl with st6 := rest }

/-- The lag in ns: TD0's advance over the last 750 ticks (R405, R428). -/
def State.showLag (s : State) : State :=
  let a := if s.twn.lagging then (s.twn.advances.foldl (· + ·) 0) / 2 ^ 48 else 0
  s.put F.TWN_LAG_LAG (a.toNat % 2 ^ 32)

/-- Align the time base with the ACTIVE device's (R405): TCC, and TD0 to TD3 as they were 1,875 CCLK before, from their values at the BASE
of the last heartbeat at this device's rates. -/
def State.alignTime (s : State) (a : Align) : State :=
  let ofs : Int := (a.tcc.toNat : Int) - (s.inv.ticks * 5 / 2 : Nat)
  let since : Int := (a.tcc.toNat : Int) - s.twn.baseIn - 1875
  let at' := fun (d : Nat) => if d = 0 then some s.twn.hbTd else a.td[d - 1]?
  let s := (List.range 4).foldl (fun s d =>
    match at' d with
    | some (sec, ns, frac) =>
      let m := { s.dom d with sec := sec % 2 ^ 48, ns := ns % 1000000000, frac := frac % 2 ^ 48 }
      s.setDom d (domAdd m (since * (2 * 2 ^ 48 + m.rate) * 2 / 5))
    | none => s) s
  let adv : Int := 2 * 2 ^ 48 + (s.dom 0).rate
  (s.setTwn { s.twn with tccOfs := ofs, lagging := true, advances := List.replicate 750 adv }).showLag

/-- TD0's advance at a tick joins the last 750. -/
def State.lagTick (s : State) (before : Domain) : State :=
  if s.twn.lagging then
    let d := s.dom 0
    let adv : Int := (domNs d - domNs before) * 2 ^ 48 + ((d.frac : Int) - before.frac)
    (s.setTwn { s.twn with advances := (adv :: s.twn.advances).take 750 }).showLag
  else s

/-- Receive is closed by pairing: roles PAIRING and SYNC, and a cold pair before T_p (R398, R399). -/
def State.twinClosed (s : State) : Bool :=
  s.role == rolePAIRING || s.role == roleSYNC
    || (match s.twn.pairAt with | some t => decide (s.now + s.get F.TWN_LAG_LAG < t) | none => false)

/-- TWIN_ENABLE: EN = 1 in SCHEDULED or SERVICE (R398). -/
def State.twinEnable (s : State) : State :=
  if s.bit F.TWN_CTRL_EN && s.role == roleOFF && (s.mode == modeSCHEDULED || s.mode == modeSERVICE) && !s.rst.due.testBit 5 then
    (s.setTwn { s.twn with roleFrom := s.inv.ticks, hbRecv := none }).setRole rolePAIRING
  else s

/-- A write of EN = 0 (R398): ignored by an ACTIVE device. -/
def State.twinDisable (s : State) : State :=
  if s.role = roleACTIVE then s.evt F.TWN_EVT_CFG_ERR
  else
    let s := s.put F.TWN_CTRL_EN 0
    if s.role = roleOFF ∨ s.role = roleBAD then s
    else
      let s := s.sendFail causeDISABLED
      if s.isLogged then s.roleCore else s.roleOff

/-- The device becomes SOLO from PAIRING, with a cause (R398). -/
def State.goSolo (s : State) (c : Nat) : State := (s.cause c).setRole roleSOLO

/-- PAIR_WAIT in ticks; 0 is treated as 1 ms. -/
def State.pairWait (s : State) : Nat := max 1 (s.get F.TWN_CFG_PAIR_WAIT) * 500000

/-- PAIR_TIMEOUT: no peer heartbeat for PAIR_WAIT ms (R398). -/
def State.pairTimeout (s : State) : State :=
  let from0 : Nat := match s.twn.hbRecv with | some t => max t s.twn.roleFrom | none => s.twn.roleFrom
  if s.role = rolePAIRING ∧ from0 + s.pairWait ≤ s.inv.ticks then s.goSolo causeHB_TIMEOUT else s

/-- SYNC_WAIT_TIMEOUT: the join is abandoned (R398). -/
def State.syncTimeout (s : State) : State :=
  if s.role = roleSYNC ∧ s.twn.cut.isNone ∧ s.twn.roleFrom + s.pairWait ≤ s.inv.ticks then
    (s.setTwn { s.twn with roleFrom := s.inv.ticks }).setRole rolePAIRING
  else s

/-- A cold pair (R399): side A sends T_p (DEDUCED, log entry 130) and becomes ACTIVE, side B STANDBY with the lag; both open receive at T_p. -/
def State.coldPair (s : State) (a : Option Align) : State :=
  if s.get F.TWN_CTRL_SIDE = 0 then
    ((s.setTwn { s.twn with pairAt := some (s.now + 20000) }).emit (.pairTime (s.now + 20000))).setRole roleACTIVE
  else
    match a with
    | some x =>
      let s := s.alignTime x
      (s.setTwn { s.twn with pairAt := some x.tp }).setRole roleSTANDBY
    | none => s

/-- The peer takes part in a warm join (R425). -/
def joining (peerRole : Nat) : Bool := peerRole == roleSYNC || peerRole == roleSHADOW

/-- HEARTBEAT_RECEIVE (R398, R402): the peer's role, its TD0 at BASE and its image key. `a`: what aligns the time base where the frame is
the one that completes a cold pair on side B. -/
def State.heartbeatReceive (s : State) (lseq peerRole base : Nat) (td : Nat × Nat × Nat) (key : Nat) (a : Option Align) : State :=
  let s := s.takeLseq 1 lseq
  let missed := match s.twn.hbRecv with | some t => (s.inv.ticks - t) / 128 - 1 | none => 0
  let s := if missed = 0 ∨ s.role = roleOFF then s else s.twnCnt 9 missed
  let s := (s.put F.TWN_STAT_PEER 1).put F.TWN_STAT_PEER_ROLE peerRole
  let s := s.setTwn { s.twn with hbRecv := some s.inv.ticks, baseIn := base, hbTd := td }
  let r := s.role
  let same := key == s.imgKey
  let s := if r = roleSOLO ∧ joining peerRole = false ∧ peerRole ≠ roleSTANDBY then s.setTwn { s.twn with cut := none, synced := false } else s
  if r = rolePAIRING then
    if !same then s.goSolo causeIMAGE_MISMATCH
    else if peerRole = rolePAIRING ∧ s.twn.ordered = false then s.coldPair a
    else if peerRole = roleSOLO then (s.setTwn { s.twn with roleFrom := s.inv.ticks, cut := none }).setRole roleSYNC
    else s
  else if r = roleSYNC then
    if peerRole = roleSOLO then s
    else (s.setTwn { s.twn with roleFrom := s.inv.ticks, cut := none }).setRole rolePAIRING
  else if (r = roleACTIVE ∨ r = roleSOLO) ∧ (peerRole = roleACTIVE ∨ peerRole = roleSOLO) then
    let s := (s.cause causeDUAL_ACTIVE).evt F.TWN_EVT_DUAL
    if s.get F.TWN_CTRL_SIDE = 0 then s.enterHold else s.roleCore
  else if r = roleSOLO ∧ peerRole = roleSYNC then
    if s.twn.cut.isSome then s
    else
      let c := (s.tcc + 62500) % 2 ^ 48
      (s.setTwn { s.twn with cut := some c, cutTime := s.now + 50000 }).sendCmd 5 0 [c]
  else if r = roleSOLO ∧ peerRole = roleSTANDBY then
    ((s.setTwn { s.twn with cut := none, synced := false }).setRole roleACTIVE).evt F.TWN_EVT_JOINED
  else s

/-- Writes and commands reach the peer (R411, R413): of an ACTIVE device, and of a SOLO device whose peer is in SHADOW, which replays
what follows the state transfer (R425). -/
def State.replays (s : State) : Bool :=
  s.role == roleACTIVE || (s.role == roleSOLO && s.bit F.TWN_STAT_PEER && s.get F.TWN_STAT_PEER_ROLE == roleSHADOW)

/-- TWIN_CMD_SYNC_CUT (R413, R425), and a CMD with an OP that means nothing, which is counted alone. -/
def State.cmdSyncCut (s : State) (lseq op cut : Nat) : State :=
  let s := s.takeLseq 6 lseq
  if op ≠ 5 then s.twnCnt 8 else if s.role = roleSYNC then s.setTwn { s.twn with cut := some cut } else s

/-- SYNC_CUT: the joining device aligns its time base and enters SHADOW (R398, R425). -/
def State.syncCut (s : State) (a : Align) : State :=
  match s.twn.cut with
  | none => s
  | some c =>
    if s.role = roleSYNC then
      let s := s.alignTime a
      let ahead : Int := ((c : Int) - s.tcc) * 4 / 5 + s.get F.TWN_LAG_LAG
      (s.setTwn { s.twn with cutTime := s.now + ahead, okRun := 0 }).setRole roleSHADOW
    else s

/-- L_max (R188): the largest age limit. -/
def State.lMax (s : State) : Nat := (List.range 4).foldl (fun a k => max a (s.ageLimit k)) 0

/-- JOIN_COMPLETE (R425 step 3). -/
def State.joinComplete (s : State) : State :=
  if s.role = roleSHADOW ∧ s.twn.cutTime + s.lMax + 8000 ≤ s.now ∧ 64 ≤ s.twn.okRun then
    (s.setRole roleSTANDBY).evt F.TWN_EVT_JOINED
  else s

/-! ## The log on a lagging device (R404, R406, R407) -/

/-- The fields of an order tag, its arrival cycle against the BASE of the last heartbeat received. -/
def State.readTag (s : State) (w : Nat) : OrderTag :=
  { arr := (s.twn.baseIn + w / 2 ^ 54) % 2 ^ 48, tsOfs := w / 2 ^ 37 % 2 ^ 17, port := w / 2 ^ 30 % 128, kind := w / 2 ^ 28 % 4,
    kh := w / 2 ^ 16 % 4096, id := w % 2 ^ 16 }

/-- LOG_RECEIVE: tags join the log in order; one that arrives within 64 CCLK of its release, or later, is a LATE_RECORD. Tags of
inputs before the cut of a join are not released. -/
def State.logReceive (s : State) (lseq : Nat) (tags : List Nat) : State :=
  let s := s.takeLseq 2 lseq
  if s.isLogged then
    tags.foldl (fun s w =>
      let t := s.readTag w
      let before := match s.twn.cut with | some c => decide (t.arr < c) | none => false
      if !s.isLogged || before then s
      else if t.arr + 1875 < s.tcc + 64 then s.diverge causeLATE_RECORD
      else s.setTwn { s.twn with log := s.twn.log ++ [t] }) s
  else s

/-- A held copy is the one a tag names (R406, R407): a KIND 0 tag names the attachment of its port, KH and ID. -/
def State.tagMatches (s : State) (t : OrderTag) (h : Held) : Bool :=
  if t.kind = 0 then h.att.isSome && h.att == s.attOf t.port && h.kh == t.kh && h.id == t.id
  else if t.kind = 2 then h.own && h.fwdId == some t.id
  else !h.own && h.fwdId == some t.id

/-- Release a held copy into its pipeline with a stamp (R406). A copy found bad while it waited takes its position and ends there: its
item bears the code of exit 1, and a copy that was forwarded still gives its body (R34, R409, R417). -/
def State.releaseHeld (s : State) (h : Held) (t : Int) : State :=
  let s := s.setTwn { s.twn with held := s.twn.held.filter (fun x => x.fid != h.fid) }
  match s.frame h.fid with
  | none => s
  | some f =>
    let s := s.twnCnt 0
    let f := { f with time := t, stamp := ts40 t, gen := s.get F.INV_STAT_GEN % 2, epoch := s.epochOf t, cfg := s.stampCfg f.src t,
                      passTo := match s.attKey f with | some (c, mac, seq) => s.passPort f c mac seq | none => none,
                      tcc := (s.tcc + 2 ^ 48 - 1875) % 2 ^ 48 }
    let s := s.setFrame h.fid (some f)
    if f.stage ≠ .held then
      let s := s.digestAt h.fid (pipeOf f.src) f f.drop
      if f.fwd then s.admitDropped h.fid else s.settle h.fid
    else if f.hostType = 4 ∨ f.hostType = 5 then
      (s.setFrame h.fid (some { f with stage := .arriving })).setTwn { s.twn with hostRel := s.twn.hostRel ++ [h.fid] }
    else (s.setFrame h.fid (some { f with stage := .arriving })).enqueueWindow (pipeOf f.src) h.fid

/-- TAG_RELEASE: the oldest tag in hand whose cycle has come is released. In HOLD, once no tag is left, an own copy takes its
position in its own arrival order, 1,875 CCLK after its arrival or later, with its own lane stamp (R406, R421 step 3). -/
def State.tagRelease (s : State) : State :=
  if s.isLogged || s.twn.lagging then
    match s.twn.log with
    | t :: rest =>
      if t.arr + 1875 ≤ s.tcc then
        let s := s.setTwn { s.twn with log := rest, lastRel := s.inv.ticks }
        match s.twn.held.find? (s.tagMatches t) with
        | some h =>
          if t.arr + 1875 < h.at_ + 64 then s.diverge causeLATE_RECORD
          else s.releaseHeld h (s.now - t.tsOfs)
        | none => s.diverge causeLATE_RECORD
      else s
    | [] =>
      if s.mode = modeHOLD then
        match s.twn.held.find? (fun h => h.own) with
        | some h =>
          if h.at_ + 1875 ≤ s.tcc then
            match s.frame h.fid with
            | some f => s.releaseHeld h f.time
            | none => s.setTwn { s.twn with held := s.twn.held.erase h }
          else s
        | none => s
      else s
  else s

/-- A held attachment copy has met a tag. -/
def State.tagged (s : State) (h : Held) : Bool := s.twn.log.any (fun t => s.tagMatches t h)

/-- UNMATCHED_DISCARD: an attachment copy that no tag has matched within 8 µs is discarded (R407); a forwarded one, whose key another
source has served, goes with it uncounted. -/
def State.unmatchedDiscard (s : State) : State :=
  match s.twn.held.find? (fun h => h.att.isSome && decide (h.at_ + 10000 ≤ s.tcc) && !s.tagged h) with
  | some h =>
    if s.isLogged then
      let s := (s.setTwn { s.twn with held := s.twn.held.filter (fun x => x.fid != h.fid) }).discardFrame h.fid
      if h.own then s.twnCnt 5 else s
    else s
  | none => s

/-- An input needs no forwarding any longer: the TWIN copy that it kept goes (R408). -/
def State.twinCancel (s : State) (k : Nat) : State := ((s.dropHold k).removeFrameCopies k (fun c => c.twin)).settle k

/-- SEEN_RECEIVE: keys of copies that the STANDBY has received (R408). A key that meets no waiting input is kept for 8 µs. -/
def State.seenReceive (s : State) (lseq : Nat) (keys : List Nat) : State :=
  let s := s.takeLseq 3 lseq
  if s.isActive then
    keys.foldl (fun s k =>
      let c := k / 2 ^ 28
      let kh := k / 2 ^ 16 % 4096
      let id := k % 2 ^ 16
      match s.twn.seenWait.find? (fun x => x.att == c && x.kh == kh && x.id == id) with
      | some w => ((s.setTwn { s.twn with seenWait := s.twn.seenWait.erase w }).twnCnt 4).twinCancel w.fid
      | none =>
        let now := s.inv.ticks
        let old := s.twn.seen.filter (fun x => decide (now < x.2.2.2 + 4000) && !seenKey c kh id x)
        s.setTwn { s.twn with seen := old ++ [(c, kh, id, now)] }) s
  else s

/-- SEEN_WAIT_EXPIRE (R408): the ACTIVE device forwards an input without a SEEN key; a lagging device forwards an attachment copy
without a tag. -/
def State.seenExpire (s : State) : State :=
  let wait := s.get F.TWN_CFG_SEEN_WAIT
  if s.isActive then
    match s.twn.seenWait.find? (fun x => decide (2 * x.at_ + wait ≤ 2 * s.inv.ticks)) with
    | some x =>
      ((s.setTwn { s.twn with seenWait := s.twn.seenWait.erase x }).sendWindow x.fid x.win).2
    | none => s
  else if s.isLogged then
    match s.twn.held.find? (fun h => h.own && h.att.isSome && h.fwdId.isNone && decide (10 * h.at_ + wait * 25 / 2 ≤ 10 * s.tcc) && !s.tagged h) with
    | some h =>
      let (fid, s) := s.fwdWindow h.fid []
      s.setTwn { s.twn with held := s.twn.held.map (fun x => if x.fid = h.fid then { x with fwdId := some fid } else x) }
    | none => s
  else s

/-- The bytes of payload words. -/
def payloadBytes (ws : List Nat) : List Byte := ws.flatMap (beBytes 8)

/-- The PTP request of a transmit descriptor, from its bits 191:128 and TIME (R321, R473). -/
def txReq (w time : Nat) : Option PtpReq :=
  if w / 2 ^ 39 % 8 = 0 then none
  else some { act := w / 2 ^ 39 % 8, td := w / 2 ^ 42 % 4, transport := w / 2 ^ 44 % 4, ptpOff := w / 2 ^ 46 % 128,
              l4Off := w / 2 ^ 53 % 128, arg := time }

/-- A frame with the control fields of its transmit descriptor (R409, R473). -/
def txFields (f : Frame) (w time : Nat) : Frame :=
  { f with req := txReq w time, dirPort := w / 2 ^ 29 % 128, dirQueue := w / 2 ^ 36 % 8, hostType := w / 2 ^ 24 % 16, lt := time }

/-- A forwarded input takes its arrival position on the ACTIVE device under KIND 2, unless it is a duplicate (R408). -/
def State.orderForwarded (s : State) (k fid : Nat) : State :=
  match s.frame k with
  | none => s
  | some f =>
    let key := s.attKey f
    let (dup, s) := match key with
      | some (c, mac, seq) => s.dupCheck c mac seq
      | none => (false, s)
    if dup then (s.dropFrame k 0x08).twnCnt 6
    else
      let f := { f with passTo := match key with | some (c, mac, seq) => s.passPort f c mac seq | none => none }
      let s := s.setFrame k (some f)
      (if s.queueRoom f then s.orderTag f f.src 2 0 fid else s).takePosition k

/-- A forwarded input waits for its tag on a lagging device, unless its own copy already waits: the first source serves (R406). -/
def State.holdForwarded (s : State) (k fid : Nat) : State :=
  match s.frame k with
  | none => s
  | some f =>
    let h : Held := { fid := k, att := none, kh := 0, id := 0, own := false, fwdId := some fid, at_ := s.tcc }
    let s := s.setFrame k (some { f with stage := .held })
    match s.attKey f with
    | some (c, mac, seq) =>
      let kh := keyHash c mac
      if s.twn.held.any (fun x => x.att == some c && x.kh == kh && x.id == seq) then s.discardFrame k
      else (s.dupCheck c mac seq).2.setTwn { (s.dupCheck c mac seq).2.twn with held := s.twn.held ++ [{ h with att := some c, kh := kh, id := seq }] }
    | none => s.setTwn { s.twn with held := s.twn.held ++ [h] }

/-- The last byte of a forwarded frame of a PRP attachment gives its key (R406, R408; log entry 31): on the ACTIVE device the frame takes
its position now, on a lagging one its copy can be matched from now on. -/
def State.forwardedKey (s : State) (k fid : Nat) : State :=
  match s.frame k with
  | none => s
  | some f =>
    if !(s.prpPort f.src && f.origin == .twin) then s
    else if f.stage == .arriving then (if f.bad then s else s.orderForwarded k fid)
    else match s.attKey f with
      | some (c, mac, seq) =>
        (s.dupCheck c mac seq).2.setTwn { (s.dupCheck c mac seq).2.twn with held := s.twn.held.map (fun x =>
          if x.fid = k then { x with att := some c, kh := keyHash c mac, id := seq } else x) }
      | none => s

/-- A window segment arrives (R408, R409): the frame enters at its original port's pipeline on the ACTIVE device, and waits for its tag
on a lagging one. -/
def State.fwdWindowReceive (s : State) (fid : Nat) (ws : List Nat) : State :=
  let w0 := ws.headD 0
  let port := w0 / 2 ^ 17 % 128
  let stamp := w0 / 2 ^ 24
  let t := s.now - s.age stamp
  let ctl := (ws[9]?).getD 0
  let origin : Origin := if port ≠ 72 then .twin else if ctl / 2 ^ 24 % 16 = 3 then .hostSw chTwin else .hostDir chTwin
  let f := s.mkFrame port origin false 16000 t
  let f := { f with stamp := stamp }
  let f := if port = 72 then txFields f ctl ((ws[10]?).getD 0 / 2 ^ 24) else f
  let (k, s) := s.addFrame f
  let s := (s.setTwn { s.twn with fwdIn := tabInsert fid k s.twn.fwdIn }).twnCnt 2
  let s := s.takeBytes k (payloadBytes ((ws.drop 1).take 8))
  if s.isLogged then s.holdForwarded k fid
  else if s.prpPort port && port != 72 then s
  else s.orderForwarded k fid

/-- A body segment arrives: its bytes are written through write group 17; the last one ends the frame with its status (R409). Bytes that
did not come leave the frame short, and on a lagging device that is a divergence UNRESOLVED. -/
def State.fwdBodyReceive (s : State) (fid : Nat) (last : Bool) (ws : List Nat) : State :=
  match tabFind? fid s.twn.fwdIn with
  | none => s
  | some k =>
    if last then
      let st := (ws.getLast?).getD 0
      let len := st / 2 ^ 50
      let flags := st / 2 ^ 43 % 128
      let s := s.setTwn { s.twn with fwdIn := tabErase fid s.twn.fwdIn }
      match s.frame k with
      | none => s
      | some f =>
        let b := (payloadBytes (ws.take (ws.length - 1))).take (len - f.rx.length)
        let s := s.takeBytes k b
        match s.frame k with
        | none => s
        | some f =>
          let s := if f.rx.length < len then s.diverge causeUNRESOLVED else s
          let rx := f.rx.take len
          let s := s.setFrame k (some { f with rx := rx })
          let flags := if fcsOk rx ∨ flags.testBit 0 then flags else flags + 1
          (s.frameDone k flags 74).forwardedKey k fid
    else s.takeBytes k (payloadBytes ws)

/-- FWD_RECEIVE. -/
def State.fwdReceive (s : State) (lseq fid : Nat) (win last : Bool) (ws : List Nat) : State :=
  let s := s.takeLseq 4 lseq
  if s.isLogged || s.isActive then
    if win then s.fwdWindowReceive fid ws else s.fwdBodyReceive fid last ws
  else s

/-! ## Digests (R417, R418) -/

/-- The number of the present interval (DESIGN CHOICE, log entry 32): the count of cycle starts while the generator runs, else TD0
in units of 65,536 ns. -/
def State.digInterval (s : State) : Nat :=
  if s.bit F.INV_CYC_STAT_RUNNING then s.get F.INV_CYC_CNT_COUNT % 2 ^ 32 else (s.now / 65536).toNat % 2 ^ 32

/-- A digest that matches the peer's, or not (R418). -/
def State.digCompare (s : State) (mine peer : Digest) : State :=
  if mine = peer then (s.twnCnt 10).setTwn { (s.twnCnt 10).twn with okRun := s.twn.okRun + 1 }
  else
    let s := (s.twnCnt 11).setTwn { (s.twnCnt 11).twn with okRun := 0 }
    if s.isLogged then s.diverge causeDIVERGED else s.peerDiverged false

/-- DIGEST_INTERVAL_END: the open interval ends; its digest is sent and compared with a peer's that has come already. -/
def State.digestEnd (s : State) : State :=
  if !s.digests then s
  else
    let cur := s.digInterval
    match s.twn.digNum with
    | none => s.setTwn { s.twn with digNum := some cur, items := [] }
    | some n =>
      if cur = n then s
      else
        let items := s.twn.items.map (fun x => x.item)
        let isIn := fun (i : DigItem) => match i with | .input .. => true | _ => false
        let d : Digest := { num := n, crc := (crc64 (items.flatMap digItemBytes)).toNat, inputs := (items.filter isIn).length,
                            frames := (items.filter (fun i => !isIn i)).length }
        let s := ((s.put F.TWN_DIG_LO_DIG (d.crc % 2 ^ 32)).put F.TWN_DIG_HI_DIG (d.crc / 2 ^ 32)).put F.TWN_DIG_INT_INT n
        let s := s.sendLink 5 (n * 2 ^ 12) [d.crc, d.inputs * 2 ^ 32 + d.frames]
        let own := (s.twn.own ++ [d]).drop ((s.twn.own.length + 1) - 256)
        let s := s.setTwn { s.twn with digNum := some cur, items := [], own := own }
        match s.twn.peer.find? (fun p => p.num == n) with
        | some p => (s.setTwn { s.twn with peer := s.twn.peer.filter (fun x => x.num != n) }).digCompare d p
        | none => s

/-- DIGEST_RECEIVE. -/
def State.digestReceive (s : State) (lseq : Nat) (p : Digest) : State :=
  let s := s.takeLseq 5 lseq
  if s.isLogged || s.role == roleACTIVE || s.role == roleSOLO then
    match s.twn.own.find? (fun d => d.num == p.num) with
    | some d => s.digCompare d p
    | none => s.setTwn { s.twn with peer := (s.twn.peer ++ [p]).drop ((s.twn.peer.length + 1) - 256) }
  else s

/-! ## Twin commands (R411, R413) -/

/-- A CMD arrives for a lagging device: it waits for its acceptance cycle plus 1,875. -/
def State.cmdReceive (s : State) (lseq arrOfs : Nat) (c : TwinCmd) : State :=
  let s := s.takeLseq 6 lseq
  if s.isLogged then s.setTwn { s.twn with cmds := s.twn.cmds ++ [((s.twn.baseIn + arrOfs) % 2 ^ 48, c)] } else s

/-- CMD OP 4 (R413): the STANDBY resets. -/
def State.cmdReset (s : State) (lseq c : Nat) : State :=
  let s := s.takeLseq 6 lseq
  if s.isLogged then (((s.cause c true).sendFail c).setRole roleBAD).rstDue 5 else s

/-- The image words of a staged entry for the CRC-64 of a set (R413). -/
def stagedBytes (e : Staged) : List Byte :=
  let n := (imgWidth e.table + 31) / 32
  beBytes 1 e.table ++ beBytes 3 e.index ++ beBytes 1 e.op ++ (List.range n).flatMap (fun i => beBytes 4 ((e.img >>> (32 * i)) % 2 ^ 32))

/-- Staged entries in ascending table and slot. -/
def insertStaged (x : Staged) : List Staged → List Staged
  | [] => [x]
  | y :: t => if x.table * 2 ^ 20 + x.index < y.table * 2 ^ 20 + y.index then x :: y :: t else y :: insertStaged x t

/-- The CRC-64 of the set being built (R413). -/
def State.stagedCrc (s : State) : Nat :=
  (crc64 ((s.lkp.staged.foldl (fun l x => insertStaged x l) []).flatMap stagedBytes)).toNat

/-- The commit twin command acts (R185, R413): a set that differs is a divergence LOG_LOST. -/
def State.twinCommit (s : State) (epoch k tsec tns crc : Nat) : State :=
  if s.lkp.staged.length ≠ k ∨ s.stagedCrc ≠ crc ∨ epoch ≠ (s.epoch + 1) % 65536 then s.diverge causeLOG_LOST
  else s.startCommit (fullTime (s.dom 0) tsec tns) k epoch 0 true

/-! ## The end of HOLD (R421, R422) -/

/-- HOLD_END, at D + 512 ns or the last release + 512 ns, once no tag is in hand: the lag ends, inputs still waiting are released at
once, and CUR returns to PREV. -/
def State.holdEnd (s : State) : State :=
  if s.mode = modeHOLD ∧ s.twn.log.isEmpty ∧ max s.twn.holdAt s.twn.lastRel + 256 ≤ s.inv.ticks then
    let lag := s.get F.TWN_LAG_LAG
    let prev := s.get F.GLB_MODE_PREV
    let old := s.dom 0
    let s := if lag = 0 then s else (List.range 4).foldl (fun s d => s.setDom d (domAdd (s.dom d) ((lag : Int) * 2 ^ 48))) s
    let s := if lag = 0 then s else (s.moveMeters (domNs (s.dom 0) - domNs old)).cycRejudge (domNs old)
    let s := (List.range 4).foldl (fun s d => (List.range 16).foldl (fun s i => s.tioRejudge d i) s) s
    let s := (s.setTwn { s.twn with lagging := false, advances := [] }).put F.TWN_LAG_LAG 0
    let s := (s.twn.held.filter (fun h => h.own)).foldl (fun s h => match s.frame h.fid with
      | some f => s.releaseHeld h f.time
      | none => s) s
    let s := s.twn.held.foldl (fun s h => s.discardFrame h.fid) s
    let s := (s.setTwn { s.twn with held := [] }).noteMode s.now
    let s := { s with pds := { s.pds with paused := true } }
    let s := ((s.put F.GLB_MODE_CUR prev).put F.GLB_MODE_PREV modeHOLD).put F.GLB_MODE_TARGET prev
    let s := (s.put F.GLB_MODE_FORCED 1).put F.TWN_STAT_HOLDING 0
    (s.evt2 F.GLB_MODE_STAT_DONE F.GLB_MODE_STAT_FORCED).tioResume
  else s

/-! ## Failure events (R402, R419, R420, R428) -/

/-- HB_TIMEOUT: 768 ns after the last valid heartbeat (R419); TWN_STAT.PEER falls in every role (R428). -/
def State.hbTimeout (s : State) : State :=
  match s.twn.hbRecv with
  | some t =>
    if s.inv.ticks < t + 384 then s
    else if s.role = roleOFF then (s.put F.TWN_STAT_PEER 0).setTwn { s.twn with hbRecv := none }
    else (s.twnCnt 9 3).peerFailed causeHB_TIMEOUT false
  | none => s

/-- DVORFAZA_LINK_DOWN: what waits for the transmitter is lost. -/
def State.twinLinkDown (s : State) : State :=
  if s.bit F.TWN_STAT_LINK then
    ((s.put F.TWN_STAT_LINK 0).setTwn { s.twn with txq := [], tagsOut := [] }).peerFailed causeLINK_DOWN false
  else s

/-- DVORFAZA_LINK_UP. -/
def State.twinLinkUp (s : State) : State := s.put F.TWN_STAT_LINK 1

/-- FAIL_RECEIVE. -/
def State.failReceive (s : State) (lseq c : Nat) : State :=
  let s := s.takeLseq 8 lseq
  if c = causeDIVERGED then s.peerDiverged true else s.peerFailed c true

/-- LINK_FRAME_ERROR: a frame with a bad CRC, TYPE or length (R402). -/
def State.linkFrameError (s : State) : State := (s.twnCnt 8).evt F.TWN_EVT_LINK_ERR

/-- Every copy in transmission ends at once with a stomped FCS, after the bytes of its frame that have been sent (R222, R420).
`sent` names ports with those numbers of bytes; a port that it does not name has sent none. -/
def State.stompAll (s : State) (sent : List (Nat × Nat)) : State :=
  (List.range 72).foldl (fun s p =>
    let n := ((sent.find? (fun e => e.1 == p)).map (fun e => e.2)).getD 0
    [0, 1, 2, 3].foldl (fun s i => if (s.txGet p i).isSome then s.stompTx p i n false else s) s) s

/-- TWF_I_ASSERT (R398, R420): asserted for at least 50 ns with FENCE_EN = 1. -/
def State.fenced (s : State) (sent : List (Nat × Nat)) : State :=
  if s.bit F.TWN_CTRL_FENCE_EN ∧ s.role ≠ roleOFF then
    let s := s.stompAll sent
    (s.tioFence.cause causeFENCED).roleCore
  else s

/-- An accepted write of TWN_CMD (R428). -/
def State.twinCommand (s : State) (key op : Nat) : State :=
  if key = 0x5A ∧ op = 1 ∧ s.isActive = true then s.sendCmd 4 0 []
  else if key = 0x5A ∧ op = 2 ∧ s.role = roleACTIVE then ((s.cause causeSWAP).sendFail causeSWAP).roleCore
  else s.evt F.TWN_EVT_CFG_ERR

end Sys2Proof.Machine
end

