-- ==== Sys2Proof/Machine/PdsOps.lean ====
section
/-! DEFINITION. The process-data service (12_process_data_service.md): images, fan-in, gather, fan-out, link operations, launching,
hold, start and stop, and the table window. -/

namespace Sys2Proof.Machine

/-! ## Entries and their images (R340, R341, R375 to R379) -/

def State.setPds (s : State) (p : PdsState) : State := { s with pds := p }
def State.pslot (s : State) (i : Nat) : PdsSlot := tabGet {} s.pds.slots i
def State.setPslot (s : State) (i : Nat) (x : PdsSlot) : State := s.setPds { s.pds with slots := tabSet {} s.pds.slots i x }
def State.fanout (s : State) (g : Nat) : FanOut := tabGet {} s.pds.fanouts g
def State.setFanout (s : State) (g : Nat) (x : FanOut) : State := s.setPds { s.pds with fanouts := tabSet {} s.pds.fanouts g x }
def State.group (s : State) (g : Nat) : Nat := tabGet 0 s.pds.groups g
def State.template (s : State) (t : Nat) : Nat := tabGet 0 s.pds.templates t
def State.link (s : State) (i : Nat) : LinkOp := tabGet {} s.pds.links i
def State.setLink (s : State) (i : Nat) (x : LinkOp) : State := s.setPds { s.pds with links := tabSet {} s.pds.links i x }

/-- A counter of R382. -/
def State.pdsCnt (s : State) (k : Nat) (n : Nat := 1) : State := s.inc F.PDS_CNT_COUNT k (n := n)

def slotValid (x : PdsSlot) : Bool := x.img.testBit 0
def slotOut (x : PdsSlot) : Bool := x.img.testBit 1
def slotVirtual (x : PdsSlot) : Bool := x.img.testBit 2
def slotLen (x : PdsSlot) : Nat := nb x.img 11 3
def slotSrcOfs (x : PdsSlot) : Nat := nb x.img 43 30
def slotGroup (x : PdsSlot) : Nat := nb x.img 49 44

/-- An input slot in use. -/
def slotIn (x : PdsSlot) : Bool := slotValid x && !slotOut x

/-- Where buffer `b` of a slot lies (R341). -/
def slotBuf (x : PdsSlot) (b : Bool) : Nat := 16 * nb x.img 29 12 + (if b then 16 * ((slotLen x + 15) / 16) else 0)

/-- The bytes of a buffer of a slot. -/
def State.slotBytes (s : State) (x : PdsSlot) (b : Bool) : List Byte := s.sramBytes (slotBuf x b) (slotLen x)

/-- The valid input slots of a gather group, and the valid output slots of a fan-out group, in ascending slot number. -/
def State.groupIn (s : State) (g : Nat) : List Nat :=
  (s.pds.slots.filter (fun e => slotIn e.2 && slotGroup e.2 == g)).map (fun e => e.1)
def State.groupOut (s : State) (g : Nat) : List Nat :=
  (s.pds.slots.filter (fun e => slotValid e.2 && slotOut e.2 && slotGroup e.2 == g)).map (fun e => e.1)

/-- FLEN of a gather group (R350). -/
def State.groupLen (s : State) (g : Nat) : Nat :=
  let t := if (s.group g).testBit 36 then 4 else 0
  max 64 (14 + t + 16 + ((s.groupIn g).map (fun i => 4 + 4 * ((slotLen (s.pslot i) + 3) / 4))).foldl (· + ·) 0 + 4)

/-- An offset from the cycle start as it is used (R357). -/
def State.ofsUsed (s : State) (o : Nat) : Nat :=
  let p := s.get F.INV_CYC_OPER_PERIOD_PERIOD
  if p ≤ o then p - 1 else o

def State.pdsRuns (s : State) : Bool := s.bit F.PDS_STAT_RUNNING

/-! ## Launching (R357 to R361, R416) -/

/-- The ports of a launched frame: both ports of an attachment (R416). -/
def State.launchPorts (s : State) (p : Nat) : List Nat :=
  match s.attOf p with
  | some c => (s.attPorts c).filter (fun q => decide (q < 72))
  | none => [p]

/-- Insert a launch entry on each of its ports under one sequence number (R260, R416): the first refusal, or accepted, and the ports
that took it. `mac` is the frame's source address. -/
def State.launchInsert (s : State) (ports : List Nat) (e : CalEntry) (mac : Nat) : CalResult × List Nat × State :=
  let (seq, s) : Option Nat × State := match (ports.head?).bind s.attOf with
    | some c => (some (s.takeSeq c mac).1, (s.takeSeq c mac).2)
    | none => (none, s)
  ports.foldl (fun (a : CalResult × List Nat × State) p =>
    match a.2.2.calAdd p { e with seq := seq } with
    | (.accepted, s) => (a.1, a.2.1 ++ [p], s)
    | (r, s) => (if a.1 = .accepted then r else a.1, a.2.1, s)) (.accepted, [], s)

/-- The buffers of a launched frame: a PDS frame of more than 1,024 bytes lies in a chain, whose link trailers name the next handle
(R360). -/
def State.chainHandles (s : State) (h : Nat) : Nat → List Nat
  | 0 => []
  | n + 1 => h :: s.chainHandles (beNat (s.bufBytes h 1016 3)) n

/-- How many buffers a frame occupies. -/
def chainCount (len : Nat) : Nat := if len ≤ 1024 then 1 else (len + 1015) / 1016

/-- The handles of a calendar entry's frame. -/
def State.entryHandles (s : State) (src h len : Nat) : List Nat :=
  if src = 0 then s.chainHandles h (chainCount len) else [h]

/-- The bytes of a calendar entry's frame. -/
def State.entryBytes (s : State) (src h len : Nat) : List Byte :=
  if src = 0 ∧ 1024 < len then
    ((s.chainHandles h (chainCount len)).flatMap (fun x => s.bufBytes x 0 1016)).take len
  else s.bufBytes h 0 len

/-- The egress scheduler of a port releases its name on an entry's buffers (R262, R361). -/
def State.egressRelease (s : State) (p : Nat) (e : CalEntry) : State :=
  (s.entryHandles e.src e.handle e.len).foldl (fun s h => s.hwRelease h (0x40 + p)) s

/-- Take the buffers of a PDS frame, owned by the PDS and by the egress schedulers of its ports; all or none (R360). -/
def State.pdsBuffers (s : State) (size : Nat) (names : List Nat) : Nat → List Nat → Option (List Nat) × State
  | 0, acc => (some acc, s)
  | n + 1, acc =>
    match s.bpmAlloc size userPDS (some false) names with
    | (0, h, s) => s.pdsBuffers size names n (acc ++ [h])
    | (_, _, s) =>
      let s := acc.foldl (fun s h => names.foldl (fun s m => s.hwRelease h m) s) s
      (none, s)

/-- Store a frame in its buffers, with the link trailers of a chain (R360). -/
def State.pdsStore (s : State) (hs : List Nat) (b : List Byte) : State :=
  match hs with
  | [h] => s.sramWrite (s.bufAddr h) b
  | _ => (hs.zipIdx).foldl (fun s e =>
      let part := (b.drop (1016 * e.2)).take 1016
      let next := (hs[e.2 + 1]?).getD 0xFFFFFF
      let s := s.sramWrite (s.bufAddr e.1) part
      s.sramWrite (s.bufAddr e.1 + 1016) (beBytes 3 next ++ [0] ++ beBytes 2 part.length ++ [0, 0])) s

/-- The picoseconds of TD0 time `t`. -/
def psOf (t : Int) : Int := t * 1000

/-- LT of a PDS frame (R358): from the start of its cycle, or the insertion time `at_`, in picoseconds, plus D_sel rounded up to the next
tick, the command's time falling in a tick. -/
def State.pdsLt (s : State) (p : Nat) (timed : Bool) (ofs : Nat) (start at_ : Int) : Nat :=
  if timed then ts40 (start + s.ofsUsed ofs)
  else ts40 (s.now + (((at_ - psOf s.now).toNat + s.dselPs p + 1999) / 2000 : Nat) * 2)

/-- The PDS releases its name on a retained frame. -/
def State.retRelease (s : State) (r : Option Retained) : State :=
  match r with
  | some x => x.handles.foldl (fun s h => s.hwRelease h 0x10) s
  | none => s

/-- Insert a frame of the PDS into the calendars of its ports; `names` says whether the egress schedulers are named already, so
that a refusal takes their names off again (R359, R361). -/
def State.pdsInsert (s : State) (r : Retained) (b : List Byte) (start at_ : Int) : Bool × State :=
  let ports := s.launchPorts r.port
  let lt := s.pdsLt r.port r.timed r.ofs start at_
  let e : CalEntry := { lt := lt, queue := r.queue, len := r.len, src := 0, handle := r.handles.headD 0xFFFFFF, req := none,
                        stamp := r.stamp, group := 0 }
  let (res, took, s) := s.launchInsert ports e (beAt b 6 6)
  let s := (ports.filter (fun p => !took.contains p)).foldl (fun s p => s.egressRelease p e) s
  if res = .accepted then (true, s.digestPds b lt) else (false, (s.pdsCnt 12).evt F.PDS_EVT_LC_REFUSED)

/-- Build a frame (R360): its FCS is appended, it is stored and inserted, and it becomes the retained frame of its slot or group
(R361). `cnt` is the counter of frames inserted. -/
def State.pdsBuild (s : State) (slot : Bool) (i : Nat) (body : List Byte) (port queue : Nat) (timed : Bool) (ofs : Nat)
    (start at_ : Int) (cnt : Nat) : State :=
  let b := body ++ leBytes 4 (crc32 body).toNat
  let n := chainCount b.length
  let names := 0x10 :: (s.launchPorts port).map (fun p => 0x40 + p)
  match s.pdsBuffers (if n = 1 then b.length else 1024) names n [] with
  | (none, s) => (s.pdsCnt 11).evt F.PDS_EVT_ALLOC_FAIL
  | (some hs, s) =>
    let s := s.pdsStore hs b
    let r : Retained := { handles := hs, port := port, queue := queue, len := b.length, timed := timed, ofs := ofs,
                          stamp := ts40 (domRound (s.dom 0)) }
    let (ok, s) := s.pdsInsert r b start at_
    let s := if ok then s.pdsCnt cnt else s
    if slot then
      (s.retRelease (tabGet none s.pds.retSlot i)).setPds
        { (s.retRelease (tabGet none s.pds.retSlot i)).pds with retSlot := tabSet none s.pds.retSlot i (some r) }
    else
      (s.retRelease (tabGet none s.pds.retGroup i)).setPds
        { (s.retRelease (tabGet none s.pds.retGroup i)).pds with retGroup := tabSet none s.pds.retGroup i (some r) }

/-- Relaunch a retained frame in HOLD (R363), unless its previous entry is still in a calendar. -/
def State.relaunch (s : State) (r : Option Retained) (start at_ : Int) : State :=
  match r with
  | none => s
  | some r =>
    let h := r.handles.headD 0xFFFFFF
    if s.egs.any (fun e => e.2.cal.any (fun c => c.src == 0 && c.handle == h)) then s
    else
      let s := r.handles.foldl (fun s h => (s.launchPorts r.port).foldl (fun s p => (s.bpmAdd h 0x10 (0x40 + p)).2) s) s
      let b := s.entryBytes 0 h r.len
      ((s.pdsInsert r b start at_).2).pdsCnt 18

/-! ## Link operations (R364 to R367) -/

def State.linkEnabled (s : State) (i : Nat) : Bool := (s.link i).img.testBit 159

/-- The buffer that a gather pass names for a slot: the snapshot's for an input slot, else CUR. -/
def gatherBuf (gather : Option Gather) (i : Nat) (x : PdsSlot) : Bool :=
  match gather with
  | some g => if slotOut x then x.cur else g.cur.contains i
  | none => x.cur

/-- Run one link operation (R365). The answer is the slot it wrote and whether it read a stale source, if it wrote. -/
def State.linkRun (s : State) (gather : Option Gather) (i : Nat) : Option (Nat × Bool) × State :=
  let l := s.link i
  let src := nb l.img 127 116
  let dst := nb l.img 115 104
  let xs := s.pslot src
  let xd := s.pslot dst
  let so := nb l.img 135 128
  let dof := nb l.img 143 136
  if !slotValid xs || !slotValid xd || decide (slotLen xs < so + 4) || decide (slotLen xd < dof + 4)
      || (gather.isNone && !slotOut xd) then (none, s.pdsCnt 15)
  else
    let stale := !slotOut xs && xs.stale
    if stale && l.img.testBit 151 then (none, s)
    else
      let x := signed 32 (beNat (s.sramBytes (slotBuf xs (gatherBuf gather src xs) + so) 4))
      let p := x * signed 32 (nb l.img 95 64) / (2 ^ nb l.img 150 145 : Nat) + signed 32 (nb l.img 63 32)
      let y := if 2147483647 < p then 2147483647 else if p < -2147483648 then -2147483648 else p
      let s := s.pdsCnt 19
      let s := if y = p then s else (s.pdsCnt 13).evt F.PDS_EVT_LINK_LIMIT
      let rlim : Int := nb l.img 31 0
      let y' := if rlim ≠ 0 ∧ l.yvalid = true then
          if l.ylast + rlim < y then l.ylast + rlim else if y < l.ylast - rlim then l.ylast - rlim else y
        else y
      let s := if y' = y then s else (s.pdsCnt 14).evt F.PDS_EVT_LINK_LIMIT
      let s := s.sramWrite (slotBuf xd (gatherBuf gather dst xd) + dof) (beBytes 4 (y' % 2 ^ 32).toNat)
      (some (dst, stale), s.setLink i { l with yvalid := true, ylast := y' })

/-- The enabled link operations of a trigger, in ascending index: GATHER, or a fan-out group. -/
def State.linksOf (s : State) (grp : Option Nat) : List Nat :=
  (s.pds.links.map (fun e => e.1)).filter (fun i =>
    let m := (s.link i).img
    m.testBit 159 && (match grp with | none => !m.testBit 158 | some g => m.testBit 158 && nb m 157 152 == g))

/-- Run the enabled operations of a trigger in ascending index. The answer lists the slots written. -/
def State.linksRun (s : State) (gather : Option Gather) (grp : Option Nat) : List (Nat × Bool) × State :=
  (s.linksOf grp).foldl (fun (a : List (Nat × Bool) × State) i =>
    match a.2.linkRun gather i with
    | (some w, s) => (a.1 ++ [w], s)
    | (none, s) => (a.1, s)) ([], s)

/-! ## Fan-in (R342 to R345) -/

/-- The list that the PDS serves: the highest-numbered queue whose head copy is selectable (R342). -/
def State.pdsList (s : State) : Option Nat :=
  ([615, 614, 613, 612, 611, 610, 609, 608].find? (fun n => match (s.list n).head? with
    | some c => s.selectable c
    | none => false))

/-- The edit record of a copy. -/
def copyEdit (f : Frame) (c : Copy) : EditRec := (f.edits[c.cls]?).getD {}

/-- The head copy that the PDS would take: its list, the copy, its frame, and its role and index (R342). -/
def State.pdsHead (s : State) : Option (Nat × Copy × Frame × EditRec) :=
  match s.pdsList with
  | none => none
  | some n =>
    match (s.list n).head? with
    | none => none
    | some c => (s.frame c.fid).map (fun f => (n, c, f, copyEdit f c))

/-- Fan-in of a drive input into its slot (R343 to R345). -/
def State.fanIn (s : State) (f : Frame) (i : Nat) : State :=
  let x := s.pslot i
  if !slotIn x || slotVirtual x then s.pdsCnt 4
  else if f.rx.length - 4 < slotSrcOfs x + slotLen x then s.pdsCnt 3
  else
    let named := match s.pds.gather with
      | some g => g.cur.contains i
      | none => x.cur
    let data := bytesAt f.rx (slotSrcOfs x) (slotLen x)
    let s := s.sramWrite (slotBuf x (!named)) data
    let s := s.pdsCnt 0
    let s := if x.fresh then s.pdsCnt 2 else s
    let s := match s.pds.lastDue with
      | some d => if f.time < d then (s.pdsCnt 1).evt F.PDS_EVT_LATE else s
      | none => s
    s.setPslot i { x with cur := !named, fresh := true }

/-- FANIN: the PDS takes the head copy, unless it is a controller frame for a running PDS. An expired copy is discarded; a stopped PDS
completes the fan-in of drive inputs and discards the rest (R47, R372; log entry 50). -/
def State.pdsFanIn (s : State) : State :=
  match s.pdsHead with
  | none => s
  | some (n, c, f, ed) =>
    if s.pdsRuns ∧ ed.pdsRole = 2 then s
    else
      match s.takeSound n with
      | (none, s) => s
      | (some _, s) =>
        let s := if ed.pdsRole = 1 then s.fanIn f ed.pdsIndex else s.dropCount 0x02
        s.endCopy n c

/-! ## Gather (R346 to R350) -/

/-- The misses of a slot that had no fresh input (R346). -/
def State.slotMissed (s : State) (i : Nat) (x : PdsSlot) : State :=
  let m := min 255 (x.miss + 1)
  let f := decide (s.pds.oper.missIn ≠ 0 ∧ s.pds.oper.missIn ≤ m)
  let s := (s.pdsCnt 5).evtIf (f && !x.fault) F.PDS_EVT_IN_FAULT
  s.setPslot i { x with fresh := false, stale := true, miss := m, fault := f }

/-- A slot that had a fresh input (R346). -/
def State.slotFresh (s : State) (i : Nat) (x : PdsSlot) : State :=
  s.setPslot i { x with fresh := false, stale := false, miss := 0, fault := false }

/-- The input slots in use. -/
def State.inSlots (s : State) : List (Nat × PdsSlot) := s.pds.slots.filter (fun e => slotIn e.2)

/-- D_k of the current cycle. -/
def State.gatherDue (s : State) : Int := s.pds.start + s.ofsUsed s.pds.oper.ofs

/-- The steps of a gather pass (R347): its link operations, then one summation frame, record by record, for each enabled group with a
valid input slot. -/
def State.gatherSteps (s : State) : List GatherStep :=
  (s.linksOf none).map GatherStep.link ++ [.virtuals] ++
    ((List.range 16).filter (fun g => (s.group g).testBit 0 && !(s.groupIn g).isEmpty)).flatMap (fun g =>
      (s.groupIn g).map (fun i => GatherStep.record g i) ++ [.build g])

/-- GATHER_DEADLINE (R346): the snapshot, in which VIRTUAL slots only clear FRESH. In HOLD the retained summation frames are sent again instead
(R363), and between its end and the next cycle start nothing happens (R56). A pass kept from starting by those before it for more than 1 µs
counts OVERRUN (R369). -/
def State.gatherDeadline (s : State) : State :=
  if !s.pdsRuns || s.pds.cycle == 0 || s.pds.gathered || s.pds.gather.isSome || decide (s.now < s.gatherDue) then s
  else
    let s := s.setPds { s.pds with gathered := true }
    if s.pds.paused then s
    else if s.mode = modeHOLD then
      s.pds.retGroup.foldl (fun s e => s.relaunch e.2 s.pds.start (psOf s.now)) s
    else
      let d := s.gatherDue
      let began := max (psOf s.now) s.pds.foEnd
      let s := if psOf d + 1000000 < began then (s.pdsCnt 17).evt F.PDS_EVT_OVERRUN else s
      let all := s.inSlots
      let snap := (all.filter (fun e => e.2.cur)).map (fun e => e.1)
      let s := all.foldl (fun s e =>
        if slotVirtual e.2 then s.setPslot e.1 { e.2 with fresh := false }
        else if e.2.fresh then s.slotFresh e.1 e.2 else s.slotMissed e.1 e.2) s
      let s := s.put F.PDS_STAT_GATHER_BUSY 1
      s.setPds { s.pds with lastDue := some d, gather := some { start := s.pds.start, cnt := s.pds.cnt, due := d, cur := snap, began := began,
                                                                used := 2, todo := s.gatherSteps } }

/-- The summation header (R349). -/
def sumHeader (g sysid : Nat) (anyStale anyFault : Bool) (cnt nrec deadline : Nat) : List Byte :=
  beBytes 16 (1 * 2 ^ 124 + g * 2 ^ 120 + sysid * 2 ^ 106 + (if anyStale then 2 ^ 105 else 0) + (if anyFault then 2 ^ 104 else 0)
    + cnt * 2 ^ 64 + nrec * 2 ^ 51 + deadline)

/-- A record (R350). -/
def State.sumRecord (s : State) (gt : Gather) (i : Nat) : List Byte :=
  let x := s.pslot i
  let l := slotLen x
  beBytes 4 (i * 2 ^ 20 + (if x.stale then 2 ^ 19 else 0) + (if x.fault then 2 ^ 18 else 0) + (if slotVirtual x then 2 ^ 17 else 0) + l)
    ++ s.slotBytes x (gt.cur.contains i) ++ List.replicate (4 * ((l + 3) / 4) - l) 0

/-- The summation frame of a group around its records, without its FCS (R348). -/
def State.sumFrame (s : State) (gt : Gather) (g : Nat) : List Byte :=
  let m := s.group g
  let port := nb m 32 26
  let recs := s.groupIn g
  let any := fun (p : PdsSlot → Bool) => recs.any (fun i => p (s.pslot i))
  let b := beBytes 6 (nb m 99 52)
    ++ beBytes 6 (s.get F.PORT_MAC_A_SA_HI port * 2 ^ 16 + s.get F.PORT_MAC_B_SA_LO port)
    ++ (if m.testBit 36 then beBytes 4 (0x8100 * 2 ^ 16 + nb m 39 37 * 2 ^ 13 + nb m 51 40) else [])
    ++ beBytes 2 s.pds.oper.etype
    ++ sumHeader g (s.get F.GLB_SYSID_SYSID) (any (fun x => x.stale)) (any (fun x => x.fault)) gt.cnt recs.length (ts40 gt.due)
    ++ gt.part
  b ++ List.replicate (60 - b.length) 0

/-- A VIRTUAL slot after the link operations of a gather (R367): fresh where one of them wrote it, else stale with one more miss. Its FAULT
is left alone, and no counter and no event tells of it (log entry 133). -/
def State.slotVirtualDone (s : State) (wrote : List Nat) (i : Nat) (x : PdsSlot) : State :=
  if wrote.contains i then s.setPslot i { x with stale := false, miss := 0 }
  else s.setPslot i { x with stale := true, miss := min 255 (x.miss + 1) }

/-- The CCLK cycles of a step of the gather pass (R368). -/
def State.gatherCost (s : State) (st : GatherStep) : Nat :=
  match st with
  | .link _ => 2
  | .virtuals => 0
  | .record _ _ => 2
  | .build g => 16 + (s.groupLen g + 63) / 64

/-- One step of the gather pass. -/
def State.gatherStep (s : State) (st : GatherStep) : State :=
  match s.pds.gather with
  | none => s
  | some gt =>
    let gt := { gt with used := gt.used + s.gatherCost st, todo := gt.todo.tail }
    match st with
    | .link i =>
      let (w, s) := s.linkRun (some gt) i
      s.setPds { s.pds with gather := some { gt with wrote := gt.wrote ++ (w.map (fun x => x.1)).toList } }
    | .virtuals =>
      let s := s.setPds { s.pds with gather := some gt }
      (s.inSlots.filter (fun e => slotVirtual e.2)).foldl (fun s e => s.slotVirtualDone gt.wrote e.1 e.2) s
    | .record _ i => s.setPds { s.pds with gather := some { gt with part := gt.part ++ s.sumRecord gt i } }
    | .build g =>
      let m := s.group g
      let s := s.setPds { s.pds with gather := some { gt with part := [] } }
      s.pdsBuild false g (s.sumFrame gt g) (nb m 32 26) (nb m 35 33) (m.testBit 1) (nb m 25 2) gt.start
        (max (psOf s.now) (gt.began + 800 * gt.used)) 6

/-- The steps that the gather pass has done by the time at which a fan-out pass suspends it (R368): those that its cost allows since it
began, less the waits that R368 leaves out, the last of them up to its boundary. -/
def State.gatherCatchUp (s : State) : State :=
  match s.pds.gather with
  | none => s
  | some gt =>
    let spent := ((psOf s.now - gt.began) / 800).toNat - Config.passWait s.freeCtr
    let s := { s with freeCtr := s.freeCtr + 1 }
    gt.todo.foldl (fun s st => match s.pds.gather with
      | some g => if g.used < spent then s.gatherStep st else s
      | none => s) s

/-! ## Fan-out (R351 to R356) -/

/-- FO_DL of a group, from the cycle start. -/
def State.foDl (s : State) (g : Nat) : Nat := s.ofsUsed (nb (s.fanout g).img 24 1)

/-- The window in which a copy taken now falls: the number of its pass (R351). -/
def State.foWindow (s : State) (g : Nat) : Nat :=
  if s.now < s.pds.start + s.foDl g then s.pds.cycle else s.pds.cycle + 1

/-- The start and the INV_CYC_CNT of the cycle of a triggered pass. -/
def State.passCycle (s : State) (id : Nat) : Int × Nat :=
  if id ≤ s.pds.cycle then (s.pds.start, s.pds.cnt)
  else ((s.inv.cycNext).getD (s.pds.start + s.get F.INV_CYC_OPER_PERIOD_PERIOD), (s.pds.cnt + 1) % 2 ^ 32)

/-- Extraction of a controller frame (R352). -/
def State.extract (s : State) (g : Nat) (f : Frame) : State :=
  let all := s.groupOut g
  let fits := fun i => decide (slotSrcOfs (s.pslot i) + slotLen (s.pslot i) ≤ f.rx.length - 4)
  let good := all.filter fits
  let s := s.pdsCnt 3 (all.length - good.length)
  let s := good.foldl (fun s i =>
    let x := s.pslot i
    s.sramWrite (slotBuf x (!x.cur)) (bytesAt f.rx (slotSrcOfs x) (slotLen x))) s
  good.foldl (fun s i => s.setPslot i { s.pslot i with cur := !(s.pslot i).cur }) s

/-- The per-axis frame of an output slot, without its FCS; none where it cannot be built (R355). -/
def State.axisFrame (s : State) (i cnt : Nat) (held : Bool) (wrote : List (Nat × Bool)) : Option (List Byte) :=
  let x := s.pslot i
  let t := s.template (nb x.img 59 50)
  let len := nb t 29 19
  let dof := nb x.img 69 60
  if !t.testBit 0 || decide (len < dof + slotLen x) || (t.testBit 30 && decide (len < nb t 40 31 + 2))
      || (t.testBit 41 && decide (len < nb t 51 42 + 1)) then none
  else
    let b := s.sramBytes (16 * nb t 18 1) len
    let b := putBytes b dof (s.slotBytes x x.cur)
    let b := if t.testBit 30 then putBytes b (nb t 40 31) (beBytes 2 (cnt % 2 ^ 16)) else b
    let mine := wrote.filter (fun w => w.1 == i)
    let st := (if held then 128 else 0) + (if mine.isEmpty then 0 else 64) + (if mine.any (fun w => w.2) then 32 else 0)
    some (if t.testBit 41 then putBytes b (nb t 51 42) (beBytes 1 st) else b)

/-- A fan-out pass takes the pass engine (R368, R369): a gather pass is suspended where it stands; the pass begins once the fan-out pass
before it has ended, and counts OVERRUN where that is more than 1 µs after it fell due. The answer is its begin in picoseconds. -/
def State.passBegin (s : State) (due : Int) : Int × State :=
  let began := max (psOf s.now) s.pds.foEnd
  let s := s.gatherCatchUp
  (began, if psOf due + 1000000 < began then (s.pdsCnt 17).evt F.PDS_EVT_OVERRUN else s)

/-- The fan-out pass that began at `began` ends after `cost` CCLK cycles: until then FANOUT_BUSY reads 1, and a suspended gather pass waits. -/
def State.passEnd (s : State) (began : Int) (cost : Nat) : State :=
  let p := s.pds
  s.setPds { p with foEnd := began + 800 * cost,
                    gather := p.gather.map (fun g => { g with began := g.began + (began - psOf s.now) + 800 * cost }) }

/-- Steps 2 and 3 of a fan-out pass (R354): link operations, then the per-axis frames, each inserted when its cost has passed (R368).
The pass began at `began` and has spent `cost` CCLK cycles so far. -/
def State.passFrames (s : State) (g : Nat) (cyc : Int × Nat) (held : Bool) (began : Int) (cost : Nat) : State :=
  let (wrote, s) := s.linksRun none (some g)
  let cost := cost + 2 * (s.linksOf (some g)).length
  let r := (s.groupOut g).foldl (fun (a : Nat × State) i =>
    let s := a.2
    let x := s.pslot i
    match s.axisFrame i cyc.2 held wrote with
    | none => (a.1, (s.pdsCnt 16).evt F.PDS_EVT_BUILD_ERR)
    | some b =>
      let cost := a.1 + 16 + (nb (s.template (nb x.img 59 50)) 29 19 + 63) / 64
      (cost, s.pdsBuild true i b (nb x.img 76 70) (nb x.img 79 77) (x.img.testBit 80) (nb x.img 104 81) cyc.1 (began + 800 * cost) 10))
    (cost, s)
  r.2.passEnd began r.1

/-- The held pass of the current cycle of a group, if it is enabled and its window has closed without a pass (R351). -/
def State.heldNow (s : State) (g : Nat) : Option HeldRun :=
  let x := s.fanout g
  if x.img.testBit 0 && decide (x.lastRun < s.pds.cycle) && decide (s.pds.start + s.foDl g ≤ s.now) then
    some { due := s.pds.start + s.foDl g, group := g, id := s.pds.cycle, start := s.pds.start, cnt := s.pds.cnt }
  else none

/-- A list of held passes with one more, in the order in which they run: by due time, then by group (R368). -/
def heldInsert (x : HeldRun) : List HeldRun → List HeldRun
  | [] => [x]
  | y :: t => if x.due < y.due ∨ (x.due = y.due ∧ x.group < y.group) then x :: y :: t else y :: heldInsert x t

/-- The held passes that are due, in the order in which they run. Between the end of HOLD and the next cycle start there are none (R56). -/
def State.heldDue (s : State) : List HeldRun :=
  if !s.pdsRuns || s.pds.cycle == 0 || s.pds.paused then []
  else (s.pds.fanouts.filterMap (fun e => s.heldNow e.1)).foldl (fun l x => heldInsert x l) s.pds.late

/-- One held pass (R356). In HOLD the retained frames of the group's slots are sent again instead (R363). -/
def State.heldRun (s : State) (h : HeldRun) : State :=
  let g := h.group
  let s := s.setPds { s.pds with late := s.pds.late.filter (fun y => y != h) }
  let x := { s.fanout g with lastRun := max (s.fanout g).lastRun h.id }
  if s.mode = modeHOLD then
    let s := s.setFanout g x
    let (began, s) := s.passBegin h.due
    let r := (s.groupOut g).foldl (fun (a : Nat × State) i =>
      (a.1 + 4, a.2.relaunch (tabGet none a.2.pds.retSlot i) h.start (began + 800 * (a.1 + 4)))) (0, s)
    r.2.passEnd began r.1
  else
    let (began, s) := s.passBegin h.due
    let m := min 255 (x.miss + 1)
    let f := decide (s.pds.oper.missOut ≠ 0 ∧ s.pds.oper.missOut ≤ m)
    let s := (s.pdsCnt 8).evtIf (f && !x.fault) F.PDS_EVT_OUT_FAULT
    let s := s.setFanout g { x with miss := m, fault := x.fault || f, held := true }
    s.passFrames g (h.start, h.cnt) true began 0

/-- Run the held passes of a list that are due, up to the last one of group `g`. -/
def State.heldUpTo (s : State) (g : Nat) : List HeldRun → State
  | [] => s
  | h :: t => if (h :: t).any (fun x => x.group == g) then (s.heldRun h).heldUpTo g t else s

/-- HELD_PASS of a group that is due (R356): the held passes that fell due before it, and those of lower groups at the same time, run
first (R368). -/
def State.heldPass (s : State) (g : Nat) : State := s.heldUpTo g s.heldDue

/-- The rest of the gather pass. -/
def State.gatherRest (s : State) : State :=
  match s.pds.gather with
  | none => s
  | some gt =>
    let s := gt.todo.foldl (fun s st => s.gatherStep st) s
    (s.setPds { s.pds with gather := none }).put F.PDS_STAT_GATHER_BUSY 0

/-- GATHER_PASS (R347, R368): the rest of the gather pass, after the fan-out passes that suspend it. -/
def State.gatherPass (s : State) : State :=
  if s.pds.gather.isNone then s else (s.heldDue.foldl (fun s h => s.heldRun h) s).gatherRest

/-- The PDS takes a controller frame (R351 to R354, R363). `extra` says which of the two outcomes is asked for: a pass, or extraction
alone. Controller frames between the end of HOLD and the next cycle start are handled as in HOLD (R56; log entry 133). -/
def State.fanOut (s : State) (extra : Bool) : State :=
  match s.pdsHead with
  | none => s
  | some (n, c, f, ed) =>
    if !s.pdsRuns ∨ s.pds.cycle = 0 ∨ ed.pdsRole ≠ 2 then s
    else
      let g := ed.pdsIndex
      let bad := decide (63 < g) || !(s.fanout g).img.testBit 0
      let quiet := s.mode == modeHOLD || s.pds.paused
      let s := if bad || quiet then s else s.heldPass g
      let id := s.foWindow g
      let runs := !bad && !quiet && decide ((s.fanout g).lastRun < id)
      if !bad ∧ runs = extra then s
      else
        match s.takeSound n with
        | (none, s) => s
        | (some _, s) =>
          if bad then (s.pdsCnt 4).endCopy n c
          else if runs then
            let (began, s) := s.passBegin s.now
            let s := (s.extract g f).endCopy n c
            let s := (s.pdsCnt 7).setFanout g { s.fanout g with miss := 0, fault := false, held := false, lastRun := id }
            s.passFrames g (s.passCycle id) false began (s.groupOut g).length
          else
            let s := (s.extract g f).endCopy n c
            if quiet then s else s.pdsCnt 9

/-! ## Table entries (R373 to R379) -/

/-- Entries of a table. -/
def pdsEntries (table : Nat) : Nat :=
  match table with
  | 0 => 4096
  | 1 => 16
  | 2 => 64
  | 3 => 1024
  | _ => 512

/-- The bits of an image that a WRITE stores, and its state bits, which a WRITE ignores. All others must be 0. -/
def pdsCfgMask (table : Nat) : Nat :=
  match table with
  | 0 => 2 ^ 105 - 1
  | 1 => 2 ^ 100 - 1
  | 2 => 2 ^ 25 - 1
  | 3 => 2 ^ 52 - 1
  | _ => (2 ^ 96 - 1) + (2 ^ 144 - 2 ^ 104) + (2 ^ 160 - 2 ^ 145)
def pdsStateMask (table : Nat) : Nat :=
  match table with
  | 0 => 2 ^ 124 - 2 ^ 112
  | 1 => 2 ^ 155 - 2 ^ 128
  | 2 => 2 ^ 42 - 2 ^ 32
  | 3 => 0
  | _ => 2 ^ 144 + (2 ^ 192 - 2 ^ 160)

/-- Store the image of an entry (R373): its state fields stay, but for YVALID, which clears (R365). -/
def State.pdsStoreEntry (s : State) (table i m : Nat) : State :=
  let m := m &&& pdsCfgMask table
  match table with
  | 0 => s.setPslot i { s.pslot i with img := m }
  | 1 => s.setPds { s.pds with groups := tabSet 0 s.pds.groups i m }
  | 2 => s.setFanout i { s.fanout i with img := m }
  | 3 => s.setPds { s.pds with templates := tabSet 0 s.pds.templates i m }
  | _ => s.setLink i { s.link i with img := m, yvalid := false }

/-- The rules of R375 for a slot image. -/
def State.slotOk (s : State) (i m : Nat) : Bool :=
  let x : PdsSlot := { img := m }
  let l := slotLen x
  let a := nb m 29 12
  let t := s.template (nb m 59 50)
  let size := decide (1 ≤ l ∧ l ≤ 256) && decide (s.get F.PDS_RGN_BASE_ADDR 0 ≤ a)
    && decide (a + 2 * ((l + 15) / 16) ≤ s.get F.PDS_RGN_TOP_ADDR 0)
  if slotOut x then
    size && !slotVirtual x && decide (nb m 76 70 ≤ 71) && t.testBit 0 && decide (nb m 69 60 + l ≤ nb t 29 19)
      && (!slotValid x || decide (((s.groupOut (slotGroup x)).filter (fun j => j != i)).length < 256))
  else size && nb m 104 50 == 0 && decide (slotGroup x ≤ 15)

/-- The rules of R376 to R379. -/
def State.pdsEntryOk (s : State) (table i m : Nat) : Bool :=
  match table with
  | 0 => s.slotOk i m
  | 1 => decide (nb m 32 26 ≤ 71)
  | 2 => true
  | 3 =>
    let len := nb m 29 19
    decide (60 ≤ len ∧ len ≤ 1020) && decide (s.get F.PDS_RGN_BASE_ADDR 1 ≤ nb m 18 1)
      && decide (16 * nb m 18 1 + len ≤ 16 * s.get F.PDS_RGN_TOP_ADDR 1)
      && !(m.testBit 30 && decide (len < nb m 40 31 + 2)) && !(m.testBit 41 && decide (len < nb m 51 42 + 1))
  | _ => nb m 150 145 != 63

/-- Apply the queued WRITEs, in order (R374). -/
def State.pdsApply (s : State) : State :=
  let s' := s.pds.queue.foldl (fun s e => s.pdsStoreEntry e.1 e.2.1 e.2.2) s
  (s'.setPds { s'.pds with queue := [] }).put F.PDS_STAT_PEND 0

/-- Every gather group's frame stays within 16,000 bytes (R350). -/
def State.lensOk (s : State) : Bool := (List.range 16).all (fun g => decide (s.groupLen g ≤ 16000))

/-- A WRITE (R374): the checks are made against the tables as the queued WRITEs will leave them. -/
def State.pdsWrite (s : State) (table i m : Nat) : Nat × State :=
  let later := s.pdsApply
  let ok := (m &&& (2 ^ 192 - 1 - pdsCfgMask table - pdsStateMask table)) == 0 && later.pdsEntryOk table i m
    && (later.pdsStoreEntry table i m).lensOk
  if !ok then (3, s)
  else if !s.pdsRuns then (0, s.pdsStoreEntry table i m)
  else if 64 ≤ s.pds.queue.length then (4, s)
  else
    let q := s.pds.queue ++ [(table, i, m)]
    (0, (s.setPds { s.pds with queue := q }).put F.PDS_STAT_PEND q.length)

/-- The image of an entry as a READ shows it, with its state fields. -/
def State.pdsImage (s : State) (table i : Nat) : Nat :=
  let b := fun (x : Bool) (k : Nat) => if x then 2 ^ k else 0
  match table with
  | 0 =>
    let x := s.pslot i
    x.img + b x.cur 112 + b x.fresh 113 + b x.stale 114 + b x.fault 115 + x.miss * 2 ^ 116
  | 1 => s.group i + s.groupLen i * 2 ^ 128 + (s.groupIn i).length * 2 ^ 142
  | 2 =>
    let x := s.fanout i
    x.img + x.miss * 2 ^ 32 + b x.fault 40 + b x.held 41
  | 3 => s.template i
  | _ =>
    let x := s.link i
    x.img + b x.yvalid 144 + (x.ylast % 2 ^ 32).toNat * 2 ^ 160

/-- The STATUS that a command comes to before it acts: 1 BAD_OP, 2 BAD_INDEX (R373). -/
def pdsCheck (op table i : Nat) : Nat := if 3 ≤ op ∨ 5 ≤ table then 1 else if op ≠ 0 ∧ pdsEntries table ≤ i then 2 else 0

/-- An accepted write of PDS_CMD (R373). -/
def State.pdsAccept (s : State) (w : Word) (host : Nat) : State :=
  let c : WinCmd := { word := w, index := s.get F.PDS_INDEX_INDEX, data := (List.range 6).map (fun i => s.reg R.PDS_DATA i), host := host }
  let op := getBits w 3 0
  let table := getBits w 6 4
  let s := s.put F.PDS_CMD_STAT_BUSY 1
  let m := (c.data.zipIdx).foldl (fun a e => a + e.1.toNat * 2 ^ (32 * e.2)) 0
  let (st, s) := if pdsCheck op table c.index ≠ 0 then (pdsCheck op table c.index, s)
    else if op = 2 then s.pdsWrite table c.index m else (0, s)
  s.setPds { s.pds with cmd := some { c with res := st } }

/-- The running window command completes: a READ loads the data registers, BUSY falls (R373). -/
def State.pdsComplete (s : State) : State :=
  match s.pds.cmd with
  | none => s
  | some c =>
    let s := if c.res = 0 ∧ getBits c.word 3 0 = 1 then
        let v := s.pdsImage (getBits c.word 6 4) c.index
        (List.range 6).foldl (fun s i => s.put F.PDS_DATA_DATA ((v >>> (32 * i)) % 2 ^ 32) i) s
      else s
    let s := s.setPds { s.pds with cmd := none }
    ((s.put F.PDS_CMD_STAT_STATUS c.res).put F.PDS_CMD_STAT_BUSY 0).evt F.PDS_EVT_CMD_DONE

/-! ## Cycles, start and stop (R371, R372, R374, R381) -/

/-- A cycle start at `t` reaches the PDS: a held pass that the engine has not run yet stays due (R369), the queued WRITEs and the registers
that wait for it apply. -/
def State.pdsCycleStart (s : State) (t : Int) : State :=
  if !s.pdsRuns then s
  else
    let s := s.gatherDeadline
    let late := s.heldDue
    let s := s.pdsApply
    s.setPds { s.pds with
      late := late, paused := false,
      cycle := s.pds.cycle + 1, start := t, cnt := s.get F.INV_CYC_CNT_COUNT, gathered := false,
      oper := { etype := s.get F.PDS_CFG_ETYPE, ofs := s.get F.PDS_GATHER_OFS, missOut := s.get F.PDS_MISS_THR_OUT,
                missIn := s.get F.PDS_MISS_THR_IN } }

/-- The PDS starts (R371). Where the cycle start of the switch point has been issued already, the first cycle begins with it. -/
def State.pdsStart (s : State) (ts : Int) : State :=
  let slots := s.pds.slots.map (fun e => (e.1, if slotIn e.2 then { e.2 with fresh := false, stale := true, miss := 0 } else e.2))
  let fo := s.pds.fanouts.map (fun e => (e.1, { e.2 with miss := 0, fault := false, lastRun := 0 }))
  let fo := fo.filter (fun e => e.2 != {})
  let links := s.pds.links.map (fun e => (e.1, { e.2 with yvalid := false }))
  let links := links.filter (fun e => e.2 != {})
  let s := s.setPds { s.pds with slots := slots, fanouts := fo, links := links, cycle := 0, gathered := false, gather := none,
                                 late := [], paused := false, lastDue := none, retSlot := [], retGroup := [] }
  let s := s.put F.PDS_STAT_RUNNING 1
  match s.inv.cycNext with
  | some n => if ts < n ∧ s.bit F.INV_CYC_STAT_RUNNING = true then s.pdsCycleStart ts else s
  | none => s

/-- Release every retained frame (R361, R372). -/
def State.retReleaseAll (s : State) : State :=
  let s := s.pds.retSlot.foldl (fun s e => s.retRelease e.2) s
  let s := s.pds.retGroup.foldl (fun s e => s.retRelease e.2) s
  s.setPds { s.pds with retSlot := [], retGroup := [] }

/-- Discard the calendar entries of the PDS on one port whose LT lies at or after `ts` (R47, R372). -/
def State.stopPort (s : State) (p : Nat) (ts : Int) : State :=
  let cal := (s.eg p).cal
  let gone := cal.filter (fun e => e.src == 0 && decide (ts ≤ s.launchNs e.lt))
  if gone.isEmpty then s
  else
    let keep := cal.filter (fun e => !(e.src == 0 && decide (ts ≤ s.launchNs e.lt)))
    let s := (s.setEg p { s.eg p with cal := keep }).calReport p (decide (keep.head? ≠ cal.head?))
    (gone.foldl (fun s e => s.egressRelease p e) s).pdsCnt 20 gone.length

/-- The PDS stops at `ts` (R47, R372): the pass in progress finishes, queued WRITEs apply, its launches from `ts` on are discarded. -/
def State.pdsStop (s : State) (ts : Int) : State :=
  if !s.pdsRuns then s
  else
    let s := (s.setPds { s.pds with late := [] }).gatherRest.retReleaseAll
    let s := (List.range 72).foldl (fun s p => s.stopPort p ts) s
    s.pdsApply.put F.PDS_STAT_RUNNING 0

/-- PDS_STAT as it reads: HOLD while a running service is in HOLD, FANOUT_BUSY while a fan-out pass occupies the engine (R363, R368). -/
def State.pdsStatWord (s : State) (w : Word) : Word :=
  setBits (setBits w 30 30 (if s.mode = modeHOLD ∧ getBits w 31 31 = 1 then 1 else 0)) 28 28 (if psOf s.now < s.pds.foEnd then 1 else 0)

/-- STALE and FAULT of 32 slots, and FAULT of 32 groups, as their registers show them (R346, R356). -/
def State.staleWord (s : State) (j : Nat) : Word :=
  BitVec.ofNat 32 ((List.range 32).foldl (fun a i => if (s.pslot (32 * j + i)).stale then a + 2 ^ i else a) 0)
def State.faultWord (s : State) (j : Nat) : Word :=
  BitVec.ofNat 32 ((List.range 32).foldl (fun a i => if (s.pslot (32 * j + i)).fault then a + 2 ^ i else a) 0)
def State.foFaultWord (s : State) (j : Nat) : Word :=
  BitVec.ofNat 32 ((List.range 32).foldl (fun a i => if (s.fanout (32 * j + i)).fault then a + 2 ^ i else a) 0)

end Sys2Proof.Machine
end

