-- ==== Sys2Proof/Machine/DmaOps.lean ====
section
/-! DEFINITION. The DMA engine (16_dma_and_buffer_pools.md R466 to R486): channels, descriptors, copies, the sending and receiving
of frames, completions, pauses and bus errors. -/

namespace Sys2Proof.Machine

def State.dch (s : State) (n : Nat) : DmaCh := tabGet {} s.dma.ch n
def State.setDch (s : State) (n : Nat) (c : DmaCh) : State := { s with dma := { s.dma with ch := tabSet {} s.dma.ch n c } }

/-- States of a channel (R496). -/
def chIDLE : Nat := 0
def chRUN : Nat := 1
def chPAUSING : Nat := 2
def chPAUSED : Nat := 3
def chSTOPPED : Nat := 4

/-- STATUS values (R477). -/
def stOK : Nat := 0
def stDESC_ERR : Nat := 1
def stRANGE : Nat := 2
def stHANDLE : Nat := 3
def stTRUNC : Nat := 4
def stFRAME_LEN : Nat := 5
def stREQ_ERR : Nat := 6
def stREFUSED : Nat := 7
def stCAL_FULL : Nat := 8
def stCAL_RANGE : Nat := 9
def stALLOC : Nat := 10
def stMODE : Nat := 11
def stSTANDBY : Nat := 12
def stVERIFY : Nat := 13

/-- MODE of a channel: DMA14 reads 3, DMA15 reads 0 (R496). -/
def State.chMode (s : State) (n : Nat) : Nat := if n = 14 then 3 else if n = 15 then 0 else s.get F.DMA_CH_CFG_MODE n

/-- HOST of a channel: DMA14 reads BPM_CFG.HOST (R496). -/
def State.chHost (s : State) (n : Nat) : Nat := if n = 14 then s.get F.BPM_CFG_HOST else s.get F.DMA_CH_CFG_HOST n

/-- PRIO of a channel: DMA14 reads 3 (R496). -/
def State.chPrio (s : State) (n : Nat) : Nat := if n = 14 then 3 else s.get F.DMA_CH_CFG_PRIO n

def State.chState (s : State) (n : Nat) : Nat := s.get F.DMA_CH_STAT_STATE n

/-- Enter a state: ENABLE is 0 in IDLE only, ACTIVE marks RUN and PAUSING, and CAUSE stands in STOPPED (R478, R496). -/
def State.setChState (s : State) (n st cause : Nat) : State :=
  let s := (s.put F.DMA_CH_STAT_STATE st n).put F.DMA_CH_STAT_ENABLE (if st = chIDLE then 0 else 1) n
  let s := s.put F.DMA_CH_STAT_CAUSE cause n
  s.putBit F.DMA_STAT_ACTIVE n (st == chRUN || st == chPAUSING)

/-! ## Rings and descriptors (R467 to R473) -/

def State.ringSize (s : State) (n : Nat) : Nat := 2 ^ s.get F.DMA_CH_CFG_SIZE n
def State.ringHead (s : State) (n : Nat) : Nat := s.get F.DMA_CH_HEAD_HEAD n % s.ringSize n
def State.ringBase (s : State) (n : Nat) : Nat := s.get F.DMA_CH_RING_LO_ADDR n * 32 + 2 ^ 32 * s.get F.DMA_CH_RING_HI_ADDR n

/-- Owned descriptors (R467). -/
def State.owned (s : State) (n : Nat) : Nat := (s.get F.DMA_CH_TAIL_TAIL n + 2 ^ 16 - s.get F.DMA_CH_HEAD_HEAD n) % s.ringSize n

/-- Bits `hi`:`lo` of a descriptor. -/
def db (d : BitVec 256) (hi lo : Nat) : Nat := nb d.toNat hi lo

def dLen (d : BitVec 256) : Nat := db d 151 128
def dType (d : BitVec 256) : Nat := db d 155 152

/-- A descriptor error (R469, R470, R475). -/
def State.descBad (s : State) (n : Nat) (d : BitVec 256) : Bool :=
  let t := dType d
  let allowed := (s.chMode n == 0 && (t == 1 || t == 2)) || (s.chMode n == 1 && (t == 3 || t == 4 || t == 5)) || (s.chMode n == 2 && t == 6)
  let rsvd := if t = 1 ∨ t = 2 then db d 127 124 != 0 || db d 223 157 != 0
    else if t = 6 then db d 127 64 != 0 || db d 223 158 != 0
    else db d 127 104 != 0 || db d 223 188 != 0
  let sp := db d 99 96
  let space := if n = 15 then t == 2 && sp == 3 else sp == 0 || sp == 1 || (sp == 2 && t == 1)
  !allowed || dLen d == 0 || rsvd || db d 255 255 == 1 || ((t == 1 || t == 2) && !space)

/-- The first failing check of a descriptor that then moves no byte (R471, R474): its STATUS. -/
def State.descCheck (s : State) (d : BitVec 256) : Option Nat :=
  let t := dType d
  let len := dLen d
  if t = 1 ∨ t = 2 then
    let sp := db d 99 96
    let ofs := db d 95 64
    let h := db d 123 100
    if sp = 0 then (if sramSize < ofs + len then some stRANGE else none)
    else if sp = 1 then
      if s.handleUnknown h || (s.owners h).isNone then some stHANDLE
      else if poolBytes (handlePool h) < ofs + len then some stRANGE else none
    else if sp = 2 then (if s.mode = modeLOAD then none else some stMODE)
    else none
  else if t = 6 then none
  else if len < 60 ∨ 15996 < len then some stFRAME_LEN
  else if (4 ≤ t ∧ 71 < db d 163 157) ∨ (t = 5 ∧ db d 169 167 = 2) then some stREQ_ERR
  else if s.isStandby || s.role == rolePAIRING then some stSTANDBY
  else if s.mode = modeLOAD ∨ (t = 3 ∧ s.mode = modeMAINTENANCE) then some stMODE
  else none

/-- Write to a host's memory, in TLPs of at most 256 bytes that cross no boundary of 256 bytes (R472). -/
def State.hostWrites (s : State) (host : Nat) : Nat → Nat → List Byte → State
  | 0, _, _ => s
  | k + 1, a, b =>
    if b.isEmpty then s
    else
      let n := 256 - a % 256
      (s.emit (.hostWrite host a (b.take n))).hostWrites host k (a + n) (b.drop n)

/-- The completion word (R468). -/
def cmplWord (status info : Nat) : Nat := 2 ^ 31 + status * 2 ^ 24 + info % 2 ^ 24

/-- Write back the completion of the descriptor at HEAD (R468, R476, R481). `all`: the 224 bits that an RX writes with it. -/
def State.writeBack (s : State) (n status info : Nat) (all : Option Nat) : State :=
  let a := s.ringBase n + 32 * s.ringHead n
  match all with
  | some m => s.emit (.hostWrite (s.chHost n) a (leBytes 32 (m % 2 ^ 224 + cmplWord status info * 2 ^ 224)))
  | none => s.emit (.hostWrite (s.chHost n) (a + 28) (leBytes 4 (cmplWord status info)))

/-- The events and counts of a completion, and HEAD's advance (R477, R481). -/
def State.completed (s : State) (n status : Nat) (irq : Bool) : State :=
  let s := s.put F.DMA_CH_HEAD_HEAD (s.get F.DMA_CH_HEAD_HEAD n + 1) n
  let s := (s.inc F.DMA_CH_DESC_CNT_COUNT n).put F.DMA_CH_CUR_BYTES 0 n
  let s := if status ≠ 0 then s.inc F.DMA_CH_ERR_CNT_COUNT n else s
  if status ≠ 0 ∧ irq = true then s.evt2 F.DMA_CH_EVT_DESC_DONE F.DMA_CH_EVT_DESC_ERR n
  else if status ≠ 0 then s.evt F.DMA_CH_EVT_DESC_ERR n
  else if irq then s.evt F.DMA_CH_EVT_DESC_DONE n
  else s

/-- The bits of INFO that the spec does not state for an outcome are free values (R468; log entry 62). `known` are the bits stated. -/
def State.infoWord (s : State) (known lo width : Nat) : Nat × State :=
  let (v, s) := s.draw 24
  ((v.toNat &&& (2 ^ 24 - 1 - ((2 ^ width - 1) <<< lo))) + known * 2 ^ lo, s)

/-! ## Stopping (R478, R484, R485) -/

/-- The TX frame that a channel was reading and had not committed is discarded. -/
def State.dropPartial (s : State) (n : Nat) : State :=
  let c := s.dch n
  match c.fid, c.committed with
  | some k, false => s.discardFrame k
  | _, _ => s

/-- The work of a channel is forgotten, but an RX copy in progress with its buffer stays (R478), one that lacks only its write-back among
them (DEDUCED, log entry 141), and so does an owed write-back. -/
def State.forget (s : State) (n : Nat) : State :=
  let c := s.dch n
  s.setDch n { copy := c.copy, handle := c.handle, info := c.info, again := c.again, owed := c.owed }

/-- Issue an owed write-back (R478). -/
def State.payOwed (s : State) (n : Nat) : State :=
  match (s.dch n).owed with
  | some (d, st, info) =>
    let s := (s.writeBack n st info none).completed n st (db d 156 156 == 1)
    (s.put F.DMA_CH_STAT_COMMITTED 0 n).setDch n { s.dch n with owed := none }
  | none => s

/-- A committed TX frame's write-back becomes owed. -/
def State.oweCommitted (s : State) (n : Nat) : State :=
  let c := s.dch n
  match c.committed, c.descs.head?, c.result with
  | true, some d, some (st, info) => (s.setDch n { c with owed := some (d, st, info) }).put F.DMA_CH_STAT_COMMITTED 1 n
  | _, _, _ => s

/-- A channel enters STOPPED with a cause. `up`: its host link is up, so that the write-back of a committed frame is issued. -/
def State.chStop (s : State) (n cause : Nat) (up : Bool) : State :=
  let s := (s.dropPartial n).oweCommitted n
  let s := if up then s.payOwed n else s
  let s := s.forget n
  let s := (s.setChState n chSTOPPED cause).evt F.DMA_CH_EVT_STOPPED n
  if n = 14 then s.waitsRetry else s

/-- BUS_ERROR (R484). A channel that has stopped already stays as it is, by the table of R478 (DEDUCED, log entry 141). -/
def State.busError (s : State) (host kind : Nat) (fetch : Bool) (addr : Nat) : State :=
  let first := !(s.bit F.DMA_ERR_VALID)
  let s := s.capture F.DMA_ERR_VALID F.DMA_ERR_MULTI
    (BitVec.ofNat 32 ((if fetch then 8 else 0) + host * 4 + kind))
  let s := if first then (s.put F.DMA_ERR_ADDR_LO_ADDR (addr % 2 ^ 32)).put F.DMA_ERR_ADDR_HI_ADDR (addr / 2 ^ 32) else s
  (List.range 16).foldl (fun s n => if s.chState n = chIDLE ∨ s.chState n = chSTOPPED then s else s.chStop n 2 true) s

/-- FLR, hot reset or link down of a host (R485): by the table of R478 also a channel that has stopped for another cause enters STOPPED
with cause LINK (DEDUCED, log entry 141). The buffer of an RX copy in progress is the host's no more (R491): the copy gets another. -/
def State.dmaLinkDown (s : State) (host : Nat) : State :=
  (List.range 16).foldl (fun s n =>
    if s.chHost n = host ∧ s.chState n ≠ chIDLE then
      let s := s.chStop n 3 false
      s.setDch n { s.dch n with handle := none }
    else s) s

/-! ## Judging the current descriptor -/

/-- The channel may process its first descriptor: DMA15 only once the PMC has started a dump (R470). -/
def State.mayProcess (s : State) (n : Nat) : Bool := n != 15 || s.pmc.go

/-- The first descriptor in hand becomes current: a descriptor error stops the channel with HEAD on it, a failing check ends it
(R469, R471, R474). -/
def State.chJudge (s : State) (n : Nat) : State :=
  let c := s.dch n
  match c.descs with
  | [] => s
  | d :: _ =>
    if c.started || !s.mayProcess n || s.chState n != chRUN then s
    else if s.descBad n d then
      let (info, s) := s.infoWord 0 0 0
      let s := s.writeBack n stDESC_ERR info none
      let s := (s.inc F.DMA_CH_ERR_CNT_COUNT n).evt F.DMA_CH_EVT_DESC_ERR n
      s.chStop n 1 true
    else
      match s.descCheck d with
      | some st =>
        let (info, s) := s.infoWord 0 0 0
        s.setDch n { s.dch n with started := true, result := some (st, info) }
      | none => s.setDch n { c with started := true, count0 := s.img.accepted }

/-- The read request for `k` descriptors behind those in hand (R467). -/
def State.fetchRequest (s : State) (n k : Nat) : State :=
  s.ringReads (s.chHost n) (s.ringBase n) 32 (s.ringSize n) ((s.ringHead n + (s.dch n).descs.length) % s.ringSize n) k

/-- DESCRIPTOR_FETCH (R467): at most four owned descriptors that are not in hand yet. -/
def State.descFetch (s : State) (n : Nat) (ds : List (BitVec 256)) : State :=
  let c := s.dch n
  if s.chState n = chRUN ∧ n ≠ 14 ∧ ds.length ≤ 4 ∧ c.descs.length + ds.length ≤ s.owned n then
    ((s.fetchRequest n ds.length).setDch n { c with descs := c.descs ++ ds }).chJudge n
  else s

/-! ## Commands (R478) -/

/-- A channel returns to IDLE: HEAD, TAIL and COMMITTED stay. The write-back of a frame committed since is issued. -/
def State.chIdle (s : State) (n : Nat) : State :=
  let s := (s.dropPartial n).oweCommitted n
  let s := if (s.dch n).committed then s.payOwed n else s
  let s := (s.forget n).setChState n chIDLE 0
  if n = 14 then s.waitsRetry else s

/-- A write of DMA_CHn_CTRL.OP. -/
def State.dmaCommand (s : State) (n op : Nat) : State :=
  let st := s.chState n
  let err := s.evt F.DMA_CH_EVT_CFG_ERR n
  let run := fun (s : State) => (((s.setChState n chRUN 0).payOwed n).put F.DMA_CH_CUR_BYTES 0 n)
  if st = chIDLE then
    if op = 1 ∧ (14 ≤ n ∨ s.chMode n ≠ 3) then run s else err
  else if st = chRUN then
    if op = 2 then s.setChState n chPAUSING 0
    else if op = 4 ∧ s.owned n = 0 ∧ (s.dch n).started = false then s.chIdle n
    else err
  else if st = chPAUSING then
    if op = 3 then (s.setChState n chRUN 0).chJudge n else err
  else if st = chPAUSED then
    if op = 3 then (s.setChState n chRUN 0).chJudge n else if op = 4 then s.chIdle n else err
  else
    if op = 1 ∧ !(s.get F.DMA_CH_STAT_CAUSE n = 2 ∧ s.bit F.DMA_ERR_VALID = true) then run s
    else if op = 4 then s.chIdle n
    else err

/-- DMA_PAUSED: a pausing channel has written out what it staged (R478, R483). -/
def State.chPaused (s : State) (n : Nat) : State :=
  if s.chState n = chPAUSING then (s.setChState n chPAUSED 0).evt F.DMA_CH_EVT_PAUSED n else s

/-- Every channel that is not IDLE is paused, and the pause has completed (R486). -/
def State.dmaPauseAll (s : State) : State :=
  (List.range 16).foldl (fun s n =>
    if s.chState n = chRUN ∨ s.chState n = chPAUSING then (s.setChState n chPAUSED 0).evt F.DMA_CH_EVT_PAUSED n else s) s

/-- Entry of a host into D3hot pauses its channels as by PAUSE (R485). -/
def State.dmaD3 (s : State) (host : Nat) : State :=
  (List.range 16).foldl (fun s n => if s.chHost n = host ∧ s.chState n = chRUN then s.setChState n chPAUSING 0 else s) s

/-! ## Copies (R470 to R472) -/

/-- The current descriptor of a channel that moves data: in RUN, or in PAUSING for reads already issued (R483). -/
def State.active (s : State) (n : Nat) : Option (BitVec 256) :=
  let c := s.dch n
  if (s.chState n == chRUN || s.chState n == chPAUSING) && c.started && c.result.isNone then c.descs.head? else none

/-- The byte address in service SRAM of byte `i` of a copy's device range. -/
def State.devAddr (s : State) (d : BitVec 256) (i : Nat) : Nat :=
  (if db d 99 96 = 1 then s.bufAddr (db d 123 100) else 0) + db d 95 64 + i

/-- The part of `b` that lies in the aligned four bytes holding its last byte (R482): its address and bytes. -/
def lastWord (a : Nat) (b : List Byte) : Option (Nat × List Byte) :=
  if b.isEmpty then none
  else
    let n := (a + b.length - 1) % 4 + 1
    let k := b.length - min n b.length
    some (a + k, b.drop k)

/-- The bytes moved, and CUR (R496). -/
def State.movedBytes (s : State) (n k : Nat) : State :=
  let c := s.dch n
  (s.setDch n { c with moved := c.moved + k }).put F.DMA_CH_CUR_BYTES (c.moved + k) n

/-- The read requests for `k` further bytes at a descriptor's HADDR. -/
def State.haddrReads (s : State) (n : Nat) (d : BitVec 256) (k : Nat) : State :=
  s.hostReads (s.chHost n) ((db d 63 0 + (s.dch n).moved) % 2 ^ 64) k

/-- H2D: bytes read from the host are written to the device space. A buffer in host memory is written there. -/
def State.h2d (s : State) (n : Nat) (data : List Byte) : State :=
  match s.active n with
  | some d =>
    if dType d ≠ 1 then s
    else
      let c := s.dch n
      let b := data.take (dLen d - c.moved)
      let a := s.devAddr d c.moved
      let s := s.haddrReads n d b.length
      let s : State :=
        if db d 99 96 = 2 then { s with img := { s.img with inbox := s.img.inbox ++ [(s.chHost n, b)] } }
        else if db d 99 96 = 1 ∧ s.poolHost (handlePool (db d 123 100)) = true then s.hostWrites (s.get F.BPM_CFG_HOST) b.length a b
        else s.sramWrite a b
      let s := s.setDch n { s.dch n with back := if db d 99 96 = 2 then none else lastWord a b }
      let s := s.movedBytes n b.length
      if (s.dch n).moved = dLen d then
        let (info, s) := s.infoWord 0 0 0
        s.setDch n { s.dch n with result := some (stOK, info) }
      else s
  | none => s

/-- The bytes of a device range: service SRAM, a buffer, or the counter snapshot (R470, R528). -/
def State.devBytes (s : State) (d : BitVec 256) (i k : Nat) : List Byte :=
  if db d 99 96 = 3 then (s.pmc.snap.drop (db d 95 64 + i)).take k else s.sramBytes (s.devAddr d i) k

/-- The bytes that a D2H copy moves: LEN, or the whole dump if that is shorter. -/
def State.d2hTotal (s : State) (d : BitVec 256) : Nat :=
  if db d 99 96 = 3 then min (dLen d) s.pmc.snap.length else dLen d

/-- D2H: up to `k` bytes of the device space are written to the host. `data`: what a buffer in host memory holds there. -/
def State.d2h (s : State) (n k : Nat) (data : List Byte) : State :=
  match s.active n with
  | some d =>
    if dType d ≠ 2 then s
    else
      let c := s.dch n
      let total := s.d2hTotal d
      let k := min k (total - c.moved)
      let far := db d 99 96 == 1 && s.poolHost (handlePool (db d 123 100))
      let b := if far then bytesAt data 0 k else s.devBytes d c.moved k
      let a := (db d 63 0 + c.moved) % 2 ^ 64
      let s := if far then s.hostReads (s.get F.BPM_CFG_HOST) (s.devAddr d c.moved) k else s
      let s := s.hostWrites (s.chHost n) b.length a b
      let s := (s.setDch n { s.dch n with back := none }).movedBytes n k
      if (s.dch n).moved = total then
        if db d 99 96 = 3 ∧ dLen d < s.pmc.snap.length then s.setDch n { s.dch n with result := some (stTRUNC, dLen d) }
        else
          let (info, s) := s.infoWord 0 0 0
          s.setDch n { s.dch n with result := some (stOK, info) }
      else s
  | none => s

/-! ## Sending frames (R473, R474) -/

/-- The DROP_* code that a directed frame's completion reports (R215, R475): 0 where one of its copies is admitted, each judged after those
before it, else the code of the last refusal. -/
def State.dirCode (s : State) (k : Nat) (nets : List (Nat × Copy)) : Nat :=
  let t := (s.admitNets s.isStandby nets).2
  if nets.any (fun e => (t.list e.1).any (fun c => c.fid == k)) then 0
  else match t.frame k with
    | some f => if f.refused = 0 then 0x30 else f.refused
    | none => 0x30

/-- A directed frame is offered to admission as one green copy with HOST = 1 (R215): the drop code of a refusal, or 0. -/
def State.directAdmit (s : State) (k : Nat) : Nat × State :=
  match s.frame k with
  | none => (3, s)
  | some f =>
    if f.stage == .gone then (if f.drop = 0 then 3 else f.drop, s)
    else if s.underTest 2 then (0x02, s.dropFrame k 0x02)
    else
      let f := { f with stage := .policed, dec := { f.dec with dst := 2 ^ f.dirPort, queue := f.dirQueue } }
      let s := s.setFrame k (some f)
      let (nets, s) := s.netCopies k f
      let nets := nets.map (fun e => (e.1, { e.2 with host := true }))
      (s.dirCode k nets, s.admitFrame k nets s.isStandby)

/-- A launched frame leaves the shared cells: it stays only for a TWIN copy (R409). -/
def State.launchGone (s : State) (k : Nat) : State :=
  match s.frame k with
  | none => s
  | some f =>
    if f.fwd then
      ((s.setFrame k (some { f with stage := .policed })).admitCopies [(583, { fid := k, twin := true })]).admitEnd k
    else s.discardFrame k

/-- A launched frame is copied into a buffer and inserted into its port's calendar (R260, R474): the STATUS, and the handle. -/
def State.launchCommit (s : State) (k ch : Nat) : Nat × Nat × State :=
  match s.frame k with
  | none => (stREFUSED, 0xFFFFFF, s)
  | some f =>
    if f.stage == .gone then (stREFUSED, 0xFFFFFF, s)
    else
      let ports := s.launchPorts f.dirPort
      let (st, h, s) := s.bpmAlloc f.rx.length userDMA (some false) (ports.map (fun p => 0x40 + p))
      if st ≠ 0 then (stALLOC, 0xFFFFFF, s.launchGone k)
      else
        let s := s.sramWrite (s.bufAddr h) f.rx
        let e : CalEntry := { lt := f.lt % 2 ^ 40, queue := f.dirQueue, len := f.rx.length, src := 16 + ch, handle := h, req := f.req,
                              stamp := ts40 (domRound (s.dom 0)), group := 0 }
        let (res, took, s) := s.launchInsert ports e (beAt f.rx 6 6)
        let s := (ports.filter (fun p => !took.contains p)).foldl (fun s p => s.egressRelease p e) s
        let s := s.launchGone k
        (match res with
          | .accepted => stOK
          | .full => stCAL_FULL
          | .tooFar => stCAL_RANGE, h, s)

/-- A host frame is committed (R22, R404, R408, R474): it takes its arrival position as an input, is forwarded on an ACTIVE device,
and goes its way by TYPE. Before T_p it is dropped (DEDUCED, log entry 131). Answers STATUS and INFO. -/
def State.hostCommit (s : State) (n k : Nat) (d : BitVec 256) : (Nat × Nat) × State :=
  match s.frame k with
  | none => ((stOK, 0), s)
  | some f0 =>
    let t := dType d
    let base := s.mkFrame 72 f0.origin false 16000 (domRound (s.dom 0))
    let f := { f0 with time := base.time, stamp := base.stamp, gen := base.gen, epoch := base.epoch, cfg := base.cfg, done := true }
    let s := s.setFrame k (some f)
    let enters := t != 3 || s.queueRoom f
    let code := if f.stage == .gone then (if f.drop = 0 then 0x03 else f.drop) else if s.twinClosed then 0x02 else 0
    let s := if f.stage != .gone && s.twinClosed then s.dropFrame k 0x02 else s
    let s := if code ≠ 0 || !enters then s
      else if s.logs then
        let (fid, s) := s.fwdWindow k [db d 191 128, db d 103 64 * 2 ^ 24]
        s.orderTag f 72 3 0 fid
      else s.orderTag f 72 3 0 0
    if t = 3 then
      let s := if code ≠ 0 then s.settle k else s.takePosition k
      let (info, s) := s.infoWord 0 0 0
      ((stOK, info), s)
    else if code ≠ 0 then
      let (info, s) := (s.settle k).infoWord code 16 8
      ((stREFUSED, info), s)
    else if t = 4 then
      let (code, s) := s.directAdmit k
      if code = 0 then
        let (info, s) := s.infoWord 0 0 0
        ((stOK, info), s)
      else
        let (info, s) := s.infoWord code 16 8
        ((stREFUSED, info), s)
    else
      let (st, h, s) := s.launchCommit k n
      if st = stOK then ((st, h), s)
      else if st = stREFUSED then
        let (info, s) := s.infoWord 0x03 16 8
        ((st, info), s)
      else
        let (info, s) := s.infoWord 0 0 0
        ((st, info), s)

/-- Bytes of a frame are read from the host into shared cells (R474 steps 2 and 3); at the last one the FCS is appended (R473) and
the frame is committed. `type`: the row's TYPE. -/
def State.txRead (s : State) (n type : Nat) (data : List Byte) : State :=
  match s.active n with
  | some d =>
    if dType d ≠ type then s
    else
      let c := s.dch n
      let b := data.take (dLen d - c.moved)
      if b.isEmpty then s
      else
        let s := s.haddrReads n d b.length
        let (k, s) : Nat × State := match c.fid with
          | some k => (k, s)
          | none =>
            let origin : Origin := if type = 3 then .hostSw n else .hostDir n
            let f := txFields (s.mkFrame 72 origin false 16000 (domRound (s.dom 0))) (db d 191 128) (db d 103 64)
            s.addFrame { f with hostType := type }
        let s := s.takeBytes k b
        let s := (s.setDch n { s.dch n with fid := some k }).movedBytes n b.length
        if (s.dch n).moved = dLen d then
          let rx : List Byte := match s.frame k with | some f => f.rx | none => []
          let s := s.takeBytes k (leBytes 4 (crc32 rx).toNat)
          let (r, s) := s.hostCommit n k d
          s.setDch n { s.dch n with result := some r, committed := true }
        else s
  | none => s

/-- The released host frames of a lagging device are acted on (R406, R474): a directed frame at its release, a launched one once its
last byte is there. -/
def State.hostReleased (s : State) : State :=
  let l := s.twn.hostRel
  let s := s.setTwn { s.twn with hostRel := [] }
  l.foldl (fun s k =>
    match s.frame k with
    | none => s
    | some f =>
      if !f.done then s.setTwn { s.twn with hostRel := s.twn.hostRel ++ [k] }
      else if f.hostType = 4 then (s.directAdmit k).2
      else (s.launchCommit k 0).2.2) s

/-! ## Receiving frames (R475, R476) -/

/-- The channel that CPU queue `c` feeds: the lowest RX channel that is not IDLE and names it. -/
def State.rxChannel (s : State) (c : Nat) : Option Nat :=
  (List.range 14).find? (fun n => s.chMode n == 2 && s.chState n != chIDLE && (s.get F.DMA_CH_CFG_QMASK n).testBit c)

/-- The head copy of a list is complete. -/
def State.headDone (s : State) (n : Nat) : Bool :=
  match (s.list n).head? with
  | some c => (match s.frame c.fid with | some f => f.done | none => false)
  | none => false

/-- The queue that a channel serves: the highest whose head is selectable. -/
def State.rxQueue (s : State) (n : Nat) : Option Nat :=
  ((List.range 16).reverse).find? (fun c => s.rxChannel c == some n && s.headDone (592 + c))

/-- The metadata of a copy (R476), without HADDR and BHANDLE. -/
def rxMeta (f : Frame) (e : EditRec) : Nat :=
  f.stamp * 2 ^ 64 + f.epoch % 2 ^ 16 * 2 ^ 104 + f.src % 128 * 2 ^ 120 + (if e.strm then 2 ^ 127 else 0) + min f.rx.length f.maxlen % 2 ^ 14 * 2 ^ 128
    + e.cpuq % 16 * 2 ^ 142 + e.cause % 4 * 2 ^ 146 + e.slow % 256 * 2 ^ 148 + e.err % 128 * 2 ^ 156 + e.handle % 2 ^ 14 * 2 ^ 163
    + f.colour % 4 * 2 ^ 177

/-- The channel takes the head of its queue. An expired head is discarded instead (R228). -/
def State.rxTake (s : State) (n : Nat) (d : BitVec 256) : State :=
  match s.rxQueue n with
  | none => s
  | some q =>
    match s.takeSound (592 + q) with
    | (none, s) => s
    | (some c, s) =>
      match s.frame c.fid with
      | none => s
      | some f => s.setDch n { s.dch n with copy := some (592 + q, c), handle := none, info := rxMeta f (copyEdit f c) }

/-- The stored bytes and FLEN of the copy in progress, or of the one written whole whose descriptor is done again (R478). -/
def State.rxWhole (s : State) (n : Nat) : Option (List Byte × Nat) :=
  match (s.dch n).copy with
  | some (_, c) => (s.frame c.fid).map (fun f => (stored f, min f.rx.length f.maxlen))
  | none => (s.dch n).again

/-- Before its first byte a copy gets the place that its descriptor asks for (R475): with BPM = 1 a buffer, unless it has one from before a
restart; with BPM = 0 none. An allocation that fails discards the copy (R476). -/
def State.rxPlace (s : State) (n : Nat) (d : BitVec 256) : State :=
  let ch := s.dch n
  match s.rxWhole n with
  | none => s
  | some (_, flen) =>
    if ch.moved ≠ 0 then s
    else if db d 157 157 = 1 then
      if ch.handle.isSome then s
      else
        let (st, h, s) := s.bpmAlloc flen userDMA (some true) [s.chHost n + 1]
        if st = 0 then s.setDch n { ch with handle := some h }
        else
          let s := s.setDch n { ch with copy := none, again := none, result := some (stALLOC, 0) }
          match ch.copy with
          | some (list, c) => s.endCopy list c
          | none => s
    else match ch.handle with
      | some h => (s.hwRelease h (s.chHost n + 1)).setDch n { ch with handle := none }
      | none => s

/-- Where a received copy goes: the host, and the address of its first byte (R475). A buffer lies in the memory of BPM_CFG.HOST (R488). -/
def State.rxPort (s : State) (n : Nat) : Nat := if (s.dch n).handle.isSome then s.get F.BPM_CFG_HOST else s.chHost n
def State.rxAddr (s : State) (n : Nat) (d : BitVec 256) : Nat :=
  match (s.dch n).handle with
  | some h => s.bufAddr h % 2 ^ 64
  | none => db d 63 0

/-- The first 224 bits of the write-back of an RX descriptor (R476). -/
def State.rxWord (s : State) (n : Nat) (d : BitVec 256) : Nat :=
  (s.dch n).info + s.rxAddr n d + (s.dch n).handle.getD 0xFFFFFF * 2 ^ 182

/-- RX: take a copy if none is in progress, and write up to `k` of its bytes. -/
def State.rx (s : State) (n k : Nat) : State :=
  match s.active n with
  | some d =>
    if dType d ≠ 6 then s
    else
      let s := if (s.dch n).copy.isNone ∧ (s.dch n).again.isNone ∧ s.chState n = chRUN then s.rxTake n d else s
      let s := s.rxPlace n d
      match s.rxWhole n with
      | none => s
      | some (data, flen) =>
        let ch := s.dch n
        let total := min data.length (dLen d)
        let k := min k (total - ch.moved)
        let b := (data.drop ch.moved).take k
        let s := s.hostWrites (s.rxPort n) b.length (s.rxAddr n d + ch.moved) b
        let s := s.movedBytes n k
        if (s.dch n).moved = total then
          let st := if dLen d < flen then stTRUNC else stOK
          let (info, s) := s.infoWord total 0 14
          let s := s.setDch n { s.dch n with result := some (st, info), copy := none, again := some (data, flen) }
          match ch.copy with
          | some (list, c) => s.endCopy list c
          | none => s
        else s
  | none => s

/-! ## Completion (R481, R482) -/

/-- Verify is set or forced (R39, R482). -/
def State.verifies (s : State) : Bool := s.bit F.DMA_CFG_VERIFY || s.mode == modeLOAD || s.mode == modeMAINTENANCE

/-- The read-back finds what was written. `same`: the comparison with host memory. -/
def State.readBackOk (s : State) (n : Nat) (d : BitVec 256) (same : Bool) : Bool :=
  let c := s.dch n
  if dType d = 1 then
    if db d 99 96 = 2 then s.img.accepted == c.count0 + dLen d
    else match c.back with
      | some (a, b) =>
        if db d 99 96 = 1 ∧ s.poolHost (handlePool (db d 123 100)) = true then same else s.sramBytes a b.length == b
      | none => true
  else if dType d = 2 ∨ dType d = 6 then same
  else true

/-- Where in a host's memory the last byte that the descriptor wrote lies, if it wrote one there (R482): the host and the address. -/
def State.lastHostByte (s : State) (n : Nat) (d : BitVec 256) : Option (Nat × Nat) :=
  let c := s.dch n
  if c.moved = 0 then none
  else if dType d = 2 then some (s.chHost n, db d 63 0 + c.moved - 1)
  else if dType d = 6 then some (s.rxPort n, s.rxAddr n d + c.moved - 1)
  else match c.back with
    | some (a, b) =>
      if dType d = 1 ∧ db d 99 96 = 1 ∧ s.poolHost (handlePool (db d 123 100)) = true then some (s.get F.BPM_CFG_HOST, a + b.length - 1) else none
    | none => none

/-- The read-back of host memory: the aligned four bytes that hold the last byte written (R482). -/
def State.readBackRequest (s : State) (n : Nat) (d : BitVec 256) : State :=
  match s.lastHostByte n d with
  | some (host, a) => s.hostReads host (a / 4 * 4) 4
  | none => s

/-- DESCRIPTOR_COMPLETE: the descriptor in progress has come to its outcome, and its writes are acknowledged. Bytes of SPACE 2 are
acknowledged once the loader has taken them. -/
def State.descComplete (s : State) (n : Nat) (same : Bool) : State :=
  let c := s.dch n
  match c.descs, c.result with
  | d :: rest, some (st, info) =>
    if !(s.chState n == chRUN || s.chState n == chPAUSING) then s
    else if dType d = 1 ∧ db d 99 96 = 2 ∧ !s.img.inbox.isEmpty then s
    else
      let back := s.verifies && (st == stOK || st == stTRUNC)
      let s := if back then s.readBackRequest n d else s
      let st := if back && !s.readBackOk n d same then stVERIFY else st
      let s := s.writeBack n st info (if dType d = 6 then some (s.rxWord n d) else none)
      let s := s.completed n st (db d 156 156 == 1)
      let s := s.setDch n { descs := rest, owed := c.owed }
      let s : State := if n = 15 then { s with pmc := { s.pmc with go := false, ended := true } } else s
      s.chJudge n
  | _, _ => s

/-! ## Beats (R479, R480) -/

/-- DMA14 has a beat ready for a pool in host memory (R479, R489): a read for a refill, a write for a spill or for an INIT. -/
def State.poolBeat (s : State) (write : Bool) : Bool :=
  s.dma14Runs && (List.range 8).any (fun k =>
    let p := s.pool k
    s.poolHost k && (if write then decide (24 < p.cache.length) || p.init else decide (p.cache.length < 8 ∧ 0 < p.count)))

/-- A channel has a beat ready: a read for a fetch, for data that its work needs or for a read-back (R482), a write for data or a
write-back. -/
def State.beatReady (s : State) (n : Nat) (write : Bool) : Bool :=
  let c := s.dch n
  let st := s.chState n
  if n = 14 then s.poolBeat write
  else if write then (st == chRUN || st == chPAUSING) && (c.result.isSome || (match s.active n with
    | some d => dType d == 2 || (dType d == 6 && (c.copy.isSome || c.again.isSome || (s.rxQueue n).isSome))
    | none => false))
  else st == chRUN && (match s.active n with
    | some d => dType d != 2 && dType d != 6
    | none => decide (c.descs.length < s.owned n) || (match c.descs, c.result with
      | d :: _, some (r, _) => s.verifies && (r == stOK || r == stTRUNC) && (s.lastHostByte n d).isSome
      | _, _ => false))

/-- A grant of one arbiter (R480): the highest priority, then round robin; the turn moves after 64 beats or at the end of a
descriptor. -/
def State.beatGrant (s : State) (host : Nat) (write : Bool) : State :=
  let a := 2 * host + (if write then 1 else 0)
  let ready := (List.range 16).filter (fun n => s.chHost n == host && s.beatReady n write)
  let top := ready.foldl (fun m n => max m (s.chPrio n)) 0
  let cand := ready.filter (fun n => s.chPrio n == top)
  let last := tabGet 0 s.dma.turn a
  let beats := tabGet 0 s.dma.beats a
  let keep := cand.contains last && decide (0 < beats ∧ beats < 64) && (s.dch last).result.isNone
  let pick := if keep then some last else (((List.range 16).map (fun i => (last + 1 + i) % 16)).find? (fun n => cand.contains n))
  match pick with
  | none => s
  | some n =>
    let b := if keep then beats + 1 else 1
    ({ s with dma := { s.dma with turn := tabSet 0 s.dma.turn a n, beats := tabSet 0 s.dma.beats a b } }).count 0x4F a

/-- A reset episode that clears DMA (R478, R486). The registers take their reset values elsewhere. -/
def State.dmaClear (s : State) : State := { s with dma := {} }

end Sys2Proof.Machine
end

