-- ==== Sys2Proof/Machine/TxOps.lean ====
section
/-! DEFINITION. Transmission: the egress editor (05_forwarding_tables.md R145, 11_invar_time_unit.md R315 to R322, 14_twin_lockstep.md
R415 and R416), selection (08_egress_scheduling.md R243 to R247, R261), departure, preemption (03_ports_and_macs.md R90, R92) and the
end of a transmission. -/

namespace Sys2Proof.Machine

/-! ## The egress editor -/

/-- The frame carries an outer VLAN tag. -/
def outerTag (b : List Byte) : Bool := beAt b 12 2 == 0x8100 || beAt b 12 2 == 0x88A8

/-- The IPv4 header checksum after words of the header changed (RFC 1624). -/
def ipFix (hc : Nat) (before after : List Byte) : Nat :=
  65535 - fold16 ((65535 - hc) + (65535 - fold16 (sum16 before)) + fold16 (sum16 after)) % 65536

/-- TTL or hop limit less one, and the IPv4 header checksum (R145). -/
def ttlEdit (b : List Byte) (l3off l3t : Nat) : List Byte :=
  match l3t with
  | 1 =>
    let nb := putBytes b (l3off + 8) (beBytes 1 (beAt b (l3off + 8) 1 + 255))
    putBytes nb (l3off + 10) (beBytes 2 (ipFix (beAt b (l3off + 10) 2) (bytesAt b (l3off + 8) 2) (bytesAt nb (l3off + 8) 2)))
  | 2 => putBytes b (l3off + 7) (beBytes 1 (beAt b (l3off + 7) 1 + 255))
  | _ => b

/-- The source address of a port. -/
def State.portMac (s : State) (p : Nat) : Nat := s.get F.PORT_MAC_A_SA_HI p * 2 ^ 16 + s.get F.PORT_MAC_B_SA_LO p

/-- The routed rewrite (R145). A frame without an outer tag gets none. -/
def State.routeEdit (s : State) (p : Nat) (e : EditRec) (b : List Byte) : List Byte :=
  let b := ttlEdit b e.l3off e.l3t
  let b := putBytes (putBytes b 0 (beBytes 6 e.dmac)) 6 (beBytes 6 (s.portMac p))
  if outerTag b then putBytes b 14 (beBytes 2 (beAt b 14 2 / 4096 * 4096 + e.vid % 4096)) else b

/-- The frame still carries the tag or trailer of the attachment that it came from (R415): HSR true, PRP false. -/
def State.ringTag (s : State) (f : Frame) : Option Bool :=
  match s.attKey f with
  | some (c, _) => some (s.get F.TWN_ATT_A_MODE c == 0)
  | none => none

/-- A frame without the tag of its HSR attachment (R415). -/
def State.hsrTagOff (s : State) (f : Frame) (b : List Byte) : List Byte :=
  if s.ringTag f = some true then b.take (hsrOff b) ++ b.drop (hsrOff b + 6) else b

/-- A complete frame without the trailer of its PRP attachment (R415). -/
def State.prpTagOff (s : State) (f : Frame) (b : List Byte) : List Byte :=
  if s.ringTag f = some false then b.take (b.length - 6) else b

/-- The LSDU size of a tag or trailer: what follows the addresses, the outer VLAN tag and the EtherType, with the six bytes of the tag
or trailer itself (PRESUMED from IEC 62439-3, log entry 70). For a copy that starts before its frame is complete nothing states the
size: it is a free value of the copy (log entries 1 and 70). -/
def lsduSize (c : Copy) (b : List Byte) : Nat :=
  if c.early then (Config.freeValue 12 (2 ^ 64 + c.fid)).toNat else b.length - 14 - (if outerTag b then 4 else 0) + 6

/-- The second port of an attachment has path 1 and LanId B, the first path 0 and LanId A (PRESUMED from IEC 62439-3, log entry 70). -/
def State.secondPort (s : State) (p a : Nat) : Bool := s.get F.TWN_ATT_A_PORT_A a != p

/-- A frame with the tag of an HSR attachment (R416). -/
def State.hsrTagOn (s : State) (p : Nat) (c : Copy) (b : List Byte) : List Byte :=
  match c.seq, s.attOf p with
  | some n, some a =>
    if s.get F.TWN_ATT_A_MODE a = 0 then
      let o := hsrOff b
      b.take o ++ beBytes 2 0x892F ++ beBytes 2 ((if s.secondPort p a then 4096 else 0) + lsduSize c b % 4096) ++ beBytes 2 n ++ b.drop o
    else b
  | _, _ => b

/-- A complete frame with the trailer of a PRP attachment (R416). -/
def State.prpTagOn (s : State) (p : Nat) (c : Copy) (b : List Byte) : List Byte :=
  match c.seq, s.attOf p with
  | some n, some a =>
    if s.get F.TWN_ATT_A_MODE a = 0 then b
    else b ++ beBytes 2 n ++ beBytes 2 ((if s.secondPort p a then 0xB000 else 0xA000) + lsduSize c b % 4096) ++ beBytes 2 0x88FB
  | _, _ => b

/-- A frame with the tag or trailer of the attachment of port `p`. -/
def State.tagOn (s : State) (p : Nat) (seq : Option Nat) (b : List Byte) : List Byte :=
  let c : Copy := { fid := 0, seq := seq }
  s.prpTagOn p c (s.hsrTagOn p c b)

/-- The edits of a copy in front of its payload (R145, R415, R416), on bytes from its frame's first one on. -/
def State.editFront (s : State) (p : Nat) (f : Frame) (c : Copy) (b : List Byte) : List Byte :=
  if c.pass then b
  else
    let e := copyEdit f c
    let b := if e.routed then s.routeEdit p e b else b
    let b := s.hsrTagOff f b
    let b := if e.untag && outerTag b then b.take 12 ++ b.drop 16 else b
    s.hsrTagOn p c b

/-- The edits of a copy but for PTP (R145, R415, R416), on the bytes of its frame without the FCS. -/
def State.editBody (s : State) (p : Nat) (f : Frame) (c : Copy) (b : List Byte) : List Byte :=
  if c.pass then b else s.prpTagOn p c (s.editFront p f c (s.prpTagOff f b))

/-- How far the edits move what follows the tags: the bytes put in front of it less those taken away. -/
def State.editShift (s : State) (p : Nat) (f : Frame) (c : Copy) : Int :=
  if c.pass then 0
  else
    let hsrOn := match c.seq, s.attOf p with
      | some _, some a => s.get F.TWN_ATT_A_MODE a == 0
      | _, _ => false
    (if hsrOn then 6 else 0) - (if s.ringTag f = some true then 6 else 0)
      - (if (copyEdit f c).untag && outerTag f.rx then 4 else 0)

/-- A frame with its FCS. -/
def withFcs (b : List Byte) : List Byte := b ++ leBytes 4 (crc32 b).toNat

/-- A frame with a stomped FCS (R222). -/
def withStomp (b : List Byte) : List Byte := b ++ leBytes 4 (~~~ (crc32 b)).toNat

/-! ## PTP candidates (R315, R316, R321) -/

/-- The action of a host's request. -/
def reqAction (r : PtpReq) : PtpAction :=
  match r.act with
  | 1 => .origin r.td
  | 2 => .turnaround r.arg
  | _ => .none

/-- The candidate that a directed or launched host frame is, by its request alone. -/
def directedCand (r : PtpReq) (shift : Int) (stamp : Nat) : PtpCand :=
  { action := reqAction r, badReq := decide (3 ≤ r.act) || r.transport == 0, forwarded := false, transport := r.transport,
    ptpOff := (r.ptpOff + shift).toNat, l4Off := (r.l4Off + shift).toNat, stamp := stamp }

/-- The candidate that a copy for network port `p` is, if any. -/
def State.ptpCand (s : State) (p : Nat) (f : Frame) (c : Copy) : Option PtpCand :=
  let shift := s.editShift p f c
  let parsed := fun (a : PtpAction) (bad fwd : Bool) =>
    ({ action := a, badReq := bad, forwarded := fwd, transport := prvBits f.prv 232 230,
       ptpOff := (prvBits f.prv 163 157 + shift).toNat, l4Off := (prvBits f.prv 169 164 + shift).toNat, stamp := f.stamp } : PtpCand)
  let has := decide (1 ≤ prvBits f.prv 232 230 ∧ prvBits f.prv 232 230 ≤ 3)
  match f.origin with
  | .hostDir _ => f.req.map (fun r => directedCand r shift f.stamp)
  | .hostSw _ => if has then f.req.map (fun r => parsed (reqAction r) (decide (3 ≤ r.act)) false) else none
  | _ =>
    if !has then none
    else match s.get F.INV_PTP_CFG_TC_MODE p with
      | 1 => some (parsed .e2e false true)
      | 2 => some (parsed .p2p false true)
      | _ => none

/-- The wire time of `n` bytes of port `p` in 2^-16 ns. -/
def State.bytes16 (s : State) (p n : Nat) : Nat := n * 8000 * 65536 / s.portMbps p

/-- A departure whose SFD lies `ofs` of 2^-16 ns after the present tick (R312, R316). -/
def State.departAt (s : State) (ofs : Nat) : Nat := (domNs (s.dom 0) * 65536 + ((s.dom 0).frac / 2 ^ 32 : Nat) + ofs).toNat

/-- What an edit needs of a departure (R316, R317). -/
def State.ptpCtx (s : State) (c : PtpCand) (src ofs : Nat) : PtpCtx :=
  let d := match c.action with | .origin td => td | _ => 0
  let m := s.dom d
  let t := (m.sec * 1000000000 + m.ns) * 65536 + m.frac / 2 ^ 32 + ofs
  { at16 := s.departAt ofs % 2 ^ 56, sec := t / (65536 * 1000000000) % 2 ^ 48, ns := t / 65536 % 1000000000, frac16 := t % 65536,
    ratios := s.ptpRatios, ldly := s.get F.INV_PTP_LDLY_LDLY src }

/-- The bytes of a frame, without its FCS, after the edit of its candidate; a skip is counted. -/
def State.ptpApply (s : State) (x : Option (PtpCand × PtpCtx)) (b : List Byte) : List Byte × State :=
  match x with
  | none => (b, s)
  | some (c, ctx) =>
    match ptpEdit c ctx b with
    | .asIs => (b, s)
    | .edited nb => (nb, s)
    | .skip r => (b, s.ptpSkip r)

/-! ## What a selected transmission sends -/

/-- The number that stands for no frame, in the copy of a launch entry. -/
def launchFid : Nat := 2 ^ 60

/-- The length of the frame that a copy or an entry sends, with its FCS, where its frame is complete. -/
def State.sendLen (s : State) (p : Nat) (x : Tx) : Option Nat :=
  match x.entry with
  | some e => some (s.tagOn p e.seq (List.replicate (e.len - 4) 0)).length.succ.succ.succ.succ
  | none =>
    match s.frame x.copy.fid with
    | some f => if f.done then some ((s.editBody p f x.copy ((stored f).take (storedLen f - 4))).length + 4) else none
    | none => none

/-! ## The inter-frame gap (R74, R243) -/

/-- The modes whose PCS aligns frames to four bytes and may use a deficit idle count: those of Clause 49 and Clause 107 (R72, R74). -/
def alignedMode (m : Nat) : Bool := m == 3 || m == 4 || m == 5 || m == 6 || m == 8 || m == 9

/-- The gap after a packet of `n` bytes behind its preamble, and the deficit idle count after it, `d` before it (R74; the count of
IEEE 802.3 Clause 46, PRESUMED, log entry 124): 12 bytes, or on an aligned mode 9 to 15 so that the next frame starts on four bytes. -/
def gapOf (aligned : Bool) (d n : Nat) : Nat × Nat :=
  let r := n % 4
  if !aligned || r == 0 then (12, d)
  else if d + r ≤ 3 then (12 - r, d + r)
  else (16 - r, d + r - 4)

/-- The gap and the count on a port. -/
def State.gapAfter (s : State) (p d n : Nat) : Nat × Nat := gapOf (alignedMode (s.get F.PORT_MODE_MODE p)) d n

/-- The wire time, in ps, of a packet of `n` bytes with its preamble and the gap that follows it. -/
def State.packetPs (s : State) (p d n : Nat) : Nat := wirePs (s.portMbps p) (8 + n + (s.gapAfter p d n).1)

/-- The bytes behind the preamble that the transmission in progress sends in its present fragment, where they are known: what is left of
its frame, or of the part that a stomp has left with its FCS (R222). -/
def State.packetLen (s : State) (p : Nat) (x : Tx) : Option Nat :=
  match x.cut with
  | some n => some (n + 4 - x.sent)
  | none => (s.sendLen p x).map (fun n => n - x.sent)

/-- The transmission whose end decides when the lane is free: what has been given to a MAC and has not started, else what is sent. -/
def State.laneTx (s : State) (p : Nat) : Option Tx :=
  match s.txGet p 3, s.txGet p 2, s.txGet p 0 with
  | some x, _, _ => some x
  | none, some x, _ => some x
  | none, none, some x => some x
  | none, none, none => if (s.port p).preempted then none else s.txGet p 1

/-- The lane time from which the lane is free, where it is known (R243): a transmission whose length was not known when it was selected
tells it once its frame is complete or it has been stomped. -/
def State.laneFreeAt (s : State) (p : Nat) : Option Int :=
  match (s.port p).laneFree with
  | some t => some t
  | none => (s.laneTx p).bind (fun x => (s.packetLen p x).map (fun n => x.startPs + (s.packetPs p x.dic n : Nat)))

/-- The lane's next free time is entered as soon as it is known. -/
def State.laneFix (s : State) (p : Nat) : State :=
  match (s.port p).laneFree, s.laneTx p, s.laneFreeAt p with
  | none, some x, some t =>
    s.setPort p { s.port p with laneFree := some t, dic := (s.gapAfter p x.dic ((s.packetLen p x).getD 0)).2 }
  | _, _, _ => s

/-! ## Eligibility (R244, R251, R261) -/

/-- What a queue has at its head (R243): its due launch entry, else the head copy of its list where it can be sent. -/
inductive Head where
  | launch (e : CalEntry)
  | copy (c : Copy) (length : Nat)
  deriving DecidableEq, Repr

/-- The length of a head for the guard, and for its cost (R246, R251). -/
def Head.len : Head → Nat
  | .launch e => e.len
  | .copy _ n => n

/-- The head of queue `q`. -/
def State.queueHead (s : State) (p q : Nat) : Option Head :=
  match (if (s.eg p).due && s.launchIsDue p then (s.armed p).filter (fun e => e.queue == q) else none) with
  | some e => some (.launch e)
  | none =>
    match (s.list (8 * p + q)).head? with
    | none => none
    | some c =>
      match s.frame c.fid with
      | some f => if s.selectable c then some (.copy c (if f.done then storedLen f else f.maxlen)) else none
      | none => none

/-- The launch guard holds queue `q` back for a head of guard length `lg` whose lane start is `ls` (R261). -/
def State.launchGuard (s : State) (p q lg : Nat) (ls : Int) : Bool :=
  match s.armed p with
  | none => false
  | some e =>
    s.mode != modeBRIDGE && (s.isExpress p q == s.isExpress p e.queue) && (if e.queue ≤ 4 then decide (q ≤ 4) else decide (q ≤ e.queue))
      && decide (s.launchNs e.lt * 1000 < ls + s.guardPs p q lg (s.nextClose p q (ls / 1000)))

/-- Queue `q` is eligible at the present tick (R244). -/
def State.eligible (s : State) (p q : Nat) : Bool :=
  let ls := s.lanePs p
  match s.queueHead p q with
  | none => false
  | some h =>
    let isLaunch := match h with | .launch _ => true | .copy _ _ => false
    s.bit F.PORT_CTRL_ENABLE p && s.bit F.PORT_STAT_LINK p && !((s.get F.PORT_FC_STAT_RX_PAUSED_Q p).testBit q)
      && s.gateAdmits p q h.len ls
      && (isLaunch || !(s.bit F.EGS_SHP_CFG_EN p q) || decide (0 < s.tok p q))
      && (isLaunch || !(s.launchGuard p q h.len ls))
      && (s.isExpress p q || !(s.holdAt p (ls / 1000)))

/-! ## Finish tags (R246, R247) -/

/-- The cost of the head of a group queue. -/
def State.headCost (s : State) (p q : Nat) (h : Head) : Nat := sfqCost h.len (s.get F.EGS_OVERHEAD_OVH p) (s.weight p q)

/-- The finish tag of a group queue. -/
def State.ftag (s : State) (p q : Nat) : Nat := tabGet 0 (s.eg p).tag q

/-- Set a finish tag. -/
def State.setFtag (s : State) (p q v : Nat) : State := s.setEg p { s.eg p with tag := tabSet 0 (s.eg p).tag q (v % 2 ^ 32) }

/-- The tag before the cost of the present head. -/
def State.ftagBase (s : State) (p q : Nat) : Nat := tabGet 0 (s.eg p).tagBase q

/-- A head whose tag starts from `v` (R246). -/
def State.setTag (s : State) (p q v cost : Nat) : State :=
  (s.setFtag p q (v + cost)).setEg p { (s.setFtag p q (v + cost)).eg p with tagBase := tabSet 0 (s.eg p).tagBase q (v % 2 ^ 32) }

/-- The cost of what stands at the head of a group queue, sendable or not: of a copy whose frame is not complete by its port's MAXLEN
(R246; DEDUCED for a stored copy, log entry 71). -/
def State.groupCost (s : State) (p q : Nat) : Option Nat :=
  match s.queueHead p q with
  | some h => some (s.headCost p q h)
  | none =>
    match (s.list (8 * p + q)).head? with
    | none => none
    | some c => (s.frame c.fid).map (fun f => s.headCost p q (.copy c (if f.done then storedLen f else f.maxlen)))

/-- Set bit `q` of a set of five queues, or clear it. -/
def bit5 (v q : Nat) (b : Bool) : Nat := if b then v ||| 2 ^ q else v &&& (31 - 2 ^ q)

/-- One group queue at a tick (R246): a queue that has gained a head, or has become eligible again with one, takes its tag from the
virtual time; F_q is then the tag without the cost of that head (DEDUCED, log entry 71). -/
def State.tagLook (s : State) (p q : Nat) : State :=
  let had := (s.eg p).held.testBit q
  let was := (s.eg p).elig.testBit q
  let is := s.eligible p q
  let cost := s.groupCost p q
  let s : State := match cost with
    | none => s
    | some c =>
      if !had then s.setTag p q (tagMax (s.eg p).vtime (s.ftag p q)) c
      else if is && !was then s.setTag p q (tagMax (s.eg p).vtime (s.ftagBase p q)) c
      else s
  if cost.isSome = had ∧ is = was then s
  else s.setEg p { s.eg p with held := bit5 (s.eg p).held q cost.isSome, elig := bit5 (s.eg p).elig q is }

/-- The five group queues of a port at a tick. -/
def State.tagLooks (s : State) (p : Nat) : State := [0, 1, 2, 3, 4].foldl (fun s q => s.tagLook p q) s

/-- The ports whose group queues hold a copy, or held one at the last look. -/
def State.groupPorts (s : State) : List Nat :=
  (List.range 72).filter (fun p => s.swc.lists.any (fun e => decide (e.1 / 8 = p ∧ e.1 % 8 ≤ 4 ∧ e.1 < 576))
    || s.egs.any (fun e => e.1 == p && (e.2.held != 0 || e.2.elig != 0 || !e.2.cal.isEmpty)))

/-- After a head of a group queue has been selected (R246): V takes its tag, and the next head continues from it. -/
def State.tagServed (s : State) (p q : Nat) : State :=
  if 4 < q then s
  else
    let v := s.ftag p q
    let s := s.setEg p { s.eg p with vtime := v }
    match s.groupCost p q with
    | some c => s.setTag p q v c
    | none => s.setEg p { s.eg p with held := bit5 (s.eg p).held q false, elig := bit5 (s.eg p).elig q false }

/-- The queue of the group that is served (R247), of those that satisfy `ok`. -/
def State.groupPick (s : State) (p : Nat) (ok : Nat → Bool) : Option Nat :=
  let due := [4, 3, 2, 1, 0].find? (fun q => ok q && (match s.queueHead p q with | some (.launch _) => true | _ => false))
  match due with
  | some q => some q
  | none =>
    [3, 2, 1, 0].foldl (fun (best : Option Nat) q =>
      if !(ok q) then best
      else match best with
        | none => some q
        | some b => if tagLt (s.ftag p q) (s.ftag p b) then some q else some b) (if ok 4 then some 4 else none)

/-- The queue that a MAC takes next (R243). -/
def State.macPick (s : State) (p : Nat) (express : Bool) : Option Nat :=
  let ok := fun q => (s.isExpress p q == express) && s.eligible p q
  match [7, 6, 5].find? ok with
  | some q => some q
  | none => s.groupPick p ok

/-! ## Selection (R243) -/

/-- The lane is taken for a packet of `n` bytes behind its preamble, if its length is known. -/
def State.takeLane (s : State) (p : Nat) (n : Option Nat) : State :=
  let ps := s.port p
  match n with
  | some n => s.setPort p { ps with laneFree := some (s.lanePs p + (s.packetPs p ps.dic n : Nat)), dic := (s.gapAfter p ps.dic n).2 }
  | none => s.setPort p { ps with laneFree := none }

/-- Give the head of queue `q` to a MAC. An expired copy is discarded instead (R228). -/
def State.startHead (s : State) (p q place : Nat) : State :=
  let n := 8 * p + q
  match s.queueHead p q with
  | none => s
  | some (.launch e) =>
    let x : Tx := { entry := some e, list := n, copy := { fid := launchFid }, queue := q, startPs := s.lanePs p, dic := (s.port p).dic }
    let s := (s.calPop p).shpDebit p q e.len
    ((s.txSet p place (some x)).takeLane p (s.sendLen p x)).tagServed p q
  | some (.copy c l) =>
    if s.expired n c then s.ageDiscard n
    else
      let early := match s.frame c.fid with | some f => !f.done | none => false
      let x : Tx := { entry := none, list := n, copy := { c with early := early }, queue := q, startPs := s.lanePs p, dic := (s.port p).dic }
      let len := s.sendLen p x
      let x := { x with known := len.isSome }
      let s := s.unlink n 0
      let s := if len.isSome then s.shpDebit p q l else s
      ((s.txSet p place (some x)).takeLane p len).tagServed p q

/-- The lane of a port becomes free D_sel after this tick. -/
def State.laneDue (s : State) (p : Nat) : Bool :=
  match s.laneFreeAt p with
  | some t => decide (t ≤ s.lanePs p)
  | none => false

/-- An express frame may take the lane ahead of the preemptable frame that waits in its MAC (R295): the lane was free for that frame. -/
def State.laneAhead (s : State) (p : Nat) : Bool :=
  match s.txGet p 3, s.txGet p 2, s.txGet p 0 with
  | some x, none, none => decide (x.startPs ≤ s.lanePs p)
  | _, _, _ => false

/-- What waits in the preemptable MAC starts after the frame that has just taken the lane. -/
def State.waitBehind (s : State) (p : Nat) : State :=
  match s.txGet p 3, (s.port p).laneFree with
  | some x, some t =>
    let ps := s.port p
    let x := { x with startPs := t, dic := ps.dic }
    match s.packetLen p x with
    | some n => (s.txSet p 3 (some x)).setPort p { (s.txSet p 3 (some x)).port p with
        laneFree := some (t + (s.packetPs p ps.dic n : Nat)), dic := (s.gapAfter p ps.dic n).2 }
    | none => (s.txSet p 3 (some x)).setPort p { (s.txSet p 3 (some x)).port p with laneFree := none }
  | _, _ => s

/-- The bytes of a frame in progress on the preemptable MAC that are known to be left to send, its FCS counted: of a frame that is still
arriving those that have been received (R90). -/
def State.leftToSend (s : State) (p : Nat) (x : Tx) : Nat :=
  (match s.sendLen p x with
   | some n => n
   | none => match s.frame x.copy.fid with
     | some f => (s.editFront p f x.copy (stored f)).length
     | none => 0) - x.sent

/-- A preempted frame resumes (R32, R92). -/
def State.resume (s : State) (p : Nat) : State :=
  match s.txGet p 1 with
  | none => s
  | some x =>
    let s := s.setPort p { s.port p with preempted := false, preReq := false }
    let s := s.txSet p 1 (some { x with startPs := s.lanePs p, dic := (s.port p).dic })
    s.takeLane p (s.packetLen p x)

/-- EGRESS_SELECT (R243, R245). An express frame takes the lane ahead of a preemptable one that has not started (R295). -/
def State.egressSelect (s : State) (p : Nat) : State :=
  if s.mode = modePEWTER ∨ s.mode = modeLOAD then s
  else
    let s := (s.tagLooks p).laneFix p
    let pick := s.macPick p true
    let busy := (s.txGet p 2).isSome || (s.txGet p 3).isSome
    if s.laneDue p && !busy then
      match pick with
      | some q => s.startHead p q 2
      | none =>
        if (s.port p).preempted then (if s.holdAt p (s.laneNs p) then s else s.resume p)
        else match s.macPick p false with
          | some q => s.startHead p q 3
          | none => s
    else if s.laneAhead p then
      match pick with
      | some q => let t := s.startHead p q 2
                  if (t.txGet p 2).isSome then t.waitBehind p else t
      | none => s
    else if (s.txGet p 1).isSome && !(s.port p).preempted && pick.isSome then s.setPort p { s.port p with preReq := true }
    else s

/-! ## Departure (R312) -/

/-- The egress mirror copies of a copy take its departure stamp (R194, R500). -/
def State.stampMirrors (s : State) (fid p q stamp : Nat) : State :=
  let gen := s.get F.INV_STAT_GEN % 2
  (List.range 8).foldl (fun s m =>
    s.setList (584 + m) ((s.list (584 + m)).map (fun c =>
      match c.mirror with
      | some i =>
        if c.fid = fid ∧ i.egress = true ∧ i.port = p ∧ i.queue = q ∧ i.stamp = none then
          { c with mirror := some { i with stamp := some stamp, gen := gen } }
        else c
      | none => c))) s

/-- The egress mirror copies of a copy take its bytes as sent (R322, R500). -/
def State.sentMirrors (s : State) (fid p q : Nat) (b : List Byte) : State :=
  (List.range 8).foldl (fun s m =>
    s.setList (584 + m) ((s.list (584 + m)).map (fun c =>
      match c.mirror with
      | some i =>
        if c.fid = fid ∧ i.egress = true ∧ i.port = p ∧ i.queue = q ∧ i.bytes = none then
          { c with mirror := some { i with bytes := some b } }
        else c
      | none => c))) s

/-- A transmission is completed at the MAC without reaching the lane: on a device in role SHADOW or STANDBY, but for pass-through
copies (R416). -/
def State.suppressed (s : State) (x : Tx) : Bool := s.isLogged && !x.copy.pass

/-- The bytes of a copy of a complete frame as they leave. -/
def State.finalBytes (s : State) (p : Nat) (x : Tx) : List Byte × State :=
  match s.frame x.copy.fid with
  | none => ([], s)
  | some f =>
    let (b, s) := s.ptpApply x.ptp (s.editBody p f x.copy ((stored f).take (storedLen f - 4)))
    (withFcs b, s)

/-- A launch entry starts (R262): late if its first symbol reaches the lane more than 8 ns after LT. -/
def State.launchStart (s : State) (p place sub : Nat) (x : Tx) (e : CalEntry) : State :=
  let ofs := sub * 65536 + s.bytes16 p 7
  let stamp := (s.departAt ofs + 32768) / 65536
  let late := s.mode != modeBRIDGE && decide (s.launchNs e.lt * 1000 + 8000 < s.nowPs + sub * 1000)
  let b := s.tagOn p e.seq ((s.entryBytes e.src e.handle e.len).take (e.len - 4))
  let ring := match e.seq, s.attOf p with
    | some _, some a => s.get F.TWN_ATT_A_MODE a == 0
    | _, _ => false
  let cand := e.req.map (fun r => directedCand r (if ring then 6 else 0) 0)
  let (b, s) := s.ptpApply (cand.map (fun c => (c, s.ptpCtx c 0 ofs))) b
  let s := s.egressRelease p e
  let s := if late then ((s.inc F.EGS_LC_LATE_COUNT p).evt F.EGS_EVT_LC_LATE p).count 0x4D p else s
  let s := if s.suppressed x then s else (s.count 0x4C p).count 0x48 p
  let final := withFcs b
  s.txSet p place (some { x with started := true, stamp := stamp, bytes := final })

/-- A copy starts: its departure stamp is fixed. -/
def State.copyStart (s : State) (p place sub : Nat) (x : Tx) : State :=
  match s.frame x.copy.fid with
  | none => s.txSet p place (some { x with started := true })
  | some f =>
    let ofs := sub * 65536 + s.bytes16 p 7
    let stamp := (s.departAt ofs + 32768) / 65536
    let ptp := (s.ptpCand p f x.copy).map (fun c => (c, s.ptpCtx c (min f.src 71) ofs))
    let x := { x with started := true, stamp := stamp, ptp := ptp }
    let s := s.adpCount p x.queue (((stamp : Int) - f.stamp) % 2 ^ 40).toNat stamp
    let s := s.stampMirrors x.copy.fid p x.queue stamp
    let s := if s.suppressed x then s else s.count 0x48 p
    if f.done && x.cut.isNone then
      let (b, s) := s.finalBytes p x
      s.txSet p place (some { x with bytes := b, ptp := none })
    else s.txSet p place (some x)

/-- A flow-control frame is due and may be sent as soon as the lane can take it (R96). -/
def State.fcReady (s : State) (p : Nat) : Bool :=
  (s.port p).fcDue && s.bit F.PORT_CTRL_ENABLE p && s.bit F.PORT_STAT_LINK p && s.mode != modePEWTER && s.mode != modeLOAD && !s.episode

/-- The lane can take what waits in place `k` (R32, R240, R295): nothing else is on it, no flow-control frame is due, and no express
frame waits ahead of a preemptable one. -/
def State.laneTakes (s : State) (p k : Nat) : Bool :=
  (s.txGet p 0).isNone && ((s.txGet p 1).isNone || (s.port p).preempted) && (s.port p).fcOut.isNone && !s.fcReady p
    && (k == 2 || (s.txGet p 2).isNone)

/-- A preemptable frame takes its frame count as it starts where preemption is active (R88, R90). -/
def State.smdTake (s : State) (p : Nat) (pre : Bool) (x : Tx) : Tx × State :=
  if pre && s.bit F.PORT_MM_STAT_TX_ACTIVE p then
    let ps := s.port p
    ({ x with smd := some ps.smdNext }, s.setPort p { ps with smdNext := (ps.smdNext + 1) % 4 })
  else (x, s)

/-- TRANSMIT_START (R312): what the MAC has been given reaches the lane `sub` ns after the present tick. A copy waits until its first
cell stands in the head buffer (R207). -/
def State.transmitStart (s : State) (p : Nat) (pre : Bool) (sub : Nat) : State :=
  let src := if pre then 3 else 2
  let dst := if pre then 1 else 0
  match s.txGet p src, s.txGet p dst with
  | some x, none =>
    if !(s.laneTakes p src) || !(x.entry.isSome || decide (1 ≤ x.copy.nread)) then s
    else
      let (x, s) := (s.txSet p src none).smdTake p pre x
      let s := s.txSet p dst (some x)
      match x.entry with
      | some e => s.launchStart p dst sub x e
      | none => s.copyStart p dst sub x
  | _, _ => s

/-- What the MAC sends reaches the line, unless a loopback keeps it in the device (R101). -/
def State.laneOut (s : State) (p : Nat) (b : List Byte) : State := if s.loop p = 0 then s.emit (.lane p b) else s

/-- The check sequence of a fragment that is not the last: the CRC-32 over the frame's bytes up to its end with the low half inverted
(IEEE 802.3br Clause 99, PRESUMED, log entry 125). -/
def mcrc (b : List Byte) : List Byte := leBytes 4 (crc32 b ^^^ 0x0000FFFF).toNat

/-- A fragment, or a whole preemptable frame, leaves the lane: with its frame count, and its fragment count where it continues (R90). -/
def State.fragOut (s : State) (p : Nat) (x : Tx) (b : List Byte) : State :=
  match x.smd with
  | none => s.laneOut p b
  | some f => if s.loop p = 0 then s.emit (.fragment p f (if x.frags = 0 then none else some ((x.frags - 1) % 4)) b) else s

/-- The bytes of a transmission from its first one on, as far as they are known: as sent, or what the editor makes of the bytes received
(R222, R223, R316). -/
def State.frontBytes (s : State) (p : Nat) (x : Tx) : List Byte :=
  if x.bytes.isEmpty then
    match s.frame x.copy.fid with
    | some f => (s.ptpApply x.ptp (s.editFront p f x.copy (stored f))).1
    | none => []
  else x.bytes

/-! ## Preemption (R90, R92) -/

/-- PREEMPT: `n` bytes of the current fragment have been sent when it ends, with its mCRC (R90). -/
def State.preempt (s : State) (p n : Nat) : State :=
  let ps := s.port p
  match s.txGet p 1 with
  | none => s
  | some x =>
    let wanted := ps.preReq || s.holdAt p (s.laneNs p) || ps.fcDue
    if wanted && x.started && x.smd.isSome && !ps.preempted && x.cut.isNone && decide (60 ≤ n) && decide (n + 64 ≤ s.leftToSend p x) then
      let front := s.frontBytes p x
      let s := if s.suppressed x then s
        else ((s.portCnt p 32).count 0x4B p).count 0x49 p n
      let s := if s.suppressed x then s else s.fragOut p x ((front.drop x.sent).take n ++ mcrc (front.take (x.sent + n)))
      let (gap, dic) := s.gapAfter p x.dic (n + 4)
      let free := s.nowPs + wirePs (s.portMbps p) (4 + gap)
      let s := s.txSet p 1 (some { x with sent := x.sent + n, frags := x.frags + 1 })
      s.setPort p { s.port p with preempted := true, preReq := false, laneFree := some free, gapEnd := free, dic := dic }
    else s

/-- MAC_HOLD_ASSERT (R92, R253): the hold state shows, counter 33 counts it, and a preemptable frame in progress is to be preempted. -/
def State.macHold (s : State) (p : Nat) : State :=
  if s.holdAt p (s.laneNs p) && !(s.bit F.EGS_GATE_STAT_HOLD p) then
    let s := (s.put F.EGS_GATE_STAT_HOLD 1 p).portCnt p 33
    if (s.txGet p 1).isSome then s.setPort p { s.port p with preReq := true } else s
  else s

/-- MAC_HOLD_RELEASE (R92, R253): a preempted frame may resume once the lane is free. -/
def State.macRelease (s : State) (p : Nat) : State :=
  if !(s.holdAt p (s.laneNs p)) && s.bit F.EGS_GATE_STAT_HOLD p then s.put F.EGS_GATE_STAT_HOLD 0 p else s

/-! ## The end of a transmission (R103, R210, R222, R252) -/

/-- The frame of a copy that has been sent gives back what it still holds. -/
def State.txEnd (s : State) (x : Tx) : State :=
  let s := if x.cut.isSome then s else s.txRelease x
  let s := s.modFrame x.copy.fid (fun f =>
    let f := liveSub f x.copy.cls
    if liveCount f = 0 ∧ !f.done then { f with cap := min f.cap f.rx.length } else f)
  s.settle x.copy.fid

/-- A frame of these bytes has been sent (R103): counters 25 to 28, and 32 and 36 for one sent in fragments. -/
def State.countSent (s : State) (p : Nat) (x : Tx) (b : List Byte) : State :=
  let s := if 0 < x.frags then (s.portCnt p 32).portCnt p 36 else s
  if x.cut.isSome then s
  else
    let s := (s.portCnt p 25).portCnt p 26 b.length
    if beAt b 0 6 = 0xFFFFFFFFFFFF then s.portCnt p 28 else if beAt b 0 1 % 2 = 1 then s.portCnt p 27 else s

/-- The bytes of the transmission in place `k` that have left when it ends: the frame as sent, or the good part of a cut one with its
stomped FCS (R222, R223): the bytes that the editor has passed on stay as they are. -/
def State.sentBytes (s : State) (p : Nat) (x : Tx) : List Byte × State :=
  match x.cut with
  | some n =>
    match s.frame x.copy.fid with
    | some f =>
      let (b, s) := s.ptpApply x.ptp (s.editFront p f x.copy ((stored f).take n))
      (withStomp b, s)
    | none => (withStomp (x.bytes.take n), s)
  | none => if x.bytes.isEmpty then s.finalBytes p x else (x.bytes, s)

/-- TRANSMIT_END: the last byte of what a MAC sends leaves the lane. -/
def State.transmitEnd (s : State) (p : Nat) (pre : Bool) : State :=
  let k := if pre then 1 else 0
  match s.txGet p k with
  | none => s
  | some x =>
    let ready := match x.entry, s.frame x.copy.fid with
      | some _, _ => true
      | none, some f => f.done || x.cut.isSome
      | none, none => true
    if !x.started || !ready || (pre && (s.port p).preempted) then s
    else
      let (b, s) := s.sentBytes p x
      let quiet := s.suppressed x
      let s := if !x.known then s.shpDebit p x.queue b.length else s
      let s := s.sentMirrors x.copy.fid p x.queue b
      let closed := !((s.gatesAt p ((s.nowPs - 1) / 1000)).testBit x.queue)
      let s := if closed then (s.inc F.EGS_OVERRUN_COUNT p).evt F.EGS_EVT_OVERRUN p else s
      let s := if quiet then s.twnCnt 7
        else ((s.countSent p x b).count 0x49 p (b.length - x.sent)).fragOut p x (b.drop x.sent)
      let (gap, dic) := s.gapAfter p x.dic (b.length - x.sent)
      let next := s.nowPs + wirePs (s.portMbps p) gap
      let last := (s.txGet p 2).isNone && (s.txGet p 3).isNone
      let s := s.txSet p k none
      let ps := s.port p
      let s := if ps.laneFree.isNone ∧ last then s.setPort p { ps with laneFree := some next, dic := dic } else s
      let s := s.setPort p { s.port p with gapEnd := next }
      let s := if pre then s.setPort p { s.port p with preReq := false } else s
      s.txEnd x

/-! ## Launch entries that come due or too old (R261, R262) -/

/-- LAUNCH_DUE. -/
def State.launchDue (s : State) (p : Nat) : State :=
  if s.launchIsDue p then s.setEg p { s.eg p with due := true } else s

/-- LAUNCH_DISCARD: the armed entry's age, now − LT, exceeds the limit of its class. -/
def State.launchDiscard (s : State) (p : Nat) : State :=
  match s.armed p with
  | none => s
  | some e =>
    let k := queueClass e.queue
    if (s.ageLimit k : Int) < s.now - s.launchNs e.lt then
      let s := ((s.dropCount 0x40).inc F.SWC_AGE_CNT_COUNT k).evt F.SWC_EVT_AGE
      let s := (s.inc F.EGS_LC_DISC_COUNT p).egressRelease p e
      s.calPop p
    else s

end Sys2Proof.Machine
end

