-- ==== Sys2Proof/Machine/CffTake.lean ====
section
/-! DEFINITION. The FIFO writer takes a mirror copy (17_capture_fifo.md R500, R504, R505, 06_epochs_and_consistency.md R193, R194). -/

namespace Sys2Proof.Machine

/-- The head of a mirror list can be taken (R504). -/
def State.mirrorReady (s : State) (n : Nat) : Bool :=
  match (s.list n).head? with
  | none => false
  | some c =>
    match s.frame c.fid, c.mirror with
    | some f, some m => f.done && (!m.egress || m.stamp.isSome)
    | _, _ => false

/-- The bytes of a copy that an egress mirror captures: as sent, or as the transmission in progress will send them (R322, R500). -/
def State.egressBytes (s : State) (c : Copy) (m : MirrorInfo) : List Byte :=
  match m.bytes with
  | some b => b
  | none =>
    match (laneTxs (s.port m.port)).find? (fun x => x.entry.isNone && x.copy.fid == c.fid && x.queue == m.queue && x.started) with
    | some x => (s.sentBytes m.port x).1
    | none => []

/-- The trailer of a record (R193, R194), with SEQ 0: bit 159 is the most significant. -/
def State.trailer (s : State) (f : Frame) (m : MirrorInfo) (trunc : Bool) : Nat :=
  let t : Nat := if m.egress then m.stamp.getD 0 else f.time.toNat
  let b := fun (c : Bool) => if c then 1 else 0
  let fields : List (Nat × Nat) :=
    [(4, 1), (4, m.session), (14, s.get F.GLB_SYSID_SYSID), (7, m.port), (1, b m.egress), (2, f.colour), (18, t / 1000000000),
     (30, t % 1000000000), (32, 0), (16, f.epoch), (8, m.reason), (14, if f.dec.hit then f.dec.handle else 0), (3, m.queue),
     (1, b trunc), (1, m.gen), (1, b f.dec.hit), (4, 0)]
  fields.foldl (fun a x => a * 2 ^ x.1 + x.2 % 2 ^ x.1) 0

/-- FIFO_TAKE: the writer takes the head of a mirror list and reads its cells; `bad` names the cell that meets an uncorrectable error,
beside those that have met one on another read (R230, R231, R505). -/
def State.fifoTake (s : State) (bad : Option Nat) : State :=
  if s.cff.job.isSome || s.mode == modePEWTER || s.underTest 4 || s.underTest 2 then s
  else match rotFind 8 s.cff.rr (fun m => s.mirrorReady (584 + m)) with
    | none => s
    | some l =>
      let n := 584 + l
      match s.takeHead n with
      | (none, s) => s
      | (some c, s) =>
        match s.frame c.fid, c.mirror with
        | some f, some m =>
          let all := if m.egress then s.egressBytes c m else stored f
          let want := if m.snap ≠ 0 ∧ m.snap < all.length then m.snap else all.length
          let cells := s.unreadCells c
          let bad := match cells.findIdx? (fun i => s.cellEcc i == 2) with
            | some i => some (match bad with | some j => min i j | none => i)
            | none => bad
          let s := s.eccCorrect (match bad with | some i => cells.take i | none => cells)
          let good := match bad with | some i => min want (128 * i) | none => want
          let s : State := if good < want then
              let cell := ((chain f c.cls)[bad.getD 0]?).join.getD 0
              let s := (s.inc F.SWC_ECC_UNC_COUNT (cell % 16)).capture F.SWC_ERR_VALID F.SWC_ERR_MULTI (BitVec.ofNat 32 cell)
              s.evt F.SWC_EVT_ECC_UNC
            else s
          let trunc := decide (good < all.length)
          let s := s.setCff { s.cff with rr := (l + 1) % 8 }
          let s := s.cffTake m.session want (all.take good) (s.trailer f m trunc)
          s.endCopy n c
        | _, _ => s

end Sys2Proof.Machine
end

