-- ==== Sys2Proof/Machine/PortOps.lean ====
section
/-! DEFINITION. The ports (03_ports_and_macs.md): receive from the stamp to the last byte, reassembly, flow control both ways, link
bring-up, verification and loopbacks. -/

namespace Sys2Proof.Machine

/-! ## The stamp of a received frame (R21, R39, R49) -/

/-- The MAC of a port receives line data: it is enabled with its link up and not in loopback (R71, R82, R101). -/
def State.macReceives (s : State) (p : Nat) : Bool :=
  s.bit F.PORT_CTRL_ENABLE p && s.bit F.PORT_STAT_LINK p && s.loop p == 0

/-- The MAC of a port receives what its own MAC sends: loopbacks 1 to 3 (R101). -/
def State.selfReceives (s : State) (p : Nat) : Bool :=
  s.bit F.PORT_CTRL_ENABLE p && s.bit F.PORT_STAT_LINK p && decide (1 ≤ s.loop p ∧ s.loop p ≤ 3)

/-- Received line data of a port in the remote loopback goes out again (R101). -/
def State.remote (s : State) (p : Nat) (b : List Byte) : State :=
  if s.loop p = 4 ∧ s.bit F.PORT_CTRL_ENABLE p ∧ s.bit F.PORT_STAT_LINK p ∧ b ≠ [] then s.emit (.lane p b) else s

/-- The mode keeps network frames out (R39, R49, R398): none, or whether they count under DROP_MODE. -/
def State.closedFor (s : State) (p : Nat) : Option Bool :=
  if s.episode || s.mode = modeLOAD || s.mode = modePEWTER then some false
  else if s.mode = modeMAINTENANCE ∧ ¬ (1 ≤ s.loop p ∧ s.loop p ≤ 3) then some true
  else if s.md.accept.isSome || s.twinClosed then some true
  else none

/-- The ingress stamp of a frame whose SFD reaches the lane `sub` ns after the present tick (R21, R303, R405). -/
def State.laneStamp (s : State) (sub : Nat) : Int :=
  domRound (s.dom 0) + sub + (if s.twn.lagging then s.get F.TWN_LAG_LAG else 0)

/-- A frame starts on a port, stamped `t`. -/
def State.rxStart (s : State) (p : Nat) (pre : Bool) (t : Int) : Nat × State :=
  let f := s.mkFrame p .net pre (s.get F.PORT_RXCFG_MAXLEN p) t
  match (if s.underTest 2 then some true else s.closedFor p) with
  | some counts =>
    let s := if counts then s.dropCount 0x02 else s
    s.addFrame (modeDropped f)
  | none => s.addFrame f

/-- The frame that a MAC of a port receives. -/
def State.rxFid (s : State) (p : Nat) (pre : Bool) : Option Nat :=
  if pre then (s.port p).rxP.map (fun r => r.fid) else (s.port p).rxE

/-- Bytes of a frame are received (R20, R86, R274). -/
def State.rxBytes (s : State) (k : Nat) (b : List Byte) : State :=
  let s := (s.takeBytes k b).oversize k
  match s.frame k with
  | some f => if s.sduExceeds f then s.lateSdu k else s
  | none => s

/-- Line bytes arrive for the frame that a MAC receives. -/
def State.lineBytes (s : State) (p : Nat) (pre : Bool) (b : List Byte) : State :=
  let s := s.remote p b
  match s.rxFid p pre with
  | some k => s.rxBytes k b
  | none => s

/-- CELL_WRITE: bytes arrive in this cycle, and a write slot passes (R20, R205). -/
def State.cellWrite (s : State) (l : List (Nat × Bool × List Byte)) : State :=
  let s := l.foldl (fun s a => s.lineBytes a.1 a.2.1 a.2.2) s
  if s.underTest 2 then s else s.writeSlot

/-- WINDOW_COMPLETE: bytes up to byte 63 of a frame have been received (R110). -/
def State.windowComplete (s : State) (p : Nat) (pre : Bool) (b : List Byte) : State :=
  let s := s.lineBytes p pre b
  match s.rxFid p pre with
  | some k => s.windowArrived k
  | none => s

/-- OVERSIZE_TRUNCATE: the bytes up to byte MAXLEN + 1 of a frame have been received (R86). -/
def State.oversizeArrive (s : State) (p : Nat) (pre : Bool) (b : List Byte) : State := s.lineBytes p pre b

/-! ## Received flow control (R98) -/

/-- The wire time of `n` quanta of 512 bits, ns. -/
def State.quantaNs (s : State) (p n : Nat) : Nat := n * 512 * 1000 / s.portMbps p

/-- The queue that a received priority stops. -/
def State.fcQueue (s : State) (p pri : Nat) : Nat := s.get F.PORT_FC_MAP_PRI_Q p / 8 ^ pri % 8

/-- The queues that received flow control stops. -/
def State.pausedQueues (s : State) (p : Nat) : Nat :=
  let run := fun k => (tabFind? k (s.port p).pauseEnd).isSome
  if run 8 then 255
  else (List.range 8).foldl (fun a k => if run k then a ||| 2 ^ s.fcQueue p k else a) 0

/-- Show the stopped queues; a queue newly stopped is an event. A write of PORT_FC_MAP shows at the next look (DESIGN CHOICE, log entry 75). -/
def State.pauseShow (s : State) (p : Nat) : State :=
  let old := s.get F.PORT_FC_STAT_RX_PAUSED_Q p
  let new := s.pausedQueues p
  let s := (s.put F.PORT_FC_STAT_RX_PAUSED_Q new p).put F.PORT_STAT_FC_RX_PAUSED (if new = 0 then 0 else 1) p
  s.evtIf (new &&& (255 - old) != 0) F.PORT_EVT_RX_XOFF p

/-- A received timer is set to a number of quanta; zero ends it. -/
def State.pauseSet (s : State) (p k quanta : Nat) : State :=
  let ps := s.port p
  s.setPort p { ps with pauseEnd := if quanta = 0 then tabErase k ps.pauseEnd
                                    else tabInsert k (s.now + s.quantaNs p quanta) ps.pauseEnd }

/-- A good MAC control frame is honoured (R98). A PAUSE of zero quanta ends the PFC timers as well (DESIGN CHOICE, log entry 75). -/
def State.honour (s : State) (p : Nat) (b : List Byte) : State :=
  if !(s.bit F.PORT_FC_CFG_RX_EN p) then s
  else match beAt b 14 2 with
    | 0x0001 =>
      let q := beAt b 16 2
      let s := if q = 0 then s.setPort p { s.port p with pauseEnd := [] } else s.pauseSet p 8 q
      s.pauseShow p
    | 0x0101 =>
      let en := beAt b 16 2
      ((List.range 8).foldl (fun s k => if en.testBit k then s.pauseSet p k (beAt b (18 + 2 * k) 2) else s) s).pauseShow p
    | _ => s

/-- PAUSE_TIMER_EXPIRE. -/
def State.pauseExpire (s : State) (p k : Nat) : State :=
  match tabFind? k (s.port p).pauseEnd with
  | some t => if t ≤ s.now then (s.pauseSet p k 0).pauseShow p else s
  | none => s

/-- Counter 39 at a tick: the quanta spent paused (R103). -/
def State.pauseTick (s : State) (p : Nat) : State :=
  if s.bit F.PORT_STAT_FC_RX_PAUSED p then
    let q := 512000000 / s.portMbps p
    let t := (s.port p).pausedPs + 2000
    if q ≤ t then (s.portCnt p 39).setPort p { (s.portCnt p 39).port p with pausedPs := t - q }
    else s.setPort p { s.port p with pausedPs := t }
  else s

/-! ## The last byte of a received frame (R84, R85, R98, R103) -/

/-- The counter of good frames of a length (R103). -/
def sizeCounter (n : Nat) : Nat :=
  if n ≤ 64 then 40 else if n ≤ 127 then 41 else if n ≤ 255 then 42 else if n ≤ 511 then 43 else if n ≤ 1023 then 44
  else if n ≤ 1518 then 45 else if n ≤ 9216 then 46 else 47

/-- A good frame counts (R103). -/
def State.countGood (s : State) (p : Nat) (b : List Byte) : State :=
  let s := (s.portCnt p 0).portCnt p 1 b.length
  let s := if beAt b 0 6 = 0xFFFFFFFFFFFF then s.portCnt p 3 else if beAt b 0 1 % 2 = 1 then s.portCnt p 2 else s
  s.portCnt p (sizeCounter b.length)

/-- A bad frame counts for each of its flags (R103); `ended`: it was ended by a port disable, which counts in 11 in place of 9 (R71). -/
def State.countBad (s : State) (p flags : Nat) (ended : Bool) : State :=
  let c := fun (s : State) (bit k : Nat) => if flags.testBit bit then s.portCnt p k else s
  let s := if flags.testBit 0 && !flags.testBit 3 then s.portCnt p 4 else s
  let s := c (c (c s 3 5) 2 6) 6 7
  c (c s 1 10) 4 (if ended then 11 else 9)

/-- A MAC control frame (R98): EtherType 0x8808 directly after the addresses. -/
def isControl (b : List Byte) : Bool := decide (14 ≤ b.length) && beAt b 12 2 == 0x8808

/-- A frame counts in the receive statistics of its port at its last byte (R85, R103, R104). A frame of fewer than 14 bytes counts in 22
alone (DESIGN CHOICE, log entry 28). -/
def State.countReceived (s : State) (p : Nat) (b : List Byte) (flags : Nat) (ended : Bool) : State :=
  if b.length < 14 then s.portCnt p 22
  else
    let s := if 1501 ≤ beAt b 12 2 ∧ beAt b 12 2 ≤ 1535 then s.portCnt p 8 else s
    if flags ≠ 0 then s.countBad p flags ended
    else if isControl b then
      ((s.countGood p b).portCnt p 12).portCnt p (match beAt b 14 2 with | 0x0001 => 13 | 0x0101 => 14 | _ => 15)
    else s.countGood p b

/-- The last byte of frame `k` of port `p`, all bytes of which have been received: it is counted, and goes on by what it is. -/
def State.rxJudge (s : State) (p k : Nat) (code odd reasm ended : Bool) : State :=
  match s.frame k with
  | none => s
  | some f =>
    let align := odd && decide (s.get F.PORT_STAT_SPEED_RES p ≤ 1)
    let flags := errorFlags f.rx f.maxlen align code reasm
    if f.drop = 0x02 ∧ f.stage = .gone ∧ f.cap = 0 then
      ((s.portCnt p 11).setFrame k (some { f with done := true })).settle k
    else if f.rx.length < 14 then
      (((s.countReceived p f.rx flags ended).setFrame k (some { f with done := true, bad := true, cfg := { f.cfg with sess := [] } })).badFrame k 72)
    else
      let s := s.countReceived p f.rx flags ended
      if flags ≠ 0 then s.frameDone k flags p
      else if isControl f.rx then ((s.setFrame k (some { f with done := true })).discardFrame k).honour p f.rx
      else (s.frameDone k flags p).windowArrived k

/-- The MAC of a port is ready for its next frame. -/
def State.rxClear (s : State) (p : Nat) (pre : Bool) : State :=
  if pre then s.setPort p { s.port p with rxP := none } else s.setPort p { s.port p with rxE := none }

/-- The last bytes of the frame that a MAC receives: `reasm` a reassembly error, `ended` the port was disabled. -/
def State.rxEnd (s : State) (p : Nat) (pre : Bool) (b : List Byte) (code odd reasm ended : Bool) : State :=
  match s.rxFid p pre with
  | none => s
  | some k => ((s.rxBytes k b).rxJudge p k code odd reasm ended).rxClear p pre

/-- FRAME_END. -/
def State.frameEnd (s : State) (p : Nat) (pre : Bool) (b : List Byte) (code odd : Bool) (blocks : Nat) : State :=
  ((s.portCnt p 37 blocks).remote p b).rxEnd p pre b code odd false false

/-- PAUSE_RECEIVED and PFC_RECEIVED: the last bytes of a frame arrive that proves to be a good MAC control frame of the opcode. -/
def State.controlEnd (s : State) (p : Nat) (pre : Bool) (b : List Byte) (op : Nat) : State :=
  match (s.rxFid p pre).bind s.frame with
  | none => s.remote p b
  | some f =>
    let all := f.rx ++ b
    if isControl all && beAt all 14 2 == op && errorFlags all f.maxlen false false false == 0 then
      s.rxEnd p pre b false false false false
    else s

/-! ## Reassembly (R91) -/

/-- A reassembly error: the partial frame ends with flag REASM. -/
def State.reasmError (s : State) (p : Nat) (b : List Byte) : State := (s.portCnt p 16).rxEnd p true b false false true false

/-- A fragment that continues the frame in reassembly has been received whole. -/
def State.fragmentTake (s : State) (p : Nat) (r : Reassembly) (b : List Byte) (last code odd : Bool) : State :=
  match s.frame r.fid with
  | none => s.setPort p { s.port p with rxP := none }
  | some f =>
    let n := f.rx.length + b.length - r.base
    if n + (if last then 0 else 4) < 64 ∧ ¬ (last ∧ r.frags = 0) then s.reasmError p b
    else
      let s := if last ∧ 0 < r.frags then (s.portCnt p 18).portCnt p 19 (r.frags + 1) else s
      if last then s.rxEnd p true b code odd false false
      else
        let s := (s.rxBytes r.fid b).windowArrived r.fid
        let next := if r.frags = 0 then 0 else (r.nextCount + 1) % 4
        s.setPort p { s.port p with rxP := some { r with frags := r.frags + 1, nextCount := next, base := f.rx.length + b.length } }

/-- A frame starts on a MAC, stamped `t`. A preemptable frame that starts before the previous one
has ended makes that one a reassembly error, and is stamped and received itself (R21, R91; DEDUCED, log entry 29). -/
def State.macStart (s : State) (p : Nat) (pre : Bool) (t : Int) : State :=
  if pre then
    if s.bit F.PORT_MM_CFG_MM_EN p then
      let s := if (s.port p).rxP.isSome then s.reasmError p [] else s
      let (k, s) := s.rxStart p true t
      s.setPort p { s.port p with rxP := some { fid := k, frame := 0, nextCount := 0, frags := 0, base := 0 } }
    else s
  else if (s.port p).rxE.isSome then s
  else
    let (k, s) := s.rxStart p false t
    s.setPort p { s.port p with rxE := some k }

/-- INGRESS_TIMESTAMP: the SFD is at the lane `sub` ns after the present tick. -/
def State.ingressStamp (s : State) (p : Nat) (pre : Bool) (sub : Nat) : State :=
  if !(s.macReceives p) || s.mode == modePEWTER then s else s.macStart p pre (s.laneStamp sub)

/-- A fragment ends on the MAC of a port (R91). A start whose frame has not been stamped is stamped now. -/
def State.macFragment (s : State) (p : Nat) (kind : Option (Bool × Nat × Nat)) (b : List Byte) (last code odd : Bool) : State :=
  match kind with
  | none => s.portCnt p 17
  | some (start, frame, count) =>
    if !(s.bit F.PORT_MM_CFG_MM_EN p) then s.portCnt p 17
    else match (s.port p).rxP with
      | none => if start then s else s.portCnt p 16
      | some r =>
        if start then
          let s := if r.frags = 0 then s else s.macStart p true (s.laneStamp 0)
          match (s.port p).rxP with
          | some r => s.fragmentTake p { r with frame := frame } b last code odd
          | none => s
        else if r.frags = 0 ∨ r.frame ≠ frame ∨ r.nextCount ≠ count then s.reasmError p []
        else s.fragmentTake p r b last code odd

/-- FRAGMENT_RECEIVE. -/
def State.fragment (s : State) (p : Nat) (kind : Option (Bool × Nat × Nat)) (b : List Byte) (last code odd : Bool) (blocks : Nat) : State :=
  let s := (s.portCnt p 37 blocks).remote p b
  if s.macReceives p then s.macFragment p kind b last code odd else s

/-! ## Loopbacks 1 to 3 (R101) -/

/-- What the MAC of a port in loopback has sent is received by it: a whole frame, stamped as it departed (DESIGN CHOICE, log entry
126). -/
def State.loopFrame (s : State) (p : Nat) (t : Int) (b : List Byte) : State :=
  if s.selfReceives p then (s.macStart p false t).rxEnd p false b false false false false else s

/-- A preemptable frame or fragment of a port in loopback is received by it. -/
def State.loopFragment (s : State) (p frame : Nat) (t : Int) (cont : Option Nat) (b : List Byte) (last : Bool) : State :=
  if s.selfReceives p then
    let s := if cont.isNone then s.macStart p true t else s
    s.macFragment p (some (cont.isNone, frame, cont.getD 0)) b last false false
  else s

/-- What has left the MAC of a port since `before` goes back into it. -/
def State.loopBack (before s : State) (p : Nat) (pre : Bool) : State :=
  match before.txGet p (if pre then 1 else 0), s.txGet p (if pre then 1 else 0) with
  | some x, none =>
    let b := (before.sentBytes p x).1
    if before.suppressed x then s
    else match x.smd with
      | none => s.loopFrame p x.stamp b
      | some f => s.loopFragment p f x.stamp (if x.frags = 0 then none else some ((x.frags - 1) % 4)) (b.drop x.sent) true
  | some x, some y =>
    match y.smd with
    | some f =>
      if x.frags < y.frags ∧ !before.suppressed x then
        s.loopFragment p f x.stamp (if x.frags = 0 then none else some ((x.frags - 1) % 4)) (((before.frontBytes p x).drop x.sent).take (y.sent - x.sent)) false
      else s
    | none => s
  | _, _ => s

/-- TRANSMIT_END on a port, and what a loopback makes of it. -/
def State.transmitDone (s : State) (p : Nat) (pre : Bool) : State := State.loopBack s (s.transmitEnd p pre) p pre

/-- PREEMPT on a port, and what a loopback makes of it. -/
def State.preemptDone (s : State) (p n : Nat) : State := State.loopBack s (s.preempt p n) p true

/-! ## Sent flow control (R95 to R97) -/

/-- The pair's HI, LO and occupancy; pair 8 is the port's. -/
def State.pairHi (s : State) (p k : Nat) : Nat := if k = 8 then s.get F.PORT_WM_PORT_HI_HI p else s.get F.PORT_WM_HI_HI p k
def State.pairLo (s : State) (p k : Nat) : Nat :=
  min (if k = 8 then s.get F.PORT_WM_PORT_LO_LO p else s.get F.PORT_WM_LO_LO p k) (s.pairHi p k - 1)
def State.pairOcc (s : State) (p k : Nat) : Nat := if k = 8 then s.get F.PORT_OCC_PORT_OCC p else s.get F.PORT_OCC_PRI_OCC p k

/-- The pair is in XOFF. -/
def State.pairXoff (s : State) (p k : Nat) : Bool :=
  if k = 8 then s.bit F.PORT_FC_STAT_TX_XOFF_PORT p else (s.get F.PORT_FC_STAT_TX_XOFF_PRI p).testBit k

/-- Set the state of a pair. -/
def State.setXoff (s : State) (p k : Nat) (b : Bool) : State :=
  if k = 8 then s.put F.PORT_FC_STAT_TX_XOFF_PORT (if b then 1 else 0) p else s.putBit F.PORT_FC_STAT_TX_XOFF_PRI k b p

/-- The mode of flow control sends for this pair (R95). -/
def State.pairUsed (s : State) (p k : Nat) : Bool :=
  match s.get F.PORT_FC_CFG_MODE p with
  | 1 => k == 8
  | 2 => decide (k < 8) && (s.get F.PORT_FC_CFG_PFC_EN p).testBit k
  | _ => false

/-- FC_XOFF. -/
def State.fcXoff (s : State) (p k : Nat) : State :=
  if s.bit F.PORT_STAT_LINK p && s.pairUsed p k && s.pairHi p k != 0 && decide (s.pairHi p k ≤ s.pairOcc p k) && !(s.pairXoff p k) then
    let s := (s.setXoff p k true).evt F.PORT_EVT_TX_XOFF p
    let ps := s.port p
    s.setPort p { ps with fcDue := true, xonDue := ps.xonDue &&& (511 - 2 ^ k) }
  else s

/-- A pair returns to XON and is to be sent so. -/
def State.pairRelease (s : State) (p k : Nat) : State :=
  if s.pairXoff p k then
    let s := s.setXoff p k false
    let ps := s.port p
    s.setPort p { ps with fcDue := true, xonDue := ps.xonDue ||| 2 ^ k }
  else s

/-- FC_XON. -/
def State.fcXon (s : State) (p k : Nat) : State :=
  if s.pairOcc p k < s.pairLo p k then s.pairRelease p k else s

/-- A MAC control frame (R96), padded to 64 bytes. -/
def State.controlFrame (s : State) (p op : Nat) (body : List Byte) : List Byte :=
  let b := beBytes 6 0x0180C2000001 ++ beBytes 6 (s.portMac p) ++ beBytes 2 0x8808 ++ beBytes 2 op ++ body
  withFcs (b ++ List.replicate (60 - b.length) 0)

/-- The lane of a port can take a MAC control frame now (R96, R240): nothing is in progress but a preempted frame. What waits for the
lane lets it pass. -/
def State.laneIdle (s : State) (p : Nat) : Bool :=
  (s.txGet p 0).isNone && ((s.txGet p 1).isNone || (s.port p).preempted) && (s.port p).fcOut.isNone

/-- What waits for the lane starts later by the wire time of a MAC control frame of 64 bytes. -/
def State.laneShift (s : State) (p : Nat) : State :=
  let w : Int := wirePs (s.portMbps p) 84
  let late := fun (s : State) k => match s.txGet p k with
    | some x => s.txSet p k (some { x with startPs := x.startPs + w })
    | none => s
  let waits := (s.txGet p 2).isSome || (s.txGet p 3).isSome
  let s := late (late s 2) 3
  s.setPort p { s.port p with laneFree := if waits then (s.port p).laneFree.map (fun t => t + w) else some (s.nowPs + w), gapEnd := s.nowPs + w }

/-- A MAC control frame starts: its last byte leaves 72 byte times later. On a device in role SHADOW or STANDBY it is suppressed
(R416). -/
def State.controlSend (s : State) (p : Nat) (kind : MacPacket) (b : List Byte) : State :=
  if s.isLogged then s.twnCnt 7
  else s.setPort p { s.port p with fcOut := some (kind, b), fcEnd := s.nowPs + wirePs (s.portMbps p) 72 }

/-- The last byte of a MAC control frame leaves the lane (R103), or goes back into the MAC (R101). It counts in 29, and in 30 or 31
(log entry 28). -/
def State.controlSent (s : State) (p : Nat) : State :=
  match (s.port p).fcOut with
  | some (kind, b) =>
    if (s.port p).fcEnd ≤ s.nowPs then
      let s := s.setPort p { s.port p with fcOut := none }
      let s := (s.portCnt p 29).portCnt p (if kind = .pause then 30 else 31)
      if s.loop p = 0 then s.emit (.mac p kind b) else s.loopFrame p (domRound (s.dom 0)) b
    else s
  | none => s

/-- The MAC control frames whose last bytes have left by this tick. -/
def State.controlsSent (s : State) : State := s.ports.foldl (fun s e => s.controlSent e.1) s

/-- FC_FRAME_SEND: the content is taken now. Pairs of both kinds, after a change of MODE, take a frame each, PAUSE first. -/
def State.fcSend (s : State) (p : Nat) : State :=
  if s.fcReady p && s.laneIdle p then
    let ps := s.port p
    let q := s.get F.PORT_FC_TIME_QUANTA p
    let xoff := s.get F.PORT_FC_STAT_TX_XOFF_PRI p
    let port := s.bit F.PORT_FC_STAT_TX_XOFF_PORT p
    let s := s.laneShift p
    let s := s.setPort p { s.port p with fcSent := some s.now, preReq := false }
    if port || ps.xonDue.testBit 8 then
      let s := s.controlSend p .pause (s.controlFrame p 1 (beBytes 2 (if port then q else 0)))
      s.setPort p { s.port p with xonDue := ps.xonDue % 256, fcDue := ps.xonDue % 256 != 0 || xoff != 0 }
    else
      let en := xoff ||| ps.xonDue % 256
      let body := beBytes 2 en ++ (List.range 8).flatMap (fun k => beBytes 2 (if xoff.testBit k then q else 0))
      let s := s.controlSend p .pfc (s.controlFrame p 0x0101 body)
      s.setPort p { s.port p with xonDue := 0, fcDue := false }
  else s

/-- FC_REFRESH (R97). -/
def State.fcRefresh (s : State) (p : Nat) : State :=
  let q := s.get F.PORT_FC_TIME_QUANTA p
  let r := s.get F.PORT_FC_TIME_REFRESH p
  let r := if r = 0 ∨ q ≤ r then q / 2 else r
  let off := s.bit F.PORT_FC_STAT_TX_XOFF_PORT p || s.get F.PORT_FC_STAT_TX_XOFF_PRI p != 0
  match (s.port p).fcSent with
  | some t => if off ∧ t + s.quantaNs p r ≤ s.now then s.setPort p { s.port p with fcDue := true } else s
  | none => s

/-- A write of PORT_FC_CFG (R95, R97): MODE 3 is refused with its whole word, and clearing RX_EN ends no pause that runs
(DESIGN CHOICE, log entry 75); pairs that the new configuration does not serve are released. -/
def State.fcConfig (s : State) (p : Nat) (w : Word) : State :=
  if getBits w 31 30 = 3 then s.evt F.PORT_EVT_CFG_ERR p
  else
    let oldMode := s.get F.PORT_FC_CFG_MODE p
    let oldEn := s.get F.PORT_FC_CFG_PFC_EN p
    let s := s.setReg R.PORT_FC_CFG (w &&& 0xE700FF00) p
    (List.range 9).foldl (fun s k =>
      let changed := oldMode != getBits w 31 30
      let cleared := decide (k < 8) && oldEn.testBit k && !((getBits w 15 8).testBit k)
      if changed || cleared then s.pairRelease p k else s) s

/-- A write of a HI watermark, held to 131,072 (R97, R107): 0 releases its pair. -/
def State.fcHi (s : State) (p k : Nat) (w : Word) : State :=
  let v := min (getBits w 17 0) 131072
  let s := if k = 8 then s.put F.PORT_WM_PORT_HI_HI v p else s.put F.PORT_WM_HI_HI v p k
  if v = 0 then s.pairRelease p k else s

/-- All flow-control state of a port is cleared (R71, R82, R100). -/
def State.fcClear (s : State) (p : Nat) : State :=
  let s := (s.put F.PORT_FC_STAT_TX_XOFF_PRI 0 p).put F.PORT_FC_STAT_TX_XOFF_PORT 0 p
  (s.setPort p { s.port p with fcDue := false, xonDue := 0, pauseEnd := [], fcSent := none, pausedPs := 0 }).pauseShow p

/-! ## Verification (R88, R89) -/

/-- TX_ACTIVE and VERIFY_STATUS follow the configuration and the link. -/
def State.mmShow (s : State) (p : Nat) : State :=
  let en := s.bit F.PORT_MM_CFG_MM_EN p
  let dis := s.bit F.PORT_MM_CFG_VERIFY_DIS p
  let link := s.bit F.PORT_STAT_LINK p
  let st := s.get F.PORT_MM_STAT_VERIFY_STATUS p
  let st := if !en || dis then 0 else if !link || st == 0 then 1 else st
  let s := s.put F.PORT_MM_STAT_VERIFY_STATUS st p
  s.put F.PORT_MM_STAT_TX_ACTIVE (if en && link && (dis || st == 3) then 1 else 0) p

/-- An mPacket without data (R89, IEEE 802.3br Clause 99): 60 zero bytes stand between its delimiter and its check sequence. In LOAD
and PEWTER the egress is silent and none goes out (R39, R51; DEDUCED, log entry 76); in a loopback it comes back to its own MAC: a
verify is answered and the respond that comes back ends it (R101). -/
def State.sendMPacket (s : State) (p : Nat) (kind : MacPacket) : State :=
  if s.mode = modeLOAD ∨ s.mode = modePEWTER then s
  else if s.loop p = 0 then s.emit (.mac p kind (List.replicate 60 0))
  else if s.selfReceives p && s.bit F.PORT_MM_CFG_MM_EN p && s.get F.PORT_MM_STAT_VERIFY_STATUS p == 2 then
    ((s.put F.PORT_MM_STAT_VERIFY_STATUS 3 p).evt F.PORT_EVT_VERIFY_OK p).mmShow p
  else s

/-- A verify mPacket is sent: at link-up, and at each repetition. -/
def State.sendVerify (s : State) (p tries : Nat) : State :=
  let s := (s.put F.PORT_MM_STAT_VERIFY_STATUS 2 p).setPort p { s.port p with verifyTries := tries, verifyAt := s.now }
  s.sendMPacket p .verify

/-- VERIFY_TIME in ns. -/
def State.verifyNs (s : State) (p : Nat) : Nat := min (max (s.get F.PORT_MM_CFG_VERIFY_TIME p) 1) 128 * 1000000

/-- VERIFY_TIMEOUT. -/
def State.verifyTimeout (s : State) (p : Nat) : State :=
  let ps := s.port p
  if s.get F.PORT_MM_STAT_VERIFY_STATUS p = 2 ∧ ps.verifyAt + s.verifyNs p ≤ s.now then
    if ps.verifyTries < 3 then s.sendVerify p (ps.verifyTries + 1)
    else (s.put F.PORT_MM_STAT_VERIFY_STATUS 4 p).evt F.PORT_EVT_VERIFY_FAIL p
  else s

/-- RESPOND_RECEIVED. -/
def State.respondReceived (s : State) (p : Nat) : State :=
  if s.macReceives p ∧ s.get F.PORT_MM_STAT_VERIFY_STATUS p = 2 then
    ((s.put F.PORT_MM_STAT_VERIFY_STATUS 3 p).evt F.PORT_EVT_VERIFY_OK p).mmShow p
  else s

/-- VERIFY_RECEIVED. -/
def State.verifyReceived (s : State) (p : Nat) : State :=
  if s.macReceives p && s.bit F.PORT_MM_CFG_MM_EN p && s.mode != modePEWTER then s.sendMPacket p .respond else s

/-! ## Link state (R71, R76, R77, R82, R83) -/

/-- Frames in transmission on a port are cut off (R71, R82), and those that a MAC has been given with them, as is a MAC control frame
(DEDUCED, log entry 77). -/
def State.txCut (s : State) (p : Nat) : State :=
  let s := [0, 1, 2, 3].foldl (fun s k =>
    match s.txGet p k with
    | none => s
    | some x =>
      let s := (s.portCnt p 34).txSet p k none
      let s := match x.entry with
        | some e => if x.started then s else s.egressRelease p e
        | none => s
      s.txEnd x) s
  let s := if (s.port p).fcOut.isSome then s.portCnt p 34 else s
  s.setPort p { s.port p with preempted := false, preReq := false, laneFree := some (s.lanePs p), fcOut := none }

/-- Frames being received on a port end at once with the CODE flag (R71, R82). -/
def State.rxCut (s : State) (p : Nat) (disabled : Bool) : State :=
  (s.rxEnd p false [] true false false disabled).rxEnd p true [] true false false disabled

/-- LINK goes to 0. -/
def State.linkLost (s : State) (p : Nat) (disabled : Bool) : State :=
  if s.bit F.PORT_STAT_LINK p then
    let s := (s.rxCut p disabled).txCut p
    let s := (s.put F.PORT_STAT_LINK 0 p).evt F.PORT_EVT_LINK_DOWN p
    ((s.portCnt p 38).fcClear p).mmShow p
  else s

/-- The base page of a port that negotiates by Clause 37 or Clause 73 goes out: the one technology ability of its MODE, its pause bits,
and under Clause 73 its FEC bits (R76). -/
def State.advertise (s : State) (p : Nat) : State :=
  let m := s.get F.PORT_MODE_MODE p
  let adv := (s.reg R.PORT_AN_ADV p).toNat
  s.emit (.advertise p m (if m = 1 then adv % 16 else adv % 256))

/-- Negotiation, training and FEC lock start again (R77, R83). A port that negotiates by Clause 37 or Clause 73 sends its base page
(R76, R78). -/
def State.bringUp (s : State) (p : Nat) : State :=
  let s := ((s.put F.PORT_STAT_AN_DONE 0 p).put F.PORT_STAT_TRAIN_DONE 0 p).put F.PORT_STAT_FEC_LOCK 0 p
  let s := s.setPort p { s.port p with trainStart := none, eqUse := none, phyUp := false, half := false }
  let m := s.get F.PORT_MODE_MODE p
  if s.bit F.PORT_CTRL_ENABLE p ∧ (m = 1 ∨ m = 5 ∨ m = 9) ∧ s.bit F.PORT_MODE_AN_EN p then
    s.advertise p
  else s

/-- LINK_DOWN: a condition of the link fails: 0 synchronisation, 1 negotiation or training, 2 FEC block lock. -/
def State.linkDown (s : State) (p cause : Nat) : State :=
  if s.bit F.PORT_STAT_LINK p then
    let s := s.linkLost p false
    match cause with
    | 1 => s.bringUp p
    | _ => s.put F.PORT_STAT_FEC_LOCK 0 p
  else s

/-- The lane modes that negotiate with the partner (R75, R76). -/
def anMode (m : Nat) : Bool := m == 1 || m == 5 || m == 9

/-- The mode and speed of R72 for a running port: SPEED_RES of the single-speed modes. -/
def modeSpeed (m : Nat) : Nat :=
  match m with
  | 1 => 2
  | 2 => 3
  | 3 => 4
  | 4 | 5 => 5
  | _ => 6

/-- Training runs in this configuration (R75, R77). -/
def State.trains (s : State) (p : Nat) : Bool :=
  let m := s.get F.PORT_MODE_MODE p
  (m == 5 || m == 9) && s.bit F.PORT_MODE_AN_EN p && s.bit F.PORT_KR_CFG_TRAIN_EN p

/-- The conditions of R82 and R74 that the state records. -/
def State.linkReady (s : State) (p : Nat) : Bool :=
  let m := s.get F.PORT_MODE_MODE p
  let phy := m == 0 || m == 6
  s.bit F.PORT_CTRL_ENABLE p && (s.mode != modePEWTER || s.md.wake.isSome || s.md.ka.any (fun k => k.en && k.port == p))
    && (!phy || ((s.port p).phyUp && !(s.port p).half))
    && (!((phy || anMode m) && s.bit F.PORT_MODE_AN_EN p) || s.bit F.PORT_STAT_AN_DONE p)
    && (!(s.trains p) || s.bit F.PORT_STAT_TRAIN_DONE p)

/-- LINK_UP. -/
def State.linkUp (s : State) (p : Nat) : State :=
  if s.linkReady p && !(s.bit F.PORT_STAT_LINK p) then
    let m := s.get F.PORT_MODE_MODE p
    let an := s.bit F.PORT_MODE_AN_EN p
    let s := if m = 0 ∨ m = 6 then (if an then s else s.put F.PORT_STAT_SPEED_RES (s.get F.PORT_MODE_SPEED p) p)
      else s.put F.PORT_STAT_SPEED_RES (modeSpeed m) p
    let s := if (m = 5 ∨ m = 9) ∧ an = true then s else s.put F.PORT_STAT_FEC_RES (s.get F.PORT_MODE_FEC p) p
    let s := s.put F.PORT_STAT_FEC_LOCK (if s.get F.PORT_STAT_FEC_RES p = 0 then 0 else 1) p
    let s := (s.put F.PORT_STAT_LINK 1 p).evt F.PORT_EVT_LINK_UP p
    let s := s.setPort p { s.port p with laneFree := some (s.lanePs p) }
    let s := s.mmShow p
    if s.get F.PORT_MM_STAT_VERIFY_STATUS p = 1 then s.sendVerify p 1 else s
  else s

/-- AUTONEG_COMPLETE (R76, R78): `lp` the partner's bits [7:2]. -/
def State.autoneg (s : State) (p lp : Nat) (same : Bool) : State :=
  let m := s.get F.PORT_MODE_MODE p
  if s.bit F.PORT_CTRL_ENABLE p && anMode m && s.bit F.PORT_MODE_AN_EN p && !(s.bit F.PORT_STAT_AN_DONE p) then
    let s := s.put F.PORT_AN_LP_LP_ABIL lp p
    if m ≠ 1 ∧ same = false then s.advertise p
    else
      let mine := s.get F.PORT_AN_ADV_FEC_ABIL p * 4 + s.get F.PORT_AN_ADV_FEC_REQ p * 8 + s.get F.PORT_AN_ADV_RS_REQ p * 16
        + s.get F.PORT_AN_ADV_BASER_REQ p * 32
      let both := fun k => mine.testBit k && lp.testBit k
      let fec := if m = 5 then (if both 2 && (mine.testBit 3 || lp.testBit 3) then 1 else 0)
        else if m = 9 then (if both 4 then 2 else if both 5 then 1 else 0) else 0
      let s := if m = 1 then s else s.put F.PORT_STAT_FEC_RES fec p
      let s := (s.put F.PORT_STAT_AN_DONE 1 p).evt F.PORT_EVT_AN_DONE p
      if s.trains p then
        s.setPort p { s.port p with trainStart := some s.now, eqUse := some (Config.trainFrom (s.bit F.PORT_KR_CFG_INIT_MODE p)) }
      else s
  else s

/-- TRAINING_COMPLETE: the coefficients that the training has come to. -/
def State.trained (s : State) (p : Nat) (eq : BitVec 18) : State :=
  if (s.port p).trainStart.isSome then
    (s.put F.PORT_STAT_TRAIN_DONE 1 p).setPort p { s.port p with trainStart := none, eqUse := some eq }
  else s

/-- TRAINING_TIMEOUT. -/
def State.trainTimeout (s : State) (p : Nat) : State :=
  match (s.port p).trainStart with
  | some t =>
    if t + max (s.get F.PORT_KR_CFG_MAX_WAIT p) 1 * 1000000 ≤ s.now then (s.evt F.PORT_EVT_TRAIN_FAIL p).bringUp p else s
  | none => s

/-- PORT_TX_EQ as it reads: during and after training the coefficients in use (R77). -/
def State.txEqRead (s : State) (p : Nat) : Word :=
  match (s.port p).eqUse with
  | some c => c.setWidth 32
  | none => s.reg R.PORT_TX_EQ p

/-- CONTROL_WORD_RECEIVED (R74, R75): link in bit 15, full duplex in bit 12, speed in bits 11:10 of SGMII and 11:9 of USXGMII
(PRESUMED from those interfaces, log entry 72). -/
def State.controlWord (s : State) (p : Nat) (w : Nat) : State :=
  let m := s.get F.PORT_MODE_MODE p
  if s.bit F.PORT_CTRL_ENABLE p ∧ (m = 0 ∨ m = 6) then
    let s := s.put F.PORT_AN_LP_LP_WORD w p
    let up := w.testBit 15
    let half := !w.testBit 12
    let code := if m = 0 then w / 1024 % 4 else w / 512 % 8
    let speed : Option Nat := if m = 0 then (if code ≤ 2 then some code else none)
      else match code with | 0 => some 0 | 1 => some 1 | 2 => some 2 | 3 => some 5 | 4 => some 3 | 5 => some 4 | _ => none
    let s := s.setPort p { s.port p with phyUp := up, half := half }
    let s := if half then s.evt F.PORT_EVT_CFG_ERR p else s
    let s := if half || !up then s.linkLost p false else s
    if s.bit F.PORT_MODE_AN_EN p && up && !half then
      let s := match speed with | some v => s.put F.PORT_STAT_SPEED_RES v p | none => s
      if s.bit F.PORT_STAT_AN_DONE p then s else (s.put F.PORT_STAT_AN_DONE 1 p).evt F.PORT_EVT_AN_DONE p
    else s
  else s

/-- FEC_UNCORRECTABLE (R81): blocks or codewords that failed, and those that were corrected. -/
def State.fecErrors (s : State) (p n corrected : Nat) : State :=
  if s.bit F.PORT_STAT_LINK p ∧ s.get F.PORT_STAT_FEC_RES p ≠ 0 then
    let s := (s.portCnt p 24 n).portCnt p 23 corrected
    s.evtIf (n != 0 && !(s.bit F.PORT_EVT_FEC_UNCORR p)) F.PORT_EVT_FEC_UNCORR p
  else s

/-! ## Writes of PORT_CTRL and PORT_MODE (R71 to R73, R83, R101) -/

/-- A port may take a mode, FEC and speed (R72, R73). -/
def portModeOk (p : Nat) (w : Word) : Bool :=
  let m := getBits w 3 0
  let fec := getBits w 11 10
  let sp := getBits w 7 4
  let lp := decide (p < 64)
  let modeOk := if lp then decide (m ≤ 6) else m == 4 || m == 8 || m == 9
  let fecOk := match m with
    | 4 | 5 => decide (fec ≤ 1)
    | 8 | 9 => decide (fec ≤ 2)
    | _ => fec == 0
  modeOk && fecOk && decide (sp < 6) && !(m == 0 && decide (2 < sp))

/-- A write of PORT_MODE that its access codes let through: `w` as the register would stand. -/
def State.portMode (s : State) (p : Nat) (w : Word) : State :=
  if portModeOk p w then s.setReg R.PORT_MODE (w &&& 0xEFF) p else s.evt F.PORT_EVT_CFG_ERR p

/-- A write of PORT_CTRL: ENABLE, LOOPBACK and PCS_RESET. A refused LOOPBACK leaves the field alone (R101; DEDUCED, log entry 76). -/
def State.portCtrl (s : State) (p : Nat) (w : Word) : State :=
  let bad := decide (5 ≤ getBits w 6 4)
  let s := s.evtIf bad F.PORT_EVT_CFG_ERR p
  let was := s.bit F.PORT_CTRL_ENABLE p
  let en := getBits w 31 31 == 1
  let s := if was && !en then s.linkLost p true else s
  let s := s.put F.PORT_CTRL_ENABLE (getBits w 31 31) p
  let s := if was && !en then (s.bringUp p).fcClear p else s
  let s := if bad then s else s.put F.PORT_CTRL_LOOPBACK (getBits w 6 4) p
  let s := if en && !was then (s.bringUp p).mmShow p else s
  if was && en && getBits w 0 0 == 1 then (s.linkLost p false).bringUp p else s

end Sys2Proof.Machine
end

