-- ==== Sys2Proof/Machine/ModeOps.lean ====
section
/-! DEFINITION. The mode machine (02_operating_modes.md, R40 to R68): requests, switch points, the Pewter sequences, and the maintenance
commands. -/

namespace Sys2Proof.Machine

/-! ## Requests (R41 to R48) -/

/-- A refused request, or a refused initial mode (R64). -/
def State.modeRefuse (s : State) (reason : Nat) : State :=
  (s.put F.GLB_MODE_STAT_REASON reason).evt F.GLB_MODE_STAT_REFUSED

/-- Bit `m` of PERMIT as it reads: bits 0 and 6 read 1 (R65). -/
def State.permits (s : State) (m : Nat) : Bool := m == 0 || m == 6 || (s.get F.GLB_MODE_PERMIT_PERMIT).testBit m

/-- The four forwarding modes that software chooses among (R36). -/
def forwarding (m : Nat) : Bool := decide (1 ≤ m ∧ m ≤ 4)

/-- A requested transition of R40, or a host wake of R52, leads from `cur` to `target`. -/
def modePath (cur prev target : Nat) : Bool :=
  if cur = modeLOAD then forwarding target || target == modeMAINTENANCE
  else if forwarding cur then forwarding target || target == modePEWTER || target == modeMAINTENANCE
  else if cur = modePEWTER then target == prev
  else if cur = modeMAINTENANCE then forwarding target
  else false

/-- The keep-alive slots as they stand (R67). -/
def State.kaSlots (s : State) : List KaSlot :=
  (List.range 4).map (fun k =>
    { en := s.bit F.GLB_KA_CFG_EN k, match_ := s.get F.GLB_KA_CFG_MATCH k, port := s.get F.GLB_KA_CFG_PORT k,
      da := s.get F.GLB_KA_DA_A_DA_HI k * 2 ^ 16 + s.get F.GLB_KA_DA_B_DA_LO k, etype := s.get F.GLB_KA_DA_B_ETYPE k })

/-- A port is linked in SGMII or USXGMII at 100 Mb/s. -/
def State.linked100 (s : State) (p : Nat) : Bool :=
  s.bit F.PORT_STAT_LINK p && (s.get F.PORT_MODE_MODE p == 0 || s.get F.PORT_MODE_MODE p == 6) && s.get F.PORT_STAT_SPEED_RES p == 1

/-- The prerequisites of a request for PEWTER (R48). -/
def State.pewterOk (s : State) : Bool :=
  let l := s.kaSlots.filter (fun k => k.en)
  !l.isEmpty && l.all (fun k => decide (k.port ≤ 63) && s.linked100 k.port)

/-- The prerequisites of R47 (with R324), R48 and R57. -/
def State.modePrereq (s : State) (target : Nat) : Bool :=
  if s.mode = modeMAINTENANCE ∧ (s.md.dirty || s.bit F.GLB_MNT_STAT_BUSY) = true then false
  else if target = modeSERVICE then s.bit F.INV_CYC_STAT_RUNNING
  else if target = modePEWTER then s.pewterOk
  else true

/-- Why a request is refused, by the steps of R41: 0 accepted, 16 completed at once. -/
def State.judgeMode (s : State) (key target : Nat) : Nat :=
  let cur := s.mode
  let pair := fun m => m == modeSCHEDULED || m == modeSERVICE
  if key ≠ 0xA5 then 1
  else if cur = modeHOLD then 2
  else if s.bit F.GLB_MODE_TRANSIT then 3
  else if s.bit F.TWN_CTRL_EN && !(s.isActive && pair cur && pair target) then 4
  else if target = cur then 16
  else if !modePath cur (s.get F.GLB_MODE_PREV) target then 5
  else if cur = modeLOAD ∧ s.get F.IMG_STAT_STATE ≠ 7 then 7
  else if !s.permits target then 6
  else if !s.modePrereq target then 7
  else 0

/-- The switch point of a transition accepted at `a` (R45): the first cycle start at or after a + 1 µs of a generator that runs, else
a + 1 µs. A start that a pending cycle change replaces is none. -/
def State.switchPoint (s : State) (a : Int) : Int :=
  match (if s.bit F.INV_CYC_STAT_RUNNING then s.inv.cycNext else none) with
  | none => a + 1000
  | some n =>
    let c := if a + 1000 ≤ n then n else gridAtOrAfter n (s.get F.INV_CYC_OPER_PERIOD_PERIOD) (a + 1000)
    match s.inv.cycPend with
    | none => c
    | some x =>
      if s.cycHeldBack c || decide (x.tx ≤ c) then
        (if a + 1000 ≤ x.tx then x.tx else gridAtOrAfter x.tx x.cycle (a + 1000))
      else c

/-- A transition is accepted (R41). The entry sequences of PEWTER and MAINTENANCE close receive at once (R49); every other transition
waits for its switch point. A host wake is a wake event (R52). -/
def State.modeAccept (s : State) (target : Nat) : State :=
  let cur := s.mode
  let s := (s.put F.GLB_MODE_TARGET target).put F.GLB_MODE_TRANSIT 1
  if cur = modePEWTER then { s with md := { s.md with wakeDue := s.md.wakeDue ||| 1 } }
  else if forwarding cur && (target == modePEWTER || target == modeMAINTENANCE) then
    let ka := if target = modePEWTER then s.kaSlots else []
    let s := { s with md := { s.md with accept := some s.now, deadline := s.now + s.lMax, ka := ka } }
    if cur = modeSERVICE then s.pdsStop s.now else s
  else { s with md := { s.md with ts := some (s.switchPoint s.now), forced := false } }

/-- A write of GLB_MODE_REQ (R41). On the ACTIVE device of a pair an accepted request travels to the STANDBY (R44, R413). -/
def State.modeRequest (s : State) (key target : Nat) : State :=
  let r := s.judgeMode key target
  if r = 16 then s.evt F.GLB_MODE_STAT_DONE
  else if r ≠ 0 then s.modeRefuse r
  else
    let s := s.modeAccept target
    if s.replays then s.sendCmd 2 target [] else s

/-- The mode changes at time `t` (R45): CUR, PREV and TRANSIT, the process-data service and ADAPTIVE start and stop, and the tables are
unlocked when the mode first leaves LOAD (R186). -/
def State.modeChange (s : State) (target : Nat) (t : Int) (forced : Bool) : State :=
  let old := s.mode
  let s := if old = modeLOAD then s.unlockEpoch else s
  let s := if old = modeSERVICE then s.pdsStop t else s
  let s := (((s.noteMode t).put F.GLB_MODE_PREV old).put F.GLB_MODE_CUR target).put F.GLB_MODE_TARGET target
  let s := (s.put F.GLB_MODE_TRANSIT 0).put F.GLB_MODE_FORCED (if forced then 1 else 0)
  let s := s.evt F.GLB_MODE_STAT_DONE
  let s := if forced then s.put F.GLB_MODE_STAT_FORCED 1 else s
  let s := if old = modeADAPTIVE then s.adpLeave t else s
  let s := if target = modeADAPTIVE then s.adpEnter t else s
  if target = modeSERVICE then s.pdsStart t else s

/-- SWITCH_POINT: TD0 reaches T_s. -/
def State.switchTime (s : State) : State :=
  match s.md.ts with
  | none => s
  | some t =>
    if s.now < t then s
    else
      let forced := s.md.forced
      let s := { s with md := { s.md with ts := none, forced := false } }
      s.modeChange (s.get F.GLB_MODE_TARGET) t forced

/-- The forced entry into the image's initial mode (R40, R60): at load completion, and at the end of a CORE episode that found the
loader in DONE (R553). -/
def State.initialMode (s : State) : State :=
  let m := s.get F.GLB_MODE_PERMIT_INIT
  if m = 0 then s
  else if m = 5 ∨ m = 6 ∨ 8 ≤ m ∨ s.permits m = false then s.modeRefuse 6
  else if m = modeSERVICE ∧ s.bit F.INV_CYC_STAT_RUNNING = false then s.modeRefuse 7
  else
    let s := (s.put F.GLB_MODE_TARGET m).put F.GLB_MODE_TRANSIT 1
    { s with md := { s.md with ts := some (s.switchPoint s.now), forced := true } }

/-! ## Draining (R49) -/

/-- The shared cell memory holds no frame. -/
def State.drained (s : State) : Bool :=
  s.swc.cells.isEmpty && s.swc.lists.isEmpty
    && s.frames.all (fun e => match e.2 with | some f => f.begun == 0 | none => true)

/-- An entry sequence is draining toward `target`. -/
def State.draining (s : State) (target : Nat) : Bool :=
  s.md.accept.isSome && s.md.gate.isNone && s.get F.GLB_MODE_TARGET == target

/-- PEWTER_DRAIN_COMPLETE: the capture FIFO is emptied, L1 is requested on both host links and power gating begins. Whether a link
then rests in L1 is the host's to say (R55): its status is a free value. -/
def State.pewterDrained (s : State) : State :=
  if s.draining modePEWTER && s.drained then
    let s := s.cffEmpty.dmaPauseAll
    let (a, s) := s.draw 1
    let (b, s) := s.draw 1
    let s := s.put F.GLB_HOST_STAT_HA_L1 (if s.bit F.GLB_HOST_STAT_HA_UP then a.toNat else 0)
    let s := s.put F.GLB_HOST_STAT_HB_L1 (if s.bit F.GLB_HOST_STAT_HB_UP then b.toNat else 0)
    { s with md := { s.md with gate := some s.inv.ticks } }
  else s

/-- Discard the copies of a list from its head as stuck frames. -/
def State.stuckList (s : State) (n : Nat) : Nat → State
  | 0 => s
  | k + 1 => if (s.list n).isEmpty then s else (s.ageDiscard n).stuckList n k

/-- One stuck copy of list `n` is counted (R228). -/
def State.stuckCount (s : State) (n : Nat) : State :=
  ((s.dropCount 0x40).inc F.SWC_AGE_CNT_COUNT (listClass n)).evt F.SWC_EVT_AGE

/-- A copy that place `k` of a port holds is stuck: one on its way ends with a stomped FCS after the bytes that have left, one that has
not started is discarded. -/
def State.stuckTx (s : State) (p k : Nat) : State :=
  match s.txGet p k with
  | none => s
  | some x =>
    if x.entry.isSome || x.cut.isSome then s
    else if x.started then (s.stuckCount x.list).stompTx p k (s.bytesOut p x) false
    else
      let s := ((s.stuckCount x.list).txSet p k none).txEnd x
      s.setPort p { s.port p with laneFree := none }

/-- A copy that the reader of the other twin's list holds is stuck. -/
def State.stuckFwd (s : State) (n : Nat) : State :=
  if (s.fwdTaken n).isSome then (s.stuckCount n).fwdStop n else s

/-- A copy that a DMA channel is writing is stuck: the channel gives its buffer back and its descriptor waits for another copy
(DESIGN CHOICE, log entry 128). -/
def State.stuckDma (s : State) (n : Nat) : State :=
  match (s.dch n).copy with
  | none => s
  | some (list, c) =>
    let s := match (s.dch n).handle with | some h => s.hwRelease h (s.chHost n + 1) | none => s
    let s := s.setDch n { s.dch n with copy := none, handle := none, moved := 0 }
    (s.stuckCount list).endCopy list c

/-- A frame that stage 6 has not reached is stuck; it counts in the class of its queue, as far as stage 4 has given it one
(DESIGN CHOICE, log entry 128). -/
def State.stuckFrame (s : State) (k : Nat) : State :=
  match s.frame k with
  | some f =>
    if f.stage == .admitted || f.stage == .gone then s
    else ((s.inc F.SWC_AGE_CNT_COUNT (queueClass (if f.dec.queued then f.dec.queue else 0))).evt F.SWC_EVT_AGE).dropFrame k 0x40
  | none => s

/-- PEWTER_DRAIN_DEADLINE: the frames still present are discarded as stuck (R49, R228). -/
def State.drainDeadline (s : State) : State :=
  if s.md.accept.isSome && s.md.gate.isNone && decide (s.md.deadline ≤ s.now) && !s.drained then
    let s := (List.range 72).foldl (fun s p => [0, 1, 2, 3].foldl (fun s k => s.stuckTx p k) s) s
    let s := (List.range 8).foldl (fun s i => s.stuckFwd (576 + i)) s
    let s := (List.range 16).foldl State.stuckDma s
    let s := s.swc.lists.foldl (fun s e => s.stuckList e.1 e.2.length) s
    s.frames.foldl (fun s e => s.stuckFrame e.1) s
  else s

/-- The frames that MACs are receiving stay, to be counted in counter 11 at their last byte (R58, R561). -/
def State.rxOnly (s : State) : Tab (Option Frame) :=
  let inRx := s.ports.flatMap (fun e => (e.2.rxE.toList ++ (e.2.rxP.map (fun r => r.fid)).toList))
  s.frames.filterMap (fun e => match e.2 with
    | some f => if inRx.contains e.1 then
        some (e.1, some { modeDropped f with begun := 0, cells := [], heads := [], liveBy := [0, 0, 0, 0] })
      else none
    | none => none)

/-- CUR takes the target of an entry sequence. -/
def State.entryDone (s : State) (target : Nat) : State :=
  let old := s.mode
  let s := ((s.noteMode s.now).put F.GLB_MODE_PREV old).put F.GLB_MODE_CUR target
  let s := ((s.put F.GLB_MODE_TRANSIT 0).put F.GLB_MODE_FORCED 0).evt F.GLB_MODE_STAT_DONE
  let s := if old = modeADAPTIVE then (if target = modePEWTER then s.adpPause else s.adpLeave s.now) else s
  { s with md := { s.md with accept := none, gate := none } }

/-- PEWTER_GATED: 30 µs of power gating have passed. The lanes that no enabled slot names go down. -/
def State.pewterGated (s : State) : State :=
  match s.md.gate with
  | none => s
  | some t =>
    if s.inv.ticks < t + 15000 then s
    else
      let s := s.entryDone modePEWTER
      (List.range 72).foldl (fun s p =>
        if s.md.ka.any (fun k => k.en && k.port == p) then s
        else if s.bit F.PORT_STAT_LINK p then (s.linkLost p false).bringUp p else s) s

/-- MAINTENANCE_ENTER. -/
def State.maintenanceEnter (s : State) : State :=
  if s.draining modeMAINTENANCE && s.drained then s.entryDone modeMAINTENANCE else s

/-! ## PEWTER and its wake (R50 to R54) -/

/-- The EtherType of a frame after its VLAN tags, `fuel` of them at most, from offset `i`. -/
def etypeFrom (b : List Byte) : Nat → Nat → Nat
  | 0, i => beAt b i 2
  | n + 1, i => if beAt b i 2 == 0x8100 || beAt b i 2 == 0x88A8 then etypeFrom b n (i + 4) else beAt b i 2

/-- The EtherType of a frame after its VLAN tags. -/
def etypeAfterTags (b : List Byte) : Nat := etypeFrom b (b.length / 4) 12

/-- A frame meets a slot's match (R67). -/
def KaSlot.matches (k : KaSlot) (b : List Byte) : Bool :=
  let da := beAt b 0 6 == k.da
  let et := etypeAfterTags b == k.etype
  match k.match_ with
  | 0 => fcsOk b
  | 1 => da
  | 2 => da && et
  | _ => et

/-- KEEPALIVE_FRAME: the frame counts in the port's statistics as any received frame does, is checked against the port's slots and is
discarded. -/
def State.keepAliveFrame (s : State) (p : Nat) (b : List Byte) : State :=
  if s.mode = modePEWTER ∧ s.md.ka.any (fun k => k.en && k.port == p) = true then
    let s := s.countReceived p b (errorFlags b (s.get F.PORT_RXCFG_MAXLEN p) false false false) false
    let hit := (List.range 4).foldl (fun (a : Nat) i => match s.md.ka[i]? with
      | some k => if k.en && k.port == p && k.matches b then a ||| 2 ^ (2 + i) else a
      | none => a) 0
    if s.md.wake.isSome then s else { s with md := { s.md with wakeDue := s.md.wakeDue ||| hit } }
  else s

/-- TIME_WAKE: TD0 is at or past the armed wake time (R52, R66). -/
def State.timeWake (s : State) : State :=
  if s.mode = modePEWTER ∧ s.md.wake.isNone ∧ s.bit F.GLB_PEWTER_CFG_TIME_WAKE_EN = true
      ∧ fullTime (s.dom 0) (s.get F.GLB_WAKE_SEC_SEC) (s.get F.GLB_WAKE_NS_NS) ≤ s.now then
    { s with md := { s.md with wakeDue := s.md.wakeDue ||| 2 } }
  else s

/-- WAKE_START: the sources that have fired are recorded and the wake sequence begins. -/
def State.wakeStart (s : State) : State :=
  if s.mode = modePEWTER ∧ s.md.wake.isNone ∧ s.md.wakeDue ≠ 0 then
    let s := (s.put F.GLB_MODE_TRANSIT 1).put F.GLB_MODE_TARGET (s.get F.GLB_MODE_PREV)
    let s := s.put F.GLB_MODE_STAT_WAKE_SRC s.md.wakeDue
    let s := (s.put F.GLB_HOST_STAT_HA_L1 0).put F.GLB_HOST_STAT_HB_L1 0
    let s := { s with md := { s.md with wake := some s.inv.ticks, wakeDue := 0 } }
    (List.range 72).foldl (fun s p =>
      if s.bit F.PORT_CTRL_ENABLE p && !(s.md.ka.any (fun k => k.en && k.port == p)) then s.bringUp p else s) s
  else s

/-- WAKE_COMPLETE: 45 µs after the wake event: the cell memory and the capture FIFO are empty, with every free list rebuilt
(R53, R232, R238). -/
def State.wakeComplete (s : State) : State :=
  match s.md.wake with
  | none => s
  | some t =>
    if s.inv.ticks < t + 22500 then s
    else
      let prev := s.get F.GLB_MODE_PREV
      let forced := !(s.get F.GLB_MODE_STAT_WAKE_SRC).testBit 0
      let s := ({ s.clearSwc with frames := s.rxOnly }.cffEmpty).noteMode s.now
      let s := ((s.put F.GLB_MODE_CUR prev).put F.GLB_MODE_PREV modePEWTER).put F.GLB_MODE_TRANSIT 0
      let s := (s.put F.GLB_MODE_FORCED (if forced then 1 else 0)).evt2 F.GLB_MODE_STAT_WAKE F.GLB_MODE_STAT_DONE
      let s := if forced then s.put F.GLB_MODE_STAT_FORCED 1 else s
      let s := if s.bit F.MGT_WDT_CFG_EN then s.put F.MGT_WDT_LEFT_LEFT (s.get F.MGT_WDT_CFG_TIMEOUT) else s
      let next := s.pmc.next.map (fun n => if s.now < n then n else gridAtOrAfter n (s.get F.PMC_DUMP_PERIOD_PERIOD) (s.now + 1))
      let s := { s with pmc := { s.pmc with next := next }, mgt := { s.mgt with warned := false } }
      let sp := s.switchPoint s.now
      let s := { s with md := { s.md with wake := none, ka := [], pdsAt := if prev = modeSERVICE then some sp else none } }
      if prev = modeADAPTIVE then s.adpWake sp else s

/-- The PDS starts at the switch point that follows a wake into SERVICE (R53). -/
def State.wakePds (s : State) : State :=
  match s.md.pdsAt with
  | none => s
  | some t =>
    if s.now < t then s
    else
      let s := { s with md := { s.md with pdsAt := none } }
      if s.mode = modeSERVICE then s.pdsStart t else s

/-! ## Maintenance (R57, R58) -/

/-- A refused write of GLB_MNT_CMD. -/
def State.mntReject (s : State) (code : Nat) : State := s.put F.GLB_MNT_STAT_REJECT code

/-- Every frame held in the shared cell memory is discarded under DROP_MODE, each counted once; the frames that MACs are receiving
stay to be counted at their last byte. -/
def State.bistCells (s : State) : State :=
  let held := s.frames.filter (fun e => match e.2 with
    | some f => f.begun != 0 || f.stage != .gone
    | none => false)
  let s := held.foldl (fun s _ => s.dropCount 0x02) s
  let s := s.stompAll []
  { s.clearSwc with frames := s.rxOnly }

/-- Launch entries whose buffer lies in service SRAM are discarded under DROP_MODE. -/
def State.bistCalendars (s : State) : State :=
  (List.range 72).foldl (fun s p =>
    let gone := (s.eg p).cal.filter (fun e => !s.poolHost (handlePool e.handle))
    let left := (s.eg p).cal.filter (fun e => s.poolHost (handlePool e.handle))
    if gone.isEmpty then s
    else
      let rearmed := (s.eg p).cal.head? != left.head?
      let s := gone.foldl (fun s e => (s.dropCount 0x02).egressRelease p e) s
      (s.setEg p { s.eg p with cal := left }).calReport p rearmed) s

/-- A BIST starts: the contents of the memory are lost (R57, R58). -/
def State.bistStart (s : State) (mem : Nat) : State :=
  let s := s.evt F.GLB_MODE_STAT_BIST_DIRTY
  let s := { s with md := { s.md with dirty := true } }
  match mem with
  | 0 => { s.put F.EPOCH_STAT_STAGED 0 with lkp := { s.lkp with slots := [], staged := [], taken := [], lost := none } }
  | 1 => { s with tin := { s.tin with store := [], lost := none } }
  | 2 => s.bistCells
  | 3 =>
    let s := s.bistCalendars.poolsLost
    { s with sram := [], sramLost := none }
  | _ => s.cffEmpty

/-- A write of GLB_MNT_CMD (R58, R68). -/
def State.mntCommand (s : State) (key op mem : Nat) : State :=
  if key ≠ 0x5A then s.mntReject 1
  else if s.mode ≠ modeMAINTENANCE then s.mntReject 2
  else if op = 0 ∨ (op ≠ 3 ∧ 5 ≤ mem) then s.mntReject 3
  else if op ≠ 3 ∧ s.bit F.GLB_MNT_STAT_BUSY = true then s.mntReject 4
  else if op = 3 ∧ s.bit F.GLB_MNT_STAT_BUSY = false then s.mntReject 5
  else if op = 3 then { s with md := { s.md with aborting := true } }
  else
    let bist := fun (s : State) =>
      let s := ((s.put F.GLB_MNT_STAT_BUSY 1).put F.GLB_MNT_STAT_MEM mem).put F.GLB_MNT_STAT_OP op
      { (s.setReg R.GLB_MNT_RESULT 0).setReg R.GLB_MNT_ERRS 0 with md := { s.md with aborting := false } }
    if op = 2 then bist (s.bistStart mem) else bist s

/-- What an aborted BIST leaves in its memory: free values (R58). -/
def State.bistUndefined (s : State) (mem : Nat) : State :=
  let n := s.freeCtr
  match mem with
  | 0 => { s with lkp := { s.lkp with lost := some n }, freeCtr := n + 10 * 9 * 2 ^ 20 + 10 }
  | 1 => { s with tin := { s.tin with lost := some n }, freeCtr := n + 24576 }
  | 2 =>
    let (f, s) := s.draw 18
    let (d, s) := s.draw 18
    (s.put F.SWC_FREE_CELLS f.toNat).put F.SWC_FREE_DESC_DESC d.toNat
  | 3 => { s with sramLost := some n, freeCtr := n + sramSize }
  | _ => s

/-- A scrub of the table memories: the slots whose parity has failed, those listed and those that the state holds, are poisoned
(R58, R169). -/
def State.scrubTables (s : State) (slots : List (Nat × Nat)) : State :=
  let s := slots.foldl (fun s e => if e.2 < tblSlots e.1 then s.setSlot e.1 e.2 { s.slot e.1 e.2 with perr := true } else s) s
  let bad := s.lkp.slots.filter (fun e => e.2.perr)
  bad.foldl (fun s e => s.parityFound (e.1 / 2 ^ 20) (e.1 % 2 ^ 20)) s

/-- The words of the microcode store that a scrub would correct, with their corrected forms, and those it cannot (R131). -/
def State.storeErrors (s : State) : List (Nat × UWord) × List Nat :=
  (s.tin.store.filterMap (fun e => match uwDecode e.2 with | .single w => some (e.1, w) | _ => none),
   s.tin.store.filterMap (fun e => match uwDecode e.2 with | .double => some e.1 | _ => none))

/-- The cells whose single-bit error a scrub would correct, and those it cannot. -/
def State.cellErrors (s : State) : List Nat × List Nat :=
  (s.swc.cells.filterMap (fun e => if e.2.ecc = 1 then some e.1 else none),
   s.swc.cells.filterMap (fun e => if e.2.ecc = 2 then some e.1 else none))

/-- What the scrub of a memory finds in it: words corrected, words left as stored, and the index of the first of these. A word corrected
has lost its error. `n` bounds the corrections: an aborted scrub keeps those that it has made. -/
def State.scrub (s : State) (mem n : Nat) (slots : List (Nat × Nat)) : (Nat × Nat × Option Nat) × State :=
  match mem with
  | 0 =>
    let s := s.scrubTables slots
    ((0, (s.lkp.slots.filter (fun e => e.2.perr)).length, none), s)
  | 1 =>
    let (one, two) := s.storeErrors
    let one := one.take n
    ((one.length, two.length, two.head?), one.foldl (fun s e => s.setUword (e.1 / 4096) (e.1 % 4096) e.2) s)
  | 2 =>
    let (one, two) := s.cellErrors
    let one := one.take n
    ((one.length, two.length, two.head?), one.foldl (fun s i => match s.cell i with
      | some c => s.setCell i { c with ecc := 0 }
      | none => s) s)
  | _ => ((0, 0, none), s)

/-- MNT_COMPLETE: the words that a scrub corrected, the uncorrectable or failing words with the index of the first, and for the tables
the slots whose parity failed, which a scrub poisons (R58, R169). The operands tell of the words that the state does not hold the errors
of; those it holds count beside them, and where neither names the first bad word its index is a free value. A double-bit error of the
microcode store is a critical-state error (R132). -/
def State.mntComplete (s : State) (corr unc : Nat) (addr : Option Nat) (slots : List (Nat × Nat)) : State :=
  if !s.bit F.GLB_MNT_STAT_BUSY then s
  else
    let op := s.get F.GLB_MNT_STAT_OP
    let mem := s.get F.GLB_MNT_STAT_MEM
    let abort := s.md.aborting
    let (found, s) := if op = 1 then s.scrub mem (if abort then corr else 0x10000) slots else ((0, 0, none), s)
    let corr := min (max corr found.1) 0xFFFF
    let unc := if abort then unc else min (max unc found.2.1) 0xFFFF
    let (free, s) := s.draw 24
    let first := match addr, found.2.2 with
      | some a, some b => min a b
      | some a, none => a
      | none, some b => b
      | none, none => free.toNat
    let status := if abort then 3 else if unc = 0 then 0 else if op = 1 then 1 else 2
    let s := (s.put F.GLB_MNT_ERRS_CORR (if op = 1 then corr else 0)).put F.GLB_MNT_ERRS_UNC unc
    let s := if unc = 0 then s else (s.put F.GLB_MNT_RESULT_VALID 1).put F.GLB_MNT_RESULT_ADDR first
    let s := if op = 1 ∧ mem = 1 ∧ unc ≠ 0 then s.rstDue 6 else s
    let s := if op = 2 ∧ abort = true then s.bistUndefined mem else s
    let s := ((s.put F.GLB_MNT_STAT_BUSY 0).put F.GLB_MNT_STAT_STATUS status).evt F.GLB_MODE_STAT_MNT_DONE
    { s with md := { s.md with aborting := false } }

end Sys2Proof.Machine
end

