-- ==== Sys2Proof/Machine/RegMap.lean ====
section
/-! DEFINITION. The address map of BAR0 (R443, R444): the blocks, their decode spans, and the register at an offset. -/

namespace Sys2Proof.Machine

/-- A block of the register file: its extent, its decode span, and the stride of its per-port blocks (the extent itself where it has
none). -/
structure Block where
  base : Nat
  extent : Nat
  span : Nat
  stride : Nat
  regs : List RegSpec

/-- The blocks of R444 with the spans of their chapters. -/
def blockGLB : Block := ⟨0x0, 0x10000, 0x10000, 0x10000, regsGlb⟩
def blockRST : Block := ⟨0x10000, 0x10000, 0x100, 0x10000, regsMgmt⟩
def blockMGT : Block := ⟨0x20000, 0x10000, 0x200, 0x10000, regsMgmt⟩
def blockINV : Block := ⟨0x30000, 0x10000, 0x800, 0x10000, regsInv⟩
def blockTWN : Block := ⟨0x40000, 0x10000, 0x200, 0x10000, regsTwn⟩
def blockDMA : Block := ⟨0x50000, 0x10000, 0x800, 0x10000, regsDma⟩
def blockBPM : Block := ⟨0x60000, 0x10000, 0x200, 0x10000, regsDma⟩
def blockCFF : Block := ⟨0x70000, 0x10000, 0x2000, 0x10000, regsCff⟩
def blockPMC : Block := ⟨0x80000, 0x10000, 0x4000, 0x10000, regsPmc⟩
def blockIMG : Block := ⟨0x90000, 0x10000, 0x200, 0x10000, regsImg⟩
def blockTIN : Block := ⟨0xA0000, 0x60000, 0x40000, 0x60000, regsTin⟩
def blockLKP : Block := ⟨0x100000, 0x100000, 0x10000, 0x100000, regsLkp⟩
def blockSWC : Block := ⟨0x200000, 0x100000, 0x4000, 0x100000, regsSwc⟩
def blockEGS : Block := ⟨0x300000, 0x100000, 0x200, 0x1000, regsEgs⟩
def blockPOL : Block := ⟨0x400000, 0x100000, 0x2000, 0x100000, regsPol⟩
def blockPDS : Block := ⟨0x500000, 0x300000, 0x20000, 0x300000, regsPds⟩
def blockPORT : Block := ⟨0x800000, 0x800000, 0x2000, 0x10000, regsPort⟩

/-- The block whose extent holds an offset. The extents cover BAR0 (R444). -/
def blockAt (a : Nat) : Block :=
  if a < 0x10000 then blockGLB
  else if a < 0x20000 then blockRST
  else if a < 0x30000 then blockMGT
  else if a < 0x40000 then blockINV
  else if a < 0x50000 then blockTWN
  else if a < 0x60000 then blockDMA
  else if a < 0x70000 then blockBPM
  else if a < 0x80000 then blockCFF
  else if a < 0x90000 then blockPMC
  else if a < 0xA0000 then blockIMG
  else if a < 0x100000 then blockTIN
  else if a < 0x200000 then blockLKP
  else if a < 0x300000 then blockSWC
  else if a < 0x400000 then blockEGS
  else if a < 0x500000 then blockPOL
  else if a < 0x800000 then blockPDS
  else blockPORT

/-- The offset that COMPACT decode acts on: within its block, and within a port's block, modulo the span (R18). -/
def compactOffset (a : Nat) : Nat :=
  let b := blockAt a
  let d := a - b.base
  b.base + d / b.stride * b.stride + d % b.stride % b.span

/-- The drop codes of R233. -/
def dropCodes : List Nat :=
  [0x01, 0x02, 0x03, 0x08, 0x09, 0x10, 0x11, 0x12, 0x13, 0x14, 0x15, 0x16, 0x20, 0x21, 0x22, 0x23, 0x30, 0x31, 0x32, 0x38, 0x40, 0x41]

/-- Registers of an array that do not exist: the ring registers of DMA14 (R495), the seeds of tables that are not hashed (R173), and
the drop counts of codes that R233 does not list (R234). -/
def unimplementedIndex (r : RegSpec) (i : Nat) : Bool :=
  (i == 14 && (r.base == R.DMA_CH_RING_LO.base || r.base == R.DMA_CH_RING_HI.base || r.base == R.DMA_CH_HEAD.base
      || r.base == R.DMA_CH_TAIL.base || r.base == R.DMA_CH_CUR.base))
  || (r.base == R.LKP_SEED.base && !(i == 0 || i == 2 || i == 3 || i == 4 || i == 7))
  || (r.base == R.SWC_DROP_CNT.base && !dropCodes.contains i)

/-- The register at an offset, with its indices. -/
def regAt (a : Nat) : Option (RegSpec × Nat × Nat) :=
  match (blockAt a).regs.findSome? (fun r => (r.index a).map (fun ij => (r, ij.1, ij.2))) with
  | some (r, i, j) => if unimplementedIndex r i then none else some (r, i, j)
  | none => none

/-- The bits of a register whose Reset is IMG. -/
def RegSpec.imgMask (r : RegSpec) : Word := r.fields.foldl (fun m f => if f.img then m ||| f.mask else m) 0

end Sys2Proof.Machine
end

