-- ==== Sys2Proof/Machine/RstOps.lean ====
section
/-! DEFINITION. The reset controller (20_reset_and_errors.md): sources, episodes, and what each reach clears. -/

namespace Sys2Proof.Machine

/-! ## What an episode clears (R568 to R571) -/

/-- The blocks whose registers a CORE episode clears; of GLB the mode registers but for GLB_MODE, which changes at the end, the
adaptive registers, and the access errors. -/
def coreClears (a : Nat) : Bool :=
  if a < 0x10000 then
    decide (0x10 ≤ a ∧ a < 0x20) || decide (0x44 ≤ a ∧ a < 0xC0) || decide (0x200 ≤ a ∧ a < 0x300) || decide (0x1000 ≤ a ∧ a < 0x8000)
  else if a < 0x40000 then false
  else if 0x90000 ≤ a ∧ a < 0xA0000 then false
  else decide (a < 0x800000)

/-- A register that a CORE episode clears: its reset value, but the fields whose Reset is IMG keep theirs. -/
def coreWord (k : Nat) (w : Word) : Word :=
  match regAt (k % 2 ^ 24) with
  | some (r, _, _) => (r.resetWord &&& ~~~ r.imgMask) ||| (w &&& r.imgMask)
  | none => 0

/-- The registers after a CORE episode has cleared them. -/
def State.coreRegs (s : State) : State :=
  let gone := s.regs.filter (fun e => coreClears (e.1 % 2 ^ 24))
  let kept := s.regs.filter (fun e => !coreClears (e.1 % 2 ^ 24))
  let s := { s with regs := kept, rsvd := s.rsvd.filter (fun e => !coreClears (e.1 % 2 ^ 24)), snaps := s.snaps.filter (fun e => !coreClears (e.1 / 2 % 2 ^ 24)) }
  gone.foldl (fun s e => match regAt (e.1 % 2 ^ 24) with
    | some (r, i, j) =>
      let host := e.1 / 2 ^ 24
      let v := coreWord e.1 e.2
      if r.hostPrivate then (if r.dims.isEmpty then s.setReg r v host else s.setReg r v i host) else s.setReg r v i j
    | none => s) s

/-- A slot after a CORE episode (R569): the version in force; a dynamic FDB entry goes. -/
def coreSlot (t e : Nat) (x : Slot9) : Slot9 :=
  let img := (versionFor x e).img
  let img := if t = 0 ∧ fdbDynamic img = true then 0 else img
  let v : Version := { img := img, tag := 0, settled := decide (img ≠ 0) }
  { a := v, b := v, perr := x.perr, poison := x.poison }

/-- The tables after a CORE episode. -/
def State.coreTables (s : State) : LkpState :=
  let slots := s.lkp.slots.map (fun e => (e.1, coreSlot (e.1 / 2 ^ 20) s.epoch e.2))
  let slots := if s.lkp.lost.isNone then slots.filter (fun e => e.2 != {}) else slots
  { slots := slots, lost := s.lkp.lost }

/-- A port's egress scheduler after a CORE episode (R568, R570); its shapers are filled at the end. -/
def State.coreEgs (s : State) (p : Nat) (x : EgsPort) : EgsPort :=
  { bank0 := x.bank0, bank1 := x.bank1, ext := s.get F.EGS_GATE_ADM_EXT_EXT p }

/-- Every queue's shaper holds BURST, and the weights in use are the configured ones (R570). -/
def State.egsFill (s : State) : State :=
  (List.range 72).foldl (fun s p =>
    ((List.range 8).foldl (fun s q => s.setTok p q (s.shpBurst p q)) s).weightsFollow p) s

/-- Full buckets at time `t` (R276, R570). -/
def Meter.full (m : Meter) (t : Int) : Meter := { m with tc := toUnit m.cbs, tp := toUnit m.pbs, tlast := t }

/-- The policing state at the end of an episode (R570): full buckets, no filter blocked, no gate closed. -/
def State.polFresh (s : State) : State :=
  let t := s.now
  { s with pol := { s.pol with meters := s.pol.meters.map (fun e => (e.1, e.2.full t)),
                               filters := s.pol.filters.map (fun e => (e.1, { e.2 with blocked := false })),
                               gates := s.pol.gates.map (fun e => (e.1, { e.2 with closedInv := false })) } }

/-- The bytes of a transmission that have left by now, from the time at which it started: a preamble and SFD of 8 bytes lead. -/
def State.sentSoFar (s : State) (p : Nat) (x : Tx) : Nat :=
  x.sent + ((s.nowPs - x.startPs).toNat * s.portMbps p / 8000000 - 8)

/-- Every port copy in transmission ends at once with a stomped FCS (R561). -/
def State.cutAll (s : State) : State :=
  (List.range 72).foldl (fun s p =>
    let s := [0, 1].foldl (fun s k => match s.txGet p k with
      | some x => (s.stompTx p k (s.sentSoFar p x) false).transmitEnd p (k == 1)
      | none => s) s
    s.setPort p { s.port p with lanes := [], preempted := false, preReq := false, laneFree := some s.nowPs }) s

/-- What a CORE episode clears, at its start (R568). TWN_STAT.LINK stands: the Dvorfaza lanes stay locked. -/
def State.coreClear (s : State) : State :=
  let s := s.cutAll
  let s := (List.range 72).foldl State.fcClear s
  let link := s.get F.TWN_STAT_LINK
  let lkp := s.coreTables
  let frames := s.rxOnly
  let sched := s.pol.scheds.map (fun e => (e.1, { bank0 := e.2.bank0, bank1 := e.2.bank1, ext := e.2.ext : Schedule }))
  let tcc := -((s.inv.ticks * 5 / 2 : Nat) : Int)
  let s := s.coreRegs
  let s := s.put F.TWN_STAT_LINK link
  let egs := s.egs.map (fun e => (e.1, s.coreEgs e.1 e.2))
  let s := { s with egs := egs.filter (fun e => e.2 != ({} : EgsPort)), lkp := lkp, swc := {}, frames := frames, events := [],
                    tin := { store := s.tin.store, lost := s.tin.lost }, pol := { s.pol with scheds := sched, cmd := none },
                    twn := { tccOfs := tcc }, md := {}, adp := {},
                    pds := { slots := s.pds.slots, groups := s.pds.groups, fanouts := s.pds.fanouts, templates := s.pds.templates,
                             links := s.pds.links },
                    dma := {}, cff := {}, pmc := {}, pools := [], img := { s.img with bytes := [], inbox := [] } }
  let s := (List.range 8).foldl (fun s k => if s.poolHost k then s.put F.BPM_POOL_CFG_EN 0 k else s) s
  s.poolsBuild.egsFill

/-- The fuse array as an episode that ends a fuse command leaves it: the word may hold some of the bits written (R587), a free value. -/
def State.fusesCut (s : State) : Tab Word :=
  match s.img.fusing with
  | some (w, bits) => tabSet 0 s.img.fuses w (tabGet 0 s.img.fuses w ||| (bits &&& Config.freeValue 32 s.freeCtr))
  | none => s.img.fuses

/-- What a SYSTEM or POWER_ON episode clears (R568): everything but the fuse array, and for SYSTEM the TAP and RST_CAUSE. The fuse
shadow is loaded again (R540), and MGT_TAP_STAT.LOCKED with it. The inputs of the timed pins keep their levels. -/
def State.deepClear (s : State) (reach : Nat) : State :=
  let fuses := s.fusesCut
  let tio := (List.range 16).foldl (fun (t : Tab Tio) i => tabSet {} t i { level := (s.tio i).level }) []
  let t : State := { inv := { tio := tio }, tap := if reach = 3 then {} else s.tap, img := { fuses := fuses },
                     nextFid := s.nextFid, freeCtr := s.freeCtr + 1, out := s.out, pending := s.pending, rst := s.rst }
  let t := t.setReg R.RST_STAT (s.reg R.RST_STAT)
  let t := t.setReg R.RST_CAUSE (if reach = 3 then 0 else s.reg R.RST_CAUSE)
  let t := fuses.foldl (fun t e => t.setReg R.IMG_FUSE e.2 e.1) t
  t.put F.MGT_TAP_STAT_LOCKED (getBits (tabGet 0 fuses 36) 8 8)

/-- The start actions of R561, and the release of TWF_O (R398). `critical`: a critical-state source. -/
def State.rstStart (s : State) (reach : Nat) (critical : Bool) : State :=
  let s := if s.role ≠ roleOFF ∧ critical = true then s.sendFail causeCRITICAL else s
  let s := { s.failFlush with rst := { s.rst with initDone := false } }
  let s := if s.twn.twfO.isSome then s.emit (.pin "TWF_O" false) else s
  if reach = 1 then s.coreClear else s.cutAll.deepClear reach

/-! ## The episode (R557 to R566) -/

/-- The reach of a source (R557, R558). -/
def srcReach (src : Nat) : Nat :=
  if src = 0 then 3 else if src = 4 ∨ src = 5 ∨ src = 10 then 1 else 2

/-- A critical-state source. -/
def srcCritical (src : Nat) : Bool := decide (6 ≤ src ∧ src ≤ 9)

/-- The bit of RST_CAUSE that a source sets. -/
def causeFld (src : Nat) : Fld := ⟨R.RST_CAUSE, src, src⟩

/-- The device drives RST_N low, or lets it go (R565). -/
def State.rstDrive (s : State) : State :=
  let st := s.get F.RST_STAT_STATE
  let deep := [0, 2, 3, 6, 7, 8, 9].any (fun k => (s.get F.RST_STAT_LIVE).testBit k)
  let d := (st != 0 && deep) || (st == 2 && s.rst.driveStretch)
  if d == s.bit F.RST_STAT_DRIVE then s
  else (s.put F.RST_STAT_DRIVE (if d then 1 else 0)).emit (.pin "RST_N" (!d))

/-- A source asserts (R559). -/
def State.rstAssert (s : State) (src : Nat) : State :=
  let st := s.get F.RST_STAT_STATE
  let r := srcReach src
  let s := { s with rst := { s.rst with due := if s.rst.due.testBit src then s.rst.due - 2 ^ src else s.rst.due } }
  let s : State := if st = 0 then
      let s := { s with rst := { s.rst with driveStretch := false } }
      ((s.put F.RST_STAT_REACH r).rstStart r (srcCritical src)).emit (.pin "CORE_RST_N" false)
    else if s.get F.RST_STAT_REACH < r then (s.put F.RST_STAT_REACH r).rstStart r (srcCritical src)
    else s
  let s := (s.evt (causeFld src)).putBit F.RST_STAT_LIVE src true
  (s.put F.RST_STAT_STATE 1).rstDrive

/-- RESET_SOURCE_ASSERT: a pulse source whose event has been detected (R575, R580); POR and PIN stand for their inputs. -/
def State.rstSource (s : State) (src : Nat) : State :=
  if src ≤ 1 ∨ s.rst.due.testBit src = true then s.rstAssert src else s

/-- RESET_SOURCE_RELEASE (R559, R565). -/
def State.rstRelease (s : State) (src : Nat) : State :=
  if (s.get F.RST_STAT_LIVE).testBit src then
    let s := s.putBit F.RST_STAT_LIVE src false
    let drive := if src = 1 then false else if 2 ≤ srcReach src then true else s.rst.driveStretch
    let s := { s with rst := { s.rst with driveStretch := drive } }
    let s := if s.get F.RST_STAT_LIVE = 0 ∧ s.get F.RST_STAT_STATE = 1 then s.put F.RST_STAT_STATE 2 else s
    s.rstDrive
  else s

/-- RST_N_LOW (R564): ignored while the device drives the pin, and through the mask that follows. -/
def State.rstPinLow (s : State) : State :=
  if s.bit F.RST_STAT_DRIVE ∨ s.get F.RST_STAT_STATE = 3 then s
  else
    let s := s.put F.RST_STAT_PIN 0
    if (s.get F.RST_STAT_LIVE).testBit 1 then s else (s.rstAssert 1).put F.RST_STAT_PIN 0

/-- RST_N_HIGH. -/
def State.rstPinHigh (s : State) : State :=
  if s.bit F.RST_STAT_DRIVE ∨ s.get F.RST_STAT_STATE = 3 then s else (s.put F.RST_STAT_PIN 1).rstRelease 1

/-- MEMORY_INIT_COMPLETE (R562, R563). -/
def State.rstInit (s : State) : State :=
  if s.episode then { s with rst := { s.rst with initDone := true } } else s

/-! ## The end (R567) -/

/-- The end actions. `straps`: BOOT_HOST in bit 0 and I2C_A2 to I2C_A0 in bits 3:1, sampled after a SYSTEM or POWER_ON episode. -/
def State.rstEnd (s : State) (straps : Nat) : State :=
  let core := s.get F.RST_STAT_REACH == 1
  let s := (s.put F.RST_STAT_STATE 0).rstDrive.emit (.pin "CORE_RST_N" true)
  let s := (s.setReg R.GLB_MODE R.GLB_MODE.resetWord).epochState esLOCKED
  let s := s.polFresh
  let s := if s.bit F.TWN_CTRL_EN then s else s.tioUnfence
  if core then
    let s := s.evt F.RST_EVT_CORE_END
    if s.get F.IMG_STAT_STATE = 7 then s.initialMode
    else { s.put F.IMG_STAT_STATE 0 with img := { s.img with bytes := [], next := 0 } }
  else (s.put F.IMG_STAT_BOOT_HOST straps).put F.MGT_I2C_CFG_ADDR_PINS (straps / 2)

/-- STRETCH_EXPIRE: the stretch is over and initialisation complete. -/
def State.stretchEnd (s : State) (straps : Nat) : State :=
  if s.get F.RST_STAT_STATE = 2 ∧ s.rst.initDone = true then
    if s.bit F.RST_STAT_DRIVE then (s.put F.RST_STAT_STATE 3).rstDrive else s.rstEnd straps
  else s

/-- SETTLE_END: three samples of RST_N after the mask agree. -/
def State.settleEnd (s : State) (high : Bool) (straps : Nat) : State :=
  if s.get F.RST_STAT_STATE = 3 then
    if high then (s.put F.RST_STAT_PIN 1).rstEnd straps else (s.rstAssert 1).put F.RST_STAT_PIN 0
  else s

/-! ## Errors and software (R575, R576, R580) -/

/-- MODE_ECC_ERROR. -/
def State.modeEcc (s : State) (double : Bool) : State :=
  if double then s.rstDue 8 else (s.inc F.RST_MODE_ECC_COUNT).evt F.RST_EVT_MODE_CORR

/-- RSTSTATE_PARITY: RSTSTATE asserts; an episode in progress continues with the deeper of its reach and SYSTEM (R576). -/
def State.rstParity (s : State) : State := s.rstAssert 9

/-- A write of RST_CTRL (R580). -/
def State.rstCtrl (s : State) (key op : Nat) : State :=
  if key ≠ 0x5A ∨ op = 0 ∨ op = 3 then s.evt F.RST_EVT_CFG_ERR
  else s.rstDue (if op = 1 then 3 else 4)

end Sys2Proof.Machine
end

