-- ==== Sys2Proof/Machine/ImgOps.lean ====
section
/-! DEFINITION. The Ecdezar image loader: the layout of an image and its checks, release, patches and fuses (19_configuration_image.md,
R457). -/

namespace Sys2Proof.Machine

/-- The states of the loader (R556). -/
def imgDISCOVER : Nat := 0
def imgFLASH : Nat := 1
def imgVERIFY : Nat := 2
def imgCLEAR : Nat := 3
def imgWAIT_HOST : Nat := 4
def imgHOST : Nat := 5
def imgRELEASE : Nat := 6
def imgDONE : Nat := 7

def State.imgState (s : State) : Nat := s.get F.IMG_STAT_STATE

/-- The loader has reached DONE since the last episode that clears IMG (R547). -/
def State.loaded (s : State) : Bool := s.imgState == 7

/-! ## Records (R538, R539) -/

/-- The blocks that the register records of a section may target (R537). -/
def secBlocks (type : Nat) : List Nat :=
  match type with
  | 1 => [0x0, 0x20000, 0x10000, 0x40000]
  | 2 => [0x800000]
  | 3 => [0xA0000]
  | 4 => [0x100000]
  | 5 => [0x200000, 0x400000]
  | 6 => [0x300000, 0x30000]
  | 7 => [0x500000, 0x60000, 0x70000, 0x80000, 0x50000]
  | _ => []

/-- The memories that the records of a section may target (R537). -/
def secMem (type target : Nat) : Bool :=
  match type with
  | 3 => target == 0x01
  | 4 => decide (0x10 ≤ target ∧ target ≤ 0x18)
  | 5 => decide (0x20 ≤ target ∧ target ≤ 0x23)
  | 6 => target == 0x30
  | 7 => decide (0x28 ≤ target ∧ target ≤ 0x2C) || target == 0x40
  | _ => false

/-- The words of a unit of a memory target (R539). -/
def unitWords (target : Nat) : Nat :=
  if target = 0x01 then 3
  else if 0x10 ≤ target ∧ target ≤ 0x18 then (imgWidth (target - 0x10) + 31) / 32
  else if 0x20 ≤ target ∧ target ≤ 0x23 then 8
  else if 0x28 ≤ target ∧ target ≤ 0x2C then 6
  else if target = 0x30 then 2
  else 1

/-- A memory target has a unit of this number (R539). -/
def unitExists (target u : Nat) : Bool :=
  if target = 0x01 then decide (u < 4096)
  else if 0x10 ≤ target ∧ target ≤ 0x18 then decide (u < tblSlots (target - 0x10))
  else if 0x20 ≤ target ∧ target ≤ 0x23 then decide (u < polEntries (target - 0x20))
  else if 0x28 ≤ target ∧ target ≤ 0x2C then decide (u < pdsEntries (target - 0x28))
  else if target = 0x30 then decide (u / 65536 < 72 ∧ u % 65536 < 1024)
  else decide (target = 0x40 ∧ u < 1048576)

/-- A REG record may write this register with this word (R538): it holds a field whose Reset is IMG, and every other bit equals its reset
value. -/
def imgRegOk (type a : Nat) (v : Word) : Bool :=
  (secBlocks type).contains (blockAt a).base && match regAt a with
    | some (r, _, _) => r.imgMask != 0 && r.base != R.TIN_UCODE_CRC.base && (v &&& ~~~r.imgMask) == (r.resetWord &&& ~~~r.imgMask)
    | none => false

/-- Write a register by a record. The words of the microcode store go to the store. -/
def State.imgReg (s : State) (a : Nat) (v : Word) : State :=
  match regAt a with
  | some (r, i, j) =>
    if r.base = R.TIN_UW_LO.base ∨ r.base = R.TIN_UW_MID.base ∨ r.base = R.TIN_UW_HI.base then
      (s.uwWrite i j ((r.base - R.TIN_UW_LO.base) / 4) v).put F.TIN_UCODE_VER_MODIFIED 0
    else if r.base = R.TIN_UW_ECC.base then s.setUword i j { s.uword i j with chk := v.setWidth 8 }
    else if r.base = R.TIN_PORT_SEL.base ∧ i = 4 then s.setReg r (setBits v 31 18 0) i j
    else s.setReg r v i j
  | none => s

/-- The number that the words of a unit spell, word i holding bits 32i + 31 to 32i. -/
def unitNat (ws : List Word) : Nat := ws.foldr (fun w a => w.toNat + 2 ^ 32 * a) 0

/-- Write one unit of a memory (R539). State fields take their reset state; a meter's is full buckets at the TD0 time (R276), which
RELEASE_END takes again. -/
def State.memUnit (s : State) (target u : Nat) (ws : List Word) : State :=
  let m := unitNat ws
  if target = 0x01 then
    let uw : BitVec 96 := BitVec.ofNat 96 m
    (List.range 3).foldl (fun s c => s.setUword c u { uw := uw, chk := uwCheck uw }) s
  else if target < 0x20 then
    let v : Version := { img := m % 2 ^ imgWidth (target - 0x10), tag := 0, settled := true }
    s.setSlot (target - 0x10) u { a := v, b := v }
  else if target = 0x20 then
    let x := writeMeter {} ws true s.now
    s.setMeter u { x with tc := toUnit x.cbs, tp := toUnit x.pbs, tlast := s.now }
  else if target = 0x21 then
    s.setFilter u { maxSdu := min (imageBits ws 13 0) 16000, blockOvs := imageBits ws 14 14 == 1 }
  else if target = 0x22 then
    s.setGate u { sched := imageBits ws 3 0, col := imageBits ws 7 4, adminOpen := imageBits ws 8 8 == 1,
                  schedEn := imageBits ws 9 9 == 1, closeInvEn := imageBits ws 10 10 == 1 }
  else if target = 0x23 then
    let e : SchedEntry := { interval := imageBits ws 31 0, states := imageBits ws 47 32, ipv := imageBits ws 50 48,
                            ipvEn := imageBits ws 51 51 == 1 }
    let x := s.sched (u / 256)
    s.setSched (u / 256) (if s.get F.POL_SGS_STAT_BANK (u / 256) = 0 then { x with bank0 := tabSet {} x.bank0 (u % 256) e }
      else { x with bank1 := tabSet {} x.bank1 (u % 256) e })
  else if target < 0x2D then
    let t := target - 0x28
    let s : State := match t with
      | 0 => s.setPslot u {}
      | 2 => s.setFanout u {}
      | 4 => s.setLink u {}
      | _ => s
    s.pdsStoreEntry t u m
  else if target = 0x30 then
    let e : GclEntry := { interval := imageBits ws 31 0, gates := imageBits ws 39 32, op := imageBits ws 63 62 }
    let p := u / 65536
    let g := s.eg p
    s.setEg p (if s.get F.EGS_GATE_STAT_BANK p = 0 then { g with bank0 := tabSet {} g.bank0 (u % 65536) e }
      else { g with bank1 := tabSet {} g.bank1 (u % 65536) e })
  else s.sramWrite (4 * u) (leBytes 4 m)

/-- Write consecutive units. -/
def State.memUnits (s : State) (target w : Nat) : Nat → List Word → Nat → State
  | _, _, 0 => s
  | u, ws, n + 1 => (s.memUnit target u (ws.take w)).memUnits target w (u + 1) (ws.drop w) n

/-- A record is checked and written (R538); none: it breaks a rule. -/
def State.recordApply (s : State) (type rtype target count addr : Nat) (ws : List Word) : Option State :=
  let w := unitWords target
  if rtype = 0 then (if count = 0 then some s else none)
  else if rtype = 1 then
    if target = 0 ∧ addr % 4 = 0 ∧ (ws.zipIdx.all (fun e => imgRegOk type (addr + 4 * e.2) e.1)) = true then
      some (ws.zipIdx.foldl (fun s e => s.imgReg (addr + 4 * e.2) e.1) s)
    else none
  else if rtype = 2 then
    let n := count / w
    if secMem type target = true ∧ count % w = 0 ∧ (List.range n).all (fun k => unitExists target (addr + k)) = true then
      some (s.memUnits target w addr ws n)
    else none
  else if rtype = 3 then
    let n := (ws.headD 0).toNat
    let last := addr + n - 1
    if secMem type target = true ∧ count = 1 + w
        ∧ (n = 0 ∨ (unitExists target addr = true ∧ unitExists target last = true ∧ (target = 0x30 → addr / 65536 = last / 65536))) then
      some ((List.range n).foldl (fun s k => s.memUnit target (addr + k) ws.tail) s)
    else none
  else none

/-- What the examination of a section has come to: more bytes are needed, a failure with its offset, or the state with its records
applied. -/
inductive SecRes where
  | more
  | bad (err ofs : Nat)
  | ok (s : State)

/-- The records of a section from `pos` on, up to `stop` (R538). -/
def State.sectionApply (s : State) (type : Nat) (b : List Byte) (stop : Nat) : Nat → Nat → SecRes
  | _, 0 => .more
  | pos, n + 1 =>
    if stop ≤ pos then .ok s
    else if b.length < pos + 8 then .more
    else
      let count := beAt b (pos + 2) 2
      let len := 8 + (4 * count + 7) / 8 * 8
      if stop < pos + len then .bad 2 (pos + 7)
      else if b.length < pos + len then .more
      else
        let ws : List Word := (List.range count).map (fun i => BitVec.ofNat 32 (beAt b (pos + 8 + 4 * i) 4))
        let pad := beAt b (pos + 8 + 4 * count) (len - 8 - 4 * count)
        match (if pad = 0 then s.recordApply type (beAt b pos 1) (beAt b (pos + 1) 1) count (beAt b (pos + 4) 4) ws else none) with
        | none => .bad 7 (pos + len - 1)
        | some s => s.sectionApply type b stop (pos + len) n

/-! ## Header and directory (R536, R537) -/

def imgTotal (b : List Byte) : Nat := beAt b 8 4
def imgNsect (b : List Byte) : Nat := beAt b 6 2
def imgFlags (b : List Byte) : Nat := beAt b 0x18 4

/-- The checks of the header: the offset of the byte at which each is made, the failure, and whether it fails. -/
def State.headerChecks (s : State) (b : List Byte) : List (Nat × Nat × Bool) :=
  let t := imgTotal b
  [(3, 1, beAt b 0 4 != 0x58494D47), (5, 2, beAt b 4 2 != 1), (7, 2, imgNsect b == 0 || decide (7 < imgNsect b)),
   (11, 2, t % 16 != 0 || decide (8388608 < t) || decide (t < 64 + 16 * imgNsect b + 256)),
   (15, 3, beAt b 12 3 != 0x726400 || decide ((s.reg R.GLB_ID).toNat % 256 < beAt b 15 1)),
   (23, 2, decide (32 < beAt b 0x14 4)), (27, 2, imgFlags b % 2 ^ 30 / 4 != 0 || imgFlags b % 4 == 3),
   (63, 2, (bytesAt b 0x1C 36).any (fun x => x != 0))]

/-- A directory entry (R537). -/
structure DirEntry where
  type : Nat
  ofs : Nat
  len : Nat
  crc : Nat

def dirEntry (b : List Byte) (i : Nat) : DirEntry :=
  let o := 64 + 16 * i
  { type := beAt b o 2, ofs := beAt b (o + 4) 4, len := beAt b (o + 8) 4, crc := beAt b (o + 12) 4 }

/-- Entry `i` keeps the rules of R537, given where the entry before it ends. -/
def dirOk (b : List Byte) (i : Nat) : Bool :=
  let e := dirEntry b i
  let prev := if i = 0 then ({ type := 0, ofs := 64 + 16 * imgNsect b, len := 0, crc := 0 } : DirEntry) else dirEntry b (i - 1)
  decide (prev.type < e.type ∧ e.type ≤ 7) && beAt b (66 + 16 * i) 2 == 0 && e.ofs % 8 == 0 && e.len % 8 == 0
    && decide (prev.ofs + prev.len ≤ e.ofs) && decide (e.ofs + e.len ≤ imgTotal b - 256)

/-- The sections that must be there (R537). -/
def dirComplete (b : List Byte) : Bool :=
  [1, 2, 3, 5].all (fun t => (List.range (imgNsect b)).any (fun i => (dirEntry b i).type == t))

/-! ## The checks after the last section (R548) -/

/-- P of R211. -/
def State.sharedPool (s : State) : Int :=
  (131072 : Int) - s.get F.SWC_HEADROOM_H - ((List.range 616).foldl (fun a n => a + s.get F.SWC_QRES_RES n) 0 : Nat)

/-- Every lane of an enabled port lies in the port's group, and two such ports share none (R69). -/
def State.laneMapOk (s : State) : Bool :=
  let on := (List.range 72).filter (fun p => s.bit F.PORT_CTRL_ENABLE p)
  on.all (fun p => s.get F.PORT_LANE_LANE p / 4 == p / 4 && portModeOk p (s.reg R.PORT_MODE p)
    && on.all (fun q => q == p || s.get F.PORT_LANE_LANE q != s.get F.PORT_LANE_LANE p))

/-- The regions of the service SRAM that the image places (R548): first byte and end. -/
def State.sramRegions (s : State) : List (Nat × Nat) :=
  let pools := (List.range 8).flatMap (fun k =>
    if s.poolHost k then []
    else [(s.poolBase k, s.poolBase k + s.poolCount k * poolBytes k), (s.poolRing k, s.poolRing k + 4 * s.poolCount k)])
  let rgns := [0, 1].map (fun r => (16 * s.get F.PDS_RGN_BASE_ADDR r, 16 * s.get F.PDS_RGN_TOP_ADDR r))
  (pools ++ rgns).filter (fun e => decide (e.1 < e.2))

def State.sramOk (s : State) : Bool :=
  let l := s.sramRegions
  l.all (fun e => decide (e.2 ≤ sramSize))
    && l.zipIdx.all (fun x => l.zipIdx.all (fun y => x.2 == y.2 || decide (x.1.2 ≤ y.1.1) || decide (y.1.2 ≤ x.1.1)))

/-- The checks of R548. -/
def State.imgChecks (s : State) (forerunner : Bool) : Bool :=
  s.laneMapOk && decide (0 ≤ s.sharedPool) && s.sramOk && ((s.get F.GLB_MODE_PERMIT_PERMIT).testBit 4 == false || forerunner)
    && s.get F.TIN_CFG_CLUSTER_EN != 0

/-! ## Keys (R540, R541, R543) -/

/-- The key hash of a slot, from the fuse shadow. -/
def State.keyHash (s : State) (k : Nat) : Nat := (List.range 12).foldl (fun a i => a * 2 ^ 32 + s.get F.IMG_FUSE_FUSE (12 * k + i)) 0

/-- An open device (R541). -/
def State.openDevice (s : State) : Bool := [0, 1, 2].all (fun k => s.keyHash k == 0)

/-- The public key of an image. -/
def imgPubKey (b : List Byte) : List Byte := bytesAt b (imgTotal b - 252) 97

/-- The bytes that are signed, and the signature block after them (R543). -/
def imgSigned (b : List Byte) : List Byte := b.take (imgTotal b - 256)
def imgSigBlock (b : List Byte) : List Byte := bytesAt b (imgTotal b - 256) 256

/-- The key of the image is accepted (R541). -/
def State.keyOk541 (s : State) (b : List Byte) : Bool :=
  let k := imgFlags b % 4
  s.openDevice
    || (s.keyHash k != 0 && (s.get F.IMG_FUSE_FUSE 36).testBit k == false && s.keyHash k == (sha384 (imgPubKey b)).toNat)

/-- The security version of the device: the 1 bits of fuse word 37. -/
def State.deviceSvn (s : State) : Nat :=
  ((List.range 32).filter (fun i => (s.get F.IMG_FUSE_FUSE 37).testBit i)).length

/-- The signature is valid (R543); the block carries its marker, and 0 where its layout says so. -/
def sigValid (b : List Byte) : Bool :=
  let g := imgSigBlock b
  beAt g 0 4 == 0x58534947 && (bytesAt g 101 3).all (fun x => x == 0) && (bytesAt g 200 56).all (fun x => x == 0)
    && ecdsaP384Verify (imgPubKey b) (sha384 (imgSigned b)) (bytesAt g 104 96)

/-! ## An attempt (R546) -/

/-- What an attempt has come to with the bytes read so far: more bytes are needed, it has failed, or every check before VERIFY has
passed, with the state that the image makes. -/
inductive ImgVerdict where
  | more
  | fail (err ofs : Nat)
  | done (s : State)

/-- The sections from directory entry `i` on, and the checks behind them. -/
def State.imgSections (s : State) (b : List Byte) : Nat → Nat → ImgVerdict
  | i, 0 =>
    let e := dirEntry b (i - 1)
    let t := imgTotal b
    if !s.imgChecks ((imgFlags b).testBit 31) then .fail 8 (e.ofs + e.len - 1)
    else if b.length < t then .more
    else if !s.keyOk541 b then .fail 4 (t - 1)
    else if !s.openDevice ∧ beAt b 0x14 4 < s.deviceSvn then .fail 5 (t - 1)
    else .done s
  | i, n + 1 =>
    let e := dirEntry b i
    match s.sectionApply e.type b (e.ofs + e.len) e.ofs (e.len / 8 + 1) with
    | .more => .more
    | .bad err ofs => .fail err ofs
    | .ok s =>
      if b.length < e.ofs + e.len then .more
      else if (crc32c (bytesAt b e.ofs e.len)).toNat ≠ e.crc then .fail 6 (e.ofs + e.len - 1)
      else s.imgSections b (i + 1) n

/-- Judge the bytes of an attempt in the order in which they are read (R546; log entry 80). -/
def State.imgJudge (s : State) (b : List Byte) : ImgVerdict :=
  match (s.headerChecks b).find? (fun c => decide (c.1 < b.length) && c.2.2) with
  | some c => .fail c.2.1 c.1
  | none =>
    if b.length < 64 then .more
    else
      let n := imgNsect b
      match (List.range n).find? (fun i => decide (64 + 16 * i + 15 < b.length) && !dirOk b i) with
      | some i => .fail 2 (64 + 16 * i + 15)
      | none =>
        if b.length < 64 + 16 * n then .more
        else if !dirComplete b then .fail 2 (63 + 16 * n)
        else s.imgSections b 0 n

/-! ## The loader's transitions (R544) -/

def State.setImg (s : State) (i : ImgState) : State := { s with img := i }

/-- The attempt fails: its ERR field, the offset, and CLEAR. -/
def State.imgFail (s : State) (err ofs : Nat) : State :=
  let src := s.get F.IMG_STAT_SRC
  let s := if src = 1 then s.put F.IMG_STAT_ERR_SLOT0 err else if src = 2 then s.put F.IMG_STAT_ERR_SLOT1 err else s.put F.IMG_STAT_ERR_HOST err
  let s := (s.put F.IMG_ERR_OFS_OFS ofs).put F.IMG_STAT_STATE imgCLEAR
  s.setImg { s.img with bytes := [], next := if src = 1 then imgFLASH else imgWAIT_HOST }

/-- The attempt goes on as its bytes say; `last`: the source has no more bytes. -/
def State.imgProgress (s : State) (last : Bool) : State :=
  match s.imgJudge s.img.bytes with
  | .fail err ofs => s.imgFail err ofs
  | .done _ => s.put F.IMG_STAT_STATE imgVERIFY
  | .more => if last then s.imgFail 10 s.img.bytes.length else s

/-- DISCOVER: the strap sends the loader to WAIT_HOST, or the discovery of R457 completes and slot 0 is read. -/
def State.imgDiscover (s : State) (sfdp : Option Sfdp) : State :=
  if s.episode = true ∨ s.imgState ≠ imgDISCOVER then s
  else if s.bit F.IMG_STAT_BOOT_HOST then s.put F.IMG_STAT_STATE imgWAIT_HOST
  else
    let s := match sfdp with
      | some d => ((((s.put F.MGT_SPI_STAT_SFDP_OK 1).put F.MGT_SPI_STAT_BOOT_OP (if d.dual then 0x3B else 0x0B)).put
          F.MGT_SPI_STAT_BOOT_DUMMY d.dummy.toNat).put F.MGT_SPI_STAT_BOOT_ABYTES (if d.four then 1 else 0))
      | none => ((((s.put F.MGT_SPI_STAT_SFDP_OK 0).put F.MGT_SPI_STAT_BOOT_OP 0x03).put F.MGT_SPI_STAT_BOOT_DUMMY 0).put
          F.MGT_SPI_STAT_BOOT_ABYTES 0).evt F.MGT_EVT_SPI_ERR
    (s.put F.IMG_STAT_STATE imgFLASH).put F.IMG_STAT_SRC 1

/-- FLASH_LOAD_END: the bytes of the slot have been read up to the first failure or to the last byte. A read that meets an SPI fault
fails with SOURCE. -/
def State.flashLoadEnd (s : State) (image : Option (List Byte)) : State :=
  if s.imgState ≠ imgFLASH ∨ s.episode = true then s
  else match image with
    | none => s.imgFail 10 0
    | some b => ((s.setImg { s.img with bytes := b.take (max 12 (imgTotal b)) }).put F.IMG_COUNT_BYTES (min b.length (imgTotal b))).imgProgress true

/-- HOST_LOAD (R545, R554). -/
def State.hostLoad (s : State) (host : Nat) : State :=
  if s.imgState = imgWAIT_HOST ∧ s.bit F.IMG_FUSE_STAT_BUSY = false then
    let s := (((s.put F.IMG_STAT_STATE imgHOST).put F.IMG_STAT_HOST host).put F.IMG_STAT_SRC 3).put F.IMG_COUNT_BYTES 0
    s.setImg { s.img with bytes := [], lastByte := s.inv.ticks }
  else s

/-- ABORT by the owning host, in HOST or in the VERIFY of its load (R545, R554). -/
def State.imgAbort (s : State) (host : Nat) : State :=
  let st := s.imgState
  if (st = imgHOST ∨ (st = imgVERIFY ∧ s.get F.IMG_STAT_SRC = 3)) ∧ s.get F.IMG_STAT_HOST = host then s.imgFail 11 s.img.bytes.length else s

/-- A write of IMG_CTRL (R545): every other write is ignored. -/
def State.imgCtrl (s : State) (host key op : Nat) : State :=
  if key ≠ 0x5A then s else if op = 1 then s.hostLoad host else if op = 2 then s.imgAbort host else s

/-- IMAGE_BYTES: the oldest bytes of SPACE 2 reach the loader (R545). -/
def State.imageBytes (s : State) : State :=
  match s.img.inbox with
  | [] => s
  | (host, b) :: rest =>
    let s := s.setImg { s.img with inbox := rest }
    if s.imgState ≠ imgHOST ∨ s.get F.IMG_STAT_HOST ≠ host then s.evtIf (!b.isEmpty) F.IMG_EVT_DISCARD
    else
      let all := s.img.bytes ++ b
      let kept := if all.length < 12 then all else all.take (max 12 (imgTotal all))
      let n := kept.length - s.img.bytes.length
      let s := s.evtIf (decide (n < b.length)) F.IMG_EVT_DISCARD
      let s := s.setImg { s.img with bytes := kept, accepted := s.img.accepted + n, lastByte := if n = 0 then s.img.lastByte else s.inv.ticks }
      (s.put F.IMG_COUNT_BYTES kept.length).imgProgress false

/-- HOST_LOAD_TIMEOUT: no byte for 1 s. -/
def State.hostLoadTimeout (s : State) : State :=
  if s.imgState = imgHOST ∧ s.img.lastByte + 500000000 ≤ s.inv.ticks then s.imgFail 10 s.img.bytes.length else s

/-- VERIFY_END: the signature is valid or not (R543). -/
def State.verifyEnd (s : State) : State :=
  if s.imgState ≠ imgVERIFY ∨ s.episode = true then s
  else if sigValid s.img.bytes then s.put F.IMG_STAT_STATE imgRELEASE
  else s.imgFail 9 (imgTotal s.img.bytes - 1)

/-- CLEAR_END. -/
def State.clearEnd (s : State) : State :=
  if s.imgState ≠ imgCLEAR ∨ s.episode = true then s
  else ((s.put F.IMG_STAT_STATE s.img.next).put F.IMG_STAT_SRC (if s.img.next = imgFLASH then 2 else 0)).evt F.IMG_EVT_LOAD_FAIL

/-- What follows from the values that an image or a patch has written: extensions of initial lists (R259, R281), ports that it enables
(R83), the cycle generator that it starts (R324), the pool P (R211). `before`: the state before. -/
def State.imgEffects (s before : State) : State :=
  let s := (List.range 72).foldl (fun s p =>
    let ext := s.get F.EGS_GATE_ADM_EXT_EXT p
    let s := if ext = before.get F.EGS_GATE_ADM_EXT_EXT p then s else s.setEg p { s.eg p with ext := ext }
    let s := if s.bit F.PORT_CTRL_ENABLE p && !before.bit F.PORT_CTRL_ENABLE p then s.bringUp p else s
    if s.reg R.PORT_CTRL p = before.reg R.PORT_CTRL p ∧ s.reg R.PORT_MM_CFG p = before.reg R.PORT_MM_CFG p then s else s.mmShow p) s
  let s := (List.range 16).foldl (fun s k =>
    let ext := s.get F.POL_SGS_ADM_EXT_EXT k
    if ext = before.get F.POL_SGS_ADM_EXT_EXT k then s else s.setSched k { s.sched k with ext := ext }) s
  let s := s.put F.SWC_POOL_P (max 0 s.sharedPool).toNat
  if s.bit F.INV_CYC_CTRL_EN && !before.bit F.INV_CYC_CTRL_EN then s.cycStart else s

/-- The CRC of the microcode (R130). -/
def State.ucodeCrc (s : State) : Nat :=
  (crc32 ((List.range 4096).flatMap (fun a => beBytes 12 (s.uword 0 a).uw.toNat))).toNat

/-- The identity that DONE shows (R544, R556). -/
def State.imgIdentity (s : State) (b : List Byte) : State :=
  let d := (sha384 (imgSigned b)).toNat
  let s := ((s.setReg R.IMG_VER (BitVec.ofNat 32 (beAt b 0x10 4))).put F.IMG_SVN_SVN (beAt b 0x14 4)).put F.IMG_LEN_LEN (imgTotal b)
  let s := (s.put F.IMG_INFO_FORERUNNER (imgFlags b / 2 ^ 31)).put F.IMG_INFO_ALLOW_PATCH (imgFlags b / 2 ^ 30 % 2)
  let s := (s.put F.IMG_INFO_KEY_IDX (imgFlags b % 4)).put F.IMG_INFO_NSECT (imgNsect b)
  let s := (List.range 12).foldl (fun s k => s.put F.IMG_DIGEST_DIGEST (d >>> (32 * (11 - k))) k) s
  (s.put F.IMG_STAT_OPEN (if s.openDevice then 1 else 0)).put F.TIN_UCODE_CRC_CRC s.ucodeCrc

/-- RELEASE_END: every field takes its loaded value, DONE is reached, and the forced transition to the initial mode is accepted
(R544). -/
def State.releaseEnd (s : State) : State :=
  if s.imgState ≠ imgRELEASE ∨ s.episode = true then s
  else
    let b := s.img.bytes
    let before := s
    let s := match s.imgJudge b with
      | .done t => t
      | _ => s
    let s := (s.imgEffects before).egsFill.polFresh.poolsBuild
    let s := s.imgIdentity b
    let s := (s.setImg { s.img with bytes := [] }).put F.IMG_STAT_STATE imgDONE
    (s.evt F.IMG_EVT_LOAD_DONE).initialMode

/-! ## Patches (R550 to R552) -/

/-- The first write of PATCH_EN locks it (R550). -/
def State.patchEn (s : State) (en : Bool) : State :=
  if s.img.patchLocked then s
  else
    let on := en && s.bit F.IMG_INFO_ALLOW_PATCH && s.loaded
    (s.put F.IMG_CFG_PATCH_EN (if on then 1 else 0)).setImg { s.img with patchLocked := true }

/-- The section whose records may write a register, or a memory. -/
def sectionOf (rtype target addr : Nat) : Nat :=
  if rtype = 1 then (([1, 2, 3, 4, 5, 6, 7].find? (fun t => (secBlocks t).contains (blockAt addr).base)).getD 0)
  else (([1, 2, 3, 4, 5, 6, 7].find? (fun t => secMem t target)).getD 0)

/-- A register that R552 lets no patch change. -/
def patchProtected (a : Nat) : Bool :=
  (blockAt a).base == 0xA0000 || (blockAt a).base == 0x90000 || a == R.GLB_WMASK_HA.base || a == R.GLB_WMASK_HB.base
    || a == R.GLB_MODE_PERMIT.base || a == R.GLB_CFG.base

/-- A record may be patched (R552). A patch of TWN_CTRL keeps SIDE. -/
def State.patchable (s : State) (rtype target addr : Nat) (ws : List Word) : Bool :=
  if rtype = 1 then
    target == 0 && ws.zipIdx.all (fun e =>
      let a := addr + 4 * e.2
      !patchProtected a && (match regAt a with | some (r, _, _) => r.imgMask != 0 | none => false)
        && (a != R.TWN_CTRL.base || getBits e.1 0 0 == s.get F.TWN_CTRL_SIDE))
  else target != 1 && sectionOf 2 target addr != 0

/-- The status of a patch (R551) before it is carried out. -/
def State.patchStatus (s : State) (nwords : Nat) (w0 addr : Nat) (ws : List Word) : Nat :=
  let rtype := w0 / 2 ^ 24
  let target := w0 / 2 ^ 16 % 256
  let count := w0 % 2 ^ 16
  if !s.bit F.IMG_CFG_PATCH_EN then 1
  else if (rtype ≠ 1 ∧ rtype ≠ 2) ∨ nwords ≠ 2 + count ∨ nwords < 3 ∨ 16 < nwords
      ∨ (rtype = 2 ∧ sectionOf 2 target addr ≠ 0 ∧ count ≠ unitWords target) then 2
  else if !s.patchable rtype target addr ws then 3
  else if s.mode ≠ modeLOAD ∧ (rtype = 1 ∨ 0x20 ≤ target) then 4
  else if rtype = 2 ∧ target < 0x20 ∧ s.role ≠ roleOFF then 5
  else if s.get F.IMG_PATCH_CNT_COUNT = 256 then 6
  else 0

/-- CRC-32C that goes on from a running value (R551). -/
def crc32cFrom (c : BitVec 32) (l : List Byte) : BitVec 32 := ~~~ (crcBytes (0x82F63B78 : BitVec 32) (~~~ c) l)

/-- A patch that has passed is logged (R551). -/
def State.patchLog (s : State) (host : Nat) (staged : Bool) (words : List Word) : State :=
  let bytes := words.flatMap (fun w => beBytes 4 w.toNat)
  let w0 := (words.headD 0).toNat
  let a := 2 ^ 31 + host * 2 ^ 30 + (if staged then 2 ^ 29 else 0) + (w0 / 2 ^ 16 % 256) * 2 ^ 16 + (w0 / 2 ^ 24) * 2 ^ 8 + w0 % 256
  let e : PatchLog := { a := BitVec.ofNat 32 a, b := words[1]?.getD 0, c := crc32c bytes, d := BitVec.ofNat 32 (ts40 s.now) }
  let s := (s.inc F.IMG_PATCH_CNT_COUNT).setReg R.IMG_PATCH_CRC (crc32cFrom (s.reg R.IMG_PATCH_CRC) bytes)
  let s := (s.setImg { s.img with log := s.img.log ++ [e] }).put F.IMG_STAT_PATCHED 1
  (s.put F.IMG_PATCH_STAT_STATUS 0).evt F.IMG_EVT_PATCH_DONE

def State.patchRefuse (s : State) (status : Nat) : State := (s.put F.IMG_PATCH_STAT_STATUS status).evt F.IMG_EVT_PATCH_ERR

/-- A write of IMG_PATCH_CMD (R551). -/
def State.patchCmd (s : State) (host key nwords : Nat) : State :=
  if key ≠ 0x5A then s.evt F.IMG_EVT_PATCH_ERR
  else
    let words : List Word := (List.range (min nwords 16)).map (fun i => s.reg R.IMG_PATCH_DATA i)
    let w0 := (s.reg R.IMG_PATCH_DATA 0).toNat
    let addr := (s.reg R.IMG_PATCH_DATA 1).toNat
    let ws := words.drop 2
    let rtype := w0 / 2 ^ 24
    let target := w0 / 2 ^ 16 % 256
    let st := s.patchStatus nwords w0 addr ws
    if st ≠ 0 then s.patchRefuse st
    else if s.mode = modeLOAD then
      match s.recordApply (sectionOf rtype target addr) rtype target (w0 % 2 ^ 16) addr ws with
      | none => s.patchRefuse 7
      | some t =>
        if !t.imgChecks (s.bit F.IMG_INFO_FORERUNNER) then s.patchRefuse 7
        else
          let t := t.imgEffects s
          let t := if rtype = 1 ∧ (blockAt addr).base = 0x60000 then t.poolsBuild else t
          t.patchLog host false words
    else
      let (r, t) := s.lkpDo 2 (target - 0x10) addr false (unitNat ws)
      if r.status = 0 then t.patchLog host true words
      else if r.status = 8 then t.patchRefuse 8
      else t.patchRefuse 7

/-- The words of the patch log entry that IMG_PATCH_LOG_SEL shows. -/
def State.patchLogWord (s : State) (k : Nat) : Word :=
  match s.img.log[s.get F.IMG_PATCH_LOG_SEL_ENTRY]? with
  | none => 0
  | some e => match k with | 0 => e.a | 1 => e.b | 2 => e.c | _ => e.d

/-! ## Fuses (R542) -/

/-- A write of IMG_FUSE_CMD. -/
def State.fuseCmd (s : State) (key word : Nat) : State :=
  if key ≠ 0x5A then s
  else if s.mode ≠ modeLOAD ∨ (s.imgState ≠ imgWAIT_HOST ∧ s.imgState ≠ imgDONE) ∨ s.bit F.IMG_FUSE_STAT_VPP = false ∨ 39 ≤ word then
    s.put F.IMG_FUSE_STAT_STATUS 1
  else (s.put F.IMG_FUSE_STAT_BUSY 1).setImg { s.img with fusing := some (word, s.reg R.IMG_FUSE_DATA) }

/-- FUSE_DONE: the word is read back. The shadow keeps its value until the next POWER_ON or SYSTEM episode. -/
def State.fuseDone (s : State) (readBack : Word) : State :=
  match s.img.fusing with
  | none => s
  | some (w, bits) =>
    let old := tabGet 0 s.img.fuses w
    let now := old ||| (bits &&& readBack)
    let s := s.setImg { s.img with fuses := tabSet 0 s.img.fuses w now, fusing := none }
    ((s.put F.IMG_FUSE_STAT_BUSY 0).put F.IMG_FUSE_STAT_STATUS (if (bits &&& ~~~readBack) = 0 then 0 else 2)).evt F.IMG_EVT_FUSE_DONE

end Sys2Proof.Machine
end

