-- ==== Sys2Proof/Machine/MgtOps.lean ====
section
/-! DEFINITION. The host ports' own state (semaphores, doorbells, interrupts) and the management interfaces: SPI, I2C, MDIO, watchdog,
temperature and TAP (15_host_ports_and_registers.md R433 to R463). -/

namespace Sys2Proof.Machine

/-! ## Semaphores (R438 to R440) -/

/-- A read of a semaphore: it claims a free one. -/
def State.semRead (s : State) (host n : Nat) : Word × State :=
  if s.get F.GLB_SEM_OWNER n = 0 then
    let s := (s.put F.GLB_SEM_OWNER (host + 1) n).put F.GLB_SEM_TAG 0 n
    (s.reg R.GLB_SEM n ||| 0x80000000, s)
  else (s.reg R.GLB_SEM n &&& 0x7FFFFFFF, s)

/-- A write of a semaphore: TAG and RELEASE by the owner only. -/
def State.semWrite (s : State) (host n : Nat) (w : Word) : State :=
  let mine := s.get F.GLB_SEM_OWNER n == host + 1
  let s := if mine then s.put F.GLB_SEM_TAG (getBits w 15 0) n else s
  if getBits w 16 16 = 0 then s
  else if mine then (s.put F.GLB_SEM_OWNER 0 n).evt F.GLB_SEM_EVT_RELEASED
  else s.evt F.GLB_SEM_EVT_WRONG_REL

/-- Every semaphore of a host is released (R440). -/
def State.semAuto (s : State) (host : Nat) : State :=
  (List.range 64).foldl (fun s n =>
    if s.get F.GLB_SEM_OWNER n = host + 1 then (s.put F.GLB_SEM_OWNER 0 n).evt2 F.GLB_SEM_EVT_RELEASED F.GLB_SEM_EVT_AUTO_REL else s) s

/-- GLB_SEM_OWNk: two bits of owner for each of 16 semaphores. -/
def State.semOwn (s : State) (k : Nat) : Word :=
  BitVec.ofNat 32 ((List.range 16).foldl (fun a i => a + s.get F.GLB_SEM_OWNER (16 * k + i) * 4 ^ i) 0)

/-! ## Doorbells and interrupts (R451 to R453) -/

/-- The state of a host's port, and how it changes. -/
def State.hostPort (s : State) (host : Nat) : HostPort := if host = 0 then s.ha else s.hb
def State.setHost (s : State) (host : Nat) (x : HostPort) : State := if host = 0 then { s with ha := x } else { s with hb := x }

/-- A write of GLB_DOORBELL sets doorbells of the other host (R453). -/
def State.doorbell (s : State) (host ring : Nat) : State :=
  let o := 1 - host
  if ring = 0 then s
  else
    let s := (s.put F.GLB_DB_STAT_DB (s.get F.GLB_DB_STAT_DB o ||| ring) o).incWrap F.GLB_DB_STAT_SEQ o
    s.setHost o ((List.range 8).foldl (fun (x : HostPort) i => if ring.testBit i then x.arm (56 + i) else x) (s.hostPort o))

/-- A source is pending while any bit [23:0] of its event register is set. -/
def pendingWord (w : Word) : Bool := getBits w 23 0 != 0

/-- A vector of a host is pending (R451). -/
def State.vectorPending (s : State) (host v : Nat) : Bool :=
  if 56 ≤ v then (s.get F.GLB_DB_STAT_DB host).testBit (v - 56)
  else if 52 ≤ v then false
  else if 43 ≤ v then (List.range 8).any (fun i => pendingWord (s.reg R.EGS_EVT (8 * (v - 43) + i)))
  else if 34 ≤ v then (List.range 8).any (fun i => pendingWord (s.reg R.PORT_EVT (8 * (v - 34) + i)))
  else if 16 ≤ v ∧ v < 32 then pendingWord (s.reg R.DMA_CH_EVT (v - 16))
  else match vectorSources.find? (fun e => e.2 == v) with
    | some e => pendingWord (s.reg e.1)
    | none => false

/-- GLB_INT_PEND and the vectors of a host, as 32 bits from vector 32 × k. -/
def State.intPend (s : State) (host k : Nat) : Word :=
  BitVec.ofNat 32 ((List.range 32).foldl (fun a i => if s.vectorPending host (32 * k + i) then a + 2 ^ i else a) 0)

/-- The PBA bit of a vector. -/
def State.pba (s : State) (host v : Nat) : Bool := (s.get F.MSIX_PBA_PBA (v / 32) host).testBit (v % 32)
def State.setPba (s : State) (host v : Nat) (b : Bool) : State := s.putBit F.MSIX_PBA_PBA (v % 32) b (v / 32) host

/-- A vector has sent its message, or its PBA bit is 1. -/
def State.vectorBusy (s : State) (host v : Nat) : Bool := (s.hostPort host).sent.testBit v || s.pba host v

/-- One vector of one host: if it has stopped being pending, it is armed again and its PBA bit clears (R452). -/
def State.vectorSettle (s : State) (host v : Nat) : State :=
  if s.vectorBusy host v && !s.vectorPending host v then (s.setHost host ((s.hostPort host).arm v)).setPba host v false else s

/-- Every vector of both hosts. -/
def State.vectorsSettle (s : State) : State :=
  (List.range 64).foldl (fun s v => s.vectorSettle 1 v) ((List.range 64).foldl (fun s v => s.vectorSettle 0 v) s)

/-- The function and the entry of a vector let its message go. -/
def State.messageAllowed (s : State) (host v : Nat) (enabled masked : Bool) : Bool :=
  enabled && !masked && !s.bit F.MSIX_CTRL_MASKED v host && !(s.hostPort host).d3

/-- The message of a vector is sent (R452): a posted write to the address of its entry. -/
def State.sendMessage (s : State) (host v : Nat) : State :=
  let x := s.hostPort host
  let s := s.setHost host { x with sent := x.sent ||| 2 ^ v, lastMsg := tabInsert v s.inv.ticks x.lastMsg }
  (s.setPba host v false).emit
    (.message host v (s.get F.MSIX_ADDR_LO_ADDR v host + 2 ^ 32 * s.get F.MSIX_ADDR_HI_ADDR v host) (s.reg R.MSIX_DATA v host))

/-- MSIX_MESSAGE: a pending and armed vector whose hold-off has run out sends its message or sets its PBA bit. -/
def State.msixMessage (s : State) (host v : Nat) (enabled masked : Bool) : State :=
  let x := s.hostPort host
  let free := match tabFind? v x.lastMsg with
    | some t => decide (t + 500 * s.get F.GLB_INT_CFG_HOLDOFF host ≤ s.inv.ticks)
    | none => true
  if s.vectorPending host v && !x.sent.testBit v && free then
    if s.messageAllowed host v enabled masked then s.sendMessage host v else s.setPba host v true
  else s

/-- MSIX_UNMASK: software clears the mask of an entry, or of the function; a vector whose PBA bit is 1 sends its message. -/
def State.msixUnmask (s : State) (host v : Nat) (enabled masked : Bool) : State :=
  let s := s.put F.MSIX_CTRL_MASKED 0 v host
  if s.pba host v && s.vectorPending host v && s.messageAllowed host v enabled masked then s.sendMessage host v else s

/-! ## Events of a host link (R433, R583) -/

/-- The fields of GLB_HOST_STAT of a host. -/
def hostUp (host : Nat) : Fld := if host = 0 then F.GLB_HOST_STAT_HA_UP else F.GLB_HOST_STAT_HB_UP
def hostWidth (host : Nat) : Fld := if host = 0 then F.GLB_HOST_STAT_HA_WIDTH else F.GLB_HOST_STAT_HB_WIDTH
def hostSpeed (host : Nat) : Fld := if host = 0 then F.GLB_HOST_STAT_HA_SPEED else F.GLB_HOST_STAT_HB_SPEED
def hostL1 (host : Nat) : Fld := if host = 0 then F.GLB_HOST_STAT_HA_L1 else F.GLB_HOST_STAT_HB_L1

/-- The link of a host is down: its status fields read 0. -/
def State.hostLinkDown (s : State) (host : Nat) : State :=
  (((s.put (hostUp host) 0).put (hostWidth host) 0).put (hostSpeed host) 0).put (hostL1 host) 0

/-- An access of a host: its link is up. The width and the speed to which it has trained are free values (log entry 100). -/
def State.hostSeen (s : State) (host : Nat) : State :=
  if s.bit (hostUp host) then (if s.bit (hostL1 host) then s.put (hostL1 host) 0 else s)
  else
    let (w, s) := s.draw 1
    let (v, s) := s.draw 2
    (((s.put (hostUp host) 1).put (hostWidth host) (1 + w.toNat)).put (hostSpeed host) (1 + v.toNat % 3)).put (hostL1 host) 0

/-- The port state of a host is cleared (R433). -/
def State.hostClear (s : State) (host : Nat) : State :=
  let s := (s.put F.GLB_INT_CFG_HOLDOFF 0 host).setReg R.GLB_DB_STAT 0 host
  let s := (List.range 64).foldl (fun s v => (((s.setReg R.MSIX_ADDR_LO 0 v host).setReg R.MSIX_ADDR_HI 0 v host).setReg
    R.MSIX_DATA 0 v host).setReg R.MSIX_CTRL R.MSIX_CTRL.resetWord v host) s
  ((s.setReg R.MSIX_PBA 0 0 host).setReg R.MSIX_PBA 0 1 host).setHost host {}

/-- FLR (0), hot reset (1) or link down (2) of a host. -/
def State.hostLinkReset (s : State) (host cause : Nat) : State :=
  let s := (((s.hostClear host).dmaLinkDown host).bpmHostGone host).semAuto host
  if cause = 0 then s else s.hostLinkDown host

/-- A host enters D3hot: messages are suppressed and its channels pause (R433, R485). -/
def State.hostD3 (s : State) (host : Nat) : State :=
  let s := s.dmaD3 host
  s.setHost host { s.hostPort host with d3 := true }

/-! ## SPI (R458) -/

/-- A command runs, or the loader owns the flash. -/
def State.spiBusy (s : State) : Bool := s.mode == modeLOAD || s.mgt.spi.isSome

def spiLen (w : Word) : Nat := min (getBits w 24 16) 256
def spiAbytes (w : Word) : Nat := if getBits w 10 8 = 3 then 3 else if getBits w 10 8 = 4 then 4 else 0

/-- The first bytes of the buffer. -/
def State.spiBuf (s : State) (n : Nat) : List Byte :=
  ((List.range ((n + 3) / 4)).flatMap (fun i => leBytes 4 (s.get F.MGT_SPI_BUF_DATA i))).take n

/-- Put bytes into the buffer, byte 0 in bits [7:0] of the first word. -/
def State.spiStore (s : State) (b : List Byte) : State :=
  b.zipIdx.foldl (fun s e =>
    let k := 8 * (e.2 % 4)
    s.setReg R.MGT_SPI_BUF (setBits (s.reg R.MGT_SPI_BUF (e.2 / 4)) (k + 7) k e.1.toNat) (e.2 / 4)) s

/-- An accepted write of MGT_SPI_CMD. -/
def State.spiCmd (s : State) (w : Word) : State :=
  let a := s.get F.MGT_SPI_ADDR_ADDR
  let write := getBits w 25 25 == 1
  let sent := BitVec.ofNat 8 (getBits w 7 0) :: beBytes (spiAbytes w) a ++ (if write then s.spiBuf (spiLen w) else [])
  let s := s.setReg R.MGT_SPI_CMD (w &&& 0x03FFFFFF)
  { s with mgt := { s.mgt with spi := some (w, s.reg R.MGT_SPI_ADDR) } }.emit
    (.spi sent (getBits w 15 11) (if write then 0 else spiLen w))

/-- SPI_DONE: the command completes; `data` is what the flash returned. -/
def State.spiDone (s : State) (data : List Byte) : State :=
  match s.mgt.spi with
  | none => s
  | some (w, _) =>
    let s := if getBits w 25 25 = 0 then s.spiStore (data.take (spiLen w)) else s
    { s with mgt := { s.mgt with spi := none } }.evt F.MGT_EVT_SPI_DONE

/-- MGT_SPI_STAT as it reads. -/
def State.spiStat (s : State) : Word :=
  let w := setBits (s.reg R.MGT_SPI_STAT) 31 31 (if s.spiBusy then 1 else 0)
  setBits w 30 30 (if s.mode = modeLOAD then 1 else 0)

/-! ## MDIO (R460) -/

/-- The frame reads. -/
def mdioReads (w : Word) : Bool := if getBits w 29 29 = 1 then decide (2 ≤ getBits w 28 27) else getBits w 28 27 == 2

/-- An accepted write of MGT_MDIO_CMD. The frame's start code is 1 for Clause 22 and 0 for Clause 45. -/
def State.mdioCmd (s : State) (w : Word) : State :=
  let s := (s.setReg R.MGT_MDIO_CMD (w &&& 0xFFFEFFFF)).put F.MGT_MDIO_STAT_BUSY 1
  { s with mgt := { s.mgt with mdio := some w } }.emit
    (.mdio (getBits w 31 30) (1 - getBits w 29 29) (getBits w 28 27) (getBits w 26 22) (getBits w 21 17) (getBits w 15 0))

/-- MDIO_DONE: the frame is complete. `data`: what was sampled on a read; `ta`: the PHY did not drive the turnaround bit low. -/
def State.mdioDone (s : State) (data : Nat) (ta : Bool) : State :=
  match s.mgt.mdio with
  | none => s
  | some w =>
    let s := if mdioReads w then (s.put F.MGT_MDIO_STAT_RDATA data).put F.MGT_MDIO_STAT_TA_ERR (if ta then 1 else 0) else s
    ({ s with mgt := { s.mgt with mdio := none } }.put F.MGT_MDIO_STAT_BUSY 0).evt F.MGT_EVT_MDIO_DONE

/-! ## I2C (R459) -/

/-- I2C_WRITE: four bytes of offset set the pointer; four data bytes are written if it names MGT_I2C_MBOX_IN. -/
def State.i2cWrite (s : State) (b : List Byte) : State :=
  if b.length < 4 then s
  else
    let p := beAt b 0 4
    let s := { s with mgt := { s.mgt with i2cPtr := p } }
    if 8 ≤ b.length ∧ p = R.MGT_I2C_MBOX_IN.base then (s.put F.MGT_I2C_MBOX_IN_DATA (beAt b 4 4)).evt F.MGT_EVT_MBOX_IN else s

/-! ## Watchdog and temperature (R462, R603) -/

/-- The count restarts from TIMEOUT. -/
def State.wdtRestart (s : State) : State :=
  { s.put F.MGT_WDT_LEFT_LEFT (s.get F.MGT_WDT_CFG_TIMEOUT) with mgt := { s.mgt with warned := false } }

/-- The fields of a write of MGT_WDT_CFG: EN is WOL, TIMEOUT and WARN are RWE with EN as their enable. The flags are the caller's. -/
def State.wdtCfg (s : State) (w : Word) : State :=
  let was := s.bit F.MGT_WDT_CFG_EN
  let s := if was then s
    else (s.put F.MGT_WDT_CFG_WARN (getBits w 23 16)).put F.MGT_WDT_CFG_TIMEOUT (max 1 (getBits w 15 0))
  if s.mgt.wdtLocked then s
  else
    let s := { s.put F.MGT_WDT_CFG_EN (getBits w 31 31) with mgt := { s.mgt with wdtLocked := true } }
    if getBits w 31 31 = 1 then s.wdtRestart else s

/-- A write of MGT_WDT_KICK. -/
def State.wdtKick (s : State) (key : Nat) : State :=
  if key = 0x5A ∧ s.bit F.MGT_WDT_CFG_EN = true then s.wdtRestart else s

/-- A millisecond step of the count. -/
def State.wdtStep (s : State) : State :=
  if s.inv.ticks % 500000 = 0 ∧ s.bit F.MGT_WDT_CFG_EN = true ∧ s.mode ≠ modePEWTER then s.dec F.MGT_WDT_LEFT_LEFT else s

/-- WDT_WARN: the count has reached WARN. -/
def State.wdtWarn (s : State) : State :=
  let w := s.get F.MGT_WDT_CFG_WARN
  if s.bit F.MGT_WDT_CFG_EN = true ∧ w ≠ 0 ∧ s.get F.MGT_WDT_LEFT_LEFT = w ∧ s.mgt.warned = false then
    { s.evt F.MGT_EVT_WDT_WARN with mgt := { s.mgt with warned := true } }
  else s

/-- WDT_EXPIRE: the count has reached 0. -/
def State.wdtExpire (s : State) : State :=
  if s.bit F.MGT_WDT_CFG_EN = true ∧ s.get F.MGT_WDT_LEFT_LEFT = 0 then s.rstDue 2 else s

/-- TEMP_ALARM: the junction temperature is measured, and has reached ALARM or not. -/
def State.tempAlarm (s : State) (tj : Nat) : State :=
  let s := s.put F.MGT_TEMP_TJ tj
  s.evtIf (decide (signed 12 (s.get F.MGT_TEMP_ALARM) ≤ signed 12 tj)) F.MGT_EVT_TEMP_HI

/-! ## TAP (R461) -/

/-- The next state of the TAP controller (IEEE 1149.1). -/
def TapFsm.next (f : TapFsm) (tms : Bool) : TapFsm :=
  match f with
  | .testLogicReset => if tms then .testLogicReset else .runTestIdle
  | .runTestIdle => if tms then .selectDr else .runTestIdle
  | .selectDr => if tms then .selectIr else .captureDr
  | .captureDr => if tms then .exit1Dr else .shiftDr
  | .shiftDr => if tms then .exit1Dr else .shiftDr
  | .exit1Dr => if tms then .updateDr else .pauseDr
  | .pauseDr => if tms then .exit2Dr else .pauseDr
  | .exit2Dr => if tms then .updateDr else .shiftDr
  | .updateDr => if tms then .selectDr else .runTestIdle
  | .selectIr => if tms then .testLogicReset else .captureIr
  | .captureIr => if tms then .exit1Ir else .shiftIr
  | .shiftIr => if tms then .exit1Ir else .shiftIr
  | .exit1Ir => if tms then .updateIr else .pauseIr
  | .pauseIr => if tms then .exit2Ir else .pauseIr
  | .exit2Ir => if tms then .updateIr else .shiftIr
  | .updateIr => if tms then .selectDr else .runTestIdle

/-- The instructions of R461. -/
def tapPublic (ir : Nat) : Bool := ir == 0x00 || ir == 0x01 || ir == 0x02 || ir == 0x08 || ir == 0x09 || ir == 0xFF

/-- The instruction that acts: with the TAP lock blown, a debug instruction acts as BYPASS. -/
def State.tapIr (s : State) : Nat := if s.bit F.MGT_TAP_STAT_LOCKED && !tapPublic s.tap.ir then 0xFF else s.tap.ir

/-- Bits of a number, least significant first. -/
def bitsOf (n v : Nat) : List Bool := (List.range n).map (fun i => v.testBit i)
def natOfBits (l : List Bool) : Nat := l.foldr (fun b a => (if b then 1 else 0) + 2 * a) 0

/-- What Capture-DR loads. -/
def State.tapCapture (s : State) (cells : List Bool) : List Bool :=
  let ir := s.tapIr
  if ir = 0x01 then bitsOf 32 0x17264DE3
  else if ir = 0x00 ∨ ir = 0x02 then cells
  else [false]

/-- A shift register moves by one: its first bit leaves. -/
def shiftBits (l : List Bool) (b : Bool) : List Bool := l.drop 1 ++ [b]

/-- What the instruction in force drives onto the balls. -/
def State.tapDrive (s : State) : State :=
  let ir := s.tapIr
  if ir = 0x00 ∨ ir = 0x09 then s.emit (.boundary (some s.tap.boundary))
  else if ir = 0x08 then s.emit (.boundary none)
  else s

/-- TAP_TCK_EDGE: a rising edge of TCK with the levels of TMS and TDI; `trst`: TRST_N is low. `cells` are the levels that the cells of
the boundary register would capture, the one next to TDO first. -/
def State.tapEdge (s : State) (tms tdi trst : Bool) (cells : List Bool) : State :=
  if trst then { s with tap := { s.tap with fsm := .testLogicReset, ir := 0x01 } }
  else
    let t := s.tap
    let s : State := match t.fsm with
      | .captureDr => { s with tap := { t with drShift := s.tapCapture cells } }
      | .shiftDr =>
        if tapPublic s.tapIr then
          ({ s with tap := { t with drShift := shiftBits t.drShift tdi } }).emit (.pin "TDO" (t.drShift.headD false))
        else
          let (b, s) := s.draw 1
          s.emit (.pin "TDO" (b.getLsbD 0))
      | .captureIr => { s with tap := { t with irShift := bitsOf 8 0x01 } }
      | .shiftIr => ({ s with tap := { t with irShift := shiftBits t.irShift tdi } }).emit (.pin "TDO" (t.irShift.headD false))
      | _ => s
    let f := t.fsm.next tms
    let s := { s with tap := { s.tap with fsm := f } }
    match f with
    | .testLogicReset => { s with tap := { s.tap with ir := 0x01 } }
    | .updateIr => ({ s with tap := { s.tap with ir := natOfBits s.tap.irShift } }).tapDrive
    | .updateDr => if s.tapIr = 0x00 ∨ s.tapIr = 0x02 then ({ s with tap := { s.tap with boundary := s.tap.drShift } }).tapDrive else s
    | _ => s

end Sys2Proof.Machine
end

