-- ==== Sys2Proof/Machine/PmcOps.lean ====
section
/-! DEFINITION. Counters and telemetry (18_counters_and_telemetry.md): event counters, the time ledger, and dumps. -/

namespace Sys2Proof.Machine

def State.setPmc (s : State) (p : PmcState) : State := { s with pmc := p }

/-! ## Event counters (R517 to R521) -/

/-- The value of counter `n`. -/
def State.pmcCnt (s : State) (n : Nat) : Nat := s.get F.PMC_CNT_LO_COUNT n + 2 ^ 32 * s.get F.PMC_CNT_HI_COUNT n

/-- Set counter `n`, modulo 2^48. -/
def State.setPmcCnt (s : State) (n v : Nat) : State :=
  (s.put F.PMC_CNT_LO_COUNT (v % 2 ^ 32) n).put F.PMC_CNT_HI_COUNT (v / 2 ^ 32) n

/-- The instances that an event has (R520); none where the event is not in the table. A source without instances ignores INST. -/
def eventInsts (e : Nat) : Option Nat :=
  if e = 0x01 ∨ e = 0x02 ∨ e = 0x41 ∨ e = 0x43 ∨ e = 0x44 then some 2
  else if e = 0x03 ∨ e = 0x42 then some 3
  else if e = 0x04 ∨ e = 0x05 ∨ e = 0x45 ∨ e = 0x46 then some 616
  else if e = 0x08 ∨ e = 0x09 ∨ (0x48 ≤ e ∧ e ≤ 0x4D) then some 72
  else if e = 0x0C then some 8
  else if e = 0x47 then some 0x42
  else if e = 0x4F then some 4
  else if e = 0x06 ∨ e = 0x07 ∨ e = 0x0A ∨ e = 0x0B ∨ e = 0x40 ∨ e = 0x4E ∨ e = 0x50 ∨ e = 0x51 then some 0
  else none

/-- A source is an occupancy (kind O). -/
def eventOccupancy (e : Nat) : Bool := decide (e ≤ 0x0C)

/-- A selector is valid (R521). -/
def selectorOk (mode event inst : Nat) : Bool :=
  match eventInsts event with
  | none => false
  | some k => decide (mode ≤ 2) && (mode == 0 || eventOccupancy event) && (k == 0 || decide (inst < k)) && !(event == 0x47 && inst == 0)

/-- The selector of counter `n`. -/
def State.selector (s : State) (n : Nat) : Nat × Nat × Nat :=
  (s.get F.PMC_EVSEL_MODE n, s.get F.PMC_EVSEL_EVENT n, s.get F.PMC_EVSEL_INST n)

/-- An occupancy as it stands (R520). -/
def State.occupancy (s : State) (event inst : Nat) : Nat :=
  match event with
  | 0x01 => (s.pipe inst).wq.length
  | 0x02 => (s.pipe inst).rob.length
  | 0x03 => ((List.range 16).filter (fun i => (s.engine (16 * inst + i)).isSome)).length
  | 0x04 => s.get F.SWC_QOCC_CELLS inst
  | 0x05 => s.get F.SWC_QFRM_COPIES inst
  | 0x06 => s.get F.SWC_FREE_CELLS
  | 0x07 => s.get F.SWC_SHARED_S
  | 0x08 => s.get F.PORT_OCC_PORT_OCC inst
  | 0x09 => (s.eg inst).cal.length
  | 0x0A => s.lkp.learnQ.length
  | 0x0B => ptrDist (cffF s) (cffW s)
  | _ => s.get F.BPM_POOL_FREE_FREE inst

/-- The events of the present tick; `pdsBusy`: the CCLK cycles of it in which the PDS pass engine was busy. -/
def State.eventsOf (s : State) (event inst pdsBusy : Nat) : Nat :=
  match event with
  | 0x40 => 1
  | 0x50 => pdsBusy
  | _ => tabGet 0 s.events (event * 1024 + (if eventInsts event = some 0 then 0 else inst))

/-- What counter `n` adds at the present tick (R521). -/
def State.pmcAmount (s : State) (n pdsBusy : Nat) : Nat :=
  let (mode, event, inst) := s.selector n
  if !selectorOk mode event inst then 0
  else if eventOccupancy event then
    let v := tabGet 0 s.pmc.samp n
    let thr := s.get F.PMC_THR_THR n
    match mode with
    | 0 => v
    | 1 => if thr < v then 1 else 0
    | _ => if thr < v ∧ tabGet 0 s.pmc.prev n ≤ thr then 1 else 0
  else s.eventsOf event inst pdsBusy

/-- A counter adds; a wrap is noted (R517). -/
def State.pmcAdd (s : State) (n a : Nat) : State :=
  let v := s.pmcCnt n + a
  let s := s.setPmcCnt n (v % 2 ^ 48)
  if 2 ^ 48 ≤ v then s.setPmc { s.pmc with wraps := s.pmc.wraps ++ [n] } else s

/-- COUNTER_WRAP: a counter that has wrapped sets its OVF bit. -/
def State.pmcWrap (s : State) (n : Nat) : State :=
  if s.pmc.wraps.contains n then
    ((s.putBit F.PMC_OVF_OVF (n % 32) true (n / 32)).evt F.PMC_EVT_OVF).setPmc { s.pmc with wraps := s.pmc.wraps.erase n }
  else s

/-- The counters of the groups that a mask names. -/
def groupCounters (mask : Nat) : List Nat := (List.range 512).filter (fun n => mask.testBit (n / 64))

/-- The clears that wait for this tick's start apply (R522, R523). -/
def State.pmcClears (s : State) : State :=
  let s := (groupCounters s.pmc.clear).foldl (fun s n => s.setPmcCnt n 0) s
  s.setPmc { s.pmc with clear := 0 }

/-- The occupancies at the start of the next tick, for the groups that will then count (R519, R520). -/
def State.pmcSample (s : State) : State :=
  let eff := s.get F.PMC_GRP_EN_EN
  let l := (groupCounters eff).filter (fun n => eventOccupancy (s.selector n).2.1)
  let prev := l.foldl (fun t n => if s.pmc.eff.testBit (n / 64) then tabSet 0 t n (tabGet 0 s.pmc.samp n) else t) ([] : Tab Nat)
  let samp := l.foldl (fun t n => tabSet 0 t n (s.occupancy (s.selector n).2.1 (s.selector n).2.2)) ([] : Tab Nat)
  s.setPmc { s.pmc with eff := eff, prev := prev, samp := samp }

/-- COUNTER_TICK: the end of a tick. In PEWTER every counter is frozen (R532). -/
def State.counterTick (s : State) (pdsBusy : Nat) : State :=
  let s := s.pmcClears
  let s := if s.mode = modePEWTER then s
    else (groupCounters s.pmc.eff).foldl (fun s n => s.pmcAdd n (s.pmcAmount n pdsBusy)) s
  { s.pmcSample with events := [] }

/-- A write of PMC_CMD (R522). -/
def State.pmcCommand (s : State) (key op mask : Nat) : State :=
  if key ≠ 0x5A ∨ op = 0 ∨ 3 < op then s.evt F.PMC_EVT_CFG_ERR
  else
    let s := if op = 1 ∨ op = 3 then s.setPmc { s.pmc with clear := s.pmc.clear ||| mask } else s
    if op = 2 ∨ op = 3 then s.setPmc { s.pmc with clearLed := true } else s

/-! ## The time ledger (R524, R525) -/

/-- The account of a network port's lane: 0 SEND, 1 HELD, 2 STALLED, 3 IDLE. -/
def State.portAccount (s : State) (p : Nat) : Nat :=
  let ps := s.port p
  let busy := (s.txGet p 0).isSome || ((s.txGet p 1).isSome && !ps.preempted) || decide (s.nowPs < ps.gapEnd)
  let paused := (List.range 8).any (fun q => (s.get F.PORT_FC_STAT_RX_PAUSED_Q p).testBit q && (s.queueHead p q).isSome)
  let waits := [2, 3].any (fun k => match s.txGet p k with
    | some x => decide (x.startPs ≤ s.nowPs)
    | none => false)
  let held := (List.range 8).any (fun q => (s.queueHead p q).isSome && !s.eligible p q)
  let armed := (s.armed p).isSome && !s.launchIsDue p
  if busy then 0
  else if !s.bit F.PORT_CTRL_ENABLE p || !s.bit F.PORT_STAT_LINK p || paused || waits then 2
  else if held || armed then 1
  else 3

/-- The account of an idle or busy engine of a cluster: 0 BUSY, 1 PASSED, 2 BLOCKED, 3 IDLE. -/
def State.engineAccount (s : State) (e : Nat) : Nat :=
  let waiting := [0, 1].filter (fun pl => !(s.pipe pl).wq.isEmpty)
  if (s.engine e).isSome then 0
  else if waiting.isEmpty then 3
  else if waiting.any (fun pl => decide ((s.pipe pl).rob.length < 64)) then 1
  else 2

/-- Add 1 to a ledger counter, modulo 2^48. -/
def State.ledgerAdd (s : State) (lo hi : Fld) (i k : Nat) : State :=
  let v := (s.get lo i k + 2 ^ 32 * s.get hi i k + 1) % 2 ^ 48
  (s.put lo (v % 2 ^ 32) i k).put hi (v / 2 ^ 32) i k

/-- Every ledger counter is 0. -/
def State.ledgerClear (s : State) : State :=
  let s := (List.range 72).foldl (fun s p => [0, 1, 2, 3].foldl (fun s k =>
    (s.setReg R.PMC_LP_LO 0 p k).setReg R.PMC_LP_HI 0 p k) s) s
  (List.range 3).foldl (fun s c => [0, 1, 2, 3].foldl (fun s k =>
    (s.setReg R.PMC_LC_LO 0 c k).setReg R.PMC_LC_HI 0 c k) s) s

/-- LEDGER_TICK: the start of a tick. A clear that was written in the tick before applies first. -/
def State.ledgerTick (s : State) : State :=
  let s := if s.pmc.clearLed then s.ledgerClear.setPmc { s.pmc with clearLed := false } else s
  if s.mode = modePEWTER then s
  else
    let s := (List.range 72).foldl (fun s p => s.ledgerAdd F.PMC_LP_LO_COUNT F.PMC_LP_HI_COUNT p (s.portAccount p)) s
    (List.range 3).foldl (fun s c =>
      if (s.get F.TIN_CFG_CLUSTER_EN).testBit c then
        (List.range 16).foldl (fun s i => s.ledgerAdd F.PMC_LC_LO_COUNT F.PMC_LC_HI_COUNT c (s.engineAccount (16 * c + i))) s
      else s) s

/-! ## Dumps (R526 to R529) -/

/-- The length of a dump under the present selection (R528). -/
def State.dumpBytes (s : State) : Nat :=
  64 + 512 * ((List.range 8).filter (fun g => (s.get F.PMC_DUMP_CFG_SEL).testBit g)).length
    + (if s.bit F.PMC_DUMP_CFG_LEDGER then 2432 else 0) + (if s.bit F.PMC_DUMP_CFG_PORT then 27648 else 0)

/-- A register pair as a number. -/
def State.pair (s : State) (lo hi : RegSpec) (i j : Nat) : Nat := (s.reg lo i j).toNat + 2 ^ 32 * (s.reg hi i j).toNat

/-- The ledger section (R528). -/
def State.ledgerBytes (s : State) : List Byte :=
  (List.range 72).flatMap (fun p => [0, 1, 2, 3].flatMap (fun k => leBytes 8 (s.pair R.PMC_LP_LO R.PMC_LP_HI p k)))
    ++ (List.range 3).flatMap (fun c => [0, 1, 2, 3].flatMap (fun k => leBytes 8 (s.pair R.PMC_LC_LO R.PMC_LC_HI c k)))
    ++ List.replicate 32 0

/-- The header (R529): DSEQ is the sequence number of this snapshot. -/
def State.dumpHeader (s : State) : List Byte :=
  let d := s.dom 0
  leBytes 8 (1 + s.get F.GLB_SYSID_SYSID * 2 ^ 8 + s.get F.PMC_DUMP_SEQ_DSEQ * 2 ^ 32)
    ++ leBytes 8 (d.sec % 2 ^ 48)
    ++ leBytes 8 (d.ns + s.get F.INV_STAT_GEN % 2 * 2 ^ 30 + s.epoch % 2 ^ 16 * 2 ^ 32 + s.mode * 2 ^ 48)
    ++ leBytes 8 (s.get F.PMC_DUMP_CFG_SEL + s.get F.PMC_DUMP_CFG_LEDGER * 2 ^ 8 + s.get F.PMC_DUMP_CFG_PORT * 2 ^ 9
        + s.pmc.eff % 256 * 2 ^ 16 + s.dumpBytes * 2 ^ 32)
    ++ leBytes 8 (s.pmc.skips % 2 ^ 32) ++ List.replicate 24 0

/-- The dump as it stands (R528). -/
def State.dumpImage (s : State) : List Byte :=
  s.dumpHeader
    ++ ((List.range 8).filter (fun g => (s.get F.PMC_DUMP_CFG_SEL).testBit g)).flatMap (fun g =>
        (List.range 64).flatMap (fun i => leBytes 8 (s.pmcCnt (64 * g + i))))
    ++ (if s.bit F.PMC_DUMP_CFG_LEDGER then s.ledgerBytes else [])
    ++ (if s.bit F.PMC_DUMP_CFG_PORT then
          (List.range 72).flatMap (fun p => (List.range 48).flatMap (fun i => leBytes 8 (s.pair R.PORT_CNT_LO R.PORT_CNT_HI p i)))
        else [])

/-- EN goes from 0 to 1 (R526): the first snapshot is the first B + k × P at or after the write + 2 µs. -/
def State.dumpStart (s : State) : State :=
  let b := fullTime (s.dom 0) (s.get F.PMC_DUMP_BASE_SEC_SEC) (s.get F.PMC_DUMP_BASE_NS_NS)
  let s := s.put F.PMC_DUMP_SEQ_DSEQ 0
  s.setPmc { s.pmc with next := some (gridAtOrAfter b (s.get F.PMC_DUMP_PERIOD_PERIOD) (s.now + 2000)) }

/-- EN goes to 0: no further snapshot. -/
def State.dumpStop (s : State) : State := s.setPmc { s.pmc with next := none }

/-- The next snapshot time is judged against a new TD0 after a backward step, as the cycle generator's start is (R326, R526). -/
def State.dumpRejudge (s : State) (before : Int) : State :=
  match s.pmc.next with
  | none => s
  | some n =>
    if s.now < before then
      s.setPmc { s.pmc with next := some (min n (gridAtOrAfter n (s.get F.PMC_DUMP_PERIOD_PERIOD) (s.now + 1))) }
    else s

/-- A skipped snapshot (R527). -/
def State.dumpSkip (s : State) : State :=
  ((s.inc F.PMC_DUMP_SKIP_COUNT).evt F.PMC_EVT_DUMP_SKIP).setPmc { s.pmc with skips := s.pmc.skips + 1 }

/-- DUMP_SNAPSHOT: a snapshot time is reached. -/
def State.dumpSnapshot (s : State) : State :=
  match s.pmc.next with
  | none => s
  | some n =>
    let p := s.get F.PMC_DUMP_PERIOD_PERIOD
    if s.now < n ∨ s.mode = modePEWTER ∨ p = 0 then s
    else
      let k := ((s.now - n) / (p : Int)).toNat
      let s := s.incWrap F.PMC_DUMP_SEQ_DSEQ (n := k + 1)
      let s := s.setPmc { s.pmc with next := some (n + (k + 1) * p) }
      if s.pmc.busy || s.chState 15 != chRUN || decide (s.owned 15 = 0) then s.dumpSkip
      else
        let image := s.dumpImage
        let s := s.put F.PMC_DUMP_STAT_BUSY 1
        s.setPmc { s.pmc with snap := image, busy := true, go := true, ended := false, skips := 0 }

/-- DUMP_DONE: DMA15's descriptor has completed. -/
def State.dumpDone (s : State) : State :=
  if s.pmc.busy && s.pmc.ended then
    ((s.put F.PMC_DUMP_STAT_BUSY 0).evt F.PMC_EVT_DUMP_DONE).setPmc { s.pmc with busy := false, ended := false }
  else s

/-! ## The user window (R449, R531) -/

/-- A 32-bit word of the user counter window in BAR4. -/
def State.userWord (s : State) (a : Nat) : Word :=
  let half := fun (v : Nat) => BitVec.ofNat 32 (if a % 8 = 0 then v else v / 2 ^ 32)
  if !s.bit F.PMC_CFG_USER_EN || a % 4 != 0 then 0
  else if a < 0x1000 then half (s.pmcCnt (a / 8))
  else if a < 0x1980 then half (leNat (bytesAt s.ledgerBytes ((a - 0x1000) / 8 * 8) 8))
  else if a = 0x2000 ∨ a = 0x2004 then half (ts40 s.now)
  else 0

end Sys2Proof.Machine
end

