-- ==== Sys2Proof/Machine/HostRead.lean ====
section
/-! DEFINITION. A host's reads of BAR0 (00_scope.md R8 to R19, R606; 15_host_ports_and_registers.md R435 to R449): which accesses reach a
register, access errors, what a register reads, and the effects of reading. -/

namespace Sys2Proof.Machine

/-! ## Access errors (R19, R445) -/

/-- The flags that an access sets, by their bit numbers in GLB_ACC_ERR, lowest first (one event, log entry 5), and the capture of the
lowest. `bar`: 0 BAR0, 1 BAR2, 2 BAR4. -/
def State.accErr (s : State) (flags : List Nat) (host bar off be : Nat) (write : Bool) (data : Word) : State :=
  match flags with
  | [] => s
  | f :: _ =>
    let s := if s.bit F.GLB_ACC_ADDR_VALID then s.put F.GLB_ACC_ADDR_MULTI 1
      else
        let s := s.setReg R.GLB_ACC_ADDR (BitVec.ofNat 32 (2 ^ 31 + f * 2 ^ 27 + host * 2 ^ 26 + bar * 2 ^ 24 + off % 2 ^ 24))
        let s := s.setReg R.GLB_ACC_INFO (BitVec.ofNat 32 ((if write then 2 ^ 31 else 0) + be * 2 ^ 24))
        s.setReg R.GLB_ACC_DATA (if write then data else 0)
    let w := s.reg R.GLB_ACC_ERR
    let w := setBits w 31 24 (getBits w 31 24 + 1)
    (s.setReg R.GLB_ACC_ERR (flags.foldl (fun w k => w ||| BitVec.ofNat 32 (2 ^ k)) w)).armVector (some 0)

/-- The flag numbers. -/
def flSTALE : Nat := 0
def flGATED : Nat := 1
def flLOCK : Nat := 2
def flBUSY : Nat := 3
def flWIDTH : Nat := 4
def flALIGN : Nat := 5
def flUNIMP : Nat := 6

def flMASK : Nat := 7

/-! ## Which accesses reach a block -/

/-- A SYSTEM or POWER_ON episode is in progress: no host has a link (R573). -/
def State.hostsDead (s : State) : Bool := s.episode && decide (2 ≤ s.get F.RST_STAT_REACH)

/-- The adaptive registers, which R393 closes in PEWTER although they belong to GLB. -/
def adpOffset (a : Nat) : Bool := decide (0x200 ≤ a ∧ a < 0x300) || decide (0x1000 ≤ a ∧ a < 0x2200)

/-- The block at an offset answers no access: in a CORE episode all but GLB, RST, MGT, INV, PORT and IMG (R573), in PEWTER all but GLB,
RST, MGT and INV (R54), of GLB without the adaptive registers (R393; DEDUCED, log entry 129). Reads return 0 and writes are ignored without a flag. -/
def State.gated (s : State) (a : Nat) : Bool :=
  let b := (blockAt a).base
  (s.episode && !(decide (b ≤ 0x30000) || b == 0x800000 || b == 0x90000)) || (s.mode == modePEWTER && (decide (0x30000 < b) || adpOffset a))

/-- COMPACT decode is in force (R18). -/
def State.compact (s : State) : Bool := s.bit F.GLB_CFG_DECODE

/-- The offset that the decode in force acts on. -/
def State.decoded (s : State) (a : Nat) : Nat := if s.compact then compactOffset a else a

/-- The indices under which the reading or writing host finds a register: its own copy of a host-private one (R435). -/
def regIdx (r : RegSpec) (host i j : Nat) : Nat × Nat :=
  if r.hostPrivate then (if r.dims.isEmpty then (host, 0) else (i, host)) else (i, j)

/-- The read window of the capture FIFO (R510). -/
def cffWindow (a : Nat) : Bool := decide (0x71000 ≤ a ∧ a < 0x72000)

/-! ## What a register reads -/

/-- A slew remainder in 2^-16 ns, rounded toward zero (R305). -/
def State.slewRem (s : State) (d : Nat) : Word := BitVec.ofInt 32 ((s.dom d).slewRem.tdiv (2 ^ 32))

/-- The level at a timed pin's ball. -/
def State.tioLevel (s : State) (i : Nat) : Bool := (s.tio i).level

/-- Registers of GLB, MGT, INV and TWN whose value is live. -/
def State.liveA (s : State) (host : Nat) (r : RegSpec) (i : Nat) (w : Word) : Word :=
  let b := r.base
  if b = R.GLB_HOST_STAT.base then setBits w 31 31 host
  else if b = R.GLB_MODE_PERMIT.base then w ||| 0x41
  else if b = R.GLB_SEM_OWN.base then s.semOwn i
  else if b = R.GLB_INT_PEND_LO.base then s.intPend host 0
  else if b = R.GLB_INT_PEND_HI.base then s.intPend host 1
  else if b = R.GLB_ADP_HBIN.base then BitVec.ofNat 32 (s.adpBin i)
  else if b = R.MGT_SPI_STAT.base then s.spiStat
  else if b = R.INV_TD_NS.base then BitVec.ofNat 32 (s.dom i).ns
  else if b = R.INV_TD_SEC_LO.base then BitVec.ofNat 32 (tabGet {} s.inv.snap i).sec
  else if b = R.INV_TD_SEC_HI.base then BitVec.ofNat 32 ((tabGet {} s.inv.snap i).sec / 2 ^ 32)
  else if b = R.INV_TD_FRAC.base then BitVec.ofNat 32 (tabGet {} s.inv.snap i).frac16
  else if b = R.INV_TD_SNS.base then BitVec.ofNat 32 (tabGet {} s.inv.snap i).ns
  else if b = R.INV_TD_SLEW_REM.base then s.slewRem i
  else if b = R.INV_TIO_CAP_NS.base then (s.tioCapRead i).1
  else if b = R.INV_TIO_STAT.base then setBits (setBits w 18 16 (s.tio i).queue.length) 8 8 (if s.tioLevel i then 1 else 0)
  else if b = R.TWN_TCC_LO.base then BitVec.ofNat 32 s.tcc
  else if b = R.TWN_TCC_HI.base then BitVec.ofNat 32 (s.tcc / 2 ^ 32)
  else w

/-- A count over the tables: a free value where an aborted BIST has left slots whose contents nothing states (R58). -/
def State.tableCount (s : State) (width n : Nat) : Nat :=
  if s.lkp.lost.isNone then n else (Config.freeValue width s.freeCtr).toNat

/-- Registers of the other blocks whose value is live. -/
def State.liveB (s : State) (r : RegSpec) (i j : Nat) (w : Word) : Word :=
  let b := r.base
  if b = R.PMC_DUMP_STAT.base then setBits w 15 0 s.dumpBytes
  else if b = R.IMG_PATCH_LOG_A.base then s.patchLogWord 0
  else if b = R.IMG_PATCH_LOG_B.base then s.patchLogWord 1
  else if b = R.IMG_PATCH_LOG_C.base then s.patchLogWord 2
  else if b = R.IMG_PATCH_LOG_D.base then s.patchLogWord 3
  else if b = R.TIN_CFG.base then setBits w 3 3 (if s.mode = modeMAINTENANCE then 0 else 1)
  else if b = R.TIN_UW_LO.base then (if s.loaded then uwPart (s.uword i j) 0 else 0)
  else if b = R.TIN_UW_MID.base then (if s.loaded then uwPart (s.uword i j) 1 else 0)
  else if b = R.TIN_UW_HI.base then (if s.loaded then uwPart (s.uword i j) 2 else 0)
  else if b = R.TIN_UW_ECC.base then (if s.loaded then uwPart (s.uword i j) 3 else 0)
  else if b = R.FDB_STAT.base then
    setBits (setBits w 17 0 (s.tableCount 18 s.fdbCount)) 26 22 (s.tableCount 5 s.fdbStash)
  else if b = R.FDB_LCNT.base then BitVec.ofNat 32 (s.tableCount 18 (s.lcnt i))
  else if b = R.EPOCH_OCC.base then BitVec.ofNat 32 (s.epochCount s.epoch)
  else if b = R.EPOCH_DRAIN.base then s.drainWord w
  else if b = R.EGS_GATE_STAT.base then
    setBits (setBits w 7 0 (s.gatesAt i (s.laneNs i))) 23 14
      (if s.get F.EGS_GATE_OPER_LEN_LEN i = 0 then 0 else s.gateEntry i (s.laneNs i))
  else if b = R.EGS_GCL_D0.base then BitVec.ofNat 32 (s.gclEntry i).interval
  else if b = R.EGS_GCL_D1.base then gclD1 (s.gclEntry i)
  else if b = R.EGS_SHP_TOK.base then s.tokWord i j
  else if b = R.PDS_STAT.base then s.pdsStatWord w
  else if b = R.POL_SGS_STAT.base then s.schedStatWord i w
  else if b = R.PDS_STALE.base then s.staleWord i
  else if b = R.PDS_FAULT.base then s.faultWord i
  else if b = R.PDS_FO_FAULT_A.base then s.foFaultWord 0
  else if b = R.PDS_FO_FAULT_B.base then s.foFaultWord 1
  else if b = R.PDS_SRAM_WINDOW.base then
    (if s.loaded then BitVec.ofNat 32 (leNat (s.sramBytes (65536 * s.get F.PDS_SRAM_PAGE_PAGE + 4 * i) 4)) else 0)
  else if b = R.PORT_TX_EQ.base then s.txEqRead i
  else w

/-- The mask of the fields of a register whose access code `p` picks. -/
def accMask (r : RegSpec) (p : Acc → Bool) : Word := r.fields.foldl (fun m f => if p f.acc then m ||| f.mask else m) 0

/-- The RSVD bits of a register: those of no other field (R6). -/
def RegSpec.rsvdMask (r : RegSpec) : Word := ~~~ accMask r (fun _ => true)

/-- What the RSVD bits of a register hold (R17). -/
def State.rsvdHeld (s : State) (host : Nat) (r : RegSpec) (i j : Nat) : Word :=
  tabGet 0 s.rsvd (r.off (regIdx r host i j).1 (regIdx r host i j).2) &&& r.rsvdMask

/-- What the RSVD bits of a register read: their live value under STRICT decode (R17), 0 under COMPACT decode (R18). -/
def State.rsvdShown (s : State) (host : Nat) (r : RegSpec) (i j : Nat) : Word :=
  if s.compact then 0 else s.rsvdHeld host r i j

/-- What a register reads, without any effect of reading. -/
def State.live (s : State) (host : Nat) (r : RegSpec) (i j : Nat) : Word :=
  let k := regIdx r host i j
  let w := s.reg r k.1 k.2
  (if r.base < 0x50000 then s.liveA host r i w else s.liveB r i j w) ||| s.rsvdShown host r i j

/-! ## Pairs (R8) -/

/-- The _LO registers of the pairs: those at an 8-byte-aligned offset whose _HI register follows. -/
def pairLows : List RegSpec :=
  [R.GLB_INT_PEND_LO, R.INV_TD_SET_SEC_LO, R.INV_TD_OFS_LO, R.TWN_TCC_LO, R.TWN_DIG_LO, R.DMA_CH_RING_LO, R.PMC_CNT_LO, R.PMC_LP_LO,
   R.PMC_LC_LO, R.PORT_CNT_LO]

/-- A register is the _LO, or the _HI, of a pair. -/
def isPairLo (r : RegSpec) : Bool := pairLows.any (fun x => x.base == r.base)
def isPairHi (r : RegSpec) : Bool := pairLows.any (fun x => x.base + 4 == r.base)

/-- The snapshot of a host for the pair whose _LO lies at an offset. -/
def State.pairSnap (s : State) (host a : Nat) : Word := tabGet 0 s.snaps (2 * a + host)
def State.setSnap (s : State) (host a : Nat) (w : Word) : State := { s with snaps := tabSet 0 s.snaps (2 * a + host) w }

/-! ## Reads -/

/-- A read clears the RC fields (R10); a port counter clears as a whole (R102); the least count of a pool starts again from the present
one (R498). -/
def State.clearRc (s : State) (r : RegSpec) (i j : Nat) : State :=
  let m := accMask r (fun a => a == .rc)
  let s := if m = 0 then s else s.setReg r (s.reg r i j &&& ~~~m) i j
  if r.base = R.PORT_CNT_LO.base then s.setReg R.PORT_CNT_HI 0 i j
  else if r.base = R.BPM_POOL_LOW.base then s.put F.BPM_POOL_LOW_LOW (s.get F.BPM_POOL_FREE_FREE i) i
  else s

/-- The word that a read of a register returns, and the state after its effects. -/
def State.regRead (s : State) (host a : Nat) (r : RegSpec) (i j : Nat) : Word × State :=
  if r.base = R.GLB_SEM.base then ((s.semRead host i).1 ||| s.rsvdShown host r i j, (s.semRead host i).2)
  else if r.base = R.INV_TIO_CAP_NS.base then ((s.tioCapRead i).1 ||| s.rsvdShown host r i j, (s.tioCapRead i).2)
  else if isPairHi r then (s.pairSnap host (a - 4), s)
  else
    let w := s.live host r i j
    let s := if r.base = R.INV_TD_NS.base then s.snapDom i
      else if r.base = R.EGS_GCL_D1.base then s.gclAdvance i
      else if isPairLo r then
        match regAt (a + 4) with
        | some (q, i', j') => s.setSnap host a (s.live host q i' j')
        | none => s
      else s
    (w, s.clearRc r i j)

/-- A 32-bit read at an aligned offset. `flip`: an upset of a FIFO word (R514). -/
def State.readWord (s : State) (host off be : Nat) (flip : BitVec 48) : Word × State :=
  if s.gated off then (0, s)
  else
    let a := s.decoded off
    if cffWindow a then
      if a % 8 = 0 then s.cffRead host flip else (tabGet 0 s.snaps (cffSnapKey host), s)
    else match regAt a with
      | none => (0, if s.compact then s else s.accErr [flUNIMP] host 0 off be false 0)
      | some (r, i, j) => s.regRead host a r i j

/-- The bytes of an access width. -/
def widthBytes (w : Width) : Nat :=
  match w with
  | .w8 => 1
  | .w16 => 2
  | .w32 => 4
  | .w64 => 8
  | .burst rest => 8 + 4 * rest.length

/-- An access crosses a 4-byte boundary (R15). -/
def crosses (off : Nat) (w : Width) : Bool :=
  match w with
  | .w8 => false
  | .w16 => off % 4 == 3
  | _ => off % 4 != 0

/-- The byte enables of an access in the word it starts in. -/
def byteEnables (off : Nat) (w : Width) : Nat := ((2 ^ min 4 (widthBytes w) - 1) * 2 ^ (off % 4)) % 16

/-- `n` words from a BAR0 offset on, in ascending order, each read with its own effects (R15). -/
def State.readWords (s : State) (host : Nat) (flip : BitVec 48) : Nat → Nat → List Word × State
  | 0, _ => ([], s)
  | n + 1, off =>
    let x := s.readWord host off 15 flip
    let y := x.2.readWords host flip n (off + 4)
    (x.1 :: y.1, y.2)

/-- The bytes of a word that an access narrower than it returns (R15). -/
def laneBytes (v : Word) (off : Nat) (w : Width) : BitVec 64 := BitVec.ofNat 64 (v.toNat / 2 ^ (8 * (off % 4)) % 2 ^ (8 * widthBytes w))

/-- A read of BAR0. One that crosses a 4-byte boundary ends with completer abort (R15). -/
def State.hostRead (s : State) (host off : Nat) (w : Width) (flip : BitVec 48) : State :=
  if s.hostsDead then s
  else
    let s := s.hostSeen host
    if crosses off w then (s.accErr [flALIGN] host 0 off (byteEnables off w) false 0).emit (.abort host)
    else match w with
      | .w64 =>
        let x := s.readWord host off 15 flip
        let y := x.2.readWord host (off + 4) 15 flip
        y.2.emit (.readData host (y.1 ++ x.1))
      | .burst rest =>
        let x := s.readWords host flip (2 + rest.length) off
        x.2.emit (.readBurst host x.1)
      | _ =>
        let x := s.readWord host (off - off % 4) (byteEnables off w) flip
        x.2.emit (.readData host (laneBytes x.1 off w))

/-- A read of one known register, as a row of the command table names it: no access check but the reach of its block applies. -/
def State.rowRead (s : State) (host : Nat) (r : RegSpec) (i j : Nat) : State :=
  if s.hostsDead then s
  else
    let s := s.hostSeen host
    let a := r.base + (r.off i j - r.off 0 0)
    let x := if s.gated a then ((0 : Word), s) else s.regRead host a r i j
    x.2.emit (.readData host (BitVec.ofNat 64 x.1.toNat))

/-- The bit that an alias read returns (R446): no effect of any kind. -/
def State.aliasBit (s : State) (host off : Nat) : Bool :=
  let a := off / 128 * 4
  match regAt (s.decoded a) with
  | none => false
  | some (r, i, j) =>
    (if isPairHi r then s.pairSnap host (s.decoded a - 4) else s.live host r i j).getLsbD (off % 128 / 4)

/-- An alias read of 32 bits (R446): the bit in bit 0; at an unimplemented offset under STRICT decode 0, and UNIMP is set (R448). -/
def State.aliasWord (s : State) (host off be : Nat) : Word × State :=
  let a := off / 128 * 4
  if s.gated a then (0, s)
  else if (regAt (s.decoded a)).isNone && !s.compact then (0, s.accErr [flUNIMP] host 1 off be false 0)
  else (if s.aliasBit host off then 1 else 0, s)

/-- `n` alias reads from a BAR2 offset on, in ascending order (R448). -/
def State.aliasWords (s : State) (host : Nat) : Nat → Nat → List Word × State
  | 0, _ => ([], s)
  | n + 1, off =>
    let x := s.aliasWord host off 15
    let y := x.2.aliasWords host n (off + 4)
    (x.1 :: y.1, y.2)

/-- A read of BAR2 (R446, R448). -/
def State.aliasRead (s : State) (host off : Nat) (w : Width) : State :=
  if s.hostsDead then s
  else
    let s := s.hostSeen host
    if crosses off w then (s.accErr [flALIGN] host 1 off (byteEnables off w) false 0).emit (.abort host)
    else match w with
      | .w64 =>
        let x := s.aliasWord host off 15
        let y := x.2.aliasWord host (off + 4) 15
        y.2.emit (.readData host (y.1 ++ x.1))
      | .burst rest =>
        let x := s.aliasWords host (2 + rest.length) off
        x.2.emit (.readBurst host x.1)
      | _ =>
        let x := s.aliasWord host (off - off % 4) (byteEnables off w)
        x.2.emit (.readData host (laneBytes x.1 off w))

/-- A read of BAR4: the user counter window, without any effect (R449). In PEWTER, and while an episode holds the counters, it reads 0. -/
def State.userRead (s : State) (host off : Nat) (w : Width) : State :=
  if s.hostsDead then s
  else
    let s := s.hostSeen host
    let word := fun (a : Nat) => if s.gated 0x80000 then (0 : Word) else s.userWord a
    if crosses off w then (s.accErr [flALIGN] host 2 off (byteEnables off w) false 0).emit (.abort host)
    else match w with
      | .w64 => s.emit (.readData host (word (off + 4) ++ word off))
      | .burst rest => s.emit (.readBurst host ((List.range (2 + rest.length)).map (fun k => word (off + 4 * k))))
      | _ => s.emit (.readData host (laneBytes (word (off - off % 4)) off w))

/-- A host's read of one of its windows (R431). -/
def State.busRead (s : State) (host : Nat) (bar : Bar) (off : Nat) (w : Width) (flip : BitVec 48) : State :=
  match bar with
  | .bar0 => s.hostRead host off w flip
  | .bar2 => s.aliasRead host off w
  | .bar4 => s.userRead host off w

/-! ## The I2C target's reads (R459) -/

/-- The word that the target reads at a pointer. A host-private register belongs to no host here: its value is free (log entry 102). -/
def State.i2cWord (s : State) (p : Nat) : Word × State :=
  if 0x30000 ≤ p ∨ s.gated (s.decoded p) = true then (0, s)
  else match regAt (s.decoded p) with
    | none => (0, s)
    | some (r, i, j) =>
      if r.hostPrivate ∨ r.base = R.GLB_INT_PEND_LO.base ∨ r.base = R.GLB_INT_PEND_HI.base ∨ r.base = R.GLB_HOST_STAT.base then s.draw 32
      else (s.live 0 r i j, s)

/-- I2C_READ: each word is returned as 4 bytes, most significant first, and the pointer advances by 4. -/
def State.i2cRead (s : State) : Nat → State
  | 0 => s
  | n + 1 =>
    let x := s.i2cWord s.mgt.i2cPtr
    let s := x.2.emit (.i2c (beBytes 4 x.1.toNat))
    ({ s with mgt := { s.mgt with i2cPtr := (s.mgt.i2cPtr + 4) % 2 ^ 32 } }).i2cRead n

/-! ## What an endpoint says of itself (R430, R431) -/

/-- Vendor ID, Device ID, Revision ID and class code of both endpoints. -/
def pciIdentity : List Nat := [0x1F9D, 0x7264, 0xB0, 0x020000]

/-- Subsystem Vendor ID and Subsystem ID: fuse word 38 (R540), which is 0 when unprogrammed. -/
def State.pciSubsystem (s : State) : Nat × Nat := (s.get F.IMG_FUSE_FUSE 38 / 2 ^ 16, s.get F.IMG_FUSE_FUSE 38 % 2 ^ 16)

/-- The largest payload in bytes, and the vectors of MSI-X. -/
def pciMaxPayload : Nat := 256
def pciVectors : Nat := 64

/-- The sizes in bytes of BAR0, BAR2 and BAR4; no other BAR answers. -/
def barSize (bar : Nat) : Nat :=
  if bar = 0 then 16 * 2 ^ 20 else if bar = 2 then 8 * 2 ^ 20 else if bar = 4 then 2 ^ 20 else 0

end Sys2Proof.Machine
end

