-- ==== Sys2Proof/Machine/HostWrite.lean ====
section
/-! DEFINITION. A host's writes of BAR0 and BAR2 (00_scope.md R9 to R19, R606; 15_host_ports_and_registers.md R435 to R448): the checks of an
access, the write of a register field by field under its access codes, the registers whose write acts, and the writes that a twin mirrors
(14_twin_lockstep.md R411, R412). -/

namespace Sys2Proof.Machine

/-! ## Words -/

/-- The bits that byte enables choose. -/
def beMask (be : Nat) : Word :=
  BitVec.ofNat 32 ((List.range 4).foldl (fun a i => if be.testBit i then a + 255 * 256 ^ i else a) 0)

/-- A word with the enabled bytes replaced. -/
def mergeBytes (old data : Word) (be : Nat) : Word := (old &&& ~~~beMask be) ||| (data &&& beMask be)

/-- A field of a word brought into a range. -/
def clampField (w : Word) (f : Fld) (lo hi : Nat) : Word := setBits w f.hi f.lo (max lo (min hi (getBits w f.hi f.lo)))

/-- The value that a register stores where the spec gives a field a range and says what a write outside it stores. -/
def clampWord (r : RegSpec) (w : Word) : Word :=
  let b := r.base
  if b = R.MGT_SPI_CFG.base then clampField w F.MGT_SPI_CFG_DIV 2 255
  else if b = R.MGT_MDIO_CFG.base then clampField w F.MGT_MDIO_CFG_DIV 9 255
  else if b = R.FDB_LIMIT.base then clampField w F.FDB_LIMIT_LIMIT 0 131072
  else if b = R.SWC_QLIM.base then clampField w F.SWC_QLIM_LIMIT 0 131072
  else if b = R.SWC_PO_CFG.base then clampField w F.SWC_PO_CFG_MAX_VICTIMS 1 15
  else if b = R.SWC_AGE_LIMIT.base then clampField w F.SWC_AGE_LIMIT_LIMIT 1 1000000
  else if b = R.PORT_WM_PORT_LO.base then clampField w F.PORT_WM_PORT_LO_LO 0 131072
  else if b = R.PORT_WM_LO.base then clampField w F.PORT_WM_LO_LO 0 131072
  else if b = R.PORT_RXCFG.base then clampField w F.PORT_RXCFG_MAXLEN 64 16000
  else if b = R.INV_TD_SLEW_CFG.base then clampField w F.INV_TD_SLEW_CFG_SHIFT 8 24
  else if b = R.INV_TD_SET_NS.base then clampField w F.INV_TD_SET_NS_NS 0 999999999
  else if b = R.PMC_DUMP_BASE_NS.base then clampField w F.PMC_DUMP_BASE_NS_NS 0 999999999
  else if b = R.PMC_DUMP_PERIOD.base then clampField w F.PMC_DUMP_PERIOD_PERIOD 1000 1000000000
  else if b = R.GLB_ADP_CFG.base then clampField w F.GLB_ADP_CFG_PCTL 500 999
  else if b = R.TWN_CFG.base then clampField w F.TWN_CFG_SEEN_WAIT 0 1000
  else if b = R.TWN_ATT_B.base then clampField w F.TWN_ATT_B_FORGET 1 0xFFFFF
  else if b = R.DMA_CH_CFG.base then clampField w F.DMA_CH_CFG_SIZE 4 16
  else w

/-! ## Access codes -/

/-- A register holds a field of an access code. -/
def RegSpec.has (r : RegSpec) (a : Acc) : Bool := r.fields.any (fun f => f.acc == a)

/-- The ENABLE that governs the RWE fields of a register (R9). -/
def State.enabled (s : State) (r : RegSpec) (i : Nat) : Bool :=
  let b := r.base
  if 0x800000 ≤ b then s.bit F.PORT_CTRL_ENABLE i
  else if 0xA0000 ≤ b then s.mode != modeMAINTENANCE
  else if 0x81000 ≤ b then (s.get F.PMC_GRP_EN_EN).testBit (i / 64)
  else if 0x80000 ≤ b then s.bit F.PMC_DUMP_CFG_EN
  else if 0x70000 ≤ b then s.bit F.CFF_SESS_CFG_EN i
  else if 0x60000 ≤ b then s.bit F.BPM_POOL_CFG_EN i
  else if 0x50000 ≤ b then s.bit F.DMA_CH_STAT_ENABLE i
  else if 0x30000 ≤ b then s.bit F.INV_TIO_CFG_EN i
  else s.bit F.MGT_WDT_CFG_EN

/-- The RWE fields of a register do not take a write. -/
def State.closed (s : State) (r : RegSpec) (i : Nat) : Bool := r.has .rwe && s.enabled r i

/-- What a write of a register answers: the flags it sets, lowest first, and the state. -/
abbrev WriteRes := List Nat × State

/-- The RW fields, and the RWE fields while ENABLE is 0, take the written values (R9, R12). -/
def State.plainWrite (s : State) (r : RegSpec) (i j : Nat) (data : Word) : WriteRes :=
  let shut := s.closed r i
  let m := accMask r (fun a => a == .rw || (a == .rwe && !shut))
  (if shut then [flGATED] else [], s.setReg r ((s.reg r i j &&& ~~~m) ||| (clampWord r data &&& m)) i j)

/-- A clearing write of an SC register (R9, R11). -/
def State.scWrite (s : State) (r : RegSpec) (i j : Nat) (data : Word) : WriteRes :=
  let w := s.reg r i j
  if getBits data 31 24 = getBits w 31 24 then
    ([], s.setReg r (w &&& ~~~(data &&& accMask r (fun a => a == .sc))) i j)
  else ([flSTALE], s)

/-- A posted write (R9): dropped while BUSY is 1; else the word is the last accepted one and the register's action follows. -/
def State.posted (s : State) (busy : Bool) (r : RegSpec) (i j : Nat) (data : Word) (act : State → State) : WriteRes :=
  if busy then ([flBUSY], s)
  else
    let m := accMask r (fun a => a == .pw)
    ([], act (s.setReg r ((s.reg r i j &&& ~~~m) ||| (data &&& m)) i j))

/-- An action with no flag. -/
def actOnly (s : State) : WriteRes := ([], s)

/-- KEY [15:8] of a key register, and one bit of a word. -/
def keyOf (w : Word) : Nat := getBits w 15 8

/-! ## GLB, RST, MGT -/

/-- Writes of GLB and RST. -/
def State.writeGlb (s : State) (host : Nat) (r : RegSpec) (i j : Nat) (w : Word) : WriteRes :=
  let b := r.base
  if b = R.GLB_SEM.base then actOnly (s.semWrite host i w)
  else if b = R.GLB_DOORBELL.base then actOnly (s.doorbell host (getBits w 7 0))
  else if b = R.GLB_MODE_REQ.base then actOnly (if s.episode then s else s.modeRequest (keyOf w) (getBits w 2 0))
  else if b = R.GLB_MNT_CMD.base then actOnly (s.mntCommand (keyOf w) (getBits w 1 0) (getBits w 6 4))
  else if b = R.RST_CTRL.base then actOnly (s.rstCtrl (keyOf w) (getBits w 1 0))
  else s.plainWrite r i j w

/-- Writes of MGT. -/
def State.writeMgt (s : State) (r : RegSpec) (i j be : Nat) (w : Word) : WriteRes :=
  let b := r.base
  if b = R.MGT_SPI_CMD.base then s.posted s.spiBusy r i j w (fun s => s.spiCmd w)
  else if b = R.MGT_MDIO_CMD.base then s.posted (s.bit F.MGT_MDIO_STAT_BUSY) r i j w (fun s => s.mdioCmd w)
  else if b = R.MGT_WDT_CFG.base then
    ((if s.bit F.MGT_WDT_CFG_EN then [flGATED] else []) ++ (if s.mgt.wdtLocked then [flLOCK] else []), s.wdtCfg w)
  else if b = R.MGT_WDT_KICK.base then actOnly (s.wdtKick (keyOf w))
  else if b = R.MGT_SPI_BUF.base then s.plainWrite r i j (mergeBytes (s.reg r i j) w be)
  else s.plainWrite r i j w

/-! ## INV, TWN -/

/-- A command of Invar; what waits on TD0 is judged again when it steps back (R307). -/
def State.invCmdWrite (s : State) (w : Word) : State :=
  let before := s.now
  let s := s.invCommand (getBits w 3 0) (getBits w 5 4)
  (s.adpRejudge before).dumpRejudge before

/-- A write of INV_TIOi_CFG (R328, R12). -/
def State.tioCfgWrite (s : State) (i : Nat) (w : Word) : WriteRes :=
  let was := s.bit F.INV_TIO_CFG_EN i
  let m := accMask R.INV_TIO_CFG (fun a => a == .rwe)
  let t := if was then s else s.setReg R.INV_TIO_CFG ((s.reg R.INV_TIO_CFG i &&& ~~~m) ||| (w &&& m)) i
  (if was then [flGATED] else [], t.tioCtrl i (getBits w 31 31 == 1) was)

/-- Writes of INV. -/
def State.writeInv (s : State) (r : RegSpec) (i j : Nat) (w : Word) : WriteRes :=
  let b := r.base
  let busy := s.bit F.INV_STAT_BUSY
  if b = R.INV_CMD.base then s.posted busy r i j w (fun s => s.invCmdWrite w)
  else if b = R.INV_TD_RATE_HI.base then s.posted busy r i j w (fun s => s.rateLoad i (getBits w 7 0))
  else if b = R.INV_CYC_CTRL.base then actOnly (s.cycCtrl (getBits w 31 31))
  else if b = R.INV_CYC_CHG.base then actOnly (s.cycChange (keyOf w) (getBits w 0 0 == 1) (getBits w 1 1 == 1))
  else if b = R.INV_TIO_CFG.base then s.tioCfgWrite i w
  else if b = R.INV_PTP_CFG.base then
    let bad := getBits w 1 0 == 3
    actOnly ((s.put F.INV_PTP_CFG_TC_MODE (if bad then 0 else getBits w 1 0) i).evtIf bad F.INV_EVT_CFG_ERR)
  else s.plainWrite r i j w

/-- Writes of TWN (R397, R398). -/
def State.writeTwn (s : State) (r : RegSpec) (i j : Nat) (w : Word) : WriteRes :=
  let b := r.base
  if b = R.TWN_CTRL.base then
    let s := s.put F.TWN_CTRL_FENCE_EN (getBits w 30 30)
    actOnly (if getBits w 31 31 = 1 then (s.put F.TWN_CTRL_EN 1).twinEnable else s.twinDisable)
  else if b = R.TWN_CMD.base then actOnly (s.twinCommand (keyOf w) (getBits w 3 0))
  else s.plainWrite r i j w

/-! ## DMA, BPM, CFF, PMC, IMG, TIN -/

/-- Writes of DMA and BPM. -/
def State.writeDma (s : State) (host : Nat) (r : RegSpec) (i j : Nat) (w : Word) : WriteRes :=
  let b := r.base
  if b = R.DMA_CH_CTRL.base then actOnly (s.dmaCommand i (getBits w 2 0))
  else if b = R.BPM_CMD.base then
    s.posted (s.bit F.BPM_CMD_STAT_BUSY host) r i j w (fun s => s.bpmCommand host (getBits w 2 0))
  else if b = R.BPM_POOL_CFG.base then actOnly (if getBits w 30 30 = 1 then s.poolInit i else s)
  else s.plainWrite r i j w

/-- Writes of CFF. -/
def State.writeCff (s : State) (r : RegSpec) (i j : Nat) (w : Word) : WriteRes :=
  let b := r.base
  if b = R.CFF_MARK.base then actOnly (s.cffMark (keyOf w))
  else if b = R.CFF_REWIND.base then actOnly (s.cffRewind (keyOf w))
  else if b = R.CFF_RELEASE.base then actOnly (s.cffRelease (keyOf w))
  else if b = R.CFF_SESS_CFG.base then (if s.closed r i then [flGATED] else [], s.cffSession i w)
  else if b = R.CFF_CFG.base then actOnly (s.plainWrite r i j w).2.cffShow
  else s.plainWrite r i j w

/-- A write of PMC_DUMP_CFG: EN starts or stops the dump (R527). -/
def State.dumpCfgWrite (s : State) (w : Word) : WriteRes :=
  let was := s.bit F.PMC_DUMP_CFG_EN
  let x := s.plainWrite R.PMC_DUMP_CFG 0 0 w
  let en := getBits w 31 31 == 1
  (x.1, if en && !was then x.2.dumpStart else if !en && was then x.2.dumpStop else x.2)

/-- Writes of PMC. -/
def State.writePmc (s : State) (r : RegSpec) (i j : Nat) (w : Word) : WriteRes :=
  let b := r.base
  if b = R.PMC_CMD.base then actOnly (s.pmcCommand (keyOf w) (getBits w 3 0) (getBits w 23 16))
  else if b = R.PMC_DUMP_CFG.base then s.dumpCfgWrite w
  else
    let x := s.plainWrite r i j w
    let bad := b == R.PMC_EVSEL.base && x.1.isEmpty && !selectorOk (getBits w 31 30) (getBits w 23 16) (getBits w 9 0)
    (x.1, x.2.evtIf bad F.PMC_EVT_CFG_ERR)

/-- Writes of IMG. -/
def State.writeImg (s : State) (host : Nat) (r : RegSpec) (i j : Nat) (w : Word) : WriteRes :=
  let b := r.base
  if b = R.IMG_CTRL.base then actOnly (s.imgCtrl host (keyOf w) (getBits w 1 0))
  else if b = R.IMG_PATCH_CMD.base then
    s.posted (s.bit F.IMG_PATCH_STAT_BUSY) r i j w (fun s => s.patchCmd host (keyOf w) (getBits w 4 0))
  else if b = R.IMG_FUSE_CMD.base then
    s.posted (s.bit F.IMG_FUSE_STAT_BUSY) r i j w (fun s => s.fuseCmd (keyOf w) (getBits w 5 0))
  else if b = R.IMG_CFG.base then (if s.img.patchLocked then [flLOCK] else [], s.patchEn (getBits w 0 0 == 1))
  else s.plainWrite r i j w

/-- The part of a microword that a register of the microcode window holds (R133). -/
def uwPartOf (r : RegSpec) : Nat := (r.base - R.TIN_UW_LO.base) / 4

/-- Writes of TIN. Under BIST a write of the microcode window is ignored (R58). -/
def State.writeTin (s : State) (r : RegSpec) (i j be : Nat) (w : Word) : WriteRes :=
  let b := r.base
  if b = R.TIN_UW_LO.base ∨ b = R.TIN_UW_MID.base ∨ b = R.TIN_UW_HI.base then
    if s.underTest 1 then actOnly s
    else if s.closed r i then ([flGATED], s)
    else
      let t := s.uwWrite i j (uwPartOf r) (mergeBytes (uwPart (s.uword i j) (uwPartOf r)) w be)
      actOnly (if s.bit F.TIN_UCODE_VER_MODIFIED then t
        else { t.evt F.GLB_MODE_STAT_BIST_DIRTY with md := { t.md with dirty := true } })
  else s.plainWrite r i j w

/-! ## LKP, SWC, EGS, POL, PDS, PORT -/

/-- Before the loader first reaches DONE the window commands complete with BAD_OP (R547): the word acted on has an unlisted OP. -/
def State.windowWord (s : State) (w : Word) : Word := if s.loaded then w else w ||| 15

/-- A write of EPOCH_COMMIT accepted by an ACTIVE device also sends the commit to its peer (R185, R413). -/
def State.commitWrite (s : State) (host key : Nat) : State :=
  let t := s.commit key host
  if key = 0x5A ∧ s.replays = true then
    let tc := t.lkp.tc.getD 0
    t.sendCmd 3 0 [((s.epoch + 1) % 65536) * 2 ^ 48 + s.lkp.staged.length * 2 ^ 35,
      ((tc / 1000000000) % 2 ^ 32).toNat * 2 ^ 32 + (tc % 1000000000).toNat, s.stagedCrc]
  else t

/-- Writes of LKP and EPOCH. -/
def State.writeLkp (s : State) (host : Nat) (r : RegSpec) (i j be : Nat) (w : Word) : WriteRes :=
  let b := r.base
  if b = R.LKP_CMD.base then s.posted (s.bit F.LKP_STAT_BUSY i) r i j w (fun s => s.lkpAccept i (s.windowWord w))
  else if b = R.LKP_DATA.base then s.plainWrite r i j (mergeBytes (s.reg r i j) w be)
  else if b = R.EPOCH_COMMIT.base then s.posted (s.bit F.EPOCH_STAT_BUSY) r i j w (fun s => s.commitWrite host (keyOf w))
  else if b = R.EPOCH_DISCARD.base then actOnly (s.discard (keyOf w))
  else s.plainWrite r i j w

/-- A weight write: 0 stores 1 (R260). -/
def weightWord (w : Word) : Word :=
  let w := if getBits w 11 0 = 0 then setBits w 11 0 1 else w
  if getBits w 27 16 = 0 then setBits w 27 16 1 else w

/-- Writes of EGS. -/
def State.writeEgs (s : State) (r : RegSpec) (i j : Nat) (w : Word) : WriteRes :=
  let b := r.base
  if b = R.EGS_GATE_CHG.base then actOnly (s.gateChange i (keyOf w) (getBits w 0 0 == 1) (getBits w 1 1 == 1))
  else if b = R.EGS_GCL_D0.base then actOnly (s.setEg i { s.eg i with d0 := w })
  else if b = R.EGS_GCL_D1.base then actOnly (s.gclWrite i w)
  else if b = R.EGS_SHP_CFG.base then actOnly (s.shpCfg i j w)
  else if b = R.EGS_SHP_BURST.base then actOnly (s.shpBurstWrite i j w)
  else if b = R.EGS_WGT_A.base ∨ b = R.EGS_WGT_B.base ∨ b = R.EGS_WGT_C.base then
    actOnly ((s.plainWrite r i j (weightWord w)).2.weightsFollow i)
  else if b = R.EGS_GATE_CFG.base then actOnly ((s.plainWrite r i j w).2.gateUpdate i)
  else if b = R.EGS_HOLD_ADV.base then (s.holdAdvNote i).plainWrite r i j w
  else s.plainWrite r i j w

/-- Writes of POL. -/
def State.writePol (s : State) (host : Nat) (r : RegSpec) (i j be : Nat) (w : Word) : WriteRes :=
  let b := r.base
  if b = R.POL_CMD.base then s.posted (s.bit F.POL_STAT_BUSY) r i j w (fun s => s.polAccept (s.windowWord w) host)
  else if b = R.POL_DATA.base then s.plainWrite r i j (mergeBytes (s.reg r i j) w be)
  else if b = R.POL_SGS_CHG.base then actOnly (s.schedChange i (keyOf w) (getBits w 0 0 == 1) (getBits w 1 1 == 1))
  else s.plainWrite r i j w

/-- The bytes of a word that byte enables choose, into the service SRAM, least significant first; under BIST the write is
ignored (R58, R383; log entry 40). -/
def State.sramWord (s : State) (a be : Nat) (w : Word) : State :=
  if s.underTest 3 then s
  else (List.range 4).foldl (fun s k => if be.testBit k then s.sramPut (a + k) (BitVec.ofNat 8 (getBits w (8 * k + 7) (8 * k))) else s) s

/-- Writes of PDS. -/
def State.writePds (s : State) (host : Nat) (r : RegSpec) (i j be : Nat) (w : Word) : WriteRes :=
  let b := r.base
  if b = R.PDS_CMD.base then s.posted (s.bit F.PDS_CMD_STAT_BUSY) r i j w (fun s => s.pdsAccept (s.windowWord w) host)
  else if b = R.PDS_DATA.base then s.plainWrite r i j (mergeBytes (s.reg r i j) w be)
  else if b = R.PDS_SRAM_WINDOW.base then actOnly (s.sramWord (65536 * s.get F.PDS_SRAM_PAGE_PAGE + 4 * i) be w)
  else s.plainWrite r i j w

/-- Writes of PORT. -/
def State.writePort (s : State) (r : RegSpec) (i j : Nat) (w : Word) : WriteRes :=
  let b := r.base
  if b = R.PORT_CTRL.base then actOnly (s.portCtrl i w)
  else if b = R.PORT_MODE.base then if s.closed r i then ([flGATED], s) else actOnly (s.portMode i w)
  else if b = R.PORT_FC_CFG.base then actOnly (s.fcConfig i w)
  else if b = R.PORT_WM_PORT_HI.base then actOnly (s.fcHi i 8 w)
  else if b = R.PORT_WM_HI.base then actOnly (s.fcHi i j w)
  else if b = R.PORT_MM_CFG.base then
    let x := s.plainWrite r i j w
    (x.1, x.2.mmShow i)
  else s.plainWrite r i j w

/-- A write of a register that has passed the checks of the access as a whole: field by field under the access codes (R9, R606). -/
def State.regWrite (s : State) (host : Nat) (r : RegSpec) (i0 j0 be : Nat) (w : Word) : WriteRes :=
  let k := regIdx r host i0 j0
  let i := k.1
  let j := k.2
  let b := r.base
  if r.has .sc then s.scWrite r i j w
  else if b < 0x20000 then s.writeGlb host r i j w
  else if b < 0x30000 then s.writeMgt r i j be w
  else if b < 0x40000 then s.writeInv r i j w
  else if b < 0x50000 then s.writeTwn r i j w
  else if b < 0x70000 then s.writeDma host r i j w
  else if b < 0x80000 then s.writeCff r i j w
  else if b < 0x90000 then s.writePmc r i j w
  else if b < 0xA0000 then s.writeImg host r i j w
  else if b < 0x100000 then s.writeTin r i j be w
  else if b < 0x200000 then s.writeLkp host r i j be w
  else if b < 0x300000 then s.plainWrite r i j w
  else if b < 0x400000 then s.writeEgs r i j w
  else if b < 0x500000 then s.writePol host r i j be w
  else if b < 0x800000 then s.writePds host r i j be w
  else s.writePort r i j w

/-! ## The checks of an access (R436, R437, R606) -/

/-- The region of the write mask that holds an offset (R436). -/
def maskRegion (a : Nat) : Nat :=
  if 0x800000 ≤ a then
    let p := (a - 0x800000) / 0x10000
    if p < 32 then 16 else if p < 64 then 17 else 18
  else if 0x500000 ≤ a then if 0x510000 ≤ a ∧ a < 0x520000 then 19 else 15
  else if 0x400000 ≤ a then 14
  else if 0x300000 ≤ a then 13
  else if 0x200000 ≤ a then 12
  else if 0x100000 ≤ a then 11
  else if 0xA0000 ≤ a then 10
  else a / 0x10000

/-- The always-permitted set (R437). -/
def alwaysPermitted (a : Nat) : Bool :=
  decide (R.GLB_SEM.base ≤ a ∧ a < R.GLB_SEM.base + 256) || a == R.GLB_ACC_ERR.base || a == R.GLB_DOORBELL.base
    || a == R.GLB_DB_STAT.base || a == R.GLB_INT_CFG.base || decide (0x8000 ≤ a ∧ a < 0x8400) || decide (0x8800 ≤ a ∧ a < 0x8808)
    || a == R.MGT_WDT_KICK.base

/-- The write mask of a host lets a write through; before the loader first reaches DONE both masks are all ones (R547). -/
def State.maskOk (s : State) (host a : Nat) : Bool :=
  let m := if host = 0 then s.get F.GLB_WMASK_HA_REGION else s.get F.GLB_WMASK_HB_REGION
  !s.loaded || alwaysPermitted a || m.testBit (maskRegion a)

/-- A register takes 8- and 16-bit writes (R15, R465). -/
def narrowOk (r : RegSpec) : Bool :=
  let b := r.base
  b == R.LKP_DATA.base || b == R.POL_DATA.base || b == R.PDS_DATA.base || b == R.TIN_UW_LO.base || b == R.TIN_UW_MID.base
    || b == R.TIN_UW_HI.base || b == R.TIN_UW_ECC.base || b == R.PDS_SRAM_WINDOW.base || b == R.MGT_SPI_BUF.base

/-- A register of the mirrored set (R411). -/
def mirrored (r : RegSpec) : Bool :=
  let b := r.base
  let writable := r.fields.any (fun f => f.acc == .rw || f.acc == .rwe || f.acc == .wo || f.acc == .pw)
  writable && (decide (0x800000 ≤ b ∧ b ≠ R.PORT_LANE.base ∧ b ≠ R.PORT_TX_EQ.base)
    || decide (0x100000 ≤ b ∧ b < 0x800000 ∧ b ≠ R.EPOCH_COMMIT.base) || decide (0x30000 ≤ b ∧ b < 0x40000))

/-- The device ignores writes of the mirrored set (R412). -/
def State.ignoresMirrored (s : State) : Bool :=
  s.role == rolePAIRING || s.role == roleSYNC || s.role == roleSHADOW || s.role == roleSTANDBY

/-- A register of the microcode window or of the service SRAM window (R547). -/
def bulkWindow (r : RegSpec) : Bool :=
  r.base == R.TIN_UW_LO.base || r.base == R.TIN_UW_MID.base || r.base == R.TIN_UW_HI.base || r.base == R.PDS_SRAM_WINDOW.base

/-- A write was accepted in part at least: a flag for every field it reaches means that it was not (R411). -/
def accepted (r : RegSpec) (flags : List Nat) : Bool :=
  !flags.contains flBUSY && !(flags.contains flGATED && !r.has .rw)

/-- The mirrored write is sent to the peer (R411). -/
def State.mirror (s : State) (host a be : Nat) (r : RegSpec) (flags : List Nat) (w : Word) : State :=
  if s.replays && mirrored r && accepted r flags then
    s.sendCmd 1 (be * 2 ^ 26 + host * 2 ^ 25) [w.toNat * 2 ^ 32 + a]
  else s

/-- A write of a register at an offset, after the checks of the access as a whole. `bar` and `off` are what the capture shows, with the data `shown`. -/
def State.regWriteAt (s : State) (host bar off a be : Nat) (r : RegSpec) (i j : Nat) (w shown : Word) : State :=
  if mirrored r && s.ignoresMirrored then (s.twnCnt 13).evt F.TWN_EVT_WR_STANDBY
  else if !s.loaded && bulkWindow r then s
  else
    let x := s.regWrite host r i j be w
    (x.2.accErr x.1 host bar off be true shown).mirror host a be r x.1 w

/-- The RSVD bits after a write of `w` under STRICT decode (R17): bits written back as they are stay, others take what the device makes of
the write. COMPACT decode ignores writes of them (R18), and a write that is refused as a whole reaches no bit. `t`: the state after the
write of the register's fields. -/
def State.rsvdWrite (s t : State) (host : Nat) (r : RegSpec) (i j be : Nat) (w : Word) : State :=
  let k := r.off (regIdx r host i j).1 (regIdx r host i j).2
  let d := (s.rsvdHeld host r i j ^^^ w) &&& r.rsvdMask &&& beMask be
  let flags := (s.regWrite host r i j be w).1
  if s.compact || d == 0 || (mirrored r && s.ignoresMirrored) || (!s.loaded && bulkWindow r) || flags.contains flBUSY || flags.contains flSTALE then t
  else
    let v := (s.rsvdHeld host r i j &&& ~~~ d) ||| (Config.rsvdTaken k (s.rsvdHeld host r i j) (w &&& r.rsvdMask) &&& d)
    { t with rsvd := tabSet 0 t.rsvd k v }

/-- A 32-bit write (or a narrower one within a word, by its byte enables) at an aligned offset: MASK, UNIMP, WIDTH, then the fields. -/
def State.writeWord (s : State) (host off be : Nat) (w : Word) : State :=
  if s.gated off then s
  else
    let a := s.decoded off
    if !s.maskOk host a then s.accErr [flMASK] host 0 off be true w
    else match (if cffWindow a then none else regAt a) with
      | none => if s.compact then s else s.accErr [flUNIMP] host 0 off be true w
      | some (r, i, j) =>
        if be ≠ 15 ∧ narrowOk r = false then s.accErr [flWIDTH] host 0 off be true w
        else s.rsvdWrite (s.regWriteAt host 0 off a be r i j w w) host r i j be w

/-- Words from a BAR0 offset on, in ascending order, each written with its own checks and effects (R15). -/
def State.writeWords (s : State) (host : Nat) : Nat → List Word → State
  | _, [] => s
  | off, w :: rest => (s.writeWord host off 15 w).writeWords host (off + 4) rest

/-- A write of BAR0. One that crosses a 4-byte boundary ends with completer abort and has no effect but ALIGN (R15). -/
def State.hostWrite (s : State) (host off : Nat) (w : Width) (data : BitVec 64) : State :=
  if s.hostsDead then s
  else
    let s := s.hostSeen host
    let lo := data.setWidth 32
    let hi := (data >>> 32).setWidth 32
    if crosses off w then (s.accErr [flALIGN] host 0 off (byteEnables off w) true lo).emit (.abort host)
    else match w with
      | .w64 => (s.writeWord host off 15 lo).writeWord host (off + 4) 15 hi
      | .burst rest => s.writeWords host off (lo :: hi :: rest)
      | _ => s.writeWord host (off - off % 4) (byteEnables off w) (lo <<< (8 * (off % 4)))

/-- A 32-bit write of one known register, as a row of the command table names it: the reach of its block and the write mask apply. -/
def State.rowWrite (s : State) (host : Nat) (r : RegSpec) (i j : Nat) (w : Word) : State :=
  if s.hostsDead then s
  else
    let s := s.hostSeen host
    let a := r.base + (r.off i j - r.off 0 0)
    if s.gated a then s
    else if !s.maskOk host a then s.accErr [flMASK] host 0 a 15 true w
    else s.regWriteAt host 0 a a 15 r i j w w

/-! ## The bit-alias window (R446 to R448) -/

/-- The field of a register that holds a bit. -/
def RegSpec.fieldAt (r : RegSpec) (b : Nat) : Option FieldSpec := r.fields.find? (fun f => decide (f.lo ≤ b ∧ b ≤ f.hi))

/-- A write of one bit of a register through BAR2 whose flags are those of the bit's own field. -/
def State.aliasField (s : State) (host off a : Nat) (r : RegSpec) (i j : Nat) (w data : Word) (own : Nat → Bool) : State :=
  if mirrored r && s.ignoresMirrored then (s.twnCnt 13).evt F.TWN_EVT_WR_STANDBY
  else
    let x := s.regWrite host r i j 15 w
    let flags := x.1.filter own
    (x.2.accErr flags host 1 off 15 true data).mirror host a 15 r flags w

/-- A write of one RWE bit of MGT_WDT_CFG: its EN takes no write. -/
def State.wdtBit (s : State) (host off : Nat) (w data : Word) : State :=
  if s.bit F.MGT_WDT_CFG_EN then s.accErr [flGATED] host 1 off 15 true data
  else s.setReg R.MGT_WDT_CFG (clampField w F.MGT_WDT_CFG_TIMEOUT 1 65535)

/-- An alias write of one bit, by the access code of the field that holds it (R447): the word written for it leaves every other field as it
is, and a closed RWE field beside the bit does not take part. -/
def State.aliasReg (s : State) (host off a : Nat) (r : RegSpec) (i j b : Nat) (data : Word) : State :=
  let k := regIdx r host i j
  let old := s.reg r k.1 k.2
  let v := getBits data 0 0
  let put := setBits old b b v
  let send := fun (w : Word) (own : Nat → Bool) => s.aliasField host off a r i j w data own
  match r.fieldAt b with
  | none => s
  | some f =>
    match f.acc with
    | .ro => s
    | .rc => s
    | .sc => if v = 0 then s else send ((data &&& 0xFF000000) ||| BitVec.ofNat 32 (2 ^ b)) (fun _ => true)
    | .wo => if v = 0 then s else send (setBits old b b 1) (fun _ => true)
    | .pw => send put (fun _ => true)
    | .rwe => if r.base = R.MGT_WDT_CFG.base then s.wdtBit host off put data else send put (fun g => g == flGATED)
    | .wol => send put (fun g => g == flLOCK)
    | .rw => send put (fun _ => false)

/-- A 32-bit write of BAR2, or a narrower one, which sets WIDTH (R447, R448): MASK, UNIMP, WIDTH, then the field of the bit. -/
def State.aliasPut (s : State) (host off be : Nat) (data : Word) : State :=
  let a0 := off / 128 * 4
  if s.gated a0 then s
  else
    let a := s.decoded a0
    if !s.maskOk host a then s.accErr [flMASK] host 1 off be true data
    else match regAt a with
      | none => if s.compact then s else s.accErr [flUNIMP] host 1 off be true data
      | some (r, i, j) =>
        if be ≠ 15 then s.accErr [flWIDTH] host 1 off be true data
        else s.aliasReg host off a r i j (off % 128 / 4) data

/-- Alias writes from a BAR2 offset on, in ascending order (R448). -/
def State.aliasPuts (s : State) (host : Nat) : Nat → List Word → State
  | _, [] => s
  | off, w :: rest => (s.aliasPut host off 15 w).aliasPuts host (off + 4) rest

/-- ALIAS_WRITE: a write of BAR2. -/
def State.aliasWrite (s : State) (host off : Nat) (w : Width) (data : BitVec 64) : State :=
  if s.hostsDead then s
  else
    let s := s.hostSeen host
    let lo := data.setWidth 32
    let hi := (data >>> 32).setWidth 32
    if crosses off w then (s.accErr [flALIGN] host 1 off (byteEnables off w) true lo).emit (.abort host)
    else match w with
      | .w64 => (s.aliasPut host off 15 lo).aliasPut host (off + 4) 15 hi
      | .burst rest => s.aliasPuts host off (lo :: hi :: rest)
      | _ => s.aliasPut host (off - off % 4) (byteEnables off w) (lo <<< (8 * (off % 4)))

/-- A host's write of one of its windows (R431). A write of BAR4 is ignored (R449), but for one that crosses a 4-byte boundary (R15,
log entry 117). -/
def State.busWrite (s : State) (host : Nat) (bar : Bar) (off : Nat) (w : Width) (data : BitVec 64) : State :=
  match bar with
  | .bar0 => s.hostWrite host off w data
  | .bar2 => s.aliasWrite host off w data
  | .bar4 =>
    if s.hostsDead || !crosses off w then s
    else ((s.hostSeen host).accErr [flALIGN] host 2 off (byteEnables off w) true (data.setWidth 32)).emit (.abort host)

/-! ## What a twin applies (R411, R413, R425) -/

/-- A mirrored write applies on the STANDBY with the access rules and side effects of a write; LOOPBACK and PCS_RESET are its own. -/
def State.mirrorApply (s : State) (a : Nat) (w : Word) (be host : Nat) : State :=
  match regAt a with
  | none => s
  | some (r, i, j) =>
    let w := if r.base = R.PORT_CTRL.base then setBits (setBits w 6 4 (s.get F.PORT_CTRL_LOOPBACK i)) 0 0 0 else w
    let x := s.regWrite host r i j be w
    s.rsvdWrite (x.2.accErr x.1 host 0 a be true w) host r i j be w

/-- MIRRORED_WRITE_APPLY: the oldest twin command acts 1,875 CCLK after its acceptance cycle. -/
def State.mirroredApply (s : State) : State :=
  match s.twn.cmds with
  | [] => s
  | (arr, c) :: rest =>
    let d := ((s.tcc : Int) - arr) % 2 ^ 48
    if d < 1875 ∨ 2 ^ 47 ≤ d then s
    else
      let s := s.setTwn { s.twn with cmds := rest }
      match c with
      | .write off data be host => s.mirrorApply off data be host
      | .mode target => s.modeAccept target
      | .commit epoch k tsec tns crc => s.twinCommit epoch k tsec tns crc

/-- A piece of state of a warm join takes the place of the device's own (R425). -/
def State.syncItem (s : State) (x : SyncItem) : State :=
  match x with
  | .slot t i v => s.setSlot t i v
  | .staged l => { s with lkp := { s.lkp with staged := l } }
  | .reg off w =>
    match regAt off.toNat with
    | some (r, i, j) => s.setReg r w i j
    | none => s
  | .epoch tc p => { s with lkp := { s.lkp with tc := tc, ptr := p } }
  | .learn l => { s with lkp := { s.lkp with learnQ := l } }
  | .meter k v => s.setMeter k v
  | .filter k v => s.setFilter k v
  | .gate k v => s.setGate k v
  | .schedule k v => s.setSched k v
  | .pdsSlot i v => s.setPslot i v
  | .pdsGroup i m => s.setPds { s.pds with groups := tabSet 0 s.pds.groups i m }
  | .pdsFanOut i v => s.setFanout i v
  | .pdsTemplate i m => s.setPds { s.pds with templates := tabSet 0 s.pds.templates i m }
  | .pdsLink i v => s.setLink i v
  | .sram a b => s.sramWrite a b
  | .egress p v => s.setEg p v
  | .cycle n b p => { s with inv := { s.inv with cycNext := n, cycBase := b, cycPend := p } }
  | .pin i v => s.setTio i v

/-- SYNC_STATE_COPY (R425): what one message carries was read in one cycle, and applies at that cycle plus 1,875. -/
def State.syncCopy (s : State) (lseq cycle : Nat) (items : List SyncItem) : State :=
  let s := s.takeLseq 7 lseq
  if s.role = roleSHADOW ∨ s.role = roleSYNC then s.setTwn { s.twn with syncs := s.twn.syncs ++ [(cycle, items)] } else s

/-- The messages whose cycle has come apply (R425). -/
def State.syncDue (s : State) : State :=
  let due := fun (e : Nat × List SyncItem) => decide (1875 ≤ (s.tcc + 2 ^ 48 - e.1) % 2 ^ 48 ∧ (s.tcc + 2 ^ 48 - e.1) % 2 ^ 48 < 2 ^ 47)
  (s.twn.syncs.filter due).foldl (fun s e => e.2.foldl State.syncItem s) (s.setTwn { s.twn with syncs := s.twn.syncs.filter (fun e => !due e) })

/-! ## The state transfer of a warm join (R425) -/

/-- A register whose contents a SYNC message carries: the mirrored ones, and those of spaces 1 to 4 that the device itself sets. -/
def syncReg (a : Nat) : Bool :=
  decide (0x30000 ≤ a ∧ a < 0x40000) || (decide (0x100000 ≤ a ∧ a < 0x1000000) && (regAt a).any (fun e => e.1.base != R.PORT_LANE.base && e.1.base != R.PORT_TX_EQ.base))

/-- The pieces of state that a joining device needs, in the order of R425's spaces. -/
def State.syncItems (s : State) : List SyncItem :=
  s.lkp.slots.map (fun e => .slot (e.1 / 2 ^ 20) (e.1 % 2 ^ 20) e.2) ++ [.staged s.lkp.staged, .epoch s.lkp.tc s.lkp.ptr, .learn s.lkp.learnQ]
    ++ s.pol.meters.map (fun e => .meter e.1 e.2) ++ s.pol.filters.map (fun e => .filter e.1 e.2) ++ s.pol.gates.map (fun e => .gate e.1 e.2)
    ++ s.pol.scheds.map (fun e => .schedule e.1 e.2)
    ++ s.pds.slots.map (fun e => .pdsSlot e.1 e.2) ++ s.pds.groups.map (fun e => .pdsGroup e.1 e.2)
    ++ s.pds.fanouts.map (fun e => .pdsFanOut e.1 e.2) ++ s.pds.templates.map (fun e => .pdsTemplate e.1 e.2)
    ++ s.pds.links.map (fun e => .pdsLink e.1 e.2)
    ++ (s.sram.filter (fun e => !s.sramPooled e.1)).map (fun e => .sram e.1 [e.2])
    ++ (s.regs.filter (fun e => syncReg e.1)).map (fun e => .reg (BitVec.ofNat 24 e.1) e.2)
    ++ s.egs.map (fun e => .egress e.1 e.2) ++ [.cycle s.inv.cycNext s.inv.cycBase s.inv.cycPend] ++ s.inv.tio.map (fun e => .pin e.1 e.2)

/-- A SOLO device whose peer has reached SHADOW sends its state, once (R398, R425). -/
def State.syncTransfer (s : State) : State :=
  if s.role = roleSOLO ∧ s.replays = true ∧ s.twn.synced = false then
    let items := s.syncItems
    items.foldl (fun s x => s.linkQueue { type := 7, h := 0, pl := [], arr := some s.tcc, sync := [x] }) (s.setTwn { s.twn with synced := true })
  else s

/-- What a frame stamped before the cut of a join has changed in the tables and policers is sent as an UPDATE (R425, space 5). -/
def State.syncUpdate (s before : State) (time : Int) : State :=
  if s.role = roleSOLO ∧ s.replays = true ∧ time < s.twn.cutTime then
    let items : List SyncItem :=
      (s.lkp.slots.filter (fun e => tabGet {} before.lkp.slots e.1 != e.2)).map (fun e => .slot (e.1 / 2 ^ 20) (e.1 % 2 ^ 20) e.2)
        ++ (s.pol.meters.filter (fun e => tabGet {} before.pol.meters e.1 != e.2)).map (fun e => .meter e.1 e.2)
        ++ (s.pol.filters.filter (fun e => tabGet {} before.pol.filters e.1 != e.2)).map (fun e => .filter e.1 e.2)
        ++ (s.pol.gates.filter (fun e => tabGet {} before.pol.gates e.1 != e.2)).map (fun e => .gate e.1 e.2)
    items.foldl (fun s x => s.linkQueue { type := 7, h := 5 * 2 ^ 40, pl := [], arr := some s.tcc, sync := [x] }) s
  else s

/-- The changes that frame `k` made in a stage, and those of the oldest learning request (R425). `before` is the state before the stage. -/
def State.syncFrame (s before : State) (k : Option Nat) : State :=
  match k.bind before.frame with
  | some f => s.syncUpdate before f.time
  | none => s
def State.syncLearn (s before : State) : State :=
  match before.lkp.learnQ with
  | r :: _ => s.syncUpdate before r.time
  | [] => s

end Sys2Proof.Machine
end

