-- ==== Sys2Proof/Machine/Finish.lean ====
section
/-! DEFINITION. How the meaning of a command ends, the words that the rows of the command table write to registers, and the operations that
several parts of the block take in one command. -/

namespace Sys2Proof.Machine

/-- The state in which a command ends: vectors that have stopped being pending are armed again in the same cycle (R452), and the queue of
commands is as it was. -/
def settled (before after : State) : State := { after.vectorsSettle with pending := before.pending }

/-- A command ends. -/
def finish (before after : State) : Host.Outcome State Fault Refusal := .next (settled before after)

/-! ## Words -/

/-- A word from a number. -/
def word (n : Nat) : Word := BitVec.ofNat 32 n

/-- KEY 0x5A in [15:8] over the low bits of a key register. -/
def keyWord (low : Nat) : Word := word (0x5A00 + low)

/-- LKP_CMDw: OP, TABLE and VER (R172). -/
def lkpWord (op table : Nat) (ver : Bool) : Word := word (op + table * 16 + (if ver then 256 else 0))

/-- POL_CMD: OP, TABLE and VER (R281). -/
def polWord (op table : Nat) (ver : Bool) : Word := word (op + table * 16 + (if ver then 64 else 0))

/-- GLB_MNT_CMD: OP and MEM (R57). -/
def mntWord (op mem : Nat) : Word := keyWord (op + mem * 16)

/-- PORT_CTRL: ENABLE, LOOPBACK and PCS_RESET (R104). -/
def portCtrlWord (en : Bool) (loopback : Nat) (reset : Bool) : Word :=
  word ((if en then 2 ^ 31 else 0) + loopback * 16 + (if reset then 1 else 0))

/-- MGT_SPI_CMD (R458). -/
def spiWord (write : Bool) (len dummy abytes op : Nat) : Word :=
  word ((if write then 2 ^ 25 else 0) + len * 2 ^ 16 + dummy * 2 ^ 11 + abytes * 2 ^ 8 + op)

/-- MGT_MDIO_CMD (R460). -/
def mdioWord (bus : Nat) (c45 : Bool) (op phy reg data : Nat) : Word :=
  word (bus * 2 ^ 30 + (if c45 then 2 ^ 29 else 0) + op * 2 ^ 27 + phy * 2 ^ 22 + reg * 2 ^ 17 + data)

/-- PMC_CMD: MASK, KEY and OP (R522). -/
def pmcWord (op mask : Nat) : Word := keyWord (op + mask * 2 ^ 16)

/-! ## Operations of several parts -/

/-- The bytes of an operand reach the frame that a MAC receives. -/
def State.arrive (s : State) (p : Nat) (pre : Bool) (b : List Byte) : State :=
  s.lineBytes p pre b

/-- The start delimiter of a fragment as its kind, frame count and fragment count. -/
def smdParts : Smd → Option (Bool × Nat × Nat)
  | .start f => some (true, f.val, 0)
  | .cont f c => some (false, f.val, c.val)
  | .unknown => none

/-- FRAGMENT_RECEIVE. -/
def State.fragmentIn (s : State) (p : Nat) (f : Fragment) : State :=
  s.fragment p (smdParts f.smd) f.bytes f.last f.sig.code f.sig.oddNibble f.sig.blocks

/-- CELL_READ: a control memory's error met on the read acts first; what the Dvorfaza channel has read goes out (R205, R232, R404). -/
def State.cellReads (s : State) (reqs : List ReadReq) (ctl : Option CtlError) : State :=
  let s := match ctl with
    | some e => s.controlError e.mem.val e.index.toNat e.list.val e.reach
    | none => s
  (s.readSlot reqs).fwdBodies

/-- GATE_CHANGE_TIME: a list that changes ends the interval changes that wait (R391). -/
def State.gateChanged (s : State) (p : Nat) : State :=
  let t := s.gateChangeTime p
  if (s.eg p).pend.isSome && (t.eg p).pend.isNone then t.adpListChanged p else t

/-- What waits on TD0 is judged again after a command that may set TD0 back (R307, R527). -/
def State.rejudged (t : State) (before : Int) : State := (t.adpRejudge before).dumpRejudge before

/-- CYCLE_START: a due start is issued; the PDS begins its cycle (R338), or starts after a wake (R53). -/
def State.cycleStart (s : State) : State :=
  match s.cycDue with
  | none => s
  | some (t, _, _) =>
    let x := s.cycTick
    if x.1 then (x.2.pdsCycleStart t).wakePds else s

/-- CYCLE_CHANGE_TIME: the change takes effect, and its first start may fall in the same tick (R326). -/
def State.cycleChanged (s : State) : State :=
  let x := s.cycChangeTime
  match x.2.inv.cycNext with
  | some n => if x.1 then (x.2.pdsCycleStart (n - x.2.get F.INV_CYC_OPER_PERIOD_PERIOD)).wakePds else x.2
  | none => x.2

/-- TIME_DOMAIN_TICK: the four domains advance; the lag, the eligibility of the weighted queues, the pause meters, the MAC control frames
that are being sent and the watchdog count with the tick (R103, R301, R305, R405, R258, R98, R462). The Dvorfaza transmitter serves what
waits for it (R403), and SYNC messages whose cycle has come apply (R425). -/
def State.timeTick (s : State) : State :=
  let s := s.linkServe
  let s := (s.invEnd.rejudged s.now).tickDomains.lagTick (s.dom 0)
  let s := s.syncDue
  let s := s.groupPorts.foldl State.tagLooks s
  (((List.range 72).foldl State.pauseTick s).controlsSent).wdtStep

/-- SHAPER_TOKEN_ACCRUAL: every enabled shaper of every port (R263). -/
def State.shapersTick (s : State) : State :=
  (List.range 72).foldl (fun s p => (List.range 8).foldl (fun s q => s.shpTick p q) s) s

/-- FUSE_PROGRAM: the state of the programming supply, then the key write (R542). -/
def State.fuseProgram (s : State) (host word : Nat) (vpp : Bool) : State :=
  (s.put F.IMG_FUSE_STAT_VPP (if vpp then 1 else 0)).rowWrite host R.IMG_FUSE_CMD 0 0 (keyWord word)

/-- The register and index of a flow-control release: the mode word, the port's own watermark (8) or that of a priority (R97). -/
def State.fcWrite (s : State) (host p : Nat) (target : Option Nat) (data : Word) : State :=
  match target with
  | none => s.rowWrite host R.PORT_FC_CFG p 0 data
  | some k => if k = 8 then s.rowWrite host R.PORT_WM_PORT_HI p 0 data else s.rowWrite host R.PORT_WM_HI p k data

end Sys2Proof.Machine
end

