-- ==== Sys2Proof/Machine/ExecDma.lean ====
section
/-! DEFINITION. The meanings of the commands of DMA channels, buffer pools and the capture FIFO. -/

namespace Sys2Proof.Machine

/-- DMA_START (R478). -/
def execDmaStart (h : HostId) (n : Fin 16) (s : State) : Host.Outcome State Fault Refusal :=
  finish s (s.rowWrite (hostNum h) R.DMA_CH_CTRL n.val 0 1)

/-- DMA_PAUSE (R483). -/
def execDmaPause (h : HostId) (n : Fin 16) (s : State) : Host.Outcome State Fault Refusal :=
  finish s (s.rowWrite (hostNum h) R.DMA_CH_CTRL n.val 0 2)

/-- DMA_PAUSED (R483). -/
def execDmaPaused (n : Fin 16) (s : State) : Host.Outcome State Fault Refusal :=
  finish s (s.chPaused n.val)

/-- DMA_RESUME (R478). -/
def execDmaResume (h : HostId) (n : Fin 16) (s : State) : Host.Outcome State Fault Refusal :=
  finish s (s.rowWrite (hostNum h) R.DMA_CH_CTRL n.val 0 3)

/-- DMA_STOP (R478). -/
def execDmaStop (h : HostId) (n : Fin 16) (s : State) : Host.Outcome State Fault Refusal :=
  finish s (s.rowWrite (hostNum h) R.DMA_CH_CTRL n.val 0 4)

/-- DMA_TAIL_WRITE (R467). -/
def execDmaTailWrite (h : HostId) (n : Fin 16) (tail : BitVec 16) (s : State) : Host.Outcome State Fault Refusal :=
  finish s (s.rowWrite (hostNum h) R.DMA_CH_TAIL n.val 0 (word tail.toNat))

/-- DESCRIPTOR_FETCH (R467). -/
def execDescriptorFetch (n : Fin 16) (descs : List (BitVec 256)) (s : State) : Host.Outcome State Fault Refusal :=
  finish s (s.descFetch n.val descs)

/-- H2D (R470). -/
def execH2d (n : Fin 16) (data : List Byte) (s : State) : Host.Outcome State Fault Refusal :=
  finish s (s.h2d n.val data)

/-- D2H (R470). -/
def execD2h (n : Fin 16) (len : Nat) (data : List Byte) (s : State) : Host.Outcome State Fault Refusal :=
  finish s (s.d2h n.val len data)

/-- TX_SW (R474). -/
def execTxSw (n : Fin 16) (data : List Byte) (s : State) : Host.Outcome State Fault Refusal :=
  finish s (s.txRead n.val 3 data)

/-- TX_DIR (R474). -/
def execTxDir (n : Fin 16) (data : List Byte) (s : State) : Host.Outcome State Fault Refusal :=
  finish s (s.txRead n.val 4 data)

/-- TX_LAUNCH (R474). -/
def execTxLaunch (n : Fin 16) (data : List Byte) (s : State) : Host.Outcome State Fault Refusal :=
  finish s (s.txRead n.val 5 data)

/-- RX (R476). -/
def execRx (n : Fin 16) (len : Nat) (s : State) : Host.Outcome State Fault Refusal :=
  finish s (s.rx n.val len)

/-- DESCRIPTOR_COMPLETE (R481). -/
def execDescriptorComplete (n : Fin 16) (same : Bool) (s : State) : Host.Outcome State Fault Refusal :=
  finish s (s.descComplete n.val same)

/-- BEAT_GRANT (R480). -/
def execBeatGrant (h : HostId) (write : Bool) (s : State) : Host.Outcome State Fault Refusal :=
  finish s (s.beatGrant (hostNum h) write)

/-- BUS_ERROR (R484). -/
def execBusError (h : HostId) (kind : Fin 4) (fetch : Bool) (addr : BitVec 64) (s : State) : Host.Outcome State Fault Refusal :=
  finish s (s.busError (hostNum h) kind.val fetch addr.toNat)

/-- BPM_ALLOC (R490). -/
def execBpmAlloc (h : HostId) (s : State) : Host.Outcome State Fault Refusal :=
  finish s (s.rowWrite (hostNum h) R.BPM_CMD 0 0 1)

/-- BPM_RELEASE (R491). -/
def execBpmRelease (h : HostId) (s : State) : Host.Outcome State Fault Refusal :=
  finish s (s.rowWrite (hostNum h) R.BPM_CMD 0 0 2)

/-- BPM_ADD (R491). -/
def execBpmAdd (h : HostId) (s : State) : Host.Outcome State Fault Refusal :=
  finish s (s.rowWrite (hostNum h) R.BPM_CMD 0 0 3)

/-- BPM_QUERY (R494). -/
def execBpmQuery (h : HostId) (s : State) : Host.Outcome State Fault Refusal :=
  finish s (s.rowWrite (hostNum h) R.BPM_CMD 0 0 4)

/-- POOL_INIT (R488). -/
def execPoolInit (h : HostId) (k : Fin 8) (s : State) : Host.Outcome State Fault Refusal :=
  finish s (s.rowWrite (hostNum h) R.BPM_POOL_CFG k.val 0 (word (2 ^ 30)))

/-- POOL_READY (R488). -/
def execPoolReady (k : Fin 8) (s : State) : Host.Outcome State Fault Refusal :=
  finish s (s.poolReady k.val)

/-- CACHE_REFILL (R489). -/
def execCacheRefill (k : Fin 8) (data : List Word) (s : State) : Host.Outcome State Fault Refusal :=
  finish s (s.cacheRefill k.val data)

/-- CACHE_SPILL (R489). -/
def execCacheSpill (k : Fin 8) (s : State) : Host.Outcome State Fault Refusal :=
  finish s (s.cacheSpill k.val)

/-- FIFO_TAKE (R505). -/
def execFifoTake (bad : Option (Fin 125)) (s : State) : Host.Outcome State Fault Refusal :=
  finish s (s.fifoTake (bad.map Fin.val))

/-- FIFO_RECORD_COMPLETE (R512). -/
def execFifoRecordComplete (s : State) : Host.Outcome State Fault Refusal :=
  finish s (s.cffComplete)

/-- FIFO_WINDOW_READ (R510). -/
def execFifoWindowRead (h : HostId) (flip : BitVec 48) (s : State) : Host.Outcome State Fault Refusal :=
  finish s (s.hostRead (hostNum h) R.CFF_WINDOW.base .w32 flip)

/-- CFF_MARK (R508). -/
def execCffMark (h : HostId) (s : State) : Host.Outcome State Fault Refusal :=
  finish s (s.rowWrite (hostNum h) R.CFF_MARK 0 0 (keyWord 0))

/-- CFF_REWIND (R508). -/
def execCffRewind (h : HostId) (s : State) : Host.Outcome State Fault Refusal :=
  finish s (s.rowWrite (hostNum h) R.CFF_REWIND 0 0 (keyWord 0))

/-- CFF_RELEASE (R508). -/
def execCffRelease (h : HostId) (s : State) : Host.Outcome State Fault Refusal :=
  finish s (s.rowWrite (hostNum h) R.CFF_RELEASE 0 0 (keyWord 0))

/-- CFF_SESSION_ENABLE (R516). -/
def execCffSessionEnable (h : HostId) (k : Fin 16) (data : Word) (s : State) : Host.Outcome State Fault Refusal :=
  finish s (s.rowWrite (hostNum h) R.CFF_SESS_CFG k.val 0 (data ||| 0x80000000))

end Sys2Proof.Machine
end

