-- ==== Sys2Proof/Machine/ExecEgress.lean ====
section
/-! DEFINITION. The meanings of the commands of egress: selection, transmission, gates, shapers, launch calendars. -/

namespace Sys2Proof.Machine

/-- EGRESS_SELECT (R243). -/
def execEgressSelect (p : Port) (s : State) : Host.Outcome State Fault Refusal :=
  finish s (s.egressSelect p.val)

/-- TRANSMIT_START (R312). -/
def execTransmitStart (p : Port) (pre : Bool) (sub : Fin 2) (s : State) : Host.Outcome State Fault Refusal :=
  finish s (s.transmitStart p.val pre sub.val)

/-- TRANSMIT_END (R103). -/
def execTransmitEnd (p : Port) (pre : Bool) (s : State) : Host.Outcome State Fault Refusal :=
  finish s (s.transmitDone p.val pre)

/-- GATE_ENTRY_START (R249). -/
def execGateEntryStart (p : Port) (s : State) : Host.Outcome State Fault Refusal :=
  finish s (s.gateUpdate p.val)

/-- MAC_HOLD_ASSERT (R253). -/
def execMacHoldAssert (p : Port) (s : State) : Host.Outcome State Fault Refusal :=
  finish s (s.macHold p.val)

/-- MAC_HOLD_RELEASE (R253). -/
def execMacHoldRelease (p : Port) (s : State) : Host.Outcome State Fault Refusal :=
  finish s (s.macRelease p.val)

/-- GATE_CHANGE_GO (R255). -/
def execGateChangeGo (h : HostId) (p : Port) (s : State) : Host.Outcome State Fault Refusal :=
  finish s (s.rowWrite (hostNum h) R.EGS_GATE_CHG p.val 0 (keyWord 1))

/-- GATE_CHANGE_CANCEL (R255). -/
def execGateChangeCancel (h : HostId) (p : Port) (s : State) : Host.Outcome State Fault Refusal :=
  finish s (s.rowWrite (hostNum h) R.EGS_GATE_CHG p.val 0 (keyWord 2))

/-- GATE_CHANGE_TIME (R256). -/
def execGateChangeTime (p : Port) (s : State) : Host.Outcome State Fault Refusal :=
  finish s (s.gateChanged p.val)

/-- GCL_WRITE (R258). -/
def execGclWrite (h : HostId) (p : Port) (data : Word) (s : State) : Host.Outcome State Fault Refusal :=
  finish s (s.rowWrite (hostNum h) R.EGS_GCL_D1 p.val 0 data)

/-- GCL_READ (R268). -/
def execGclRead (h : HostId) (p : Port) (s : State) : Host.Outcome State Fault Refusal :=
  finish s (s.rowRead (hostNum h) R.EGS_GCL_D1 p.val 0)

/-- SHAPER_CONFIG_WRITE (R265). -/
def execShaperConfigWrite (h : HostId) (p : Port) (q : Fin 8) (burst : Bool) (data : Word) (s : State) : Host.Outcome State Fault Refusal :=
  finish s (s.rowWrite (hostNum h) (if burst then R.EGS_SHP_BURST else R.EGS_SHP_CFG) p.val q.val data)

/-- CALENDAR_INSERT (R260). -/
def execCalendarInsert (p : Port) (lt : BitVec 40) (queue : Fin 8) (len : BitVec 14) (src : BitVec 5) (handle : BitVec 24) (s : State) : Host.Outcome State Fault Refusal :=
  finish s ((s.calAdd p.val { lt := lt.toNat, queue := queue.val, len := len.toNat, src := src.toNat, handle := handle.toNat, req := none, stamp := ts40 s.now, group := 0 }).2)

/-- LAUNCH_DUE (R261). -/
def execLaunchDue (p : Port) (s : State) : Host.Outcome State Fault Refusal :=
  finish s (s.launchDue p.val)

/-- LAUNCH_DISCARD (R262). -/
def execLaunchDiscard (p : Port) (s : State) : Host.Outcome State Fault Refusal :=
  finish s (s.launchDiscard p.val)

/-- SHAPER_TOKEN_ACCRUAL (R264). -/
def execShaperTokenAccrual (s : State) : Host.Outcome State Fault Refusal :=
  finish s (s.shapersTick)

end Sys2Proof.Machine
end

