-- ==== Sys2Proof/Machine/ExecHost.lean ====
section
/-! DEFINITION. The meanings of the commands of host accesses, semaphores, interrupts and the management interfaces. -/

namespace Sys2Proof.Machine

/-- REGISTER_WRITE (R9). -/
def execRegisterWrite (h : HostId) (off : HostAddr) (w : Width) (data : BitVec 64) (s : State) :
    Host.Outcome State Fault Refusal :=
  finish s (s.busWrite (hostNum h) off.bar off.off.toNat w data)

/-- CLEARING_READ (R10). -/
def execClearingRead (h : HostId) (off : HostAddr) (w : Width) (s : State) : Host.Outcome State Fault Refusal :=
  finish s (s.busRead (hostNum h) off.bar off.off.toNat w 0)

/-- SC_CLEAR_WRITE (R11). -/
def execScClearWrite (h : HostId) (off : BitVec 24) (data : Word) (s : State) : Host.Outcome State Fault Refusal :=
  finish s (s.hostWrite (hostNum h) off.toNat .w32 (data.setWidth 64))

/-- PAIR_LO_READ (R8). -/
def execPairLoRead (h : HostId) (off : BitVec 24) (s : State) : Host.Outcome State Fault Refusal :=
  finish s (s.hostRead (hostNum h) off.toNat .w32 0)

/-- ALIAS_WRITE (R447). -/
def execAliasWrite (h : HostId) (off : BitVec 24) (data : HostData) (s : State) : Host.Outcome State Fault Refusal :=
  finish s (s.aliasWrite (hostNum h) off.toNat data.w data.val)

/-- ACC_ADDR_READ (R445). -/
def execAccAddrRead (h : HostId) (s : State) : Host.Outcome State Fault Refusal :=
  finish s (s.rowRead (hostNum h) R.GLB_ACC_ADDR 0 0)

/-- SEM_CLAIM_READ (R438). -/
def execSemClaimRead (h : HostId) (n : Fin 64) (s : State) : Host.Outcome State Fault Refusal :=
  finish s (s.rowRead (hostNum h) R.GLB_SEM n.val 0)

/-- SEM_WRITE (R439). -/
def execSemWrite (h : HostId) (n : Fin 64) (data : Word) (s : State) : Host.Outcome State Fault Refusal :=
  finish s (s.rowWrite (hostNum h) R.GLB_SEM n.val 0 data)

/-- HOST_LINK_RESET (R433). -/
def execHostLinkReset (h : HostId) (cause : Fin 3) (s : State) : Host.Outcome State Fault Refusal :=
  finish s (s.hostLinkReset (hostNum h) cause.val)

/-- HOST_D3HOT (R433). -/
def execHostD3hot (h : HostId) (s : State) : Host.Outcome State Fault Refusal :=
  finish s (s.hostD3 (hostNum h))

/-- PERST_ASSERT (R583). -/
def execPerstAssert (h : HostId) (s : State) : Host.Outcome State Fault Refusal :=
  finish s (s.hostLinkReset (hostNum h) 2)

/-- MSIX_MESSAGE (R452). -/
def execMsixMessage (h : HostId) (v : Fin 64) (enabled masked : Bool) (s : State) : Host.Outcome State Fault Refusal :=
  finish s (s.msixMessage (hostNum h) v.val enabled masked)

/-- MSIX_UNMASK (R452). -/
def execMsixUnmask (h : HostId) (v : Fin 64) (enabled masked : Bool) (s : State) : Host.Outcome State Fault Refusal :=
  finish s (s.msixUnmask (hostNum h) v.val enabled masked)

/-- DOORBELL (R453). -/
def execDoorbell (h : HostId) (ring : Byte) (s : State) : Host.Outcome State Fault Refusal :=
  finish s (s.rowWrite (hostNum h) R.GLB_DOORBELL 0 0 (word ring.toNat))

/-- SPI_READ (R458). -/
def execSpiRead (h : HostId) (len : BitVec 9) (dummy : BitVec 5) (abytes : Fin 8) (op : Byte) (s : State) : Host.Outcome State Fault Refusal :=
  finish s (s.rowWrite (hostNum h) R.MGT_SPI_CMD 0 0 (spiWord false len.toNat dummy.toNat abytes.val op.toNat))

/-- SPI_WRITE (R458). -/
def execSpiWrite (h : HostId) (len : BitVec 9) (dummy : BitVec 5) (abytes : Fin 8) (op : Byte) (s : State) : Host.Outcome State Fault Refusal :=
  finish s (s.rowWrite (hostNum h) R.MGT_SPI_CMD 0 0 (spiWord true len.toNat dummy.toNat abytes.val op.toNat))

/-- SPI_DONE (R458). -/
def execSpiDone (data : List Byte) (s : State) : Host.Outcome State Fault Refusal :=
  finish s (s.spiDone data)

/-- MDIO_ADDRESS (R460). -/
def execMdioAddress (h : HostId) (bus : Fin 4) (phy : Fin 32) (dev : Fin 32) (data : BitVec 16) (s : State) : Host.Outcome State Fault Refusal :=
  finish s (s.rowWrite (hostNum h) R.MGT_MDIO_CMD 0 0 (mdioWord bus.val true 0 phy.val dev.val data.toNat))

/-- MDIO_WRITE (R460). -/
def execMdioWrite (h : HostId) (bus : Fin 4) (c45 : Bool) (phy : Fin 32) (reg : Fin 32) (data : BitVec 16) (s : State) : Host.Outcome State Fault Refusal :=
  finish s (s.rowWrite (hostNum h) R.MGT_MDIO_CMD 0 0 (mdioWord bus.val c45 1 phy.val reg.val data.toNat))

/-- MDIO_READ (R460). -/
def execMdioRead (h : HostId) (bus : Fin 4) (c45 : Bool) (phy : Fin 32) (reg : Fin 32) (s : State) : Host.Outcome State Fault Refusal :=
  finish s (s.rowWrite (hostNum h) R.MGT_MDIO_CMD 0 0 (mdioWord bus.val c45 (if c45 then 3 else 2) phy.val reg.val 0))

/-- MDIO_READ_INCREMENT (R460). -/
def execMdioReadIncrement (h : HostId) (bus : Fin 4) (phy : Fin 32) (dev : Fin 32) (s : State) : Host.Outcome State Fault Refusal :=
  finish s (s.rowWrite (hostNum h) R.MGT_MDIO_CMD 0 0 (mdioWord bus.val true 2 phy.val dev.val 0))

/-- MDIO_DONE (R460). -/
def execMdioDone (data : BitVec 16) (ta : Bool) (s : State) : Host.Outcome State Fault Refusal :=
  finish s (s.mdioDone data.toNat ta)

/-- I2C_WRITE (R459). -/
def execI2cWrite (data : List Byte) (s : State) : Host.Outcome State Fault Refusal :=
  finish s (s.i2cWrite data)

/-- I2C_READ (R459). -/
def execI2cRead (words : Nat) (s : State) : Host.Outcome State Fault Refusal :=
  finish s (s.i2cRead words)

/-- WDT_CFG_WRITE (R462). -/
def execWdtCfgWrite (h : HostId) (en : Bool) (warn : Byte) (timeout : BitVec 16) (s : State) : Host.Outcome State Fault Refusal :=
  finish s (s.rowWrite (hostNum h) R.MGT_WDT_CFG 0 0 (word ((if en then 2 ^ 31 else 0) + warn.toNat * 2 ^ 16 + timeout.toNat)))

/-- WDT_KICK (R462). -/
def execWdtKick (h : HostId) (key : Byte) (s : State) : Host.Outcome State Fault Refusal :=
  finish s (s.rowWrite (hostNum h) R.MGT_WDT_KICK 0 0 (word (key.toNat * 256)))

/-- WDT_WARN (R462). -/
def execWdtWarn (s : State) : Host.Outcome State Fault Refusal :=
  finish s (s.wdtWarn)

/-- WDT_EXPIRE (R462). -/
def execWdtExpire (s : State) : Host.Outcome State Fault Refusal :=
  finish s (s.wdtExpire)

/-- TEMP_ALARM (R603). -/
def execTempAlarm (tj : BitVec 12) (s : State) : Host.Outcome State Fault Refusal :=
  finish s (s.tempAlarm tj.toNat)

/-- TAP_TCK_EDGE (R461). -/
def execTapTckEdge (tms tdi trst : Bool) (cells : List Bool) (s : State) : Host.Outcome State Fault Refusal :=
  finish s (s.tapEdge tms tdi trst cells)

end Sys2Proof.Machine
end

