-- ==== Sys2Proof/Machine/ExecImg.lean ====
section
/-! DEFINITION. The meanings of the commands of the image loader, patches and fuses. -/

namespace Sys2Proof.Machine

/-- DISCOVER (R544). -/
def execDiscover (sfdp : Option Sfdp) (s : State) : Host.Outcome State Fault Refusal :=
  finish s (s.imgDiscover sfdp)

/-- FLASH_LOAD_END (R546). -/
def execFlashLoadEnd (image : Option (List Byte)) (s : State) : Host.Outcome State Fault Refusal :=
  finish s (s.flashLoadEnd image)

/-- HOST_LOAD (R545). -/
def execHostLoad (h : HostId) (s : State) : Host.Outcome State Fault Refusal :=
  finish s (s.rowWrite (hostNum h) R.IMG_CTRL 0 0 (keyWord 1))

/-- ABORT (R545). -/
def execAbort (h : HostId) (s : State) : Host.Outcome State Fault Refusal :=
  finish s (s.rowWrite (hostNum h) R.IMG_CTRL 0 0 (keyWord 2))

/-- IMAGE_BYTES (R545). -/
def execImageBytes (s : State) : Host.Outcome State Fault Refusal :=
  finish s (s.imageBytes)

/-- HOST_LOAD_TIMEOUT (R544). -/
def execHostLoadTimeout (s : State) : Host.Outcome State Fault Refusal :=
  finish s (s.hostLoadTimeout)

/-- VERIFY_END (R543). -/
def execVerifyEnd (s : State) : Host.Outcome State Fault Refusal :=
  finish s (s.verifyEnd)

/-- CLEAR_END (R544). -/
def execClearEnd (s : State) : Host.Outcome State Fault Refusal :=
  finish s (s.clearEnd)

/-- RELEASE_END (R544). -/
def execReleaseEnd (s : State) : Host.Outcome State Fault Refusal :=
  finish s (s.releaseEnd)

/-- FUSE_PROGRAM (R542). -/
def execFuseProgram (h : HostId) (word : Fin 64) (vpp : Bool) (s : State) : Host.Outcome State Fault Refusal :=
  finish s (s.fuseProgram (hostNum h) word.val vpp)

/-- FUSE_DONE (R542). -/
def execFuseDone (readBack : Word) (s : State) : Host.Outcome State Fault Refusal :=
  finish s (s.fuseDone readBack)

/-- PATCH_EN_WRITE (R550). -/
def execPatchEnWrite (h : HostId) (en : Bool) (s : State) : Host.Outcome State Fault Refusal :=
  finish s (s.rowWrite (hostNum h) R.IMG_CFG 0 0 (word (if en then 1 else 0)))

/-- PATCH (R551). -/
def execPatch (h : HostId) (nwords : Fin 32) (s : State) : Host.Outcome State Fault Refusal :=
  finish s (s.rowWrite (hostNum h) R.IMG_PATCH_CMD 0 0 (keyWord nwords.val))

end Sys2Proof.Machine
end

