-- ==== Sys2Proof/Machine/ExecInv.lean ====
section
/-! DEFINITION. The meanings of the commands of Invar: time domains, the cycle generator and the timed pins. -/

namespace Sys2Proof.Machine

/-- INV_NOP (R304). -/
def execInvNop (h : HostId) (d : Fin 4) (s : State) : Host.Outcome State Fault Refusal :=
  finish s (s.rowWrite (hostNum h) R.INV_CMD 0 0 (word (0 + d.val * 16)))

/-- INV_SET (R304). -/
def execInvSet (h : HostId) (d : Fin 4) (s : State) : Host.Outcome State Fault Refusal :=
  finish s (s.rowWrite (hostNum h) R.INV_CMD 0 0 (word (1 + d.val * 16)))

/-- INV_STEP (R304). -/
def execInvStep (h : HostId) (d : Fin 4) (s : State) : Host.Outcome State Fault Refusal :=
  finish s (s.rowWrite (hostNum h) R.INV_CMD 0 0 (word (2 + d.val * 16)))

/-- INV_SLEW (R304). -/
def execInvSlew (h : HostId) (d : Fin 4) (s : State) : Host.Outcome State Fault Refusal :=
  finish s (s.rowWrite (hostNum h) R.INV_CMD 0 0 (word (3 + d.val * 16)))

/-- INV_SLEW_STOP (R304). -/
def execInvSlewStop (h : HostId) (d : Fin 4) (s : State) : Host.Outcome State Fault Refusal :=
  finish s (s.rowWrite (hostNum h) R.INV_CMD 0 0 (word (4 + d.val * 16)))

/-- INV_SNAP_ALL (R332). -/
def execInvSnapAll (h : HostId) (d : Fin 4) (s : State) : Host.Outcome State Fault Refusal :=
  finish s (s.rowWrite (hostNum h) R.INV_CMD 0 0 (word (5 + d.val * 16)))

/-- RATE_LOAD (R306). -/
def execRateLoad (h : HostId) (d : Fin 4) (data : Word) (s : State) : Host.Outcome State Fault Refusal :=
  finish s (s.rowWrite (hostNum h) R.INV_TD_RATE_HI d.val 0 data)

/-- SLEW_DONE (R305). -/
def execSlewDone (d : Fin 4) (s : State) : Host.Outcome State Fault Refusal :=
  finish s (s.slewDone d.val)

/-- TD_NS_READ (R332). -/
def execTdNsRead (h : HostId) (d : Fin 4) (s : State) : Host.Outcome State Fault Refusal :=
  finish s (s.rowRead (hostNum h) R.INV_TD_NS d.val 0)

/-- CYCLE_START (R323). -/
def execCycleStart (s : State) : Host.Outcome State Fault Refusal :=
  finish s (s.cycleStart)

/-- CYCLE_GEN_ENABLE (R324). -/
def execCycleGenEnable (h : HostId) (s : State) : Host.Outcome State Fault Refusal :=
  finish s (s.rowWrite (hostNum h) R.INV_CYC_CTRL 0 0 (word (2 ^ 31)))

/-- CYCLE_GEN_DISABLE (R324). -/
def execCycleGenDisable (h : HostId) (s : State) : Host.Outcome State Fault Refusal :=
  finish s (s.rowWrite (hostNum h) R.INV_CYC_CTRL 0 0 0)

/-- CYCLE_CHANGE_GO (R325). -/
def execCycleChangeGo (h : HostId) (s : State) : Host.Outcome State Fault Refusal :=
  finish s (s.rowWrite (hostNum h) R.INV_CYC_CHG 0 0 (keyWord 1))

/-- CYCLE_CHANGE_CANCEL (R325). -/
def execCycleChangeCancel (h : HostId) (s : State) : Host.Outcome State Fault Refusal :=
  finish s (s.rowWrite (hostNum h) R.INV_CYC_CHG 0 0 (keyWord 2))

/-- CYCLE_CHANGE_TIME (R325). -/
def execCycleChangeTime (s : State) : Host.Outcome State Fault Refusal :=
  finish s (s.cycleChanged)

/-- TIO_ENABLE (R328). -/
def execTioEnable (h : HostId) (i : Fin 16) (cfg : BitVec 11) (s : State) : Host.Outcome State Fault Refusal :=
  finish s (s.rowWrite (hostNum h) R.INV_TIO_CFG i.val 0 (word (2 ^ 31 + cfg.toNat)))

/-- TIO_DISABLE (R327). -/
def execTioDisable (h : HostId) (i : Fin 16) (cfg : BitVec 11) (s : State) : Host.Outcome State Fault Refusal :=
  finish s (s.rowWrite (hostNum h) R.INV_TIO_CFG i.val 0 (word cfg.toNat))

/-- TIO_OUTPUT_EDGE (R327). -/
def execTioOutputEdge (i : Fin 16) (s : State) : Host.Outcome State Fault Refusal :=
  finish s (s.tioAct i.val)

/-- TIO_CAPTURE (R329). -/
def execTioCapture (i : Fin 16) (rising : Bool) (sub : Fin 2) (s : State) : Host.Outcome State Fault Refusal :=
  finish s (s.tioCapture i.val rising sub.val)

/-- TIO_CAPTURE_READ (R329). -/
def execTioCaptureRead (h : HostId) (i : Fin 16) (s : State) : Host.Outcome State Fault Refusal :=
  finish s (s.rowRead (hostNum h) R.INV_TIO_CAP_NS i.val 0)

/-- TIME_DOMAIN_TICK (R301). -/
def execTimeDomainTick (s : State) : Host.Outcome State Fault Refusal :=
  finish s (s.timeTick)

end Sys2Proof.Machine
end

