-- ==== Sys2Proof/Machine/ExecLkp.lean ====
section
/-! DEFINITION. The meanings of the commands of forwarding tables and epochs. -/

namespace Sys2Proof.Machine

/-- LEARN_INSERT (R158). -/
def execLearnInsert (s : State) : Host.Outcome State Fault Refusal :=
  finish s (s.learnInsert.syncLearn s)

/-- AGE_SCAN_STEP (R161). -/
def execAgeScanStep (s : State) : Host.Outcome State Fault Refusal :=
  finish s (s.ageScan)

/-- LKP_NOP (R172). -/
def execLkpNop (h : HostId) (w : Fin 2) (s : State) : Host.Outcome State Fault Refusal :=
  finish s (s.rowWrite (hostNum h) R.LKP_CMD w.val 0 (lkpWord 0 0 false))

/-- LKP_READ (R172). -/
def execLkpRead (h : HostId) (w : Fin 2) (table : Fin 16) (ver : Bool) (s : State) : Host.Outcome State Fault Refusal :=
  finish s (s.rowWrite (hostNum h) R.LKP_CMD w.val 0 (lkpWord 1 table.val ver))

/-- LKP_WRITE (R172). -/
def execLkpWrite (h : HostId) (w : Fin 2) (table : Fin 16) (s : State) : Host.Outcome State Fault Refusal :=
  finish s (s.rowWrite (hostNum h) R.LKP_CMD w.val 0 (lkpWord 2 table.val false))

/-- LKP_INSERT (R172). -/
def execLkpInsert (h : HostId) (w : Fin 2) (table : Fin 16) (s : State) : Host.Outcome State Fault Refusal :=
  finish s (s.rowWrite (hostNum h) R.LKP_CMD w.val 0 (lkpWord 3 table.val false))

/-- LKP_DELETE (R172). -/
def execLkpDelete (h : HostId) (w : Fin 2) (table : Fin 16) (s : State) : Host.Outcome State Fault Refusal :=
  finish s (s.rowWrite (hostNum h) R.LKP_CMD w.val 0 (lkpWord 4 table.val false))

/-- LKP_SEARCH (R172). -/
def execLkpSearch (h : HostId) (w : Fin 2) (table : Fin 16) (ver : Bool) (s : State) : Host.Outcome State Fault Refusal :=
  finish s (s.rowWrite (hostNum h) R.LKP_CMD w.val 0 (lkpWord 5 table.val ver))

/-- LKP_FLUSH (R172). -/
def execLkpFlush (h : HostId) (w : Fin 2) (table : Fin 16) (s : State) : Host.Outcome State Fault Refusal :=
  finish s (s.rowWrite (hostNum h) R.LKP_CMD w.val 0 (lkpWord 6 table.val false))

/-- LKP_CMD_COMPLETE (R172). -/
def execLkpCmdComplete (w : Fin 2) (s : State) : Host.Outcome State Fault Refusal :=
  finish s (s.lkpComplete w.val)

/-- EPOCH_COMMIT (R183). -/
def execEpochCommit (h : HostId) (s : State) : Host.Outcome State Fault Refusal :=
  finish s (s.rowWrite (hostNum h) R.EPOCH_COMMIT 0 0 (keyWord 0))

/-- EPOCH_DISCARD (R181). -/
def execEpochDiscard (h : HostId) (s : State) : Host.Outcome State Fault Refusal :=
  finish s (s.rowWrite (hostNum h) R.EPOCH_DISCARD 0 0 (keyWord 0))

/-- COMMIT_APPLIED (R186). -/
def execCommitApplied (s : State) : Host.Outcome State Fault Refusal :=
  finish s (s.commitApplied)

/-- COMMIT_TIME_REACHED (R186). -/
def execCommitTimeReached (s : State) : Host.Outcome State Fault Refusal :=
  finish s (s.commitTimeReached)

/-- EPOCH_DRAINED (R187). -/
def execEpochDrained (s : State) : Host.Outcome State Fault Refusal :=
  finish s (s.epochDrained)

/-- TAG_SWEEP_STEP (R191). -/
def execTagSweepStep (s : State) : Host.Outcome State Fault Refusal :=
  finish s (s.tagSweep)

/-- EPOCH_ECC_ERROR (R195). -/
def execEpochEccError (double : Bool) (s : State) : Host.Outcome State Fault Refusal :=
  finish s (s.epochEcc double)

end Sys2Proof.Machine
end

