-- ==== Sys2Proof/Machine/ExecMode.lean ====
section
/-! DEFINITION. The meanings of the commands of operating modes, low power, maintenance, adaptive mode. -/

namespace Sys2Proof.Machine

/-- MODE_REQUEST (R41). -/
def execModeRequest (h : HostId) (key : Byte) (mode : Fin 8) (s : State) : Host.Outcome State Fault Refusal :=
  finish s (s.rowWrite (hostNum h) R.GLB_MODE_REQ 0 0 (word (key.toNat * 256 + mode.val)))

/-- SWITCH_POINT (R45). -/
def execSwitchPoint (s : State) : Host.Outcome State Fault Refusal :=
  finish s (s.switchTime)

/-- PEWTER_DRAIN_COMPLETE (R49). -/
def execPewterDrainComplete (s : State) : Host.Outcome State Fault Refusal :=
  finish s (s.pewterDrained)

/-- PEWTER_DRAIN_DEADLINE (R49). -/
def execPewterDrainDeadline (s : State) : Host.Outcome State Fault Refusal :=
  finish s (s.drainDeadline)

/-- PEWTER_GATED (R49). -/
def execPewterGated (s : State) : Host.Outcome State Fault Refusal :=
  finish s (s.pewterGated)

/-- MAINTENANCE_ENTER (R40). -/
def execMaintenanceEnter (s : State) : Host.Outcome State Fault Refusal :=
  finish s (s.maintenanceEnter)

/-- KEEPALIVE_FRAME (R51). -/
def execKeepaliveFrame (p : Port) (bytes : List Byte) (s : State) : Host.Outcome State Fault Refusal :=
  finish s (s.keepAliveFrame p.val bytes)

/-- TIME_WAKE (R52). -/
def execTimeWake (s : State) : Host.Outcome State Fault Refusal :=
  finish s (s.timeWake)

/-- WAKE_START (R53). -/
def execWakeStart (s : State) : Host.Outcome State Fault Refusal :=
  finish s (s.wakeStart)

/-- WAKE_COMPLETE (R53). -/
def execWakeComplete (s : State) : Host.Outcome State Fault Refusal :=
  finish s (s.wakeComplete)

/-- MNT_SCRUB (R58). -/
def execMntScrub (h : HostId) (mem : Fin 8) (s : State) : Host.Outcome State Fault Refusal :=
  finish s (s.rowWrite (hostNum h) R.GLB_MNT_CMD 0 0 (mntWord 1 mem.val))

/-- MNT_BIST (R58). -/
def execMntBist (h : HostId) (mem : Fin 8) (s : State) : Host.Outcome State Fault Refusal :=
  finish s (s.rowWrite (hostNum h) R.GLB_MNT_CMD 0 0 (mntWord 2 mem.val))

/-- MNT_ABORT (R58). -/
def execMntAbort (h : HostId) (mem : Fin 8) (s : State) : Host.Outcome State Fault Refusal :=
  finish s (s.rowWrite (hostNum h) R.GLB_MNT_CMD 0 0 (mntWord 3 mem.val))

/-- MNT_COMPLETE (R58). -/
def execMntComplete (corr : BitVec 16) (unc : BitVec 16) (addr : Option (BitVec 24)) (slots : List (Fin 9 × Nat)) (s : State) : Host.Outcome State Fault Refusal :=
  finish s (s.mntComplete corr.toNat unc.toNat (addr.map BitVec.toNat) (slots.map (fun e => (e.1.val, e.2))))

/-- HOLD_END (R421). -/
def execHoldEnd (s : State) : Host.Outcome State Fault Refusal :=
  finish s (s.holdEnd)

/-- ADAPT_STEP (R387). -/
def execAdaptStep (s : State) : Host.Outcome State Fault Refusal :=
  finish s (s.adaptStep)

/-- ADAPT_WINDOW_APPLY (R389). -/
def execAdaptWindowApply (p : Port) (s : State) : Host.Outcome State Fault Refusal :=
  finish s (s.adaptApply p.val)

/-- ADAPT_RESTORE_INTERVALS (R391). -/
def execAdaptRestoreIntervals (p : Port) (s : State) : Host.Outcome State Fault Refusal :=
  finish s (s.adaptRestore p.val)

end Sys2Proof.Machine
end

