-- ==== Sys2Proof/Machine/ExecPds.lean ====
section
/-! DEFINITION. The meanings of the commands of the process-data service. -/

namespace Sys2Proof.Machine

/-- FANIN (R343). -/
def execFanin (s : State) : Host.Outcome State Fault Refusal :=
  finish s (s.pdsFanIn)

/-- GATHER_DEADLINE (R346). -/
def execGatherDeadline (s : State) : Host.Outcome State Fault Refusal :=
  finish s (s.gatherDeadline)

/-- GATHER_PASS (R347). -/
def execGatherPass (s : State) : Host.Outcome State Fault Refusal :=
  finish s (s.gatherPass)

/-- FANOUT_PASS (R354). -/
def execFanoutPass (s : State) : Host.Outcome State Fault Refusal :=
  finish s (s.fanOut false)

/-- FANOUT_EXTRA (R353). -/
def execFanoutExtra (s : State) : Host.Outcome State Fault Refusal :=
  finish s (s.fanOut true)

/-- HELD_PASS (R356). -/
def execHeldPass (g : Fin 64) (s : State) : Host.Outcome State Fault Refusal :=
  finish s (s.heldPass g.val)

/-- PDS_NOP (R373). -/
def execPdsNop (h : HostId) (table : Fin 8) (s : State) : Host.Outcome State Fault Refusal :=
  finish s (s.rowWrite (hostNum h) R.PDS_CMD 0 0 (word (0 + table.val * 16)))

/-- PDS_READ (R373). -/
def execPdsRead (h : HostId) (table : Fin 8) (s : State) : Host.Outcome State Fault Refusal :=
  finish s (s.rowWrite (hostNum h) R.PDS_CMD 0 0 (word (1 + table.val * 16)))

/-- PDS_WRITE (R374). -/
def execPdsWrite (h : HostId) (table : Fin 8) (s : State) : Host.Outcome State Fault Refusal :=
  finish s (s.rowWrite (hostNum h) R.PDS_CMD 0 0 (word (2 + table.val * 16)))

/-- PDS_CMD_COMPLETE (R373). -/
def execPdsCmdComplete (s : State) : Host.Outcome State Fault Refusal :=
  finish s (s.pdsComplete)

end Sys2Proof.Machine
end

