-- ==== Sys2Proof/Machine/ExecPmc.lean ====
section
/-! DEFINITION. The meanings of the commands of counters and telemetry. -/

namespace Sys2Proof.Machine

/-- CLEAR_GROUPS (R522). -/
def execClearGroups (h : HostId) (mask : Byte) (s : State) : Host.Outcome State Fault Refusal :=
  finish s (s.rowWrite (hostNum h) R.PMC_CMD 0 0 (pmcWord 1 mask.toNat))

/-- CLEAR_LEDGER (R522). -/
def execClearLedger (h : HostId) (mask : Byte) (s : State) : Host.Outcome State Fault Refusal :=
  finish s (s.rowWrite (hostNum h) R.PMC_CMD 0 0 (pmcWord 2 mask.toNat))

/-- CLEAR_ALL (R522). -/
def execClearAll (h : HostId) (mask : Byte) (s : State) : Host.Outcome State Fault Refusal :=
  finish s (s.rowWrite (hostNum h) R.PMC_CMD 0 0 (pmcWord 3 mask.toNat))

/-- GROUP_ENABLE_WRITE (R519). -/
def execGroupEnableWrite (h : HostId) (en : Byte) (s : State) : Host.Outcome State Fault Refusal :=
  finish s (s.rowWrite (hostNum h) R.PMC_GRP_EN 0 0 (word en.toNat))

/-- COUNTER_WRAP (R517). -/
def execCounterWrap (n : Fin 512) (s : State) : Host.Outcome State Fault Refusal :=
  finish s (s.pmcWrap n.val)

/-- DUMP_ENABLE (R526). -/
def execDumpEnable (h : HostId) (ports ledger : Bool) (sel : Byte) (s : State) : Host.Outcome State Fault Refusal :=
  finish s (s.rowWrite (hostNum h) R.PMC_DUMP_CFG 0 0 (word (2 ^ 31 + (if ports then 512 else 0) + (if ledger then 256 else 0) + sel.toNat)))

/-- DUMP_SNAPSHOT (R526). -/
def execDumpSnapshot (s : State) : Host.Outcome State Fault Refusal :=
  finish s (s.dumpSnapshot)

/-- DUMP_DONE (R526). -/
def execDumpDone (s : State) : Host.Outcome State Fault Refusal :=
  finish s (s.dumpDone)

/-- COUNTER_TICK (R521). -/
def execCounterTick (pdsBusy : Fin 4) (s : State) : Host.Outcome State Fault Refusal :=
  finish s (s.counterTick pdsBusy.val)

/-- LEDGER_TICK (R524). -/
def execLedgerTick (s : State) : Host.Outcome State Fault Refusal :=
  finish s (s.ledgerTick)

end Sys2Proof.Machine
end

