-- ==== Sys2Proof/Machine/ExecPol.lean ====
section
/-! DEFINITION. The meanings of the commands of policing commands and schedules. -/

namespace Sys2Proof.Machine

/-- POL_NOP (R286). -/
def execPolNop (h : HostId) (table : Fin 4) (ver : Bool) (s : State) : Host.Outcome State Fault Refusal :=
  finish s (s.rowWrite (hostNum h) R.POL_CMD 0 0 (polWord 0 table.val ver))

/-- POL_READ (R286). -/
def execPolRead (h : HostId) (table : Fin 4) (ver : Bool) (s : State) : Host.Outcome State Fault Refusal :=
  finish s (s.rowWrite (hostNum h) R.POL_CMD 0 0 (polWord 1 table.val ver))

/-- POL_WRITE (R277). -/
def execPolWrite (h : HostId) (table : Fin 4) (ver : Bool) (s : State) : Host.Outcome State Fault Refusal :=
  finish s (s.rowWrite (hostNum h) R.POL_CMD 0 0 (polWord 2 table.val ver))

/-- POL_UNBLOCK (R282). -/
def execPolUnblock (h : HostId) (table : Fin 4) (ver : Bool) (s : State) : Host.Outcome State Fault Refusal :=
  finish s (s.rowWrite (hostNum h) R.POL_CMD 0 0 (polWord 3 table.val ver))

/-- POL_CLRCNT (R279). -/
def execPolClrcnt (h : HostId) (table : Fin 4) (ver : Bool) (s : State) : Host.Outcome State Fault Refusal :=
  finish s (s.rowWrite (hostNum h) R.POL_CMD 0 0 (polWord 4 table.val ver))

/-- POL_CMD_COMPLETE (R286). -/
def execPolCmdComplete (upset : Option Bool) (s : State) : Host.Outcome State Fault Refusal :=
  finish s (s.polComplete upset)

/-- SCHEDULE_CHANGE_GO (R281). -/
def execScheduleChangeGo (h : HostId) (k : Fin 16) (s : State) : Host.Outcome State Fault Refusal :=
  finish s (s.rowWrite (hostNum h) R.POL_SGS_CHG k.val 0 (keyWord 1))

/-- SCHEDULE_CHANGE_CANCEL (R281). -/
def execScheduleChangeCancel (h : HostId) (k : Fin 16) (s : State) : Host.Outcome State Fault Refusal :=
  finish s (s.rowWrite (hostNum h) R.POL_SGS_CHG k.val 0 (keyWord 2))

/-- SCHEDULE_CHANGE_TIME (R281). -/
def execScheduleChangeTime (k : Fin 16) (s : State) : Host.Outcome State Fault Refusal :=
  finish s (s.schedChangeTime k.val)

end Sys2Proof.Machine
end

