-- ==== Sys2Proof/Machine/ExecPort.lean ====
section
/-! DEFINITION. The meanings of the commands of line ports: flow control, bring-up, preemption. -/

namespace Sys2Proof.Machine

/-- PAUSE_RECEIVED (R98). -/
def execPauseReceived (p : Port) (pre : Bool) (bytes : List Byte) (s : State) : Host.Outcome State Fault Refusal :=
  finish s (s.controlEnd p.val pre bytes 1)

/-- PFC_RECEIVED (R98). -/
def execPfcReceived (p : Port) (pre : Bool) (bytes : List Byte) (s : State) : Host.Outcome State Fault Refusal :=
  finish s (s.controlEnd p.val pre bytes 0x0101)

/-- PAUSE_TIMER_EXPIRE (R98). -/
def execPauseTimerExpire (p : Port) (pri : Fin 9) (s : State) : Host.Outcome State Fault Refusal :=
  finish s (s.pauseExpire p.val pri.val)

/-- FC_XOFF (R95). -/
def execFcXoff (p : Port) (pair : Fin 9) (s : State) : Host.Outcome State Fault Refusal :=
  finish s (s.fcXoff p.val pair.val)

/-- FC_XON (R95). -/
def execFcXon (p : Port) (pair : Fin 9) (s : State) : Host.Outcome State Fault Refusal :=
  finish s (s.fcXon p.val pair.val)

/-- FC_FRAME_SEND (R96). -/
def execFcFrameSend (p : Port) (s : State) : Host.Outcome State Fault Refusal :=
  finish s (s.fcSend p.val)

/-- FC_REFRESH (R97). -/
def execFcRefresh (p : Port) (s : State) : Host.Outcome State Fault Refusal :=
  finish s (s.fcRefresh p.val)

/-- FC_CONFIG_RELEASE (R97). -/
def execFcConfigRelease (h : HostId) (p : Port) (target : Option (Fin 9)) (data : Word) (s : State) : Host.Outcome State Fault Refusal :=
  finish s (s.fcWrite (hostNum h) p.val (target.map Fin.val) data)

/-- PORT_ENABLE (R83). -/
def execPortEnable (h : HostId) (p : Port) (loopback : Fin 8) (s : State) : Host.Outcome State Fault Refusal :=
  finish s (s.rowWrite (hostNum h) R.PORT_CTRL p.val 0 (portCtrlWord true loopback.val false))

/-- PORT_DISABLE (R71). -/
def execPortDisable (h : HostId) (p : Port) (loopback : Fin 8) (s : State) : Host.Outcome State Fault Refusal :=
  finish s (s.rowWrite (hostNum h) R.PORT_CTRL p.val 0 (portCtrlWord false loopback.val false))

/-- PORT_MODE_WRITE (R73). -/
def execPortModeWrite (h : HostId) (p : Port) (data : Word) (s : State) : Host.Outcome State Fault Refusal :=
  finish s (s.rowWrite (hostNum h) R.PORT_MODE p.val 0 data)

/-- PCS_RESET (R83). -/
def execPcsReset (h : HostId) (p : Port) (loopback : Fin 8) (s : State) : Host.Outcome State Fault Refusal :=
  finish s (s.rowWrite (hostNum h) R.PORT_CTRL p.val 0 (portCtrlWord true loopback.val true))

/-- AUTONEG_COMPLETE (R76). -/
def execAutonegComplete (p : Port) (partner : BitVec 6) (sameTech : Bool) (s : State) : Host.Outcome State Fault Refusal :=
  finish s (s.autoneg p.val partner.toNat sameTech)

/-- TRAINING_COMPLETE (R77). -/
def execTrainingComplete (p : Port) (eq : BitVec 18) (s : State) : Host.Outcome State Fault Refusal :=
  finish s (s.trained p.val eq)

/-- TRAINING_TIMEOUT (R77). -/
def execTrainingTimeout (p : Port) (s : State) : Host.Outcome State Fault Refusal :=
  finish s (s.trainTimeout p.val)

/-- LINK_UP (R82). -/
def execLinkUp (p : Port) (s : State) : Host.Outcome State Fault Refusal :=
  finish s (s.linkUp p.val)

/-- LINK_DOWN (R82). -/
def execLinkDown (p : Port) (cause : Fin 3) (s : State) : Host.Outcome State Fault Refusal :=
  finish s (s.linkDown p.val cause.val)

/-- FEC_UNCORRECTABLE (R81). -/
def execFecUncorrectable (p : Port) (count corrected : Nat) (s : State) : Host.Outcome State Fault Refusal :=
  finish s (s.fecErrors p.val count corrected)

/-- VERIFY_TIMEOUT (R89). -/
def execVerifyTimeout (p : Port) (s : State) : Host.Outcome State Fault Refusal :=
  finish s (s.verifyTimeout p.val)

/-- RESPOND_RECEIVED (R89). -/
def execRespondReceived (p : Port) (s : State) : Host.Outcome State Fault Refusal :=
  finish s (s.respondReceived p.val)

/-- VERIFY_RECEIVED (R89). -/
def execVerifyReceived (p : Port) (s : State) : Host.Outcome State Fault Refusal :=
  finish s (s.verifyReceived p.val)

/-- PREEMPT (R90). -/
def execPreempt (p : Port) (sent : Nat) (s : State) : Host.Outcome State Fault Refusal :=
  finish s (s.preemptDone p.val sent)

/-- CONTROL_WORD_RECEIVED (R75). -/
def execControlWordReceived (p : Port) (word : BitVec 16) (s : State) : Host.Outcome State Fault Refusal :=
  finish s (s.controlWord p.val word.toNat)

end Sys2Proof.Machine
end

