-- ==== Sys2Proof/Machine/ExecRst.lean ====
section
/-! DEFINITION. The meanings of the commands of reset. -/

namespace Sys2Proof.Machine

/-- SW_SYS_RESET (R580). -/
def execSwSysReset (h : HostId) (s : State) : Host.Outcome State Fault Refusal :=
  finish s (s.rowWrite (hostNum h) R.RST_CTRL 0 0 (keyWord 1))

/-- SW_CORE_RESET (R580). -/
def execSwCoreReset (h : HostId) (s : State) : Host.Outcome State Fault Refusal :=
  finish s (s.rowWrite (hostNum h) R.RST_CTRL 0 0 (keyWord 2))

/-- RESET_SOURCE_ASSERT (R559). -/
def execResetSourceAssert (src : Fin 11) (s : State) : Host.Outcome State Fault Refusal :=
  finish s (s.rstSource src.val)

/-- RESET_SOURCE_RELEASE (R559). -/
def execResetSourceRelease (src : Fin 11) (s : State) : Host.Outcome State Fault Refusal :=
  finish s (s.rstRelease src.val)

/-- POR (R585). -/
def execPor (s : State) : Host.Outcome State Fault Refusal :=
  finish s (s.rstAssert 0)

/-- PLL_LOSS_OF_LOCK (R592). -/
def execPllLossOfLock (s : State) : Host.Outcome State Fault Refusal :=
  finish s (s.rstAssert 0)

/-- RST_N_LOW (R564). -/
def execRstNLow (s : State) : Host.Outcome State Fault Refusal :=
  finish s (s.rstPinLow)

/-- RST_N_HIGH (R564). -/
def execRstNHigh (s : State) : Host.Outcome State Fault Refusal :=
  finish s (s.rstPinHigh)

/-- MEMORY_INIT_COMPLETE (R562). -/
def execMemoryInitComplete (s : State) : Host.Outcome State Fault Refusal :=
  finish s (s.rstInit)

/-- STRETCH_EXPIRE (R559). -/
def execStretchExpire (straps : BitVec 4) (s : State) : Host.Outcome State Fault Refusal :=
  finish s (s.stretchEnd straps.toNat)

/-- SETTLE_END (R559). -/
def execSettleEnd (high : Bool) (straps : BitVec 4) (s : State) : Host.Outcome State Fault Refusal :=
  finish s (s.settleEnd high straps.toNat)

/-- MODE_ECC_ERROR (R575). -/
def execModeEccError (double : Bool) (s : State) : Host.Outcome State Fault Refusal :=
  finish s (s.modeEcc double)

/-- RSTSTATE_PARITY (R576). -/
def execRststateParity (s : State) : Host.Outcome State Fault Refusal :=
  finish s (s.rstParity)

end Sys2Proof.Machine
end

