-- ==== Sys2Proof/Machine/ExecRx.lean ====
section
/-! DEFINITION. The meanings of the commands of frames received: stamps, bytes, ends, admission and the shared memory. -/

namespace Sys2Proof.Machine

/-- INGRESS_TIMESTAMP (R21). -/
def execIngressTimestamp (p : Port) (pre : Bool) (sub : Fin 2) (s : State) : Host.Outcome State Fault Refusal :=
  finish s (s.ingressStamp p.val pre sub.val)

/-- CELL_WRITE (R205). -/
def execCellWrite (arrivals : List Arrival) (s : State) : Host.Outcome State Fault Refusal :=
  finish s (s.cellWrite (arrivals.map (fun (a : Arrival) => (a.port.val, a.pre, a.bytes))))

/-- OVERSIZE_TRUNCATE (R86). -/
def execOversizeTruncate (p : Port) (pre : Bool) (bytes : List Byte) (s : State) : Host.Outcome State Fault Refusal :=
  finish s (s.oversizeArrive p.val pre bytes)

/-- LATE_SDU_EXCESS (R274). -/
def execLateSduExcess (p : Port) (pre : Bool) (bytes : List Byte) (s : State) : Host.Outcome State Fault Refusal :=
  finish s (s.arrive p.val pre bytes)

/-- FRAME_END (R84). -/
def execFrameEnd (p : Port) (pre : Bool) (bytes : List Byte) (sig : RxSignals) (s : State) : Host.Outcome State Fault Refusal :=
  finish s (s.frameEnd p.val pre bytes sig.code sig.oddNibble sig.blocks)

/-- FRAGMENT_RECEIVE (R91). -/
def execFragmentReceive (p : Port) (frag : Fragment) (s : State) : Host.Outcome State Fault Refusal :=
  finish s (s.fragmentIn p.val frag)

/-- WINDOW_COMPLETE (R110). -/
def execWindowComplete (p : Port) (pre : Bool) (bytes : List Byte) (s : State) : Host.Outcome State Fault Refusal :=
  finish s (s.windowComplete p.val pre bytes)

/-- LOOKUP (R143). -/
def execLookup (pl : Fin 2) (parity : List (Nat × Nat)) (s : State) : Host.Outcome State Fault Refusal :=
  finish s ((s.stage4 pl.val parity).syncFrame s (s.pipe pl.val).st4.head?)

/-- POLICE (R271). -/
def execPolice (pl : Fin 2) (upset : Option (Fin 4 × Bool)) (s : State) : Host.Outcome State Fault Refusal :=
  finish s ((s.stage5 pl.val (upset.map (fun e => (e.1.val, e.2)))).syncFrame s (s.pipe pl.val).st5.head?)

/-- ADMIT (R212). -/
def execAdmit (pl : Fin 2) (s : State) : Host.Outcome State Fault Refusal :=
  finish s (s.stage6 pl.val)

/-- CT_SELECTABLE (R221). -/
def execCtSelectable (n : Fin 576) (s : State) : Host.Outcome State Fault Refusal :=
  finish s (s.ctSelectable n.val)

/-- CELL_READ (R203). -/
def execCellRead (reqs : List ReadReq) (ctl : Option CtlError) (s : State) : Host.Outcome State Fault Refusal :=
  finish s (s.cellReads reqs ctl)

/-- AGE_UNIT_STEP (R228). -/
def execAgeUnitStep (s : State) : Host.Outcome State Fault Refusal :=
  finish s (s.ageUnit)

end Sys2Proof.Machine
end

