-- ==== Sys2Proof/Machine/ExecTin.lean ====
section
/-! DEFINITION. The meanings of the commands of the Tin parse engines. -/

namespace Sys2Proof.Machine

/-- DISPATCH (R112). -/
def execDispatch (s : State) : Host.Outcome State Fault Refusal :=
  finish s (s.dispatch)

/-- BR_NEXT (R118). -/
def execBrNext (e : Fin 48) (upset : Option (Fin 104)) (s : State) : Host.Outcome State Fault Refusal :=
  finish s (s.engineStep e.val 0 (upset.map Fin.val))

/-- BR_GOTO (R118). -/
def execBrGoto (e : Fin 48) (upset : Option (Fin 104)) (s : State) : Host.Outcome State Fault Refusal :=
  finish s (s.engineStep e.val 1 (upset.map Fin.val))

/-- BR_IF (R118). -/
def execBrIf (e : Fin 48) (upset : Option (Fin 104)) (s : State) : Host.Outcome State Fault Refusal :=
  finish s (s.engineStep e.val 2 (upset.map Fin.val))

/-- BR_MWAY (R118). -/
def execBrMway (e : Fin 48) (upset : Option (Fin 104)) (s : State) : Host.Outcome State Fault Refusal :=
  finish s (s.engineStep e.val 3 (upset.map Fin.val))

/-- BR_CALL (R118). -/
def execBrCall (e : Fin 48) (upset : Option (Fin 104)) (s : State) : Host.Outcome State Fault Refusal :=
  finish s (s.engineStep e.val 4 (upset.map Fin.val))

/-- BR_RET (R118). -/
def execBrRet (e : Fin 48) (upset : Option (Fin 104)) (s : State) : Host.Outcome State Fault Refusal :=
  finish s (s.engineStep e.val 5 (upset.map Fin.val))

/-- BR_END (R120). -/
def execBrEnd (e : Fin 48) (upset : Option (Fin 104)) (s : State) : Host.Outcome State Fault Refusal :=
  finish s (s.engineStep e.val 6 (upset.map Fin.val))

/-- BR_SLOW (R126). -/
def execBrSlow (e : Fin 48) (upset : Option (Fin 104)) (s : State) : Host.Outcome State Fault Refusal :=
  finish s (s.engineStep e.val 7 (upset.map Fin.val))

/-- UCODE_SCRUB_STEP (R131). -/
def execUcodeScrubStep (upset : Option (Fin 3 × Fin 104)) (s : State) : Host.Outcome State Fault Refusal :=
  finish s (s.scrubStep (upset.map (fun e => (e.1.val, e.2.val))))

/-- PRV_RETIRE (R114). -/
def execPrvRetire (pl : Fin 2) (s : State) : Host.Outcome State Fault Refusal :=
  finish s (s.retire pl.val)

/-- UCODE_WINDOW_WRITE (R133). -/
def execUcodeWindowWrite (h : HostId) (c : Fin 3) (w : Fin 4096) (part : Fin 3) (data : Word) (s : State) : Host.Outcome State Fault Refusal :=
  finish s (s.rowWrite (hostNum h) (if part.val = 0 then R.TIN_UW_LO else if part.val = 1 then R.TIN_UW_MID else R.TIN_UW_HI) c.val w.val data)

end Sys2Proof.Machine
end

