-- ==== Sys2Proof/Machine/ExecTwin.lean ====
section
/-! DEFINITION. The meanings of the commands of twin operation. -/

namespace Sys2Proof.Machine

/-- TWIN_ENABLE (R398). -/
def execTwinEnable (s : State) : Host.Outcome State Fault Refusal :=
  finish s (s.twinEnable)

/-- TWIN_DISABLE (R398). -/
def execTwinDisable (h : HostId) (data : Word) (s : State) : Host.Outcome State Fault Refusal :=
  finish s (s.rowWrite (hostNum h) R.TWN_CTRL 0 0 (data &&& 0x7FFFFFFF))

/-- HEARTBEAT_SEND (R402). -/
def execHeartbeatSend (s : State) : Host.Outcome State Fault Refusal :=
  finish s (s.heartbeatSend)

/-- HEARTBEAT_RECEIVE (R398); a SOLO device whose peer has reached SHADOW makes the state transfer (R425). -/
def execHeartbeatReceive (lseq : Byte) (peerRole : Fin 8) (base : BeatTime) (key : BitVec 32) (align : Option Machine.Align) (s : State) : Host.Outcome State Fault Refusal :=
  finish s (((s.heartbeatReceive lseq.toNat peerRole.val base.base.toNat (base.sec.toNat, base.ns.toNat, base.frac.toNat * 2 ^ 32) key.toNat align).syncTransfer).rejudged s.now)

/-- PAIR_TIMEOUT (R398). -/
def execPairTimeout (s : State) : Host.Outcome State Fault Refusal :=
  finish s (s.pairTimeout)

/-- SYNC_CUT (R425). -/
def execSyncCut (a : Machine.Align) (s : State) : Host.Outcome State Fault Refusal :=
  finish s ((s.syncCut a).rejudged s.now)

/-- SYNC_WAIT_TIMEOUT (R398). -/
def execSyncWaitTimeout (s : State) : Host.Outcome State Fault Refusal :=
  finish s (s.syncTimeout)

/-- SYNC_STATE_COPY (R425). -/
def execSyncStateCopy (lseq : Byte) (items : SyncMsg) (s : State) : Host.Outcome State Fault Refusal :=
  finish s (s.syncCopy lseq.toNat items.cycle.toNat items.items)

/-- JOIN_COMPLETE (R425). -/
def execJoinComplete (s : State) : Host.Outcome State Fault Refusal :=
  finish s (s.joinComplete)

/-- LOG_RECEIVE (R404). -/
def execLogReceive (lseq : Byte) (tags : List (BitVec 64)) (s : State) : Host.Outcome State Fault Refusal :=
  finish s (s.logReceive lseq.toNat (tags.map BitVec.toNat))

/-- TAG_RELEASE (R406). -/
def execTagRelease (s : State) : Host.Outcome State Fault Refusal :=
  finish s (s.tagRelease.hostReleased)

/-- UNMATCHED_DISCARD (R407). -/
def execUnmatchedDiscard (s : State) : Host.Outcome State Fault Refusal :=
  finish s (s.unmatchedDiscard)

/-- SEEN_RECEIVE (R408). -/
def execSeenReceive (lseq : Byte) (keys : List (BitVec 32)) (s : State) : Host.Outcome State Fault Refusal :=
  finish s (s.seenReceive lseq.toNat (keys.map BitVec.toNat))

/-- SEEN_WAIT_EXPIRE (R408). -/
def execSeenWaitExpire (s : State) : Host.Outcome State Fault Refusal :=
  finish s (s.seenExpire)

/-- FWD_RECEIVE (R409). -/
def execFwdReceive (lseq : Byte) (fid : BitVec 16) (win last : Bool) (words : List (BitVec 64)) (s : State) : Host.Outcome State Fault Refusal :=
  finish s ((s.fwdReceive lseq.toNat fid.toNat win last (words.map BitVec.toNat)).hostReleased)

/-- DIGEST_INTERVAL_END (R417). -/
def execDigestIntervalEnd (s : State) : Host.Outcome State Fault Refusal :=
  finish s (s.digestEnd)

/-- DIGEST_RECEIVE (R418). -/
def execDigestReceive (lseq : Byte) (num : BitVec 32) (crc : BitVec 64) (inputs frames : BitVec 32) (s : State) : Host.Outcome State Fault Refusal :=
  finish s (s.digestReceive lseq.toNat { num := num.toNat, crc := crc.toNat, inputs := inputs.toNat, frames := frames.toNat })

/-- TWIN_CMD_WRITE (R411). -/
def execTwinCmdWrite (lseq : Byte) (arrOfs : BitVec 10) (off : BitVec 24) (data : Word) (be : BitVec 4) (host : HostId) (s : State) : Host.Outcome State Fault Refusal :=
  finish s (s.cmdReceive lseq.toNat arrOfs.toNat (.write off.toNat data be.toNat (hostNum host)))

/-- MIRRORED_WRITE_APPLY (R411). -/
def execMirroredWriteApply (s : State) : Host.Outcome State Fault Refusal :=
  finish s (s.mirroredApply)

/-- TWIN_CMD_MODE (R413). -/
def execTwinCmdMode (lseq : Byte) (arrOfs : BitVec 10) (target : Fin 8) (s : State) : Host.Outcome State Fault Refusal :=
  finish s (s.cmdReceive lseq.toNat arrOfs.toNat (.mode target.val))

/-- TWIN_CMD_COMMIT (R413). -/
def execTwinCmdCommit (lseq : Byte) (arrOfs : BitVec 10) (epoch : BitVec 16) (k : BitVec 13) (tsec : BitVec 32) (tns : BitVec 30) (crc : BitVec 64) (s : State) : Host.Outcome State Fault Refusal :=
  finish s (s.cmdReceive lseq.toNat arrOfs.toNat (.commit epoch.toNat k.toNat tsec.toNat tns.toNat crc.toNat))

/-- TWIN_CMD_RESET (R413). -/
def execTwinCmdReset (lseq : Byte) (cause : Byte) (s : State) : Host.Outcome State Fault Refusal :=
  finish s (s.cmdReset lseq.toNat cause.toNat)

/-- TWIN_CMD_SYNC_CUT (R413). -/
def execTwinCmdSyncCut (lseq : Byte) (cut : CutCmd) (s : State) : Host.Outcome State Fault Refusal :=
  finish s (s.cmdSyncCut lseq.toNat cut.op.toNat cut.cut.toNat)

/-- LINK_FRAME_ERROR (R402). -/
def execLinkFrameError (s : State) : Host.Outcome State Fault Refusal :=
  finish s (s.linkFrameError)

/-- FAIL_RECEIVE (R419). -/
def execFailReceive (lseq : Byte) (cause : Byte) (s : State) : Host.Outcome State Fault Refusal :=
  finish s (s.failReceive lseq.toNat cause.toNat)

/-- HB_TIMEOUT (R419). -/
def execHbTimeout (s : State) : Host.Outcome State Fault Refusal :=
  finish s (s.hbTimeout)

/-- DVORFAZA_LINK_DOWN (R419). -/
def execDvorfazaLinkDown (s : State) : Host.Outcome State Fault Refusal :=
  finish s (s.twinLinkDown)

/-- DVORFAZA_LINK_UP (R400). -/
def execDvorfazaLinkUp (s : State) : Host.Outcome State Fault Refusal :=
  finish s (s.twinLinkUp)

/-- TWF_I_ASSERT (R420). -/
def execTwfIAssert (sent : List (Port × Nat)) (s : State) : Host.Outcome State Fault Refusal :=
  finish s (s.fenced (sent.map (fun e => (e.1.val, e.2))))

/-- TWF_O_RELEASE (R420). -/
def execTwfORelease (s : State) : Host.Outcome State Fault Refusal :=
  finish s (s.releaseFence)

/-- RESET_PEER (R428). -/
def execResetPeer (h : HostId) (s : State) : Host.Outcome State Fault Refusal :=
  finish s (s.rowWrite (hostNum h) R.TWN_CMD 0 0 (keyWord 1))

/-- SWAP (R428). -/
def execSwap (h : HostId) (s : State) : Host.Outcome State Fault Refusal :=
  finish s (s.rowWrite (hostNum h) R.TWN_CMD 0 0 (keyWord 2))

end Sys2Proof.Machine
end

