-- ==== Sys2Proof/Machine/Dispatch.lean ====
section
/-! DEFINITION. What every command does: one arm for each constructor of Instr. -/

namespace Sys2Proof.Machine

def exec (i : Instr) (s : State) : Host.Outcome State Fault Refusal :=
  match i with
  | .registerWrite h off w data => Sys2Proof.Machine.execRegisterWrite h off w data s
  | .clearingRead h off w => Sys2Proof.Machine.execClearingRead h off w s
  | .scClearWrite h off data => Sys2Proof.Machine.execScClearWrite h off data s
  | .pairLoRead h off => Sys2Proof.Machine.execPairLoRead h off s
  | .aliasWrite h off data => Sys2Proof.Machine.execAliasWrite h off data s
  | .accAddrRead h => Sys2Proof.Machine.execAccAddrRead h s
  | .ingressTimestamp p pre sub => Sys2Proof.Machine.execIngressTimestamp p pre sub s
  | .cellWrite arrivals => Sys2Proof.Machine.execCellWrite arrivals s
  | .oversizeTruncate p pre bytes => Sys2Proof.Machine.execOversizeTruncate p pre bytes s
  | .lateSduExcess p pre bytes => Sys2Proof.Machine.execLateSduExcess p pre bytes s
  | .frameEnd p pre bytes sig => Sys2Proof.Machine.execFrameEnd p pre bytes sig s
  | .fragmentReceive p frag => Sys2Proof.Machine.execFragmentReceive p frag s
  | .pauseReceived p pre bytes => Sys2Proof.Machine.execPauseReceived p pre bytes s
  | .pfcReceived p pre bytes => Sys2Proof.Machine.execPfcReceived p pre bytes s
  | .pauseTimerExpire p pri => Sys2Proof.Machine.execPauseTimerExpire p pri s
  | .fcXoff p pair => Sys2Proof.Machine.execFcXoff p pair s
  | .fcXon p pair => Sys2Proof.Machine.execFcXon p pair s
  | .fcFrameSend p => Sys2Proof.Machine.execFcFrameSend p s
  | .fcRefresh p => Sys2Proof.Machine.execFcRefresh p s
  | .fcConfigRelease h p target data => Sys2Proof.Machine.execFcConfigRelease h p target data s
  | .portEnable h p loopback => Sys2Proof.Machine.execPortEnable h p loopback s
  | .portDisable h p loopback => Sys2Proof.Machine.execPortDisable h p loopback s
  | .portModeWrite h p data => Sys2Proof.Machine.execPortModeWrite h p data s
  | .pcsReset h p loopback => Sys2Proof.Machine.execPcsReset h p loopback s
  | .autonegComplete p partner sameTech => Sys2Proof.Machine.execAutonegComplete p partner sameTech s
  | .trainingComplete p eq => Sys2Proof.Machine.execTrainingComplete p eq s
  | .trainingTimeout p => Sys2Proof.Machine.execTrainingTimeout p s
  | .linkUp p => Sys2Proof.Machine.execLinkUp p s
  | .linkDown p cause => Sys2Proof.Machine.execLinkDown p cause s
  | .fecUncorrectable p count corrected => Sys2Proof.Machine.execFecUncorrectable p count corrected s
  | .verifyTimeout p => Sys2Proof.Machine.execVerifyTimeout p s
  | .respondReceived p => Sys2Proof.Machine.execRespondReceived p s
  | .verifyReceived p => Sys2Proof.Machine.execVerifyReceived p s
  | .preempt p sent => Sys2Proof.Machine.execPreempt p sent s
  | .windowComplete p pre bytes => Sys2Proof.Machine.execWindowComplete p pre bytes s
  | .dispatch => Sys2Proof.Machine.execDispatch s
  | .brNext e upset => Sys2Proof.Machine.execBrNext e upset s
  | .brGoto e upset => Sys2Proof.Machine.execBrGoto e upset s
  | .brIf e upset => Sys2Proof.Machine.execBrIf e upset s
  | .brMway e upset => Sys2Proof.Machine.execBrMway e upset s
  | .brCall e upset => Sys2Proof.Machine.execBrCall e upset s
  | .brRet e upset => Sys2Proof.Machine.execBrRet e upset s
  | .brEnd e upset => Sys2Proof.Machine.execBrEnd e upset s
  | .brSlow e upset => Sys2Proof.Machine.execBrSlow e upset s
  | .ucodeScrubStep upset => Sys2Proof.Machine.execUcodeScrubStep upset s
  | .prvRetire pl => Sys2Proof.Machine.execPrvRetire pl s
  | .ucodeWindowWrite h c w part data => Sys2Proof.Machine.execUcodeWindowWrite h c w part data s
  | .lookup pl parity => Sys2Proof.Machine.execLookup pl parity s
  | .police pl upset => Sys2Proof.Machine.execPolice pl upset s
  | .admitFrame pl => Sys2Proof.Machine.execAdmit pl s
  | .ctSelectable n => Sys2Proof.Machine.execCtSelectable n s
  | .cellRead reqs ctl => Sys2Proof.Machine.execCellRead reqs ctl s
  | .ageUnitStep => Sys2Proof.Machine.execAgeUnitStep s
  | .egressSelect p => Sys2Proof.Machine.execEgressSelect p s
  | .transmitStart p pre sub => Sys2Proof.Machine.execTransmitStart p pre sub s
  | .transmitEnd p pre => Sys2Proof.Machine.execTransmitEnd p pre s
  | .gateEntryStart p => Sys2Proof.Machine.execGateEntryStart p s
  | .macHoldAssert p => Sys2Proof.Machine.execMacHoldAssert p s
  | .macHoldRelease p => Sys2Proof.Machine.execMacHoldRelease p s
  | .gateChangeGo h p => Sys2Proof.Machine.execGateChangeGo h p s
  | .gateChangeCancel h p => Sys2Proof.Machine.execGateChangeCancel h p s
  | .gateChangeTime p => Sys2Proof.Machine.execGateChangeTime p s
  | .gclWrite h p data => Sys2Proof.Machine.execGclWrite h p data s
  | .gclRead h p => Sys2Proof.Machine.execGclRead h p s
  | .shaperConfigWrite h p q burst data => Sys2Proof.Machine.execShaperConfigWrite h p q burst data s
  | .calendarInsert p lt queue len src handle => Sys2Proof.Machine.execCalendarInsert p lt queue len src handle s
  | .launchDue p => Sys2Proof.Machine.execLaunchDue p s
  | .launchDiscard p => Sys2Proof.Machine.execLaunchDiscard p s
  | .learnInsert => Sys2Proof.Machine.execLearnInsert s
  | .ageScanStep => Sys2Proof.Machine.execAgeScanStep s
  | .lkpNop h w => Sys2Proof.Machine.execLkpNop h w s
  | .lkpRead h w table ver => Sys2Proof.Machine.execLkpRead h w table ver s
  | .lkpWrite h w table => Sys2Proof.Machine.execLkpWrite h w table s
  | .lkpInsert h w table => Sys2Proof.Machine.execLkpInsert h w table s
  | .lkpDelete h w table => Sys2Proof.Machine.execLkpDelete h w table s
  | .lkpSearch h w table ver => Sys2Proof.Machine.execLkpSearch h w table ver s
  | .lkpFlush h w table => Sys2Proof.Machine.execLkpFlush h w table s
  | .lkpCmdComplete w => Sys2Proof.Machine.execLkpCmdComplete w s
  | .epochCommit h => Sys2Proof.Machine.execEpochCommit h s
  | .epochDiscard h => Sys2Proof.Machine.execEpochDiscard h s
  | .commitApplied => Sys2Proof.Machine.execCommitApplied s
  | .commitTimeReached => Sys2Proof.Machine.execCommitTimeReached s
  | .epochDrained => Sys2Proof.Machine.execEpochDrained s
  | .tagSweepStep => Sys2Proof.Machine.execTagSweepStep s
  | .epochEccError double => Sys2Proof.Machine.execEpochEccError double s
  | .modeRequest h key mode => Sys2Proof.Machine.execModeRequest h key mode s
  | .switchPoint => Sys2Proof.Machine.execSwitchPoint s
  | .pewterDrainComplete => Sys2Proof.Machine.execPewterDrainComplete s
  | .pewterDrainDeadline => Sys2Proof.Machine.execPewterDrainDeadline s
  | .pewterGated => Sys2Proof.Machine.execPewterGated s
  | .maintenanceEnter => Sys2Proof.Machine.execMaintenanceEnter s
  | .keepaliveFrame p bytes => Sys2Proof.Machine.execKeepaliveFrame p bytes s
  | .timeWake => Sys2Proof.Machine.execTimeWake s
  | .wakeStart => Sys2Proof.Machine.execWakeStart s
  | .wakeComplete => Sys2Proof.Machine.execWakeComplete s
  | .mntScrub h mem => Sys2Proof.Machine.execMntScrub h mem s
  | .mntBist h mem => Sys2Proof.Machine.execMntBist h mem s
  | .mntAbort h mem => Sys2Proof.Machine.execMntAbort h mem s
  | .mntComplete corr unc addr slots => Sys2Proof.Machine.execMntComplete corr unc addr slots s
  | .holdEnd => Sys2Proof.Machine.execHoldEnd s
  | .invNop h d => Sys2Proof.Machine.execInvNop h d s
  | .invSet h d => Sys2Proof.Machine.execInvSet h d s
  | .invStep h d => Sys2Proof.Machine.execInvStep h d s
  | .invSlew h d => Sys2Proof.Machine.execInvSlew h d s
  | .invSlewStop h d => Sys2Proof.Machine.execInvSlewStop h d s
  | .invSnapAll h d => Sys2Proof.Machine.execInvSnapAll h d s
  | .rateLoad h d data => Sys2Proof.Machine.execRateLoad h d data s
  | .slewDone d => Sys2Proof.Machine.execSlewDone d s
  | .tdNsRead h d => Sys2Proof.Machine.execTdNsRead h d s
  | .cycleStart => Sys2Proof.Machine.execCycleStart s
  | .cycleGenEnable h => Sys2Proof.Machine.execCycleGenEnable h s
  | .cycleGenDisable h => Sys2Proof.Machine.execCycleGenDisable h s
  | .cycleChangeGo h => Sys2Proof.Machine.execCycleChangeGo h s
  | .cycleChangeCancel h => Sys2Proof.Machine.execCycleChangeCancel h s
  | .cycleChangeTime => Sys2Proof.Machine.execCycleChangeTime s
  | .tioEnable h pin cfg => Sys2Proof.Machine.execTioEnable h pin cfg s
  | .tioDisable h pin cfg => Sys2Proof.Machine.execTioDisable h pin cfg s
  | .tioOutputEdge pin => Sys2Proof.Machine.execTioOutputEdge pin s
  | .tioCapture pin rising sub => Sys2Proof.Machine.execTioCapture pin rising sub s
  | .tioCaptureRead h pin => Sys2Proof.Machine.execTioCaptureRead h pin s
  | .fanin => Sys2Proof.Machine.execFanin s
  | .gatherDeadline => Sys2Proof.Machine.execGatherDeadline s
  | .gatherPass => Sys2Proof.Machine.execGatherPass s
  | .fanoutPass => Sys2Proof.Machine.execFanoutPass s
  | .fanoutExtra => Sys2Proof.Machine.execFanoutExtra s
  | .heldPass g => Sys2Proof.Machine.execHeldPass g s
  | .pdsNop h table => Sys2Proof.Machine.execPdsNop h table s
  | .pdsRead h table => Sys2Proof.Machine.execPdsRead h table s
  | .pdsWrite h table => Sys2Proof.Machine.execPdsWrite h table s
  | .adaptStep => Sys2Proof.Machine.execAdaptStep s
  | .adaptWindowApply p => Sys2Proof.Machine.execAdaptWindowApply p s
  | .adaptRestoreIntervals p => Sys2Proof.Machine.execAdaptRestoreIntervals p s
  | .twinEnable => Sys2Proof.Machine.execTwinEnable s
  | .twinDisable h data => Sys2Proof.Machine.execTwinDisable h data s
  | .heartbeatSend => Sys2Proof.Machine.execHeartbeatSend s
  | .heartbeatReceive lseq peerRole base key align => Sys2Proof.Machine.execHeartbeatReceive lseq peerRole base key align s
  | .pairTimeout => Sys2Proof.Machine.execPairTimeout s
  | .syncCut a => Sys2Proof.Machine.execSyncCut a s
  | .syncWaitTimeout => Sys2Proof.Machine.execSyncWaitTimeout s
  | .syncStateCopy lseq items => Sys2Proof.Machine.execSyncStateCopy lseq items s
  | .joinComplete => Sys2Proof.Machine.execJoinComplete s
  | .logReceive lseq tags => Sys2Proof.Machine.execLogReceive lseq tags s
  | .tagRelease => Sys2Proof.Machine.execTagRelease s
  | .unmatchedDiscard => Sys2Proof.Machine.execUnmatchedDiscard s
  | .seenReceive lseq keys => Sys2Proof.Machine.execSeenReceive lseq keys s
  | .seenWaitExpire => Sys2Proof.Machine.execSeenWaitExpire s
  | .fwdReceive lseq fid win last words => Sys2Proof.Machine.execFwdReceive lseq fid win last words s
  | .digestIntervalEnd => Sys2Proof.Machine.execDigestIntervalEnd s
  | .digestReceive lseq num crc inputs frames => Sys2Proof.Machine.execDigestReceive lseq num crc inputs frames s
  | .twinCmdWrite lseq arrOfs off data be host => Sys2Proof.Machine.execTwinCmdWrite lseq arrOfs off data be host s
  | .mirroredWriteApply => Sys2Proof.Machine.execMirroredWriteApply s
  | .twinCmdMode lseq arrOfs target => Sys2Proof.Machine.execTwinCmdMode lseq arrOfs target s
  | .twinCmdCommit lseq arrOfs epoch k tsec tns crc => Sys2Proof.Machine.execTwinCmdCommit lseq arrOfs epoch k tsec tns crc s
  | .twinCmdReset lseq cause => Sys2Proof.Machine.execTwinCmdReset lseq cause s
  | .twinCmdSyncCut lseq cut => Sys2Proof.Machine.execTwinCmdSyncCut lseq cut s
  | .linkFrameError => Sys2Proof.Machine.execLinkFrameError s
  | .failReceive lseq cause => Sys2Proof.Machine.execFailReceive lseq cause s
  | .hbTimeout => Sys2Proof.Machine.execHbTimeout s
  | .dvorfazaLinkDown => Sys2Proof.Machine.execDvorfazaLinkDown s
  | .dvorfazaLinkUp => Sys2Proof.Machine.execDvorfazaLinkUp s
  | .twfIAssert sent => Sys2Proof.Machine.execTwfIAssert sent s
  | .twfORelease => Sys2Proof.Machine.execTwfORelease s
  | .resetPeer h => Sys2Proof.Machine.execResetPeer h s
  | .swap h => Sys2Proof.Machine.execSwap h s
  | .semClaimRead h n => Sys2Proof.Machine.execSemClaimRead h n s
  | .semWrite h n data => Sys2Proof.Machine.execSemWrite h n data s
  | .hostLinkReset h cause => Sys2Proof.Machine.execHostLinkReset h cause s
  | .hostD3hot h => Sys2Proof.Machine.execHostD3hot h s
  | .perstAssert h => Sys2Proof.Machine.execPerstAssert h s
  | .msixMessage h v enabled masked => Sys2Proof.Machine.execMsixMessage h v enabled masked s
  | .msixUnmask h v enabled masked => Sys2Proof.Machine.execMsixUnmask h v enabled masked s
  | .doorbell h ring => Sys2Proof.Machine.execDoorbell h ring s
  | .spiRead h len dummy abytes op => Sys2Proof.Machine.execSpiRead h len dummy abytes op s
  | .spiWrite h len dummy abytes op => Sys2Proof.Machine.execSpiWrite h len dummy abytes op s
  | .spiDone data => Sys2Proof.Machine.execSpiDone data s
  | .mdioAddress h bus phy dev data => Sys2Proof.Machine.execMdioAddress h bus phy dev data s
  | .mdioWrite h bus c45 phy reg data => Sys2Proof.Machine.execMdioWrite h bus c45 phy reg data s
  | .mdioRead h bus c45 phy reg => Sys2Proof.Machine.execMdioRead h bus c45 phy reg s
  | .mdioReadIncrement h bus phy dev => Sys2Proof.Machine.execMdioReadIncrement h bus phy dev s
  | .mdioDone data ta => Sys2Proof.Machine.execMdioDone data ta s
  | .i2cWrite data => Sys2Proof.Machine.execI2cWrite data s
  | .i2cRead words => Sys2Proof.Machine.execI2cRead words s
  | .wdtCfgWrite h en warn timeout => Sys2Proof.Machine.execWdtCfgWrite h en warn timeout s
  | .wdtKick h key => Sys2Proof.Machine.execWdtKick h key s
  | .wdtWarn => Sys2Proof.Machine.execWdtWarn s
  | .wdtExpire => Sys2Proof.Machine.execWdtExpire s
  | .tempAlarm tj => Sys2Proof.Machine.execTempAlarm tj s
  | .dmaStart h n => Sys2Proof.Machine.execDmaStart h n s
  | .dmaPause h n => Sys2Proof.Machine.execDmaPause h n s
  | .dmaPaused n => Sys2Proof.Machine.execDmaPaused n s
  | .dmaResume h n => Sys2Proof.Machine.execDmaResume h n s
  | .dmaStop h n => Sys2Proof.Machine.execDmaStop h n s
  | .dmaTailWrite h n tail => Sys2Proof.Machine.execDmaTailWrite h n tail s
  | .descriptorFetch n descs => Sys2Proof.Machine.execDescriptorFetch n descs s
  | .h2d n data => Sys2Proof.Machine.execH2d n data s
  | .d2h n len data => Sys2Proof.Machine.execD2h n len data s
  | .txSw n data => Sys2Proof.Machine.execTxSw n data s
  | .txDir n data => Sys2Proof.Machine.execTxDir n data s
  | .txLaunch n data => Sys2Proof.Machine.execTxLaunch n data s
  | .rx n len => Sys2Proof.Machine.execRx n len s
  | .descriptorComplete n same => Sys2Proof.Machine.execDescriptorComplete n same s
  | .beatGrant h write => Sys2Proof.Machine.execBeatGrant h write s
  | .busError h kind fetch addr => Sys2Proof.Machine.execBusError h kind fetch addr s
  | .bpmAlloc h => Sys2Proof.Machine.execBpmAlloc h s
  | .bpmRelease h => Sys2Proof.Machine.execBpmRelease h s
  | .bpmAdd h => Sys2Proof.Machine.execBpmAdd h s
  | .bpmQuery h => Sys2Proof.Machine.execBpmQuery h s
  | .poolInit h k => Sys2Proof.Machine.execPoolInit h k s
  | .poolReady k => Sys2Proof.Machine.execPoolReady k s
  | .cacheRefill k data => Sys2Proof.Machine.execCacheRefill k data s
  | .cacheSpill k => Sys2Proof.Machine.execCacheSpill k s
  | .fifoTake bad => Sys2Proof.Machine.execFifoTake bad s
  | .fifoRecordComplete => Sys2Proof.Machine.execFifoRecordComplete s
  | .fifoWindowRead h flip => Sys2Proof.Machine.execFifoWindowRead h flip s
  | .cffMark h => Sys2Proof.Machine.execCffMark h s
  | .cffRewind h => Sys2Proof.Machine.execCffRewind h s
  | .cffRelease h => Sys2Proof.Machine.execCffRelease h s
  | .cffSessionEnable h k data => Sys2Proof.Machine.execCffSessionEnable h k data s
  | .clearGroups h mask => Sys2Proof.Machine.execClearGroups h mask s
  | .clearLedger h mask => Sys2Proof.Machine.execClearLedger h mask s
  | .clearAll h mask => Sys2Proof.Machine.execClearAll h mask s
  | .groupEnableWrite h en => Sys2Proof.Machine.execGroupEnableWrite h en s
  | .counterWrap n => Sys2Proof.Machine.execCounterWrap n s
  | .dumpEnable h ports ledger sel => Sys2Proof.Machine.execDumpEnable h ports ledger sel s
  | .dumpSnapshot => Sys2Proof.Machine.execDumpSnapshot s
  | .dumpDone => Sys2Proof.Machine.execDumpDone s
  | .discover sfdp => Sys2Proof.Machine.execDiscover sfdp s
  | .flashLoadEnd image => Sys2Proof.Machine.execFlashLoadEnd image s
  | .hostLoad h => Sys2Proof.Machine.execHostLoad h s
  | .abort h => Sys2Proof.Machine.execAbort h s
  | .imageBytes => Sys2Proof.Machine.execImageBytes s
  | .hostLoadTimeout => Sys2Proof.Machine.execHostLoadTimeout s
  | .verifyEnd => Sys2Proof.Machine.execVerifyEnd s
  | .clearEnd => Sys2Proof.Machine.execClearEnd s
  | .releaseEnd => Sys2Proof.Machine.execReleaseEnd s
  | .fuseProgram h word vpp => Sys2Proof.Machine.execFuseProgram h word vpp s
  | .fuseDone readBack => Sys2Proof.Machine.execFuseDone readBack s
  | .patchEnWrite h en => Sys2Proof.Machine.execPatchEnWrite h en s
  | .patch h nwords => Sys2Proof.Machine.execPatch h nwords s
  | .swSysReset h => Sys2Proof.Machine.execSwSysReset h s
  | .swCoreReset h => Sys2Proof.Machine.execSwCoreReset h s
  | .resetSourceAssert src => Sys2Proof.Machine.execResetSourceAssert src s
  | .resetSourceRelease src => Sys2Proof.Machine.execResetSourceRelease src s
  | .por => Sys2Proof.Machine.execPor s
  | .pllLossOfLock => Sys2Proof.Machine.execPllLossOfLock s
  | .rstNLow => Sys2Proof.Machine.execRstNLow s
  | .rstNHigh => Sys2Proof.Machine.execRstNHigh s
  | .memoryInitComplete => Sys2Proof.Machine.execMemoryInitComplete s
  | .stretchExpire straps => Sys2Proof.Machine.execStretchExpire straps s
  | .settleEnd high straps => Sys2Proof.Machine.execSettleEnd high straps s
  | .modeEccError double => Sys2Proof.Machine.execModeEccError double s
  | .rststateParity => Sys2Proof.Machine.execRststateParity s
  | .polNop h table ver => Sys2Proof.Machine.execPolNop h table ver s
  | .polRead h table ver => Sys2Proof.Machine.execPolRead h table ver s
  | .polWrite h table ver => Sys2Proof.Machine.execPolWrite h table ver s
  | .polUnblock h table ver => Sys2Proof.Machine.execPolUnblock h table ver s
  | .polClrcnt h table ver => Sys2Proof.Machine.execPolClrcnt h table ver s
  | .polCmdComplete upset => Sys2Proof.Machine.execPolCmdComplete upset s
  | .pdsCmdComplete => Sys2Proof.Machine.execPdsCmdComplete s
  | .scheduleChangeGo h k => Sys2Proof.Machine.execScheduleChangeGo h k s
  | .scheduleChangeCancel h k => Sys2Proof.Machine.execScheduleChangeCancel h k s
  | .scheduleChangeTime k => Sys2Proof.Machine.execScheduleChangeTime k s
  | .timeDomainTick => Sys2Proof.Machine.execTimeDomainTick s
  | .shaperTokenAccrual => Sys2Proof.Machine.execShaperTokenAccrual s
  | .counterTick pdsBusy => Sys2Proof.Machine.execCounterTick pdsBusy s
  | .ledgerTick => Sys2Proof.Machine.execLedgerTick s
  | .controlWordReceived p word => Sys2Proof.Machine.execControlWordReceived p word s
  | .tapTckEdge tms tdi trst cells => Sys2Proof.Machine.execTapTckEdge tms tdi trst cells s

end Sys2Proof.Machine
end

