-- ==== Sys2Proof/Safety.lean ====
section
/-! DEFINITION. What a safe step is (the block answers a next state), and the words that statements about commands are made of: what a command does,
which access of a host reaches its register, and what a command leaves alone. -/

namespace Sys2Proof.Machine

/-- A step is safe when it answers a next state: no fault and no refusal. -/
def stepSafe (s : State) : Prop := ∃ t, step s = .next t

/-- The canonical form of the service SRAM (R383): its addresses rise strictly, and no byte is listed that equals what an unlisted address reads
as. After an aborted BIST an unlisted byte is a free value (R58, log entry 1), so that only the order of the addresses is left to say. -/
def Memory.wf (s : State) : Bool :=
  match s.sramLost with
  | none => tabWf 0 s.sram
  | some _ => tabRising 0 s.sram

/-- Domain `e` of a state one tick after it held `x`: it advances where it runs (R301, R331). -/
def State.ticked (s : State) (e : Nat) (x : Domain) : Domain := if s.domRuns e then domTick x else x

/-- What a command holds domain `e` to from the increment of the tick at which it acts: a slew, a stop, a rate, and the end of a slew that a SET
brings (R304 to R306). -/
def InvAct.fromTick (a : InvAct) (e : Nat) (x : Domain) : Domain :=
  match a with
  | .slew d rem shift => if e = d then { x with slewRem := rem, slewShift := shift } else x
  | .stop d => if e = d then { x with slewRem := 0 } else x
  | .set d _ _ => if e = d then { x with slewRem := 0 } else x
  | .rate d r => if e = d then { x with rate := r } else x
  | _ => x

/-- What a command does to domain `e` when the tick at which it acts is over: SET loads the time, STEP adds the offset (R304, R307). -/
def InvAct.afterTick (a : InvAct) (e : Nat) (x : Domain) : Domain :=
  match a with
  | .set d sec ns => if e = d then { x with sec := sec, ns := ns, frac := 0 } else x
  | .step d ofs => if e = d then domAdd x (ofs * 2 ^ 48) else x
  | _ => x

/-- The domain that a command steps: SET and STEP do (R308). -/
def InvAct.steps : InvAct → Option Nat
  | .set d _ _ => some d
  | .step d _ => some d
  | _ => none

/-- A run of `n` steps is safe. -/
def runSafe : Nat → State → Prop
  | 0, _ => True
  | n + 1, s => ∃ t, step s = .next t ∧ runSafe n t

/-- The command runs: exec answers a next state, and `P` holds of it. -/
def Does (c : Instr) (s : State) (P : State → Prop) : Prop := ∃ t, exec c s = .next t ∧ P t

/-- The BAR0 offset of a register, the same for both hosts. -/
def RegSpec.addr (r : RegSpec) (i j : Nat) : Nat := r.base + (r.off i j - r.off 0 0)

/-- The link of a host is up and not in L1, and no reset episode has taken the links away (R433, R573). -/
def State.linked (s : State) (h : HostId) : Bool := !s.hostsDead && s.bit (hostUp (hostNum h)) && !s.bit (hostL1 (hostNum h))

/-- A host whose link is up, not in L1, reaches the register `r i j`: no reset has taken the links away (R573), and the block of the
register answers (R54, R573). -/
def State.reaches (s : State) (h : HostId) (r : RegSpec) (i j : Nat) : Bool :=
  s.linked h && !s.gated (r.addr i j)

/-- A host's write reaches the register: beside that the write mask lets it through (R436), the device does not ignore writes of the
mirrored set (R412), and a bulk window is loaded (R547). -/
def State.opens (s : State) (h : HostId) (r : RegSpec) (i j : Nat) : Bool :=
  s.reaches h r i j && s.maskOk (hostNum h) (r.addr i j) && !(mirrored r && s.ignoresMirrored) && !(!s.loaded && bulkWindow r)

/-- The offsets of the MSI-X PBA words of both hosts, which follow the vectors at the end of every command. -/
def pbaOffs : List Nat := [R.MSIX_PBA.off 0 0, R.MSIX_PBA.off 1 0, R.MSIX_PBA.off 0 1, R.MSIX_PBA.off 1 1]

/-- From `s` to `t` every register holds what it held but those at the offsets listed, and the PBA words. -/
def State.keepsRegs (s t : State) (l : List Nat) : Prop :=
  ∀ q i j, q.off i j ∉ l ++ pbaOffs → t.reg q i j = s.reg q i j

/-- Port counter `k` of port `p` as a number of 64 bits (R102). -/
def State.portCount (s : State) (p k : Nat) : Nat := s.get F.PORT_CNT_LO_COUNT p k + 2 ^ 32 * s.get F.PORT_CNT_HI_COUNT p k

/-- The MAC of a port is receiving frame `k`, whose record is `f`: no decision has been taken about it, `b` further bytes keep it within MAXLEN,
and F has the cells that they begin (R20, R86, R212). -/
abbrev State.receiving (s : State) (p : Nat) (pre : Bool) (k : Nat) (f : Frame) (b : List Byte) : Prop :=
  s.rxFid p pre = some k ∧ s.frame k = some f ∧ f.stage = .arriving ∧ f.cap = f.maxlen ∧ f.rx.length + b.length ≤ f.maxlen ∧
    cellsOf (f.rx.length + b.length) - f.begun ≤ s.get F.SWC_FREE_CELLS

/-- Engine `e` is about to execute the sound microword `u` of its cluster's store on its state `x`, `u` is none of the words that R119 and R121
stop, and at most 62 microwords came before it (R118, R120). -/
abbrev State.executes (s : State) (e : Nat) (u : BitVec 96) (x : Engine) : Prop :=
  s.engine e = some x ∧ (s.uword (e / 16) x.addr).uw = u ∧ uwDecode (s.uword (e / 16) x.addr) = .sound ∧ badStatic u = false ∧
    badControl u x = false ∧ depthFault u x = false ∧ badDynamic u x (operandX u x) = false ∧ x.count < 63

/-- A vector that is not pending is armed and its PBA bit is 0, on both hosts (R452). -/
def State.VectorsArmed (s : State) : Prop :=
  ∀ h < 2, ∀ v < 64, s.vectorPending h v = false → s.vectorBusy h v = false

/-- From `s` to `t` only registers, and the arming of the message vectors, have changed. -/
def State.onlyRegs (s t : State) : Prop := ∃ r x y, t = { s with regs := r, ha := x, hb := y }

/-- From `s` to `t` an access of a host has set flag `k` of GLB_ACC_ERR and done nothing else (R606): SEQ advances, the first error since
VALID was cleared is captured with its offset, a later one sets MULTI (R445), and the error's vector is armed. -/
def AccessError (s t : State) (h : HostId) (k off : Nat) : Prop :=
  getBits (t.reg R.GLB_ACC_ERR) k k = 1 ∧
  t.get F.GLB_ACC_ERR_SEQ = (s.get F.GLB_ACC_ERR_SEQ + 1) % 256 ∧
  (s.bit F.GLB_ACC_ADDR_VALID = false → t.reg R.GLB_ACC_ADDR = BitVec.ofNat 32 (2 ^ 31 + k * 2 ^ 27 + hostNum h * 2 ^ 26 + off)) ∧
  (s.bit F.GLB_ACC_ADDR_VALID = true → t.reg R.GLB_ACC_ADDR = setBits (s.reg R.GLB_ACC_ADDR) 30 30 1) ∧
  s.keepsRegs t [R.GLB_ACC_ERR.base, R.GLB_ACC_ADDR.base, R.GLB_ACC_INFO.base, R.GLB_ACC_DATA.base] ∧
  s.onlyRegs t

end Sys2Proof.Machine
end

