-- ==== Sys2Proof/WellFormed.lean ====
section
/-! DEFINITION. Which commands are well formed: the limits that the spec puts on the data of a command beyond the types of its
operands. -/

namespace Sys2Proof

/-- A time base names four domains, each with nanoseconds below 10^9 and a fraction of 48 bits (R300, R405). -/
def alignOk (a : Machine.Align) : Bool :=
  decide (a.td.length = 3) && a.td.all (fun d => decide (d.2.1 < 1000000000 ∧ d.2.2 < 2 ^ 48))

/-- An access lies in its window (R431), and a request of more than 64 bits carries further words, at most 256 bytes in all (R430). -/
def accessOk (bar : Bar) (off : BitVec 24) (w : Width) : Bool :=
  (match bar with
    | .bar0 => true
    | .bar2 => decide (off.toNat < 8 * 2 ^ 20)
    | .bar4 => decide (off.toNat < 2 ^ 20)) &&
  (match w with
    | .burst rest => !rest.isEmpty && decide (rest.length ≤ 62)
    | _ => true)

/-- In one cycle the bytes of a MAC arrive once (R205). -/
def oncePerMac : List Arrival → Bool
  | [] => true
  | x :: t => t.all (fun y => y.port != x.port || y.pre != x.pre) && oncePerMac t

/-- A command is well formed: an access lies in its window; a beat of the cell memory names lists 0 to 615 (R208); a parity report names a table and a slot (R139);
a link frame keeps to the sizes of R402; a channel reads one to four descriptors (R467); a flash command moves at most 256 bytes (R458); a refill brings 16 handles (R489). -/
def Instr.wellFormed (i : Instr) : Bool :=
  match i with
  | .registerWrite _ off w _ => accessOk off.bar off.off w
  | .clearingRead _ off w => accessOk off.bar off.off w
  | .scClearWrite _ _ _ => true
  | .pairLoRead _ _ => true
  | .aliasWrite _ off data => accessOk .bar2 off data.w
  | .accAddrRead _ => true
  | .ingressTimestamp _ _ _ => true
  | .cellWrite arrivals => oncePerMac arrivals
  | .oversizeTruncate _ _ _ => true
  | .lateSduExcess _ _ _ => true
  | .frameEnd _ _ _ _ => true
  | .fragmentReceive _ _ => true
  | .pauseReceived _ _ _ => true
  | .pfcReceived _ _ _ => true
  | .pauseTimerExpire _ _ => true
  | .fcXoff _ _ => true
  | .fcXon _ _ => true
  | .fcFrameSend _ => true
  | .fcRefresh _ => true
  | .fcConfigRelease _ _ _ _ => true
  | .portEnable _ _ _ => true
  | .portDisable _ _ _ => true
  | .portModeWrite _ _ _ => true
  | .pcsReset _ _ _ => true
  | .autonegComplete _ _ _ => true
  | .trainingComplete _ _ => true
  | .trainingTimeout _ => true
  | .linkUp _ => true
  | .linkDown _ _ => true
  | .fecUncorrectable _ _ _ => true
  | .verifyTimeout _ => true
  | .respondReceived _ => true
  | .verifyReceived _ => true
  | .preempt _ _ => true
  | .windowComplete _ _ _ => true
  | .dispatch => true
  | .brNext _ _ => true
  | .brGoto _ _ => true
  | .brIf _ _ => true
  | .brMway _ _ => true
  | .brCall _ _ => true
  | .brRet _ _ => true
  | .brEnd _ _ => true
  | .brSlow _ _ => true
  | .ucodeScrubStep _ => true
  | .prvRetire _ => true
  | .ucodeWindowWrite _ _ _ _ _ => true
  | .lookup _ parity => parity.all (fun e => decide (e.1 < 9 ∧ e.2 < 2 ^ 20))
  | .police _ _ => true
  | .admitFrame _ => true
  | .ctSelectable _ => true
  | .cellRead reqs _ => reqs.all (fun r => decide (r.list < 616))
  | .ageUnitStep => true
  | .egressSelect _ => true
  | .transmitStart _ _ _ => true
  | .transmitEnd _ _ => true
  | .gateEntryStart _ => true
  | .macHoldAssert _ => true
  | .macHoldRelease _ => true
  | .gateChangeGo _ _ => true
  | .gateChangeCancel _ _ => true
  | .gateChangeTime _ => true
  | .gclWrite _ _ _ => true
  | .gclRead _ _ => true
  | .shaperConfigWrite _ _ _ _ _ => true
  | .calendarInsert _ _ _ _ _ _ => true
  | .launchDue _ => true
  | .launchDiscard _ => true
  | .learnInsert => true
  | .ageScanStep => true
  | .lkpNop _ _ => true
  | .lkpRead _ _ _ _ => true
  | .lkpWrite _ _ _ => true
  | .lkpInsert _ _ _ => true
  | .lkpDelete _ _ _ => true
  | .lkpSearch _ _ _ _ => true
  | .lkpFlush _ _ _ => true
  | .lkpCmdComplete _ => true
  | .epochCommit _ => true
  | .epochDiscard _ => true
  | .commitApplied => true
  | .commitTimeReached => true
  | .epochDrained => true
  | .tagSweepStep => true
  | .epochEccError _ => true
  | .modeRequest _ _ _ => true
  | .switchPoint => true
  | .pewterDrainComplete => true
  | .pewterDrainDeadline => true
  | .pewterGated => true
  | .maintenanceEnter => true
  | .keepaliveFrame _ _ => true
  | .timeWake => true
  | .wakeStart => true
  | .wakeComplete => true
  | .mntScrub _ _ => true
  | .mntBist _ _ => true
  | .mntAbort _ _ => true
  | .mntComplete _ _ _ _ => true
  | .holdEnd => true
  | .invNop _ _ => true
  | .invSet _ _ => true
  | .invStep _ _ => true
  | .invSlew _ _ => true
  | .invSlewStop _ _ => true
  | .invSnapAll _ _ => true
  | .rateLoad _ _ _ => true
  | .slewDone _ => true
  | .tdNsRead _ _ => true
  | .cycleStart => true
  | .cycleGenEnable _ => true
  | .cycleGenDisable _ => true
  | .cycleChangeGo _ => true
  | .cycleChangeCancel _ => true
  | .cycleChangeTime => true
  | .tioEnable _ _ _ => true
  | .tioDisable _ _ _ => true
  | .tioOutputEdge _ => true
  | .tioCapture _ _ _ => true
  | .tioCaptureRead _ _ => true
  | .fanin => true
  | .gatherDeadline => true
  | .gatherPass => true
  | .fanoutPass => true
  | .fanoutExtra => true
  | .heldPass _ => true
  | .pdsNop _ _ => true
  | .pdsRead _ _ => true
  | .pdsWrite _ _ => true
  | .adaptStep => true
  | .adaptWindowApply _ => true
  | .adaptRestoreIntervals _ => true
  | .twinEnable => true
  | .twinDisable _ _ => true
  | .heartbeatSend => true
  | .heartbeatReceive _ _ base _ align => decide (base.ns.toNat < 1000000000) && align.all alignOk
  | .pairTimeout => true
  | .syncCut a => alignOk a
  | .syncWaitTimeout => true
  | .syncStateCopy _ items => decide (items.items.length ≤ 32)
  | .joinComplete => true
  | .logReceive _ tags => decide (1 ≤ tags.length ∧ tags.length ≤ 16)
  | .tagRelease => true
  | .unmatchedDiscard => true
  | .seenReceive _ keys => decide (1 ≤ keys.length ∧ keys.length ≤ 32)
  | .seenWaitExpire => true
  | .fwdReceive _ _ _ _ words => decide (words.length ≤ 32)
  | .digestIntervalEnd => true
  | .digestReceive _ _ _ _ _ => true
  | .twinCmdWrite _ _ _ _ _ _ => true
  | .mirroredWriteApply => true
  | .twinCmdMode _ _ _ => true
  | .twinCmdCommit _ _ _ _ _ _ _ => true
  | .twinCmdReset _ _ => true
  | .twinCmdSyncCut _ cut => decide (cut.op.toNat = 0 ∨ 5 ≤ cut.op.toNat)
  | .linkFrameError => true
  | .failReceive _ _ => true
  | .hbTimeout => true
  | .dvorfazaLinkDown => true
  | .dvorfazaLinkUp => true
  | .twfIAssert _ => true
  | .twfORelease => true
  | .resetPeer _ => true
  | .swap _ => true
  | .semClaimRead _ _ => true
  | .semWrite _ _ _ => true
  | .hostLinkReset _ _ => true
  | .hostD3hot _ => true
  | .perstAssert _ => true
  | .msixMessage _ _ _ _ => true
  | .msixUnmask _ _ _ _ => true
  | .doorbell _ _ => true
  | .spiRead _ _ _ _ _ => true
  | .spiWrite _ _ _ _ _ => true
  | .spiDone data => decide (data.length ≤ 256)
  | .mdioAddress _ _ _ _ _ => true
  | .mdioWrite _ _ _ _ _ _ => true
  | .mdioRead _ _ _ _ _ => true
  | .mdioReadIncrement _ _ _ _ => true
  | .mdioDone _ _ => true
  | .i2cWrite _ => true
  | .i2cRead _ => true
  | .wdtCfgWrite _ _ _ _ => true
  | .wdtKick _ _ => true
  | .wdtWarn => true
  | .wdtExpire => true
  | .tempAlarm _ => true
  | .dmaStart _ _ => true
  | .dmaPause _ _ => true
  | .dmaPaused _ => true
  | .dmaResume _ _ => true
  | .dmaStop _ _ => true
  | .dmaTailWrite _ _ _ => true
  | .descriptorFetch _ descs => decide (1 ≤ descs.length ∧ descs.length ≤ 4)
  | .h2d _ _ => true
  | .d2h _ _ _ => true
  | .txSw _ _ => true
  | .txDir _ _ => true
  | .txLaunch _ _ => true
  | .rx _ _ => true
  | .descriptorComplete _ _ => true
  | .beatGrant _ _ => true
  | .busError _ _ _ _ => true
  | .bpmAlloc _ => true
  | .bpmRelease _ => true
  | .bpmAdd _ => true
  | .bpmQuery _ => true
  | .poolInit _ _ => true
  | .poolReady _ => true
  | .cacheRefill _ data => decide (data.length = 16)
  | .cacheSpill _ => true
  | .fifoTake _ => true
  | .fifoRecordComplete => true
  | .fifoWindowRead _ _ => true
  | .cffMark _ => true
  | .cffRewind _ => true
  | .cffRelease _ => true
  | .cffSessionEnable _ _ _ => true
  | .clearGroups _ _ => true
  | .clearLedger _ _ => true
  | .clearAll _ _ => true
  | .groupEnableWrite _ _ => true
  | .counterWrap _ => true
  | .dumpEnable _ _ _ _ => true
  | .dumpSnapshot => true
  | .dumpDone => true
  | .discover _ => true
  | .flashLoadEnd _ => true
  | .hostLoad _ => true
  | .abort _ => true
  | .imageBytes => true
  | .hostLoadTimeout => true
  | .verifyEnd => true
  | .clearEnd => true
  | .releaseEnd => true
  | .fuseProgram _ _ _ => true
  | .fuseDone _ => true
  | .patchEnWrite _ _ => true
  | .patch _ _ => true
  | .swSysReset _ => true
  | .swCoreReset _ => true
  | .resetSourceAssert _ => true
  | .resetSourceRelease _ => true
  | .por => true
  | .pllLossOfLock => true
  | .rstNLow => true
  | .rstNHigh => true
  | .memoryInitComplete => true
  | .stretchExpire _ => true
  | .settleEnd _ _ => true
  | .modeEccError _ => true
  | .rststateParity => true
  | .polNop _ _ _ => true
  | .polRead _ _ _ => true
  | .polWrite _ _ _ => true
  | .polUnblock _ _ _ => true
  | .polClrcnt _ _ _ => true
  | .polCmdComplete _ => true
  | .pdsCmdComplete => true
  | .scheduleChangeGo _ _ => true
  | .scheduleChangeCancel _ _ => true
  | .scheduleChangeTime _ => true
  | .timeDomainTick => true
  | .shaperTokenAccrual => true
  | .counterTick _ => true
  | .ledgerTick => true
  | .controlWordReceived _ _ => true
  | .tapTckEdge _ _ _ _ => true

end Sys2Proof
end

