-- ==== Sys2Proof/Certificates/Slice0/Obligations.lean ====
section
/-! DEFINITION. What the block is claimed to do: one statement per definition below. `Does c s P` says that command `c` completes from `s`
in a next state of which `P` holds; `keepsRegs` and `onlyRegs` say what it leaves alone. -/

section ObligationText
open Sys2Proof Sys2Proof.Machine

/-- The command at the front of the queue is taken and run with the queue's rest; with nothing waiting the block idles (the model's choice,
log entry 10). -/
def Obligations.StepRunsFront : Prop :=
  (∀ (c : Instr) (s : State), step { s with pending := c :: s.pending } = exec c s) ∧
  (∀ s : State, s.pending = [] → step s = .next s)

/-- No command touches the queue of waiting commands. -/
def Obligations.ExecKeepsQueue : Prop :=
  ∀ (c : Instr) (s t : State), exec c s = .next t → t.pending = s.pending

/-- Steps consume the queue first in, first out, and every run completes: after `n` steps the first `n` commands are gone, whatever they were. -/
def Obligations.RunConsumesQueue : Prop :=
  ∀ (n : Nat) (s : State), ∃ t : State, Host.Core.run Sys2Proof.core n s = .next t ∧ t.pending = s.pending.drop n

/-- The block never stops: every run of every length from every state is safe. -/
def Obligations.BlockNeverStops : Prop :=
  ∀ (n : Nat) (s : State), runSafe n s

/-- R452: a vector that is not pending is armed (its message counts as not sent) and its PBA bit is 0, on both hosts, after every step. -/
def Obligations.VectorsStayArmed : Prop :=
  ∀ s t : State, s.VectorsArmed → step s = .next t → t.VectorsArmed

/-- The vectors of both hosts are armed after a POWER_ON reset. -/
def Obligations.VectorsArmedAtReset : Prop := State.reset.VectorsArmed

/-- R7: after a POWER_ON reset every register holds its Reset value, no frame, copy or table entry is in the device, nothing waits, and
nothing has been driven out. The values of state that no register shows are the model's own (log entries 1 and 10). -/
def Obligations.ResetState : Prop :=
  (∀ r i j, State.reset.reg r i j = r.resetWord) ∧ State.reset.mode = modeLOAD ∧ (∀ k, State.reset.frame k = none) ∧
  (∀ n, State.reset.list n = []) ∧ (∀ a, State.reset.sramByte a = 0) ∧ State.reset.pending = [] ∧ State.reset.out = []

/-- R19, R436, R437, R445, R606: the checks of a 32-bit write of BAR0 as a whole, in their order. A write that the mask refuses sets
MASK, and only that, even at a hole; a write let through to a hole sets UNIMP; a write across a 4-byte boundary sets ALIGN before any other
check and is aborted, as is such a read; a narrow write outside the windows that take one sets WIDTH. Each has no other effect. -/
def Obligations.AccessChecks : Prop :=
  (∀ (s : State) (h : HostId) (off : BitVec 24) (data : BitVec 64), s.linked h = true → s.gated off.toNat = false → s.compact = false →
    off.toNat % 4 = 0 →
    (s.maskOk (hostNum h) off.toNat = false → Does (.registerWrite h (at0 off) .w32 data) s fun t => AccessError s t h 7 off.toNat) ∧
    (s.maskOk (hostNum h) off.toNat = true → (cffWindow off.toNat = true ∨ regAt off.toNat = none) →
      Does (.registerWrite h (at0 off) .w32 data) s fun t => AccessError s t h 6 off.toNat)) ∧
  (∀ (s : State) (h : HostId) (off : BitVec 24) (w : Width) (data : BitVec 64), s.linked h = true → crosses off.toNat w = true →
    Does (.registerWrite h (at0 off) w data) s (fun t => AccessError s { t with out := s.out } h 5 off.toNat ∧ t.out = s.out ++ [.abort (hostNum h)]) ∧
    Does (.clearingRead h (at0 off) w) s fun t => AccessError s { t with out := s.out } h 5 off.toNat ∧ t.out = s.out ++ [.abort (hostNum h)]) ∧
  (∀ (s : State) (h : HostId) (off : BitVec 24) (w : Width) (data : BitVec 64) (r : RegSpec) (i j : Nat), s.linked h = true →
    (w = .w8 ∨ w = .w16) → crosses off.toNat w = false → s.gated (off.toNat - off.toNat % 4) = false → s.compact = false →
    s.maskOk (hostNum h) (off.toNat - off.toNat % 4) = true → cffWindow (off.toNat - off.toNat % 4) = false →
    regAt (off.toNat - off.toNat % 4) = some (r, i, j) → narrowOk r = false →
    Does (.registerWrite h (at0 off) w data) s fun t => AccessError s t h 4 (off.toNat - off.toNat % 4))

/-- R9, R10, R11, R8, R17, R445, R447: accesses that pass the checks. A write of a register of the switch core sets its RW fields and no other
register, and RSVD bits written as they are read stay; a clearing write of an SC register clears the bits written 1 when its SEQ is the present one, and else sets STALE; a read clears
the RC fields and returns what the register held; a read of the _LO register of a pair fills the snapshot of the reading host with the high
word; a read of GLB_ACC_ADDR frees the capture. -/
def Obligations.RegisterAccesses : Prop :=
  (∀ (s : State) (h : HostId) (off : BitVec 24) (data : BitVec 64) (r : RegSpec) (i j : Nat),
    regAt off.toNat = some (r, i, j) → 0x200000 ≤ r.base → r.base < 0x300000 → r.has .sc = false → r.has .rwe = false → r.hostPrivate = false →
    s.linked h = true → s.gated off.toNat = false → s.compact = false → s.maskOk (hostNum h) off.toNat = true → s.ignoresMirrored = false →
    off.toNat % 4 = 0 →
    Does (.registerWrite h (at0 off) .w32 data) s fun t =>
      t.reg r i j = (s.reg r i j &&& ~~~ accMask r (fun a => a == .rw)) ||| (clampWord r (data.setWidth 32) &&& accMask r (fun a => a == .rw)) ∧
      s.keepsRegs t [r.off i j] ∧ (data.setWidth 32 &&& r.rsvdMask = s.rsvdHeld (hostNum h) r i j → t.rsvd = s.rsvd)) ∧
  (∀ (s : State) (h : HostId) (off : BitVec 24) (data : Word) (r : RegSpec) (i j : Nat),
    regAt off.toNat = some (r, i, j) → r.has .sc = true → cffWindow off.toNat = false → mirrored r = false →
    bulkWindow r = false → s.linked h = true → s.gated off.toNat = false → s.compact = false → s.maskOk (hostNum h) off.toNat = true →
    off.toNat % 4 = 0 → r.off (regIdx r (hostNum h) i j).1 (regIdx r (hostNum h) i j).2 ∉ pbaOffs →
    (getBits data 31 24 = getBits (s.reg r (regIdx r (hostNum h) i j).1 (regIdx r (hostNum h) i j).2) 31 24 →
      Does (.scClearWrite h off data) s fun t =>
        t.reg r (regIdx r (hostNum h) i j).1 (regIdx r (hostNum h) i j).2
          = s.reg r (regIdx r (hostNum h) i j).1 (regIdx r (hostNum h) i j).2 &&& ~~~ (data &&& accMask r (fun a => a == .sc)) ∧
        s.keepsRegs t [r.off (regIdx r (hostNum h) i j).1 (regIdx r (hostNum h) i j).2] ∧ ({ s with rsvd := t.rsvd } : State).onlyRegs t ∧
        (data &&& r.rsvdMask = s.rsvdHeld (hostNum h) r i j → t.rsvd = s.rsvd)) ∧
    (getBits data 31 24 ≠ getBits (s.reg r (regIdx r (hostNum h) i j).1 (regIdx r (hostNum h) i j).2) 31 24 →
      Does (.scClearWrite h off data) s fun t => AccessError s t h 0 off.toNat)) ∧
  (∀ (s : State) (h : HostId) (off : BitVec 24) (r : RegSpec) (i j : Nat), regAt off.toNat = some (r, i, j) →
    r.has .rc = true → isPairLo r = false → isPairHi r = false → r.hostPrivate = false → cffWindow off.toNat = false →
    r.base ∉ [R.GLB_SEM.base, R.INV_TIO_CAP_NS.base, R.INV_TD_NS.base, R.EGS_GCL_D1.base, R.PORT_CNT_LO.base, R.BPM_POOL_LOW.base] →
    s.linked h = true → s.gated off.toNat = false → s.compact = false → off.toNat % 4 = 0 → r.off i j ∉ pbaOffs →
    Does (.clearingRead h (at0 off) .w32) s fun t =>
      t.reg r i j = s.reg r i j &&& ~~~ accMask r (fun a => a == .rc) ∧ s.keepsRegs t [r.off i j] ∧
      t.out = s.out ++ [.readData (hostNum h) (BitVec.ofNat 64 (s.live (hostNum h) r i j).toNat)]) ∧
  (∀ (s : State) (h : HostId) (off : BitVec 24) (r q : RegSpec) (i j i' j' : Nat), regAt off.toNat = some (r, i, j) →
    isPairLo r = true → regAt (off.toNat + 4) = some (q, i', j') → isPairHi r = false → cffWindow off.toNat = false →
    r.base ≠ R.GLB_SEM.base → r.base ≠ R.INV_TIO_CAP_NS.base → r.base ≠ R.INV_TD_NS.base → r.base ≠ R.EGS_GCL_D1.base →
    s.linked h = true → s.gated off.toNat = false → s.compact = false → off.toNat % 4 = 0 →
    Does (.pairLoRead h off) s fun t =>
      t.pairSnap (hostNum h) off.toNat = s.live (hostNum h) q i' j' ∧
      (∀ a k, a * 2 + k ≠ off.toNat * 2 + hostNum h → t.pairSnap k a = s.pairSnap k a) ∧
      t.out = s.out ++ [.readData (hostNum h) (BitVec.ofNat 64 (s.live (hostNum h) r i j).toNat)]) ∧
  (∀ (s : State) (h : HostId), s.reaches h R.GLB_ACC_ADDR 0 0 = true → Does (.accAddrRead h) s fun t =>
    t.out = s.out ++ [.readData (hostNum h) (BitVec.ofNat 64 (s.reg R.GLB_ACC_ADDR).toNat)] ∧
    t.bit F.GLB_ACC_ADDR_VALID = false ∧ t.bit F.GLB_ACC_ADDR_MULTI = false ∧ s.keepsRegs t [R.GLB_ACC_ADDR.base]) ∧
  (∀ (s : State) (h : HostId) (off : BitVec 24) (data : Word) (r : RegSpec) (i j : Nat) (f : FieldSpec),
    regAt (off.toNat / 128 * 4) = some (r, i, j) → 0x20000 ≤ r.base → r.base < 0x30000 →
    r.base ∉ [R.MGT_SPI_CMD.base, R.MGT_MDIO_CMD.base, R.MGT_WDT_CFG.base, R.MGT_WDT_KICK.base, R.MGT_SPI_BUF.base, R.MGT_SPI_CFG.base,
      R.MGT_MDIO_CFG.base] →
    r.has .sc = false → r.has .rwe = false → r.hostPrivate = false → r.fieldAt (off.toNat % 128 / 4) = some f → f.acc = .rw →
    off.toNat % 4 = 0 → s.linked h = true → s.gated (off.toNat / 128 * 4) = false → s.compact = false →
    s.maskOk (hostNum h) (off.toNat / 128 * 4) = true →
    Does (.aliasWrite h off { w := .w32, val := data.setWidth 64 }) s fun t =>
      t.reg r i j = setBits (s.reg r i j) (off.toNat % 128 / 4) (off.toNat % 128 / 4) (getBits data 0 0) ∧ s.keepsRegs t [r.off i j] ∧
      s.onlyRegs t) ∧
  (∀ (s : State) (h : HostId) (off : BitVec 24) (data : Word) (r : RegSpec) (i j : Nat) (f : FieldSpec),
    regAt (off.toNat / 128 * 4) = some (r, i, j) → r.fieldAt (off.toNat % 128 / 4) = some f →
    (f.acc = .ro ∨ f.acc = .rc ∨ ((f.acc = .sc ∨ f.acc = .wo) ∧ getBits data 0 0 = 0)) →
    off.toNat % 4 = 0 → s.linked h = true → s.gated (off.toNat / 128 * 4) = false → s.compact = false →
    s.maskOk (hostNum h) (off.toNat / 128 * 4) = true →
    Does (.aliasWrite h off { w := .w32, val := data.setWidth 64 }) s fun t => s.keepsRegs t [] ∧ s.onlyRegs t)

/-- R439: the owner of a semaphore writes its TAG and releases it by RELEASE = 1, which sets RELEASED; a write of the other host, or to a free
semaphore, changes nothing, and sets WRONG_REL if RELEASE is 1; a read of a held semaphore returns GOT = 0 whoever reads it. Every release sets
RELEASED: that of a host link's reset too. -/
def Obligations.SemaphoreOwnership : Prop :=
  (∀ (s : State) (h : HostId) (n : Fin 64) (data : Word), s.opens h R.GLB_SEM n 0 = true →
    (s.get F.GLB_SEM_OWNER n = hostNum h + 1 →
      (getBits data 16 16 = 0 → Does (.semWrite h n data) s fun t =>
        t.get F.GLB_SEM_TAG n = getBits data 15 0 ∧ t.get F.GLB_SEM_OWNER n = hostNum h + 1 ∧ s.keepsRegs t [R.GLB_SEM.off n 0] ∧ s.onlyRegs t) ∧
      (getBits data 16 16 = 1 → Does (.semWrite h n data) s fun t =>
        t.get F.GLB_SEM_OWNER n = 0 ∧ t.get F.GLB_SEM_TAG n = getBits data 15 0 ∧ t.bit F.GLB_SEM_EVT_RELEASED = true ∧
        s.keepsRegs t [R.GLB_SEM.off n 0, R.GLB_SEM_EVT.base] ∧ s.onlyRegs t)) ∧
    (s.get F.GLB_SEM_OWNER n ≠ hostNum h + 1 →
      (getBits data 16 16 = 0 → Does (.semWrite h n data) s fun t => s.keepsRegs t [] ∧ s.onlyRegs t) ∧
      (getBits data 16 16 = 1 → Does (.semWrite h n data) s fun t =>
        t.bit F.GLB_SEM_EVT_WRONG_REL = true ∧ s.keepsRegs t [R.GLB_SEM_EVT.base] ∧ s.onlyRegs t))) ∧
  (∀ (s : State) (h : HostId) (n : Fin 64), s.reaches h R.GLB_SEM n 0 = true → s.get F.GLB_SEM_OWNER n ≠ 0 →
    Does (.semClaimRead h n) s fun t =>
      t.out = s.out ++ [.readData (hostNum h) (BitVec.ofNat 64 ((s.reg R.GLB_SEM n &&& 0x7FFFFFFF) ||| s.rsvdShown (hostNum h) R.GLB_SEM n 0).toNat)] ∧ s.keepsRegs t []) ∧
  (∀ (s : State) (host n : Nat), n < 64 → s.get F.GLB_SEM_OWNER n = host + 1 →
    (s.semAuto host).get F.GLB_SEM_OWNER n = 0 ∧ (s.semAuto host).bit F.GLB_SEM_EVT_RELEASED = true)

/-- R438, R440, R433: a read of a free semaphore claims it for the reading host, clears its TAG and returns GOT = 1 with OWNER naming that host.
After an FLR, a hot reset or a link down, or PERST_N, of a host no semaphore is owned by it, each such release sets AUTO_REL as well as RELEASED,
the other host's semaphores are left alone, and after all but FLR the link is down. D3hot suppresses the host's messages. -/
def Obligations.SemaphoreClaimAndHostLink : Prop :=
  (∀ (s : State) (h : HostId) (n : Fin 64), s.reaches h R.GLB_SEM n 0 = true → s.get F.GLB_SEM_OWNER n = 0 →
    Does (.semClaimRead h n) s fun t =>
      t.get F.GLB_SEM_OWNER n = hostNum h + 1 ∧ t.get F.GLB_SEM_TAG n = 0 ∧
      t.out = s.out ++ [.readData (hostNum h) (BitVec.ofNat 64 ((t.reg R.GLB_SEM n ||| 0x80000000) ||| s.rsvdShown (hostNum h) R.GLB_SEM n 0).toNat)] ∧
      s.keepsRegs t [R.GLB_SEM.off n 0]) ∧
  (∀ (s : State) (host n : Nat), n < 64 →
    (s.get F.GLB_SEM_OWNER n = host + 1 → (s.semAuto host).bit F.GLB_SEM_EVT_AUTO_REL = true) ∧
    (s.get F.GLB_SEM_OWNER n ≠ host + 1 → (s.semAuto host).reg R.GLB_SEM n = s.reg R.GLB_SEM n)) ∧
  (∀ (s : State) (h : HostId) (cause : Fin 3), Does (.hostLinkReset h cause) s fun t =>
    (∀ n < 64, t.get F.GLB_SEM_OWNER n ≠ hostNum h + 1) ∧ (cause.val ≠ 0 → t.bit (hostUp (hostNum h)) = false)) ∧
  (∀ (s : State) (h : HostId), Does (.perstAssert h) s fun t =>
    (∀ n < 64, t.get F.GLB_SEM_OWNER n ≠ hostNum h + 1) ∧ t.bit (hostUp (hostNum h)) = false) ∧
  (∀ (s : State) (h : HostId), Does (.hostD3hot h) s fun t => (t.hostPort (hostNum h)).d3 = true)

/-- R452, R453: doorbells and message vectors. A doorbell write sets the doorbells written 1 of the other host, whose SEQ advances, and nothing
else; a pending, armed vector whose hold-off has run out sends its message if the function and the entry let it, which disarms it and clears its
PBA bit, and else sets its PBA bit; unmasking a vector whose PBA bit is 1 sends its message. -/
def Obligations.DoorbellsAndMessages : Prop :=
  (∀ (s : State) (h : HostId) (ring : Byte), s.opens h R.GLB_DOORBELL 0 0 = true → ring ≠ 0 → Does (.doorbell h ring) s fun t =>
    t.get F.GLB_DB_STAT_DB (1 - hostNum h) = s.get F.GLB_DB_STAT_DB (1 - hostNum h) ||| ring.toNat ∧
    t.get F.GLB_DB_STAT_SEQ (1 - hostNum h) = (s.get F.GLB_DB_STAT_SEQ (1 - hostNum h) + 1) % 256 ∧
    s.keepsRegs t [R.GLB_DB_STAT.off (1 - hostNum h) 0] ∧ s.onlyRegs t) ∧
  (∀ (s : State) (h : HostId) (v : Fin 64) (enabled masked : Bool), s.vectorPending (hostNum h) v = true →
    (s.hostPort (hostNum h)).sent.testBit v = false →
    (∀ k, tabFind? v.val (s.hostPort (hostNum h)).lastMsg = some k → k + 500 * s.get F.GLB_INT_CFG_HOLDOFF (hostNum h) ≤ s.inv.ticks) →
    (s.messageAllowed (hostNum h) v enabled masked = true → Does (.msixMessage h v enabled masked) s fun t =>
      t.out = s.out ++ [.message (hostNum h) v (s.get F.MSIX_ADDR_LO_ADDR v (hostNum h) + 2 ^ 32 * s.get F.MSIX_ADDR_HI_ADDR v (hostNum h))
        (s.reg R.MSIX_DATA v (hostNum h))] ∧
      (t.hostPort (hostNum h)).sent.testBit v = true ∧ t.pba (hostNum h) v = false ∧ s.keepsRegs t []) ∧
    (s.messageAllowed (hostNum h) v enabled masked = false → Does (.msixMessage h v enabled masked) s fun t =>
      t.out = s.out ∧ t.pba (hostNum h) v = true ∧ s.keepsRegs t [])) ∧
  (∀ (s : State) (h : HostId) (v : Fin 64), s.pba (hostNum h) v = true → s.vectorPending (hostNum h) v = true →
    (s.hostPort (hostNum h)).d3 = false → Does (.msixUnmask h v true false) s fun t =>
      t.bit F.MSIX_CTRL_MASKED v (hostNum h) = false ∧ t.pba (hostNum h) v = false ∧ (t.hostPort (hostNum h)).sent.testBit v = true ∧
      t.out = s.out ++ [.message (hostNum h) v (s.get F.MSIX_ADDR_LO_ADDR v (hostNum h) + 2 ^ 32 * s.get F.MSIX_ADDR_HI_ADDR v (hostNum h))
        (s.reg R.MSIX_DATA v (hostNum h))] ∧ s.keepsRegs t [R.MSIX_CTRL.off v (hostNum h)])

/-- R458, R460: the flash and MDIO interfaces. A command accepted while its interface is idle is driven out, and runs until it is done; a
flash read leaves what the flash returned in the buffer, byte 0 in the low bits of the first word; an MDIO frame that reads leaves RDATA and
TA_ERR. -/
def Obligations.SerialManagement : Prop :=
  (∀ (s : State) (h : HostId) (len : BitVec 9) (dummy : BitVec 5) (abytes : Fin 8) (op : Byte), s.opens h R.MGT_SPI_CMD 0 0 = true →
    s.spiBusy = false →
    (Does (.spiRead h len dummy abytes op) s fun t =>
      t.mgt = { s.mgt with spi := some (spiWord false len.toNat dummy.toNat abytes.val op.toNat, s.reg R.MGT_SPI_ADDR) } ∧
      t.out = s.out ++ [.spi (op :: beBytes (if abytes.val = 3 ∨ abytes.val = 4 then abytes.val else 0) (s.get F.MGT_SPI_ADDR_ADDR))
        dummy.toNat (min len.toNat 256)] ∧
      s.keepsRegs t [R.MGT_SPI_CMD.base]) ∧
    (Does (.spiWrite h len dummy abytes op) s fun t =>
      t.mgt = { s.mgt with spi := some (spiWord true len.toNat dummy.toNat abytes.val op.toNat, s.reg R.MGT_SPI_ADDR) } ∧
      t.out = s.out ++ [.spi (op :: beBytes (if abytes.val = 3 ∨ abytes.val = 4 then abytes.val else 0) (s.get F.MGT_SPI_ADDR_ADDR)
        ++ s.spiBuf (min len.toNat 256)) dummy.toNat 0] ∧
      s.keepsRegs t [R.MGT_SPI_CMD.base])) ∧
  (∀ (s : State) (w a : Word) (data : List Byte), s.mgt.spi = some (w, a) → Does (.spiDone data) s fun t =>
    t.mgt = { s.mgt with spi := none } ∧ t.bit F.MGT_EVT_SPI_DONE = true ∧ t.out = s.out ∧
    (getBits w 25 25 = 1 → s.keepsRegs t [R.MGT_EVT.base]) ∧
    (getBits w 25 25 = 0 → ∀ b rest, data.take (spiLen w) = b :: rest → getBits (t.reg R.MGT_SPI_BUF 0) 7 0 = b.toNat)) ∧
  (∀ (s : State) (h : HostId) (bus : Fin 4) (phy dev : Fin 32) (data : BitVec 16), s.opens h R.MGT_MDIO_CMD 0 0 = true →
    s.bit F.MGT_MDIO_STAT_BUSY = false →
    (Does (.mdioAddress h bus phy dev data) s fun t => t.bit F.MGT_MDIO_STAT_BUSY = true ∧
      t.out = s.out ++ [.mdio bus.val 0 0 phy.val dev.val data.toNat] ∧ s.keepsRegs t [R.MGT_MDIO_CMD.base, R.MGT_MDIO_STAT.base] ∧
      t.mgt = { s.mgt with mdio := t.mgt.mdio } ∧ t.mgt.mdio.isSome = true) ∧
    (Does (.mdioReadIncrement h bus phy dev) s fun t => t.bit F.MGT_MDIO_STAT_BUSY = true ∧
      t.out = s.out ++ [.mdio bus.val 0 2 phy.val dev.val 0] ∧ s.keepsRegs t [R.MGT_MDIO_CMD.base, R.MGT_MDIO_STAT.base] ∧
      t.mgt = { s.mgt with mdio := t.mgt.mdio } ∧ t.mgt.mdio.isSome = true) ∧
    (∀ c45 : Bool, Does (.mdioWrite h bus c45 phy dev data) s fun t => t.bit F.MGT_MDIO_STAT_BUSY = true ∧
      t.out = s.out ++ [.mdio bus.val (if c45 then 0 else 1) 1 phy.val dev.val data.toNat] ∧
      s.keepsRegs t [R.MGT_MDIO_CMD.base, R.MGT_MDIO_STAT.base] ∧ t.mgt = { s.mgt with mdio := t.mgt.mdio } ∧ t.mgt.mdio.isSome = true) ∧
    (∀ c45 : Bool, Does (.mdioRead h bus c45 phy dev) s fun t => t.bit F.MGT_MDIO_STAT_BUSY = true ∧
      t.out = s.out ++ [.mdio bus.val (if c45 then 0 else 1) (if c45 then 3 else 2) phy.val dev.val 0] ∧
      s.keepsRegs t [R.MGT_MDIO_CMD.base, R.MGT_MDIO_STAT.base] ∧ t.mgt = { s.mgt with mdio := t.mgt.mdio } ∧ t.mgt.mdio.isSome = true)) ∧
  (∀ (s : State) (w : Word) (data : BitVec 16) (ta : Bool), s.mgt.mdio = some w → Does (.mdioDone data ta) s fun t =>
    t.mgt = { s.mgt with mdio := none } ∧ t.bit F.MGT_MDIO_STAT_BUSY = false ∧ t.bit F.MGT_EVT_MDIO_DONE = true ∧
    (mdioReads w = true → t.get F.MGT_MDIO_STAT_RDATA = data.toNat ∧ t.get F.MGT_MDIO_STAT_TA_ERR = (if ta then 1 else 0)) ∧
    s.keepsRegs t [R.MGT_MDIO_STAT.base, R.MGT_EVT.base])

/-- R459, R461, R462, R603: the I2C target, the test access port, the watchdog and the temperature alarm. -/
def Obligations.WatchdogAndTargets : Prop :=
  (∀ (s : State) (b : List Byte), 4 ≤ b.length → Does (.i2cWrite b) s fun t =>
    t.mgt = { s.mgt with i2cPtr := beAt b 0 4 } ∧
    (8 ≤ b.length → beAt b 0 4 = R.MGT_I2C_MBOX_IN.base → t.get F.MGT_I2C_MBOX_IN_DATA = beAt b 4 4 ∧ t.bit F.MGT_EVT_MBOX_IN = true) ∧
    s.keepsRegs t [R.MGT_I2C_MBOX_IN.base, R.MGT_EVT.base]) ∧
  (∀ (s : State) (n : Nat), Does (.i2cRead n) s fun t =>
    t.mgt = { s.mgt with i2cPtr := if n = 0 then s.mgt.i2cPtr else (s.mgt.i2cPtr + 4 * n) % 2 ^ 32 } ∧
    t.out.length = s.out.length + n ∧ s.keepsRegs t []) ∧
  (∀ (s : State) (tms tdi : Bool) (cells : List Bool), Does (.tapTckEdge tms tdi true cells) s fun t =>
    t = settled s { s with tap := { s.tap with fsm := .testLogicReset, ir := 0x01 } }) ∧
  (∀ (s : State) (tms tdi : Bool) (cells : List Bool), Does (.tapTckEdge tms tdi false cells) s fun t =>
    t.tap.fsm = s.tap.fsm.next tms ∧ (t.tap.fsm = .testLogicReset → t.tap.ir = 0x01) ∧
    (s.tap.fsm = .shiftIr → t.tap.irShift = shiftBits s.tap.irShift tdi) ∧
    (s.tap.fsm = .shiftDr → tapPublic s.tapIr = true → t.tap.drShift = shiftBits s.tap.drShift tdi) ∧
    (s.tap.fsm = .captureDr → t.tap.drShift = s.tapCapture cells) ∧ s.keepsRegs t []) ∧
  (∀ (s : State) (h : HostId) (en : Bool) (warn : Byte) (timeout : BitVec 16), s.opens h R.MGT_WDT_CFG 0 0 = true →
    s.mgt.wdtLocked = false → s.bit F.MGT_WDT_CFG_EN = false → Does (.wdtCfgWrite h en warn timeout) s fun t =>
      t.get F.MGT_WDT_CFG_WARN = warn.toNat ∧ t.get F.MGT_WDT_CFG_TIMEOUT = max 1 timeout.toNat ∧ t.bit F.MGT_WDT_CFG_EN = en ∧
      t.mgt.wdtLocked = true ∧ (en = true → t.get F.MGT_WDT_LEFT_LEFT = max 1 timeout.toNat) ∧
      s.keepsRegs t [R.MGT_WDT_CFG.base, R.MGT_WDT_LEFT.base]) ∧
  (∀ (s : State) (h : HostId) (key : Byte), s.opens h R.MGT_WDT_KICK 0 0 = true → s.bit F.MGT_WDT_CFG_EN = true →
    (key = 0x5A → Does (.wdtKick h key) s fun t =>
      t.get F.MGT_WDT_LEFT_LEFT = s.get F.MGT_WDT_CFG_TIMEOUT ∧ t.mgt = { s.mgt with warned := false } ∧ s.keepsRegs t [R.MGT_WDT_LEFT.base]) ∧
    (key ≠ 0x5A → Does (.wdtKick h key) s fun t => s.keepsRegs t [] ∧ s.onlyRegs t)) ∧
  (∀ s : State, s.bit F.MGT_WDT_CFG_EN = true → s.get F.MGT_WDT_CFG_WARN ≠ 0 → s.get F.MGT_WDT_LEFT_LEFT = s.get F.MGT_WDT_CFG_WARN →
    s.mgt.warned = false → Does .wdtWarn s fun t =>
      t.bit F.MGT_EVT_WDT_WARN = true ∧ t.mgt = { s.mgt with warned := true } ∧ s.keepsRegs t [R.MGT_EVT.base]) ∧
  (∀ s : State, s.bit F.MGT_WDT_CFG_EN = true → s.get F.MGT_WDT_LEFT_LEFT = 0 → Does .wdtExpire s fun t =>
    t.rst = { s.rst with due := s.rst.due ||| 4 } ∧ s.keepsRegs t []) ∧
  (∀ (s : State) (tj : BitVec 12), Does (.tempAlarm tj) s fun t =>
    t.get F.MGT_TEMP_TJ = tj.toNat ∧
    (signed 12 (s.get F.MGT_TEMP_ALARM) ≤ signed 12 tj.toNat → t.bit F.MGT_EVT_TEMP_HI = true) ∧
    s.keepsRegs t [R.MGT_TEMP.base, R.MGT_EVT.base] ∧ s.onlyRegs t)

/-- R301, R304 to R308, R332: the time domains. An accepted command holds what it will do until the tick at which it acts; at that tick a slew, a stop
and a rate hold from the tick's increment on and SNAP_ALL takes the four times, and when the tick is over SET and STEP move the time and toggle
GEN; every other tick advances each domain that runs by 2 ns, its rate and its slew. The end of a slew is an event; a read of INV_TD_NS returns the
nanoseconds and takes the domain's snapshot. A step shows in the registers one tick later than it acts, which is the model's choice (log entry 6). -/
def Obligations.TimeDomains : Prop :=
  (∀ (s : State) (h : HostId) (d : Fin 4), s.opens h R.INV_CMD 0 0 = true → s.bit F.INV_STAT_BUSY = false →
    let takes := fun (c : Instr) (a : InvAct) => Does c s fun t =>
      t.bit F.INV_STAT_BUSY = true ∧ t.inv = { s.inv with act := some (a, false) } ∧ s.keepsRegs t [R.INV_CMD.base, R.INV_STAT.base]
    takes (.invNop h d) .nop ∧
    takes (.invSet h d) (.set d (s.get F.INV_TD_SET_SEC_LO_SEC d + 2 ^ 32 * s.get F.INV_TD_SET_SEC_HI_SEC d) (s.get F.INV_TD_SET_NS_NS d)) ∧
    takes (.invStep h d) (.step d (signed 64 (s.get F.INV_TD_OFS_LO_OFS d + 2 ^ 32 * s.get F.INV_TD_OFS_HI_OFS d))) ∧
    (s.get F.INV_TD_ADJ_ADJ d ≠ 0 →
      takes (.invSlew h d) (.slew d (signed 32 (s.get F.INV_TD_ADJ_ADJ d) * 2 ^ 32) (s.get F.INV_TD_SLEW_CFG_SHIFT d))) ∧
    (s.get F.INV_TD_ADJ_ADJ d = 0 → takes (.invSlew h d) (.stop d)) ∧
    takes (.invSlewStop h d) (.stop d) ∧
    takes (.invSnapAll h d) .snap) ∧
  (∀ (s : State) (h : HostId) (d : Fin 4) (data : Word), s.opens h R.INV_TD_RATE_HI d 0 = true → s.bit F.INV_STAT_BUSY = false →
    Does (.rateLoad h d data) s fun t =>
      t.inv = { s.inv with act := some (.rate d (signed 40 (s.get F.INV_TD_RATE_LO_RATE d + 2 ^ 32 * getBits data 7 0)), false) } ∧
      t.bit F.INV_STAT_BUSY = true ∧ s.keepsRegs t [R.INV_TD_RATE_HI.off d 0, R.INV_STAT.base]) ∧
  (∀ (s : State) (d : Fin 4), (s.dom d).slewRem = 0 → (s.get F.INV_STAT_SLEWING).testBit d = true → Does (.slewDone d) s fun t =>
    (t.get F.INV_STAT_SLEWING).testBit d = false ∧ t.bit F.INV_EVT_SLEW_DONE = true ∧ s.keepsRegs t [R.INV_STAT.base, R.INV_EVT.base] ∧
    s.onlyRegs t) ∧
  (∀ (s : State) (h : HostId) (d : Fin 4), s.reaches h R.INV_TD_NS d 0 = true → Does (.tdNsRead h d) s fun t =>
    t.out = s.out ++ [.readData (hostNum h) (BitVec.ofNat 64 ((BitVec.ofNat 32 (s.dom d).ns : Word) ||| s.rsvdShown (hostNum h) R.INV_TD_NS d 0).toNat)] ∧
    tabGet {} t.inv.snap d = { sec := (s.dom d).sec, ns := (s.dom d).ns, frac16 := (s.dom d).frac / 2 ^ 32 } ∧ s.keepsRegs t []) ∧
  (∀ s : State, s.twn.syncs = [] →
    (s.inv.act = none → Does .timeDomainTick s fun t =>
      t.inv.ticks = s.inv.ticks + 1 ∧ t.inv.act = none ∧ ∀ e < 4, t.dom e = s.ticked e (s.dom e)) ∧
    (∀ a, s.inv.act = some (a, false) → Does .timeDomainTick s fun t =>
      t.inv.ticks = s.inv.ticks + 1 ∧ t.inv.act = some (a, true) ∧ (∀ e < 4, t.dom e = s.ticked e (a.fromTick e (s.dom e))) ∧
      (a = .snap → ∀ e < 4, tabGet {} t.inv.snap e = { sec := (t.dom e).sec, ns := (t.dom e).ns, frac16 := (t.dom e).frac / 2 ^ 32 })) ∧
    (∀ a, s.inv.act = some (a, true) → Does .timeDomainTick s fun t =>
      t.inv.ticks = s.inv.ticks + 1 ∧ t.inv.act = none ∧ t.bit F.INV_STAT_BUSY = false ∧ (∀ e < 4, t.dom e = s.ticked e (a.afterTick e (s.dom e))) ∧
      ∀ d < 4, a.steps = some d →
        (t.get F.INV_STAT_GEN).testBit d = !(s.get F.INV_STAT_GEN).testBit d ∧ t.bit F.INV_EVT_STEP = true))

/-- R303: a 40-bit timestamp is the TD0 time in whole nanoseconds modulo 2^40, and a stamp is rounded to the nearest nanosecond before it takes
this form, a FRAC of exactly one half rounding up. -/
def Obligations.TimestampForm : Prop :=
  (∀ s : State, ts40 s.now = ((s.dom 0).sec * 1000000000 + (s.dom 0).ns) % 2 ^ 40) ∧
  (∀ d : Domain, ts40 (domRound d) = (d.sec * 1000000000 + d.ns + (if 2 ^ 47 ≤ d.frac then 1 else 0)) % 2 ^ 40)

/-- R323 to R326: the cycle generator. Enabled with an operative period in range, it plans its first start at the first point of its grid 2 µs ahead
or later; it is disabled unless a mode needs it; a change request in range is accepted, and cancelled; at the change time the administrative values
become operative; a start that is due is issued, counted with those that a step has passed, and the next one is planned after the present time. -/
def Obligations.CycleGenerator : Prop :=
  (∀ (s : State) (h : HostId), s.opens h R.INV_CYC_CTRL 0 0 = true → s.bit F.INV_CYC_CTRL_EN = false →
    cycPeriodOk (s.get F.INV_CYC_OPER_PERIOD_PERIOD) = true → Does (.cycleGenEnable h) s fun t =>
      t.bit F.INV_CYC_CTRL_EN = true ∧ s.keepsRegs t [R.INV_CYC_CTRL.base] ∧
      t.inv.cycBase = fullTime (s.dom 0) (s.get F.INV_CYC_OPER_BASE_SEC_SEC) (s.get F.INV_CYC_OPER_BASE_NS_NS) ∧
      t.inv.cycNext = some (gridAtOrAfter t.inv.cycBase (s.get F.INV_CYC_OPER_PERIOD_PERIOD) (s.now + 2000))) ∧
  (∀ (s : State) (h : HostId), s.opens h R.INV_CYC_CTRL 0 0 = true → s.bit F.INV_CYC_CTRL_EN = true →
    (s.cycNeeded = false → Does (.cycleGenDisable h) s fun t =>
      t.bit F.INV_CYC_CTRL_EN = false ∧ t.bit F.INV_CYC_STAT_RUNNING = false ∧ t.inv = { s.inv with cycNext := none } ∧
      s.keepsRegs t [R.INV_CYC_CTRL.base, R.INV_CYC_STAT.base]) ∧
    (s.cycNeeded = true → Does (.cycleGenDisable h) s fun t =>
      t.bit F.INV_CYC_CTRL_EN = true ∧ t.bit F.INV_EVT_CFG_ERR = true ∧ t.inv = s.inv ∧ s.keepsRegs t [R.INV_EVT.base])) ∧
  (∀ (s : State) (h : HostId), s.opens h R.INV_CYC_CHG 0 0 = true → s.bit F.INV_CYC_STAT_CHG_PEND = false →
    cycPeriodOk (s.get F.INV_CYC_ADM_PERIOD_PERIOD) = true → s.get F.INV_CYC_ADM_BASE_NS_NS < 1000000000 → Does (.cycleChangeGo h) s fun t =>
      t.bit F.INV_CYC_STAT_CHG_PEND = true ∧ t.get F.INV_CYC_STAT_CHG_ERR = 0 ∧
      (∃ c, t.inv = { s.inv with cycPend := some c } ∧ c.cycle = s.get F.INV_CYC_ADM_PERIOD_PERIOD ∧
        c.base = fullTime (s.dom 0) (s.get F.INV_CYC_ADM_BASE_SEC_SEC) (s.get F.INV_CYC_ADM_BASE_NS_NS) ∧ s.now + 2000 ≤ c.tx) ∧
      s.keepsRegs t [R.INV_CYC_STAT.base, R.INV_CYC_CHG_SEC.base, R.INV_CYC_CHG_NS.base]) ∧
  (∀ (s : State) (h : HostId), s.opens h R.INV_CYC_CHG 0 0 = true → s.bit F.INV_CYC_STAT_CHG_PEND = true →
    Does (.cycleChangeCancel h) s fun t =>
      t.bit F.INV_CYC_STAT_CHG_PEND = false ∧ t.inv = { s.inv with cycPend := none } ∧ t.bit F.INV_EVT_CYC_CHG_DONE = true ∧
      s.keepsRegs t [R.INV_CYC_STAT.base, R.INV_EVT.base]) ∧
  (∀ (s : State) (c : PendChange), s.inv.cycPend = some c → c.tx ≤ s.now → Does .cycleChangeTime s fun t =>
    t.inv.cycPend = none ∧ t.inv.cycBase = c.base ∧ t.get F.INV_CYC_OPER_PERIOD_PERIOD = c.cycle % 2 ^ 24 ∧
    (s.inv.cycNext = none → t.inv.cycNext = none) ∧
    (s.inv.cycNext ≠ none → c.cycle ≠ 0 → ∃ k : Nat, t.inv.cycNext = some (c.tx + k * c.cycle) ∧ s.now < c.tx + k * c.cycle)) ∧
  (∀ (s : State) (n : Int), s.inv.cycNext = some n → n ≤ s.now → s.inv.cycPend = none → s.get F.INV_CYC_OPER_PERIOD_PERIOD ≠ 0 →
    Does .cycleStart s fun t => ∃ k : Nat, 0 < k ∧ t.inv.cycNext = some (n + k * s.get F.INV_CYC_OPER_PERIOD_PERIOD) ∧
      s.now < n + k * s.get F.INV_CYC_OPER_PERIOD_PERIOD ∧ n + k * s.get F.INV_CYC_OPER_PERIOD_PERIOD ≤ s.now + s.get F.INV_CYC_OPER_PERIOD_PERIOD ∧
      t.get F.INV_CYC_CNT_COUNT = (s.get F.INV_CYC_CNT_COUNT + k) % 2 ^ 32 ∧ t.bit F.INV_CYC_STAT_RUNNING = true)

/-- R327 to R329: the timed pins. Disabling a pin drops its pending edges; enabling one writes its configuration; an output pin takes the
level of its edge; a wanted edge is captured with the time of its domain, and its read takes the oldest capture. -/
def Obligations.TimedPins : Prop :=
  (∀ (s : State) (h : HostId) (i : Fin 16) (cfg : BitVec 11), s.opens h R.INV_TIO_CFG i 0 = true →
    (Does (.tioDisable h i cfg) s fun t => t.bit F.INV_TIO_CFG_EN i = false ∧ (t.tio i).rise = [] ∧ (t.tio i).fall = none ∧
      (t.tio i).queue = (s.tio i).queue ∧ (∀ k, k ≠ i.val → t.tio k = s.tio k)) ∧
    (s.bit F.INV_TIO_CFG_EN i = false →
      (s.setReg R.INV_TIO_CFG ((s.reg R.INV_TIO_CFG i &&& ~~~ accMask R.INV_TIO_CFG (fun a => a == .rwe)) |||
        (word (2 ^ 31 + cfg.toNat) &&& accMask R.INV_TIO_CFG (fun a => a == .rwe))) i).tioEnableOk i = true →
      Does (.tioEnable h i cfg) s fun t => t.bit F.INV_TIO_CFG_EN i = true ∧ s.keepsRegs t [R.INV_TIO_CFG.off i 0] ∧
        (∀ k, k ≠ i.val → t.tio k = s.tio k))) ∧
  (∀ (s : State) (i : Fin 16), s.bit F.INV_TIO_CFG_EN i = true → s.tioFrozen i = false →
    (s.get F.INV_TIO_CFG_MODE i = 4 → s.tioT i ≤ s.tioNow i → Does (.tioOutputEdge i) s fun t =>
      (t.tio i).out = some (s.bit F.INV_TIO_CFG_LEVEL i) ∧ s.keepsRegs t []) ∧
    (∀ (r : Int) (rest : List Int), s.get F.INV_TIO_CFG_MODE i = 6 → (s.tio i).rise = r :: rest → r ≤ s.tioNow i → (s.tio i).fall = none →
      s.tioNow i < r + s.get F.INV_TIO_WIDTH_WIDTH i →
      Does (.tioOutputEdge i) s fun t => (t.tio i).out = some true ∧ (t.tio i).rise = rest ∧
        (t.tio i).fall = some (r + s.get F.INV_TIO_WIDTH_WIDTH i) ∧ s.keepsRegs t [])) ∧
  (∀ (s : State) (i : Fin 16) (rising : Bool) (sub : Fin 2), s.bit F.INV_TIO_CFG_EN i = true → s.domRuns (s.tioDom i) = true →
    (s.get F.INV_TIO_CFG_MODE i = 3 ∨ s.get F.INV_TIO_CFG_MODE i = (if rising then 1 else 2)) →
    ((s.tio i).queue.length < 4 → Does (.tioCapture i rising sub) s fun t =>
      (∃ c, (t.tio i).queue = (s.tio i).queue ++ [c] ∧ c.rising = rising ∧
        (c.ns : Int) = (domRound (s.dom (s.tioDom i)) + sub.val) % 1000000000) ∧
      t.bit F.INV_EVT_TIO_CAP = true ∧ s.keepsRegs t [R.INV_EVT.base]) ∧
    (4 ≤ (s.tio i).queue.length → Does (.tioCapture i rising sub) s fun t =>
      (t.tio i).queue = (s.tio i).queue ∧ t.get F.INV_TIO_STAT_OVF i = min (s.get F.INV_TIO_STAT_OVF i + 1) 255 ∧
      t.bit F.INV_EVT_TIO_OVF = true ∧ s.keepsRegs t [R.INV_EVT.base, R.INV_TIO_STAT.off i 0])) ∧
  (∀ (s : State) (h : HostId) (i : Fin 16) (c : Capture) (rest : List Capture), s.reaches h R.INV_TIO_CAP_NS i 0 = true →
    (s.tio i).queue = c :: rest → Does (.tioCaptureRead h i) s fun t =>
      (t.tio i).queue = rest ∧ t.get F.INV_TIO_CAP_SEC_SEC i = c.sec % 2 ^ 32 ∧
      t.out = s.out ++ [.readData (hostNum h) (BitVec.ofNat 64
        (BitVec.ofNat 32 (2 ^ 31 + (if c.rising then 2 ^ 30 else 0) + c.ns) : Word).toNat)] ∧
      s.keepsRegs t [R.INV_TIO_CAP_SEC.off i 0, R.INV_TIO_STAT.off i 0])

/-- R41, R42, R44, R45: mode requests and the switch point. A request of a wrong key, in HOLD, or while a transition is in progress is refused with
its reason and changes no mode; a permitted request of one forwarding mode for another by a device without a twin is accepted, and takes effect at
its switch point. -/
def Obligations.ModeRequests : Prop :=
  (∀ (s : State) (h : HostId) (key : Byte) (mode : Fin 8), s.opens h R.GLB_MODE_REQ 0 0 = true → s.episode = false →
    (key ≠ 0xA5 → Does (.modeRequest h key mode) s fun t => t.get F.GLB_MODE_STAT_REASON = 1 ∧ t.bit F.GLB_MODE_STAT_REFUSED = true ∧
      s.keepsRegs t [R.GLB_MODE_STAT.base] ∧ s.onlyRegs t) ∧
    (key = 0xA5 → s.mode = modeHOLD → Does (.modeRequest h key mode) s fun t => t.get F.GLB_MODE_STAT_REASON = 2 ∧
      t.bit F.GLB_MODE_STAT_REFUSED = true ∧ s.keepsRegs t [R.GLB_MODE_STAT.base] ∧ s.onlyRegs t) ∧
    (key = 0xA5 → s.mode ≠ modeHOLD → s.bit F.GLB_MODE_TRANSIT = true → Does (.modeRequest h key mode) s fun t =>
      t.get F.GLB_MODE_STAT_REASON = 3 ∧ t.bit F.GLB_MODE_STAT_REFUSED = true ∧ s.keepsRegs t [R.GLB_MODE_STAT.base] ∧ s.onlyRegs t) ∧
    (key = 0xA5 → forwarding s.mode = true → mode.val ∈ [modeBRIDGE, modeSCHEDULED, modeADAPTIVE] → mode.val ≠ s.mode →
      s.bit F.GLB_MODE_TRANSIT = false → s.bit F.TWN_CTRL_EN = false → (s.get F.GLB_MODE_PERMIT_PERMIT).testBit mode.val = true →
      s.role ≠ roleACTIVE → Does (.modeRequest h key mode) s fun t =>
        t.bit F.GLB_MODE_TRANSIT = true ∧ t.get F.GLB_MODE_TARGET = mode.val ∧ t.mode = s.mode ∧
        t.md = { s.md with ts := some (s.switchPoint s.now), forced := false } ∧ s.keepsRegs t [R.GLB_MODE.base])) ∧
  (∀ (s : State) (t0 : Int), s.md.ts = some t0 → t0 ≤ s.now → Does .switchPoint s fun t =>
    t.mode = s.get F.GLB_MODE_TARGET ∧ t.get F.GLB_MODE_PREV = s.mode ∧ t.bit F.GLB_MODE_TRANSIT = false ∧ t.md.ts = none)

/-- R40, R49 to R53, R55, R67: PEWTER and MAINTENANCE are entered when the memory has drained; what is left at the deadline is discarded as
stuck; keep-alive frames and the time wake the device, and the wake restores the previous mode. -/
def Obligations.PewterAndWake : Prop :=
  (∀ s : State, s.draining modePEWTER = true → s.drained = true → Does .pewterDrainComplete s fun t => t.md.gate = some t.inv.ticks) ∧
  (∀ (s : State) (k : Nat) (f : Frame) (c : Nat), s.md.accept.isSome = true → s.md.gate = none → s.md.deadline ≤ s.now → s.drained = false →
    s.ports = [] → s.dma.ch = [] → s.twn.fwdTx = [] → s.frames = [(k, some f)] →
    (f.stage ≠ .admitted ∧ f.stage ≠ .gone ∧ s.swc.lists = [] ∧ c = queueClass (if f.dec.queued then f.dec.queue else 0)
      ∨ f.stage = .admitted ∧ ∃ n x, s.swc.lists = [(n, [x])] ∧ x.fid = k ∧ c = listClass n) →
    Does .pewterDrainDeadline s fun t =>
      t.get F.SWC_AGE_CNT_COUNT c = min (s.get F.SWC_AGE_CNT_COUNT c + 1) (2 ^ 32 - 1) ∧ t.bit F.SWC_EVT_AGE = true ∧ t.md = s.md ∧
      ∀ g, f.stage ≠ .admitted → t.frame k = some g → g.stage = .gone ∧ g.drop = 0x40) ∧
  (∀ (s : State) (g : Nat), s.md.gate = some g → g + 15000 ≤ s.inv.ticks → Does .pewterGated s fun t =>
    t.mode = modePEWTER ∧ t.get F.GLB_MODE_PREV = s.mode ∧ t.bit F.GLB_MODE_TRANSIT = false) ∧
  (∀ s : State, s.draining modeMAINTENANCE = true → s.drained = true → Does .maintenanceEnter s fun t =>
    t.mode = modeMAINTENANCE ∧ t.get F.GLB_MODE_PREV = s.mode ∧ t.bit F.GLB_MODE_TRANSIT = false ∧ t.md.accept = none) ∧
  (∀ (s : State) (p : Port) (b : List Byte) (i : Nat) (k : KaSlot), s.mode = modePEWTER → i < 4 → s.md.ka[i]? = some k → k.en = true →
    k.port = p.val → k.matches b = true → s.md.wake = none → Does (.keepaliveFrame p b) s fun t => t.md.wakeDue.testBit (2 + i) = true) ∧
  (∀ s : State, s.mode = modePEWTER → s.md.wake = none → s.bit F.GLB_PEWTER_CFG_TIME_WAKE_EN = true →
    fullTime (s.dom 0) (s.get F.GLB_WAKE_SEC_SEC) (s.get F.GLB_WAKE_NS_NS) ≤ s.now → Does .timeWake s fun t =>
      t = settled s { s with md := { s.md with wakeDue := s.md.wakeDue ||| 2 } }) ∧
  (∀ s : State, s.mode = modePEWTER → s.md.wake = none → s.md.wakeDue ≠ 0 → Does .wakeStart s fun t =>
    t.md = { s.md with wake := some s.inv.ticks, wakeDue := 0 }) ∧
  (∀ (s : State) (w : Nat), s.md.wake = some w → w + 22500 ≤ s.inv.ticks → Does .wakeComplete s fun t =>
    t.mode = s.get F.GLB_MODE_PREV ∧ t.get F.GLB_MODE_PREV = modePEWTER ∧ t.bit F.GLB_MODE_TRANSIT = false ∧ t.md.wake = none ∧ t.md.ka = [])

/-- R57, R58, R68: the maintenance commands. In MAINTENANCE a scrub or a self-test of a memory is started while none runs, and a self-test loses the
memory's contents; an abort stops the one that runs; its end reports a status; outside MAINTENANCE a command is refused with code 2. -/
def Obligations.MaintenanceCommands : Prop :=
  (∀ (s : State) (h : HostId) (mem : Fin 8), s.opens h R.GLB_MNT_CMD 0 0 = true → s.mode = modeMAINTENANCE → s.bit F.GLB_MNT_STAT_BUSY = false →
    mem.val < 5 → Does (.mntScrub h mem) s fun t =>
      t.bit F.GLB_MNT_STAT_BUSY = true ∧ t.get F.GLB_MNT_STAT_OP = 1 ∧ t.get F.GLB_MNT_STAT_MEM = mem ∧ t.reg R.GLB_MNT_RESULT = 0 ∧
      t.reg R.GLB_MNT_ERRS = 0 ∧ t.md = { s.md with aborting := false } ∧
      s.keepsRegs t [R.GLB_MNT_STAT.base, R.GLB_MNT_RESULT.base, R.GLB_MNT_ERRS.base]) ∧
  (∀ (s : State) (h : HostId) (mem : Fin 8), s.opens h R.GLB_MNT_CMD 0 0 = true → s.mode = modeMAINTENANCE → s.bit F.GLB_MNT_STAT_BUSY = false →
    mem.val < 5 → Does (.mntBist h mem) s fun t =>
      t.bit F.GLB_MNT_STAT_BUSY = true ∧ t.get F.GLB_MNT_STAT_OP = 2 ∧ t.get F.GLB_MNT_STAT_MEM = mem ∧ t.bit F.GLB_MODE_STAT_BIST_DIRTY = true ∧
      (mem.val = 0 → t.lkp.slots = [] ∧ t.lkp.staged = []) ∧ (mem.val = 1 → t.tin.store = []) ∧
      (mem.val = 2 → t.swc.cells = [] ∧ t.swc.lists = []) ∧ (mem.val = 3 → t.sram = [] ∧ t.sramLost = none)) ∧
  (∀ (s : State) (h : HostId) (mem : Fin 8), s.opens h R.GLB_MNT_CMD 0 0 = true → s.mode = modeMAINTENANCE → s.bit F.GLB_MNT_STAT_BUSY = true →
    Does (.mntAbort h mem) s fun t => t = settled s { s with md := { s.md with aborting := true } }) ∧
  (∀ (s : State) (corr unc : BitVec 16) (addr : Option (BitVec 24)) (slots : List (Fin 9 × Nat)), s.bit F.GLB_MNT_STAT_BUSY = true →
    Does (.mntComplete corr unc addr slots) s fun t =>
      t.bit F.GLB_MNT_STAT_BUSY = false ∧ t.bit F.GLB_MODE_STAT_MNT_DONE = true ∧ t.md.aborting = false ∧
      t.get F.GLB_MNT_STAT_STATUS = (if s.md.aborting then 3 else if t.get F.GLB_MNT_ERRS_UNC = 0 then 0 else if s.get F.GLB_MNT_STAT_OP = 1 then 1 else 2) ∧
      unc.toNat ≤ t.get F.GLB_MNT_ERRS_UNC ∧ (s.get F.GLB_MNT_STAT_OP = 2 → t.get F.GLB_MNT_ERRS_UNC = unc.toNat ∧ t.get F.GLB_MNT_ERRS_CORR = 0) ∧
      (t.get F.GLB_MNT_ERRS_UNC ≠ 0 → t.bit F.GLB_MNT_RESULT_VALID = true)) ∧
  (∀ (s : State) (h : HostId) (mem : Fin 8), s.opens h R.GLB_MNT_CMD 0 0 = true → s.mode ≠ modeMAINTENANCE →
    (Does (.mntScrub h mem) s fun t => t.get F.GLB_MNT_STAT_REJECT = 2 ∧ s.keepsRegs t [R.GLB_MNT_STAT.base] ∧ s.onlyRegs t) ∧
    (Does (.mntBist h mem) s fun t => t.get F.GLB_MNT_STAT_REJECT = 2 ∧ s.keepsRegs t [R.GLB_MNT_STAT.base] ∧ s.onlyRegs t) ∧
    (Does (.mntAbort h mem) s fun t => t.get F.GLB_MNT_STAT_REJECT = 2 ∧ s.keepsRegs t [R.GLB_MNT_STAT.base] ∧ s.onlyRegs t))

/-- R387, R389, R391, R421: the adaptive steps and the end of HOLD. A due step of ADAPTIVE is served and reported; a waiting interval change is applied
at its gate cycle; HOLD ends in the mode it was entered from when the order log is empty and the wait is over. -/
def Obligations.AdaptiveAndHold : Prop :=
  (∀ (s : State) (b : Int), s.adpBoundary = some b → s.mode = modeADAPTIVE → Does .adaptStep s fun t => t.bit F.GLB_ADP_EVT_STEP_DONE = true) ∧
  (∀ (s : State) (p : Port) (w : WinChange) (rest : List WinChange), tabGet [] s.adp.win p.val = w :: rest → w.at_ ≤ s.laneNs p →
    (∀ v ∈ rest, s.laneNs p < v.at_) → Does (.adaptWindowApply p) s fun t =>
      tabGet [] t.adp.win p.val = rest ∧ (t.operEntry p w.give).interval = w.giveNs ∧
      (w.grow ≠ w.give → (t.operEntry p w.grow).interval = w.growNs) ∧ t.regs = (settled s s).regs) ∧
  (∀ (s : State) (p : Port) (w : WinRestore), tabGet none s.adp.restore p.val = some w → w.at_ ≤ s.laneNs p → (w.ents.map Prod.fst).Nodup →
    Does (.adaptRestoreIntervals p) s fun t =>
      tabGet none t.adp.restore p.val = none ∧ (∀ e ∈ w.ents, (t.operEntry p e.1).interval = e.2) ∧ t.regs = (settled s s).regs) ∧
  (∀ s : State, s.mode = modeHOLD → s.twn.log = [] → max s.twn.holdAt s.twn.lastRel + 256 ≤ s.inv.ticks → Does .holdEnd s fun t =>
    t.mode = s.get F.GLB_MODE_PREV ∧ t.get F.GLB_MODE_PREV = modeHOLD ∧ t.get F.GLB_MODE_TARGET = s.get F.GLB_MODE_PREV ∧
    t.bit F.TWN_STAT_HOLDING = false ∧ t.bit F.GLB_MODE_STAT_DONE = true ∧ t.bit F.GLB_MODE_STAT_FORCED = true ∧ t.twn.held = [])

/-- R557 to R567, R575, R576, R580: reset episodes. A source that asserts makes an episode run: STATE, its LIVE bit and its bit of RST_CAUSE are set;
the last source to release leaves the stretch; the pin is a source of its own; the stretch ends when initialisation is complete, through the mask
after the device has driven RST_N; software requests and an uncorrectable mode error become due, and a correctable one is counted. -/
def Obligations.ResetEpisodes : Prop :=
  (∀ (s : State) (h : HostId), s.opens h R.RST_CTRL 0 0 = true →
    (Does (.swSysReset h) s fun t => t = settled s { s with rst := { s.rst with due := s.rst.due ||| 8 } }) ∧
    (Does (.swCoreReset h) s fun t => t = settled s { s with rst := { s.rst with due := s.rst.due ||| 16 } })) ∧
  (∀ (s : State) (src : Fin 11), src.val ≤ 1 ∨ s.rst.due.testBit src = true → Does (.resetSourceAssert src) s fun t =>
    t.get F.RST_STAT_STATE = 1 ∧ (t.get F.RST_STAT_LIVE).testBit src = true ∧ t.bit (causeFld src) = true) ∧
  (∀ s : State,
    (Does .por s fun t => t.get F.RST_STAT_STATE = 1 ∧ (t.get F.RST_STAT_LIVE).testBit 0 = true ∧ t.bit (causeFld 0) = true) ∧
    (Does .pllLossOfLock s fun t => t.get F.RST_STAT_STATE = 1 ∧ (t.get F.RST_STAT_LIVE).testBit 0 = true ∧ t.bit (causeFld 0) = true) ∧
    (Does .rststateParity s fun t => t.get F.RST_STAT_STATE = 1 ∧ (t.get F.RST_STAT_LIVE).testBit 9 = true ∧ t.bit (causeFld 9) = true)) ∧
  (∀ (s : State) (src : Fin 11), (s.get F.RST_STAT_LIVE).testBit src = true → Does (.resetSourceRelease src) s fun t =>
    (t.get F.RST_STAT_LIVE).testBit src = false ∧ s.keepsRegs t [R.RST_STAT.base] ∧
    (s.get F.RST_STAT_LIVE = 2 ^ src.val → s.get F.RST_STAT_STATE = 1 → t.get F.RST_STAT_STATE = 2)) ∧
  (∀ s : State, s.bit F.RST_STAT_DRIVE = false → s.get F.RST_STAT_STATE ≠ 3 →
    ((s.get F.RST_STAT_LIVE).testBit 1 = false → Does .rstNLow s fun t => t.bit F.RST_STAT_PIN = false ∧ t.get F.RST_STAT_STATE = 1 ∧
      (t.get F.RST_STAT_LIVE).testBit 1 = true ∧ t.bit (causeFld 1) = true) ∧
    ((s.get F.RST_STAT_LIVE).testBit 1 = true → Does .rstNHigh s fun t => t.bit F.RST_STAT_PIN = true ∧
      (t.get F.RST_STAT_LIVE).testBit 1 = false ∧ s.keepsRegs t [R.RST_STAT.base])) ∧
  (∀ s : State, s.episode = true → Does .memoryInitComplete s fun t => t = settled s { s with rst := { s.rst with initDone := true } }) ∧
  (∀ (s : State) (straps : BitVec 4), s.get F.RST_STAT_STATE = 2 → s.rst.initDone = true →
    (s.bit F.RST_STAT_DRIVE = true → Does (.stretchExpire straps) s fun t => t.get F.RST_STAT_STATE = 3 ∧ s.keepsRegs t [R.RST_STAT.base]) ∧
    (s.bit F.RST_STAT_DRIVE = false → Does (.stretchExpire straps) s fun t => t.get F.RST_STAT_STATE = 0)) ∧
  (∀ (s : State) (straps : BitVec 4), s.get F.RST_STAT_STATE = 3 →
    (Does (.settleEnd true straps) s fun t => t.get F.RST_STAT_STATE = 0) ∧
    (Does (.settleEnd false straps) s fun t => t.get F.RST_STAT_STATE = 1 ∧ t.bit F.RST_STAT_PIN = false ∧ t.bit (causeFld 1) = true)) ∧
  (∀ s : State,
    (Does (.modeEccError true) s fun t => t = settled s { s with rst := { s.rst with due := s.rst.due ||| 256 } }) ∧
    (Does (.modeEccError false) s fun t => t.get F.RST_MODE_ECC_COUNT = min (s.get F.RST_MODE_ECC_COUNT + 1) (2 ^ 32 - 1) ∧
      t.bit F.RST_EVT_MODE_CORR = true ∧ s.keepsRegs t [R.RST_MODE_ECC.base, R.RST_EVT.base] ∧ s.onlyRegs t))

/-- R71 to R83, R101: bring-up of a port. PORT_CTRL enables and disables a port, and PCS_RESET takes its link down; PORT_MODE takes a mode that the
port may have while it is disabled; negotiation, training and the link's conditions lead to LINK, whose loss is an event. -/
def Obligations.PortLinks : Prop :=
  (∀ (s : State) (h : HostId) (p : Port) (lb : Fin 8), s.opens h R.PORT_CTRL p 0 = true → lb.val ≤ 4 →
    (Does (.portEnable h p lb) s fun t => t.bit F.PORT_CTRL_ENABLE p = true ∧ t.get F.PORT_CTRL_LOOPBACK p = lb ∧
      s.keepsRegs t [R.PORT_CTRL.off p 0, R.PORT_STAT.off p 0, R.PORT_MM_STAT.off p 0]) ∧
    (Does (.portDisable h p lb) s fun t => t.bit F.PORT_CTRL_ENABLE p = false ∧ t.get F.PORT_CTRL_LOOPBACK p = lb ∧
      (s.bit F.PORT_CTRL_ENABLE p = true → t.bit F.PORT_STAT_LINK p = false)) ∧
    (s.bit F.PORT_CTRL_ENABLE p = true → Does (.pcsReset h p lb) s fun t => t.bit F.PORT_STAT_LINK p = false ∧
      t.bit F.PORT_STAT_AN_DONE p = false ∧ t.bit F.PORT_STAT_TRAIN_DONE p = false)) ∧
  (∀ (s : State) (h : HostId) (p : Port) (data : Word), s.opens h R.PORT_MODE p 0 = true → s.bit F.PORT_CTRL_ENABLE p = false →
    (portModeOk p data = true → Does (.portModeWrite h p data) s fun t => t.reg R.PORT_MODE p = data &&& 0xEFF ∧
      s.keepsRegs t [R.PORT_MODE.off p 0]) ∧
    (portModeOk p data = false → Does (.portModeWrite h p data) s fun t => t.bit F.PORT_EVT_CFG_ERR p = true ∧
      s.keepsRegs t [R.PORT_EVT.off p 0])) ∧
  (∀ (s : State) (p : Port) (lp : BitVec 6) (same : Bool), s.bit F.PORT_CTRL_ENABLE p = true → anMode (s.get F.PORT_MODE_MODE p) = true →
    s.bit F.PORT_MODE_AN_EN p = true → s.bit F.PORT_STAT_AN_DONE p = false → (s.get F.PORT_MODE_MODE p = 1 ∨ same = true) →
    Does (.autonegComplete p lp same) s fun t => t.bit F.PORT_STAT_AN_DONE p = true ∧ t.bit F.PORT_EVT_AN_DONE p = true ∧
      t.get F.PORT_AN_LP_LP_ABIL p = lp.toNat ∧
      s.keepsRegs t [R.PORT_STAT.off p 0, R.PORT_EVT.off p 0, R.PORT_AN_LP.off p 0]) ∧
  (∀ (s : State) (p : Port) (eq : BitVec 18), (s.port p).trainStart.isSome = true → Does (.trainingComplete p eq) s fun t =>
    t.bit F.PORT_STAT_TRAIN_DONE p = true ∧ t.port p = { s.port p with trainStart := none, eqUse := some eq } ∧
    s.keepsRegs t [R.PORT_STAT.off p 0]) ∧
  (∀ (s : State) (p : Port) (t0 : Int), (s.port p).trainStart = some t0 → t0 + max (s.get F.PORT_KR_CFG_MAX_WAIT p) 1 * 1000000 ≤ s.now →
    Does (.trainingTimeout p) s fun t => t.bit F.PORT_EVT_TRAIN_FAIL p = true ∧ t.bit F.PORT_STAT_AN_DONE p = false ∧
      (t.port p).trainStart = none ∧ s.keepsRegs t [R.PORT_STAT.off p 0, R.PORT_EVT.off p 0]) ∧
  (∀ (s : State) (p : Port), s.linkReady p = true → s.bit F.PORT_STAT_LINK p = false → Does (.linkUp p) s fun t =>
    t.bit F.PORT_STAT_LINK p = true ∧ t.bit F.PORT_EVT_LINK_UP p = true ∧
    s.keepsRegs t [R.PORT_STAT.off p 0, R.PORT_EVT.off p 0, R.PORT_MM_STAT.off p 0]) ∧
  (∀ (s : State) (p : Port) (cause : Fin 3), s.bit F.PORT_STAT_LINK p = true → Does (.linkDown p cause) s fun t =>
    t.bit F.PORT_STAT_LINK p = false) ∧
  (∀ (s : State) (p : Port) (word : BitVec 16), s.bit F.PORT_CTRL_ENABLE p = true →
    (s.get F.PORT_MODE_MODE p = 0 ∨ s.get F.PORT_MODE_MODE p = 6) →
    (word.toNat.testBit 15 = true → word.toNat.testBit 12 = true → s.bit F.PORT_MODE_AN_EN p = true →
      Does (.controlWordReceived p word) s fun t => t.bit F.PORT_STAT_AN_DONE p = true ∧ t.get F.PORT_AN_LP_LP_WORD p = word.toNat ∧
        t.port p = { s.port p with phyUp := true, half := false } ∧
        s.keepsRegs t [R.PORT_STAT.off p 0, R.PORT_EVT.off p 0, R.PORT_AN_LP.off p 0]) ∧
    (word.toNat.testBit 12 = false → s.bit F.PORT_STAT_LINK p = false → Does (.controlWordReceived p word) s fun t =>
      t.bit F.PORT_EVT_CFG_ERR p = true ∧ t.port p = { s.port p with phyUp := word.toNat.testBit 15, half := true } ∧
      s.keepsRegs t [R.PORT_EVT.off p 0, R.PORT_AN_LP.off p 0])) ∧
  (∀ (s : State) (p : Port) (n corrected : Nat), s.bit F.PORT_STAT_LINK p = true → s.get F.PORT_STAT_FEC_RES p ≠ 0 →
    Does (.fecUncorrectable p n corrected) s fun t => t.portCount p 24 = (s.portCount p 24 + n) % 2 ^ 64 ∧
      t.portCount p 23 = (s.portCount p 23 + corrected) % 2 ^ 64 ∧ (n ≠ 0 → t.bit F.PORT_EVT_FEC_UNCORR p = true) ∧ s.onlyRegs t)

/-- R88, R89: verification and preemption. A verify that has waited VERIFY_TIME is sent again, or fails at the third; a respond ends it; a
verify received is answered; a preempted frame's fragment leaves, and the rest waits. -/
def Obligations.Verification : Prop :=
  (∀ (s : State) (p : Port), s.get F.PORT_MM_STAT_VERIFY_STATUS p = 2 → (s.port p).verifyAt + s.verifyNs p ≤ s.now →
    ((s.port p).verifyTries < 3 → s.mode ≠ modeLOAD → s.mode ≠ modePEWTER → s.loop p = 0 → Does (.verifyTimeout p) s fun t => t.get F.PORT_MM_STAT_VERIFY_STATUS p = 2 ∧
      t.port p = { s.port p with verifyTries := (s.port p).verifyTries + 1, verifyAt := s.now } ∧
      t.out = s.out ++ [.mac p .verify (List.replicate 60 0)] ∧ s.keepsRegs t [R.PORT_MM_STAT.off p 0]) ∧
    (3 ≤ (s.port p).verifyTries → Does (.verifyTimeout p) s fun t => t.get F.PORT_MM_STAT_VERIFY_STATUS p = 4 ∧
      t.bit F.PORT_EVT_VERIFY_FAIL p = true ∧ s.keepsRegs t [R.PORT_MM_STAT.off p 0, R.PORT_EVT.off p 0] ∧ s.onlyRegs t)) ∧
  (∀ (s : State) (p : Port), s.macReceives p = true → s.get F.PORT_MM_STAT_VERIFY_STATUS p = 2 → Does (.respondReceived p) s fun t =>
    t.bit F.PORT_EVT_VERIFY_OK p = true ∧
    (s.bit F.PORT_MM_CFG_MM_EN p = true → s.bit F.PORT_MM_CFG_VERIFY_DIS p = false →
      t.get F.PORT_MM_STAT_VERIFY_STATUS p = 3 ∧ t.bit F.PORT_MM_STAT_TX_ACTIVE p = true) ∧
    s.keepsRegs t [R.PORT_MM_STAT.off p 0, R.PORT_EVT.off p 0] ∧ s.onlyRegs t) ∧
  (∀ (s : State) (p : Port), s.macReceives p = true → s.bit F.PORT_MM_CFG_MM_EN p = true → s.mode ≠ modePEWTER →
    s.mode ≠ modeLOAD → Does (.verifyReceived p) s fun t => t = settled s (s.emit (.mac p .respond (List.replicate 60 0)))) ∧
  (∀ (s : State) (p : Port) (n : Nat) (x : Tx), s.txGet p 1 = some x → x.started = true → (s.port p).preempted = false → x.cut = none →
    x.smd.isSome = true → (s.port p).preReq = true → 60 ≤ n → n + 64 ≤ s.leftToSend p x → Does (.preempt p n) s fun t =>
      (t.port p).preempted = true ∧ (t.port p).preReq = false ∧
      t.txGet p 1 = some { x with sent := x.sent + n, frags := x.frags + 1 })

/-- R94 to R98, R100, R103: flow control. A pair at its HI watermark goes to XOFF and is due to be sent, one below its LO watermark returns; a due
control frame is sent on a free lane; XOFF is refreshed; the configuration and a HI of 0 release pairs; a PAUSE or PFC received for an enabled port
sets its timers, which end. -/
def Obligations.FlowControl : Prop :=
  (∀ (s : State) (p : Port) (k : Fin 9), s.bit F.PORT_STAT_LINK p = true → s.pairUsed p k = true → s.pairHi p k ≠ 0 →
    s.pairHi p k ≤ s.pairOcc p k → s.pairXoff p k = false → Does (.fcXoff p k) s fun t => t.pairXoff p k = true ∧
      t.bit F.PORT_EVT_TX_XOFF p = true ∧ (t.port p).fcDue = true ∧ s.keepsRegs t [R.PORT_FC_STAT.off p 0, R.PORT_EVT.off p 0]) ∧
  (∀ (s : State) (p : Port) (k : Fin 9), s.pairOcc p k < s.pairLo p k → s.pairXoff p k = true → Does (.fcXon p k) s fun t =>
    t.pairXoff p k = false ∧ (t.port p).fcDue = true ∧ (t.port p).xonDue.testBit k = true ∧ s.keepsRegs t [R.PORT_FC_STAT.off p 0]) ∧
  (∀ (s : State) (p : Port), (s.port p).fcDue = true → s.bit F.PORT_CTRL_ENABLE p = true → s.bit F.PORT_STAT_LINK p = true →
    s.mode ≠ modePEWTER → s.episode = false → s.laneIdle p = true → s.isLogged = false → Does (.fcFrameSend p) s fun t =>
      (t.port p).fcOut.isSome = true ∧ (t.port p).fcSent = some s.now ∧ t.out = s.out ∧ s.keepsRegs t []) ∧
  (∀ (s : State) (p : Port) (kind : MacPacket) (b : List Byte), (s.port p).fcOut = some (kind, b) → (s.port p).fcEnd ≤ s.nowPs →
    s.loop p = 0 → s.twn.syncs = [] → s.inv.act = none → 0 ≤ (s.dom 0).rate → (s.dom 0).slewRem = 0 →
    (s.dom 0).sec < 2 ^ 47 → (s.dom 0).ns < 1000000000 → Does .timeDomainTick s fun t =>
      (t.port p).fcOut = none ∧ t.portCount p 29 = (s.portCount p 29 + 1) % 2 ^ 64 ∧ Out.mac p kind b ∈ t.out) ∧
  (∀ (s : State) (p : Port) (t0 : Int), (s.port p).fcSent = some t0 → s.get F.PORT_FC_STAT_TX_XOFF_PRI p ≠ 0 →
    t0 + s.quantaNs p (s.get F.PORT_FC_TIME_QUANTA p) ≤ s.now → Does (.fcRefresh p) s fun t =>
      t = settled s (s.setPort p { s.port p with fcDue := true })) ∧
  (∀ (s : State) (h : HostId) (p : Port) (data : Word),
    (s.opens h R.PORT_FC_CFG p 0 = true → getBits data 31 30 ≠ 3 → Does (.fcConfigRelease h p none data) s fun t =>
      t.reg R.PORT_FC_CFG p = data &&& 0xE700FF00 ∧
      (s.get F.PORT_FC_CFG_MODE p ≠ getBits data 31 30 → ∀ k < 9, t.pairXoff p k = false) ∧
      s.keepsRegs t [R.PORT_FC_CFG.off p 0, R.PORT_FC_STAT.off p 0]) ∧
    (s.opens h R.PORT_WM_PORT_HI p 0 = true → getBits data 17 0 = 0 → Does (.fcConfigRelease h p (some 8) data) s fun t =>
      t.pairXoff p 8 = false ∧ t.pairHi p 8 = 0) ∧
    (∀ k : Fin 8, s.opens h R.PORT_WM_HI p k = true → getBits data 17 0 = 0 → Does (.fcConfigRelease h p (some k.castSucc) data) s fun t =>
      t.pairXoff p k = false ∧ t.pairHi p k = 0)) ∧
  (∀ (s : State) (p : Port) (pre : Bool) (b : List Byte) (k : Nat) (f : Frame), s.receiving p pre k f b → f.drop ≠ 2 →
    isControl (f.rx ++ b) = true → errorFlags (f.rx ++ b) f.maxlen false false false = 0 → s.bit F.PORT_FC_CFG_RX_EN p = true →
    (beAt (f.rx ++ b) 14 2 = 1 → Does (.pauseReceived p pre b) s fun t => t.rxFid p pre = none ∧
      (beAt (f.rx ++ b) 16 2 = 0 → (t.port p).pauseEnd = []) ∧
      (beAt (f.rx ++ b) 16 2 ≠ 0 → (tabFind? 8 (t.port p).pauseEnd).isSome = true)) ∧
    (beAt (f.rx ++ b) 14 2 = 0x0101 → Does (.pfcReceived p pre b) s fun t => t.rxFid p pre = none ∧
      ∀ i < 8, (beAt (f.rx ++ b) 16 2).testBit i = true → beAt (f.rx ++ b) (18 + 2 * i) 2 ≠ 0 →
        (tabFind? i (t.port p).pauseEnd).isSome = true)) ∧
  (∀ (s : State) (p : Port) (k : Fin 9) (t0 : Int), tabFind? k.val (s.port p).pauseEnd = some t0 → t0 ≤ s.now →
    Does (.pauseTimerExpire p k) s fun t => tabFind? k.val (t.port p).pauseEnd = none ∧
      s.keepsRegs t [R.PORT_FC_STAT.off p 0, R.PORT_STAT.off p 0, R.PORT_EVT.off p 0])

/-- R118, R120, R126: a microword on its engine. NEXT, GOTO, IF, MWAY, CALL and RET write what the word writes, count it, and continue at the
address that BR gives, CALL and RET with the stack one entry longer and shorter; END and SLOW return the PRV to the frame's entry of the
reorder buffer, and the engine is idle. No register changes. -/
def Obligations.MicrowordBranches : Prop :=
  (∀ (s : State) (e : Fin 48) (u : BitVec 96) (x : Engine), s.executes e u x →
    let x1 : Engine := { x with count := x.count + 1 }
    let y := uwWrites u x1 (operandX u x)
    (uwBr u = 0 → Does (.brNext e none) s fun t => t.engine e = some { y with addr := x.addr + 1 } ∧ s.keepsRegs t []) ∧
    (uwBr u = 1 → Does (.brGoto e none) s fun t => t.engine e = some { y with addr := uwTgt u } ∧ s.keepsRegs t []) ∧
    (uwBr u = 2 → Does (.brIf e none) s fun t =>
      t.engine e = some { y with addr := if condHolds u (operandX u x) then uwTgt u else x.addr + 1 } ∧ s.keepsRegs t []) ∧
    (uwBr u = 3 → Does (.brMway e none) s fun t => t.engine e = some { y with addr := uwTgt u + operandX u x % 16 } ∧ s.keepsRegs t []) ∧
    (uwBr u = 4 → Does (.brCall e none) s fun t =>
      t.engine e = some { y with addr := uwTgt u, stack := (x.addr + 1) :: x.stack } ∧ s.keepsRegs t []) ∧
    (∀ a l, uwBr u = 5 → x.stack = a :: l → Does (.brRet e none) s fun t =>
      t.engine e = some { y with addr := a, stack := l } ∧ s.keepsRegs t []) ∧
    (uwBr u = 6 → Does (.brEnd e none) s fun t => t.engine e = none ∧ s.keepsRegs t [] ∧
      (t.pipe x.pipe).rob = (s.pipe x.pipe).rob.map fun r => if r.fid = x.fid then { r with prv := some (prvFinish y e 0) } else r) ∧
    (uwBr u = 7 → Does (.brSlow e none) s fun t => t.engine e = none ∧ s.keepsRegs t [] ∧
      (t.pipe x.pipe).rob = (s.pipe x.pipe).rob.map fun r =>
        if r.fid = x.fid then { r with prv := some (prvFinish y e (uwTgt u % 256)) } else r))

/-- R117, R119, R120, R121, R124: what every microword keeps and what stops a parse. A cursor update that would exceed 127 sets 127; the PRV bits
that the device owns are not written; a bad word stops with code 6, a read at window byte 64 or beyond with code 1, the 64th word that does not
end with code 5; a stop without a code sets VALID, one with a code sets SLOWP, and both write the code, ENGINE and NEXEC. -/
def Obligations.MicrowordLimits : Prop :=
  (∀ (u : BitVec 96) (x : Engine) (v : Nat), (uwWrites u x v).cur ≤ 127 ∧ (uwWrites u x v).win = x.win ∧
    ∀ i, prvOwned i = true → (uwWrites u x v).prv.getLsbD i = x.prv.getLsbD i) ∧
  (∀ (u : BitVec 96) (x : Engine), (badStatic u || badControl u x) = true →
    uwExec u x = .stop { x with count := x.count + 1 } (if depthFault u x && Config.depthWins u then 1 else 6)) ∧
  (∀ (u : BitVec 96) (x : Engine), badStatic u = false → badControl u x = false → depthFault u x = true → uwExec u x = .stop { x with count := x.count + 1 } 1) ∧
  (∀ (u : BitVec 96) (x : Engine), badStatic u = false → badControl u x = false → depthFault u x = false → badDynamic u x (operandX u x) = true →
    uwExec u x = .stop { x with count := x.count + 1 } 6) ∧
  (∀ (u : BitVec 96) (x : Engine), badStatic u = false → badControl u x = false → depthFault u x = false → badDynamic u x (operandX u x) = false → uwBr u < 6 →
    x.count = 63 → uwExec u x = .stop (uwWrites u { x with count := 64 } (operandX u x)) 5) ∧
  (∀ (x : Engine) (e code : Nat), e < 48 → code < 256 → x.count ≤ 64 → x.wlen ≤ 64 →
    prvBits (prvFinish x e code) 255 255 = (if code = 0 then 1 else 0) ∧ prvBits (prvFinish x e code) 254 254 = (if code = 0 then 0 else 1) ∧
    prvBits (prvFinish x e code) 253 246 = code ∧ prvBits (prvFinish x e code) 26 21 = e ∧ prvBits (prvFinish x e code) 20 14 = x.count ∧
    prvBits (prvFinish x e code) 13 7 = x.wlen)

/-- R112, R114, R115, R131, R133: the pipelines around the engines. A window that waits alone is granted to the first idle engine after the
pointer, with an entry of the reorder buffer; the PRV at the head of a reorder buffer retires to stage 4; the scrub visits the next word of the
clusters, and corrects a single wrong bit; a write of the microcode window in MAINTENANCE stores the word with its check bits. -/
def Obligations.ParsePipeline : Prop :=
  (∀ (s : State) (w : WqEntry) (rest : List WqEntry) (e : Nat), (s.pipe 0).wq = w :: rest → (s.pipe 1).wq = [] → (s.pipe 0).rob.length < 64 →
    s.underTest 1 = false → rotFind 48 s.tin.ptr s.engineIdle = some e → Does .dispatch s fun t =>
      (t.pipe 0).wq = rest ∧ (t.pipe 0).rob = (s.pipe 0).rob ++ [{ fid := w.fid, port := w.port, prv := none }] ∧
      t.engine e = some (engineStart w.fid 0 w.win w.win.length (s.entryAddr w.port))) ∧
  (∀ (s : State) (pl : Fin 2) (k port : Nat) (prv : BitVec 256) (rest : List RobEntry),
    (s.pipe pl).rob = { fid := k, port := port, prv := some prv } :: rest → Does (.prvRetire pl) s fun t =>
      t.pipe pl = { s.pipe pl with rob := rest, st4 := (s.pipe pl).st4 ++ [k] }) ∧
  (∀ (s : State), s.mode ≠ modePEWTER → s.underTest 1 = false →
    ((∀ c < 3, uwDecode (s.uword c s.tin.scrub) = .sound) → Does (.ucodeScrubStep none) s fun t =>
      t = settled s { s with tin := { s.tin with scrub := (s.tin.scrub + 1) % 4096 } }) ∧
    (∀ w, uwDecode (s.uword 0 s.tin.scrub) = .single w → (∀ c < 3, 0 < c → uwDecode (s.uword c s.tin.scrub) = .sound) →
      Does (.ucodeScrubStep none) s fun t => t.uword 0 s.tin.scrub = w ∧ t.tin.scrub = (s.tin.scrub + 1) % 4096 ∧
        t.bit F.TIN_EVT_ECC_CORR = true)) ∧
  (∀ (s : State) (h : HostId) (c : Fin 3) (a : Fin 4096) (part : Fin 3) (data : Word),
    s.opens h (if part.val = 0 then R.TIN_UW_LO else if part.val = 1 then R.TIN_UW_MID else R.TIN_UW_HI) c a = true →
    s.mode = modeMAINTENANCE → s.underTest 1 = false → Does (.ucodeWindowWrite h c a part data) s fun t =>
      uwPart (t.uword c a) part = data ∧ (∀ q < 3, q ≠ part.val → uwPart (t.uword c a) q = uwPart (s.uword c a) q) ∧
      (t.uword c a).chk = uwCheck (t.uword c a).uw ∧ uwDecode (t.uword c a) = .sound ∧ t.bit F.TIN_UCODE_VER_MODIFIED = true)

/-- R20, R21, R22, R86, R202: a frame begins and grows. The first SFD symbol on a MAC that receives enters a frame with no bytes, the lane's TD0
time and its 40-bit stamp, and the MAC receives it; on a MAC that is receiving one already nothing changes. Bytes that arrive are kept in order; a
frame that exceeds MAXLEN is bad and OVERSIZE from then on and stores MAXLEN bytes; a complete cell that is written holds the frame's next 128
bytes. -/
def Obligations.FrameBegins : Prop :=
  (∀ (s : State) (p : Port) (sub : Fin 2), s.macReceives p = true → s.mode ≠ modePEWTER →
    ((s.port p).rxE = none → Does (.ingressTimestamp p false sub) s fun t => (t.port p).rxE = some s.nextFid ∧ t.nextFid = s.nextFid + 1 ∧
      ∃ f, t.frame s.nextFid = some f ∧ f.src = p ∧ f.origin = .net ∧ f.rx = [] ∧ f.time = s.laneStamp sub ∧ f.stamp = ts40 (s.laneStamp sub) ∧
        f.maxlen = s.get F.PORT_RXCFG_MAXLEN p) ∧
    ((s.port p).rxE.isSome = true → Does (.ingressTimestamp p false sub) s fun t => t = settled s s) ∧
    (s.bit F.PORT_MM_CFG_MM_EN p = true → (s.port p).rxP = none → Does (.ingressTimestamp p true sub) s fun t =>
      t.rxFid p true = some s.nextFid ∧ t.nextFid = s.nextFid + 1 ∧
      ∃ f, t.frame s.nextFid = some f ∧ f.src = p ∧ f.pre = true ∧ f.rx = [] ∧ f.time = s.laneStamp sub)) ∧
  (∀ (s : State) (p : Port) (pre : Bool) (b : List Byte) (k : Nat) (f : Frame), s.receiving p pre k f b →
    Does (.cellWrite [⟨p, pre, b⟩]) s fun t => ∃ g, t.frame k = some g ∧ g.rx = f.rx ++ b ∧ g.stage = f.stage ∧ g.drop = f.drop) ∧
  (∀ (s : State) (p : Port) (pre : Bool) (b : List Byte) (k : Nat) (f : Frame), s.rxFid p pre = some k → s.frame k = some f →
    f.stage = .arriving → f.cap = f.maxlen → f.flags.testBit 2 = false → f.maxlen < f.rx.length + b.length →
    cellsOf f.maxlen - f.begun ≤ s.get F.SWC_FREE_CELLS → Does (.oversizeTruncate p pre b) s fun t =>
      ∃ g, t.frame k = some g ∧ g.bad = true ∧ g.flags.testBit 2 = true ∧ g.rx = f.rx ++ b ∧ storedLen g = f.maxlen) ∧
  (∀ (s : State) (k i : Nat) (f : Frame), s.frame k = some f → f.cells.length < completeCells f → f.cells.length < f.begun →
    (s.writeCell k i).frame k = some { f with cells := f.cells ++ [i] } ∧
    ∃ c, (s.writeCell k i).cell i = some c ∧ c.data = ((stored f).drop (128 * f.cells.length)).take 128 ∧ c.src = f.src)

/-- R84, R85, R91, R110, R111, R274: a frame's window and its end. A window that completes enters the queue of its port's pipeline at its place, and
where the queue is full the frame is dropped; the last byte ends the reception, and a bad frame that is not delivered counts once under the
code of bad frames; a frame whose length first exceeds its filter's MAX_SDU moves the counts of the filter; the first fragment starts a
reassembly, and a continuation that belongs to none counts an error. -/
def Obligations.FrameEnds : Prop :=
  (∀ (s : State) (p : Port) (pre : Bool) (b : List Byte) (k : Nat) (f : Frame), s.receiving p pre k f b → f.src = p → f.bad = false →
    s.role = roleOFF → s.twn.lagging = false → s.attOf p = none → 64 ≤ f.rx.length + b.length → beAt (f.rx ++ b) 12 2 ≠ 0x8808 →
    ((s.pipe (pipeOf p)).wq.length < 32 → (∀ w ∈ (s.pipe (pipeOf p)).wq, w.port ≤ p) → Does (.windowComplete p pre b) s fun t =>
      (t.pipe (pipeOf p)).wq = (s.pipe (pipeOf p)).wq ++ [{ fid := k, port := p, win := (f.rx ++ b).take 64 }]) ∧
    (32 ≤ (s.pipe (pipeOf p)).wq.length → Does (.windowComplete p pre b) s fun t =>
      (t.pipe (pipeOf p)).wq = (s.pipe (pipeOf p)).wq ∧ t.bit F.TIN_EVT_DISP_OVF = true)) ∧
  (∀ (s : State) (p : Port) (pre : Bool) (b : List Byte) (k : Nat) (f : Frame) (sig : RxSignals), s.receiving p pre k f b →
    (Does (.frameEnd p pre b sig) s fun t => t.rxFid p pre = none) ∧
    (errorFlags (f.rx ++ b) f.maxlen (sig.oddNibble && decide (s.get F.PORT_STAT_SPEED_RES p ≤ 1)) sig.code false ≠ 0 →
      f.cfg.deliverBad = false → f.drop = 0 → Does (.frameEnd p pre b sig) s fun t =>
        t.get F.SWC_DROP_CNT_COUNT 1 = min (s.get F.SWC_DROP_CNT_COUNT 1 + 1) (2 ^ 32 - 1))) ∧
  (∀ (s : State) (p : Port) (pre : Bool) (b : List Byte) (k : Nat) (f : Frame), s.rxFid p pre = some k → s.frame k = some f →
    f.stage = .policed → f.done = false → f.cap = f.maxlen → f.rx.length + b.length ≤ f.maxlen →
    cellsOf (f.rx.length + b.length) - f.begun ≤ s.get F.SWC_FREE_CELLS → f.dec.hit = true → f.dec.filterEn = true → f.cfg.mode ≠ modeBRIDGE →
    (s.filter f.dec.filter).maxSdu ≠ 0 → (s.filter f.dec.filter).maxSdu < f.rx.length + b.length → f.ldec ≤ (s.filter f.dec.filter).maxSdu →
    Does (.lateSduExcess p pre b) s fun t =>
      (t.filter f.dec.filter).notPassSdu = ((s.filter f.dec.filter).notPassSdu + 1) % 2 ^ 32 ∧
      (t.filter f.dec.filter).passSdu = ((s.filter f.dec.filter).passSdu + 2 ^ 32 - 1) % 2 ^ 32 ∧
      ∃ g, t.frame k = some g ∧ g.stage = .gone ∧ g.drop = 0x21) ∧
  (∀ (s : State) (p : Port) (frag : Fragment) (n : Fin 4) (k : Nat) (f : Frame) (r : Reassembly), s.macReceives p = true →
    s.bit F.PORT_MM_CFG_MM_EN p = true →
    ((s.port p).rxP = some r → r.fid = k → r.frags = 0 → r.base = f.rx.length → s.receiving p true k f frag.bytes → frag.smd = .start n →
      frag.last = false → 60 ≤ frag.bytes.length → Does (.fragmentReceive p frag) s fun t =>
        (t.port p).rxP = some { fid := k, frame := n, nextCount := 0, frags := 1, base := f.rx.length + frag.bytes.length }) ∧
    (∀ c, (s.port p).rxP = none → frag.smd = .cont n c → Does (.fragmentReceive p frag) s fun t =>
      t.portCount p 16 = (s.portCount p 16 + 1) % 2 ^ 64) ∧
    (∀ c, (s.port p).rxP = some r → (r.frags = 0 ∨ r.frame ≠ n.val ∨ r.nextCount ≠ c.val) → frag.smd = .cont n c →
      Does (.fragmentReceive p frag) s fun t => t.rxFid p true = none))

/-- R143, R271, R212, R221, R228: the stages and the age unit take the oldest of what waits. Stages 4 and 5 pass a frame on in its order, one on the
slow path without a decision; stage 6 ends with it; a cut-through copy whose frame has two cells written and is not bad becomes selectable; the
age unit looks at one list head a tick, passes one that has not expired, and discards one that has, which counts once. -/
def Obligations.SwitchStages : Prop :=
  (∀ (s : State) (pl : Fin 2) (k : Nat) (rest : List Nat) (parity : List (Nat × Nat)), (s.pipe pl).st4 = k :: rest →
    (Does (.lookup pl parity) s fun t => (t.pipe pl).st4 = rest ∧ (t.pipe pl).st5.getLast? = some k) ∧
    (∀ f, s.frame k = some f → f.stage = .parsed → f.slow ≠ 0 → Does (.lookup pl []) s fun t =>
      t.frame k = some { f with stage := .looked } ∧ (t.pipe pl).st5 = (s.pipe pl).st5 ++ [k] ∧ s.keepsRegs t [])) ∧
  (∀ (s : State) (pl : Fin 2) (k : Nat) (rest : List Nat) (upset : Option (Fin 4 × Bool)), (s.pipe pl).st5 = k :: rest →
    (Does (.police pl upset) s fun t => (t.pipe pl).st5 = rest ∧ (t.pipe pl).st6.getLast? = some k) ∧
    (∀ f, s.frame k = some f → f.stage = .looked → f.slow ≠ 0 → Does (.police pl none) s fun t =>
      t.frame k = some { f with stage := .policed } ∧ (t.pipe pl).st6 = (s.pipe pl).st6 ++ [k] ∧ s.keepsRegs t [])) ∧
  (∀ (s : State) (pl : Fin 2) (k : Nat) (rest : List Nat), (s.pipe pl).st6 = k :: rest → Does (.admitFrame pl) s fun t =>
    (t.pipe pl).st6 = rest) ∧
  (∀ (s : State) (n : Fin 576), Does (.ctSelectable n) s fun t => s.keepsRegs t [] ∧ (t.list n).length = (s.list n).length ∧
    ∀ (i : Nat) (c : Copy) (f : Frame), (s.list n)[i]? = some c → s.frame c.fid = some f → c.ct = true → 2 ≤ f.cells.length → f.bad = false →
      (t.list n)[i]? = some { c with sel := true }) ∧
  (∀ s : State,
    ((∀ c ∈ (s.list s.swc.ageList).head?, s.expired s.swc.ageList c = false) → Does .ageUnitStep s fun t =>
      t.swc = { s.swc with ageList := (s.swc.ageList + 1) % 616 } ∧ s.keepsRegs t []) ∧
    (∀ c rest, s.list s.swc.ageList = c :: rest → s.expired s.swc.ageList c = true →
      (∀ f, s.frame c.fid = some f → f.cfg.sess = []) → Does .ageUnitStep s fun t =>
      t.list s.swc.ageList = rest ∧ t.get F.SWC_DROP_CNT_COUNT 0x40 = min (s.get F.SWC_DROP_CNT_COUNT 0x40 + 1) (2 ^ 32 - 1) ∧
      t.swc.ageList = s.swc.ageList))

/-- R203, R205, R210, R212, R213: cells and copies. A read of the cell that the head of a network list asks for, alone in its slot, is served: the copy has read one cell more, and
the cell's REF falls by one, which frees it at 0, where no error is met. The tests of a copy in their order, with no push-out, and what follows. A copy that passes is linked at the tail of its list,
O_n rises by the frame's cells and the free descriptors fall by one; a copy that fails is refused with the event and not linked, under the code of
the first test that fails: the limit of the list, then the shared pool and the headroom, then the descriptors. -/
def Obligations.CellsAndCopies : Prop :=
  (∀ (s : State) (n i : Nat) (c : Copy) (rest : List Copy) (x : Cell), n < 576 → s.list n = c :: rest →
    s.readCell ⟨n, false, 0⟩ = some i → s.cell i = some x → x.fid = c.fid → x.ecc = 0 → (∀ q < 8, s.list (576 + q) = []) → s.twn.fwdTx = [] →
    Does (.cellRead [⟨n, false, 0⟩] none) s fun t =>
      t.list n = { c with nread := c.nread + 1 } :: rest ∧
      (1 < x.ref → t.cell i = some { x with ref := x.ref - 1 } ∧ s.keepsRegs t []) ∧ (x.ref ≤ 1 → t.cell i = none)) ∧
  (∀ (s : State) (n : Nat) (c : Copy) (f : Frame), n < 616 → s.frame c.fid = some f → s.pushes n = false → c.host = false → c.mirror = none →
    (s.get F.SWC_QOCC_CELLS n + f.begun ≤ s.colourLimit n f.colour →
      (s.get F.SWC_QOCC_CELLS n + f.begun - s.get F.SWC_QRES_RES n) - (s.get F.SWC_QOCC_CELLS n - s.get F.SWC_QRES_RES n)
        + s.get F.SWC_SHARED_S ≤ s.get F.SWC_POOL_P →
      s.get F.SWC_HEADROOM_H < s.get F.SWC_FREE_CELLS → s.get F.SWC_FREE_DESC_DESC ≠ 0 →
      s.get F.SWC_QOCC_CELLS n + f.begun < 2 ^ 18 →
        (s.admitCopy n c).1 = true ∧ ((s.admitCopy n c).2.list n).length = (s.list n).length + 1 ∧
        (s.admitCopy n c).2.get F.SWC_QOCC_CELLS n = s.get F.SWC_QOCC_CELLS n + f.begun ∧
        (s.admitCopy n c).2.get F.SWC_FREE_DESC_DESC = s.get F.SWC_FREE_DESC_DESC - 1) ∧
    (s.colourLimit n f.colour < s.get F.SWC_QOCC_CELLS n + f.begun →
        (s.admitCopy n c).1 = false ∧ (s.admitCopy n c).2.get F.SWC_QOCC_CELLS n = s.get F.SWC_QOCC_CELLS n ∧
        (s.admitCopy n c).2.bit F.SWC_EVT_ADMIT = true ∧ (s.admitTest n f.begun f.colour).1 = 0x30) ∧
    (s.get F.SWC_QOCC_CELLS n + f.begun ≤ s.colourLimit n f.colour →
      (s.get F.SWC_POOL_P < (s.get F.SWC_QOCC_CELLS n + f.begun - s.get F.SWC_QRES_RES n)
          - (s.get F.SWC_QOCC_CELLS n - s.get F.SWC_QRES_RES n) + s.get F.SWC_SHARED_S ∨
        s.get F.SWC_FREE_CELLS ≤ s.get F.SWC_HEADROOM_H → (s.admitTest n f.begun f.colour).1 = 0x31) ∧
      (s.get F.SWC_FREE_DESC_DESC = 0 → (s.admitTest n f.begun f.colour).1 = 0x31 ∨ (s.admitTest n f.begun f.colour).1 = 0x32)))

/-- R243, R246, R312, R103: a copy on its way out. With the lane due and nothing given to a MAC yet, selection takes the head of the queue that the
express MAC picks from its list; with nothing eligible it only looks; at the first symbol the copy moves to its MAC with its departure stamp; at
the last byte the MAC is free, the bytes are on the lane, and the frame counts as sent. -/
def Obligations.Transmission : Prop :=
  (∀ (s : State) (p : Port), s.mode ≠ modePEWTER → s.mode ≠ modeLOAD → s.txGet p 2 = none → s.txGet p 3 = none →
    let u := (s.tagLooks p).laneFix p
    u.laneDue p = true →
    (∀ q c l, u.macPick p true = some q → u.queueHead p q = some (.copy c l) → u.expired (8 * p + q) c = false → Does (.egressSelect p) s fun t =>
      (∃ x, t.txGet p 2 = some x ∧ x.copy.fid = c.fid ∧ x.copy.nread = c.nread ∧ x.list = 8 * p + q ∧ x.queue = q ∧ x.started = false ∧ x.entry = none) ∧
      t.list (8 * p + q) = (s.list (8 * p + q)).tail) ∧
    (u.macPick p true = none → u.macPick p false = none → (s.port p).preempted = false → Does (.egressSelect p) s fun t => t = settled s u)) ∧
  (∀ (s : State) (p : Port) (pre : Bool) (sub : Fin 2) (x : Tx) (f : Frame), s.txGet p (if pre then 3 else 2) = some x →
    s.laneTakes p (if pre then 3 else 2) = true → x.entry = none → 1 ≤ x.copy.nread → s.frame x.copy.fid = some f → s.txGet p (if pre then 1 else 0) = none → Does (.transmitStart p pre sub) s fun t =>
      t.txGet p (if pre then 3 else 2) = none ∧ ∃ y, t.txGet p (if pre then 1 else 0) = some y ∧ y.copy = x.copy ∧ y.list = x.list ∧
        y.started = true ∧ y.stamp = (s.departAt (sub.val * 65536 + s.bytes16 p 7) + 32768) / 65536) ∧
  (∀ (s : State) (p : Port) (pre : Bool) (x : Tx) (f : Frame), s.txGet p (if pre then 1 else 0) = some x → x.started = true → x.entry = none →
    s.frame x.copy.fid = some f → f.done = true → x.cut = none → x.smd = none → x.bytes ≠ [] → (pre = true → (s.port p).preempted = false) →
    s.isLogged = false → s.loop p = 0 → Does (.transmitEnd p pre) s fun t =>
      t.txGet p (if pre then 1 else 0) = none ∧ t.out = s.out ++ [.lane p (x.bytes.drop x.sent)] ∧
      t.portCount p 25 = (s.portCount p 25 + 1) % 2 ^ 64)

/-- R249, R252, R253, R266: the gates of a port at a lane time, and the events of its list. The gates in force and the entry are shown; GATE_EN = 0 and
BRIDGE open every gate, and with no list ADM_GATES stand; the MAC hold shows when it is asserted, with counter 33, and when it is released. -/
def Obligations.GateEvents : Prop :=
  (∀ (s : State) (p : Port), Does (.gateEntryStart p) s fun t =>
    t.get F.EGS_GATE_STAT_OPER_GATES p = s.gatesAt p (s.laneNs p) % 256 ∧
    t.get F.EGS_GATE_STAT_ENTRY p = (if s.get F.EGS_GATE_OPER_LEN_LEN p = 0 then 0 else s.gateEntry p (s.laneNs p) % 1024) ∧
    t.get F.EGS_GATE_STAT_BANK p = s.get F.EGS_GATE_STAT_BANK p ∧ s.keepsRegs t [R.EGS_GATE_STAT.off p 0] ∧ s.onlyRegs t) ∧
  (∀ (s : State) (p : Nat) (t : Int),
    (s.bit F.EGS_GATE_CFG_GATE_EN p = false ∨ s.mode = modeBRIDGE → s.gatesAt p t = 0xFF ∧ s.listHold p t = false) ∧
    (s.bit F.EGS_GATE_CFG_GATE_EN p = true → s.mode ≠ modeBRIDGE →
      (∀ o, (s.eg p).old = some o → o.tx ≤ t) → (∀ c, (s.eg p).pend = some c → t < c.tx) →
      (s.get F.EGS_GATE_OPER_LEN_LEN p = 0 → s.gatesAt p t = s.get F.EGS_GATE_CFG_ADM_GATES p) ∧
      (s.get F.EGS_GATE_OPER_LEN_LEN p ≠ 0 → s.gatesAt p t = (s.operEntry p (s.gateEntry p t)).gates))) ∧
  (∀ (s : State) (p : Port), s.holdAt p (s.laneNs p) = true → s.bit F.EGS_GATE_STAT_HOLD p = false → Does (.macHoldAssert p) s fun t =>
    t.bit F.EGS_GATE_STAT_HOLD p = true ∧ t.portCount p 33 = (s.portCount p 33 + 1) % 2 ^ 64 ∧
    ((s.txGet p 1).isSome = true → (t.port p).preReq = true)) ∧
  (∀ (s : State) (p : Port), s.holdAt p (s.laneNs p) = false → s.bit F.EGS_GATE_STAT_HOLD p = true → Does (.macHoldRelease p) s fun t =>
    t.bit F.EGS_GATE_STAT_HOLD p = false ∧ s.keepsRegs t [R.EGS_GATE_STAT.off p 0] ∧ s.onlyRegs t)

/-- R255, R256, R268: gate control lists. A change of a list: GO is refused under the code of the first check that fails, with CFG_ERR; a change that passes them
all is pending, with T_x reported and the ADM values sampled; CANCEL abandons it; at T_x the banks swap, the OPER registers take the sampled
values, CHG_PEND clears and CHG_DONE is set. An entry through its window: A write that R258 lets through stores OP, GATES and the held INTERVAL into entry IDX of
the administrative bank, a read returns OP and GATES of the entry that BANK and IDX name, and both advance IDX under AUTOINC. -/
def Obligations.GateLists : Prop :=
  (∀ (s : State) (h : HostId) (p : Port), s.opens h R.EGS_GATE_CHG p 0 = true →
    let len := s.get F.EGS_GATE_ADM_LEN_LEN p
    let cyc := s.get F.EGS_GATE_ADM_CYCLE_CYCLE p
    let ext := s.get F.EGS_GATE_ADM_EXT_EXT p
    let bns := s.get F.EGS_GATE_ADM_BASE_NS_NS p
    let base := fullTime (s.dom 0) (s.get F.EGS_GATE_ADM_BASE_SEC_SEC p) bns
    let pend := s.bit F.EGS_GATE_STAT_CHG_PEND p
    let bad := (List.range len).any fun i => badEntry (tabGet {} (s.admBank p) i)
    let code := if pend then 5 else if len = 0 ∨ 1024 < len then 1 else if bad then 2
      else if cyc < 16 ∨ 1000000000 < cyc ∨ cyc < ext then 3 else if 1000000000 ≤ bns then 4 else 0
    (code ≠ 0 → Does (.gateChangeGo h p) s fun t => t.get F.EGS_GATE_STAT_CHG_ERR p = code ∧ t.bit F.EGS_EVT_CFG_ERR p = true ∧
      t.eg p = s.eg p ∧ t.bit F.EGS_GATE_STAT_CHG_PEND p = pend ∧ s.keepsRegs t [R.EGS_GATE_STAT.off p 0, R.EGS_EVT.off p 0]) ∧
    (code = 0 → Does (.gateChangeGo h p) s fun t => t.bit F.EGS_GATE_STAT_CHG_PEND p = true ∧ t.get F.EGS_GATE_STAT_CHG_ERR p = 0 ∧
      t.eg p = { s.eg p with pend := some ⟨changeTime s.now base cyc, base, cyc, ext, len⟩ } ∧
      t.get F.EGS_GATE_CHG_NS_NS p = (changeTime s.now base cyc % 1000000000).toNat ∧
      t.get F.EGS_GATE_CHG_SEC_SEC p = (changeTime s.now base cyc / 1000000000 % 2 ^ 32).toNat ∧
      s.keepsRegs t [R.EGS_GATE_STAT.off p 0, R.EGS_GATE_CHG_SEC.off p 0, R.EGS_GATE_CHG_NS.off p 0])) ∧
  (∀ (s : State) (h : HostId) (p : Port), s.opens h R.EGS_GATE_CHG p 0 = true →
    (s.bit F.EGS_GATE_STAT_CHG_PEND p = true → Does (.gateChangeCancel h p) s fun t =>
      t.bit F.EGS_GATE_STAT_CHG_PEND p = false ∧ t.eg p = { s.eg p with pend := none } ∧ t.bit F.EGS_EVT_CHG_DONE p = true ∧
      s.keepsRegs t [R.EGS_GATE_STAT.off p 0, R.EGS_EVT.off p 0]) ∧
    (s.bit F.EGS_GATE_STAT_CHG_PEND p = false → Does (.gateChangeCancel h p) s fun t =>
      t.get F.EGS_GATE_STAT_CHG_ERR p = 5 ∧ t.bit F.EGS_EVT_CFG_ERR p = true ∧ t.eg p = s.eg p)) ∧
  (∀ (s : State) (p : Port) (c : PendChange), (s.eg p).pend = some c → c.tx ≤ s.laneNs p → Does (.gateChangeTime p) s fun t =>
    t.get F.EGS_GATE_STAT_BANK p = 1 - s.get F.EGS_GATE_STAT_BANK p ∧
    t.eg p = { s.eg p with pend := none, base := c.base, ext := c.ext, old := some { s.operRun p with tx := c.tx } } ∧
    t.get F.EGS_GATE_OPER_CYCLE_CYCLE p = c.cycle % 2 ^ 32 ∧ t.get F.EGS_GATE_OPER_LEN_LEN p = c.len % 2 ^ 11 ∧
    t.bit F.EGS_GATE_STAT_CHG_PEND p = false ∧ t.bit F.EGS_EVT_CHG_DONE p = true) ∧
  (∀ (s : State) (h : HostId) (p : Port) (data : Word), s.opens h R.EGS_GCL_D1 p 0 = true → s.get F.EGS_GCL_IDX_BANK p = 0 →
    s.bit F.EGS_GATE_STAT_CHG_PEND p = false → Does (.gclWrite h p data) s fun t =>
      tabGet {} (t.admBank p) (s.get F.EGS_GCL_IDX_IDX p) = ⟨(s.eg p).d0.toNat, getBits data 7 0, getBits data 31 30⟩ ∧
      (∀ i, i ≠ s.get F.EGS_GCL_IDX_IDX p → tabGet {} (t.admBank p) i = tabGet {} (s.admBank p) i) ∧
      t.get F.EGS_GCL_IDX_IDX p = (if s.bit F.EGS_GCL_IDX_AUTOINC p then (s.get F.EGS_GCL_IDX_IDX p + 1) % 1024 else s.get F.EGS_GCL_IDX_IDX p) ∧
      s.keepsRegs t [R.EGS_GCL_IDX.off p 0]) ∧
  (∀ (s : State) (h : HostId) (p : Port), s.reaches h R.EGS_GCL_D1 p 0 = true → Does (.gclRead h p) s fun t =>
    t.out = s.out ++ [.readData (hostNum h) (BitVec.ofNat 64 (gclD1 (s.gclEntry p) ||| s.rsvdShown (hostNum h) R.EGS_GCL_D1 p 0).toNat)] ∧
    t.get F.EGS_GCL_IDX_IDX p = (if s.bit F.EGS_GCL_IDX_AUTOINC p then (s.get F.EGS_GCL_IDX_IDX p + 1) % 1024 else s.get F.EGS_GCL_IDX_IDX p) ∧
    s.keepsRegs t [R.EGS_GCL_IDX.off p 0])

/-- R258: a write of EGS_GCL_D1 that names the operative bank, or comes while a change is pending, is ignored and sets CFG_ERR, and no write of it
touches the operative bank. -/
def Obligations.GateEntryWriteRefused : Prop :=
  ∀ (s : State) (h : HostId) (p : Port) (data : Word), s.opens h R.EGS_GCL_D1 p 0 = true →
    (s.get F.EGS_GCL_IDX_BANK p = 1 ∨ s.bit F.EGS_GATE_STAT_CHG_PEND p = true → Does (.gclWrite h p data) s fun t =>
      t.bit F.EGS_EVT_CFG_ERR p = true ∧ t.egs = s.egs ∧ s.keepsRegs t [R.EGS_EVT.off p 0]) ∧
    Does (.gclWrite h p data) s fun t => t.operBank p = s.operBank p

/-- R264, R265: shapers. At a tick every enabled shaper accrues RATE up to BURST and no further, and a disabled one stands; a frame's debit leaves no
less than −16,063 bytes; EN from 0 to 1 sets the count to BURST, while EN stays 1 it is held to BURST, and EN from 1 to 0 freezes it. -/
def Obligations.Shapers : Prop :=
  (∀ s : State, Does .shaperTokenAccrual s fun t => ∀ p < 72, ∀ q < 8,
    t.tok p q = (if s.bit F.EGS_SHP_CFG_EN p q then min (s.tok p q + shpPerTick (s.get F.EGS_SHP_CFG_RATE p q)) (s.shpBurst p q) else s.tok p q)) ∧
  (∀ (s : State) (h : HostId) (p : Port) (q : Fin 8) (data : Word),
    (s.opens h R.EGS_SHP_CFG p q = true → Does (.shaperConfigWrite h p q false data) s fun t =>
      t.get F.EGS_SHP_CFG_EN p q = getBits data 31 31 ∧ t.get F.EGS_SHP_CFG_RATE p q = getBits data 23 0 ∧
      t.tok p q = (if getBits data 31 31 = 0 then s.tok p q
        else if s.bit F.EGS_SHP_CFG_EN p q then min (s.tok p q) (s.shpBurst p q) else s.shpBurst p q) ∧
      s.keepsRegs t [R.EGS_SHP_CFG.off p q]) ∧
    (s.opens h R.EGS_SHP_BURST p q = true → Does (.shaperConfigWrite h p q true data) s fun t =>
      t.get F.EGS_SHP_BURST_BURST p q = getBits data 23 0 ∧
      t.tok p q = (if s.bit F.EGS_SHP_CFG_EN p q then min (s.tok p q) ((getBits data 23 0 : Int) * 2 ^ 24) else s.tok p q) ∧
      s.keepsRegs t [R.EGS_SHP_BURST.off p q])) ∧
  (∀ (s : State) (p q l : Nat), (s.bit F.EGS_SHP_CFG_EN p q = true → -16063 * 2 ^ 24 ≤ (s.shpDebit p q l).tok p q) ∧
    (s.bit F.EGS_SHP_CFG_EN p q = false → s.shpDebit p q l = s))

/-- R260, R261, R262: launch calendars. An entry is inserted in order of launch time, behind those of equal time, into a calendar with room, no more
than 1 s ahead; a full calendar refuses and counts; an armed entry that is due becomes the head of its queue; one older than its class allows is
discarded, and the next is armed. -/
def Obligations.LaunchCalendar : Prop :=
  (∀ (s : State) (p : Port) (lt : BitVec 40) (queue : Fin 8) (len : BitVec 14) (src : BitVec 5) (handle : BitVec 24),
    let e : CalEntry := { lt := lt.toNat, queue := queue, len := len.toNat, src := src.toNat, handle := handle.toNat, req := none,
                          stamp := ts40 s.now, group := 0 }
    ((s.eg p).cal.length < 256 → s.launchNs lt.toNat ≤ s.now + 1000000000 → Does (.calendarInsert p lt queue len src handle) s fun t =>
      (t.eg p).cal = calInsert s.now e (s.eg p).cal ∧ t.get F.EGS_LC_STAT_OCC p = (s.eg p).cal.length + 1 ∧
      t.bit F.EGS_LC_STAT_ARMED p = true ∧ s.keepsRegs t [R.EGS_LC_STAT.off p 0]) ∧
    ((s.eg p).cal.length < 256 → s.now + 1000000000 < s.launchNs lt.toNat → Does (.calendarInsert p lt queue len src handle) s fun t =>
      t = settled s s) ∧
    (256 ≤ (s.eg p).cal.length → Does (.calendarInsert p lt queue len src handle) s fun t => t.egs = s.egs ∧
      t.get F.EGS_LC_FULL_COUNT p = min (s.get F.EGS_LC_FULL_COUNT p + 1) (2 ^ 32 - 1) ∧ t.bit F.EGS_EVT_LC_FULL p = true ∧
      s.keepsRegs t [R.EGS_LC_FULL.off p 0, R.EGS_EVT.off p 0])) ∧
  (∀ (now : Int) (e : CalEntry) (l : List CalEntry),
    let key := fun (c : CalEntry) => ((c.lt : Int) - now + 2 ^ 39) % 2 ^ 40
    l.Pairwise (fun a b => key a ≤ key b) → (calInsert now e l).Pairwise (fun a b => key a ≤ key b) ∧ (calInsert now e l).Perm (e :: l)) ∧
  (∀ (s : State) (p : Port), s.launchIsDue p = true → Does (.launchDue p) s fun t =>
    t.eg p = { s.eg p with due := true } ∧ s.keepsRegs t []) ∧
  (∀ (s : State) (p : Port) (e : CalEntry), s.armed p = some e → (s.ageLimit (queueClass e.queue) : Int) < s.now - s.launchNs e.lt →
    Does (.launchDiscard p) s fun t => (t.eg p).cal = (s.eg p).cal.tail ∧ (t.eg p).due = false ∧
      t.get F.EGS_LC_DISC_COUNT p = min (s.get F.EGS_LC_DISC_COUNT p + 1) (2 ^ 32 - 1) ∧ t.bit F.SWC_EVT_AGE = true)

/-- R172: the table access windows. An accepted command raises BUSY and stands as the window's command until it completes, which loads its results,
lowers BUSY and sets CMD_DONE. NOP, READ, SEARCH and the failing ones change no table; a READ shows the version in force; a WRITE stages the
image at INDEX; a DELETE of a key that is present stages it with VALID 0, of one that is not answers 1; a SEARCH finds the key; a FLUSH has left
no matching dynamic entry that it came to when it completes. The clauses about an accepted command are of a device on which no other FLUSH runs. -/
def Obligations.TableCommands : Prop :=
  (∀ (s : State) (h : HostId) (w : Fin 2), s.opens h R.LKP_CMD w 0 = true → s.bit F.LKP_STAT_BUSY w = false → s.loaded = true →
    s.underTest 0 = false → s.lkp.flush = [] →
    (Does (.lkpNop h w) s fun t => t.lkpCmdOf w = some ⟨lkpWord 0 0 false, 0, none, none, none⟩ ∧ t.bit F.LKP_STAT_BUSY w = true ∧
      t.lkp.slots = s.lkp.slots ∧ t.lkp.staged = s.lkp.staged) ∧
    (∀ (table : Fin 16) (ver : Bool), table.val < 9 → s.get F.LKP_INDEX_INDEX w < tblSlots table →
      s.oddPair table (s.get F.LKP_INDEX_INDEX w) = false →
      (ver = false → (s.slot table (s.get F.LKP_INDEX_INDEX w)).perr = false →
        (s.slot table (s.get F.LKP_INDEX_INDEX w + 1)).perr = false → Does (.lkpRead h w table ver) s fun t =>
        t.lkp.slots = s.lkp.slots ∧ t.bit F.LKP_STAT_BUSY w = true ∧
        ∃ c, t.lkpCmdOf w = some c ∧ c.status = 0 ∧ c.img = some (shownImg table (s.slot table (s.get F.LKP_INDEX_INDEX w))
          (versionFor (s.slot table (s.get F.LKP_INDEX_INDEX w)) s.epoch).img)) ∧
      (table.val = 1 ∨ table.val = 6 ∨ table.val = 8 → rsvdOk table (s.lkpData w % 2 ^ imgWidth table) = true →
        keyOk table (s.get F.LKP_INDEX_INDEX w) (s.lkpData w % 2 ^ imgWidth table) = true →
        s.lkp.staged.length + s.lkp.taken.length < 4096 → (s.slot table (s.get F.LKP_INDEX_INDEX w)).res = none → Does (.lkpWrite h w table) s fun t =>
          t.stagedAt table (s.get F.LKP_INDEX_INDEX w) =
            some ⟨table, s.get F.LKP_INDEX_INDEX w, 2, s.lkpData w % 2 ^ imgWidth table⟩ ∧
          t.lkp.slots = s.lkp.slots ∧ t.bit F.LKP_STAT_BUSY w = true ∧ ∃ c, t.lkpCmdOf w = some c ∧ c.status = 0)) ∧
    (∀ (table : Fin 16), hashed table = true →
      let k := imgKey table (s.lkpData w % 2 ^ imgWidth table)
      (s.findPresent table k = none → Does (.lkpDelete h w table) s fun t =>
        t.lkp.slots = s.lkp.slots ∧ t.lkp.staged = s.lkp.staged ∧ ∃ c, t.lkpCmdOf w = some c ∧ c.status = 1) ∧
      (∀ i, s.findPresent table k = some i → s.stagedAt table i = none → s.lkp.staged.length + s.lkp.taken.length < 4096 →
        Does (.lkpDelete h w table) s fun t => t.lkp.slots = s.lkp.slots ∧
          (∃ e, t.stagedAt table i = some e ∧ e.op = 4 ∧ imgValid table e.img = false) ∧ ∃ c, t.lkpCmdOf w = some c ∧ c.status = 0) ∧
      ((∀ i, (s.slot table i).perr = false) → Does (.lkpSearch h w table false) s fun t =>
        t.lkp.slots = s.lkp.slots ∧ ∃ c, t.lkpCmdOf w = some c ∧
          c.index = (s.candidates table k).find? (s.matches table k s.epoch) ∧ c.status = (if c.index.isSome then 0 else 1))) ∧
    Does (.lkpFlush h w 0) s fun t => (∃ c, t.lkpCmdOf w = some c ∧ c.status = 0) ∧ t.bit F.LKP_STAT_BUSY w = true ∧
      t.lkp.flush = [(w.val, (s.lkpData w, 0))] ∧ t.lkp.slots = s.lkp.slots) ∧
  (∀ (s : State) (w : Fin 2) (c : LkpCmd) (d b : Nat), s.lkpCmdOf w = some c → tabFind? w.val s.lkp.flush = some (d, b) → s.underTest 0 = false →
    s.lkp.lost = none → Does (.lkpCmdComplete w) s fun t => tabFind? w.val t.lkp.flush = none ∧ ∀ i < 2 ^ 20,
      let x := s.slot 0 i
      let img := (versionFor x s.epoch).img
      let hit := fdbDynamic img = true ∧ (d.testBit 7 = false ∨ nb img 80 68 = nb d 6 0) ∧ (d.testBit 20 = false ∨ nb img 59 48 = nb d 19 8)
      x.perr = false → x.pend = false →
      (hit → b ≤ flushOp i → imgValid 0 (versionFor (t.slot 0 i) s.epoch).img = false) ∧
      (¬ hit ∨ flushOp i < b → t.slot 0 i = x)) ∧
  (∀ (s : State) (w : Fin 2) (c : LkpCmd), s.lkpCmdOf w = some c → c.status < 16 → tabFind? w.val s.lkp.flush = none → Does (.lkpCmdComplete w) s fun t =>
    t.lkpCmdOf w = none ∧ t.bit F.LKP_STAT_BUSY w = false ∧ t.get F.LKP_STAT_STATUS w = c.status ∧
    (∀ i ∈ c.index, t.get F.LKP_INDEX_INDEX w = i % 2 ^ 18) ∧ (c.rtag ≠ none → some (t.reg R.EPOCH_RTAG w) = c.rtag) ∧
    t.bit (if w.val = 0 then F.LKP_EVT_CMD_DONE0 else F.LKP_EVT_CMD_DONE1) = true ∧ t.lkp.slots = s.lkp.slots)

/-- R151, R158, R161, R172: what enters and leaves the tables by key. An INSERT of a key that is present stages the image at its slot, of one that is
not takes the free way of its first bucket, which is reserved; the learning engine takes the oldest request, and one whose key is not there goes
into both versions of a free way of its first bucket with the epoch in force; the age scanner moves on one step, marks a dynamic entry, and
deletes it at the next visit if it is still marked; a hit of the same cycle keeps an unmarked entry unmarked, and the deletion of a marked one
stands (R162). -/
def Obligations.TableEntries : Prop :=
  (∀ (s : State) (h : HostId) (w : Fin 2) (table : Fin 16), s.opens h R.LKP_CMD w 0 = true → s.bit F.LKP_STAT_BUSY w = false →
    s.loaded = true → s.underTest 0 = false → s.lkp.flush = [] → hashed table = true → s.lkp.staged.length + s.lkp.taken.length < 4096 →
    let m := s.lkpData w % 2 ^ imgWidth table
    let k := imgKey table m
    (table.val = 0 → m.testBit 66 = false) → rsvdOk table m = true → keyOk table 0 m = true → s.boundOk table m = true →
    (∀ i, (s.slot table i).perr = false) →
    (∀ i, s.findPresent table k = some i → Does (.lkpInsert h w table) s fun t =>
      t.stagedAt table i = some ⟨table, i, 3, m⟩ ∧ ∃ c, t.lkpCmdOf w = some c ∧ c.status = 0 ∧ c.index = some i) ∧
    (∀ i, s.findPresent table k = none → s.freePlace table m (4 * s.hashBucket table 0 k) 4 = some i → Does (.lkpInsert h w table) s fun t =>
      t.stagedAt table i = some ⟨table, i, 3, m⟩ ∧ (t.slot table i).res = some m ∧
      ∃ c, t.lkpCmdOf w = some c ∧ c.status = 0 ∧ c.index = some i)) ∧
  (∀ (s : State) (r : LearnReq) (rest : List LearnReq), s.underTest 0 = false → s.lkp.learnQ = r :: rest →
    let m := learnedImg r.mac r.fid r.port
    Does .learnInsert s (fun t => t.lkp.learnQ = rest) ∧
    (s.lkp.flush = [] → (∀ i, (s.slot 0 i).perr = false) → ∀ i, s.findPresent 0 (imgKey 0 m) = none →
      s.freePlace 0 m (4 * s.hashBucket 0 0 (imgKey 0 m)) 4 = some i → Does .learnInsert s fun t =>
        (t.slot 0 i).a = ⟨m, s.epoch, false⟩ ∧ (t.slot 0 i).b = ⟨m, s.epoch, false⟩ ∧ (t.slot 0 i).pend = false ∧
        (t.slot 0 i).stale = false ∧ s.keepsRegs t [])) ∧
  (∀ s : State, s.get F.FDB_AGE_CFG_PERIOD ≠ 0 → s.underTest 0 = false → s.mode ≠ modePEWTER → Does .ageScanStep s fun t =>
    t.lkp.ageStep = (s.lkp.ageStep + 1) % 32768 ∧ t.lkp.stashVisit = (s.lkp.stashVisit + 1) % 16) ∧
  (∀ (s : State) (i : Nat), s.underTest 0 = false → (s.slot 0 i).poison = false → (s.slot 0 i).perr = false →
    fdbDynamic (versionFor (s.slot 0 i) s.epoch).img = true → s.lkp.hits = [] →
    ((s.slot 0 i).stale = false → (s.ageSlot i).slot 0 i = { s.slot 0 i with stale := true }) ∧
    ((s.slot 0 i).stale = true → (s.slot 0 i).pend = false →
      imgValid 0 (versionFor ((s.ageSlot i).slot 0 i) s.epoch).img = false ∧ ((s.ageSlot i).slot 0 i).stale = false)) ∧
  (∀ (s : State) (i : Nat) (was : Bool), s.underTest 0 = false → (s.slot 0 i).poison = false → (s.slot 0 i).perr = false → (s.slot 0 i).pend = false →
    fdbDynamic (versionFor (s.slot 0 i) s.epoch).img = true → s.lkp.cycleAt = s.inv.ticks →
    s.lkp.hits = [{ slot := i, stale := was, again := none }] →
    (was = false → s.ageSlot i = s) ∧ (was = true → imgValid 0 (versionFor ((s.ageSlot i).slot 0 i) s.epoch).img = false))

/-- R183: the commit timestamp of an accepted commit, at TD0 time A with K entries staged, by the four cases of the rule, with TS_ADJ set in the two
of them that adjust it, and its report in EPOCH_TC_SEC and EPOCH_TC_NS. -/
def Obligations.CommitTimestamp : Prop :=
  ∀ (s : State) (h : HostId), s.opens h R.EPOCH_COMMIT 0 0 = true → s.bit F.EPOCH_STAT_BUSY = false →
    let a := s.now
    let k := s.lkp.staged.length
    let tmin : Int := a + 4000 + ((16 * k + 9) / 10 : Nat)
    let tw := fullTime (s.dom 0) (s.get F.EPOCH_COMMIT_TS_SEC_SEC) (s.get F.EPOCH_COMMIT_TS_NS_NS)
    let zero : Prop := s.get F.EPOCH_COMMIT_TS_SEC_SEC = 0 ∧ s.get F.EPOCH_COMMIT_TS_NS_NS = 0
    let reports (t : State) (tc : Int) (adj : Bool) : Prop := t.lkp.tc = some tc ∧
      t.get F.EPOCH_TC_SEC_SEC = (tc / 1000000000 % 2 ^ 32).toNat ∧ t.get F.EPOCH_TC_NS_NS = (tc % 1000000000).toNat ∧
      t.bit F.EPOCH_EVT_TS_ADJ = (adj || s.bit F.EPOCH_EVT_TS_ADJ)
    (zero → Does (.epochCommit h) s fun t => reports t tmin false) ∧
    (¬ zero → tw < tmin → Does (.epochCommit h) s fun t => reports t tmin true) ∧
    (¬ zero → tmin ≤ tw → tw ≤ a + 1000000000000 → Does (.epochCommit h) s fun t => reports t tw false) ∧
    (¬ zero → tmin ≤ tw → a + 1000000000000 < tw → Does (.epochCommit h) s fun t => reports t (a + 1000000000000) true)

/-- R176, R177, R186: a commit takes effect for a whole epoch at once. While it applies, every slot it changes still gives frames of the epoch in
force what it gave them before, and gives frames of the next epoch the staged image. -/
def Obligations.CommitHidesPending : Prop :=
  ∀ s : State, s.get F.EPOCH_STAT_STATE = esAPPLYING → s.underTest 0 = false →
    (s.lkp.taken.map fun e => (e.table, e.index)).Nodup → (∀ e ∈ s.lkp.taken, e.index < 2 ^ 20) →
    (∀ e ∈ s.lkp.taken, (newest (s.slot e.table e.index)).settled = true ∨ (newest (s.slot e.table e.index)).tag ≠ (s.epoch + 1) % 65536) →
    Does .commitApplied s fun t => t.get F.EPOCH_STAT_STATE = esPENDING ∧ t.lkp.taken = [] ∧ t.epoch = s.epoch ∧
      ∀ e ∈ s.lkp.taken, versionFor (t.slot e.table e.index) s.epoch = versionFor (s.slot e.table e.index) s.epoch ∧
        (versionFor (t.slot e.table e.index) ((s.epoch + 1) % 65536)).img = e.img ∧ (t.slot e.table e.index).pend = true

/-- R181, R182, R186, R187, R190, R191, R195: the commit machine. An accepted commit takes the set being built and is APPLYING; a discard in READY or
DRAINING empties the set; at T_c the epoch advances, modulo 2^16, and the machine is DRAINING until the epoch before is drained; the tag sweep
settles the versions outside the live set and moves on; an ECC error of the epoch state is corrected and counted, or asks for an episode. -/
def Obligations.CommitMachine : Prop :=
  (∀ (s : State) (h : HostId), s.opens h R.EPOCH_COMMIT 0 0 = true → s.bit F.EPOCH_STAT_BUSY = false → Does (.epochCommit h) s fun t =>
    t.get F.EPOCH_STAT_STATE = esAPPLYING ∧ t.bit F.EPOCH_STAT_BUSY = true ∧ t.bit F.EPOCH_CUR_PEND = true ∧ t.epoch = s.epoch ∧
    t.lkp.taken = s.lkp.staged ∧ t.lkp.staged = [] ∧ t.get F.EPOCH_STAT_STAGED = 0 ∧ t.bit F.EPOCH_EVT_ACCEPTED = true ∧
    t.lkp.slots = s.lkp.slots) ∧
  (∀ (s : State) (h : HostId), s.opens h R.EPOCH_DISCARD 0 0 = true →
    (s.get F.EPOCH_STAT_STATE = esREADY ∨ s.get F.EPOCH_STAT_STATE = esDRAINING → Does (.epochDiscard h) s fun t =>
      t.lkp.staged = [] ∧ t.lkp.taken = s.lkp.taken) ∧
    (s.get F.EPOCH_STAT_STATE ≠ esREADY → s.get F.EPOCH_STAT_STATE ≠ esDRAINING → Does (.epochDiscard h) s fun t =>
      t.bit F.EPOCH_EVT_REFUSED = true ∧ t.lkp = s.lkp ∧ s.keepsRegs t [R.EPOCH_EVT.base])) ∧
  (∀ (s : State) (tc : Int), s.lkp.tc = some tc → s.get F.EPOCH_STAT_STATE = esPENDING → tc ≤ s.now → Does .commitTimeReached s fun t =>
    t.epoch = (s.epoch + 1) % 65536 ∧ t.bit F.EPOCH_CUR_PEND = false ∧ t.get F.EPOCH_STAT_STATE = esDRAINING ∧
    t.bit F.EPOCH_DRAIN_DRAINED = false ∧ t.bit F.EPOCH_EVT_COMMITTED = true) ∧
  (∀ s : State, s.get F.EPOCH_STAT_STATE = esDRAINING → s.drainDone = true → Does .epochDrained s fun t =>
    t.bit F.EPOCH_DRAIN_DRAINED = true ∧ t.bit F.EPOCH_EVT_DRAINED = true ∧ t.lkp = s.lkp ∧
    (s.isStandby = false → s.role ≠ rolePAIRING → t.get F.EPOCH_STAT_STATE = esREADY ∧ t.bit F.EPOCH_STAT_BUSY = false) ∧
    (s.isStandby = true → t.get F.EPOCH_STAT_STATE = esLOCKED ∧ t.bit F.EPOCH_STAT_BUSY = true)) ∧
  (∀ s : State, s.mode ≠ modeLOAD → s.mode ≠ modePEWTER → s.underTest 0 = false → Does .tagSweepStep s fun t =>
    (t.lkp.sweepI = if tblSlots s.lkp.sweepT ≤ s.lkp.sweepI + 1 then 0 else s.lkp.sweepI + 1) ∧
    (t.lkp.sweepT = if tblSlots s.lkp.sweepT ≤ s.lkp.sweepI + 1 then (s.lkp.sweepT + 1) % 9 else s.lkp.sweepT) ∧ s.keepsRegs t [] ∧
    let x := s.slot s.lkp.sweepT s.lkp.sweepI
    x.a.tag ≠ s.prevEpoch → x.a.tag ≠ s.epoch → x.a.tag ≠ (s.epoch + 1) % 65536 →
      (t.slot s.lkp.sweepT s.lkp.sweepI).a = { x.a with settled := true }) ∧
  (∀ s : State,
    (Does (.epochEccError false) s fun t => t.get F.EPOCH_ECC_CNT_COUNT = min (s.get F.EPOCH_ECC_CNT_COUNT + 1) (2 ^ F.EPOCH_ECC_CNT_COUNT.width - 1) ∧
      t.bit F.EPOCH_EVT_ECC_CORR = true ∧ s.keepsRegs t [R.EPOCH_ECC_CNT.base, R.EPOCH_EVT.base]) ∧
    (Does (.epochEccError true) s fun t => t = settled s { s with rst := { s.rst with due := s.rst.due ||| 128 } }))

/-- R273, R275, R276: a meter at stage 5. The buckets accrue at their rates from T_last to the stamp, no further than their bursts; red debits
neither bucket, yellow the peak bucket, green both, and only a frame that its buckets cover is yellow or green; the frame takes its colour, which
is counted, and a frame that is not red, or whose meter remarks red, goes on. -/
def Obligations.MeterPolicing : Prop :=
  (∀ (s : State) (pl : Fin 2) (k : Nat) (rest : List Nat) (f : Frame), (s.pipe pl).st5 = k :: rest → s.frame k = some f → f.stage = .looked →
    f.slow = 0 → f.dec.hit = true → f.dec.meterEn = true → f.dec.filterEn = false → f.dec.gateEn = false → (s.meter f.dec.meter).ecc = false →
    let m := accrue (s.meter f.dec.meter) f.time
    let r := meterColour m (f.rx.length + s.get F.POL_OVERHEAD_OVH) (s.inputColour m f.prv)
    Does (.police pl none) s fun t => t.meter f.dec.meter = r.2 ∧
      t.get F.POL_COLOUR_CNT_COUNT r.1 = min (s.get F.POL_COLOUR_CNT_COUNT r.1 + 1) (2 ^ F.POL_COLOUR_CNT_COUNT.width - 1) ∧
      (r.1 ≠ 2 ∨ m.redAct = true → ∃ g, t.frame k = some g ∧ g.stage = .policed ∧ g.colour = r.1 ∧ g.ldec = f.rx.length)) ∧
  (∀ (m : Meter) (ts : Int), (ts < m.tlast → accrue m ts = m) ∧ (m.tlast ≤ ts → (accrue m ts).tlast = ts ∧
      (accrue m ts).tc = min (m.tc + m.cir * (ts - m.tlast)) (m.cbs * 1000000) ∧ (accrue m ts).tp = min (m.tp + m.pir * (ts - m.tlast)) (m.pbs * 1000000))) ∧
  (∀ (m : Meter) (b input : Nat), (meterColour m b input).1 ≤ 2 ∧
    ((meterColour m b input).1 = 2 → (meterColour m b input).2 = m) ∧
    ((meterColour m b input).1 = 1 → (b * 1000000 : Int) ≤ m.tp ∧ (meterColour m b input).2 = { m with tp := m.tp - b * 1000000 }) ∧
    ((meterColour m b input).1 = 0 → (b * 1000000 : Int) ≤ m.tp ∧ (b * 1000000 : Int) ≤ m.tc ∧
      (meterColour m b input).2 = { m with tp := m.tp - b * 1000000, tc := m.tc - b * 1000000 }) ∧
    (m.cm = true → input ≤ (meterColour m b input).1 ∨ 2 < input))

/-- R277, R279, R282, R286, R287: the policing window. An accepted command raises BUSY and samples INDEX and DATA; it takes effect when it completes,
which reports STATUS, lowers BUSY and sets CMD_DONE: NOP changes nothing, READ shows the entry's image, WRITE stores a filter's fields or refuses a
meter whose PIR is below its CIR, UNBLOCK opens a blocked filter or a gate closed by an invalid frame, CLRCNT clears a filter's counts. -/
def Obligations.PolicingWindow : Prop :=
  (∀ (s : State) (h : HostId) (ver : Bool) (table : Fin 4), s.opens h R.POL_CMD 0 0 = true → s.bit F.POL_STAT_BUSY = false → s.loaded = true →
    let takes := fun (i : Instr) (op : Nat) (v : Bool) => Does i s fun t => t.bit F.POL_STAT_BUSY = true ∧
      ∃ c, t.pol = { s.pol with cmd := some c } ∧ c.word = polWord op table v ∧ c.index = s.get F.POL_INDEX_INDEX ∧
        c.data = (List.range 8).map fun j => s.reg R.POL_DATA j
    takes (.polNop h table ver) 0 ver ∧ takes (.polRead h table ver) 1 ver ∧ takes (.polWrite h table ver) 2 ver ∧
    takes (.polUnblock h table ver) 3 ver ∧ takes (.polClrcnt h table ver) 4 ver) ∧
  (∀ (s : State) (c : WinCmd), s.pol.cmd = some c →
    let op := getBits c.word 3 0
    let table := getBits c.word 5 4
    let i := c.index
    let ends := fun (t : State) (st : Nat) => t.get F.POL_STAT_STATUS = st ∧ t.pol.cmd = none ∧ t.bit F.POL_STAT_BUSY = false ∧
      t.bit F.POL_EVT_CMD_DONE = true
    (op = 0 → Does (.polCmdComplete none) s fun t => ends t 0 ∧ t.pol = { s.pol with cmd := none } ∧
      s.keepsRegs t [R.POL_STAT.base, R.POL_EVT.base]) ∧
    (op = 1 → i < polEntries table → s.polEcc table i (getBits c.word 6 6 == 1) = false → Does (.polCmdComplete none) s fun t =>
      ends t 0 ∧ t.pol = { s.pol with cmd := none } ∧
      ∀ j < 8, t.get F.POL_DATA_DATA j = s.polImage table i (getBits c.word 6 6 == 1) / 2 ^ (32 * j) % 2 ^ 32) ∧
    (op = 2 → getBits c.word 6 6 = 0 → table = 1 → i < polEntries 1 → polRsvd 1 c.data = 0 →
      imageBits c.data 13 0 = 0 ∨ 63 < imageBits c.data 13 0 → Does (.polCmdComplete none) s fun t => ends t 0 ∧
        t.filter i = { s.filter i with maxSdu := min (imageBits c.data 13 0) 16000, blockOvs := imageBits c.data 14 14 == 1, ecc := false } ∧
        t.pol.meters = s.pol.meters ∧ t.pol.gates = s.pol.gates) ∧
    (op = 2 → getBits c.word 6 6 = 0 → table = 0 → i < polEntries 0 → polRsvd 0 c.data = 0 → imageBits c.data 47 24 < imageBits c.data 23 0 →
      Does (.polCmdComplete none) s fun t => ends t 3 ∧ t.pol = { s.pol with cmd := none }) ∧
    (op = 3 → table = 1 → i < polEntries 1 → Does (.polCmdComplete none) s fun t => ends t 0 ∧
      t.filter i = { s.filter i with blocked := false } ∧ t.pol.meters = s.pol.meters ∧ t.pol.gates = s.pol.gates) ∧
    (op = 3 → table = 2 → i < polEntries 2 → Does (.polCmdComplete none) s fun t => ends t 0 ∧
      t.gate i = { s.gate i with closedInv := false } ∧ t.pol.filters = s.pol.filters) ∧
    (op = 4 → table = 1 → i < polEntries 1 → Does (.polCmdComplete none) s fun t => ends t 0 ∧
      t.filter i = { s.filter i with matchN := 0, passN := 0, notPass := 0, passSdu := 0, notPassSdu := 0, redN := 0 }))

/-- R255, R256, R281: a change of a gate schedule follows the rules of a gate control list: the checks in their order, T_x, CANCEL, and at T_x the
swap of the banks with the sampled values. -/
def Obligations.ScheduleChange : Prop :=
  (∀ (s : State) (h : HostId) (k : Fin 16), s.opens h R.POL_SGS_CHG k 0 = true →
    let len := s.get F.POL_SGS_ADM_LEN_LEN k
    let cyc := s.get F.POL_SGS_ADM_CYCLE_CYCLE k
    let ext := s.get F.POL_SGS_ADM_EXT_EXT k
    let bns := s.get F.POL_SGS_ADM_BASE_NS_NS k
    let base := fullTime (s.dom 0) (s.get F.POL_SGS_ADM_BASE_SEC_SEC k) bns
    let pend := s.bit F.POL_SGS_STAT_CHG_PEND k
    let bad := (List.range len).any fun i => decide ((tabGet {} (s.schedAdm k) i).interval < 8)
    let code := if pend then 5 else if len = 0 ∨ 256 < len then 1 else if bad then 2
      else if cyc < 16 ∨ 1000000000 < cyc ∨ cyc < ext then 3 else if 1000000000 ≤ bns then 4 else 0
    (code ≠ 0 → Does (.scheduleChangeGo h k) s fun t => t.get F.POL_SGS_STAT_CHG_ERR k = code ∧ t.bit F.POL_EVT_CFG_ERR = true ∧
      t.pol = s.pol ∧ s.keepsRegs t [R.POL_SGS_STAT.off k 0, R.POL_EVT.base]) ∧
    (code = 0 → Does (.scheduleChangeGo h k) s fun t => t.bit F.POL_SGS_STAT_CHG_PEND k = true ∧ t.get F.POL_SGS_STAT_CHG_ERR k = 0 ∧
      t.sched k = { s.sched k with pend := some ⟨changeTime s.now base cyc, base, cyc, ext, len⟩ } ∧
      t.get F.POL_SGS_CHG_NS_NS k = (changeTime s.now base cyc % 1000000000).toNat ∧
      t.get F.POL_SGS_CHG_SEC_SEC k = (changeTime s.now base cyc / 1000000000 % 2 ^ 32).toNat) ∧
    (pend = true → Does (.scheduleChangeCancel h k) s fun t => t.bit F.POL_SGS_STAT_CHG_PEND k = false ∧
      t.sched k = { s.sched k with pend := none } ∧ t.bit F.POL_EVT_CHG_DONE = true) ∧
    (pend = false → Does (.scheduleChangeCancel h k) s fun t => t.get F.POL_SGS_STAT_CHG_ERR k = 5 ∧ t.bit F.POL_EVT_CFG_ERR = true ∧
      t.pol = s.pol)) ∧
  (∀ (s : State) (k : Fin 16) (c : PendChange), (s.sched k).pend = some c → c.tx ≤ s.now → Does (.scheduleChangeTime k) s fun t =>
    t.get F.POL_SGS_STAT_BANK k = 1 - s.get F.POL_SGS_STAT_BANK k ∧
    (let run : OldList := ⟨s.schedOper k, (s.sched k).base, s.get F.POL_SGS_OPER_CYCLE_CYCLE k, s.get F.POL_SGS_OPER_LEN_LEN k, (s.sched k).ext, c.tx⟩
     t.sched k = { s.sched k with pend := none, base := c.base, ext := c.ext, old := some run }) ∧
    t.get F.POL_SGS_OPER_CYCLE_CYCLE k = c.cycle % 2 ^ 32 ∧ t.get F.POL_SGS_OPER_LEN_LEN k = c.len % 2 ^ F.POL_SGS_OPER_LEN_LEN.width ∧
    t.bit F.POL_SGS_STAT_CHG_PEND k = false ∧ t.bit F.POL_EVT_CHG_DONE = true)

/-- R342, R343, R346, R347, R353, R354, R356, R382: the passes of the process data service. A drive input goes into the buffer of its slot that is not
current, which becomes current and fresh; the gather deadline snapshots the slots, one without a fresh input being stale with one more miss; the
gather pass ends the gather; the first controller frame of a window runs the pass of its group; a further one only counts; a group whose
window closed without one runs a held pass with one more miss. The clauses about fan-out passes are of a service with no gather pass in progress;
a copy's cells hold no error. -/
def Obligations.ProcessData : Prop :=
  (∀ (s : State) (n : Nat) (c : Copy) (f : Frame) (ed : EditRec), s.pdsHead = some (n, c, f, ed) → ed.pdsRole = 1 → s.expired n c = false →
    s.pds.gather = none → s.underTest 3 = false → (∀ i ∈ s.unreadCells c, s.cellEcc i = 0) →
    let x := s.pslot ed.pdsIndex
    slotIn x = true → slotVirtual x = false → slotSrcOfs x + slotLen x ≤ f.rx.length - 4 → slotBuf x (!x.cur) + slotLen x ≤ sramSize →
    Does .fanin s fun t => t.pslot ed.pdsIndex = { x with cur := !x.cur, fresh := true } ∧
      t.slotBytes x (!x.cur) = bytesAt f.rx (slotSrcOfs x) (slotLen x) ∧ t.list n = (s.list n).tail) ∧
  (∀ s : State, s.pdsRuns = true → s.pds.cycle ≠ 0 → s.pds.gathered = false → s.pds.gather = none → s.gatherDue ≤ s.now → s.mode ≠ modeHOLD →
    s.pds.paused = false → (s.pds.slots.map (·.1)).Nodup → Does .gatherDeadline s fun t =>
      t.bit F.PDS_STAT_GATHER_BUSY = true ∧ t.pds.gathered = true ∧
      (∃ g, t.pds.gather = some g ∧ g.start = s.pds.start ∧ g.due = s.gatherDue ∧ g.cnt = s.pds.cnt) ∧
      ∀ i x, tabFind? i s.pds.slots = some x → slotIn x = true → slotVirtual x = false →
        (x.fresh = true → t.pslot i = { x with fresh := false, stale := false, miss := 0, fault := false }) ∧
        (x.fresh = false →
          let m := min 255 (x.miss + 1)
          t.pslot i = { x with fresh := false, stale := true, miss := m, fault := decide (s.pds.oper.missIn ≠ 0 ∧ s.pds.oper.missIn ≤ m) })) ∧
  (∀ s : State, s.pds.gather.isSome = true → Does .gatherPass s fun t => t.pds.gather = none ∧ t.bit F.PDS_STAT_GATHER_BUSY = false) ∧
  (∀ (s : State) (n : Nat) (c : Copy) (f : Frame) (ed : EditRec), s.pdsHead = some (n, c, f, ed) → ed.pdsRole = 2 → s.expired n c = false →
    s.pdsRuns = true → s.pds.cycle ≠ 0 → s.mode ≠ modeHOLD → s.pds.paused = false → s.pds.gather = none → s.heldDue = [] →
    (∀ i ∈ s.unreadCells c, s.cellEcc i = 0) → ed.pdsIndex < 64 → (s.fanout ed.pdsIndex).img.testBit 0 = true →
    (s.fanout ed.pdsIndex).lastRun < s.foWindow ed.pdsIndex → Does .fanoutPass s fun t =>
      t.fanout ed.pdsIndex = { s.fanout ed.pdsIndex with miss := 0, fault := false, held := false, lastRun := s.foWindow ed.pdsIndex } ∧
      t.list n = (s.list n).tail ∧ t.get F.PDS_CNT_COUNT 7 = min (s.get F.PDS_CNT_COUNT 7 + 1) (2 ^ 32 - 1)) ∧
  (∀ (s : State) (n : Nat) (c : Copy) (f : Frame) (ed : EditRec), s.pdsHead = some (n, c, f, ed) → ed.pdsRole = 2 → s.expired n c = false →
    s.pdsRuns = true → s.pds.cycle ≠ 0 → s.mode ≠ modeHOLD → s.pds.paused = false → s.pds.gather = none → s.heldDue = [] →
    (∀ i ∈ s.unreadCells c, s.cellEcc i = 0) → ed.pdsIndex < 64 → (s.fanout ed.pdsIndex).img.testBit 0 = true →
    s.foWindow ed.pdsIndex ≤ (s.fanout ed.pdsIndex).lastRun → Does .fanoutExtra s fun t =>
      t.fanout ed.pdsIndex = s.fanout ed.pdsIndex ∧ t.list n = (s.list n).tail ∧
      t.get F.PDS_CNT_COUNT 9 = min (s.get F.PDS_CNT_COUNT 9 + 1) (2 ^ 32 - 1)) ∧
  (∀ (s : State) (g : Fin 64) (h : HeldRun) (rest : List HeldRun), s.heldDue = h :: rest → h.group = g.val → (∀ y ∈ rest, y.group ≠ g.val) →
    s.mode ≠ modeHOLD → s.pds.gather = none → Does (.heldPass g) s fun t =>
      let x := s.fanout g
      let m := min 255 (x.miss + 1)
      t.fanout g = { x with miss := m, held := true, lastRun := max x.lastRun h.id,
                            fault := x.fault || decide (s.pds.oper.missOut ≠ 0 ∧ s.pds.oper.missOut ≤ m) } ∧
      t.get F.PDS_CNT_COUNT 8 = min (s.get F.PDS_CNT_COUNT 8 + 1) (2 ^ 32 - 1) ∧ h ∉ t.pds.late)

/-- R373, R374: the window of the process data service. A command raises BUSY; NOP and READ change no table; a WRITE that passes its checks is stored
at once while the service stands and queued while it runs, and one that fails stores nothing; completion loads the image of a READ, reports
STATUS, lowers BUSY and sets CMD_DONE. -/
def Obligations.ProcessDataWindow : Prop :=
  (∀ (s : State) (h : HostId) (table : Fin 8), s.opens h R.PDS_CMD 0 0 = true → s.bit F.PDS_CMD_STAT_BUSY = false → s.loaded = true →
    table.val < 5 → s.get F.PDS_INDEX_INDEX < pdsEntries table →
    let i := s.get F.PDS_INDEX_INDEX
    let m := ((List.range 6).map fun j => s.reg R.PDS_DATA j).zipIdx.foldl (fun a e => a + e.1.toNat * 2 ^ (32 * e.2)) 0
    (Does (.pdsNop h table) s fun t => ∃ c, t.pds = { s.pds with cmd := some c } ∧ c.res = 0 ∧ t.bit F.PDS_CMD_STAT_BUSY = true) ∧
    (Does (.pdsRead h table) s fun t => ∃ c, t.pds = { s.pds with cmd := some c } ∧ c.res = 0 ∧ c.index = i ∧
      c.word = word (1 + table.val * 16) ∧ t.bit F.PDS_CMD_STAT_BUSY = true) ∧
    ((s.pdsWrite table i m).1 = 0 → s.pdsRuns = false → Does (.pdsWrite h table) s fun t =>
      ∃ c, t.pds = { (s.pdsStoreEntry table i m).pds with cmd := some c } ∧ c.res = 0) ∧
    ((s.pdsWrite table i m).1 = 0 → s.pdsRuns = true → Does (.pdsWrite h table) s fun t =>
      t.get F.PDS_STAT_PEND = s.pds.queue.length + 1 ∧
      ∃ c, t.pds = { s.pds with queue := s.pds.queue ++ [(table.val, i, m)], cmd := some c } ∧ c.res = 0) ∧
    ((s.pdsWrite table i m).1 = 3 → Does (.pdsWrite h table) s fun t => ∃ c, t.pds = { s.pds with cmd := some c } ∧ c.res = 3)) ∧
  (∀ (s : State) (c : WinCmd), s.pds.cmd = some c → Does .pdsCmdComplete s fun t => t.pds = { s.pds with cmd := none } ∧
    t.get F.PDS_CMD_STAT_STATUS = c.res % 8 ∧ t.bit F.PDS_CMD_STAT_BUSY = false ∧ t.bit F.PDS_EVT_CMD_DONE = true ∧
    (c.res = 0 → getBits c.word 3 0 = 1 → ∀ j < 6,
      t.get F.PDS_DATA_DATA j = s.pdsImage (getBits c.word 6 4) c.index / 2 ^ (32 * j) % 2 ^ 32))

/-- R519: a write of PMC_GRP_EN leaves the counting of the present tick as it is; from the end of that tick the groups that it names are the ones that
count: a counter of a group that counts adds its amount, and one of a group that does not holds its value. -/
def Obligations.CounterGroups : Prop :=
  (∀ (s : State) (h : HostId) (en : Byte), s.opens h R.PMC_GRP_EN 0 0 = true → Does (.groupEnableWrite h en) s fun t =>
    t.get F.PMC_GRP_EN_EN = en.toNat ∧ t.pmc = s.pmc ∧ s.keepsRegs t [R.PMC_GRP_EN.base]) ∧
  (∀ (s : State) (busy : Fin 4), Does (.counterTick busy) s fun t => t.pmc.eff = s.get F.PMC_GRP_EN_EN ∧ ∀ n < 512,
    s.pmc.clear.testBit (n / 64) = false →
      (s.pmc.eff.testBit (n / 64) = false → t.pmcCnt n = s.pmcCnt n) ∧
      (s.pmc.eff.testBit (n / 64) = true → s.mode ≠ modePEWTER → t.pmcCnt n = (s.pmcCnt n + s.pmcAmount n busy) % 2 ^ 48))

/-- R517, R521, R522, R523, R532: the counters at a tick. Every counter of a counting group adds its amount modulo 2^48, and none does in PEWTER; CLEAR
takes effect at the start of the next tick; a wrap is reported; a ledger account of every port gains one a tick. -/
def Obligations.CountersTick : Prop :=
  (∀ (s : State) (busy : Fin 4), s.pmc.clear = 0 → Does (.counterTick busy) s fun t => t.events = [] ∧ ∀ n < 512,
    (s.mode ≠ modePEWTER → s.pmc.eff.testBit (n / 64) = true → t.pmcCnt n = (s.pmcCnt n + s.pmcAmount n busy) % 2 ^ 48) ∧
    (s.mode = modePEWTER → t.pmcCnt n = s.pmcCnt n)) ∧
  (∀ (s : State) (busy : Fin 4) (n : Nat), n < 512 → s.pmc.clear.testBit (n / 64) = true → s.pmc.eff.testBit (n / 64) = false →
    Does (.counterTick busy) s fun t => t.pmcCnt n = 0 ∧ t.pmc.clear = 0) ∧
  (∀ (s : State) (h : HostId) (mask : Byte), s.opens h R.PMC_CMD 0 0 = true →
    (Does (.clearGroups h mask) s fun t => t.pmc = { s.pmc with clear := s.pmc.clear ||| mask.toNat } ∧ s.keepsRegs t []) ∧
    (Does (.clearLedger h mask) s fun t => t.pmc = { s.pmc with clearLed := true } ∧ s.keepsRegs t []) ∧
    (Does (.clearAll h mask) s fun t => t.pmc = { s.pmc with clear := s.pmc.clear ||| mask.toNat, clearLed := true } ∧ s.keepsRegs t [])) ∧
  (∀ (s : State) (n : Fin 512), n.val ∈ s.pmc.wraps → Does (.counterWrap n) s fun t =>
    (t.get F.PMC_OVF_OVF (n.val / 32)).testBit (n.val % 32) = true ∧ t.bit F.PMC_EVT_OVF = true ∧
    t.pmc = { s.pmc with wraps := s.pmc.wraps.erase n.val } ∧ s.keepsRegs t [R.PMC_OVF.off (n.val / 32) 0, R.PMC_EVT.base]) ∧
  (∀ s : State, s.mode ≠ modePEWTER → s.pmc.clearLed = false → Does .ledgerTick s fun t => ∀ p < 72, ∀ k < 4,
    t.get F.PMC_LP_LO_COUNT p k + 2 ^ 32 * t.get F.PMC_LP_HI_COUNT p k =
      (s.get F.PMC_LP_LO_COUNT p k + 2 ^ 32 * s.get F.PMC_LP_HI_COUNT p k + if s.portAccount p = k then 1 else 0) % 2 ^ 48)

/-- R526, R527, R529: dumps. EN = 1 fixes the first snapshot time on the grid 2 µs or more ahead with DSEQ 0; at a snapshot time, with DMA channel 15
ready, the dump is taken and BUSY rises, and without it the snapshot is skipped and counted; either way DSEQ advances and the time moves on;
completion lowers BUSY. -/
def Obligations.Dumps : Prop :=
  (∀ (s : State) (h : HostId) (ports ledger : Bool) (sel : Byte), s.opens h R.PMC_DUMP_CFG 0 0 = true → s.bit F.PMC_DUMP_CFG_EN = false →
    Does (.dumpEnable h ports ledger sel) s fun t => t.bit F.PMC_DUMP_CFG_EN = true ∧ t.get F.PMC_DUMP_CFG_SEL = sel.toNat ∧
      t.bit F.PMC_DUMP_CFG_LEDGER = ledger ∧ t.bit F.PMC_DUMP_CFG_PORT = ports ∧ t.get F.PMC_DUMP_SEQ_DSEQ = 0 ∧
      t.pmc.next = some (gridAtOrAfter (fullTime (s.dom 0) (s.get F.PMC_DUMP_BASE_SEC_SEC) (s.get F.PMC_DUMP_BASE_NS_NS))
        (s.get F.PMC_DUMP_PERIOD_PERIOD) (s.now + 2000)) ∧ s.keepsRegs t [R.PMC_DUMP_CFG.base, R.PMC_DUMP_SEQ.base]) ∧
  (∀ (s : State) (n : Int), s.pmc.next = some n → n ≤ s.now → s.now < n + s.get F.PMC_DUMP_PERIOD_PERIOD → s.mode ≠ modePEWTER →
    (s.pmc.busy = false → s.chState 15 = chRUN → s.owned 15 ≠ 0 → Does .dumpSnapshot s fun t => t.bit F.PMC_DUMP_STAT_BUSY = true ∧
      t.pmc.busy = true ∧ t.pmc.next = some (n + s.get F.PMC_DUMP_PERIOD_PERIOD) ∧ t.pmc.snap.take 3 = [1, BitVec.ofNat 8 (s.get F.GLB_SYSID_SYSID),
        BitVec.ofNat 8 (s.get F.GLB_SYSID_SYSID / 256)] ∧ t.get F.PMC_DUMP_SEQ_DSEQ = (s.get F.PMC_DUMP_SEQ_DSEQ + 1) % 2 ^ F.PMC_DUMP_SEQ_DSEQ.width) ∧
    (s.pmc.busy = true ∨ s.chState 15 ≠ chRUN ∨ s.owned 15 = 0 → Does .dumpSnapshot s fun t => t.bit F.PMC_EVT_DUMP_SKIP = true ∧
      t.pmc = { s.pmc with next := some (n + s.get F.PMC_DUMP_PERIOD_PERIOD), skips := s.pmc.skips + 1 } ∧
      t.get F.PMC_DUMP_SKIP_COUNT = min (s.get F.PMC_DUMP_SKIP_COUNT + 1) (2 ^ F.PMC_DUMP_SKIP_COUNT.width - 1))) ∧
  (∀ s : State, s.pmc.busy = true → s.pmc.ended = true → Does .dumpDone s fun t => t.bit F.PMC_DUMP_STAT_BUSY = false ∧
    t.bit F.PMC_EVT_DUMP_DONE = true ∧ t.pmc = { s.pmc with busy := false, ended := false } ∧
    s.keepsRegs t [R.PMC_DUMP_STAT.base, R.PMC_EVT.base])

/-- R457, R544 to R546, R554: the loader. DISCOVER, the end of a flash slot, a host's load with its bytes, its abort and its timeout, and the
ends of VERIFY, CLEAR and RELEASE each move the loader as its table says. -/
def Obligations.ImageLoading : Prop :=
  (∀ (s : State) (sfdp : Option Sfdp), s.imgState = imgDISCOVER → s.episode = false →
    (s.bit F.IMG_STAT_BOOT_HOST = true → Does (.discover sfdp) s fun t => t.imgState = imgWAIT_HOST ∧ s.keepsRegs t [R.IMG_STAT.base] ∧
      s.onlyRegs t) ∧
    (s.bit F.IMG_STAT_BOOT_HOST = false → Does (.discover sfdp) s fun t => t.imgState = imgFLASH ∧ t.get F.IMG_STAT_SRC = 1 ∧
      t.get F.MGT_SPI_STAT_SFDP_OK = (if sfdp.isSome then 1 else 0) ∧ (sfdp = none → t.bit F.MGT_EVT_SPI_ERR = true ∧
        t.get F.MGT_SPI_STAT_BOOT_OP = 3) ∧ s.keepsRegs t [R.IMG_STAT.base, R.MGT_SPI_STAT.base, R.MGT_EVT.base] ∧ s.onlyRegs t)) ∧
  (∀ s : State, s.imgState = imgFLASH → s.episode = false →
    (Does (.flashLoadEnd none) s fun t => t.imgState = imgCLEAR ∧
      t.img = { s.img with bytes := [], next := if s.get F.IMG_STAT_SRC = 1 then imgFLASH else imgWAIT_HOST } ∧
      (s.get F.IMG_STAT_SRC = 1 → t.get F.IMG_STAT_ERR_SLOT0 = 10) ∧ (s.get F.IMG_STAT_SRC = 2 → t.get F.IMG_STAT_ERR_SLOT1 = 10) ∧
      s.keepsRegs t [R.IMG_STAT.base, R.IMG_ERR_OFS.base]) ∧
    (∀ b : List Byte, 4 ≤ b.length → beAt b 0 4 ≠ 0x58494D47 → Does (.flashLoadEnd (some b)) s fun t => t.imgState = imgCLEAR ∧
      (s.get F.IMG_STAT_SRC = 1 → t.get F.IMG_STAT_ERR_SLOT0 = 1) ∧ (s.get F.IMG_STAT_SRC = 2 → t.get F.IMG_STAT_ERR_SLOT1 = 1) ∧
      t.get F.IMG_ERR_OFS_OFS = 3 ∧ s.keepsRegs t [R.IMG_STAT.base, R.IMG_ERR_OFS.base, R.IMG_COUNT.base]) ∧
    (∀ (b : List Byte) (u v : State), u = (s.setImg { s.img with bytes := b.take (max 12 (imgTotal b)) }).put F.IMG_COUNT_BYTES
      (min b.length (imgTotal b)) → u.imgJudge u.img.bytes = .done v → Does (.flashLoadEnd (some b)) s fun t =>
        t.imgState = imgVERIFY ∧ s.keepsRegs t [R.IMG_STAT.base, R.IMG_COUNT.base] ∧ t.img = u.img)) ∧
  (∀ (s : State) (h : HostId), s.opens h R.IMG_CTRL 0 0 = true →
    (s.imgState = imgWAIT_HOST → s.bit F.IMG_FUSE_STAT_BUSY = false → Does (.hostLoad h) s fun t => t.imgState = imgHOST ∧
      t.get F.IMG_STAT_HOST = hostNum h ∧ t.get F.IMG_STAT_SRC = 3 ∧ t.get F.IMG_COUNT_BYTES = 0 ∧
      t.img = { s.img with bytes := [], lastByte := s.inv.ticks } ∧ s.keepsRegs t [R.IMG_STAT.base, R.IMG_COUNT.base]) ∧
    (s.imgState = imgHOST → s.get F.IMG_STAT_HOST = hostNum h → s.get F.IMG_STAT_SRC = 3 → Does (.abort h) s fun t =>
      t.imgState = imgCLEAR ∧ t.get F.IMG_STAT_ERR_HOST = 11 ∧ t.img = { s.img with bytes := [], next := imgWAIT_HOST } ∧
      s.keepsRegs t [R.IMG_STAT.base, R.IMG_ERR_OFS.base]) ∧
    (s.imgState = imgHOST → s.get F.IMG_STAT_HOST ≠ hostNum h → Does (.abort h) s fun t => t = settled s s)) ∧
  (∀ (s : State) (k : Nat) (b : List Byte) (l : List (Nat × List Byte)), s.img.inbox = (k, b) :: l →
    (s.imgState ≠ imgHOST ∨ s.get F.IMG_STAT_HOST ≠ k → Does .imageBytes s fun t => t.img = { s.img with inbox := l } ∧
      (b ≠ [] → t.bit F.IMG_EVT_DISCARD = true) ∧ s.keepsRegs t [R.IMG_EVT.base]) ∧
    (s.imgState = imgHOST → s.get F.IMG_STAT_HOST = k → (s.img.bytes ++ b).length ≤ 8388608 →
      ((s.img.bytes ++ b).length < 12 ∨ (s.img.bytes ++ b).length ≤ imgTotal (s.img.bytes ++ b)) → Does .imageBytes s fun t =>
        t.get F.IMG_COUNT_BYTES = (s.img.bytes ++ b).length ∧ t.img.accepted = s.img.accepted + b.length ∧ t.img.inbox = l ∧
        s.keepsRegs t [R.IMG_COUNT.base, R.IMG_STAT.base, R.IMG_ERR_OFS.base])) ∧
  (∀ s : State, s.imgState = imgHOST → s.get F.IMG_STAT_SRC = 3 → s.img.lastByte + 500000000 ≤ s.inv.ticks → Does .hostLoadTimeout s fun t =>
    t.imgState = imgCLEAR ∧ t.get F.IMG_STAT_ERR_HOST = 10 ∧ t.img = { s.img with bytes := [], next := imgWAIT_HOST } ∧
    s.keepsRegs t [R.IMG_STAT.base, R.IMG_ERR_OFS.base]) ∧
  (∀ s : State, s.imgState = imgVERIFY → s.episode = false →
    Does .verifyEnd s fun t => t.imgState = (if sigValid s.img.bytes then imgRELEASE else imgCLEAR) ∧
      s.keepsRegs t [R.IMG_STAT.base, R.IMG_ERR_OFS.base] ∧
      (sigValid s.img.bytes = true → s.keepsRegs t [R.IMG_STAT.base] ∧ s.onlyRegs t) ∧
      (sigValid s.img.bytes = false → (s.get F.IMG_STAT_SRC = 1 → t.get F.IMG_STAT_ERR_SLOT0 = 9) ∧
        (s.get F.IMG_STAT_SRC = 2 → t.get F.IMG_STAT_ERR_SLOT1 = 9) ∧ (s.get F.IMG_STAT_SRC = 3 → t.get F.IMG_STAT_ERR_HOST = 9))) ∧
  (∀ s : State, s.imgState = imgCLEAR → s.episode = false → s.img.next ∈ [imgFLASH, imgWAIT_HOST] → Does .clearEnd s fun t =>
    t.imgState = s.img.next ∧ t.bit F.IMG_EVT_LOAD_FAIL = true ∧ s.keepsRegs t [R.IMG_STAT.base, R.IMG_EVT.base] ∧ s.onlyRegs t) ∧
  (∀ s : State, s.imgState = imgRELEASE → s.episode = false → Does .releaseEnd s fun t => t.imgState = imgDONE ∧
    t.bit F.IMG_EVT_LOAD_DONE = true ∧ t.img.bytes = [] ∧ t.reg R.IMG_VER = BitVec.ofNat 32 (beAt s.img.bytes 0x10 4) ∧
    t.get F.IMG_LEN_LEN = imgTotal s.img.bytes % 2 ^ F.IMG_LEN_LEN.width ∧ t.get F.IMG_INFO_NSECT = imgNsect s.img.bytes % 2 ^ F.IMG_INFO_NSECT.width)

/-- R542, R550, R551: fuses and patches. A fuse word is programmed in LOAD with the supply on, its bits are only ever set, and the read-back
gives the status; the first write of PATCH_EN decides and locks; a patch is refused with the first status that applies, or applied and logged. -/
def Obligations.FusesAndPatches : Prop :=
  (∀ (s : State) (h : HostId) (word : Fin 64) (vpp : Bool), s.opens h R.IMG_FUSE_CMD 0 0 = true → s.bit F.IMG_FUSE_STAT_BUSY = false →
    (s.mode = modeLOAD → s.imgState ∈ [imgWAIT_HOST, imgDONE] → vpp = true → word.val < 39 → Does (.fuseProgram h word vpp) s fun t =>
      t.bit F.IMG_FUSE_STAT_BUSY = true ∧ t.img = { s.img with fusing := some (word.val, s.reg R.IMG_FUSE_DATA) } ∧
      s.keepsRegs t [R.IMG_FUSE_STAT.base, R.IMG_FUSE_CMD.base]) ∧
    (s.mode ≠ modeLOAD ∨ s.imgState ∉ [imgWAIT_HOST, imgDONE] ∨ vpp = false ∨ 39 ≤ word.val → Does (.fuseProgram h word vpp) s fun t =>
      t.get F.IMG_FUSE_STAT_STATUS = 1 ∧ s.keepsRegs t [R.IMG_FUSE_STAT.base, R.IMG_FUSE_CMD.base] ∧ s.onlyRegs t)) ∧
  (∀ (s : State) (w : Nat) (bits readBack : Word), s.img.fusing = some (w, bits) → Does (.fuseDone readBack) s fun t =>
    t.bit F.IMG_FUSE_STAT_BUSY = false ∧ t.bit F.IMG_EVT_FUSE_DONE = true ∧
    t.get F.IMG_FUSE_STAT_STATUS = (if bits &&& ~~~readBack = 0 then 0 else 2) ∧
    t.img = { s.img with fuses := tabSet 0 s.img.fuses w (tabGet 0 s.img.fuses w ||| (bits &&& readBack)), fusing := none } ∧
    s.keepsRegs t [R.IMG_FUSE_STAT.base, R.IMG_EVT.base]) ∧
  (∀ (s : State) (h : HostId) (en : Bool), s.opens h R.IMG_CFG 0 0 = true →
    (s.img.patchLocked = false → Does (.patchEnWrite h en) s fun t =>
      t.bit F.IMG_CFG_PATCH_EN = (en && s.bit F.IMG_INFO_ALLOW_PATCH && s.loaded) ∧ t.img = { s.img with patchLocked := true } ∧
      s.keepsRegs t [R.IMG_CFG.base]) ∧
    (s.img.patchLocked = true → Does (.patchEnWrite h en) s fun t => AccessError s t h flLOCK R.IMG_CFG.base)) ∧
  (∀ (s : State) (h : HostId) (nwords : Fin 32) (words : List Word) (w0 addr : Nat), s.opens h R.IMG_PATCH_CMD 0 0 = true →
    s.bit F.IMG_PATCH_STAT_BUSY = false → words = (List.range (min nwords.val 16)).map (fun i => s.reg R.IMG_PATCH_DATA i) →
    w0 = (s.reg R.IMG_PATCH_DATA 0).toNat → addr = (s.reg R.IMG_PATCH_DATA 1).toNat →
    (∀ st, s.patchStatus nwords.val w0 addr (words.drop 2) = st → st ≠ 0 → Does (.patch h nwords) s fun t =>
      t.get F.IMG_PATCH_STAT_STATUS = st ∧ t.bit F.IMG_EVT_PATCH_ERR = true ∧
      s.keepsRegs t [R.IMG_PATCH_CMD.base, R.IMG_PATCH_STAT.base, R.IMG_EVT.base] ∧ s.onlyRegs t) ∧
    (∀ u v : State, u = s.setReg R.IMG_PATCH_CMD ((s.reg R.IMG_PATCH_CMD &&& ~~~(0xFF1F : Word)) ||| keyWord nwords.val) →
      s.patchStatus nwords.val w0 addr (words.drop 2) = 0 →
      (s.mode = modeLOAD →
        u.recordApply (sectionOf (w0 / 2 ^ 24) (w0 / 2 ^ 16 % 256) addr) (w0 / 2 ^ 24) (w0 / 2 ^ 16 % 256) (w0 % 2 ^ 16) addr (words.drop 2)
          = some v → v.imgChecks (s.bit F.IMG_INFO_FORERUNNER) = true → Does (.patch h nwords) s fun t =>
          t.get F.IMG_PATCH_STAT_STATUS = 0 ∧ t.bit F.IMG_EVT_PATCH_DONE = true ∧ t.bit F.IMG_STAT_PATCHED = true) ∧
      (s.mode ≠ modeLOAD → ∀ r : LkpRes, u.lkpDo 2 (w0 / 2 ^ 16 % 256 - 0x10) addr false (unitNat (words.drop 2)) = (r, v) → r.status = 0 →
        Does (.patch h nwords) s fun t => t.get F.IMG_PATCH_STAT_STATUS = 0 ∧ t.bit F.IMG_EVT_PATCH_DONE = true ∧
          t.bit F.IMG_STAT_PATCHED = true ∧ t.get F.IMG_PATCH_CNT_COUNT = min (v.get F.IMG_PATCH_CNT_COUNT + 1) 511 ∧
          t.img.log.length = v.img.log.length + 1 ∧ v.keepsRegs t [R.IMG_PATCH_CNT.base, R.IMG_PATCH_CRC.base, R.IMG_STAT.base,
            R.IMG_PATCH_STAT.base, R.IMG_EVT.base])))

/-- R467, R469 to R471, R474, R476, R478, R480, R481, R483, R484: the DMA engine. START, PAUSE, RESUME and STOP move a channel as its table says; a fetched
descriptor is judged; bytes are copied to and from the service SRAM; a transmit descriptor reads its frame and commits it at the last byte; an
RX descriptor takes the head of its queue and writes it to the host, again in full after a restart; a finished descriptor is written back; a grant serves the highest priority; a bus error stops every channel. -/
def Obligations.DmaChannels : Prop :=
  (∀ (s : State) (h : HostId) (n : Fin 16), s.opens h R.DMA_CH_CTRL n 0 = true →
    (s.chState n = chIDLE → (14 ≤ n.val ∨ s.chMode n ≠ 3) → (s.dch n).owed = none → Does (.dmaStart h n) s fun t =>
      t.chState n = chRUN ∧ t.bit F.DMA_CH_STAT_ENABLE n = true ∧ (t.get F.DMA_STAT_ACTIVE).testBit n = true ∧ t.get F.DMA_CH_CUR_BYTES n = 0 ∧
      s.keepsRegs t [R.DMA_CH_STAT.off n 0, R.DMA_STAT.base, R.DMA_CH_CUR.off n 0] ∧ s.onlyRegs t) ∧
    (∀ d st info, s.chState n = chIDLE → (14 ≤ n.val ∨ s.chMode n ≠ 3) → (s.dch n).owed = some (d, st, info) →
      Does (.dmaStart h n) s fun t => t.chState n = chRUN ∧ t.bit F.DMA_CH_STAT_COMMITTED n = false ∧ (t.dch n).owed = none ∧
        t.get F.DMA_CH_HEAD_HEAD n = (s.get F.DMA_CH_HEAD_HEAD n + 1) % 2 ^ 16 ∧
        t.out = s.out ++ [.hostWrite (s.chHost n) (s.ringBase n + 32 * s.ringHead n + 28) (leBytes 4 (cmplWord st info))]) ∧
    (s.chState n = chSTOPPED → s.get F.DMA_CH_STAT_CAUSE n = 2 → s.bit F.DMA_ERR_VALID = true → Does (.dmaStart h n) s fun t =>
      t.bit F.DMA_CH_EVT_CFG_ERR n = true ∧ s.keepsRegs t [R.DMA_CH_EVT.off n 0] ∧ s.onlyRegs t) ∧
    (s.chState n = chRUN → Does (.dmaPause h n) s fun t => t.chState n = chPAUSING ∧
      s.keepsRegs t [R.DMA_CH_STAT.off n 0, R.DMA_STAT.base] ∧ s.onlyRegs t) ∧
    (s.chState n ≠ chRUN → Does (.dmaPause h n) s fun t => t.bit F.DMA_CH_EVT_CFG_ERR n = true ∧
      s.keepsRegs t [R.DMA_CH_EVT.off n 0] ∧ s.onlyRegs t) ∧
    (s.chState n = chPAUSED → ((s.dch n).started = true ∨ (s.dch n).descs = []) → Does (.dmaResume h n) s fun t => t.chState n = chRUN ∧
      s.keepsRegs t [R.DMA_CH_STAT.off n 0, R.DMA_STAT.base] ∧ s.onlyRegs t) ∧
    (s.chState n = chPAUSED ∨ s.chState n = chSTOPPED → (s.dch n).fid = none → (s.dch n).committed = false → Does (.dmaStop h n) s fun t =>
      t.chState n = chIDLE ∧ t.bit F.DMA_CH_STAT_ENABLE n = false ∧ (t.dch n).descs = [] ∧ (t.dch n).started = false ∧
      s.keepsRegs t [R.DMA_CH_STAT.off n 0, R.DMA_STAT.base, R.BPM_CMD_STAT.off 0 0, R.BPM_CMD_STAT.off 1 0])) ∧
  (∀ (s : State) (n : Fin 16), s.chState n = chPAUSING → Does (.dmaPaused n) s fun t => t.chState n = chPAUSED ∧
    t.bit F.DMA_CH_EVT_PAUSED n = true ∧ s.keepsRegs t [R.DMA_CH_STAT.off n 0, R.DMA_STAT.base, R.DMA_CH_EVT.off n 0] ∧ s.onlyRegs t) ∧
  (∀ (s : State) (h : HostId) (n : Fin 16) (tail : BitVec 16), s.opens h R.DMA_CH_TAIL n 0 = true → Does (.dmaTailWrite h n tail) s fun t =>
    t.get F.DMA_CH_TAIL_TAIL n = tail.toNat ∧ s.keepsRegs t [R.DMA_CH_TAIL.off n 0] ∧ s.onlyRegs t) ∧
  (∀ (s : State) (n : Fin 16) (ds : List (BitVec 256)), s.chState n = chRUN → n.val ≠ 14 → ds.length ≤ 4 →
    (s.dch n).descs.length + ds.length ≤ s.owned n →
    ((s.dch n).started = true → Does (.descriptorFetch n ds) s fun t =>
      t = settled s ((s.fetchRequest n ds.length).setDch n { s.dch n with descs := (s.dch n).descs ++ ds })) ∧
    (∀ d l, (s.dch n).descs = [] → (s.dch n).started = false → s.mayProcess n = true → ds = d :: l →
      (s.descBad n d = true → Does (.descriptorFetch n ds) s fun t => t.chState n = chSTOPPED ∧ t.get F.DMA_CH_STAT_CAUSE n = 1) ∧
      (s.descBad n d = false → s.descCheck d = none → Does (.descriptorFetch n ds) s fun t => (t.dch n).descs = ds ∧
        (t.dch n).started = true ∧ (t.dch n).result = (s.dch n).result ∧ t.regs = (settled s s).regs) ∧
      (∀ st, s.descBad n d = false → s.descCheck d = some st → Does (.descriptorFetch n ds) s fun t => (t.dch n).descs = ds ∧
        (t.dch n).started = true ∧ ∃ info, (t.dch n).result = some (st, info)))) ∧
  (∀ (s : State) (n : Fin 16) (d : BitVec 256) (data : List Byte), s.active n = some d → dType d = 1 → db d 99 96 = 0 →
    (s.dch n).moved + data.length ≤ dLen d → Does (.h2d n data) s fun t => t.sram = (s.sramWrite (s.devAddr d (s.dch n).moved) data).sram ∧
      (t.dch n).moved = (s.dch n).moved + data.length ∧ t.get F.DMA_CH_CUR_BYTES n = ((s.dch n).moved + data.length) % 2 ^ 24 ∧
      ((s.dch n).moved + data.length = dLen d → ∃ info, (t.dch n).result = some (stOK, info)) ∧
      s.keepsRegs t [R.DMA_CH_CUR.off n 0] ∧ t.out = (s.haddrReads n d data.length).out) ∧
  (∀ (s : State) (n : Fin 16) (d : BitVec 256) (k : Nat) (data : List Byte), s.active n = some d → dType d = 2 → db d 99 96 = 0 →
    (s.dch n).moved + k ≤ dLen d → Does (.d2h n k data) s fun t =>
      t.out = (s.hostWrites (s.chHost n) (s.devBytes d (s.dch n).moved k).length ((db d 63 0 + (s.dch n).moved) % 2 ^ 64)
        (s.devBytes d (s.dch n).moved k)).out ∧
      (t.dch n).moved = (s.dch n).moved + k ∧ t.sram = s.sram ∧
      ((s.dch n).moved + k = dLen d → ∃ info, (t.dch n).result = some (stOK, info)) ∧ s.keepsRegs t [R.DMA_CH_CUR.off n 0]) ∧
  (∀ (s : State) (n : Fin 16) (d : BitVec 256) (data : List Byte) (c : Instr), s.active n = some d →
    (dType d, c) ∈ [(3, .txSw n data), (4, .txDir n data), (5, .txLaunch n data)] → data ≠ [] →
    ((s.dch n).moved + data.length < dLen d → Does c s fun t => (t.dch n).moved = (s.dch n).moved + data.length ∧
      (t.dch n).fid = some ((s.dch n).fid.getD s.nextFid) ∧ (t.dch n).committed = (s.dch n).committed ∧ (t.dch n).result = none) ∧
    ((s.dch n).moved < dLen d → dLen d ≤ (s.dch n).moved + data.length → Does c s fun t => (t.dch n).committed = true ∧
      (t.dch n).result.isSome = true ∧ (dType d = 3 → ∃ info, (t.dch n).result = some (stOK, info)))) ∧
  (∀ (s : State) (n : Fin 16) (same : Bool) (d : BitVec 256) (st info : Nat), (s.dch n).descs = [d] → (s.dch n).result = some (st, info) →
    s.chState n ∈ [chRUN, chPAUSING] → (dType d = 1 → db d 99 96 = 2 → s.img.inbox = []) → s.verifies = false → Does (.descriptorComplete n same) s fun t =>
      t.get F.DMA_CH_HEAD_HEAD n = (s.get F.DMA_CH_HEAD_HEAD n + 1) % 2 ^ 16 ∧
      t.get F.DMA_CH_DESC_CNT_COUNT n = min (s.get F.DMA_CH_DESC_CNT_COUNT n + 1) (2 ^ 32 - 1) ∧
      t.out = s.out ++ [if dType d = 6 then
          .hostWrite (s.chHost n) (s.ringBase n + 32 * s.ringHead n) (leBytes 32 (s.rxWord n d % 2 ^ 224 + cmplWord st info * 2 ^ 224))
        else .hostWrite (s.chHost n) (s.ringBase n + 32 * s.ringHead n + 28) (leBytes 4 (cmplWord st info))] ∧
      t.dch n = { owed := (s.dch n).owed } ∧ (db d 156 156 = 1 → t.bit F.DMA_CH_EVT_DESC_DONE n = true) ∧
      (st ≠ 0 → t.bit F.DMA_CH_EVT_DESC_ERR n = true) ∧
      s.keepsRegs t [R.DMA_CH_HEAD.off n 0, R.DMA_CH_DESC_CNT.off n 0, R.DMA_CH_CUR.off n 0, R.DMA_CH_ERR_CNT.off n 0, R.DMA_CH_EVT.off n 0]) ∧
  (∀ (s : State) (h : HostId) (write : Bool) (m : Nat), m < 16 → s.chHost m = hostNum h → s.beatReady m write = true →
    Does (.beatGrant h write) s fun t => ∃ n < 16, s.chHost n = hostNum h ∧ s.beatReady n write = true ∧ s.chPrio m ≤ s.chPrio n ∧
      tabGet 0 t.dma.turn (2 * hostNum h + (if write then 1 else 0)) = n ∧ t.regs = (settled s s).regs ∧ t.dma.ch = s.dma.ch) ∧
  (∀ (s : State) (h : HostId) (kind : Fin 4) (fetch : Bool) (addr : BitVec 64),
    (∀ n < 16, (s.dch n).fid = none ∨ (s.dch n).committed = true) → Does (.busError h kind fetch addr) s fun t =>
      (∀ n < 16, t.chState n = if s.chState n = chIDLE then chIDLE else chSTOPPED) ∧
      (∀ n < 16, s.chState n ≠ chIDLE → s.chState n ≠ chSTOPPED → t.get F.DMA_CH_STAT_CAUSE n = 2) ∧
      (s.bit F.DMA_ERR_VALID = false → t.bit F.DMA_ERR_VALID = true ∧ t.get F.DMA_ERR_KIND = kind ∧ t.get F.DMA_ERR_HOST = hostNum h ∧
        t.get F.DMA_ERR_ADDR_LO_ADDR = addr.toNat % 2 ^ 32) ∧
      (s.bit F.DMA_ERR_VALID = true → t.bit F.DMA_ERR_MULTI = true ∧ t.get F.DMA_ERR_ADDR_LO_ADDR = s.get F.DMA_ERR_ADDR_LO_ADDR)) ∧
  (∀ (s : State) (n : Fin 16) (k : Nat) (d : BitVec 256) (f : Frame), s.active n = some d → dType d = 6 →
    let ch := s.dch n
    let total := min (stored f).length (dLen d)
    (∀ list c, ch.copy = some (list, c) → s.frame c.fid = some f → (0 < ch.moved ∨ db d 157 157 = if ch.handle.isSome then 1 else 0) →
      (ch.moved + k < total → Does (.rx n k) s fun t => t.dch n = { ch with moved := ch.moved + k } ∧
        t.out = (s.hostWrites (s.rxPort n) (((stored f).drop ch.moved).take k).length (s.rxAddr n d + ch.moved)
          (((stored f).drop ch.moved).take k)).out ∧ t.swc.lists = s.swc.lists ∧ s.keepsRegs t [R.DMA_CH_CUR.off n 0]) ∧
      (ch.moved ≤ total → total ≤ ch.moved + k → Does (.rx n k) s fun t => (t.dch n).copy = none ∧ (t.dch n).moved = total ∧
        (t.dch n).again = some (stored f, min f.rx.length f.maxlen) ∧ ∃ info, (t.dch n).result = some (if dLen d < min f.rx.length f.maxlen then stTRUNC else stOK, info) ∧ info % 2 ^ 14 = total % 2 ^ 14)) ∧
    (∀ b l, ch.copy = none → ch.again = some (b, l) → (0 < ch.moved ∨ db d 157 157 = if ch.handle.isSome then 1 else 0) →
      ch.moved + k < min b.length (dLen d) → Does (.rx n k) s fun t => t.dch n = { ch with moved := ch.moved + k } ∧
        t.out = (s.hostWrites (s.rxPort n) ((b.drop ch.moved).take k).length (s.rxAddr n d + ch.moved) ((b.drop ch.moved).take k)).out ∧
        t.swc.lists = s.swc.lists) ∧
    (∀ q c, ch.copy = none → ch.again = none → s.chState n = chRUN → db d 157 157 = 0 → s.rxQueue n = some q → (s.takeSound (592 + q)).1 = some c →
      s.list (592 + q) = [c] → (s.takeSound (592 + q)).2.frame c.fid = some f → ch.moved + k < total → Does (.rx n k) s fun t => t.list (592 + q) = [] ∧
        (t.dch n).copy = some (592 + q, c) ∧ (t.dch n).moved = ch.moved + k ∧
        (t.dch n).handle = none ∧ (t.dch n).info = rxMeta f (copyEdit f c)))

/-- R488 to R494: the buffer pools. ALLOC takes a buffer of the serving pool's cache or fails; RELEASE and ADD change a buffer's owners, and are
rejected for a handle that R492 names; QUERY answers; a pool in host memory is initialised; the cache refills and spills. -/
def Obligations.BufferPools : Prop :=
  (∀ (s : State) (h : HostId), s.opens h R.BPM_CMD 0 0 = true → s.bit F.BPM_CMD_STAT_BUSY (hostNum h) = false →
    (∀ (k i : Nat) (l : List Nat) (arg : Nat) (names : List Nat), arg = s.get F.BPM_ARG_ARG (hostNum h) → arg ≠ 0 →
      names = ownerList (wordNames (s.reg R.BPM_OWNERS (hostNum h))) → names ≠ [] → names.all nameOk = true →
      s.servingPool arg userHOST none = some k →
      ((s.pool k).cache = i :: l → i < 2 ^ 21 → (s.underTest 3 = false ∨ s.poolHost k = true) → Does (.bpmAlloc h) s fun t =>
        t.get F.BPM_RESULT_HANDLE (hostNum h) = handleOf k i ∧ t.get F.BPM_CMD_STAT_STATUS (hostNum h) = 0 ∧
        t.pool k = { s.pool k with cache := l, alloc := tabInsert i names (s.pool k).alloc } ∧
        t.get F.BPM_POOL_FREE_FREE k = (l.length + (s.pool k).count) % 2 ^ F.BPM_POOL_FREE_FREE.width ∧
        s.keepsRegs t [R.BPM_RESULT.off (hostNum h) 0, R.BPM_CMD_STAT.off (hostNum h) 0, R.BPM_CMD.off (hostNum h) 0, R.BPM_POOL_FREE.off k 0,
          R.BPM_POOL_LOW.off k 0]) ∧
      ((s.pool k).cache = [] → Does (.bpmAlloc h) s fun t => t.get F.BPM_RESULT_HANDLE (hostNum h) = 0xFFFFFF ∧
        t.get F.BPM_CMD_STAT_STATUS (hostNum h) = 2 ∧ t.bit F.BPM_EVT_FAIL = true ∧ t.pools = s.pools ∧
        t.get F.BPM_POOL_FAIL_COUNT k = min (s.get F.BPM_POOL_FAIL_COUNT k + 1) (2 ^ 32 - 1))) ∧
    (∀ (a : Nat) (kind : Nat), a = s.get F.BPM_ARG_ARG (hostNum h) % 2 ^ 24 → s.rejectKind a (hostNum h + 1) = some kind →
      Does (.bpmRelease h) s fun t => t.get F.BPM_CMD_STAT_STATUS (hostNum h) = kind + 3 ∧ t.bit F.BPM_EVT_REJECT = true ∧ t.pools = s.pools ∧
        t.get F.BPM_REJ_CNT_COUNT = min (s.get F.BPM_REJ_CNT_COUNT + 1) (2 ^ 32 - 1) ∧
        (s.bit F.BPM_ERR_VALID = false → t.bit F.BPM_ERR_VALID = true ∧ t.get F.BPM_ERR_KIND = kind ∧ t.get F.BPM_ERR_HANDLE_HANDLE = a)) ∧
    (∀ (a : Nat) (l : List Nat), a = s.get F.BPM_ARG_ARG (hostNum h) % 2 ^ 24 → s.handleUnknown a = false → s.owners a = some l →
      (hostNum h + 1 ∈ l → l.filter (fun n => n != hostNum h + 1) ≠ [] → Does (.bpmRelease h) s fun t =>
        t.get F.BPM_CMD_STAT_STATUS (hostNum h) = 0 ∧ t.owners a = some (l.filter (fun n => n != hostNum h + 1)) ∧
        s.keepsRegs t [R.BPM_CMD_STAT.off (hostNum h) 0, R.BPM_CMD.off (hostNum h) 0]) ∧
      (hostNum h + 1 ∈ l → l.filter (fun n => n != hostNum h + 1) = [] → (s.pool (handlePool a)).cache.length < 32 →
        (s.pool (handlePool a)).lost = false → Does (.bpmRelease h) s fun t =>
          t.get F.BPM_CMD_STAT_STATUS (hostNum h) = 0 ∧ t.pool (handlePool a) = { s.pool (handlePool a) with
            alloc := tabErase (handleIndex a) (s.pool (handlePool a)).alloc, cache := (s.pool (handlePool a)).cache ++ [handleIndex a] }) ∧
      (∀ n rest, wordNames (s.reg R.BPM_OWNERS (hostNum h)) = n :: rest → nameOk n = true → hostNum h + 1 ∈ l → n ∉ l →
        (l.length < 4 → Does (.bpmAdd h) s fun t => t.get F.BPM_CMD_STAT_STATUS (hostNum h) = 0 ∧ t.owners a = some (l ++ [n])) ∧
        (4 ≤ l.length → Does (.bpmAdd h) s fun t => t.get F.BPM_CMD_STAT_STATUS (hostNum h) = 7 ∧ t.pools = s.pools)) ∧
      Does (.bpmQuery h) s fun t => t.get F.BPM_CMD_STAT_STATUS (hostNum h) = 0 ∧ t.pools = s.pools ∧
        ((∀ n ∈ l, n < 256) → l.length ≤ 4 → ∀ i < 4, (wordNames (t.reg R.BPM_OWNERS (hostNum h)))[i]? = some ((l[i]?).getD 0)))) ∧
  (∀ (s : State) (h : HostId) (k : Fin 8), s.opens h R.BPM_POOL_CFG k 0 = true → s.poolHost k = true → s.bit F.BPM_POOL_CFG_EN k = false →
    s.poolCount k ≠ 0 → Does (.poolInit h k) s fun t => t.pool k = { s.pool k with init := true } ∧ t.regs = (settled s s).regs) ∧
  (∀ (s : State) (k : Fin 8), (s.pool k).init = true → s.dma14Runs = true → Does (.poolReady k) s fun t => t.bit F.BPM_POOL_CFG_EN k = true ∧
    t.bit F.BPM_EVT_READY = true ∧ t.pool k = { count := s.poolCount k }) ∧
  (∀ (s : State) (k : Fin 8) (data : List Word), (s.pool k).cache.length < 8 → 0 < (s.pool k).count → (s.pool k).lost = false →
    (s.poolHost k = false ∨ (s.dma14Runs = true ∧ data.length = min 16 (s.pool k).count)) → Does (.cacheRefill k data) s fun t =>
      (t.pool k).cache.length = (s.pool k).cache.length + min 16 (s.pool k).count ∧ (s.pool k).cache <+: (t.pool k).cache ∧
      (t.pool k).count = (s.pool k).count - min 16 (s.pool k).count ∧ (t.pool k).alloc = (s.pool k).alloc ∧
      s.keepsRegs t [R.BPM_POOL_FREE.off k 0, R.BPM_POOL_LOW.off k 0]) ∧
  (∀ (s : State) (k : Fin 8), 24 < (s.pool k).cache.length → (s.poolHost k = false ∨ s.dma14Runs = true) → (s.pool k).waits = [] →
    Does (.cacheSpill k) s fun t => t.pool k = { s.pool k with cache := (s.pool k).cache.drop 16, count := (s.pool k).count + 16 } ∧
      s.keepsRegs t [R.BPM_POOL_FREE.off k 0, R.BPM_POOL_LOW.off k 0])

/-- R194, R505, R507 to R510, R512, R516: the capture FIFO. The writer takes a copy and reserves its record; the trailer completes it; a window read
returns the word at R; MARK, REWIND and RELEASE move their pointers; a session is enabled unless its fields contradict each other. -/
def Obligations.CaptureFifo : Prop :=
  (∀ (s u : State) (l : Nat) (c : Copy) (f : Frame) (m : MirrorInfo), s.cff.job = none → s.mode ≠ modePEWTER → s.underTest 4 = false →
    s.underTest 2 = false → rotFind 8 s.cff.rr (fun m => s.mirrorReady (584 + m)) = some l → s.takeHead (584 + l) = (some c, u) →
    u.frame c.fid = some f → c.mirror = some m → ∀ bad, Does (.fifoTake bad) s fun t => t.cff.rr = (l + 1) % 8 ∧
      (∃ trailer, t.cff.job = some (m.session, trailer)) ∧ t.bit F.CFF_STAT_WRITING = true) ∧
  (∀ (s : State) (k trailer : Nat) (r : CffRec), s.cff.job = some (k, trailer) → s.cff.recs.getLast? = some r → Does .fifoRecordComplete s fun t =>
    t.bit F.CFF_EVT_FRAME = true ∧ t.bit F.CFF_STAT_WRITING = false ∧ t.cff.job = none ∧ t.cff.seq = (s.cff.seq + 1) % 2 ^ 32 ∧
    t.cff.recs = s.cff.recs.dropLast ++ [{ r with len := r.wr + 5, wr := r.wr + 5, done := true }] ∧
    cffW t = (r.start + r.wr + 5) % 2 ^ 20 ∧
    s.keepsRegs t [R.CFF_EVT.base, R.CFF_STAT.base, R.CFF_AVAIL.base, R.CFF_WPTR.base, R.CFF_SESS_CNT.off k 0]) ∧
  (∀ (s : State) (h : HostId), s.reaches h R.CFF_WINDOW 0 0 = true → s.underTest 4 = false → s.mode ≠ modePEWTER →
    (s.cffReadable = true → Does (.fifoWindowRead h 0) s fun t => cffR t = (cffR s + 1) % 2 ^ 20 ∧
      t.out = s.out ++ [.readData (hostNum h) ((tabGet 0 s.cff.words (cffR s % 2 ^ 19)).setWidth 32 |>.setWidth 64)] ∧
      s.keepsRegs t [R.CFF_RPTR.base, R.CFF_AVAIL.base, R.CFF_STAT.base] ∧ t.cff = s.cff) ∧
    (s.cffReadable = false → Does (.fifoWindowRead h 0) s fun t => t.regs = (settled s s).regs ∧ t.cff = s.cff ∧
      tabGet 0 t.snaps (cffSnapKey (hostNum h)) = 0)) ∧
  (∀ (s : State) (h : HostId),
    (s.opens h R.CFF_MARK 0 0 = true → Does (.cffMark h) s fun t => cffM t = cffR s ∧ t.bit F.CFF_STAT_MARK_VALID = true ∧ t.cff = s.cff ∧
      s.keepsRegs t [R.CFF_MPTR.base, R.CFF_STAT.base, R.CFF_AVAIL.base]) ∧
    (s.opens h R.CFF_REWIND 0 0 = true →
      (s.bit F.CFF_STAT_MARK_VALID = true → Does (.cffRewind h) s fun t => cffR t = cffM s ∧ t.bit F.CFF_STAT_MARK_VALID = true ∧
        t.cff = s.cff ∧ s.keepsRegs t [R.CFF_RPTR.base, R.CFF_STAT.base, R.CFF_AVAIL.base]) ∧
      (s.bit F.CFF_STAT_MARK_VALID = false → Does (.cffRewind h) s fun t => t.bit F.CFF_EVT_REWIND_ERR = true ∧ t.cff = s.cff ∧
        s.keepsRegs t [R.CFF_EVT.base])) ∧
    (s.opens h R.CFF_RELEASE 0 0 = true → s.bit F.CFF_STAT_MARK_VALID = false → Does (.cffRelease h) s fun t =>
      t.cff = { s.cff with recs := s.cff.recs.filter (fun r => decide (ptrDist (cffF s) (cffR s) < ptrDist (cffF s) r.start + r.len)) } ∧
      (t.cff.recs = [] → cffF t = cffR s) ∧ (∀ r l, t.cff.recs = r :: l → cffF t = r.start % 2 ^ 20) ∧
      s.keepsRegs t [R.CFF_FPTR.base, R.CFF_STAT.base, R.CFF_AVAIL.base])) ∧
  (∀ (s : State) (h : HostId) (k : Fin 16) (data : Word), s.opens h R.CFF_SESS_CFG k 0 = true → s.bit F.CFF_SESS_CFG_EN k = false →
    (¬(getBits data 30 30 = 1 ∧ getBits data 29 29 = 1) → Does (.cffSessionEnable h k data) s fun t => t.bit F.CFF_SESS_CFG_EN k = true ∧
      t.get F.CFF_SESS_CFG_LIST k = getBits data 26 24 ∧ s.keepsRegs t [R.CFF_SESS_CFG.off k 0]) ∧
    (getBits data 30 30 = 1 → getBits data 29 29 = 1 → Does (.cffSessionEnable h k data) s fun t => t.bit F.CFF_SESS_CFG_EN k = false ∧
      t.bit F.CFF_EVT_CFG_ERR = true))

/-- R58, R383: the window of the service SRAM. A word written reads back byte by byte, least significant first (log entry 40), every other byte
keeps its value, the canonical form of the memory stays, and under BIST nothing is written. -/
def Obligations.ServiceSram : Prop :=
  ∀ (s : State) (h : HostId) (off : BitVec 24) (data : BitVec 64) (j a : Nat), s.opens h R.PDS_SRAM_WINDOW j 0 = true → s.compact = false →
    off.toNat = R.PDS_SRAM_WINDOW.base + 4 * j → j < 16384 → a = 65536 * s.get F.PDS_SRAM_PAGE_PAGE + 4 * j →
    (s.underTest 3 = false → Does (.registerWrite h (at0 off) .w32 data) s fun t =>
      (∀ k < 4, t.sramByte (a + k) = BitVec.ofNat 8 (getBits (data.setWidth 32) (8 * k + 7) (8 * k))) ∧
      (∀ b, b < a ∨ a + 4 ≤ b → t.sramByte b = s.sramByte b) ∧ s.keepsRegs t [] ∧
      (Memory.wf s = true → Memory.wf t = true)) ∧
    (s.underTest 3 = true → Does (.registerWrite h (at0 off) .w32 data) s fun t => t.sram = s.sram ∧ s.keepsRegs t [])

/-- R398, R399, R402, R412, R419, R420, R425, R428: the roles of the twins. Enabling, pairing, joining, promotion, failure of the peer, fencing and
the commands of the twin controller move the role as its table says, and record their cause. -/
def Obligations.TwinRoles : Prop :=
  (∀ s : State, s.bit F.TWN_CTRL_EN = true → s.role = roleOFF → (s.mode = modeSCHEDULED ∨ s.mode = modeSERVICE) →
    s.rst.due.testBit 5 = false → Does .twinEnable s fun t => t.role = rolePAIRING ∧ t.bit F.TWN_EVT_ROLE_CHG = true) ∧
  (∀ (s : State) (h : HostId) (data : Word), s.opens h R.TWN_CTRL 0 0 = true →
    (s.role = roleACTIVE → Does (.twinDisable h data) s fun t => t.role = roleACTIVE ∧ t.bit F.TWN_EVT_CFG_ERR = true ∧
      t.bit F.TWN_CTRL_EN = s.bit F.TWN_CTRL_EN ∧ s.keepsRegs t [R.TWN_CTRL.base, R.TWN_EVT.base]) ∧
    (s.role ∈ [rolePAIRING, roleSYNC, roleSOLO] → s.twn.held = [] → Does (.twinDisable h data) s fun t => t.role = roleOFF ∧
      t.bit F.TWN_CTRL_EN = false ∧ t.bit F.TWN_EVT_ROLE_CHG = true) ∧
    (s.role ∈ [roleSHADOW, roleSTANDBY] → Does (.twinDisable h data) s fun t => t.role = roleOFF ∧ t.bit F.TWN_CTRL_EN = false ∧
      t.rst.due.testBit 5 = true)) ∧
  (∀ s : State, s.role = rolePAIRING → s.twn.hbRecv = none → s.twn.roleFrom + s.pairWait ≤ s.inv.ticks → Does .pairTimeout s fun t =>
    t.role = roleSOLO ∧ t.get F.TWN_CAUSE_CAUSE = causeHB_TIMEOUT) ∧
  (∀ s : State, s.role = roleSYNC → s.twn.cut = none → s.twn.roleFrom + s.pairWait ≤ s.inv.ticks → Does .syncWaitTimeout s fun t =>
    t.role = rolePAIRING ∧ t.twn.roleFrom = s.inv.ticks) ∧
  (∀ (s : State) (lseq : Byte) (peer : Fin 8) (base : BeatTime) (key : BitVec 32) (a : Option Align),
    (s.role = rolePAIRING → key.toNat ≠ s.imgKey → Does (.heartbeatReceive lseq peer base key a) s fun t => t.role = roleSOLO ∧
      t.get F.TWN_CAUSE_CAUSE = causeIMAGE_MISMATCH ∧ t.twn.hbRecv = some s.inv.ticks) ∧
    (s.role = rolePAIRING → key.toNat = s.imgKey → peer.val = roleSOLO → Does (.heartbeatReceive lseq peer base key a) s fun t =>
      t.role = roleSYNC ∧ t.twn.cut = none) ∧
    (s.role = rolePAIRING → key.toNat = s.imgKey → peer.val = rolePAIRING → s.twn.ordered = false → s.get F.TWN_CTRL_SIDE = 0 →
      Does (.heartbeatReceive lseq peer base key a) s fun t => t.role = roleACTIVE ∧ t.twn.pairAt = some (s.now + 20000)) ∧
    (∀ x, s.role = rolePAIRING → key.toNat = s.imgKey → peer.val = rolePAIRING → s.twn.ordered = false → s.get F.TWN_CTRL_SIDE = 1 → a = some x →
      Does (.heartbeatReceive lseq peer base key a) s fun t => t.role = roleSTANDBY ∧ t.twn.pairAt = some (x.tp : Int) ∧ t.twn.lagging = true) ∧
    (s.role = roleSYNC → peer.val ≠ roleSOLO → Does (.heartbeatReceive lseq peer base key a) s fun t => t.role = rolePAIRING) ∧
    (s.role = roleSOLO → peer.val = roleSTANDBY → Does (.heartbeatReceive lseq peer base key a) s fun t => t.role = roleACTIVE ∧
      t.bit F.TWN_EVT_JOINED = true) ∧
    (s.role ∈ [roleACTIVE, roleSOLO] → peer.val ∈ [roleACTIVE, roleSOLO] → Does (.heartbeatReceive lseq peer base key a) s fun t =>
      t.get F.TWN_CAUSE_CAUSE = causeDUAL_ACTIVE ∧ t.bit F.TWN_EVT_DUAL = true ∧
      (s.get F.TWN_CTRL_SIDE = 0 → t.role = s.role) ∧ (s.get F.TWN_CTRL_SIDE = 1 → t.role = roleOFF ∧ t.rst.due.testBit 5 = true))) ∧
  (∀ (s : State) (a : Align) (c : Nat), s.role = roleSYNC → s.twn.cut = some c → Does (.syncCut a) s fun t => t.role = roleSHADOW ∧
    t.twn.lagging = true ∧ t.twn.okRun = 0) ∧
  (∀ (s : State) (lseq : Byte) (c : CutCmd),
    (c.op = 5 → s.role = roleSYNC → Does (.twinCmdSyncCut lseq c) s fun t => t.twn.cut = some c.cut.toNat ∧ t.role = roleSYNC) ∧
    (c.op ≠ 5 → tabGet 256 s.twn.lseqIn 6 ∈ [256, lseq.toNat] → Does (.twinCmdSyncCut lseq c) s fun t =>
      t.get F.TWN_CNT_COUNT 8 = min (s.get F.TWN_CNT_COUNT 8 + 1) (2 ^ 32 - 1) ∧ t.role = s.role ∧ t.twn.cut = s.twn.cut)) ∧
  (∀ s : State, s.role = roleSHADOW → s.twn.cutTime + s.lMax + 8000 ≤ s.now → 64 ≤ s.twn.okRun → Does .joinComplete s fun t =>
    t.role = roleSTANDBY ∧ t.bit F.TWN_EVT_JOINED = true) ∧
  (∀ (s : State) (t0 : Nat), s.twn.hbRecv = some t0 → t0 + 384 ≤ s.inv.ticks →
    (s.role = roleSTANDBY → Does .hbTimeout s fun t => t.role = roleSOLO ∧ t.get F.TWN_CAUSE_CAUSE = causeHB_TIMEOUT ∧
      t.bit F.TWN_EVT_PROMOTED = true ∧ t.bit F.TWN_EVT_PEER_LOST = true) ∧
    (s.role = roleACTIVE → Does .hbTimeout s fun t => t.role = roleSOLO ∧ t.get F.TWN_CAUSE_CAUSE = causeHB_TIMEOUT ∧
      t.bit F.TWN_EVT_PEER_LOST = true ∧ t.mode = s.mode)) ∧
  (∀ s : State, s.bit F.TWN_STAT_LINK = true → Does .dvorfazaLinkDown s fun t => t.bit F.TWN_STAT_LINK = false ∧
    (s.role ∈ [roleACTIVE, roleSTANDBY] → t.role = roleSOLO ∧ t.get F.TWN_CAUSE_CAUSE = causeLINK_DOWN)) ∧
  (∀ s : State, Does .dvorfazaLinkUp s fun t => t.bit F.TWN_STAT_LINK = true ∧ t.role = s.role ∧ s.keepsRegs t [R.TWN_STAT.base]) ∧
  (∀ (s : State) (lseq cause : Byte), (s.role = roleACTIVE → cause.toNat ≠ causeDIVERGED → Does (.failReceive lseq cause) s fun t =>
      t.role = roleSOLO ∧ t.get F.TWN_CAUSE_CAUSE = cause.toNat ∧ t.bit F.TWN_CAUSE_PEER = true) ∧
    (s.isActive = true → cause.toNat = causeDIVERGED → Does (.failReceive lseq cause) s fun t => t.role = roleSOLO ∧
      t.bit F.TWN_EVT_DIVERGED = true ∧ t.get F.TWN_CAUSE_CAUSE = causeDIVERGED)) ∧
  (∀ (s : State) (sent : List (Port × Nat)), s.bit F.TWN_CTRL_FENCE_EN = true → s.role ≠ roleOFF → Does (.twfIAssert sent) s fun t =>
    t.role = roleOFF ∧ t.inv.fenced = true ∧ t.rst.due.testBit 5 = true ∧ t.get F.TWN_CAUSE_CAUSE = causeFENCED) ∧
  (∀ (s : State) (t0 : Nat), s.twn.twfO = some t0 → t0 + 5000 ≤ s.inv.ticks → Does .twfORelease s fun t =>
    t = settled s ((s.setTwn { s.twn with twfO := none }).emit (.pin "TWF_O" false))) ∧
  (∀ (s : State) (h : HostId), s.opens h R.TWN_CMD 0 0 = true →
    (s.isActive = true → s.bit F.TWN_STAT_LINK = true → Does (.resetPeer h) s fun t =>
      t.twn.txq = s.twn.txq ++ [{ type := 6, h := 4 * 2 ^ 40, pl := [], arr := some s.tcc }] ∧ t.role = s.role) ∧
    (s.isActive = false → Does (.resetPeer h) s fun t => t.bit F.TWN_EVT_CFG_ERR = true ∧ s.keepsRegs t [R.TWN_EVT.base] ∧ s.onlyRegs t) ∧
    (s.role = roleACTIVE → Does (.swap h) s fun t => t.role = roleOFF ∧ t.get F.TWN_CAUSE_CAUSE = causeSWAP ∧ t.rst.due.testBit 5 = true) ∧
    (s.role ≠ roleACTIVE → Does (.swap h) s fun t => t.bit F.TWN_EVT_CFG_ERR = true ∧ s.keepsRegs t [R.TWN_EVT.base] ∧ s.onlyRegs t)) ∧
  (∀ (s : State) (h : HostId) (off : BitVec 24) (data : BitVec 64) (r : RegSpec) (i j : Nat), regAt off.toNat = some (r, i, j) →
    mirrored r = true → s.ignoresMirrored = true → s.linked h = true → s.gated off.toNat = false → s.compact = false →
    s.maskOk (hostNum h) off.toNat = true → off.toNat % 4 = 0 → Does (.registerWrite h (at0 off) .w32 data) s fun t =>
      t.bit F.TWN_EVT_WR_STANDBY = true ∧ t.get F.TWN_CNT_COUNT 13 = min (s.get F.TWN_CNT_COUNT 13 + 1) (2 ^ 32 - 1) ∧
      s.keepsRegs t [R.TWN_EVT.base, R.TWN_CNT.off 13 0] ∧ s.onlyRegs t)

/-- R402, R403, R404, R406 to R409, R411, R413, R417, R418, R425: what the twins send each other. Heartbeats, order tags, SEEN keys, forwarded
windows, digests, commands and state are taken as they come, a gap or a late record is a divergence, and what waits is released in its order. -/
def Obligations.TwinMessages : Prop :=
  (∀ s : State, s.role ∉ [roleOFF, roleBAD] → s.bit F.TWN_STAT_LINK = true → (∀ t0 ∈ s.twn.hbSent, t0 + 128 ≤ s.inv.ticks) →
    Does .heartbeatSend s fun t => t.twn.hbSent = some s.inv.ticks ∧ t.twn.txq = s.twn.txq ++
      [{ type := 1, h := s.role * 2 ^ 41 + s.mode * 2 ^ 38 + s.get F.TWN_STAT_HOLDING * 2 ^ 37,
         pl := [s.tcc * 2 ^ 16 + (s.dom 0).frac / 2 ^ 32, (s.dom 0).sec * 2 ^ 16, (s.dom 0).ns * 2 ^ 34 + s.imgKey] }]) ∧
  (∀ (s : State) (m : LinkMsg), s.bit F.TWN_STAT_LINK = true → s.twn.linkFree ≤ s.elapsedPs → s.twn.txq = [m] → s.twn.tagsOut = [] →
    m.type ≠ 7 → m.arr = none → s.twn.syncs = [] → Does .timeDomainTick s fun t => t.twn.txq = [] ∧
      tabGet 0 t.twn.lseqOut m.type = (tabGet 0 s.twn.lseqOut m.type + 1) % 256 ∧
      Out.dvorfaza m.type (linkWords m.type (tabGet 0 s.twn.lseqOut m.type) m.h m.pl) ∈ t.out) ∧
  (∀ s : State, Does .linkFrameError s fun t => t.bit F.TWN_EVT_LINK_ERR = true ∧
    t.get F.TWN_CNT_COUNT 8 = min (s.get F.TWN_CNT_COUNT 8 + 1) (2 ^ 32 - 1) ∧ s.keepsRegs t [R.TWN_EVT.base, R.TWN_CNT.off 8 0] ∧
    s.onlyRegs t) ∧
  (∀ (s : State) (lseq : Byte) (w : BitVec 64), s.isLogged = true → s.twn.cut = none →
    (tabGet 256 s.twn.lseqIn 2 ∈ [256, lseq.toNat] → s.tcc + 64 ≤ (s.readTag w.toNat).arr + 1875 → Does (.logReceive lseq [w]) s fun t =>
      t.twn.log = s.twn.log ++ [s.readTag w.toNat] ∧ t.role = s.role) ∧
    (tabGet 256 s.twn.lseqIn 2 ∈ [256, lseq.toNat] → (s.readTag w.toNat).arr + 1875 < s.tcc + 64 → Does (.logReceive lseq [w]) s fun t =>
      t.role = roleBAD ∧ t.get F.TWN_CAUSE_CAUSE = causeLATE_RECORD ∧ t.rst.due.testBit 10 = true) ∧
    (tabGet 256 s.twn.lseqIn 2 ∉ [256, lseq.toNat] → Does (.logReceive lseq [w]) s fun t =>
      t.role = roleBAD ∧ t.get F.TWN_CAUSE_CAUSE = causeLOG_LOST ∧ t.rst.due.testBit 10 = true)) ∧
  (∀ (s : State) (g : OrderTag) (l : List OrderTag), s.isLogged = true → s.twn.log = g :: l → g.arr + 1875 ≤ s.tcc → s.twn.hostRel = [] →
    (∀ (x : Held) (f : Frame), s.twn.held.find? (s.tagMatches g) = some x → x.at_ + 64 ≤ g.arr + 1875 → s.frame x.fid = some f →
      f.hostType ≠ 4 → f.hostType ≠ 5 → Does .tagRelease s fun t => t.twn.log = l ∧ (∀ y ∈ t.twn.held, y.fid ≠ x.fid) ∧ t.role = s.role) ∧
    (s.twn.held.find? (s.tagMatches g) = none → Does .tagRelease s fun t => t.role = roleBAD ∧ t.get F.TWN_CAUSE_CAUSE = causeLATE_RECORD)) ∧
  (∀ (s : State) (x : Held), s.isLogged = true →
    s.twn.held.find? (fun x => x.att.isSome && decide (x.at_ + 10000 ≤ s.tcc) && !s.tagged x) = some x →
    Does .unmatchedDiscard s fun t => t.twn.held = s.twn.held.filter (fun y => y.fid != x.fid)) ∧
  (∀ (s : State) (lseq : Byte) (k : BitVec 32), s.isActive = true →
    (∀ x, s.twn.seenWait.find? (fun x => x.att == k.toNat / 2 ^ 28 && x.kh == k.toNat / 2 ^ 16 % 4096 && x.id == k.toNat % 2 ^ 16) = some x →
      Does (.seenReceive lseq [k]) s fun t => t.get F.TWN_CNT_COUNT 4 = min (s.get F.TWN_CNT_COUNT 4 + 1) (2 ^ 32 - 1) ∧
        t.twn.seenWait = s.twn.seenWait.erase x) ∧
    ((s.twn.seenWait.any fun x => x.att == k.toNat / 2 ^ 28 && x.kh == k.toNat / 2 ^ 16 % 4096 && x.id == k.toNat % 2 ^ 16) = false →
      Does (.seenReceive lseq [k]) s fun t => t.twn.seenWait = s.twn.seenWait ∧
        (k.toNat / 2 ^ 28, k.toNat / 2 ^ 16 % 4096, k.toNat % 2 ^ 16, s.inv.ticks) ∈ t.twn.seen)) ∧
  (∀ (s : State) (x : SeenWait), s.isActive = true →
    s.twn.seenWait.find? (fun x => decide (2 * x.at_ + s.get F.TWN_CFG_SEEN_WAIT ≤ 2 * s.inv.ticks)) = some x → Does .seenWaitExpire s fun t =>
      t.twn.seenWait = s.twn.seenWait.erase x ∧
      (s.bit F.TWN_STAT_LINK = true → t.twn.txq = s.twn.txq ++ [{ type := 4, h := s.twn.fidNext * 2 ^ 28 + 2 ^ 27, pl := x.win }])) ∧
  (∀ (s : State) (lseq : Byte) (fid : BitVec 16) (ws : List (BitVec 64)), (s.isActive = true ∨ s.isLogged = true) → s.twn.hostRel = [] →
    (Does (.fwdReceive lseq fid true false ws) s fun t => tabFind? fid.toNat t.twn.fwdIn = some s.nextFid) ∧
    (∀ k, tabFind? fid.toNat s.twn.fwdIn = some k → Does (.fwdReceive lseq fid false true ws) s fun t =>
      tabFind? fid.toNat t.twn.fwdIn = none)) ∧
  (∀ (s : State) (n : Nat) (d : Digest), s.digests = true → s.twn.digNum = some n → s.digInterval ≠ n → s.twn.peer.find? (fun p => p.num == n) = none →
    let items := s.twn.items.map fun x => x.item
    let isIn := fun (i : DigItem) => match i with | .input .. => true | _ => false
    d = { num := n, crc := (crc64 (items.flatMap digItemBytes)).toNat, inputs := (items.filter isIn).length,
          frames := (items.filter fun i => !isIn i).length } →
    Does .digestIntervalEnd s fun t => t.twn.digNum = some s.digInterval ∧ t.twn.items = [] ∧ d ∈ t.twn.own ∧
      t.get F.TWN_DIG_LO_DIG = d.crc % 2 ^ 32 ∧ t.get F.TWN_DIG_HI_DIG = d.crc / 2 ^ 32 ∧ t.get F.TWN_DIG_INT_INT = n % 2 ^ 32 ∧
      (s.bit F.TWN_STAT_LINK = true → t.twn.txq = s.twn.txq ++ [{ type := 5, h := n * 2 ^ 12, pl := [d.crc, d.inputs * 2 ^ 32 + d.frames] }])) ∧
  (∀ (s : State) (lseq : Byte) (num : BitVec 32) (crc : BitVec 64) (inputs frames : BitVec 32) (d : Digest),
    s.twn.own.find? (fun d => d.num == num.toNat) = some d →
    ((s.isLogged = true ∨ s.isActive = true) → d = { num := num.toNat, crc := crc.toNat, inputs := inputs.toNat, frames := frames.toNat } →
      Does (.digestReceive lseq num crc inputs frames) s fun t => t.role = s.role ∧ t.twn.okRun = s.twn.okRun + 1 ∧
        t.get F.TWN_CNT_COUNT 10 = min (s.get F.TWN_CNT_COUNT 10 + 1) (2 ^ 32 - 1)) ∧
    (s.isLogged = true → d.crc ≠ crc.toNat → Does (.digestReceive lseq num crc inputs frames) s fun t => t.role = roleBAD ∧
      t.get F.TWN_CAUSE_CAUSE = causeDIVERGED ∧ t.rst.due.testBit 10 = true) ∧
    (s.role = roleACTIVE → d.crc ≠ crc.toNat → Does (.digestReceive lseq num crc inputs frames) s fun t => t.role = roleSOLO ∧
      t.get F.TWN_CAUSE_CAUSE = causeDIVERGED)) ∧
  (∀ (s : State) (lseq : Byte) (ofs : BitVec 10) (off : BitVec 24) (data : Word) (be : BitVec 4) (h : HostId) (target : Fin 8) (epoch : BitVec 16)
      (k : BitVec 13) (tsec : BitVec 32) (tns : BitVec 30) (crc : BitVec 64) (c : Instr) (x : TwinCmd), s.isLogged = true →
    tabGet 256 s.twn.lseqIn 6 ∈ [256, lseq.toNat] →
    (c, x) ∈ [(Instr.twinCmdWrite lseq ofs off data be h, TwinCmd.write off.toNat data be.toNat (hostNum h)),
      (.twinCmdMode lseq ofs target, .mode target), (.twinCmdCommit lseq ofs epoch k tsec tns crc,
      .commit epoch.toNat k.toNat tsec.toNat tns.toNat crc.toNat)] →
    Does c s fun t => t.twn.cmds = s.twn.cmds ++ [((s.twn.baseIn + ofs.toNat) % 2 ^ 48, x)] ∧ t.regs = (settled s s).regs) ∧
  (∀ (s : State) (arr : Nat) (l : List (Nat × TwinCmd)) (x : TwinCmd), s.twn.cmds = (arr, x) :: l →
    (((s.tcc : Int) - arr) % 2 ^ 48 < 1875 → Does .mirroredWriteApply s fun t => t = settled s s) ∧
    (1875 ≤ ((s.tcc : Int) - arr) % 2 ^ 48 → ((s.tcc : Int) - arr) % 2 ^ 48 < 2 ^ 47 →
      (∀ off data be h r i j, x = .write off data be h → regAt off = some (r, i, j) → 0x200000 ≤ r.base → r.base < 0x300000 →
        r.has .sc = false → r.has .rwe = false → r.hostPrivate = false → Does .mirroredWriteApply s fun t => t.twn.cmds = l ∧
          t.reg r i j = (s.reg r i j &&& ~~~ accMask r (fun a => a == .rw)) ||| (clampWord r data &&& accMask r (fun a => a == .rw)) ∧
          s.keepsRegs t [r.off i j]) ∧
      (∀ target, x = .mode target → forwarding s.mode = true → target ∈ [modeBRIDGE, modeSCHEDULED, modeADAPTIVE] →
        Does .mirroredWriteApply s fun t => t.twn.cmds = l ∧ t.get F.GLB_MODE_TARGET = target ∧ t.bit F.GLB_MODE_TRANSIT = true))) ∧
  (∀ (s : State) (lseq cause : Byte), s.isLogged = true → tabGet 256 s.twn.lseqIn 6 ∈ [256, lseq.toNat] →
    Does (.twinCmdReset lseq cause) s fun t => t.role = roleBAD ∧ t.get F.TWN_CAUSE_CAUSE = cause.toNat ∧ t.bit F.TWN_CAUSE_PEER = true ∧
      t.rst.due.testBit 5 = true) ∧
  (∀ (s : State) (lseq : Byte) (m : SyncMsg), s.role = roleSHADOW → tabGet 256 s.twn.lseqIn 7 ∈ [256, lseq.toNat] →
    Does (.syncStateCopy lseq m) s fun t => t.twn.syncs = s.twn.syncs ++ [(m.cycle.toNat, m.items)] ∧ t.pol = s.pol ∧ t.regs = (settled s s).regs) ∧
  (∀ (s : State) (c k : Nat) (v : Meter), s.twn.syncs = [(c, [.meter k v])] → s.inv.act = none → 1875 ≤ (s.tcc + 2 ^ 48 - c) % 2 ^ 48 →
    (s.tcc + 2 ^ 48 - c) % 2 ^ 48 < 2 ^ 46 → Does .timeDomainTick s fun t =>
      t.twn.syncs = [] ∧ t.meter k = v ∧ ∀ m, m ≠ k → t.meter m = s.meter m)

end ObligationText
end

