-- ==== Sys2Proof/Laws/Bits.lean ====
section
/-! SUPPORT. The laws of the bit fields of a register word. -/

namespace Sys2Proof.Machine

theorem bitMask_testBit (hi lo i : Nat) (h : hi < 32) : (bitMask hi lo).getLsbD i = decide (lo ≤ i ∧ i ≤ hi) := by
  simp only [bitMask, BitVec.getLsbD_ofNat, Nat.testBit_shiftLeft]
  by_cases hl : lo ≤ i
  · by_cases hh : i ≤ hi
    · have : i - lo < hi + 1 - lo := by omega
      simp [hl, hh, Nat.testBit_two_pow_sub_one, this]; omega
    · have : ¬ (i - lo < hi + 1 - lo) := by omega
      simp [hl, hh, Nat.testBit_two_pow_sub_one, this]
  · simp [hl]

theorem getBits_testBit (w : Word) (hi lo i : Nat) :
    (getBits w hi lo).testBit i = (decide (i < hi + 1 - lo) && w.getLsbD (lo + i)) := by
  simp [getBits, Nat.testBit_mod_two_pow, Nat.testBit_shiftRight, BitVec.testBit_toNat]

theorem setBits_getLsbD (w : Word) (hi lo v i : Nat) (h : hi < 32) :
    (setBits w hi lo v).getLsbD i = if lo ≤ i ∧ i ≤ hi then v.testBit (i - lo) else w.getLsbD i := by
  by_cases hi32 : i < 32
  · simp only [setBits, BitVec.getLsbD_or, BitVec.getLsbD_and, BitVec.getLsbD_not, bitMask_testBit _ _ _ h,
      BitVec.getLsbD_ofNat, Nat.testBit_shiftLeft, Nat.testBit_mod_two_pow]
    by_cases hl : lo ≤ i
    · by_cases hh : i ≤ hi
      · have : i - lo < hi + 1 - lo := by omega
        simp [hl, hh, hi32, this]
      · have : ¬ (i - lo < hi + 1 - lo) := by omega
        simp [hl, hh, hi32, this]
    · simp [hl, hi32]
  · have h1 : ¬ (i ≤ hi) := by omega
    have h2 : ∀ x : Word, x.getLsbD i = false := fun x => BitVec.getLsbD_of_ge x i (by omega)
    simp [h1, h2]

/-- A field reads what was set in it, modulo its width. -/
theorem getBits_setBits_same (w : Word) (hi lo v : Nat) (h : hi < 32) : getBits (setBits w hi lo v) hi lo = v % 2 ^ (hi + 1 - lo) := by
  apply Nat.eq_of_testBit_eq
  intro i
  rw [getBits_testBit, setBits_getLsbD _ _ _ _ _ h, Nat.testBit_mod_two_pow]
  by_cases hw : i < hi + 1 - lo
  · have h1 : lo ≤ lo + i ∧ lo + i ≤ hi := by omega
    simp [hw, h1]
  · simp [hw]

/-- A field is left alone by a set of another field that does not overlap it. -/
theorem getBits_setBits_other (w : Word) (hi lo hi' lo' v : Nat) (h : hi < 32) (hd : hi < lo' ∨ hi' < lo) :
    getBits (setBits w hi lo v) hi' lo' = getBits w hi' lo' := by
  apply Nat.eq_of_testBit_eq
  intro i
  rw [getBits_testBit, getBits_testBit, setBits_getLsbD _ _ _ _ _ h]
  by_cases hw : i < hi' + 1 - lo'
  · have h1 : ¬ (lo ≤ lo' + i ∧ lo' + i ≤ hi) := by omega
    simp [hw, h1]
  · simp [hw]

theorem getBits_lt (w : Word) (hi lo : Nat) : getBits w hi lo < 2 ^ (hi + 1 - lo) := Nat.mod_lt _ (Nat.two_pow_pos _)

end Sys2Proof.Machine
end

