-- ==== Sys2Proof/Laws/State.lean ====
section
/-! SUPPORT. What each update of the state leaves alone: one lemma for each update and each field it does not touch. -/

namespace Sys2Proof.Machine

variable (s : State)

@[simp] theorem State.setReg_snaps (r : RegSpec) (v : Word) (i j : Nat) : (s.setReg r v i j).snaps = s.snaps := rfl
@[simp] theorem State.setReg_rsvd (r : RegSpec) (v : Word) (i j : Nat) : (s.setReg r v i j).rsvd = s.rsvd := rfl
@[simp] theorem State.setReg_inv (r : RegSpec) (v : Word) (i j : Nat) : (s.setReg r v i j).inv = s.inv := rfl
@[simp] theorem State.setReg_ports (r : RegSpec) (v : Word) (i j : Nat) : (s.setReg r v i j).ports = s.ports := rfl
@[simp] theorem State.setReg_egs (r : RegSpec) (v : Word) (i j : Nat) : (s.setReg r v i j).egs = s.egs := rfl
@[simp] theorem State.setReg_pol (r : RegSpec) (v : Word) (i j : Nat) : (s.setReg r v i j).pol = s.pol := rfl
@[simp] theorem State.setReg_swc (r : RegSpec) (v : Word) (i j : Nat) : (s.setReg r v i j).swc = s.swc := rfl
@[simp] theorem State.setReg_tin (r : RegSpec) (v : Word) (i j : Nat) : (s.setReg r v i j).tin = s.tin := rfl
@[simp] theorem State.setReg_lkp (r : RegSpec) (v : Word) (i j : Nat) : (s.setReg r v i j).lkp = s.lkp := rfl
@[simp] theorem State.setReg_twn (r : RegSpec) (v : Word) (i j : Nat) : (s.setReg r v i j).twn = s.twn := rfl
@[simp] theorem State.setReg_rst (r : RegSpec) (v : Word) (i j : Nat) : (s.setReg r v i j).rst = s.rst := rfl
@[simp] theorem State.setReg_md (r : RegSpec) (v : Word) (i j : Nat) : (s.setReg r v i j).md = s.md := rfl
@[simp] theorem State.setReg_adp (r : RegSpec) (v : Word) (i j : Nat) : (s.setReg r v i j).adp = s.adp := rfl
@[simp] theorem State.setReg_img (r : RegSpec) (v : Word) (i j : Nat) : (s.setReg r v i j).img = s.img := rfl
@[simp] theorem State.setReg_pds (r : RegSpec) (v : Word) (i j : Nat) : (s.setReg r v i j).pds = s.pds := rfl
@[simp] theorem State.setReg_dma (r : RegSpec) (v : Word) (i j : Nat) : (s.setReg r v i j).dma = s.dma := rfl
@[simp] theorem State.setReg_cff (r : RegSpec) (v : Word) (i j : Nat) : (s.setReg r v i j).cff = s.cff := rfl
@[simp] theorem State.setReg_pmc (r : RegSpec) (v : Word) (i j : Nat) : (s.setReg r v i j).pmc = s.pmc := rfl
@[simp] theorem State.setReg_ha (r : RegSpec) (v : Word) (i j : Nat) : (s.setReg r v i j).ha = s.ha := rfl
@[simp] theorem State.setReg_hb (r : RegSpec) (v : Word) (i j : Nat) : (s.setReg r v i j).hb = s.hb := rfl
@[simp] theorem State.setReg_mgt (r : RegSpec) (v : Word) (i j : Nat) : (s.setReg r v i j).mgt = s.mgt := rfl
@[simp] theorem State.setReg_tap (r : RegSpec) (v : Word) (i j : Nat) : (s.setReg r v i j).tap = s.tap := rfl
@[simp] theorem State.setReg_pools (r : RegSpec) (v : Word) (i j : Nat) : (s.setReg r v i j).pools = s.pools := rfl
@[simp] theorem State.setReg_sram (r : RegSpec) (v : Word) (i j : Nat) : (s.setReg r v i j).sram = s.sram := rfl
@[simp] theorem State.setReg_sramLost (r : RegSpec) (v : Word) (i j : Nat) : (s.setReg r v i j).sramLost = s.sramLost := rfl
@[simp] theorem State.setReg_frames (r : RegSpec) (v : Word) (i j : Nat) : (s.setReg r v i j).frames = s.frames := rfl
@[simp] theorem State.setReg_nextFid (r : RegSpec) (v : Word) (i j : Nat) : (s.setReg r v i j).nextFid = s.nextFid := rfl
@[simp] theorem State.setReg_events (r : RegSpec) (v : Word) (i j : Nat) : (s.setReg r v i j).events = s.events := rfl
@[simp] theorem State.setReg_freeCtr (r : RegSpec) (v : Word) (i j : Nat) : (s.setReg r v i j).freeCtr = s.freeCtr := rfl
@[simp] theorem State.setReg_out (r : RegSpec) (v : Word) (i j : Nat) : (s.setReg r v i j).out = s.out := rfl
@[simp] theorem State.setReg_pending (r : RegSpec) (v : Word) (i j : Nat) : (s.setReg r v i j).pending = s.pending := rfl

@[simp] theorem State.put_snaps (f : Fld) (v i j : Nat) : (s.put f v i j).snaps = s.snaps := rfl
@[simp] theorem State.put_rsvd (f : Fld) (v i j : Nat) : (s.put f v i j).rsvd = s.rsvd := rfl
@[simp] theorem State.put_inv (f : Fld) (v i j : Nat) : (s.put f v i j).inv = s.inv := rfl
@[simp] theorem State.put_ports (f : Fld) (v i j : Nat) : (s.put f v i j).ports = s.ports := rfl
@[simp] theorem State.put_egs (f : Fld) (v i j : Nat) : (s.put f v i j).egs = s.egs := rfl
@[simp] theorem State.put_pol (f : Fld) (v i j : Nat) : (s.put f v i j).pol = s.pol := rfl
@[simp] theorem State.put_swc (f : Fld) (v i j : Nat) : (s.put f v i j).swc = s.swc := rfl
@[simp] theorem State.put_tin (f : Fld) (v i j : Nat) : (s.put f v i j).tin = s.tin := rfl
@[simp] theorem State.put_lkp (f : Fld) (v i j : Nat) : (s.put f v i j).lkp = s.lkp := rfl
@[simp] theorem State.put_twn (f : Fld) (v i j : Nat) : (s.put f v i j).twn = s.twn := rfl
@[simp] theorem State.put_rst (f : Fld) (v i j : Nat) : (s.put f v i j).rst = s.rst := rfl
@[simp] theorem State.put_md (f : Fld) (v i j : Nat) : (s.put f v i j).md = s.md := rfl
@[simp] theorem State.put_adp (f : Fld) (v i j : Nat) : (s.put f v i j).adp = s.adp := rfl
@[simp] theorem State.put_img (f : Fld) (v i j : Nat) : (s.put f v i j).img = s.img := rfl
@[simp] theorem State.put_pds (f : Fld) (v i j : Nat) : (s.put f v i j).pds = s.pds := rfl
@[simp] theorem State.put_dma (f : Fld) (v i j : Nat) : (s.put f v i j).dma = s.dma := rfl
@[simp] theorem State.put_cff (f : Fld) (v i j : Nat) : (s.put f v i j).cff = s.cff := rfl
@[simp] theorem State.put_pmc (f : Fld) (v i j : Nat) : (s.put f v i j).pmc = s.pmc := rfl
@[simp] theorem State.put_ha (f : Fld) (v i j : Nat) : (s.put f v i j).ha = s.ha := rfl
@[simp] theorem State.put_hb (f : Fld) (v i j : Nat) : (s.put f v i j).hb = s.hb := rfl
@[simp] theorem State.put_mgt (f : Fld) (v i j : Nat) : (s.put f v i j).mgt = s.mgt := rfl
@[simp] theorem State.put_tap (f : Fld) (v i j : Nat) : (s.put f v i j).tap = s.tap := rfl
@[simp] theorem State.put_pools (f : Fld) (v i j : Nat) : (s.put f v i j).pools = s.pools := rfl
@[simp] theorem State.put_sram (f : Fld) (v i j : Nat) : (s.put f v i j).sram = s.sram := rfl
@[simp] theorem State.put_sramLost (f : Fld) (v i j : Nat) : (s.put f v i j).sramLost = s.sramLost := rfl
@[simp] theorem State.put_frames (f : Fld) (v i j : Nat) : (s.put f v i j).frames = s.frames := rfl
@[simp] theorem State.put_nextFid (f : Fld) (v i j : Nat) : (s.put f v i j).nextFid = s.nextFid := rfl
@[simp] theorem State.put_events (f : Fld) (v i j : Nat) : (s.put f v i j).events = s.events := rfl
@[simp] theorem State.put_freeCtr (f : Fld) (v i j : Nat) : (s.put f v i j).freeCtr = s.freeCtr := rfl
@[simp] theorem State.put_out (f : Fld) (v i j : Nat) : (s.put f v i j).out = s.out := rfl
@[simp] theorem State.put_pending (f : Fld) (v i j : Nat) : (s.put f v i j).pending = s.pending := rfl

@[simp] theorem State.putBit_snaps (f : Fld) (k : Nat) (b : Bool) (i j : Nat) : (s.putBit f k b i j).snaps = s.snaps := rfl
@[simp] theorem State.putBit_rsvd (f : Fld) (k : Nat) (b : Bool) (i j : Nat) : (s.putBit f k b i j).rsvd = s.rsvd := rfl
@[simp] theorem State.putBit_inv (f : Fld) (k : Nat) (b : Bool) (i j : Nat) : (s.putBit f k b i j).inv = s.inv := rfl
@[simp] theorem State.putBit_ports (f : Fld) (k : Nat) (b : Bool) (i j : Nat) : (s.putBit f k b i j).ports = s.ports := rfl
@[simp] theorem State.putBit_egs (f : Fld) (k : Nat) (b : Bool) (i j : Nat) : (s.putBit f k b i j).egs = s.egs := rfl
@[simp] theorem State.putBit_pol (f : Fld) (k : Nat) (b : Bool) (i j : Nat) : (s.putBit f k b i j).pol = s.pol := rfl
@[simp] theorem State.putBit_swc (f : Fld) (k : Nat) (b : Bool) (i j : Nat) : (s.putBit f k b i j).swc = s.swc := rfl
@[simp] theorem State.putBit_tin (f : Fld) (k : Nat) (b : Bool) (i j : Nat) : (s.putBit f k b i j).tin = s.tin := rfl
@[simp] theorem State.putBit_lkp (f : Fld) (k : Nat) (b : Bool) (i j : Nat) : (s.putBit f k b i j).lkp = s.lkp := rfl
@[simp] theorem State.putBit_twn (f : Fld) (k : Nat) (b : Bool) (i j : Nat) : (s.putBit f k b i j).twn = s.twn := rfl
@[simp] theorem State.putBit_rst (f : Fld) (k : Nat) (b : Bool) (i j : Nat) : (s.putBit f k b i j).rst = s.rst := rfl
@[simp] theorem State.putBit_md (f : Fld) (k : Nat) (b : Bool) (i j : Nat) : (s.putBit f k b i j).md = s.md := rfl
@[simp] theorem State.putBit_adp (f : Fld) (k : Nat) (b : Bool) (i j : Nat) : (s.putBit f k b i j).adp = s.adp := rfl
@[simp] theorem State.putBit_img (f : Fld) (k : Nat) (b : Bool) (i j : Nat) : (s.putBit f k b i j).img = s.img := rfl
@[simp] theorem State.putBit_pds (f : Fld) (k : Nat) (b : Bool) (i j : Nat) : (s.putBit f k b i j).pds = s.pds := rfl
@[simp] theorem State.putBit_dma (f : Fld) (k : Nat) (b : Bool) (i j : Nat) : (s.putBit f k b i j).dma = s.dma := rfl
@[simp] theorem State.putBit_cff (f : Fld) (k : Nat) (b : Bool) (i j : Nat) : (s.putBit f k b i j).cff = s.cff := rfl
@[simp] theorem State.putBit_pmc (f : Fld) (k : Nat) (b : Bool) (i j : Nat) : (s.putBit f k b i j).pmc = s.pmc := rfl
@[simp] theorem State.putBit_ha (f : Fld) (k : Nat) (b : Bool) (i j : Nat) : (s.putBit f k b i j).ha = s.ha := rfl
@[simp] theorem State.putBit_hb (f : Fld) (k : Nat) (b : Bool) (i j : Nat) : (s.putBit f k b i j).hb = s.hb := rfl
@[simp] theorem State.putBit_mgt (f : Fld) (k : Nat) (b : Bool) (i j : Nat) : (s.putBit f k b i j).mgt = s.mgt := rfl
@[simp] theorem State.putBit_tap (f : Fld) (k : Nat) (b : Bool) (i j : Nat) : (s.putBit f k b i j).tap = s.tap := rfl
@[simp] theorem State.putBit_pools (f : Fld) (k : Nat) (b : Bool) (i j : Nat) : (s.putBit f k b i j).pools = s.pools := rfl
@[simp] theorem State.putBit_sram (f : Fld) (k : Nat) (b : Bool) (i j : Nat) : (s.putBit f k b i j).sram = s.sram := rfl
@[simp] theorem State.putBit_sramLost (f : Fld) (k : Nat) (b : Bool) (i j : Nat) : (s.putBit f k b i j).sramLost = s.sramLost := rfl
@[simp] theorem State.putBit_frames (f : Fld) (k : Nat) (b : Bool) (i j : Nat) : (s.putBit f k b i j).frames = s.frames := rfl
@[simp] theorem State.putBit_nextFid (f : Fld) (k : Nat) (b : Bool) (i j : Nat) : (s.putBit f k b i j).nextFid = s.nextFid := rfl
@[simp] theorem State.putBit_events (f : Fld) (k : Nat) (b : Bool) (i j : Nat) : (s.putBit f k b i j).events = s.events := rfl
@[simp] theorem State.putBit_freeCtr (f : Fld) (k : Nat) (b : Bool) (i j : Nat) : (s.putBit f k b i j).freeCtr = s.freeCtr := rfl
@[simp] theorem State.putBit_out (f : Fld) (k : Nat) (b : Bool) (i j : Nat) : (s.putBit f k b i j).out = s.out := rfl
@[simp] theorem State.putBit_pending (f : Fld) (k : Nat) (b : Bool) (i j : Nat) : (s.putBit f k b i j).pending = s.pending := rfl

@[simp] theorem State.inc_snaps (f : Fld) (i j n : Nat) : (s.inc f i j n).snaps = s.snaps := rfl
@[simp] theorem State.inc_rsvd (f : Fld) (i j n : Nat) : (s.inc f i j n).rsvd = s.rsvd := rfl
@[simp] theorem State.inc_inv (f : Fld) (i j n : Nat) : (s.inc f i j n).inv = s.inv := rfl
@[simp] theorem State.inc_ports (f : Fld) (i j n : Nat) : (s.inc f i j n).ports = s.ports := rfl
@[simp] theorem State.inc_egs (f : Fld) (i j n : Nat) : (s.inc f i j n).egs = s.egs := rfl
@[simp] theorem State.inc_pol (f : Fld) (i j n : Nat) : (s.inc f i j n).pol = s.pol := rfl
@[simp] theorem State.inc_swc (f : Fld) (i j n : Nat) : (s.inc f i j n).swc = s.swc := rfl
@[simp] theorem State.inc_tin (f : Fld) (i j n : Nat) : (s.inc f i j n).tin = s.tin := rfl
@[simp] theorem State.inc_lkp (f : Fld) (i j n : Nat) : (s.inc f i j n).lkp = s.lkp := rfl
@[simp] theorem State.inc_twn (f : Fld) (i j n : Nat) : (s.inc f i j n).twn = s.twn := rfl
@[simp] theorem State.inc_rst (f : Fld) (i j n : Nat) : (s.inc f i j n).rst = s.rst := rfl
@[simp] theorem State.inc_md (f : Fld) (i j n : Nat) : (s.inc f i j n).md = s.md := rfl
@[simp] theorem State.inc_adp (f : Fld) (i j n : Nat) : (s.inc f i j n).adp = s.adp := rfl
@[simp] theorem State.inc_img (f : Fld) (i j n : Nat) : (s.inc f i j n).img = s.img := rfl
@[simp] theorem State.inc_pds (f : Fld) (i j n : Nat) : (s.inc f i j n).pds = s.pds := rfl
@[simp] theorem State.inc_dma (f : Fld) (i j n : Nat) : (s.inc f i j n).dma = s.dma := rfl
@[simp] theorem State.inc_cff (f : Fld) (i j n : Nat) : (s.inc f i j n).cff = s.cff := rfl
@[simp] theorem State.inc_pmc (f : Fld) (i j n : Nat) : (s.inc f i j n).pmc = s.pmc := rfl
@[simp] theorem State.inc_ha (f : Fld) (i j n : Nat) : (s.inc f i j n).ha = s.ha := rfl
@[simp] theorem State.inc_hb (f : Fld) (i j n : Nat) : (s.inc f i j n).hb = s.hb := rfl
@[simp] theorem State.inc_mgt (f : Fld) (i j n : Nat) : (s.inc f i j n).mgt = s.mgt := rfl
@[simp] theorem State.inc_tap (f : Fld) (i j n : Nat) : (s.inc f i j n).tap = s.tap := rfl
@[simp] theorem State.inc_pools (f : Fld) (i j n : Nat) : (s.inc f i j n).pools = s.pools := rfl
@[simp] theorem State.inc_sram (f : Fld) (i j n : Nat) : (s.inc f i j n).sram = s.sram := rfl
@[simp] theorem State.inc_sramLost (f : Fld) (i j n : Nat) : (s.inc f i j n).sramLost = s.sramLost := rfl
@[simp] theorem State.inc_frames (f : Fld) (i j n : Nat) : (s.inc f i j n).frames = s.frames := rfl
@[simp] theorem State.inc_nextFid (f : Fld) (i j n : Nat) : (s.inc f i j n).nextFid = s.nextFid := rfl
@[simp] theorem State.inc_events (f : Fld) (i j n : Nat) : (s.inc f i j n).events = s.events := rfl
@[simp] theorem State.inc_freeCtr (f : Fld) (i j n : Nat) : (s.inc f i j n).freeCtr = s.freeCtr := rfl
@[simp] theorem State.inc_out (f : Fld) (i j n : Nat) : (s.inc f i j n).out = s.out := rfl
@[simp] theorem State.inc_pending (f : Fld) (i j n : Nat) : (s.inc f i j n).pending = s.pending := rfl

@[simp] theorem State.incWrap_snaps (f : Fld) (i j n : Nat) : (s.incWrap f i j n).snaps = s.snaps := rfl
@[simp] theorem State.incWrap_rsvd (f : Fld) (i j n : Nat) : (s.incWrap f i j n).rsvd = s.rsvd := rfl
@[simp] theorem State.incWrap_inv (f : Fld) (i j n : Nat) : (s.incWrap f i j n).inv = s.inv := rfl
@[simp] theorem State.incWrap_ports (f : Fld) (i j n : Nat) : (s.incWrap f i j n).ports = s.ports := rfl
@[simp] theorem State.incWrap_egs (f : Fld) (i j n : Nat) : (s.incWrap f i j n).egs = s.egs := rfl
@[simp] theorem State.incWrap_pol (f : Fld) (i j n : Nat) : (s.incWrap f i j n).pol = s.pol := rfl
@[simp] theorem State.incWrap_swc (f : Fld) (i j n : Nat) : (s.incWrap f i j n).swc = s.swc := rfl
@[simp] theorem State.incWrap_tin (f : Fld) (i j n : Nat) : (s.incWrap f i j n).tin = s.tin := rfl
@[simp] theorem State.incWrap_lkp (f : Fld) (i j n : Nat) : (s.incWrap f i j n).lkp = s.lkp := rfl
@[simp] theorem State.incWrap_twn (f : Fld) (i j n : Nat) : (s.incWrap f i j n).twn = s.twn := rfl
@[simp] theorem State.incWrap_rst (f : Fld) (i j n : Nat) : (s.incWrap f i j n).rst = s.rst := rfl
@[simp] theorem State.incWrap_md (f : Fld) (i j n : Nat) : (s.incWrap f i j n).md = s.md := rfl
@[simp] theorem State.incWrap_adp (f : Fld) (i j n : Nat) : (s.incWrap f i j n).adp = s.adp := rfl
@[simp] theorem State.incWrap_img (f : Fld) (i j n : Nat) : (s.incWrap f i j n).img = s.img := rfl
@[simp] theorem State.incWrap_pds (f : Fld) (i j n : Nat) : (s.incWrap f i j n).pds = s.pds := rfl
@[simp] theorem State.incWrap_dma (f : Fld) (i j n : Nat) : (s.incWrap f i j n).dma = s.dma := rfl
@[simp] theorem State.incWrap_cff (f : Fld) (i j n : Nat) : (s.incWrap f i j n).cff = s.cff := rfl
@[simp] theorem State.incWrap_pmc (f : Fld) (i j n : Nat) : (s.incWrap f i j n).pmc = s.pmc := rfl
@[simp] theorem State.incWrap_ha (f : Fld) (i j n : Nat) : (s.incWrap f i j n).ha = s.ha := rfl
@[simp] theorem State.incWrap_hb (f : Fld) (i j n : Nat) : (s.incWrap f i j n).hb = s.hb := rfl
@[simp] theorem State.incWrap_mgt (f : Fld) (i j n : Nat) : (s.incWrap f i j n).mgt = s.mgt := rfl
@[simp] theorem State.incWrap_tap (f : Fld) (i j n : Nat) : (s.incWrap f i j n).tap = s.tap := rfl
@[simp] theorem State.incWrap_pools (f : Fld) (i j n : Nat) : (s.incWrap f i j n).pools = s.pools := rfl
@[simp] theorem State.incWrap_sram (f : Fld) (i j n : Nat) : (s.incWrap f i j n).sram = s.sram := rfl
@[simp] theorem State.incWrap_sramLost (f : Fld) (i j n : Nat) : (s.incWrap f i j n).sramLost = s.sramLost := rfl
@[simp] theorem State.incWrap_frames (f : Fld) (i j n : Nat) : (s.incWrap f i j n).frames = s.frames := rfl
@[simp] theorem State.incWrap_nextFid (f : Fld) (i j n : Nat) : (s.incWrap f i j n).nextFid = s.nextFid := rfl
@[simp] theorem State.incWrap_events (f : Fld) (i j n : Nat) : (s.incWrap f i j n).events = s.events := rfl
@[simp] theorem State.incWrap_freeCtr (f : Fld) (i j n : Nat) : (s.incWrap f i j n).freeCtr = s.freeCtr := rfl
@[simp] theorem State.incWrap_out (f : Fld) (i j n : Nat) : (s.incWrap f i j n).out = s.out := rfl
@[simp] theorem State.incWrap_pending (f : Fld) (i j n : Nat) : (s.incWrap f i j n).pending = s.pending := rfl

@[simp] theorem State.dec_snaps (f : Fld) (i j n : Nat) : (s.dec f i j n).snaps = s.snaps := rfl
@[simp] theorem State.dec_rsvd (f : Fld) (i j n : Nat) : (s.dec f i j n).rsvd = s.rsvd := rfl
@[simp] theorem State.dec_inv (f : Fld) (i j n : Nat) : (s.dec f i j n).inv = s.inv := rfl
@[simp] theorem State.dec_ports (f : Fld) (i j n : Nat) : (s.dec f i j n).ports = s.ports := rfl
@[simp] theorem State.dec_egs (f : Fld) (i j n : Nat) : (s.dec f i j n).egs = s.egs := rfl
@[simp] theorem State.dec_pol (f : Fld) (i j n : Nat) : (s.dec f i j n).pol = s.pol := rfl
@[simp] theorem State.dec_swc (f : Fld) (i j n : Nat) : (s.dec f i j n).swc = s.swc := rfl
@[simp] theorem State.dec_tin (f : Fld) (i j n : Nat) : (s.dec f i j n).tin = s.tin := rfl
@[simp] theorem State.dec_lkp (f : Fld) (i j n : Nat) : (s.dec f i j n).lkp = s.lkp := rfl
@[simp] theorem State.dec_twn (f : Fld) (i j n : Nat) : (s.dec f i j n).twn = s.twn := rfl
@[simp] theorem State.dec_rst (f : Fld) (i j n : Nat) : (s.dec f i j n).rst = s.rst := rfl
@[simp] theorem State.dec_md (f : Fld) (i j n : Nat) : (s.dec f i j n).md = s.md := rfl
@[simp] theorem State.dec_adp (f : Fld) (i j n : Nat) : (s.dec f i j n).adp = s.adp := rfl
@[simp] theorem State.dec_img (f : Fld) (i j n : Nat) : (s.dec f i j n).img = s.img := rfl
@[simp] theorem State.dec_pds (f : Fld) (i j n : Nat) : (s.dec f i j n).pds = s.pds := rfl
@[simp] theorem State.dec_dma (f : Fld) (i j n : Nat) : (s.dec f i j n).dma = s.dma := rfl
@[simp] theorem State.dec_cff (f : Fld) (i j n : Nat) : (s.dec f i j n).cff = s.cff := rfl
@[simp] theorem State.dec_pmc (f : Fld) (i j n : Nat) : (s.dec f i j n).pmc = s.pmc := rfl
@[simp] theorem State.dec_ha (f : Fld) (i j n : Nat) : (s.dec f i j n).ha = s.ha := rfl
@[simp] theorem State.dec_hb (f : Fld) (i j n : Nat) : (s.dec f i j n).hb = s.hb := rfl
@[simp] theorem State.dec_mgt (f : Fld) (i j n : Nat) : (s.dec f i j n).mgt = s.mgt := rfl
@[simp] theorem State.dec_tap (f : Fld) (i j n : Nat) : (s.dec f i j n).tap = s.tap := rfl
@[simp] theorem State.dec_pools (f : Fld) (i j n : Nat) : (s.dec f i j n).pools = s.pools := rfl
@[simp] theorem State.dec_sram (f : Fld) (i j n : Nat) : (s.dec f i j n).sram = s.sram := rfl
@[simp] theorem State.dec_sramLost (f : Fld) (i j n : Nat) : (s.dec f i j n).sramLost = s.sramLost := rfl
@[simp] theorem State.dec_frames (f : Fld) (i j n : Nat) : (s.dec f i j n).frames = s.frames := rfl
@[simp] theorem State.dec_nextFid (f : Fld) (i j n : Nat) : (s.dec f i j n).nextFid = s.nextFid := rfl
@[simp] theorem State.dec_events (f : Fld) (i j n : Nat) : (s.dec f i j n).events = s.events := rfl
@[simp] theorem State.dec_freeCtr (f : Fld) (i j n : Nat) : (s.dec f i j n).freeCtr = s.freeCtr := rfl
@[simp] theorem State.dec_out (f : Fld) (i j n : Nat) : (s.dec f i j n).out = s.out := rfl
@[simp] theorem State.dec_pending (f : Fld) (i j n : Nat) : (s.dec f i j n).pending = s.pending := rfl

@[simp] theorem State.portCnt_snaps (p k n : Nat) : (s.portCnt p k n).snaps = s.snaps := rfl
@[simp] theorem State.portCnt_rsvd (p k n : Nat) : (s.portCnt p k n).rsvd = s.rsvd := rfl
@[simp] theorem State.portCnt_inv (p k n : Nat) : (s.portCnt p k n).inv = s.inv := rfl
@[simp] theorem State.portCnt_ports (p k n : Nat) : (s.portCnt p k n).ports = s.ports := rfl
@[simp] theorem State.portCnt_egs (p k n : Nat) : (s.portCnt p k n).egs = s.egs := rfl
@[simp] theorem State.portCnt_pol (p k n : Nat) : (s.portCnt p k n).pol = s.pol := rfl
@[simp] theorem State.portCnt_swc (p k n : Nat) : (s.portCnt p k n).swc = s.swc := rfl
@[simp] theorem State.portCnt_tin (p k n : Nat) : (s.portCnt p k n).tin = s.tin := rfl
@[simp] theorem State.portCnt_lkp (p k n : Nat) : (s.portCnt p k n).lkp = s.lkp := rfl
@[simp] theorem State.portCnt_twn (p k n : Nat) : (s.portCnt p k n).twn = s.twn := rfl
@[simp] theorem State.portCnt_rst (p k n : Nat) : (s.portCnt p k n).rst = s.rst := rfl
@[simp] theorem State.portCnt_md (p k n : Nat) : (s.portCnt p k n).md = s.md := rfl
@[simp] theorem State.portCnt_adp (p k n : Nat) : (s.portCnt p k n).adp = s.adp := rfl
@[simp] theorem State.portCnt_img (p k n : Nat) : (s.portCnt p k n).img = s.img := rfl
@[simp] theorem State.portCnt_pds (p k n : Nat) : (s.portCnt p k n).pds = s.pds := rfl
@[simp] theorem State.portCnt_dma (p k n : Nat) : (s.portCnt p k n).dma = s.dma := rfl
@[simp] theorem State.portCnt_cff (p k n : Nat) : (s.portCnt p k n).cff = s.cff := rfl
@[simp] theorem State.portCnt_pmc (p k n : Nat) : (s.portCnt p k n).pmc = s.pmc := rfl
@[simp] theorem State.portCnt_ha (p k n : Nat) : (s.portCnt p k n).ha = s.ha := rfl
@[simp] theorem State.portCnt_hb (p k n : Nat) : (s.portCnt p k n).hb = s.hb := rfl
@[simp] theorem State.portCnt_mgt (p k n : Nat) : (s.portCnt p k n).mgt = s.mgt := rfl
@[simp] theorem State.portCnt_tap (p k n : Nat) : (s.portCnt p k n).tap = s.tap := rfl
@[simp] theorem State.portCnt_pools (p k n : Nat) : (s.portCnt p k n).pools = s.pools := rfl
@[simp] theorem State.portCnt_sram (p k n : Nat) : (s.portCnt p k n).sram = s.sram := rfl
@[simp] theorem State.portCnt_sramLost (p k n : Nat) : (s.portCnt p k n).sramLost = s.sramLost := rfl
@[simp] theorem State.portCnt_frames (p k n : Nat) : (s.portCnt p k n).frames = s.frames := rfl
@[simp] theorem State.portCnt_nextFid (p k n : Nat) : (s.portCnt p k n).nextFid = s.nextFid := rfl
@[simp] theorem State.portCnt_events (p k n : Nat) : (s.portCnt p k n).events = s.events := rfl
@[simp] theorem State.portCnt_freeCtr (p k n : Nat) : (s.portCnt p k n).freeCtr = s.freeCtr := rfl
@[simp] theorem State.portCnt_out (p k n : Nat) : (s.portCnt p k n).out = s.out := rfl
@[simp] theorem State.portCnt_pending (p k n : Nat) : (s.portCnt p k n).pending = s.pending := rfl

@[simp] theorem State.capture_snaps (f g : Fld) (w : Word) : (s.capture f g w).snaps = s.snaps := by unfold State.capture; split <;> rfl
@[simp] theorem State.capture_rsvd (f g : Fld) (w : Word) : (s.capture f g w).rsvd = s.rsvd := by unfold State.capture; split <;> rfl
@[simp] theorem State.capture_inv (f g : Fld) (w : Word) : (s.capture f g w).inv = s.inv := by unfold State.capture; split <;> rfl
@[simp] theorem State.capture_ports (f g : Fld) (w : Word) : (s.capture f g w).ports = s.ports := by unfold State.capture; split <;> rfl
@[simp] theorem State.capture_egs (f g : Fld) (w : Word) : (s.capture f g w).egs = s.egs := by unfold State.capture; split <;> rfl
@[simp] theorem State.capture_pol (f g : Fld) (w : Word) : (s.capture f g w).pol = s.pol := by unfold State.capture; split <;> rfl
@[simp] theorem State.capture_swc (f g : Fld) (w : Word) : (s.capture f g w).swc = s.swc := by unfold State.capture; split <;> rfl
@[simp] theorem State.capture_tin (f g : Fld) (w : Word) : (s.capture f g w).tin = s.tin := by unfold State.capture; split <;> rfl
@[simp] theorem State.capture_lkp (f g : Fld) (w : Word) : (s.capture f g w).lkp = s.lkp := by unfold State.capture; split <;> rfl
@[simp] theorem State.capture_twn (f g : Fld) (w : Word) : (s.capture f g w).twn = s.twn := by unfold State.capture; split <;> rfl
@[simp] theorem State.capture_rst (f g : Fld) (w : Word) : (s.capture f g w).rst = s.rst := by unfold State.capture; split <;> rfl
@[simp] theorem State.capture_md (f g : Fld) (w : Word) : (s.capture f g w).md = s.md := by unfold State.capture; split <;> rfl
@[simp] theorem State.capture_adp (f g : Fld) (w : Word) : (s.capture f g w).adp = s.adp := by unfold State.capture; split <;> rfl
@[simp] theorem State.capture_img (f g : Fld) (w : Word) : (s.capture f g w).img = s.img := by unfold State.capture; split <;> rfl
@[simp] theorem State.capture_pds (f g : Fld) (w : Word) : (s.capture f g w).pds = s.pds := by unfold State.capture; split <;> rfl
@[simp] theorem State.capture_dma (f g : Fld) (w : Word) : (s.capture f g w).dma = s.dma := by unfold State.capture; split <;> rfl
@[simp] theorem State.capture_cff (f g : Fld) (w : Word) : (s.capture f g w).cff = s.cff := by unfold State.capture; split <;> rfl
@[simp] theorem State.capture_pmc (f g : Fld) (w : Word) : (s.capture f g w).pmc = s.pmc := by unfold State.capture; split <;> rfl
@[simp] theorem State.capture_ha (f g : Fld) (w : Word) : (s.capture f g w).ha = s.ha := by unfold State.capture; split <;> rfl
@[simp] theorem State.capture_hb (f g : Fld) (w : Word) : (s.capture f g w).hb = s.hb := by unfold State.capture; split <;> rfl
@[simp] theorem State.capture_mgt (f g : Fld) (w : Word) : (s.capture f g w).mgt = s.mgt := by unfold State.capture; split <;> rfl
@[simp] theorem State.capture_tap (f g : Fld) (w : Word) : (s.capture f g w).tap = s.tap := by unfold State.capture; split <;> rfl
@[simp] theorem State.capture_pools (f g : Fld) (w : Word) : (s.capture f g w).pools = s.pools := by unfold State.capture; split <;> rfl
@[simp] theorem State.capture_sram (f g : Fld) (w : Word) : (s.capture f g w).sram = s.sram := by unfold State.capture; split <;> rfl
@[simp] theorem State.capture_sramLost (f g : Fld) (w : Word) : (s.capture f g w).sramLost = s.sramLost := by unfold State.capture; split <;> rfl
@[simp] theorem State.capture_frames (f g : Fld) (w : Word) : (s.capture f g w).frames = s.frames := by unfold State.capture; split <;> rfl
@[simp] theorem State.capture_nextFid (f g : Fld) (w : Word) : (s.capture f g w).nextFid = s.nextFid := by unfold State.capture; split <;> rfl
@[simp] theorem State.capture_events (f g : Fld) (w : Word) : (s.capture f g w).events = s.events := by unfold State.capture; split <;> rfl
@[simp] theorem State.capture_freeCtr (f g : Fld) (w : Word) : (s.capture f g w).freeCtr = s.freeCtr := by unfold State.capture; split <;> rfl
@[simp] theorem State.capture_out (f g : Fld) (w : Word) : (s.capture f g w).out = s.out := by unfold State.capture; split <;> rfl
@[simp] theorem State.capture_pending (f g : Fld) (w : Word) : (s.capture f g w).pending = s.pending := by unfold State.capture; split <;> rfl

@[simp] theorem State.evt_snaps (f : Fld) (i j : Nat) : (s.evt f i j).snaps = s.snaps := by unfold State.evt State.armVector; split <;> rfl
@[simp] theorem State.evt_rsvd (f : Fld) (i j : Nat) : (s.evt f i j).rsvd = s.rsvd := by unfold State.evt State.armVector; split <;> rfl
@[simp] theorem State.evt_inv (f : Fld) (i j : Nat) : (s.evt f i j).inv = s.inv := by unfold State.evt State.armVector; split <;> rfl
@[simp] theorem State.evt_ports (f : Fld) (i j : Nat) : (s.evt f i j).ports = s.ports := by unfold State.evt State.armVector; split <;> rfl
@[simp] theorem State.evt_egs (f : Fld) (i j : Nat) : (s.evt f i j).egs = s.egs := by unfold State.evt State.armVector; split <;> rfl
@[simp] theorem State.evt_pol (f : Fld) (i j : Nat) : (s.evt f i j).pol = s.pol := by unfold State.evt State.armVector; split <;> rfl
@[simp] theorem State.evt_swc (f : Fld) (i j : Nat) : (s.evt f i j).swc = s.swc := by unfold State.evt State.armVector; split <;> rfl
@[simp] theorem State.evt_tin (f : Fld) (i j : Nat) : (s.evt f i j).tin = s.tin := by unfold State.evt State.armVector; split <;> rfl
@[simp] theorem State.evt_lkp (f : Fld) (i j : Nat) : (s.evt f i j).lkp = s.lkp := by unfold State.evt State.armVector; split <;> rfl
@[simp] theorem State.evt_twn (f : Fld) (i j : Nat) : (s.evt f i j).twn = s.twn := by unfold State.evt State.armVector; split <;> rfl
@[simp] theorem State.evt_rst (f : Fld) (i j : Nat) : (s.evt f i j).rst = s.rst := by unfold State.evt State.armVector; split <;> rfl
@[simp] theorem State.evt_md (f : Fld) (i j : Nat) : (s.evt f i j).md = s.md := by unfold State.evt State.armVector; split <;> rfl
@[simp] theorem State.evt_adp (f : Fld) (i j : Nat) : (s.evt f i j).adp = s.adp := by unfold State.evt State.armVector; split <;> rfl
@[simp] theorem State.evt_img (f : Fld) (i j : Nat) : (s.evt f i j).img = s.img := by unfold State.evt State.armVector; split <;> rfl
@[simp] theorem State.evt_pds (f : Fld) (i j : Nat) : (s.evt f i j).pds = s.pds := by unfold State.evt State.armVector; split <;> rfl
@[simp] theorem State.evt_dma (f : Fld) (i j : Nat) : (s.evt f i j).dma = s.dma := by unfold State.evt State.armVector; split <;> rfl
@[simp] theorem State.evt_cff (f : Fld) (i j : Nat) : (s.evt f i j).cff = s.cff := by unfold State.evt State.armVector; split <;> rfl
@[simp] theorem State.evt_pmc (f : Fld) (i j : Nat) : (s.evt f i j).pmc = s.pmc := by unfold State.evt State.armVector; split <;> rfl
@[simp] theorem State.evt_mgt (f : Fld) (i j : Nat) : (s.evt f i j).mgt = s.mgt := by unfold State.evt State.armVector; split <;> rfl
@[simp] theorem State.evt_tap (f : Fld) (i j : Nat) : (s.evt f i j).tap = s.tap := by unfold State.evt State.armVector; split <;> rfl
@[simp] theorem State.evt_pools (f : Fld) (i j : Nat) : (s.evt f i j).pools = s.pools := by unfold State.evt State.armVector; split <;> rfl
@[simp] theorem State.evt_sram (f : Fld) (i j : Nat) : (s.evt f i j).sram = s.sram := by unfold State.evt State.armVector; split <;> rfl
@[simp] theorem State.evt_sramLost (f : Fld) (i j : Nat) : (s.evt f i j).sramLost = s.sramLost := by unfold State.evt State.armVector; split <;> rfl
@[simp] theorem State.evt_frames (f : Fld) (i j : Nat) : (s.evt f i j).frames = s.frames := by unfold State.evt State.armVector; split <;> rfl
@[simp] theorem State.evt_nextFid (f : Fld) (i j : Nat) : (s.evt f i j).nextFid = s.nextFid := by unfold State.evt State.armVector; split <;> rfl
@[simp] theorem State.evt_events (f : Fld) (i j : Nat) : (s.evt f i j).events = s.events := by unfold State.evt State.armVector; split <;> rfl
@[simp] theorem State.evt_freeCtr (f : Fld) (i j : Nat) : (s.evt f i j).freeCtr = s.freeCtr := by unfold State.evt State.armVector; split <;> rfl
@[simp] theorem State.evt_out (f : Fld) (i j : Nat) : (s.evt f i j).out = s.out := by unfold State.evt State.armVector; split <;> rfl
@[simp] theorem State.evt_pending (f : Fld) (i j : Nat) : (s.evt f i j).pending = s.pending := by unfold State.evt State.armVector; split <;> rfl

@[simp] theorem State.evtIf_snaps (c : Bool) (f : Fld) (i j : Nat) : (s.evtIf c f i j).snaps = s.snaps := by unfold State.evtIf; split <;> simp
@[simp] theorem State.evtIf_rsvd (c : Bool) (f : Fld) (i j : Nat) : (s.evtIf c f i j).rsvd = s.rsvd := by unfold State.evtIf; split <;> simp
@[simp] theorem State.evtIf_inv (c : Bool) (f : Fld) (i j : Nat) : (s.evtIf c f i j).inv = s.inv := by unfold State.evtIf; split <;> simp
@[simp] theorem State.evtIf_ports (c : Bool) (f : Fld) (i j : Nat) : (s.evtIf c f i j).ports = s.ports := by unfold State.evtIf; split <;> simp
@[simp] theorem State.evtIf_egs (c : Bool) (f : Fld) (i j : Nat) : (s.evtIf c f i j).egs = s.egs := by unfold State.evtIf; split <;> simp
@[simp] theorem State.evtIf_pol (c : Bool) (f : Fld) (i j : Nat) : (s.evtIf c f i j).pol = s.pol := by unfold State.evtIf; split <;> simp
@[simp] theorem State.evtIf_swc (c : Bool) (f : Fld) (i j : Nat) : (s.evtIf c f i j).swc = s.swc := by unfold State.evtIf; split <;> simp
@[simp] theorem State.evtIf_tin (c : Bool) (f : Fld) (i j : Nat) : (s.evtIf c f i j).tin = s.tin := by unfold State.evtIf; split <;> simp
@[simp] theorem State.evtIf_lkp (c : Bool) (f : Fld) (i j : Nat) : (s.evtIf c f i j).lkp = s.lkp := by unfold State.evtIf; split <;> simp
@[simp] theorem State.evtIf_twn (c : Bool) (f : Fld) (i j : Nat) : (s.evtIf c f i j).twn = s.twn := by unfold State.evtIf; split <;> simp
@[simp] theorem State.evtIf_rst (c : Bool) (f : Fld) (i j : Nat) : (s.evtIf c f i j).rst = s.rst := by unfold State.evtIf; split <;> simp
@[simp] theorem State.evtIf_md (c : Bool) (f : Fld) (i j : Nat) : (s.evtIf c f i j).md = s.md := by unfold State.evtIf; split <;> simp
@[simp] theorem State.evtIf_adp (c : Bool) (f : Fld) (i j : Nat) : (s.evtIf c f i j).adp = s.adp := by unfold State.evtIf; split <;> simp
@[simp] theorem State.evtIf_img (c : Bool) (f : Fld) (i j : Nat) : (s.evtIf c f i j).img = s.img := by unfold State.evtIf; split <;> simp
@[simp] theorem State.evtIf_pds (c : Bool) (f : Fld) (i j : Nat) : (s.evtIf c f i j).pds = s.pds := by unfold State.evtIf; split <;> simp
@[simp] theorem State.evtIf_dma (c : Bool) (f : Fld) (i j : Nat) : (s.evtIf c f i j).dma = s.dma := by unfold State.evtIf; split <;> simp
@[simp] theorem State.evtIf_cff (c : Bool) (f : Fld) (i j : Nat) : (s.evtIf c f i j).cff = s.cff := by unfold State.evtIf; split <;> simp
@[simp] theorem State.evtIf_pmc (c : Bool) (f : Fld) (i j : Nat) : (s.evtIf c f i j).pmc = s.pmc := by unfold State.evtIf; split <;> simp
@[simp] theorem State.evtIf_mgt (c : Bool) (f : Fld) (i j : Nat) : (s.evtIf c f i j).mgt = s.mgt := by unfold State.evtIf; split <;> simp
@[simp] theorem State.evtIf_tap (c : Bool) (f : Fld) (i j : Nat) : (s.evtIf c f i j).tap = s.tap := by unfold State.evtIf; split <;> simp
@[simp] theorem State.evtIf_pools (c : Bool) (f : Fld) (i j : Nat) : (s.evtIf c f i j).pools = s.pools := by unfold State.evtIf; split <;> simp
@[simp] theorem State.evtIf_sram (c : Bool) (f : Fld) (i j : Nat) : (s.evtIf c f i j).sram = s.sram := by unfold State.evtIf; split <;> simp
@[simp] theorem State.evtIf_sramLost (c : Bool) (f : Fld) (i j : Nat) : (s.evtIf c f i j).sramLost = s.sramLost := by unfold State.evtIf; split <;> simp
@[simp] theorem State.evtIf_frames (c : Bool) (f : Fld) (i j : Nat) : (s.evtIf c f i j).frames = s.frames := by unfold State.evtIf; split <;> simp
@[simp] theorem State.evtIf_nextFid (c : Bool) (f : Fld) (i j : Nat) : (s.evtIf c f i j).nextFid = s.nextFid := by unfold State.evtIf; split <;> simp
@[simp] theorem State.evtIf_events (c : Bool) (f : Fld) (i j : Nat) : (s.evtIf c f i j).events = s.events := by unfold State.evtIf; split <;> simp
@[simp] theorem State.evtIf_freeCtr (c : Bool) (f : Fld) (i j : Nat) : (s.evtIf c f i j).freeCtr = s.freeCtr := by unfold State.evtIf; split <;> simp
@[simp] theorem State.evtIf_out (c : Bool) (f : Fld) (i j : Nat) : (s.evtIf c f i j).out = s.out := by unfold State.evtIf; split <;> simp
@[simp] theorem State.evtIf_pending (c : Bool) (f : Fld) (i j : Nat) : (s.evtIf c f i j).pending = s.pending := by unfold State.evtIf; split <;> simp

@[simp] theorem State.evt2_snaps (f g : Fld) (i : Nat) : (s.evt2 f g i).snaps = s.snaps := by unfold State.evt2; simp
@[simp] theorem State.evt2_rsvd (f g : Fld) (i : Nat) : (s.evt2 f g i).rsvd = s.rsvd := by unfold State.evt2; simp
@[simp] theorem State.evt2_inv (f g : Fld) (i : Nat) : (s.evt2 f g i).inv = s.inv := by unfold State.evt2; simp
@[simp] theorem State.evt2_ports (f g : Fld) (i : Nat) : (s.evt2 f g i).ports = s.ports := by unfold State.evt2; simp
@[simp] theorem State.evt2_egs (f g : Fld) (i : Nat) : (s.evt2 f g i).egs = s.egs := by unfold State.evt2; simp
@[simp] theorem State.evt2_pol (f g : Fld) (i : Nat) : (s.evt2 f g i).pol = s.pol := by unfold State.evt2; simp
@[simp] theorem State.evt2_swc (f g : Fld) (i : Nat) : (s.evt2 f g i).swc = s.swc := by unfold State.evt2; simp
@[simp] theorem State.evt2_tin (f g : Fld) (i : Nat) : (s.evt2 f g i).tin = s.tin := by unfold State.evt2; simp
@[simp] theorem State.evt2_lkp (f g : Fld) (i : Nat) : (s.evt2 f g i).lkp = s.lkp := by unfold State.evt2; simp
@[simp] theorem State.evt2_twn (f g : Fld) (i : Nat) : (s.evt2 f g i).twn = s.twn := by unfold State.evt2; simp
@[simp] theorem State.evt2_rst (f g : Fld) (i : Nat) : (s.evt2 f g i).rst = s.rst := by unfold State.evt2; simp
@[simp] theorem State.evt2_md (f g : Fld) (i : Nat) : (s.evt2 f g i).md = s.md := by unfold State.evt2; simp
@[simp] theorem State.evt2_adp (f g : Fld) (i : Nat) : (s.evt2 f g i).adp = s.adp := by unfold State.evt2; simp
@[simp] theorem State.evt2_img (f g : Fld) (i : Nat) : (s.evt2 f g i).img = s.img := by unfold State.evt2; simp
@[simp] theorem State.evt2_pds (f g : Fld) (i : Nat) : (s.evt2 f g i).pds = s.pds := by unfold State.evt2; simp
@[simp] theorem State.evt2_dma (f g : Fld) (i : Nat) : (s.evt2 f g i).dma = s.dma := by unfold State.evt2; simp
@[simp] theorem State.evt2_cff (f g : Fld) (i : Nat) : (s.evt2 f g i).cff = s.cff := by unfold State.evt2; simp
@[simp] theorem State.evt2_pmc (f g : Fld) (i : Nat) : (s.evt2 f g i).pmc = s.pmc := by unfold State.evt2; simp
@[simp] theorem State.evt2_mgt (f g : Fld) (i : Nat) : (s.evt2 f g i).mgt = s.mgt := by unfold State.evt2; simp
@[simp] theorem State.evt2_tap (f g : Fld) (i : Nat) : (s.evt2 f g i).tap = s.tap := by unfold State.evt2; simp
@[simp] theorem State.evt2_pools (f g : Fld) (i : Nat) : (s.evt2 f g i).pools = s.pools := by unfold State.evt2; simp
@[simp] theorem State.evt2_sram (f g : Fld) (i : Nat) : (s.evt2 f g i).sram = s.sram := by unfold State.evt2; simp
@[simp] theorem State.evt2_sramLost (f g : Fld) (i : Nat) : (s.evt2 f g i).sramLost = s.sramLost := by unfold State.evt2; simp
@[simp] theorem State.evt2_frames (f g : Fld) (i : Nat) : (s.evt2 f g i).frames = s.frames := by unfold State.evt2; simp
@[simp] theorem State.evt2_nextFid (f g : Fld) (i : Nat) : (s.evt2 f g i).nextFid = s.nextFid := by unfold State.evt2; simp
@[simp] theorem State.evt2_events (f g : Fld) (i : Nat) : (s.evt2 f g i).events = s.events := by unfold State.evt2; simp
@[simp] theorem State.evt2_freeCtr (f g : Fld) (i : Nat) : (s.evt2 f g i).freeCtr = s.freeCtr := by unfold State.evt2; simp
@[simp] theorem State.evt2_out (f g : Fld) (i : Nat) : (s.evt2 f g i).out = s.out := by unfold State.evt2; simp
@[simp] theorem State.evt2_pending (f g : Fld) (i : Nat) : (s.evt2 f g i).pending = s.pending := by unfold State.evt2; simp

@[simp] theorem State.emit_regs (o : Out) : (s.emit o).regs = s.regs := rfl
@[simp] theorem State.emit_snaps (o : Out) : (s.emit o).snaps = s.snaps := rfl
@[simp] theorem State.emit_rsvd (o : Out) : (s.emit o).rsvd = s.rsvd := rfl
@[simp] theorem State.emit_inv (o : Out) : (s.emit o).inv = s.inv := rfl
@[simp] theorem State.emit_ports (o : Out) : (s.emit o).ports = s.ports := rfl
@[simp] theorem State.emit_egs (o : Out) : (s.emit o).egs = s.egs := rfl
@[simp] theorem State.emit_pol (o : Out) : (s.emit o).pol = s.pol := rfl
@[simp] theorem State.emit_swc (o : Out) : (s.emit o).swc = s.swc := rfl
@[simp] theorem State.emit_tin (o : Out) : (s.emit o).tin = s.tin := rfl
@[simp] theorem State.emit_lkp (o : Out) : (s.emit o).lkp = s.lkp := rfl
@[simp] theorem State.emit_twn (o : Out) : (s.emit o).twn = s.twn := rfl
@[simp] theorem State.emit_rst (o : Out) : (s.emit o).rst = s.rst := rfl
@[simp] theorem State.emit_md (o : Out) : (s.emit o).md = s.md := rfl
@[simp] theorem State.emit_adp (o : Out) : (s.emit o).adp = s.adp := rfl
@[simp] theorem State.emit_img (o : Out) : (s.emit o).img = s.img := rfl
@[simp] theorem State.emit_pds (o : Out) : (s.emit o).pds = s.pds := rfl
@[simp] theorem State.emit_dma (o : Out) : (s.emit o).dma = s.dma := rfl
@[simp] theorem State.emit_cff (o : Out) : (s.emit o).cff = s.cff := rfl
@[simp] theorem State.emit_pmc (o : Out) : (s.emit o).pmc = s.pmc := rfl
@[simp] theorem State.emit_ha (o : Out) : (s.emit o).ha = s.ha := rfl
@[simp] theorem State.emit_hb (o : Out) : (s.emit o).hb = s.hb := rfl
@[simp] theorem State.emit_mgt (o : Out) : (s.emit o).mgt = s.mgt := rfl
@[simp] theorem State.emit_tap (o : Out) : (s.emit o).tap = s.tap := rfl
@[simp] theorem State.emit_pools (o : Out) : (s.emit o).pools = s.pools := rfl
@[simp] theorem State.emit_sram (o : Out) : (s.emit o).sram = s.sram := rfl
@[simp] theorem State.emit_sramLost (o : Out) : (s.emit o).sramLost = s.sramLost := rfl
@[simp] theorem State.emit_frames (o : Out) : (s.emit o).frames = s.frames := rfl
@[simp] theorem State.emit_nextFid (o : Out) : (s.emit o).nextFid = s.nextFid := rfl
@[simp] theorem State.emit_events (o : Out) : (s.emit o).events = s.events := rfl
@[simp] theorem State.emit_freeCtr (o : Out) : (s.emit o).freeCtr = s.freeCtr := rfl
@[simp] theorem State.emit_pending (o : Out) : (s.emit o).pending = s.pending := rfl
@[simp] theorem State.emit_reg (o : Out) (q : RegSpec) (qi qj : Nat) : (s.emit o).reg q qi qj = s.reg q qi qj := rfl
@[simp] theorem State.emit_get (o : Out) (q : Fld) (qi qj : Nat) : (s.emit o).get q qi qj = s.get q qi qj := rfl
@[simp] theorem State.emit_bit (o : Out) (q : Fld) (qi qj : Nat) : (s.emit o).bit q qi qj = s.bit q qi qj := rfl

@[simp] theorem State.draw_regs (w : Nat) : ((s.draw w).2).regs = s.regs := rfl
@[simp] theorem State.draw_snaps (w : Nat) : ((s.draw w).2).snaps = s.snaps := rfl
@[simp] theorem State.draw_rsvd (w : Nat) : ((s.draw w).2).rsvd = s.rsvd := rfl
@[simp] theorem State.draw_inv (w : Nat) : ((s.draw w).2).inv = s.inv := rfl
@[simp] theorem State.draw_ports (w : Nat) : ((s.draw w).2).ports = s.ports := rfl
@[simp] theorem State.draw_egs (w : Nat) : ((s.draw w).2).egs = s.egs := rfl
@[simp] theorem State.draw_pol (w : Nat) : ((s.draw w).2).pol = s.pol := rfl
@[simp] theorem State.draw_swc (w : Nat) : ((s.draw w).2).swc = s.swc := rfl
@[simp] theorem State.draw_tin (w : Nat) : ((s.draw w).2).tin = s.tin := rfl
@[simp] theorem State.draw_lkp (w : Nat) : ((s.draw w).2).lkp = s.lkp := rfl
@[simp] theorem State.draw_twn (w : Nat) : ((s.draw w).2).twn = s.twn := rfl
@[simp] theorem State.draw_rst (w : Nat) : ((s.draw w).2).rst = s.rst := rfl
@[simp] theorem State.draw_md (w : Nat) : ((s.draw w).2).md = s.md := rfl
@[simp] theorem State.draw_adp (w : Nat) : ((s.draw w).2).adp = s.adp := rfl
@[simp] theorem State.draw_img (w : Nat) : ((s.draw w).2).img = s.img := rfl
@[simp] theorem State.draw_pds (w : Nat) : ((s.draw w).2).pds = s.pds := rfl
@[simp] theorem State.draw_dma (w : Nat) : ((s.draw w).2).dma = s.dma := rfl
@[simp] theorem State.draw_cff (w : Nat) : ((s.draw w).2).cff = s.cff := rfl
@[simp] theorem State.draw_pmc (w : Nat) : ((s.draw w).2).pmc = s.pmc := rfl
@[simp] theorem State.draw_ha (w : Nat) : ((s.draw w).2).ha = s.ha := rfl
@[simp] theorem State.draw_hb (w : Nat) : ((s.draw w).2).hb = s.hb := rfl
@[simp] theorem State.draw_mgt (w : Nat) : ((s.draw w).2).mgt = s.mgt := rfl
@[simp] theorem State.draw_tap (w : Nat) : ((s.draw w).2).tap = s.tap := rfl
@[simp] theorem State.draw_pools (w : Nat) : ((s.draw w).2).pools = s.pools := rfl
@[simp] theorem State.draw_sram (w : Nat) : ((s.draw w).2).sram = s.sram := rfl
@[simp] theorem State.draw_sramLost (w : Nat) : ((s.draw w).2).sramLost = s.sramLost := rfl
@[simp] theorem State.draw_frames (w : Nat) : ((s.draw w).2).frames = s.frames := rfl
@[simp] theorem State.draw_nextFid (w : Nat) : ((s.draw w).2).nextFid = s.nextFid := rfl
@[simp] theorem State.draw_events (w : Nat) : ((s.draw w).2).events = s.events := rfl
@[simp] theorem State.draw_out (w : Nat) : ((s.draw w).2).out = s.out := rfl
@[simp] theorem State.draw_pending (w : Nat) : ((s.draw w).2).pending = s.pending := rfl
@[simp] theorem State.draw_reg (w : Nat) (q : RegSpec) (qi qj : Nat) : ((s.draw w).2).reg q qi qj = s.reg q qi qj := rfl
@[simp] theorem State.draw_get (w : Nat) (q : Fld) (qi qj : Nat) : ((s.draw w).2).get q qi qj = s.get q qi qj := rfl
@[simp] theorem State.draw_bit (w : Nat) (q : Fld) (qi qj : Nat) : ((s.draw w).2).bit q qi qj = s.bit q qi qj := rfl

@[simp] theorem State.count_regs (e i n : Nat) : (s.count e i n).regs = s.regs := rfl
@[simp] theorem State.count_snaps (e i n : Nat) : (s.count e i n).snaps = s.snaps := rfl
@[simp] theorem State.count_rsvd (e i n : Nat) : (s.count e i n).rsvd = s.rsvd := rfl
@[simp] theorem State.count_inv (e i n : Nat) : (s.count e i n).inv = s.inv := rfl
@[simp] theorem State.count_ports (e i n : Nat) : (s.count e i n).ports = s.ports := rfl
@[simp] theorem State.count_egs (e i n : Nat) : (s.count e i n).egs = s.egs := rfl
@[simp] theorem State.count_pol (e i n : Nat) : (s.count e i n).pol = s.pol := rfl
@[simp] theorem State.count_swc (e i n : Nat) : (s.count e i n).swc = s.swc := rfl
@[simp] theorem State.count_tin (e i n : Nat) : (s.count e i n).tin = s.tin := rfl
@[simp] theorem State.count_lkp (e i n : Nat) : (s.count e i n).lkp = s.lkp := rfl
@[simp] theorem State.count_twn (e i n : Nat) : (s.count e i n).twn = s.twn := rfl
@[simp] theorem State.count_rst (e i n : Nat) : (s.count e i n).rst = s.rst := rfl
@[simp] theorem State.count_md (e i n : Nat) : (s.count e i n).md = s.md := rfl
@[simp] theorem State.count_adp (e i n : Nat) : (s.count e i n).adp = s.adp := rfl
@[simp] theorem State.count_img (e i n : Nat) : (s.count e i n).img = s.img := rfl
@[simp] theorem State.count_pds (e i n : Nat) : (s.count e i n).pds = s.pds := rfl
@[simp] theorem State.count_dma (e i n : Nat) : (s.count e i n).dma = s.dma := rfl
@[simp] theorem State.count_cff (e i n : Nat) : (s.count e i n).cff = s.cff := rfl
@[simp] theorem State.count_pmc (e i n : Nat) : (s.count e i n).pmc = s.pmc := rfl
@[simp] theorem State.count_ha (e i n : Nat) : (s.count e i n).ha = s.ha := rfl
@[simp] theorem State.count_hb (e i n : Nat) : (s.count e i n).hb = s.hb := rfl
@[simp] theorem State.count_mgt (e i n : Nat) : (s.count e i n).mgt = s.mgt := rfl
@[simp] theorem State.count_tap (e i n : Nat) : (s.count e i n).tap = s.tap := rfl
@[simp] theorem State.count_pools (e i n : Nat) : (s.count e i n).pools = s.pools := rfl
@[simp] theorem State.count_sram (e i n : Nat) : (s.count e i n).sram = s.sram := rfl
@[simp] theorem State.count_sramLost (e i n : Nat) : (s.count e i n).sramLost = s.sramLost := rfl
@[simp] theorem State.count_frames (e i n : Nat) : (s.count e i n).frames = s.frames := rfl
@[simp] theorem State.count_nextFid (e i n : Nat) : (s.count e i n).nextFid = s.nextFid := rfl
@[simp] theorem State.count_freeCtr (e i n : Nat) : (s.count e i n).freeCtr = s.freeCtr := rfl
@[simp] theorem State.count_out (e i n : Nat) : (s.count e i n).out = s.out := rfl
@[simp] theorem State.count_pending (e i n : Nat) : (s.count e i n).pending = s.pending := rfl
@[simp] theorem State.count_reg (e i n : Nat) (q : RegSpec) (qi qj : Nat) : (s.count e i n).reg q qi qj = s.reg q qi qj := rfl
@[simp] theorem State.count_get (e i n : Nat) (q : Fld) (qi qj : Nat) : (s.count e i n).get q qi qj = s.get q qi qj := rfl
@[simp] theorem State.count_bit (e i n : Nat) (q : Fld) (qi qj : Nat) : (s.count e i n).bit q qi qj = s.bit q qi qj := rfl

@[simp] theorem State.rstDue_regs (k : Nat) : (s.rstDue k).regs = s.regs := rfl
@[simp] theorem State.rstDue_snaps (k : Nat) : (s.rstDue k).snaps = s.snaps := rfl
@[simp] theorem State.rstDue_rsvd (k : Nat) : (s.rstDue k).rsvd = s.rsvd := rfl
@[simp] theorem State.rstDue_inv (k : Nat) : (s.rstDue k).inv = s.inv := rfl
@[simp] theorem State.rstDue_ports (k : Nat) : (s.rstDue k).ports = s.ports := rfl
@[simp] theorem State.rstDue_egs (k : Nat) : (s.rstDue k).egs = s.egs := rfl
@[simp] theorem State.rstDue_pol (k : Nat) : (s.rstDue k).pol = s.pol := rfl
@[simp] theorem State.rstDue_swc (k : Nat) : (s.rstDue k).swc = s.swc := rfl
@[simp] theorem State.rstDue_tin (k : Nat) : (s.rstDue k).tin = s.tin := rfl
@[simp] theorem State.rstDue_lkp (k : Nat) : (s.rstDue k).lkp = s.lkp := rfl
@[simp] theorem State.rstDue_twn (k : Nat) : (s.rstDue k).twn = s.twn := rfl
@[simp] theorem State.rstDue_md (k : Nat) : (s.rstDue k).md = s.md := rfl
@[simp] theorem State.rstDue_adp (k : Nat) : (s.rstDue k).adp = s.adp := rfl
@[simp] theorem State.rstDue_img (k : Nat) : (s.rstDue k).img = s.img := rfl
@[simp] theorem State.rstDue_pds (k : Nat) : (s.rstDue k).pds = s.pds := rfl
@[simp] theorem State.rstDue_dma (k : Nat) : (s.rstDue k).dma = s.dma := rfl
@[simp] theorem State.rstDue_cff (k : Nat) : (s.rstDue k).cff = s.cff := rfl
@[simp] theorem State.rstDue_pmc (k : Nat) : (s.rstDue k).pmc = s.pmc := rfl
@[simp] theorem State.rstDue_ha (k : Nat) : (s.rstDue k).ha = s.ha := rfl
@[simp] theorem State.rstDue_hb (k : Nat) : (s.rstDue k).hb = s.hb := rfl
@[simp] theorem State.rstDue_mgt (k : Nat) : (s.rstDue k).mgt = s.mgt := rfl
@[simp] theorem State.rstDue_tap (k : Nat) : (s.rstDue k).tap = s.tap := rfl
@[simp] theorem State.rstDue_pools (k : Nat) : (s.rstDue k).pools = s.pools := rfl
@[simp] theorem State.rstDue_sram (k : Nat) : (s.rstDue k).sram = s.sram := rfl
@[simp] theorem State.rstDue_sramLost (k : Nat) : (s.rstDue k).sramLost = s.sramLost := rfl
@[simp] theorem State.rstDue_frames (k : Nat) : (s.rstDue k).frames = s.frames := rfl
@[simp] theorem State.rstDue_nextFid (k : Nat) : (s.rstDue k).nextFid = s.nextFid := rfl
@[simp] theorem State.rstDue_events (k : Nat) : (s.rstDue k).events = s.events := rfl
@[simp] theorem State.rstDue_freeCtr (k : Nat) : (s.rstDue k).freeCtr = s.freeCtr := rfl
@[simp] theorem State.rstDue_out (k : Nat) : (s.rstDue k).out = s.out := rfl
@[simp] theorem State.rstDue_pending (k : Nat) : (s.rstDue k).pending = s.pending := rfl
@[simp] theorem State.rstDue_reg (k : Nat) (q : RegSpec) (qi qj : Nat) : (s.rstDue k).reg q qi qj = s.reg q qi qj := rfl
@[simp] theorem State.rstDue_get (k : Nat) (q : Fld) (qi qj : Nat) : (s.rstDue k).get q qi qj = s.get q qi qj := rfl
@[simp] theorem State.rstDue_bit (k : Nat) (q : Fld) (qi qj : Nat) : (s.rstDue k).bit q qi qj = s.bit q qi qj := rfl

@[simp] theorem State.setPort_regs (p : Nat) (v : PortSt) : (s.setPort p v).regs = s.regs := rfl
@[simp] theorem State.setPort_snaps (p : Nat) (v : PortSt) : (s.setPort p v).snaps = s.snaps := rfl
@[simp] theorem State.setPort_rsvd (p : Nat) (v : PortSt) : (s.setPort p v).rsvd = s.rsvd := rfl
@[simp] theorem State.setPort_inv (p : Nat) (v : PortSt) : (s.setPort p v).inv = s.inv := rfl
@[simp] theorem State.setPort_egs (p : Nat) (v : PortSt) : (s.setPort p v).egs = s.egs := rfl
@[simp] theorem State.setPort_pol (p : Nat) (v : PortSt) : (s.setPort p v).pol = s.pol := rfl
@[simp] theorem State.setPort_swc (p : Nat) (v : PortSt) : (s.setPort p v).swc = s.swc := rfl
@[simp] theorem State.setPort_tin (p : Nat) (v : PortSt) : (s.setPort p v).tin = s.tin := rfl
@[simp] theorem State.setPort_lkp (p : Nat) (v : PortSt) : (s.setPort p v).lkp = s.lkp := rfl
@[simp] theorem State.setPort_twn (p : Nat) (v : PortSt) : (s.setPort p v).twn = s.twn := rfl
@[simp] theorem State.setPort_rst (p : Nat) (v : PortSt) : (s.setPort p v).rst = s.rst := rfl
@[simp] theorem State.setPort_md (p : Nat) (v : PortSt) : (s.setPort p v).md = s.md := rfl
@[simp] theorem State.setPort_adp (p : Nat) (v : PortSt) : (s.setPort p v).adp = s.adp := rfl
@[simp] theorem State.setPort_img (p : Nat) (v : PortSt) : (s.setPort p v).img = s.img := rfl
@[simp] theorem State.setPort_pds (p : Nat) (v : PortSt) : (s.setPort p v).pds = s.pds := rfl
@[simp] theorem State.setPort_dma (p : Nat) (v : PortSt) : (s.setPort p v).dma = s.dma := rfl
@[simp] theorem State.setPort_cff (p : Nat) (v : PortSt) : (s.setPort p v).cff = s.cff := rfl
@[simp] theorem State.setPort_pmc (p : Nat) (v : PortSt) : (s.setPort p v).pmc = s.pmc := rfl
@[simp] theorem State.setPort_ha (p : Nat) (v : PortSt) : (s.setPort p v).ha = s.ha := rfl
@[simp] theorem State.setPort_hb (p : Nat) (v : PortSt) : (s.setPort p v).hb = s.hb := rfl
@[simp] theorem State.setPort_mgt (p : Nat) (v : PortSt) : (s.setPort p v).mgt = s.mgt := rfl
@[simp] theorem State.setPort_tap (p : Nat) (v : PortSt) : (s.setPort p v).tap = s.tap := rfl
@[simp] theorem State.setPort_pools (p : Nat) (v : PortSt) : (s.setPort p v).pools = s.pools := rfl
@[simp] theorem State.setPort_sram (p : Nat) (v : PortSt) : (s.setPort p v).sram = s.sram := rfl
@[simp] theorem State.setPort_sramLost (p : Nat) (v : PortSt) : (s.setPort p v).sramLost = s.sramLost := rfl
@[simp] theorem State.setPort_frames (p : Nat) (v : PortSt) : (s.setPort p v).frames = s.frames := rfl
@[simp] theorem State.setPort_nextFid (p : Nat) (v : PortSt) : (s.setPort p v).nextFid = s.nextFid := rfl
@[simp] theorem State.setPort_events (p : Nat) (v : PortSt) : (s.setPort p v).events = s.events := rfl
@[simp] theorem State.setPort_freeCtr (p : Nat) (v : PortSt) : (s.setPort p v).freeCtr = s.freeCtr := rfl
@[simp] theorem State.setPort_out (p : Nat) (v : PortSt) : (s.setPort p v).out = s.out := rfl
@[simp] theorem State.setPort_pending (p : Nat) (v : PortSt) : (s.setPort p v).pending = s.pending := rfl
@[simp] theorem State.setPort_reg (p : Nat) (v : PortSt) (q : RegSpec) (qi qj : Nat) : (s.setPort p v).reg q qi qj = s.reg q qi qj := rfl
@[simp] theorem State.setPort_get (p : Nat) (v : PortSt) (q : Fld) (qi qj : Nat) : (s.setPort p v).get q qi qj = s.get q qi qj := rfl
@[simp] theorem State.setPort_bit (p : Nat) (v : PortSt) (q : Fld) (qi qj : Nat) : (s.setPort p v).bit q qi qj = s.bit q qi qj := rfl

@[simp] theorem State.setEg_regs (p : Nat) (v : EgsPort) : (s.setEg p v).regs = s.regs := rfl
@[simp] theorem State.setEg_snaps (p : Nat) (v : EgsPort) : (s.setEg p v).snaps = s.snaps := rfl
@[simp] theorem State.setEg_rsvd (p : Nat) (v : EgsPort) : (s.setEg p v).rsvd = s.rsvd := rfl
@[simp] theorem State.setEg_inv (p : Nat) (v : EgsPort) : (s.setEg p v).inv = s.inv := rfl
@[simp] theorem State.setEg_ports (p : Nat) (v : EgsPort) : (s.setEg p v).ports = s.ports := rfl
@[simp] theorem State.setEg_pol (p : Nat) (v : EgsPort) : (s.setEg p v).pol = s.pol := rfl
@[simp] theorem State.setEg_swc (p : Nat) (v : EgsPort) : (s.setEg p v).swc = s.swc := rfl
@[simp] theorem State.setEg_tin (p : Nat) (v : EgsPort) : (s.setEg p v).tin = s.tin := rfl
@[simp] theorem State.setEg_lkp (p : Nat) (v : EgsPort) : (s.setEg p v).lkp = s.lkp := rfl
@[simp] theorem State.setEg_twn (p : Nat) (v : EgsPort) : (s.setEg p v).twn = s.twn := rfl
@[simp] theorem State.setEg_rst (p : Nat) (v : EgsPort) : (s.setEg p v).rst = s.rst := rfl
@[simp] theorem State.setEg_md (p : Nat) (v : EgsPort) : (s.setEg p v).md = s.md := rfl
@[simp] theorem State.setEg_adp (p : Nat) (v : EgsPort) : (s.setEg p v).adp = s.adp := rfl
@[simp] theorem State.setEg_img (p : Nat) (v : EgsPort) : (s.setEg p v).img = s.img := rfl
@[simp] theorem State.setEg_pds (p : Nat) (v : EgsPort) : (s.setEg p v).pds = s.pds := rfl
@[simp] theorem State.setEg_dma (p : Nat) (v : EgsPort) : (s.setEg p v).dma = s.dma := rfl
@[simp] theorem State.setEg_cff (p : Nat) (v : EgsPort) : (s.setEg p v).cff = s.cff := rfl
@[simp] theorem State.setEg_pmc (p : Nat) (v : EgsPort) : (s.setEg p v).pmc = s.pmc := rfl
@[simp] theorem State.setEg_ha (p : Nat) (v : EgsPort) : (s.setEg p v).ha = s.ha := rfl
@[simp] theorem State.setEg_hb (p : Nat) (v : EgsPort) : (s.setEg p v).hb = s.hb := rfl
@[simp] theorem State.setEg_mgt (p : Nat) (v : EgsPort) : (s.setEg p v).mgt = s.mgt := rfl
@[simp] theorem State.setEg_tap (p : Nat) (v : EgsPort) : (s.setEg p v).tap = s.tap := rfl
@[simp] theorem State.setEg_pools (p : Nat) (v : EgsPort) : (s.setEg p v).pools = s.pools := rfl
@[simp] theorem State.setEg_sram (p : Nat) (v : EgsPort) : (s.setEg p v).sram = s.sram := rfl
@[simp] theorem State.setEg_sramLost (p : Nat) (v : EgsPort) : (s.setEg p v).sramLost = s.sramLost := rfl
@[simp] theorem State.setEg_frames (p : Nat) (v : EgsPort) : (s.setEg p v).frames = s.frames := rfl
@[simp] theorem State.setEg_nextFid (p : Nat) (v : EgsPort) : (s.setEg p v).nextFid = s.nextFid := rfl
@[simp] theorem State.setEg_events (p : Nat) (v : EgsPort) : (s.setEg p v).events = s.events := rfl
@[simp] theorem State.setEg_freeCtr (p : Nat) (v : EgsPort) : (s.setEg p v).freeCtr = s.freeCtr := rfl
@[simp] theorem State.setEg_out (p : Nat) (v : EgsPort) : (s.setEg p v).out = s.out := rfl
@[simp] theorem State.setEg_pending (p : Nat) (v : EgsPort) : (s.setEg p v).pending = s.pending := rfl
@[simp] theorem State.setEg_reg (p : Nat) (v : EgsPort) (q : RegSpec) (qi qj : Nat) : (s.setEg p v).reg q qi qj = s.reg q qi qj := rfl
@[simp] theorem State.setEg_get (p : Nat) (v : EgsPort) (q : Fld) (qi qj : Nat) : (s.setEg p v).get q qi qj = s.get q qi qj := rfl
@[simp] theorem State.setEg_bit (p : Nat) (v : EgsPort) (q : Fld) (qi qj : Nat) : (s.setEg p v).bit q qi qj = s.bit q qi qj := rfl

@[simp] theorem State.setFrame_regs (k : Nat) (v : Option Frame) : (s.setFrame k v).regs = s.regs := rfl
@[simp] theorem State.setFrame_snaps (k : Nat) (v : Option Frame) : (s.setFrame k v).snaps = s.snaps := rfl
@[simp] theorem State.setFrame_rsvd (k : Nat) (v : Option Frame) : (s.setFrame k v).rsvd = s.rsvd := rfl
@[simp] theorem State.setFrame_inv (k : Nat) (v : Option Frame) : (s.setFrame k v).inv = s.inv := rfl
@[simp] theorem State.setFrame_ports (k : Nat) (v : Option Frame) : (s.setFrame k v).ports = s.ports := rfl
@[simp] theorem State.setFrame_egs (k : Nat) (v : Option Frame) : (s.setFrame k v).egs = s.egs := rfl
@[simp] theorem State.setFrame_pol (k : Nat) (v : Option Frame) : (s.setFrame k v).pol = s.pol := rfl
@[simp] theorem State.setFrame_swc (k : Nat) (v : Option Frame) : (s.setFrame k v).swc = s.swc := rfl
@[simp] theorem State.setFrame_tin (k : Nat) (v : Option Frame) : (s.setFrame k v).tin = s.tin := rfl
@[simp] theorem State.setFrame_lkp (k : Nat) (v : Option Frame) : (s.setFrame k v).lkp = s.lkp := rfl
@[simp] theorem State.setFrame_twn (k : Nat) (v : Option Frame) : (s.setFrame k v).twn = s.twn := rfl
@[simp] theorem State.setFrame_rst (k : Nat) (v : Option Frame) : (s.setFrame k v).rst = s.rst := rfl
@[simp] theorem State.setFrame_md (k : Nat) (v : Option Frame) : (s.setFrame k v).md = s.md := rfl
@[simp] theorem State.setFrame_adp (k : Nat) (v : Option Frame) : (s.setFrame k v).adp = s.adp := rfl
@[simp] theorem State.setFrame_img (k : Nat) (v : Option Frame) : (s.setFrame k v).img = s.img := rfl
@[simp] theorem State.setFrame_pds (k : Nat) (v : Option Frame) : (s.setFrame k v).pds = s.pds := rfl
@[simp] theorem State.setFrame_dma (k : Nat) (v : Option Frame) : (s.setFrame k v).dma = s.dma := rfl
@[simp] theorem State.setFrame_cff (k : Nat) (v : Option Frame) : (s.setFrame k v).cff = s.cff := rfl
@[simp] theorem State.setFrame_pmc (k : Nat) (v : Option Frame) : (s.setFrame k v).pmc = s.pmc := rfl
@[simp] theorem State.setFrame_ha (k : Nat) (v : Option Frame) : (s.setFrame k v).ha = s.ha := rfl
@[simp] theorem State.setFrame_hb (k : Nat) (v : Option Frame) : (s.setFrame k v).hb = s.hb := rfl
@[simp] theorem State.setFrame_mgt (k : Nat) (v : Option Frame) : (s.setFrame k v).mgt = s.mgt := rfl
@[simp] theorem State.setFrame_tap (k : Nat) (v : Option Frame) : (s.setFrame k v).tap = s.tap := rfl
@[simp] theorem State.setFrame_pools (k : Nat) (v : Option Frame) : (s.setFrame k v).pools = s.pools := rfl
@[simp] theorem State.setFrame_sram (k : Nat) (v : Option Frame) : (s.setFrame k v).sram = s.sram := rfl
@[simp] theorem State.setFrame_sramLost (k : Nat) (v : Option Frame) : (s.setFrame k v).sramLost = s.sramLost := rfl
@[simp] theorem State.setFrame_nextFid (k : Nat) (v : Option Frame) : (s.setFrame k v).nextFid = s.nextFid := rfl
@[simp] theorem State.setFrame_events (k : Nat) (v : Option Frame) : (s.setFrame k v).events = s.events := rfl
@[simp] theorem State.setFrame_freeCtr (k : Nat) (v : Option Frame) : (s.setFrame k v).freeCtr = s.freeCtr := rfl
@[simp] theorem State.setFrame_out (k : Nat) (v : Option Frame) : (s.setFrame k v).out = s.out := rfl
@[simp] theorem State.setFrame_pending (k : Nat) (v : Option Frame) : (s.setFrame k v).pending = s.pending := rfl
@[simp] theorem State.setFrame_reg (k : Nat) (v : Option Frame) (q : RegSpec) (qi qj : Nat) : (s.setFrame k v).reg q qi qj = s.reg q qi qj := rfl
@[simp] theorem State.setFrame_get (k : Nat) (v : Option Frame) (q : Fld) (qi qj : Nat) : (s.setFrame k v).get q qi qj = s.get q qi qj := rfl
@[simp] theorem State.setFrame_bit (k : Nat) (v : Option Frame) (q : Fld) (qi qj : Nat) : (s.setFrame k v).bit q qi qj = s.bit q qi qj := rfl

@[simp] theorem State.modFrame_regs (k : Nat) (g : Frame → Frame) : (s.modFrame k g).regs = s.regs := by unfold State.modFrame; split <;> rfl
@[simp] theorem State.modFrame_snaps (k : Nat) (g : Frame → Frame) : (s.modFrame k g).snaps = s.snaps := by unfold State.modFrame; split <;> rfl
@[simp] theorem State.modFrame_rsvd (k : Nat) (g : Frame → Frame) : (s.modFrame k g).rsvd = s.rsvd := by unfold State.modFrame; split <;> rfl
@[simp] theorem State.modFrame_inv (k : Nat) (g : Frame → Frame) : (s.modFrame k g).inv = s.inv := by unfold State.modFrame; split <;> rfl
@[simp] theorem State.modFrame_ports (k : Nat) (g : Frame → Frame) : (s.modFrame k g).ports = s.ports := by unfold State.modFrame; split <;> rfl
@[simp] theorem State.modFrame_egs (k : Nat) (g : Frame → Frame) : (s.modFrame k g).egs = s.egs := by unfold State.modFrame; split <;> rfl
@[simp] theorem State.modFrame_pol (k : Nat) (g : Frame → Frame) : (s.modFrame k g).pol = s.pol := by unfold State.modFrame; split <;> rfl
@[simp] theorem State.modFrame_swc (k : Nat) (g : Frame → Frame) : (s.modFrame k g).swc = s.swc := by unfold State.modFrame; split <;> rfl
@[simp] theorem State.modFrame_tin (k : Nat) (g : Frame → Frame) : (s.modFrame k g).tin = s.tin := by unfold State.modFrame; split <;> rfl
@[simp] theorem State.modFrame_lkp (k : Nat) (g : Frame → Frame) : (s.modFrame k g).lkp = s.lkp := by unfold State.modFrame; split <;> rfl
@[simp] theorem State.modFrame_twn (k : Nat) (g : Frame → Frame) : (s.modFrame k g).twn = s.twn := by unfold State.modFrame; split <;> rfl
@[simp] theorem State.modFrame_rst (k : Nat) (g : Frame → Frame) : (s.modFrame k g).rst = s.rst := by unfold State.modFrame; split <;> rfl
@[simp] theorem State.modFrame_md (k : Nat) (g : Frame → Frame) : (s.modFrame k g).md = s.md := by unfold State.modFrame; split <;> rfl
@[simp] theorem State.modFrame_adp (k : Nat) (g : Frame → Frame) : (s.modFrame k g).adp = s.adp := by unfold State.modFrame; split <;> rfl
@[simp] theorem State.modFrame_img (k : Nat) (g : Frame → Frame) : (s.modFrame k g).img = s.img := by unfold State.modFrame; split <;> rfl
@[simp] theorem State.modFrame_pds (k : Nat) (g : Frame → Frame) : (s.modFrame k g).pds = s.pds := by unfold State.modFrame; split <;> rfl
@[simp] theorem State.modFrame_dma (k : Nat) (g : Frame → Frame) : (s.modFrame k g).dma = s.dma := by unfold State.modFrame; split <;> rfl
@[simp] theorem State.modFrame_cff (k : Nat) (g : Frame → Frame) : (s.modFrame k g).cff = s.cff := by unfold State.modFrame; split <;> rfl
@[simp] theorem State.modFrame_pmc (k : Nat) (g : Frame → Frame) : (s.modFrame k g).pmc = s.pmc := by unfold State.modFrame; split <;> rfl
@[simp] theorem State.modFrame_ha (k : Nat) (g : Frame → Frame) : (s.modFrame k g).ha = s.ha := by unfold State.modFrame; split <;> rfl
@[simp] theorem State.modFrame_hb (k : Nat) (g : Frame → Frame) : (s.modFrame k g).hb = s.hb := by unfold State.modFrame; split <;> rfl
@[simp] theorem State.modFrame_mgt (k : Nat) (g : Frame → Frame) : (s.modFrame k g).mgt = s.mgt := by unfold State.modFrame; split <;> rfl
@[simp] theorem State.modFrame_tap (k : Nat) (g : Frame → Frame) : (s.modFrame k g).tap = s.tap := by unfold State.modFrame; split <;> rfl
@[simp] theorem State.modFrame_pools (k : Nat) (g : Frame → Frame) : (s.modFrame k g).pools = s.pools := by unfold State.modFrame; split <;> rfl
@[simp] theorem State.modFrame_sram (k : Nat) (g : Frame → Frame) : (s.modFrame k g).sram = s.sram := by unfold State.modFrame; split <;> rfl
@[simp] theorem State.modFrame_sramLost (k : Nat) (g : Frame → Frame) : (s.modFrame k g).sramLost = s.sramLost := by unfold State.modFrame; split <;> rfl
@[simp] theorem State.modFrame_nextFid (k : Nat) (g : Frame → Frame) : (s.modFrame k g).nextFid = s.nextFid := by unfold State.modFrame; split <;> rfl
@[simp] theorem State.modFrame_events (k : Nat) (g : Frame → Frame) : (s.modFrame k g).events = s.events := by unfold State.modFrame; split <;> rfl
@[simp] theorem State.modFrame_freeCtr (k : Nat) (g : Frame → Frame) : (s.modFrame k g).freeCtr = s.freeCtr := by unfold State.modFrame; split <;> rfl
@[simp] theorem State.modFrame_out (k : Nat) (g : Frame → Frame) : (s.modFrame k g).out = s.out := by unfold State.modFrame; split <;> rfl
@[simp] theorem State.modFrame_pending (k : Nat) (g : Frame → Frame) : (s.modFrame k g).pending = s.pending := by unfold State.modFrame; split <;> rfl
@[simp] theorem State.modFrame_reg (k : Nat) (g : Frame → Frame) (q : RegSpec) (qi qj : Nat) : (s.modFrame k g).reg q qi qj = s.reg q qi qj := by unfold State.modFrame; split <;> rfl
@[simp] theorem State.modFrame_get (k : Nat) (g : Frame → Frame) (q : Fld) (qi qj : Nat) : (s.modFrame k g).get q qi qj = s.get q qi qj := by unfold State.modFrame; split <;> rfl
@[simp] theorem State.modFrame_bit (k : Nat) (g : Frame → Frame) (q : Fld) (qi qj : Nat) : (s.modFrame k g).bit q qi qj = s.bit q qi qj := by unfold State.modFrame; split <;> rfl

@[simp] theorem State.setList_regs (n : Nat) (v : List Copy) : (s.setList n v).regs = s.regs := rfl
@[simp] theorem State.setList_snaps (n : Nat) (v : List Copy) : (s.setList n v).snaps = s.snaps := rfl
@[simp] theorem State.setList_rsvd (n : Nat) (v : List Copy) : (s.setList n v).rsvd = s.rsvd := rfl
@[simp] theorem State.setList_inv (n : Nat) (v : List Copy) : (s.setList n v).inv = s.inv := rfl
@[simp] theorem State.setList_ports (n : Nat) (v : List Copy) : (s.setList n v).ports = s.ports := rfl
@[simp] theorem State.setList_egs (n : Nat) (v : List Copy) : (s.setList n v).egs = s.egs := rfl
@[simp] theorem State.setList_pol (n : Nat) (v : List Copy) : (s.setList n v).pol = s.pol := rfl
@[simp] theorem State.setList_tin (n : Nat) (v : List Copy) : (s.setList n v).tin = s.tin := rfl
@[simp] theorem State.setList_lkp (n : Nat) (v : List Copy) : (s.setList n v).lkp = s.lkp := rfl
@[simp] theorem State.setList_twn (n : Nat) (v : List Copy) : (s.setList n v).twn = s.twn := rfl
@[simp] theorem State.setList_rst (n : Nat) (v : List Copy) : (s.setList n v).rst = s.rst := rfl
@[simp] theorem State.setList_md (n : Nat) (v : List Copy) : (s.setList n v).md = s.md := rfl
@[simp] theorem State.setList_adp (n : Nat) (v : List Copy) : (s.setList n v).adp = s.adp := rfl
@[simp] theorem State.setList_img (n : Nat) (v : List Copy) : (s.setList n v).img = s.img := rfl
@[simp] theorem State.setList_pds (n : Nat) (v : List Copy) : (s.setList n v).pds = s.pds := rfl
@[simp] theorem State.setList_dma (n : Nat) (v : List Copy) : (s.setList n v).dma = s.dma := rfl
@[simp] theorem State.setList_cff (n : Nat) (v : List Copy) : (s.setList n v).cff = s.cff := rfl
@[simp] theorem State.setList_pmc (n : Nat) (v : List Copy) : (s.setList n v).pmc = s.pmc := rfl
@[simp] theorem State.setList_ha (n : Nat) (v : List Copy) : (s.setList n v).ha = s.ha := rfl
@[simp] theorem State.setList_hb (n : Nat) (v : List Copy) : (s.setList n v).hb = s.hb := rfl
@[simp] theorem State.setList_mgt (n : Nat) (v : List Copy) : (s.setList n v).mgt = s.mgt := rfl
@[simp] theorem State.setList_tap (n : Nat) (v : List Copy) : (s.setList n v).tap = s.tap := rfl
@[simp] theorem State.setList_pools (n : Nat) (v : List Copy) : (s.setList n v).pools = s.pools := rfl
@[simp] theorem State.setList_sram (n : Nat) (v : List Copy) : (s.setList n v).sram = s.sram := rfl
@[simp] theorem State.setList_sramLost (n : Nat) (v : List Copy) : (s.setList n v).sramLost = s.sramLost := rfl
@[simp] theorem State.setList_frames (n : Nat) (v : List Copy) : (s.setList n v).frames = s.frames := rfl
@[simp] theorem State.setList_nextFid (n : Nat) (v : List Copy) : (s.setList n v).nextFid = s.nextFid := rfl
@[simp] theorem State.setList_events (n : Nat) (v : List Copy) : (s.setList n v).events = s.events := rfl
@[simp] theorem State.setList_freeCtr (n : Nat) (v : List Copy) : (s.setList n v).freeCtr = s.freeCtr := rfl
@[simp] theorem State.setList_out (n : Nat) (v : List Copy) : (s.setList n v).out = s.out := rfl
@[simp] theorem State.setList_pending (n : Nat) (v : List Copy) : (s.setList n v).pending = s.pending := rfl
@[simp] theorem State.setList_reg (n : Nat) (v : List Copy) (q : RegSpec) (qi qj : Nat) : (s.setList n v).reg q qi qj = s.reg q qi qj := rfl
@[simp] theorem State.setList_get (n : Nat) (v : List Copy) (q : Fld) (qi qj : Nat) : (s.setList n v).get q qi qj = s.get q qi qj := rfl
@[simp] theorem State.setList_bit (n : Nat) (v : List Copy) (q : Fld) (qi qj : Nat) : (s.setList n v).bit q qi qj = s.bit q qi qj := rfl

@[simp] theorem State.setPipe_regs (p : Nat) (v : Pipe) : (s.setPipe p v).regs = s.regs := rfl
@[simp] theorem State.setPipe_snaps (p : Nat) (v : Pipe) : (s.setPipe p v).snaps = s.snaps := rfl
@[simp] theorem State.setPipe_rsvd (p : Nat) (v : Pipe) : (s.setPipe p v).rsvd = s.rsvd := rfl
@[simp] theorem State.setPipe_inv (p : Nat) (v : Pipe) : (s.setPipe p v).inv = s.inv := rfl
@[simp] theorem State.setPipe_ports (p : Nat) (v : Pipe) : (s.setPipe p v).ports = s.ports := rfl
@[simp] theorem State.setPipe_egs (p : Nat) (v : Pipe) : (s.setPipe p v).egs = s.egs := rfl
@[simp] theorem State.setPipe_pol (p : Nat) (v : Pipe) : (s.setPipe p v).pol = s.pol := rfl
@[simp] theorem State.setPipe_swc (p : Nat) (v : Pipe) : (s.setPipe p v).swc = s.swc := rfl
@[simp] theorem State.setPipe_lkp (p : Nat) (v : Pipe) : (s.setPipe p v).lkp = s.lkp := rfl
@[simp] theorem State.setPipe_twn (p : Nat) (v : Pipe) : (s.setPipe p v).twn = s.twn := rfl
@[simp] theorem State.setPipe_rst (p : Nat) (v : Pipe) : (s.setPipe p v).rst = s.rst := rfl
@[simp] theorem State.setPipe_md (p : Nat) (v : Pipe) : (s.setPipe p v).md = s.md := rfl
@[simp] theorem State.setPipe_adp (p : Nat) (v : Pipe) : (s.setPipe p v).adp = s.adp := rfl
@[simp] theorem State.setPipe_img (p : Nat) (v : Pipe) : (s.setPipe p v).img = s.img := rfl
@[simp] theorem State.setPipe_pds (p : Nat) (v : Pipe) : (s.setPipe p v).pds = s.pds := rfl
@[simp] theorem State.setPipe_dma (p : Nat) (v : Pipe) : (s.setPipe p v).dma = s.dma := rfl
@[simp] theorem State.setPipe_cff (p : Nat) (v : Pipe) : (s.setPipe p v).cff = s.cff := rfl
@[simp] theorem State.setPipe_pmc (p : Nat) (v : Pipe) : (s.setPipe p v).pmc = s.pmc := rfl
@[simp] theorem State.setPipe_ha (p : Nat) (v : Pipe) : (s.setPipe p v).ha = s.ha := rfl
@[simp] theorem State.setPipe_hb (p : Nat) (v : Pipe) : (s.setPipe p v).hb = s.hb := rfl
@[simp] theorem State.setPipe_mgt (p : Nat) (v : Pipe) : (s.setPipe p v).mgt = s.mgt := rfl
@[simp] theorem State.setPipe_tap (p : Nat) (v : Pipe) : (s.setPipe p v).tap = s.tap := rfl
@[simp] theorem State.setPipe_pools (p : Nat) (v : Pipe) : (s.setPipe p v).pools = s.pools := rfl
@[simp] theorem State.setPipe_sram (p : Nat) (v : Pipe) : (s.setPipe p v).sram = s.sram := rfl
@[simp] theorem State.setPipe_sramLost (p : Nat) (v : Pipe) : (s.setPipe p v).sramLost = s.sramLost := rfl
@[simp] theorem State.setPipe_frames (p : Nat) (v : Pipe) : (s.setPipe p v).frames = s.frames := rfl
@[simp] theorem State.setPipe_nextFid (p : Nat) (v : Pipe) : (s.setPipe p v).nextFid = s.nextFid := rfl
@[simp] theorem State.setPipe_events (p : Nat) (v : Pipe) : (s.setPipe p v).events = s.events := rfl
@[simp] theorem State.setPipe_freeCtr (p : Nat) (v : Pipe) : (s.setPipe p v).freeCtr = s.freeCtr := rfl
@[simp] theorem State.setPipe_out (p : Nat) (v : Pipe) : (s.setPipe p v).out = s.out := rfl
@[simp] theorem State.setPipe_pending (p : Nat) (v : Pipe) : (s.setPipe p v).pending = s.pending := rfl
@[simp] theorem State.setPipe_reg (p : Nat) (v : Pipe) (q : RegSpec) (qi qj : Nat) : (s.setPipe p v).reg q qi qj = s.reg q qi qj := rfl
@[simp] theorem State.setPipe_get (p : Nat) (v : Pipe) (q : Fld) (qi qj : Nat) : (s.setPipe p v).get q qi qj = s.get q qi qj := rfl
@[simp] theorem State.setPipe_bit (p : Nat) (v : Pipe) (q : Fld) (qi qj : Nat) : (s.setPipe p v).bit q qi qj = s.bit q qi qj := rfl

@[simp] theorem State.setDom_regs (d : Nat) (v : Domain) : (s.setDom d v).regs = s.regs := rfl
@[simp] theorem State.setDom_snaps (d : Nat) (v : Domain) : (s.setDom d v).snaps = s.snaps := rfl
@[simp] theorem State.setDom_rsvd (d : Nat) (v : Domain) : (s.setDom d v).rsvd = s.rsvd := rfl
@[simp] theorem State.setDom_ports (d : Nat) (v : Domain) : (s.setDom d v).ports = s.ports := rfl
@[simp] theorem State.setDom_egs (d : Nat) (v : Domain) : (s.setDom d v).egs = s.egs := rfl
@[simp] theorem State.setDom_pol (d : Nat) (v : Domain) : (s.setDom d v).pol = s.pol := rfl
@[simp] theorem State.setDom_swc (d : Nat) (v : Domain) : (s.setDom d v).swc = s.swc := rfl
@[simp] theorem State.setDom_tin (d : Nat) (v : Domain) : (s.setDom d v).tin = s.tin := rfl
@[simp] theorem State.setDom_lkp (d : Nat) (v : Domain) : (s.setDom d v).lkp = s.lkp := rfl
@[simp] theorem State.setDom_twn (d : Nat) (v : Domain) : (s.setDom d v).twn = s.twn := rfl
@[simp] theorem State.setDom_rst (d : Nat) (v : Domain) : (s.setDom d v).rst = s.rst := rfl
@[simp] theorem State.setDom_md (d : Nat) (v : Domain) : (s.setDom d v).md = s.md := rfl
@[simp] theorem State.setDom_adp (d : Nat) (v : Domain) : (s.setDom d v).adp = s.adp := rfl
@[simp] theorem State.setDom_img (d : Nat) (v : Domain) : (s.setDom d v).img = s.img := rfl
@[simp] theorem State.setDom_pds (d : Nat) (v : Domain) : (s.setDom d v).pds = s.pds := rfl
@[simp] theorem State.setDom_dma (d : Nat) (v : Domain) : (s.setDom d v).dma = s.dma := rfl
@[simp] theorem State.setDom_cff (d : Nat) (v : Domain) : (s.setDom d v).cff = s.cff := rfl
@[simp] theorem State.setDom_pmc (d : Nat) (v : Domain) : (s.setDom d v).pmc = s.pmc := rfl
@[simp] theorem State.setDom_ha (d : Nat) (v : Domain) : (s.setDom d v).ha = s.ha := rfl
@[simp] theorem State.setDom_hb (d : Nat) (v : Domain) : (s.setDom d v).hb = s.hb := rfl
@[simp] theorem State.setDom_mgt (d : Nat) (v : Domain) : (s.setDom d v).mgt = s.mgt := rfl
@[simp] theorem State.setDom_tap (d : Nat) (v : Domain) : (s.setDom d v).tap = s.tap := rfl
@[simp] theorem State.setDom_pools (d : Nat) (v : Domain) : (s.setDom d v).pools = s.pools := rfl
@[simp] theorem State.setDom_sram (d : Nat) (v : Domain) : (s.setDom d v).sram = s.sram := rfl
@[simp] theorem State.setDom_sramLost (d : Nat) (v : Domain) : (s.setDom d v).sramLost = s.sramLost := rfl
@[simp] theorem State.setDom_frames (d : Nat) (v : Domain) : (s.setDom d v).frames = s.frames := rfl
@[simp] theorem State.setDom_nextFid (d : Nat) (v : Domain) : (s.setDom d v).nextFid = s.nextFid := rfl
@[simp] theorem State.setDom_events (d : Nat) (v : Domain) : (s.setDom d v).events = s.events := rfl
@[simp] theorem State.setDom_freeCtr (d : Nat) (v : Domain) : (s.setDom d v).freeCtr = s.freeCtr := rfl
@[simp] theorem State.setDom_out (d : Nat) (v : Domain) : (s.setDom d v).out = s.out := rfl
@[simp] theorem State.setDom_pending (d : Nat) (v : Domain) : (s.setDom d v).pending = s.pending := rfl
@[simp] theorem State.setDom_reg (d : Nat) (v : Domain) (q : RegSpec) (qi qj : Nat) : (s.setDom d v).reg q qi qj = s.reg q qi qj := rfl
@[simp] theorem State.setDom_get (d : Nat) (v : Domain) (q : Fld) (qi qj : Nat) : (s.setDom d v).get q qi qj = s.get q qi qj := rfl
@[simp] theorem State.setDom_bit (d : Nat) (v : Domain) (q : Fld) (qi qj : Nat) : (s.setDom d v).bit q qi qj = s.bit q qi qj := rfl

@[simp] theorem State.setTio_regs (i : Nat) (v : Tio) : (s.setTio i v).regs = s.regs := rfl
@[simp] theorem State.setTio_snaps (i : Nat) (v : Tio) : (s.setTio i v).snaps = s.snaps := rfl
@[simp] theorem State.setTio_rsvd (i : Nat) (v : Tio) : (s.setTio i v).rsvd = s.rsvd := rfl
@[simp] theorem State.setTio_ports (i : Nat) (v : Tio) : (s.setTio i v).ports = s.ports := rfl
@[simp] theorem State.setTio_egs (i : Nat) (v : Tio) : (s.setTio i v).egs = s.egs := rfl
@[simp] theorem State.setTio_pol (i : Nat) (v : Tio) : (s.setTio i v).pol = s.pol := rfl
@[simp] theorem State.setTio_swc (i : Nat) (v : Tio) : (s.setTio i v).swc = s.swc := rfl
@[simp] theorem State.setTio_tin (i : Nat) (v : Tio) : (s.setTio i v).tin = s.tin := rfl
@[simp] theorem State.setTio_lkp (i : Nat) (v : Tio) : (s.setTio i v).lkp = s.lkp := rfl
@[simp] theorem State.setTio_twn (i : Nat) (v : Tio) : (s.setTio i v).twn = s.twn := rfl
@[simp] theorem State.setTio_rst (i : Nat) (v : Tio) : (s.setTio i v).rst = s.rst := rfl
@[simp] theorem State.setTio_md (i : Nat) (v : Tio) : (s.setTio i v).md = s.md := rfl
@[simp] theorem State.setTio_adp (i : Nat) (v : Tio) : (s.setTio i v).adp = s.adp := rfl
@[simp] theorem State.setTio_img (i : Nat) (v : Tio) : (s.setTio i v).img = s.img := rfl
@[simp] theorem State.setTio_pds (i : Nat) (v : Tio) : (s.setTio i v).pds = s.pds := rfl
@[simp] theorem State.setTio_dma (i : Nat) (v : Tio) : (s.setTio i v).dma = s.dma := rfl
@[simp] theorem State.setTio_cff (i : Nat) (v : Tio) : (s.setTio i v).cff = s.cff := rfl
@[simp] theorem State.setTio_pmc (i : Nat) (v : Tio) : (s.setTio i v).pmc = s.pmc := rfl
@[simp] theorem State.setTio_ha (i : Nat) (v : Tio) : (s.setTio i v).ha = s.ha := rfl
@[simp] theorem State.setTio_hb (i : Nat) (v : Tio) : (s.setTio i v).hb = s.hb := rfl
@[simp] theorem State.setTio_mgt (i : Nat) (v : Tio) : (s.setTio i v).mgt = s.mgt := rfl
@[simp] theorem State.setTio_tap (i : Nat) (v : Tio) : (s.setTio i v).tap = s.tap := rfl
@[simp] theorem State.setTio_pools (i : Nat) (v : Tio) : (s.setTio i v).pools = s.pools := rfl
@[simp] theorem State.setTio_sram (i : Nat) (v : Tio) : (s.setTio i v).sram = s.sram := rfl
@[simp] theorem State.setTio_sramLost (i : Nat) (v : Tio) : (s.setTio i v).sramLost = s.sramLost := rfl
@[simp] theorem State.setTio_frames (i : Nat) (v : Tio) : (s.setTio i v).frames = s.frames := rfl
@[simp] theorem State.setTio_nextFid (i : Nat) (v : Tio) : (s.setTio i v).nextFid = s.nextFid := rfl
@[simp] theorem State.setTio_events (i : Nat) (v : Tio) : (s.setTio i v).events = s.events := rfl
@[simp] theorem State.setTio_freeCtr (i : Nat) (v : Tio) : (s.setTio i v).freeCtr = s.freeCtr := rfl
@[simp] theorem State.setTio_out (i : Nat) (v : Tio) : (s.setTio i v).out = s.out := rfl
@[simp] theorem State.setTio_pending (i : Nat) (v : Tio) : (s.setTio i v).pending = s.pending := rfl
@[simp] theorem State.setTio_reg (i : Nat) (v : Tio) (q : RegSpec) (qi qj : Nat) : (s.setTio i v).reg q qi qj = s.reg q qi qj := rfl
@[simp] theorem State.setTio_get (i : Nat) (v : Tio) (q : Fld) (qi qj : Nat) : (s.setTio i v).get q qi qj = s.get q qi qj := rfl
@[simp] theorem State.setTio_bit (i : Nat) (v : Tio) (q : Fld) (qi qj : Nat) : (s.setTio i v).bit q qi qj = s.bit q qi qj := rfl

@[simp] theorem State.setTwn_regs (t : TwnState) : (s.setTwn t).regs = s.regs := rfl
@[simp] theorem State.setTwn_snaps (t : TwnState) : (s.setTwn t).snaps = s.snaps := rfl
@[simp] theorem State.setTwn_rsvd (t : TwnState) : (s.setTwn t).rsvd = s.rsvd := rfl
@[simp] theorem State.setTwn_inv (t : TwnState) : (s.setTwn t).inv = s.inv := rfl
@[simp] theorem State.setTwn_ports (t : TwnState) : (s.setTwn t).ports = s.ports := rfl
@[simp] theorem State.setTwn_egs (t : TwnState) : (s.setTwn t).egs = s.egs := rfl
@[simp] theorem State.setTwn_pol (t : TwnState) : (s.setTwn t).pol = s.pol := rfl
@[simp] theorem State.setTwn_swc (t : TwnState) : (s.setTwn t).swc = s.swc := rfl
@[simp] theorem State.setTwn_tin (t : TwnState) : (s.setTwn t).tin = s.tin := rfl
@[simp] theorem State.setTwn_lkp (t : TwnState) : (s.setTwn t).lkp = s.lkp := rfl
@[simp] theorem State.setTwn_rst (t : TwnState) : (s.setTwn t).rst = s.rst := rfl
@[simp] theorem State.setTwn_md (t : TwnState) : (s.setTwn t).md = s.md := rfl
@[simp] theorem State.setTwn_adp (t : TwnState) : (s.setTwn t).adp = s.adp := rfl
@[simp] theorem State.setTwn_img (t : TwnState) : (s.setTwn t).img = s.img := rfl
@[simp] theorem State.setTwn_pds (t : TwnState) : (s.setTwn t).pds = s.pds := rfl
@[simp] theorem State.setTwn_dma (t : TwnState) : (s.setTwn t).dma = s.dma := rfl
@[simp] theorem State.setTwn_cff (t : TwnState) : (s.setTwn t).cff = s.cff := rfl
@[simp] theorem State.setTwn_pmc (t : TwnState) : (s.setTwn t).pmc = s.pmc := rfl
@[simp] theorem State.setTwn_ha (t : TwnState) : (s.setTwn t).ha = s.ha := rfl
@[simp] theorem State.setTwn_hb (t : TwnState) : (s.setTwn t).hb = s.hb := rfl
@[simp] theorem State.setTwn_mgt (t : TwnState) : (s.setTwn t).mgt = s.mgt := rfl
@[simp] theorem State.setTwn_tap (t : TwnState) : (s.setTwn t).tap = s.tap := rfl
@[simp] theorem State.setTwn_pools (t : TwnState) : (s.setTwn t).pools = s.pools := rfl
@[simp] theorem State.setTwn_sram (t : TwnState) : (s.setTwn t).sram = s.sram := rfl
@[simp] theorem State.setTwn_sramLost (t : TwnState) : (s.setTwn t).sramLost = s.sramLost := rfl
@[simp] theorem State.setTwn_frames (t : TwnState) : (s.setTwn t).frames = s.frames := rfl
@[simp] theorem State.setTwn_nextFid (t : TwnState) : (s.setTwn t).nextFid = s.nextFid := rfl
@[simp] theorem State.setTwn_events (t : TwnState) : (s.setTwn t).events = s.events := rfl
@[simp] theorem State.setTwn_freeCtr (t : TwnState) : (s.setTwn t).freeCtr = s.freeCtr := rfl
@[simp] theorem State.setTwn_out (t : TwnState) : (s.setTwn t).out = s.out := rfl
@[simp] theorem State.setTwn_pending (t : TwnState) : (s.setTwn t).pending = s.pending := rfl
@[simp] theorem State.setTwn_reg (t : TwnState) (q : RegSpec) (qi qj : Nat) : (s.setTwn t).reg q qi qj = s.reg q qi qj := rfl
@[simp] theorem State.setTwn_get (t : TwnState) (q : Fld) (qi qj : Nat) : (s.setTwn t).get q qi qj = s.get q qi qj := rfl
@[simp] theorem State.setTwn_bit (t : TwnState) (q : Fld) (qi qj : Nat) : (s.setTwn t).bit q qi qj = s.bit q qi qj := rfl

@[simp] theorem State.setPds_regs (p : PdsState) : (s.setPds p).regs = s.regs := rfl
@[simp] theorem State.setPds_snaps (p : PdsState) : (s.setPds p).snaps = s.snaps := rfl
@[simp] theorem State.setPds_rsvd (p : PdsState) : (s.setPds p).rsvd = s.rsvd := rfl
@[simp] theorem State.setPds_inv (p : PdsState) : (s.setPds p).inv = s.inv := rfl
@[simp] theorem State.setPds_ports (p : PdsState) : (s.setPds p).ports = s.ports := rfl
@[simp] theorem State.setPds_egs (p : PdsState) : (s.setPds p).egs = s.egs := rfl
@[simp] theorem State.setPds_pol (p : PdsState) : (s.setPds p).pol = s.pol := rfl
@[simp] theorem State.setPds_swc (p : PdsState) : (s.setPds p).swc = s.swc := rfl
@[simp] theorem State.setPds_tin (p : PdsState) : (s.setPds p).tin = s.tin := rfl
@[simp] theorem State.setPds_lkp (p : PdsState) : (s.setPds p).lkp = s.lkp := rfl
@[simp] theorem State.setPds_twn (p : PdsState) : (s.setPds p).twn = s.twn := rfl
@[simp] theorem State.setPds_rst (p : PdsState) : (s.setPds p).rst = s.rst := rfl
@[simp] theorem State.setPds_md (p : PdsState) : (s.setPds p).md = s.md := rfl
@[simp] theorem State.setPds_adp (p : PdsState) : (s.setPds p).adp = s.adp := rfl
@[simp] theorem State.setPds_img (p : PdsState) : (s.setPds p).img = s.img := rfl
@[simp] theorem State.setPds_dma (p : PdsState) : (s.setPds p).dma = s.dma := rfl
@[simp] theorem State.setPds_cff (p : PdsState) : (s.setPds p).cff = s.cff := rfl
@[simp] theorem State.setPds_pmc (p : PdsState) : (s.setPds p).pmc = s.pmc := rfl
@[simp] theorem State.setPds_ha (p : PdsState) : (s.setPds p).ha = s.ha := rfl
@[simp] theorem State.setPds_hb (p : PdsState) : (s.setPds p).hb = s.hb := rfl
@[simp] theorem State.setPds_mgt (p : PdsState) : (s.setPds p).mgt = s.mgt := rfl
@[simp] theorem State.setPds_tap (p : PdsState) : (s.setPds p).tap = s.tap := rfl
@[simp] theorem State.setPds_pools (p : PdsState) : (s.setPds p).pools = s.pools := rfl
@[simp] theorem State.setPds_sram (p : PdsState) : (s.setPds p).sram = s.sram := rfl
@[simp] theorem State.setPds_sramLost (p : PdsState) : (s.setPds p).sramLost = s.sramLost := rfl
@[simp] theorem State.setPds_frames (p : PdsState) : (s.setPds p).frames = s.frames := rfl
@[simp] theorem State.setPds_nextFid (p : PdsState) : (s.setPds p).nextFid = s.nextFid := rfl
@[simp] theorem State.setPds_events (p : PdsState) : (s.setPds p).events = s.events := rfl
@[simp] theorem State.setPds_freeCtr (p : PdsState) : (s.setPds p).freeCtr = s.freeCtr := rfl
@[simp] theorem State.setPds_out (p : PdsState) : (s.setPds p).out = s.out := rfl
@[simp] theorem State.setPds_pending (p : PdsState) : (s.setPds p).pending = s.pending := rfl
@[simp] theorem State.setPds_reg (p : PdsState) (q : RegSpec) (qi qj : Nat) : (s.setPds p).reg q qi qj = s.reg q qi qj := rfl
@[simp] theorem State.setPds_get (p : PdsState) (q : Fld) (qi qj : Nat) : (s.setPds p).get q qi qj = s.get q qi qj := rfl
@[simp] theorem State.setPds_bit (p : PdsState) (q : Fld) (qi qj : Nat) : (s.setPds p).bit q qi qj = s.bit q qi qj := rfl

@[simp] theorem State.setPmc_regs (p : PmcState) : (s.setPmc p).regs = s.regs := rfl
@[simp] theorem State.setPmc_snaps (p : PmcState) : (s.setPmc p).snaps = s.snaps := rfl
@[simp] theorem State.setPmc_rsvd (p : PmcState) : (s.setPmc p).rsvd = s.rsvd := rfl
@[simp] theorem State.setPmc_inv (p : PmcState) : (s.setPmc p).inv = s.inv := rfl
@[simp] theorem State.setPmc_ports (p : PmcState) : (s.setPmc p).ports = s.ports := rfl
@[simp] theorem State.setPmc_egs (p : PmcState) : (s.setPmc p).egs = s.egs := rfl
@[simp] theorem State.setPmc_pol (p : PmcState) : (s.setPmc p).pol = s.pol := rfl
@[simp] theorem State.setPmc_swc (p : PmcState) : (s.setPmc p).swc = s.swc := rfl
@[simp] theorem State.setPmc_tin (p : PmcState) : (s.setPmc p).tin = s.tin := rfl
@[simp] theorem State.setPmc_lkp (p : PmcState) : (s.setPmc p).lkp = s.lkp := rfl
@[simp] theorem State.setPmc_twn (p : PmcState) : (s.setPmc p).twn = s.twn := rfl
@[simp] theorem State.setPmc_rst (p : PmcState) : (s.setPmc p).rst = s.rst := rfl
@[simp] theorem State.setPmc_md (p : PmcState) : (s.setPmc p).md = s.md := rfl
@[simp] theorem State.setPmc_adp (p : PmcState) : (s.setPmc p).adp = s.adp := rfl
@[simp] theorem State.setPmc_img (p : PmcState) : (s.setPmc p).img = s.img := rfl
@[simp] theorem State.setPmc_pds (p : PmcState) : (s.setPmc p).pds = s.pds := rfl
@[simp] theorem State.setPmc_dma (p : PmcState) : (s.setPmc p).dma = s.dma := rfl
@[simp] theorem State.setPmc_cff (p : PmcState) : (s.setPmc p).cff = s.cff := rfl
@[simp] theorem State.setPmc_ha (p : PmcState) : (s.setPmc p).ha = s.ha := rfl
@[simp] theorem State.setPmc_hb (p : PmcState) : (s.setPmc p).hb = s.hb := rfl
@[simp] theorem State.setPmc_mgt (p : PmcState) : (s.setPmc p).mgt = s.mgt := rfl
@[simp] theorem State.setPmc_tap (p : PmcState) : (s.setPmc p).tap = s.tap := rfl
@[simp] theorem State.setPmc_pools (p : PmcState) : (s.setPmc p).pools = s.pools := rfl
@[simp] theorem State.setPmc_sram (p : PmcState) : (s.setPmc p).sram = s.sram := rfl
@[simp] theorem State.setPmc_sramLost (p : PmcState) : (s.setPmc p).sramLost = s.sramLost := rfl
@[simp] theorem State.setPmc_frames (p : PmcState) : (s.setPmc p).frames = s.frames := rfl
@[simp] theorem State.setPmc_nextFid (p : PmcState) : (s.setPmc p).nextFid = s.nextFid := rfl
@[simp] theorem State.setPmc_events (p : PmcState) : (s.setPmc p).events = s.events := rfl
@[simp] theorem State.setPmc_freeCtr (p : PmcState) : (s.setPmc p).freeCtr = s.freeCtr := rfl
@[simp] theorem State.setPmc_out (p : PmcState) : (s.setPmc p).out = s.out := rfl
@[simp] theorem State.setPmc_pending (p : PmcState) : (s.setPmc p).pending = s.pending := rfl
@[simp] theorem State.setPmc_reg (p : PmcState) (q : RegSpec) (qi qj : Nat) : (s.setPmc p).reg q qi qj = s.reg q qi qj := rfl
@[simp] theorem State.setPmc_get (p : PmcState) (q : Fld) (qi qj : Nat) : (s.setPmc p).get q qi qj = s.get q qi qj := rfl
@[simp] theorem State.setPmc_bit (p : PmcState) (q : Fld) (qi qj : Nat) : (s.setPmc p).bit q qi qj = s.bit q qi qj := rfl

@[simp] theorem State.setImg_regs (x : ImgState) : (s.setImg x).regs = s.regs := rfl
@[simp] theorem State.setImg_snaps (x : ImgState) : (s.setImg x).snaps = s.snaps := rfl
@[simp] theorem State.setImg_rsvd (x : ImgState) : (s.setImg x).rsvd = s.rsvd := rfl
@[simp] theorem State.setImg_inv (x : ImgState) : (s.setImg x).inv = s.inv := rfl
@[simp] theorem State.setImg_ports (x : ImgState) : (s.setImg x).ports = s.ports := rfl
@[simp] theorem State.setImg_egs (x : ImgState) : (s.setImg x).egs = s.egs := rfl
@[simp] theorem State.setImg_pol (x : ImgState) : (s.setImg x).pol = s.pol := rfl
@[simp] theorem State.setImg_swc (x : ImgState) : (s.setImg x).swc = s.swc := rfl
@[simp] theorem State.setImg_tin (x : ImgState) : (s.setImg x).tin = s.tin := rfl
@[simp] theorem State.setImg_lkp (x : ImgState) : (s.setImg x).lkp = s.lkp := rfl
@[simp] theorem State.setImg_twn (x : ImgState) : (s.setImg x).twn = s.twn := rfl
@[simp] theorem State.setImg_rst (x : ImgState) : (s.setImg x).rst = s.rst := rfl
@[simp] theorem State.setImg_md (x : ImgState) : (s.setImg x).md = s.md := rfl
@[simp] theorem State.setImg_adp (x : ImgState) : (s.setImg x).adp = s.adp := rfl
@[simp] theorem State.setImg_pds (x : ImgState) : (s.setImg x).pds = s.pds := rfl
@[simp] theorem State.setImg_dma (x : ImgState) : (s.setImg x).dma = s.dma := rfl
@[simp] theorem State.setImg_cff (x : ImgState) : (s.setImg x).cff = s.cff := rfl
@[simp] theorem State.setImg_pmc (x : ImgState) : (s.setImg x).pmc = s.pmc := rfl
@[simp] theorem State.setImg_ha (x : ImgState) : (s.setImg x).ha = s.ha := rfl
@[simp] theorem State.setImg_hb (x : ImgState) : (s.setImg x).hb = s.hb := rfl
@[simp] theorem State.setImg_mgt (x : ImgState) : (s.setImg x).mgt = s.mgt := rfl
@[simp] theorem State.setImg_tap (x : ImgState) : (s.setImg x).tap = s.tap := rfl
@[simp] theorem State.setImg_pools (x : ImgState) : (s.setImg x).pools = s.pools := rfl
@[simp] theorem State.setImg_sram (x : ImgState) : (s.setImg x).sram = s.sram := rfl
@[simp] theorem State.setImg_sramLost (x : ImgState) : (s.setImg x).sramLost = s.sramLost := rfl
@[simp] theorem State.setImg_frames (x : ImgState) : (s.setImg x).frames = s.frames := rfl
@[simp] theorem State.setImg_nextFid (x : ImgState) : (s.setImg x).nextFid = s.nextFid := rfl
@[simp] theorem State.setImg_events (x : ImgState) : (s.setImg x).events = s.events := rfl
@[simp] theorem State.setImg_freeCtr (x : ImgState) : (s.setImg x).freeCtr = s.freeCtr := rfl
@[simp] theorem State.setImg_out (x : ImgState) : (s.setImg x).out = s.out := rfl
@[simp] theorem State.setImg_pending (x : ImgState) : (s.setImg x).pending = s.pending := rfl
@[simp] theorem State.setImg_reg (x : ImgState) (q : RegSpec) (qi qj : Nat) : (s.setImg x).reg q qi qj = s.reg q qi qj := rfl
@[simp] theorem State.setImg_get (x : ImgState) (q : Fld) (qi qj : Nat) : (s.setImg x).get q qi qj = s.get q qi qj := rfl
@[simp] theorem State.setImg_bit (x : ImgState) (q : Fld) (qi qj : Nat) : (s.setImg x).bit q qi qj = s.bit q qi qj := rfl

@[simp] theorem State.setCff_regs (c : CffState) : (s.setCff c).regs = s.regs := rfl
@[simp] theorem State.setCff_snaps (c : CffState) : (s.setCff c).snaps = s.snaps := rfl
@[simp] theorem State.setCff_rsvd (c : CffState) : (s.setCff c).rsvd = s.rsvd := rfl
@[simp] theorem State.setCff_inv (c : CffState) : (s.setCff c).inv = s.inv := rfl
@[simp] theorem State.setCff_ports (c : CffState) : (s.setCff c).ports = s.ports := rfl
@[simp] theorem State.setCff_egs (c : CffState) : (s.setCff c).egs = s.egs := rfl
@[simp] theorem State.setCff_pol (c : CffState) : (s.setCff c).pol = s.pol := rfl
@[simp] theorem State.setCff_swc (c : CffState) : (s.setCff c).swc = s.swc := rfl
@[simp] theorem State.setCff_tin (c : CffState) : (s.setCff c).tin = s.tin := rfl
@[simp] theorem State.setCff_lkp (c : CffState) : (s.setCff c).lkp = s.lkp := rfl
@[simp] theorem State.setCff_twn (c : CffState) : (s.setCff c).twn = s.twn := rfl
@[simp] theorem State.setCff_rst (c : CffState) : (s.setCff c).rst = s.rst := rfl
@[simp] theorem State.setCff_md (c : CffState) : (s.setCff c).md = s.md := rfl
@[simp] theorem State.setCff_adp (c : CffState) : (s.setCff c).adp = s.adp := rfl
@[simp] theorem State.setCff_img (c : CffState) : (s.setCff c).img = s.img := rfl
@[simp] theorem State.setCff_pds (c : CffState) : (s.setCff c).pds = s.pds := rfl
@[simp] theorem State.setCff_dma (c : CffState) : (s.setCff c).dma = s.dma := rfl
@[simp] theorem State.setCff_pmc (c : CffState) : (s.setCff c).pmc = s.pmc := rfl
@[simp] theorem State.setCff_ha (c : CffState) : (s.setCff c).ha = s.ha := rfl
@[simp] theorem State.setCff_hb (c : CffState) : (s.setCff c).hb = s.hb := rfl
@[simp] theorem State.setCff_mgt (c : CffState) : (s.setCff c).mgt = s.mgt := rfl
@[simp] theorem State.setCff_tap (c : CffState) : (s.setCff c).tap = s.tap := rfl
@[simp] theorem State.setCff_pools (c : CffState) : (s.setCff c).pools = s.pools := rfl
@[simp] theorem State.setCff_sram (c : CffState) : (s.setCff c).sram = s.sram := rfl
@[simp] theorem State.setCff_sramLost (c : CffState) : (s.setCff c).sramLost = s.sramLost := rfl
@[simp] theorem State.setCff_frames (c : CffState) : (s.setCff c).frames = s.frames := rfl
@[simp] theorem State.setCff_nextFid (c : CffState) : (s.setCff c).nextFid = s.nextFid := rfl
@[simp] theorem State.setCff_events (c : CffState) : (s.setCff c).events = s.events := rfl
@[simp] theorem State.setCff_freeCtr (c : CffState) : (s.setCff c).freeCtr = s.freeCtr := rfl
@[simp] theorem State.setCff_out (c : CffState) : (s.setCff c).out = s.out := rfl
@[simp] theorem State.setCff_pending (c : CffState) : (s.setCff c).pending = s.pending := rfl
@[simp] theorem State.setCff_reg (c : CffState) (q : RegSpec) (qi qj : Nat) : (s.setCff c).reg q qi qj = s.reg q qi qj := rfl
@[simp] theorem State.setCff_get (c : CffState) (q : Fld) (qi qj : Nat) : (s.setCff c).get q qi qj = s.get q qi qj := rfl
@[simp] theorem State.setCff_bit (c : CffState) (q : Fld) (qi qj : Nat) : (s.setCff c).bit q qi qj = s.bit q qi qj := rfl

@[simp] theorem State.setAdp_regs (a : AdpState) : (s.setAdp a).regs = s.regs := rfl
@[simp] theorem State.setAdp_snaps (a : AdpState) : (s.setAdp a).snaps = s.snaps := rfl
@[simp] theorem State.setAdp_rsvd (a : AdpState) : (s.setAdp a).rsvd = s.rsvd := rfl
@[simp] theorem State.setAdp_inv (a : AdpState) : (s.setAdp a).inv = s.inv := rfl
@[simp] theorem State.setAdp_ports (a : AdpState) : (s.setAdp a).ports = s.ports := rfl
@[simp] theorem State.setAdp_egs (a : AdpState) : (s.setAdp a).egs = s.egs := rfl
@[simp] theorem State.setAdp_pol (a : AdpState) : (s.setAdp a).pol = s.pol := rfl
@[simp] theorem State.setAdp_swc (a : AdpState) : (s.setAdp a).swc = s.swc := rfl
@[simp] theorem State.setAdp_tin (a : AdpState) : (s.setAdp a).tin = s.tin := rfl
@[simp] theorem State.setAdp_lkp (a : AdpState) : (s.setAdp a).lkp = s.lkp := rfl
@[simp] theorem State.setAdp_twn (a : AdpState) : (s.setAdp a).twn = s.twn := rfl
@[simp] theorem State.setAdp_rst (a : AdpState) : (s.setAdp a).rst = s.rst := rfl
@[simp] theorem State.setAdp_md (a : AdpState) : (s.setAdp a).md = s.md := rfl
@[simp] theorem State.setAdp_img (a : AdpState) : (s.setAdp a).img = s.img := rfl
@[simp] theorem State.setAdp_pds (a : AdpState) : (s.setAdp a).pds = s.pds := rfl
@[simp] theorem State.setAdp_dma (a : AdpState) : (s.setAdp a).dma = s.dma := rfl
@[simp] theorem State.setAdp_cff (a : AdpState) : (s.setAdp a).cff = s.cff := rfl
@[simp] theorem State.setAdp_pmc (a : AdpState) : (s.setAdp a).pmc = s.pmc := rfl
@[simp] theorem State.setAdp_ha (a : AdpState) : (s.setAdp a).ha = s.ha := rfl
@[simp] theorem State.setAdp_hb (a : AdpState) : (s.setAdp a).hb = s.hb := rfl
@[simp] theorem State.setAdp_mgt (a : AdpState) : (s.setAdp a).mgt = s.mgt := rfl
@[simp] theorem State.setAdp_tap (a : AdpState) : (s.setAdp a).tap = s.tap := rfl
@[simp] theorem State.setAdp_pools (a : AdpState) : (s.setAdp a).pools = s.pools := rfl
@[simp] theorem State.setAdp_sram (a : AdpState) : (s.setAdp a).sram = s.sram := rfl
@[simp] theorem State.setAdp_sramLost (a : AdpState) : (s.setAdp a).sramLost = s.sramLost := rfl
@[simp] theorem State.setAdp_frames (a : AdpState) : (s.setAdp a).frames = s.frames := rfl
@[simp] theorem State.setAdp_nextFid (a : AdpState) : (s.setAdp a).nextFid = s.nextFid := rfl
@[simp] theorem State.setAdp_events (a : AdpState) : (s.setAdp a).events = s.events := rfl
@[simp] theorem State.setAdp_freeCtr (a : AdpState) : (s.setAdp a).freeCtr = s.freeCtr := rfl
@[simp] theorem State.setAdp_out (a : AdpState) : (s.setAdp a).out = s.out := rfl
@[simp] theorem State.setAdp_pending (a : AdpState) : (s.setAdp a).pending = s.pending := rfl
@[simp] theorem State.setAdp_reg (a : AdpState) (q : RegSpec) (qi qj : Nat) : (s.setAdp a).reg q qi qj = s.reg q qi qj := rfl
@[simp] theorem State.setAdp_get (a : AdpState) (q : Fld) (qi qj : Nat) : (s.setAdp a).get q qi qj = s.get q qi qj := rfl
@[simp] theorem State.setAdp_bit (a : AdpState) (q : Fld) (qi qj : Nat) : (s.setAdp a).bit q qi qj = s.bit q qi qj := rfl

@[simp] theorem State.setSnap_regs (h a : Nat) (w : Word) : (s.setSnap h a w).regs = s.regs := rfl
@[simp] theorem State.setSnap_rsvd (h a : Nat) (w : Word) : (s.setSnap h a w).rsvd = s.rsvd := rfl
@[simp] theorem State.setSnap_inv (h a : Nat) (w : Word) : (s.setSnap h a w).inv = s.inv := rfl
@[simp] theorem State.setSnap_ports (h a : Nat) (w : Word) : (s.setSnap h a w).ports = s.ports := rfl
@[simp] theorem State.setSnap_egs (h a : Nat) (w : Word) : (s.setSnap h a w).egs = s.egs := rfl
@[simp] theorem State.setSnap_pol (h a : Nat) (w : Word) : (s.setSnap h a w).pol = s.pol := rfl
@[simp] theorem State.setSnap_swc (h a : Nat) (w : Word) : (s.setSnap h a w).swc = s.swc := rfl
@[simp] theorem State.setSnap_tin (h a : Nat) (w : Word) : (s.setSnap h a w).tin = s.tin := rfl
@[simp] theorem State.setSnap_lkp (h a : Nat) (w : Word) : (s.setSnap h a w).lkp = s.lkp := rfl
@[simp] theorem State.setSnap_twn (h a : Nat) (w : Word) : (s.setSnap h a w).twn = s.twn := rfl
@[simp] theorem State.setSnap_rst (h a : Nat) (w : Word) : (s.setSnap h a w).rst = s.rst := rfl
@[simp] theorem State.setSnap_md (h a : Nat) (w : Word) : (s.setSnap h a w).md = s.md := rfl
@[simp] theorem State.setSnap_adp (h a : Nat) (w : Word) : (s.setSnap h a w).adp = s.adp := rfl
@[simp] theorem State.setSnap_img (h a : Nat) (w : Word) : (s.setSnap h a w).img = s.img := rfl
@[simp] theorem State.setSnap_pds (h a : Nat) (w : Word) : (s.setSnap h a w).pds = s.pds := rfl
@[simp] theorem State.setSnap_dma (h a : Nat) (w : Word) : (s.setSnap h a w).dma = s.dma := rfl
@[simp] theorem State.setSnap_cff (h a : Nat) (w : Word) : (s.setSnap h a w).cff = s.cff := rfl
@[simp] theorem State.setSnap_pmc (h a : Nat) (w : Word) : (s.setSnap h a w).pmc = s.pmc := rfl
@[simp] theorem State.setSnap_ha (h a : Nat) (w : Word) : (s.setSnap h a w).ha = s.ha := rfl
@[simp] theorem State.setSnap_hb (h a : Nat) (w : Word) : (s.setSnap h a w).hb = s.hb := rfl
@[simp] theorem State.setSnap_mgt (h a : Nat) (w : Word) : (s.setSnap h a w).mgt = s.mgt := rfl
@[simp] theorem State.setSnap_tap (h a : Nat) (w : Word) : (s.setSnap h a w).tap = s.tap := rfl
@[simp] theorem State.setSnap_pools (h a : Nat) (w : Word) : (s.setSnap h a w).pools = s.pools := rfl
@[simp] theorem State.setSnap_sram (h a : Nat) (w : Word) : (s.setSnap h a w).sram = s.sram := rfl
@[simp] theorem State.setSnap_sramLost (h a : Nat) (w : Word) : (s.setSnap h a w).sramLost = s.sramLost := rfl
@[simp] theorem State.setSnap_frames (h a : Nat) (w : Word) : (s.setSnap h a w).frames = s.frames := rfl
@[simp] theorem State.setSnap_nextFid (h a : Nat) (w : Word) : (s.setSnap h a w).nextFid = s.nextFid := rfl
@[simp] theorem State.setSnap_events (h a : Nat) (w : Word) : (s.setSnap h a w).events = s.events := rfl
@[simp] theorem State.setSnap_freeCtr (h a : Nat) (w : Word) : (s.setSnap h a w).freeCtr = s.freeCtr := rfl
@[simp] theorem State.setSnap_out (h a : Nat) (w : Word) : (s.setSnap h a w).out = s.out := rfl
@[simp] theorem State.setSnap_pending (h a : Nat) (w : Word) : (s.setSnap h a w).pending = s.pending := rfl
@[simp] theorem State.setSnap_reg (h a : Nat) (w : Word) (q : RegSpec) (qi qj : Nat) : (s.setSnap h a w).reg q qi qj = s.reg q qi qj := rfl
@[simp] theorem State.setSnap_get (h a : Nat) (w : Word) (q : Fld) (qi qj : Nat) : (s.setSnap h a w).get q qi qj = s.get q qi qj := rfl
@[simp] theorem State.setSnap_bit (h a : Nat) (w : Word) (q : Fld) (qi qj : Nat) : (s.setSnap h a w).bit q qi qj = s.bit q qi qj := rfl

end Sys2Proof.Machine
end

