-- ==== Sys2Proof/Laws/Tab.lean ====
section
/-! SUPPORT. The laws of the sparse tables: a value read after it is set, a set that leaves other keys alone, and the canonical form, which
every operation keeps. -/

namespace Sys2Proof.Machine

theorem tabFind_erase_same {α : Type} (k : Nat) (t : Tab α) : tabFind? k (tabErase k t) = none := by
  induction t with
  | nil => rfl
  | cons e t ih =>
    obtain ⟨j, v⟩ := e
    by_cases h : k = j <;> simp [tabErase, tabFind?, h]
    · subst h; exact ih
    · exact ih

theorem tabFind_erase_other {α : Type} {k k' : Nat} (h : k' ≠ k) (t : Tab α) : tabFind? k' (tabErase k t) = tabFind? k' t := by
  induction t with
  | nil => rfl
  | cons e t ih =>
    obtain ⟨j, v⟩ := e
    by_cases h1 : k = j
    · subst h1; simp [tabErase, tabFind?, h, ih]
    · by_cases h2 : k' = j <;> simp [tabErase, tabFind?, h1, h2, ih]

theorem tabFind_insert_same {α : Type} (k : Nat) (v : α) (t : Tab α) : tabFind? k (tabInsert k v t) = some v := by
  induction t with
  | nil => simp [tabInsert, tabFind?]
  | cons e t ih =>
    obtain ⟨j, w⟩ := e
    by_cases h1 : k = j
    · simp [tabInsert, tabFind?, h1]
    · by_cases h2 : k < j <;> simp [tabInsert, tabFind?, h1, h2, ih]

theorem tabFind_insert_other {α : Type} {k k' : Nat} (h : k' ≠ k) (v : α) (t : Tab α) : tabFind? k' (tabInsert k v t) = tabFind? k' t := by
  induction t with
  | nil => simp [tabInsert, tabFind?, h]
  | cons e t ih =>
    obtain ⟨j, w⟩ := e
    by_cases h1 : k = j
    · subst h1; simp [tabInsert, tabFind?, h]
    · by_cases h2 : k < j
      · simp [tabInsert, tabFind?, h1, h2, h]
      · by_cases h3 : k' = j <;> simp [tabInsert, tabFind?, h1, h2, h3, ih]

/-- A value set is the value read. -/
@[simp] theorem tabGet_set_same {α : Type} [DecidableEq α] (d : α) (t : Tab α) (k : Nat) (v : α) : tabGet d (tabSet d t k v) k = v := by
  by_cases h : v = d
  · simp [tabGet, tabSet, h, tabFind_erase_same]
  · simp [tabGet, tabSet, h, tabFind_insert_same]

/-- Setting a key leaves every other key alone, whatever default a reader uses. -/
theorem tabGet_set_other {α : Type} [DecidableEq α] (d d' : α) (t : Tab α) {k k' : Nat} (h : k' ≠ k) (v : α) :
    tabGet d' (tabSet d t k v) k' = tabGet d' t k' := by
  by_cases hv : v = d
  · simp [tabGet, tabSet, hv, tabFind_erase_other h]
  · simp [tabGet, tabSet, hv, tabFind_insert_other h]

/-- Both at once. -/
theorem tabGet_set {α : Type} [DecidableEq α] (d : α) (t : Tab α) (k k' : Nat) (v : α) :
    tabGet d (tabSet d t k v) k' = if k' = k then v else tabGet d t k' := by
  by_cases h : k' = k
  · subst h; simp
  · simp [h, tabGet_set_other d d t h]

@[simp] theorem tabGet_nil {α : Type} (d : α) (k : Nat) : tabGet d [] k = d := rfl

/-! ## The canonical form -/

theorem tabRising_mono {α : Type} {lo lo' : Nat} (h : lo' ≤ lo) {t : Tab α} (ht : tabRising lo t = true) : tabRising lo' t = true := by
  cases t with
  | nil => rfl
  | cons e t =>
    obtain ⟨j, v⟩ := e
    simp only [tabRising, Bool.and_eq_true, decide_eq_true_eq] at *
    exact ⟨le_trans h ht.1, ht.2⟩

theorem tabRising_erase {α : Type} (k : Nat) {lo : Nat} {t : Tab α} (h : tabRising lo t = true) : tabRising lo (tabErase k t) = true := by
  induction t generalizing lo with
  | nil => rfl
  | cons e t ih =>
    obtain ⟨j, v⟩ := e
    simp only [tabRising, Bool.and_eq_true, decide_eq_true_eq] at h
    by_cases h1 : k = j
    · have hr : tabRising lo t = true := tabRising_mono (by omega) h.2
      simp only [tabErase, h1, if_true]
      exact h1 ▸ ih hr
    · simp only [tabErase, h1, if_false, tabRising, Bool.and_eq_true, decide_eq_true_eq]
      exact ⟨h.1, ih h.2⟩

theorem tabRising_insert {α : Type} (k : Nat) (v : α) {lo : Nat} {t : Tab α} (hk : lo ≤ k) (h : tabRising lo t = true) :
    tabRising lo (tabInsert k v t) = true := by
  induction t generalizing lo with
  | nil => simp [tabInsert, tabRising, hk]
  | cons e t ih =>
    obtain ⟨j, w⟩ := e
    simp only [tabRising, Bool.and_eq_true, decide_eq_true_eq] at h
    by_cases h1 : k = j
    · simp only [tabInsert, h1, if_true, tabRising, Bool.and_eq_true, decide_eq_true_eq]
      exact ⟨h.1, h.2⟩
    · by_cases h2 : k < j
      · simp only [tabInsert, h1, h2, if_true, if_false, tabRising, Bool.and_eq_true, decide_eq_true_eq]
        exact ⟨hk, by omega, h.2⟩
      · simp only [tabInsert, h1, h2, if_false, tabRising, Bool.and_eq_true, decide_eq_true_eq]
        exact ⟨h.1, ih (by omega) h.2⟩

theorem tabAll_erase {α : Type} (p : α → Bool) (k : Nat) {t : Tab α} (h : t.all (fun e => p e.2) = true) :
    (tabErase k t).all (fun e => p e.2) = true := by
  induction t with
  | nil => rfl
  | cons e t ih =>
    obtain ⟨j, v⟩ := e
    simp only [List.all_cons, Bool.and_eq_true] at h
    by_cases h1 : k = j
    · simp only [tabErase, h1, if_true]; exact h1 ▸ ih h.2
    · simp only [tabErase, h1, if_false, List.all_cons, Bool.and_eq_true]; exact ⟨h.1, ih h.2⟩

theorem tabAll_insert {α : Type} (p : α → Bool) (k : Nat) (v : α) (hv : p v = true) {t : Tab α} (h : t.all (fun e => p e.2) = true) :
    (tabInsert k v t).all (fun e => p e.2) = true := by
  induction t with
  | nil => simp [tabInsert, hv]
  | cons e t ih =>
    obtain ⟨j, w⟩ := e
    simp only [List.all_cons, Bool.and_eq_true] at h
    by_cases h1 : k = j
    · simp only [tabInsert, h1, if_true, List.all_cons, Bool.and_eq_true]; exact ⟨hv, h.2⟩
    · by_cases h2 : k < j
      · simp only [tabInsert, h1, h2, if_true, if_false, List.all_cons, Bool.and_eq_true]; exact ⟨hv, h.1, h.2⟩
      · simp only [tabInsert, h1, h2, if_false, List.all_cons, Bool.and_eq_true]; exact ⟨h.1, ih h.2⟩

/-- Setting a key keeps the canonical form. -/
theorem tabWf_set {α : Type} [DecidableEq α] (d : α) (t : Tab α) (k : Nat) (v : α) (h : tabWf d t = true) :
    tabWf d (tabSet d t k v) = true := by
  simp only [tabWf, Bool.and_eq_true] at *
  by_cases hv : v = d
  · simp only [tabSet, hv, if_true]
    exact ⟨tabRising_erase k h.1, tabAll_erase (fun x => decide (x ≠ d)) k h.2⟩
  · simp only [tabSet, hv, if_false]
    exact ⟨tabRising_insert k v (Nat.zero_le k) h.1, tabAll_insert (fun x => decide (x ≠ d)) k v (by simp [hv]) h.2⟩

end Sys2Proof.Machine
end

