-- ==== Sys2Proof/Laws/Regs.lean ====
section
/-! SUPPORT. The laws of registers and fields: what a set leaves to be read, the events of an SC register, and what the end of a command
does. -/

namespace Sys2Proof.Machine

variable (s : State)

/-! ## Registers -/

@[simp] theorem State.reg_setReg_same (r : RegSpec) (v : Word) (i j : Nat) : (s.setReg r v i j).reg r i j = v := by
  simp [State.reg, State.setReg]

theorem State.reg_setReg_other (r q : RegSpec) (v : Word) (i j qi qj : Nat) (h : q.off qi qj ≠ r.off i j) :
    (s.setReg r v i j).reg q qi qj = s.reg q qi qj := by
  simp [State.reg, State.setReg, tabGet_set_other _ _ _ h]

theorem State.get_setReg_other (r : RegSpec) (f : Fld) (v : Word) (i j qi qj : Nat) (h : f.reg.off qi qj ≠ r.off i j) :
    (s.setReg r v i j).get f qi qj = s.get f qi qj := by
  simp [State.get, s.reg_setReg_other r f.reg v i j qi qj h]

theorem State.get_setReg_same (f : Fld) (v : Word) (i j : Nat) : (s.setReg f.reg v i j).get f i j = getBits v f.hi f.lo := by
  simp [State.get]

theorem State.reg_put_other (f : Fld) (q : RegSpec) (v i j qi qj : Nat) (h : q.off qi qj ≠ f.reg.off i j) :
    (s.put f v i j).reg q qi qj = s.reg q qi qj := s.reg_setReg_other _ _ _ _ _ _ _ h

theorem State.get_put_other (f g : Fld) (v i j qi qj : Nat) (h : g.reg.off qi qj ≠ f.reg.off i j) :
    (s.put f v i j).get g qi qj = s.get g qi qj := s.get_setReg_other _ _ _ _ _ _ _ h

theorem State.bit_put_other (f g : Fld) (v i j qi qj : Nat) (h : g.reg.off qi qj ≠ f.reg.off i j) :
    (s.put f v i j).bit g qi qj = s.bit g qi qj := by simp [State.bit, s.get_put_other f g v i j qi qj h]

theorem State.bit_setReg_other (r : RegSpec) (f : Fld) (v : Word) (i j qi qj : Nat) (h : f.reg.off qi qj ≠ r.off i j) :
    (s.setReg r v i j).bit f qi qj = s.bit f qi qj := by simp [State.bit, s.get_setReg_other r f v i j qi qj h]

/-- A field reads what was put in it, modulo its width. -/
theorem State.get_put_same (f : Fld) (v i j : Nat) (h : f.hi < 32) : (s.put f v i j).get f i j = v % 2 ^ f.width := by
  simp [State.get, State.put, getBits_setBits_same _ _ _ _ h, Fld.width]

/-- A put leaves the other fields of its register alone. -/
theorem State.get_put_disjoint (f g : Fld) (v i j : Nat) (hr : g.reg = f.reg) (h : f.hi < 32) (hd : f.hi < g.lo ∨ g.hi < f.lo) :
    (s.put f v i j).get g i j = s.get g i j := by
  simp [State.get, State.put, hr, getBits_setBits_other _ _ _ _ _ _ h hd]

theorem State.bit_put_same (f : Fld) (v i j : Nat) (h : f.hi < 32) : (s.put f v i j).bit f i j = (v % 2 ^ f.width != 0) := by
  simp [State.bit, s.get_put_same f v i j h]

theorem State.bit_put_disjoint (f g : Fld) (v i j : Nat) (hr : g.reg = f.reg) (h : f.hi < 32) (hd : f.hi < g.lo ∨ g.hi < f.lo) :
    (s.put f v i j).bit g i j = s.bit g i j := by
  simp [State.bit, s.get_put_disjoint f g v i j hr h hd]

theorem State.get_inc_same (f : Fld) (i j n : Nat) (h : f.hi < 32) :
    (s.inc f i j n).get f i j = min (s.get f i j + n) (2 ^ f.width - 1) := by
  have hp : 0 < 2 ^ f.width := Nat.two_pow_pos _
  rw [State.inc, s.get_put_same f _ i j h]
  exact Nat.mod_eq_of_lt (by omega)

theorem State.reg_inc_other (f : Fld) (q : RegSpec) (i j n qi qj : Nat) (h : q.off qi qj ≠ f.reg.off i j) :
    (s.inc f i j n).reg q qi qj = s.reg q qi qj := s.reg_put_other _ _ _ _ _ _ _ h

theorem State.get_inc_other (f g : Fld) (i j n qi qj : Nat) (h : g.reg.off qi qj ≠ f.reg.off i j) :
    (s.inc f i j n).get g qi qj = s.get g qi qj := s.get_put_other _ _ _ _ _ _ _ h

theorem State.bit_inc_other (f g : Fld) (i j n qi qj : Nat) (h : g.reg.off qi qj ≠ f.reg.off i j) :
    (s.inc f i j n).bit g qi qj = s.bit g qi qj := s.bit_put_other _ _ _ _ _ _ _ h

/-! ## Events (R11) -/

theorem State.armVector_reg (v : Option Nat) (q : RegSpec) (i j : Nat) : (s.armVector v).reg q i j = s.reg q i j := by
  unfold State.armVector; split <;> rfl

/-- The word of an event register after an event: the field's bits are 1 and SEQ has advanced by one. -/
theorem State.reg_evt_same (f : Fld) (i j : Nat) :
    (s.evt f i j).reg f.reg i j = setBits (setBits (s.reg f.reg i j) 31 24 (getBits (s.reg f.reg i j) 31 24 + 1)) f.hi f.lo (2 ^ f.width - 1) := by
  simp [State.evt, State.armVector_reg]

theorem State.reg_evt_other (f : Fld) (q : RegSpec) (i j qi qj : Nat) (h : q.off qi qj ≠ f.reg.off i j) :
    (s.evt f i j).reg q qi qj = s.reg q qi qj := by
  simp [State.evt, State.armVector_reg, s.reg_setReg_other f.reg q _ i j qi qj h]

theorem State.get_evt_other (f g : Fld) (i j qi qj : Nat) (h : g.reg.off qi qj ≠ f.reg.off i j) :
    (s.evt f i j).get g qi qj = s.get g qi qj := by simp [State.get, s.reg_evt_other f g.reg i j qi qj h]

theorem State.bit_evt_other (f g : Fld) (i j qi qj : Nat) (h : g.reg.off qi qj ≠ f.reg.off i j) :
    (s.evt f i j).bit g qi qj = s.bit g qi qj := by simp [State.bit, s.get_evt_other f g i j qi qj h]

theorem State.get_evt_same (f : Fld) (i j : Nat) (h : f.hi < 24) : (s.evt f i j).get f i j = 2 ^ f.width - 1 := by
  have hp : 0 < 2 ^ f.width := Nat.two_pow_pos _
  rw [State.get, s.reg_evt_same, getBits_setBits_same _ _ _ _ (by omega)]
  exact Nat.mod_eq_of_lt (by simp only [Fld.width] at *; omega)

theorem State.bit_evt_same (f : Fld) (i j : Nat) (h : f.hi < 24) (hw : f.lo ≤ f.hi) : (s.evt f i j).bit f i j = true := by
  have hp : 2 ≤ 2 ^ f.width := by
    have : 1 ≤ f.width := by simp [Fld.width]; omega
    calc 2 = 2 ^ 1 := rfl
      _ ≤ 2 ^ f.width := Nat.pow_le_pow_right (by decide) this
  simp only [State.bit, s.get_evt_same f i j h, bne_iff_ne, ne_eq]
  omega

/-- An event leaves the other fields below SEQ alone. -/
theorem State.get_evt_disjoint (f g : Fld) (i j : Nat) (hr : g.reg = f.reg) (hf : f.hi < 24) (hg : g.hi < 24)
    (hd : f.hi < g.lo ∨ g.hi < f.lo) : (s.evt f i j).get g i j = s.get g i j := by
  rw [State.get, hr, s.reg_evt_same, getBits_setBits_other _ _ _ _ _ _ (by omega) hd,
    getBits_setBits_other _ _ _ _ _ _ (by omega) (by omega), State.get, hr]

/-- SEQ advances by one, modulo 256, at every event. -/
theorem State.seq_evt (f : Fld) (i j : Nat) (hf : f.hi < 24) :
    getBits ((s.evt f i j).reg f.reg i j) 31 24 = (getBits (s.reg f.reg i j) 31 24 + 1) % 256 := by
  rw [s.reg_evt_same, getBits_setBits_other _ _ _ _ _ _ (by omega) (by omega), getBits_setBits_same _ _ _ _ (by omega)]
  rfl

/-! ## The end of a command -/

/-- The offsets of the PBA words, of both hosts. -/
def pbaOff (a : Nat) : Prop := ∃ k h, h < 2 ∧ k < 2 ∧ a = R.MSIX_PBA.off k h

theorem State.setPba_reg (h v : Nat) (b : Bool) (q : RegSpec) (i j : Nat) (hq : q.off i j ≠ R.MSIX_PBA.off (v / 32) h) :
    (s.setPba h v b).reg q i j = s.reg q i j := by
  unfold State.setPba State.putBit
  exact s.reg_put_other _ _ _ _ _ _ _ hq

theorem State.setHost_reg (h : Nat) (x : HostPort) (q : RegSpec) (i j : Nat) : (s.setHost h x).reg q i j = s.reg q i j := by
  unfold State.setHost; split <;> rfl

theorem State.vectorSettle_reg (h v : Nat) (hh : h < 2) (hv : v < 64) (q : RegSpec) (i j : Nat) (hq : ¬ pbaOff (q.off i j)) :
    (s.vectorSettle h v).reg q i j = s.reg q i j := by
  unfold State.vectorSettle
  split
  · rw [State.setPba_reg _ _ _ _ _ _ _ (fun e => hq ⟨v / 32, h, hh, by omega, e⟩), State.setHost_reg]
  · rfl

theorem foldl_keep {α β γ : Type} (f : β → α → β) (g : β → γ) (p : α → Prop) (l : List α) (hl : ∀ a ∈ l, p a)
    (h : ∀ b a, p a → g (f b a) = g b) (b : β) : g (l.foldl f b) = g b := by
  induction l generalizing b with
  | nil => rfl
  | cons a t ih =>
    rw [List.foldl_cons, ih (fun x hx => hl x (List.mem_cons_of_mem _ hx)), h b a (hl a List.mem_cons_self)]

/-- The settling of the vectors changes no register but the PBA words. -/
theorem State.vectorsSettle_reg (q : RegSpec) (i j : Nat) (hq : ¬ pbaOff (q.off i j)) :
    s.vectorsSettle.reg q i j = s.reg q i j := by
  unfold State.vectorsSettle
  rw [foldl_keep (fun s v => State.vectorSettle s 1 v) (fun s => s.reg q i j) (· < 64) _ (by simp)
      (fun b a ha => b.vectorSettle_reg 1 a (by omega) ha q i j hq),
    foldl_keep (fun s v => State.vectorSettle s 0 v) (fun s => s.reg q i j) (· < 64) _ (by simp)
      (fun b a ha => b.vectorSettle_reg 0 a (by omega) ha q i j hq)]

/-- The settling of the vectors changes registers and the host ports only. -/
theorem State.vectorSettle_only (h v : Nat) : ∃ r x y, s.vectorSettle h v = { s with regs := r, ha := x, hb := y } := by
  unfold State.vectorSettle
  split
  · unfold State.setHost
    split
    · exact ⟨_, _, _, rfl⟩
    · exact ⟨_, _, _, rfl⟩
  · exact ⟨_, _, _, rfl⟩

theorem foldl_only (h : Nat) (l : List Nat) : ∃ r x y, l.foldl (fun s v => State.vectorSettle s h v) s = { s with regs := r, ha := x, hb := y } := by
  induction l generalizing s with
  | nil => exact ⟨_, _, _, rfl⟩
  | cons v t ih =>
    obtain ⟨r, x, y, e⟩ := s.vectorSettle_only h v
    obtain ⟨r', x', y', e'⟩ := ih (s.vectorSettle h v)
    exact ⟨r', x', y', by rw [List.foldl_cons, e', e]⟩

theorem State.vectorsSettle_only : ∃ r x y, s.vectorsSettle = { s with regs := r, ha := x, hb := y } := by
  obtain ⟨r, x, y, e⟩ := foldl_only s 0 (List.range 64)
  obtain ⟨r', x', y', e'⟩ := foldl_only { s with regs := r, ha := x, hb := y } 1 (List.range 64)
  exact ⟨r', x', y', by rw [State.vectorsSettle, e, e']⟩

@[simp] theorem settled_snaps (b t : State) : (settled b t).snaps = t.snaps := by
  obtain ⟨r, x, y, e⟩ := t.vectorsSettle_only; rw [settled, e]
@[simp] theorem settled_inv (b t : State) : (settled b t).inv = t.inv := by
  obtain ⟨r, x, y, e⟩ := t.vectorsSettle_only; rw [settled, e]
@[simp] theorem settled_ports (b t : State) : (settled b t).ports = t.ports := by
  obtain ⟨r, x, y, e⟩ := t.vectorsSettle_only; rw [settled, e]
@[simp] theorem settled_egs (b t : State) : (settled b t).egs = t.egs := by
  obtain ⟨r, x, y, e⟩ := t.vectorsSettle_only; rw [settled, e]
@[simp] theorem settled_pol (b t : State) : (settled b t).pol = t.pol := by
  obtain ⟨r, x, y, e⟩ := t.vectorsSettle_only; rw [settled, e]
@[simp] theorem settled_swc (b t : State) : (settled b t).swc = t.swc := by
  obtain ⟨r, x, y, e⟩ := t.vectorsSettle_only; rw [settled, e]
@[simp] theorem settled_tin (b t : State) : (settled b t).tin = t.tin := by
  obtain ⟨r, x, y, e⟩ := t.vectorsSettle_only; rw [settled, e]
@[simp] theorem settled_lkp (b t : State) : (settled b t).lkp = t.lkp := by
  obtain ⟨r, x, y, e⟩ := t.vectorsSettle_only; rw [settled, e]
@[simp] theorem settled_twn (b t : State) : (settled b t).twn = t.twn := by
  obtain ⟨r, x, y, e⟩ := t.vectorsSettle_only; rw [settled, e]
@[simp] theorem settled_rst (b t : State) : (settled b t).rst = t.rst := by
  obtain ⟨r, x, y, e⟩ := t.vectorsSettle_only; rw [settled, e]
@[simp] theorem settled_md (b t : State) : (settled b t).md = t.md := by
  obtain ⟨r, x, y, e⟩ := t.vectorsSettle_only; rw [settled, e]
@[simp] theorem settled_adp (b t : State) : (settled b t).adp = t.adp := by
  obtain ⟨r, x, y, e⟩ := t.vectorsSettle_only; rw [settled, e]
@[simp] theorem settled_img (b t : State) : (settled b t).img = t.img := by
  obtain ⟨r, x, y, e⟩ := t.vectorsSettle_only; rw [settled, e]
@[simp] theorem settled_pds (b t : State) : (settled b t).pds = t.pds := by
  obtain ⟨r, x, y, e⟩ := t.vectorsSettle_only; rw [settled, e]
@[simp] theorem settled_dma (b t : State) : (settled b t).dma = t.dma := by
  obtain ⟨r, x, y, e⟩ := t.vectorsSettle_only; rw [settled, e]
@[simp] theorem settled_cff (b t : State) : (settled b t).cff = t.cff := by
  obtain ⟨r, x, y, e⟩ := t.vectorsSettle_only; rw [settled, e]
@[simp] theorem settled_pmc (b t : State) : (settled b t).pmc = t.pmc := by
  obtain ⟨r, x, y, e⟩ := t.vectorsSettle_only; rw [settled, e]
@[simp] theorem settled_mgt (b t : State) : (settled b t).mgt = t.mgt := by
  obtain ⟨r, x, y, e⟩ := t.vectorsSettle_only; rw [settled, e]
@[simp] theorem settled_tap (b t : State) : (settled b t).tap = t.tap := by
  obtain ⟨r, x, y, e⟩ := t.vectorsSettle_only; rw [settled, e]
@[simp] theorem settled_pools (b t : State) : (settled b t).pools = t.pools := by
  obtain ⟨r, x, y, e⟩ := t.vectorsSettle_only; rw [settled, e]
@[simp] theorem settled_sram (b t : State) : (settled b t).sram = t.sram := by
  obtain ⟨r, x, y, e⟩ := t.vectorsSettle_only; rw [settled, e]
@[simp] theorem settled_sramLost (b t : State) : (settled b t).sramLost = t.sramLost := by
  obtain ⟨r, x, y, e⟩ := t.vectorsSettle_only; rw [settled, e]
@[simp] theorem settled_frames (b t : State) : (settled b t).frames = t.frames := by
  obtain ⟨r, x, y, e⟩ := t.vectorsSettle_only; rw [settled, e]
@[simp] theorem settled_nextFid (b t : State) : (settled b t).nextFid = t.nextFid := by
  obtain ⟨r, x, y, e⟩ := t.vectorsSettle_only; rw [settled, e]
@[simp] theorem settled_events (b t : State) : (settled b t).events = t.events := by
  obtain ⟨r, x, y, e⟩ := t.vectorsSettle_only; rw [settled, e]
@[simp] theorem settled_freeCtr (b t : State) : (settled b t).freeCtr = t.freeCtr := by
  obtain ⟨r, x, y, e⟩ := t.vectorsSettle_only; rw [settled, e]
@[simp] theorem settled_out (b t : State) : (settled b t).out = t.out := by
  obtain ⟨r, x, y, e⟩ := t.vectorsSettle_only; rw [settled, e]

/-- A command leaves the queue of commands as it was. -/
@[simp] theorem settled_pending (b t : State) : (settled b t).pending = b.pending := rfl

/-- A register other than a PBA word reads after the end of a command as the meaning left it. -/
theorem settled_reg (b t : State) (q : RegSpec) (i j : Nat) (hq : ¬ pbaOff (q.off i j)) : (settled b t).reg q i j = t.reg q i j :=
  t.vectorsSettle_reg q i j hq

theorem settled_get (b t : State) (f : Fld) (i j : Nat) (hq : ¬ pbaOff (f.reg.off i j)) : (settled b t).get f i j = t.get f i j := by
  simp [State.get, settled_reg b t f.reg i j hq]

theorem settled_bit (b t : State) (f : Fld) (i j : Nat) (hq : ¬ pbaOff (f.reg.off i j)) : (settled b t).bit f i j = t.bit f i j := by
  simp [State.bit, settled_get b t f i j hq]

end Sys2Proof.Machine
end

