-- ==== Sys2Proof/Laws/Memory.lean ====
section
/-! SUPPORT. The service SRAM, the one memory that hosts address: what a write does to a byte, and that every operation keeps the canonical
form. -/

namespace Sys2Proof.Machine

@[simp] theorem State.sramPut_regs (s : State) (a : Nat) (b : Byte) : (s.sramPut a b).regs = s.regs := by
  unfold State.sramPut; split <;> rfl

@[simp] theorem State.sramPut_underTest (s : State) (a : Nat) (b : Byte) (m : Nat) : (s.sramPut a b).underTest m = s.underTest m := by
  simp [State.underTest, State.bit, State.get, State.reg]

@[simp] theorem State.sramPut_sramLost (s : State) (a : Nat) (b : Byte) : (s.sramPut a b).sramLost = s.sramLost := by
  unfold State.sramPut; split <;> rfl

theorem State.sramPut_sram (s : State) (a : Nat) (b : Byte) :
    (s.sramPut a b).sram = if s.sramLost.isSome then tabInsert a b s.sram else tabSet 0 s.sram a b := by
  unfold State.sramPut; split <;> simp_all

/-- What a byte reads as when the memory is not under test. -/
theorem State.sramByte_eq (s : State) (a : Nat) (h : s.underTest 3 = false) :
    s.sramByte a = tabGet ((s.sramLost.map fun n => Config.freeValue 8 (n + a)).getD 0) s.sram a := by
  unfold State.sramByte tabGet
  rw [if_neg (by simp [h])]
  cases tabFind? a s.sram <;> cases s.sramLost <;> rfl

/-- A byte that has been written reads back. -/
theorem State.sramByte_sramPut_same (s : State) (a : Nat) (b : Byte) (h : s.underTest 3 = false) : (s.sramPut a b).sramByte a = b := by
  rw [State.sramByte_eq _ _ (by simpa using h), sramPut_sramLost, sramPut_sram]
  cases s.sramLost with
  | none => exact tabGet_set_same 0 s.sram a b
  | some n => simp [tabGet, tabFind_insert_same]

/-- A write of one byte leaves every other byte alone. -/
theorem State.sramByte_sramPut_other (s : State) {a a' : Nat} (b : Byte) (h : a' ≠ a) : (s.sramPut a b).sramByte a' = s.sramByte a' := by
  cases hu : s.underTest 3 with
  | true => simp [State.sramByte, hu]
  | false =>
    rw [State.sramByte_eq _ _ (by simpa using hu), State.sramByte_eq _ _ hu, sramPut_sramLost, sramPut_sram]
    cases s.sramLost with
    | none => exact tabGet_set_other 0 0 s.sram h b
    | some n => simp [tabGet, tabFind_insert_other h]

/-- A write of one byte keeps the canonical form. -/
theorem State.sramPut_wf (s : State) (a : Nat) (b : Byte) (h : Memory.wf s = true) : Memory.wf (s.sramPut a b) = true := by
  unfold Memory.wf at *
  rw [sramPut_sramLost, sramPut_sram]
  cases hl : s.sramLost with
  | none => rw [hl] at h; exact tabWf_set 0 s.sram a b h
  | some n => rw [hl] at h; exact tabRising_insert a b (Nat.zero_le _) h

/-- A write of several bytes keeps the canonical form. -/
theorem State.sramWrite_wf (l : List Byte) (s : State) (a : Nat) (h : Memory.wf s = true) : Memory.wf (s.sramWrite a l) = true := by
  induction l generalizing s a with
  | nil => exact h
  | cons b t ih =>
    unfold State.sramWrite
    split
    · exact h
    · exact ih _ _ (s.sramPut_wf a b h)

/-- A write of the SRAM window keeps the canonical form. -/
theorem State.sramWord_wf (s : State) (a be : Nat) (w : Word) (h : Memory.wf s = true) : Memory.wf (s.sramWord a be w) = true := by
  unfold State.sramWord
  split
  · exact h
  · have go : ∀ (l : List Nat) (u : State), Memory.wf u = true → Memory.wf (l.foldl (fun s k => if be.testBit k then
        s.sramPut (a + k) (BitVec.ofNat 8 (getBits w (8 * k + 7) (8 * k))) else s) u) = true := by
      intro l
      induction l with
      | nil => exact fun u hu => hu
      | cons k l ih =>
        intro u hu
        rw [List.foldl_cons]
        apply ih
        split
        · exact u.sramPut_wf _ _ hu
        · exact hu
    exact go _ s h

/-- The memory after a POWER_ON reset has the canonical form. -/
theorem reset_memory_wf : Memory.wf State.reset = true := rfl

end Sys2Proof.Machine
end

