-- ==== Sys2Proof/Laws/Write.lean ====
section
/-! SUPPORT. What a host's access does when it reaches its register, and what the end of a command leaves alone. -/

namespace Sys2Proof.Machine

variable {s : State}

theorem pbaOff_mem (a : Nat) (h : pbaOff a) : a ∈ pbaOffs := by
  obtain ⟨k, x, hx, hk, rfl⟩ := h
  have hk : k = 0 ∨ k = 1 := by omega
  have hx : x = 0 ∨ x = 1 := by omega
  rcases hk with rfl | rfl <;> rcases hx with rfl | rfl <;> decide

theorem not_pbaOff (a : Nat) (h : a ∉ pbaOffs) : ¬ pbaOff a := fun hp => h (pbaOff_mem a hp)

/-- The end of a command keeps every register but the PBA words. -/
theorem settled_keeps (b t : State) (l : List Nat) (h : b.keepsRegs t l) : b.keepsRegs (settled b t) l := fun q i j hq =>
  (settled_reg b t q i j (not_pbaOff _ fun hp => hq (List.mem_append_right _ hp))).trans (h q i j hq)

theorem State.keepsRegs_refl (l : List Nat) : s.keepsRegs s l := fun _ _ _ _ => rfl

theorem State.keepsRegs_trans {t u : State} {l : List Nat} (h : s.keepsRegs t l) (k : t.keepsRegs u l) : s.keepsRegs u l :=
  fun q i j hq => (k q i j hq).trans (h q i j hq)

theorem State.keepsRegs_of_eq {t : State} (l : List Nat) (h : t.regs = s.regs) : s.keepsRegs t l := fun q i j _ => by
  simp [State.reg, h]

theorem State.keepsRegs_setReg {t : State} {l : List Nat} (h : s.keepsRegs t l) (r : RegSpec) (w : Word) (i j : Nat) (hl : r.off i j ∈ l) :
    s.keepsRegs (t.setReg r w i j) l := fun q qi qj hq => by
  rw [t.reg_setReg_other r q w i j qi qj fun e => hq (List.mem_append_left _ (e ▸ hl))]
  exact h q qi qj hq

theorem State.keepsRegs_put {t : State} {l : List Nat} (h : s.keepsRegs t l) (f : Fld) (v i j : Nat) (hl : f.reg.off i j ∈ l) :
    s.keepsRegs (t.put f v i j) l := State.keepsRegs_setReg h _ _ _ _ hl

theorem State.keepsRegs_evt {t : State} {l : List Nat} (h : s.keepsRegs t l) (f : Fld) (i j : Nat) (hl : f.reg.off i j ∈ l) :
    s.keepsRegs (t.evt f i j) l := fun q qi qj hq => by
  rw [t.reg_evt_other f q i j qi qj fun e => hq (List.mem_append_left _ (e ▸ hl))]
  exact h q qi qj hq

/-- The end of a command changes registers, the host ports and the queue only. -/
theorem settled_only (b t : State) : ∃ r x y, settled b t = { t with regs := r, ha := x, hb := y, pending := b.pending } := by
  obtain ⟨r, x, y, e⟩ := t.vectorsSettle_only
  exact ⟨r, x, y, by rw [settled, e]⟩

theorem State.onlyRegs_refl : s.onlyRegs s := ⟨_, _, _, rfl⟩

theorem State.onlyRegs_trans {t u : State} (h : s.onlyRegs t) (k : t.onlyRegs u) : s.onlyRegs u := by
  obtain ⟨r, x, y, rfl⟩ := h
  obtain ⟨r', x', y', rfl⟩ := k
  exact ⟨r', x', y', rfl⟩

theorem State.onlyRegs_setReg {t : State} (h : s.onlyRegs t) (r : RegSpec) (w : Word) (i j : Nat) : s.onlyRegs (t.setReg r w i j) :=
  State.onlyRegs_trans h ⟨_, _, _, rfl⟩

theorem State.onlyRegs_put {t : State} (h : s.onlyRegs t) (f : Fld) (v i j : Nat) : s.onlyRegs (t.put f v i j) :=
  State.onlyRegs_setReg h _ _ _ _

theorem State.onlyRegs_armVector {t : State} (h : s.onlyRegs t) (v : Option Nat) : s.onlyRegs (t.armVector v) := by
  refine State.onlyRegs_trans h ?_
  unfold State.armVector
  split <;> exact ⟨_, _, _, rfl⟩

theorem State.onlyRegs_evt {t : State} (h : s.onlyRegs t) (f : Fld) (i j : Nat) : s.onlyRegs (t.evt f i j) :=
  State.onlyRegs_armVector (State.onlyRegs_setReg h _ _ _ _) _

/-- The end of a command changes only registers and the arming of the vectors. -/
theorem settled_onlyRegs {t : State} (h : s.onlyRegs t) : s.onlyRegs (settled s t) := by
  obtain ⟨r, x, y, rfl⟩ := h
  obtain ⟨r', x', y', e⟩ := settled_only s { s with regs := r, ha := x, hb := y }
  exact ⟨r', x', y', by rw [e]⟩

/-- A command whose meaning ends in `u`. -/
theorem does_of {c : Instr} {u : State} {P : State → Prop} (h : exec c s = finish s u) (p : P (settled s u)) : Does c s P :=
  ⟨_, h, p⟩

/-! ## Accesses that reach their register -/

theorem hostSeen_up (n : Nat) (h : s.bit (hostUp n) = true) (k : s.bit (hostL1 n) = false) : s.hostSeen n = s := by
  simp [State.hostSeen, h, k]

theorem reaches_iff (h : HostId) (r : RegSpec) (i j : Nat) : s.reaches h r i j = true ↔
    s.hostsDead = false ∧ s.bit (hostUp (hostNum h)) = true ∧ s.bit (hostL1 (hostNum h)) = false ∧ s.gated (r.addr i j) = false := by
  simp [State.reaches, State.linked, and_assoc]

/-- A read of a row of the command table that reaches its register returns the register's word, after the effects of the read. -/
theorem rowRead_reaches (h : HostId) (r : RegSpec) (i j : Nat) (hr : s.reaches h r i j = true) : s.rowRead (hostNum h) r i j =
    (s.regRead (hostNum h) (r.addr i j) r i j).2.emit
      (.readData (hostNum h) (BitVec.ofNat 64 (s.regRead (hostNum h) (r.addr i j) r i j).1.toNat)) := by
  obtain ⟨h1, h2, h3, h4⟩ := (reaches_iff h r i j).1 hr
  unfold RegSpec.addr at h4
  simp [State.rowRead, h1, hostSeen_up _ h2 h3, h4, RegSpec.addr]

/-- A write of a row of the command table that reaches its register: its flags and the mirror follow the register's own write. -/
theorem rowWrite_opens (h : HostId) (r : RegSpec) (i j : Nat) (w : Word) (hr : s.opens h r i j = true) : s.rowWrite (hostNum h) r i j w =
    ((s.regWrite (hostNum h) r i j 15 w).2.accErr (s.regWrite (hostNum h) r i j 15 w).1 (hostNum h) 0 (r.addr i j) 15 true w).mirror
      (hostNum h) (r.addr i j) 15 r (s.regWrite (hostNum h) r i j 15 w).1 w := by
  simp only [State.opens, Bool.and_eq_true, Bool.not_eq_true', Bool.and_eq_false_iff] at hr
  obtain ⟨⟨⟨hr, hm⟩, ho⟩, hb⟩ := hr
  obtain ⟨h1, h2, h3, h4⟩ := (reaches_iff h r i j).1 hr
  unfold RegSpec.addr at h4 hm
  have ho' : (mirrored r && s.ignoresMirrored) = false := by rcases ho with e | e <;> simp [e]
  have hb' : (!s.loaded && bulkWindow r) = false := by rcases hb with e | e <;> simp [e]
  simp [State.rowWrite, h1, hostSeen_up _ h2 h3, h4, hm, State.regWriteAt, ho', hb', RegSpec.addr]

/-- The mirror of a write changes the twin link, nothing else: its message waits for the transmitter. -/
theorem mirror_only (host a be : Nat) (r : RegSpec) (fl : List Nat) (w : Word) :
    ∃ x, s.mirror host a be r fl w = { s with twn := x } := by
  unfold State.mirror State.sendCmd State.linkQueue
  split
  · split
    · exact ⟨_, rfl⟩
    · exact ⟨_, rfl⟩
  · exact ⟨_, rfl⟩

/-- A register outside the mirrored set is not sent to a peer. -/
theorem mirror_none (host a be : Nat) (r : RegSpec) (fl : List Nat) (w : Word) (h : mirrored r = false) : s.mirror host a be r fl w = s := by
  simp [State.mirror, h]

/-- A write without flags of a register outside the mirrored set is the register's own write. -/
theorem rowWrite_own (h : HostId) (r : RegSpec) (i j : Nat) (w : Word) (hr : s.opens h r i j = true) (hm : mirrored r = false)
    (hf : (s.regWrite (hostNum h) r i j 15 w).1 = []) : s.rowWrite (hostNum h) r i j w = (s.regWrite (hostNum h) r i j 15 w).2 := by
  rw [rowWrite_opens h r i j w hr, mirror_none _ _ _ _ _ _ hm, hf]; rfl

/-- A write without flags of a register of the mirrored set is the register's own write but for the twin link. -/
theorem rowWrite_mirrored (h : HostId) (r : RegSpec) (i j : Nat) (w : Word) (hr : s.opens h r i j = true)
    (hf : (s.regWrite (hostNum h) r i j 15 w).1 = []) :
    ∃ x, s.rowWrite (hostNum h) r i j w = { (s.regWrite (hostNum h) r i j 15 w).2 with twn := x } := by
  rw [rowWrite_opens h r i j w hr, hf]
  exact mirror_only _ _ _ _ _ _

/-! ## Access errors -/

theorem accErr_keeps (k host bar off be : Nat) (write : Bool) (data : Word) : s.keepsRegs (s.accErr [k] host bar off be write data)
    [R.GLB_ACC_ERR.base, R.GLB_ACC_ADDR.base, R.GLB_ACC_INFO.base, R.GLB_ACC_DATA.base] := by
  intro q i j hq
  simp only [List.cons_append, List.mem_cons, not_or] at hq
  obtain ⟨h1, h2, h3, h4, -⟩ := hq
  unfold State.accErr
  rw [State.armVector_reg, State.reg_setReg_other _ _ _ _ _ _ _ _ h1]
  split
  · rw [State.reg_put_other _ _ _ _ _ _ _ _ h2]
  · rw [State.reg_setReg_other _ _ _ _ _ _ _ _ h4, State.reg_setReg_other _ _ _ _ _ _ _ _ h3, State.reg_setReg_other _ _ _ _ _ _ _ _ h2]

theorem accErr_only (k host bar off be : Nat) (write : Bool) (data : Word) : s.onlyRegs (s.accErr [k] host bar off be write data) := by
  unfold State.accErr
  refine State.onlyRegs_armVector (State.onlyRegs_setReg ?_ _ _ _ _) _
  split
  · exact State.onlyRegs_put State.onlyRegs_refl _ _ _ _
  · exact State.onlyRegs_setReg (State.onlyRegs_setReg (State.onlyRegs_setReg State.onlyRegs_refl _ _ _ _) _ _ _ _) _ _ _ _

/-- An access that sets one flag and does nothing else. -/
theorem accErr_error (h : HostId) (k off be : Nat) (write : Bool) (data : Word) (hk : k < 8) (ho : off < 2 ^ 24) :
    AccessError s (settled s (s.accErr [k] (hostNum h) 0 off be write data)) h k off := by
  have hn : ∀ a, a < 0x8000 → ¬ pbaOff a := fun a ha => not_pbaOff a (by
    simp only [pbaOffs, List.mem_cons, List.not_mem_nil, or_false, not_or]
    refine ⟨?_, ?_, ?_, ?_⟩ <;> (intro e; subst e; revert ha; decide))
  have herr : (s.accErr [k] (hostNum h) 0 off be write data).reg R.GLB_ACC_ERR =
      setBits (s.reg R.GLB_ACC_ERR) 31 24 (getBits (s.reg R.GLB_ACC_ERR) 31 24 + 1) ||| BitVec.ofNat 32 (2 ^ k) := by
    unfold State.accErr
    rw [State.armVector_reg, State.reg_setReg_same, List.foldl_cons, List.foldl_nil]
    split
    · rw [State.reg_put_other]; decide
    · rw [State.reg_setReg_other, State.reg_setReg_other, State.reg_setReg_other] <;> decide
  have hbit : ∀ i, (BitVec.ofNat 32 (2 ^ k)).getLsbD i = decide (i = k) := by
    intro i
    rw [BitVec.getLsbD_ofNat, Nat.testBit_two_pow]
    by_cases hi : i = k
    · subst hi; simp; omega
    · simp [hi, Ne.symm hi]
  refine ⟨?_, ?_, ?_, ?_, settled_keeps _ _ _ (accErr_keeps _ _ _ _ _ _ _), ?_⟩
  · rw [settled_reg _ _ _ _ _ (hn _ (by decide)), herr]
    apply Nat.eq_of_testBit_eq
    intro i
    rw [getBits_testBit, BitVec.getLsbD_or, hbit]
    by_cases hi : i = 0
    · subst hi; simp
    · have h1 : ¬ i < 1 := by omega
      have h2 : Nat.testBit 1 i = false := by
        rw [show (1 : Nat) = 2 ^ 0 from rfl, Nat.testBit_two_pow]; simp; omega
      simp [h1, h2]
  · rw [settled_get _ _ _ _ _ (hn _ (by decide)), State.get, show F.GLB_ACC_ERR_SEQ.reg = R.GLB_ACC_ERR from rfl, herr]
    have : getBits (setBits (s.reg R.GLB_ACC_ERR) 31 24 (getBits (s.reg R.GLB_ACC_ERR) 31 24 + 1) ||| BitVec.ofNat 32 (2 ^ k)) 31 24
        = getBits (setBits (s.reg R.GLB_ACC_ERR) 31 24 (getBits (s.reg R.GLB_ACC_ERR) 31 24 + 1)) 31 24 := by
      apply Nat.eq_of_testBit_eq
      intro i
      rw [getBits_testBit, getBits_testBit, BitVec.getLsbD_or, hbit, show decide (24 + i = k) = false by simp; omega, Bool.or_false]
    exact this.trans (getBits_setBits_same _ _ _ _ (by decide))
  · intro hv
    rw [settled_reg _ _ _ _ _ (hn _ (by decide))]
    unfold State.accErr
    simp only [hv, Bool.false_eq_true, if_false]
    rw [State.armVector_reg, State.reg_setReg_other _ _ _ _ _ _ _ _ (by decide), State.reg_setReg_other _ _ _ _ _ _ _ _ (by decide),
      State.reg_setReg_other _ _ _ _ _ _ _ _ (by decide), State.reg_setReg_same, Nat.mod_eq_of_lt ho]
    simp
  · intro hv
    rw [settled_reg _ _ _ _ _ (hn _ (by decide))]
    unfold State.accErr
    simp only [hv, if_true]
    rw [State.armVector_reg, State.reg_setReg_other _ _ _ _ _ _ _ _ (by decide)]
    unfold State.put
    exact State.reg_setReg_same _ _ _ _ _
  · exact settled_onlyRegs (accErr_only ..)

end Sys2Proof.Machine
end

