-- ==== Sys2Proof/Laws/Vectors.lean ====
section
/-! SUPPORT. The message vectors of the hosts: what settling a vector does, and that after it every vector that is not pending is armed; a command
always ends in a settled state. -/

namespace Sys2Proof.Machine

theorem vectorPending_reg {s t : State} (h : ∀ q i j, ¬ pbaOff (q.off i j) → t.reg q i j = s.reg q i j) (host v : Nat) (hh : host < 2) :
    t.vectorPending host v = s.vectorPending host v := by
  have na : ∀ a, (a < 0x8800 ∨ 0x8808 ≤ a) → (a < 0x1008800 ∨ 0x1008808 ≤ a) → ¬ pbaOff a := by
    rintro a h1 h2 ⟨k, x, hx, hk, rfl⟩
    have hk : k = 0 ∨ k = 1 := by omega
    have hx : x = 0 ∨ x = 1 := by omega
    rcases hk with rfl | rfl <;> rcases hx with rfl | rfl <;> revert h1 h2 <;> decide
  unfold State.vectorPending
  split
  · simp only [State.get]
    rw [h]
    refine na _ ?_ ?_ <;> simp [F.GLB_DB_STAT_DB, R.GLB_DB_STAT, RegSpec.off] <;> omega
  split
  · rfl
  split
  · congr 1; funext i; rw [h]
    refine na _ ?_ ?_ <;> simp [R.EGS_EVT, RegSpec.off] <;> omega
  split
  · congr 1; funext i; rw [h]
    refine na _ ?_ ?_ <;> simp [R.PORT_EVT, RegSpec.off] <;> omega
  split
  · rw [h]
    refine na _ ?_ ?_ <;> simp [R.DMA_CH_EVT, RegSpec.off] <;> omega
  split
  · rename_i e he
    have hm := List.mem_of_find?_eq_some he
    have hall : ∀ x ∈ vectorSources, ¬ pbaOff (x.1.off 0 0) := by
      intro x hx
      simp only [vectorSources, List.mem_cons, List.not_mem_nil, or_false] at hx
      refine na _ ?_ ?_ <;> (rcases hx with rfl|rfl|rfl|rfl|rfl|rfl|rfl|rfl|rfl|rfl|rfl|rfl|rfl|rfl|rfl|rfl|rfl|rfl) <;> decide
    rw [h _ _ _ (hall e hm)]
  · rfl
theorem setHost_hostPort (s : State) (h h' : Nat) (x : HostPort) (hh : h < 2) (hh' : h' < 2) :
    (s.setHost h x).hostPort h' = if h' = h then x else s.hostPort h' := by
  have a : h = 0 ∨ h = 1 := by omega
  have b : h' = 0 ∨ h' = 1 := by omega
  rcases a with rfl | rfl <;> rcases b with rfl | rfl <;> rfl

theorem pba_inj {k h k' h' : Nat} (hk : k < 2) (hk' : k' < 2) (e : R.MSIX_PBA.off k h = R.MSIX_PBA.off k' h') :
    k = k' ∧ h = h' := by
  simp [R.MSIX_PBA, RegSpec.off] at e; omega

theorem setPba_hostPort (s : State) (h v : Nat) (b : Bool) (h' : Nat) : (s.setPba h v b).hostPort h' = s.hostPort h' := by
  simp [State.setPba, State.hostPort, State.putBit, State.put, State.setReg]

theorem arm_same (x : HostPort) (v : Nat) : (x.arm v).sent.testBit v = false := by
  unfold HostPort.arm; split
  · simp [*, Nat.testBit_two_pow_self]
  · rename_i h; simpa using h
theorem arm_other (x : HostPort) (v w : Nat) (h : w ≠ v) : (x.arm v).sent.testBit w = x.sent.testBit w := by
  unfold HostPort.arm; split
  · simp [Nat.testBit_two_pow, Ne.symm h]
  · rfl

theorem clear_testBit (n k j : Nat) (hk : k < 32) (hj : j < 32) :
    (n &&& (2 ^ 32 - 1 - 2 ^ k)).testBit j = (n.testBit j && decide (j ≠ k)) := by
  rw [Nat.testBit_and]
  have : (2 ^ 32 - 1 - 2 ^ k) = (2 ^ 32 - (2 ^ k + 1)) := by omega
  rw [this, Nat.testBit_two_pow_sub_succ (Nat.pow_lt_pow_right (by omega) hk)]
  by_cases e : k = j
  · subst e; simp [Nat.testBit_two_pow_self]
  · simp [Nat.testBit_two_pow, e, hj, Ne.symm e]

theorem pba_setPba (s : State) (h v h' v' : Nat) (hh : h < 2) (hh' : h' < 2) (hv : v < 64) (hv' : v' < 64) :
    (s.setPba h v false).pba h' v' = if h' = h ∧ v' = v then false else s.pba h' v' := by
  unfold State.setPba State.putBit
  have e32 : F.MSIX_PBA_PBA.width = 32 := rfl
  have lt : s.get F.MSIX_PBA_PBA (v / 32) h < 2 ^ 32 := getBits_lt _ _ _
  by_cases hw : v' / 32 = v / 32 ∧ h' = h
  · obtain ⟨h1, rfl⟩ := hw
    unfold State.pba
    rw [h1, State.get_put_same _ _ _ _ _ (by decide), e32]
    simp only [Bool.false_eq_true, if_false, e32]
    rw [Nat.mod_eq_of_lt (Nat.lt_of_le_of_lt Nat.and_le_left lt), clear_testBit _ _ _ (by omega) (by omega)]
    by_cases e : v' = v
    · simp [e]
    · simp [e, show v' % 32 ≠ v % 32 by omega]
  · unfold State.pba
    rw [State.get_put_other]
    · have : ¬ (h' = h ∧ v' = v) := by rintro ⟨rfl, rfl⟩; exact hw ⟨rfl, rfl⟩
      simp [this]
    · intro e
      exact hw (pba_inj (by omega) (by omega) e)

theorem settle_busy (s : State) (h v h' v' : Nat) (hh : h < 2) (hh' : h' < 2) (hv : v < 64) (hv' : v' < 64) :
    (s.vectorSettle h v).vectorBusy h' v' = (s.vectorBusy h' v' && !(decide (h' = h ∧ v' = v) && !s.vectorPending h v)) := by
  unfold State.vectorSettle
  split
  · rename_i c
    simp only [Bool.and_eq_true, Bool.not_eq_true'] at c
    unfold State.vectorBusy
    rw [setPba_hostPort, setHost_hostPort _ _ _ _ hh hh', pba_setPba _ _ _ _ _ hh hh' hv hv']
    have : ∀ x, (s.setHost h x).pba h' v' = s.pba h' v' := by
      intro x; simp [State.pba, State.get, State.setHost_reg]
    rw [this]
    by_cases e : h' = h
    · subst e
      by_cases f : v' = v
      · subst f; simp [arm_same, c.2]
      · simp [f, arm_other]
    · simp [e]
  · rename_i c
    by_cases e : h' = h ∧ v' = v
    · obtain ⟨rfl, rfl⟩ := e
      cases hb : s.vectorBusy h' v' <;> cases hp : s.vectorPending h' v' <;> simp_all
    · simp [e]

theorem settle_pending (s : State) (h v h' v' : Nat) (hh : h < 2) (hh' : h' < 2) (hv : v < 64) (hv' : v' < 64) :
    (s.vectorSettle h v).vectorPending h' v' = s.vectorPending h' v' :=
  vectorPending_reg (fun q i j hq => s.vectorSettle_reg h v hh hv q i j hq) h' v' hh'

theorem settles_busy (l : List Nat) (hl : ∀ v ∈ l, v < 64) (s : State) (h h' v' : Nat) (hh : h < 2) (hh' : h' < 2) (hv' : v' < 64) :
    (l.foldl (fun s v => State.vectorSettle s h v) s).vectorBusy h' v'
      = (s.vectorBusy h' v' && !(decide (h' = h ∧ v' ∈ l) && !s.vectorPending h' v')) ∧
    (l.foldl (fun s v => State.vectorSettle s h v) s).vectorPending h' v' = s.vectorPending h' v' := by
  induction l generalizing s with
  | nil => simp
  | cons v t ih =>
    have hv := hl v List.mem_cons_self
    obtain ⟨a, b⟩ := ih (fun x hx => hl x (List.mem_cons_of_mem _ hx)) (s.vectorSettle h v)
    rw [List.foldl_cons]
    refine ⟨?_, b.trans (settle_pending s h v h' v' hh hh' hv hv')⟩
    rw [a, settle_busy s h v h' v' hh hh' hv hv', settle_pending s h v h' v' hh hh' hv hv']
    by_cases e : h' = h
    · subst e
      by_cases f : v' = v
      · subst f
        cases s.vectorBusy h' v' <;> cases s.vectorPending h' v' <;> simp
      · simp [f]
    · simp [e]

/-- After the settling every vector that is not pending is armed. -/
theorem vectorsSettle_armed (s : State) : s.vectorsSettle.VectorsArmed := by
  intro h hh v hv hp
  have r : ∀ x ∈ List.range 64, x < 64 := by simp
  unfold State.vectorsSettle at hp ⊢
  obtain ⟨a, b⟩ := settles_busy (List.range 64) r ((List.range 64).foldl (fun s v => State.vectorSettle s 0 v) s) 1 h v (by omega) hh hv
  obtain ⟨c, d⟩ := settles_busy (List.range 64) r s 0 h v (by omega) hh hv
  rw [b, d] at hp
  rw [a, c, d, hp]
  have : h = 0 ∨ h = 1 := by omega
  rcases this with rfl | rfl <;> simp [hv]

/-- Every command ends in a settled state. -/
theorem exec_settled (c : Instr) (s : State) : ∃ u, exec c s = .next (settled s u) := by
  cases c <;> exact ⟨_, rfl⟩

end Sys2Proof.Machine
end

