-- ==== Sys2Proof/Tests/Slice0.lean ====
section
/-! SUPPORT. Small tests of the model. -/

namespace Sys2Proof.Tests

/-- The check on arrivals refuses two arrivals for one MAC. -/
theorem test_wf_cell_write : (Instr.cellWrite [⟨0, false, [1]⟩, ⟨0, false, [2]⟩]).wellFormed = false := by decide
/-- The check on read requests refuses list 616. -/
theorem test_wf_cell_read : (Instr.cellRead [⟨616, false, 0⟩] none).wellFormed = false := by decide
/-- The check on parity reports refuses table 9. -/
theorem test_wf_lookup : (Instr.lookup 0 [(9, 0)]).wellFormed = false := by decide
/-- A LOG frame carries at least one tag. -/
theorem test_wf_log : (Instr.logReceive 0 []).wellFormed = false := by decide
/-- A SEEN frame carries at least one key. -/
theorem test_wf_seen : (Instr.seenReceive 0 []).wellFormed = false := by decide
/-- A FWD frame carries at most 32 words. -/
theorem test_wf_fwd : (Instr.fwdReceive 0 0 true false (List.replicate 33 0)).wellFormed = false := by decide
/-- A time base names four domains. -/
theorem test_wf_heartbeat : (Instr.heartbeatReceive 0 0 ⟨0, 0, 0, 0⟩ 0 (some ⟨0, [], 0⟩)).wellFormed = false := by decide
/-- A time base has nanoseconds below 10^9. -/
theorem test_wf_sync_cut : (Instr.syncCut ⟨0, [(0, 1000000000, 0), (0, 0, 0), (0, 0, 0), (0, 0, 0)], 0⟩).wellFormed = false := by decide
/-- A SYNC frame carries at most 32 pieces of state. -/
theorem test_wf_sync_copy : (Instr.syncStateCopy 0 ⟨0, List.replicate 33 (.reg 0 0)⟩).wellFormed = false := by decide
/-- A fetch reads at most four descriptors. -/
theorem test_wf_fetch : (Instr.descriptorFetch 0 [0, 0, 0, 0, 0]).wellFormed = false := by decide
set_option maxRecDepth 4000 in
/-- A flash command moves at most 256 bytes. -/
theorem test_wf_spi : (Instr.spiDone (List.replicate 257 0)).wellFormed = false := by
  decide
/-- A refill brings 16 handles. -/
theorem test_wf_refill : (Instr.cacheRefill 0 [0]).wellFormed = false := by decide
/-- The check value of CRC-32 over the digits 1 to 9 (the catalogue's, as for IEEE 802.3). -/
theorem test_crc32 : Machine.crc32 [0x31, 0x32, 0x33, 0x34, 0x35, 0x36, 0x37, 0x38, 0x39] = 0xCBF43926 := by decide +kernel
/-- The check value of CRC-32C over the digits 1 to 9 (the catalogue's). -/
theorem test_crc32c : Machine.crc32c [0x31, 0x32, 0x33, 0x34, 0x35, 0x36, 0x37, 0x38, 0x39] = 0xE3069283 := by decide +kernel
/-- SHA-384 of "abc" (the example of FIPS 180-4). -/
theorem test_sha384 : Machine.sha384 [0x61, 0x62, 0x63] =
    0xCB00753F45A35E8BB5A03D699AC65007272C32AB0EDED1631A8B605A43FF5BED8086072BA1E7CC2358BAECA134C825A7 := by decide +kernel
/-- The base point lies on the curve (FIPS 186-4). -/
theorem test_p384_base : Machine.p384On Machine.p384G = true := by decide +kernel

/-! The premises of every statement can be met: small states, one for each clause. -/

section Witnesses
open Sys2Proof.Machine
set_option Elab.async false

/-- Both hosts' links are up. -/
def up : State := (State.reset.put (hostUp 0) 1).put (hostUp 1) 1
/-- A configured device in a mode: the image is loaded, both links are up, and both hosts may write everything. -/
def device (m : Nat) : State := (((up.put F.IMG_STAT_STATE 7).put F.GLB_MODE_CUR m).put F.GLB_WMASK_HA_REGION 0xFFFFF).put F.GLB_WMASK_HB_REGION 0xFFFFF
/-- Port p of a device is enabled and its link is up. -/
def wired (m p : Nat) : State := ((device m).put F.PORT_CTRL_ENABLE 1 p).put F.PORT_STAT_LINK 1 p
/-- A frame that has just begun on a port. -/
def frame0 (p : Nat) : Frame := { src := p, origin := .net, pre := false, cap := 1518, maxlen := 1518, time := 0, stamp := 0, gen := 0, epoch := 0 }
/-- Port p of s receives the frame f; F has 1000 cells. -/
def hears (s : State) (p : Nat) (f : Frame) : State :=
  ({ s with frames := [(0, some f)], nextFid := 1, ports := [(p, { rxE := some 0 })] } : State).put F.SWC_FREE_CELLS 1000
/-- A MAC control frame with the bytes c after its opcode. -/
def ctlFrame (op : Nat) (c : List Byte) : List Byte :=
  let h := List.replicate 12 0 ++ beBytes 2 0x8808 ++ beBytes 2 op ++ c
  let h := h ++ List.replicate (60 - h.length) 0
  h ++ leBytes 4 (crc32 h).toNat
/-- Engine e is about to execute the microword u at address a. -/
def atWord (e : Nat) (u : BitVec 96) (x : Engine) : State :=
  { device 1 with tin := { store := [(4096 * (e / 16) + x.addr, { uw := u, chk := uwCheck u })], engines := [(e, some x)], pipe := [(0, { rob := [{ fid := 0, port := 0, prv := none }] })] } }
/-- An engine that has executed n microwords. -/
def engineAt (n a : Nat) (stack : List Nat) : Engine :=
  { fid := 0, pipe := 0, win := List.replicate 64 0xFF, wlen := 64, cur := 127, gregs := List.replicate 8 0, prv := 0, stack := stack, count := n, addr := a }
/-- A frame that is done and admitted, of 64 bytes. -/
def doneFrame (p : Nat) : Frame := { frame0 p with stage := .admitted, done := true, rx := List.replicate 64 0, begun := 1, cells := [7], liveBy := [1, 0, 0, 0] }
/-- A copy of it. -/
def copy0 : Copy := { fid := 0, sel := true }
/-- The data registers of table window w hold v. -/
def withData (s : State) (w v : Nat) : State := (List.range 14).foldl (fun s i => s.put F.LKP_DATA_DATA (v >>> (32 * i)) w i) s
/-- A dynamic entry of the forwarding database for MAC 1, FID 2 and port 3. -/
def fdb1 : Nat := learnedImg 1 2 3
/-- The first way of its bucket holds it, in both versions. -/
def learnt (stale : Bool) (s : State) : State :=
  { s with lkp := { s.lkp with slots := [((s.candidates 0 (imgKey 0 fdb1)).headD 0, { a := ⟨fdb1, 0, true⟩, b := ⟨fdb1, 0, true⟩, stale := stale })] } }
/-- A device in BRIDGE that takes commits. -/
def ready : State := ((device 1).put F.EPOCH_STAT_BUSY 0).put F.EPOCH_STAT_STATE 0
/-- A frame of 64 bytes at stage 5, with meter 8191. -/
def metered : Frame := { frame0 71 with stage := .looked, rx := List.replicate 64 0, dec := { hit := true, meterEn := true, meter := 8191 }, time := 1000 }
/-- The service's list holds a copy of a frame with the role r and the index i. -/
def pdsFrame (r i : Nat) : Frame := { doneFrame 1 with edits := [{ pdsRole := r, pdsIndex := i }] }
/-- The service runs, in the first cycle of a cycle generator of period 1 ms, and has that frame. -/
def serving (r i : Nat) : State :=
  { (device 2).put F.PDS_STAT_RUNNING 1 with frames := [(0, some (pdsFrame r i))], swc := { lists := [(615, [copy0])] }, pds := { cycle := 1 } }
/-- A boot image with four empty sections. -/
def image0 : List Byte :=
  beBytes 4 0x58494D47 ++ beBytes 2 1 ++ beBytes 2 4 ++ beBytes 4 384 ++ [0x72, 0x64, 0, 0] ++ List.replicate 48 0
    ++ [1, 2, 3, 5].flatMap (fun t => beBytes 2 t ++ beBytes 2 0 ++ beBytes 4 128 ++ beBytes 8 0) ++ List.replicate 256 0
/-- A device in LOAD, with its loader in a state. -/
def loader (st : Nat) : State := ((device 0).put F.IMG_STAT_STATE st).put F.TIN_CFG_CLUSTER_EN 7
/-- A device in mode m that takes patches, with the words of a patch. -/
def patching (m : Nat) (ws : List Word) : State :=
  ws.zipIdx.foldl (fun s e => s.setReg R.IMG_PATCH_DATA e.1 e.2) (((device m).put F.IMG_CFG_PATCH_EN 1).put F.TIN_CFG_CLUSTER_EN 7)
/-- A state with the command word of a patch of n words. -/
def patchWord (s : State) (n : Nat) : State := s.setReg R.IMG_PATCH_CMD ((s.reg R.IMG_PATCH_CMD &&& ~~~(0xFF1F : Word)) ||| keyWord n)
/-- A descriptor of type t and length n. -/
def desc (t n : Nat) : BitVec 256 := BitVec.ofNat 256 (t * 2 ^ 152 + n * 2 ^ 128)
/-- Channel n runs, with a ring of 16 and one descriptor owned, and has the work c. -/
def channel (st mode n : Nat) (c : DmaCh) : State :=
  { ((((device 1).put F.DMA_CH_STAT_STATE st n).put F.DMA_CH_CFG_MODE mode n).put F.DMA_CH_CFG_SIZE 4 n).put F.DMA_CH_TAIL_TAIL 4 n with dma := { ch := [(n, c)] } }
/-- Pool 7 has 100 buffers, for hosts; index 5 has been allocated to the owner names l, and the cache holds c. -/
def pool7 (c l : List Nat) : State :=
  { ((((((device 1).put F.BPM_POOL_CFG_COUNT 100 7).put F.BPM_POOL_CFG_EN 1 7).put F.BPM_POOL_CFG_USERS 15 7).put F.BPM_ARG_ARG (7 * 2 ^ 21 + 5) 0).put F.BPM_ARG_ARG (7 * 2 ^ 21 + 5) 1) with
    pools := [(7, { cache := c, count := 40, alloc := if l.isEmpty then [] else [(5, l)] })] }
/-- The FIFO holds one record of 9 words, from index 0 on, of which w are written. -/
def fifo (w : Nat) (done : Bool) : State := { device 1 with cff := { words := [(0, 7)], recs := [{ start := 0, len := 9, wr := w, done := done }] } }
/-- A captured copy. -/
def mirror0 : MirrorInfo := { session := 3, egress := false, snap := 0, port := 1, queue := 0, reason := 0, stamp := none, gen := 0, bytes := none }
/-- A device in SCHEDULED, with a role and its link to the twin. -/
def twin (r : Nat) : State := ((device 2).put F.TWN_STAT_ROLE r).put F.TWN_STAT_LINK 1
/-- A copy that waits for a tag. -/
def held0 (t : Nat) : Held := { fid := 0, att := some 2, kh := 0, id := 0, own := true, fwdId := none, at_ := t }

theorem verdict_done (x : ImgVerdict) (h : (match x with | .done _ => true | _ => false) = true) : ∃ v, x = .done v := by
  cases x with
  | done v => exact ⟨v, rfl⟩
  | _ => cases h

/-- The loader finds image0 complete and sound. -/
theorem image_judged : ∃ v : State, (((((loader 1).put F.IMG_STAT_SRC 1).setImg { ((loader 1).put F.IMG_STAT_SRC 1).img with
    bytes := image0.take (max 12 (imgTotal image0)) }).put F.IMG_COUNT_BYTES (min image0.length (imgTotal image0))).imgJudge
    ((((loader 1).put F.IMG_STAT_SRC 1).setImg { ((loader 1).put F.IMG_STAT_SRC 1).img with
    bytes := image0.take (max 12 (imgTotal image0)) }).put F.IMG_COUNT_BYTES (min image0.length (imgTotal image0))).img.bytes) = .done v :=
  verdict_done _ (by decide +kernel)

/-- A table whose listed slots have no parity error has none anywhere. -/
theorem slots_clean (s : State) (h : s.lkp.lost = none ∧ (s.lkp.slots.all fun x => !x.2.perr) = true) (t i : Nat) :
    (s.slot t i).perr = false := by
  have look : ∀ (l : Tab Slot9) (k : Nat), (l.all fun x => !x.2.perr) = true → ∀ v, tabFind? k l = some v → v.perr = false := by
    intro l
    induction l with
    | nil => intro k _ v hv; cases hv
    | cons a l ih =>
      intro k hl v hv
      simp only [List.all_cons, Bool.and_eq_true, Bool.not_eq_true'] at hl
      rw [tabFind?] at hv
      split at hv
      · cases hv; exact hl.1
      · exact ih k hl.2 v hv
  unfold State.slot
  split
  · rfl
  · split
    · next v hv => exact look _ _ h.2 _ hv
    · rw [h.1]

/-- The premises of AccessChecks can hold, clause by clause. -/
theorem witness_AccessChecks :
    (∃ (s : State) (h : HostId) (off : BitVec 24), s.linked h = true ∧ s.gated off.toNat = false ∧ s.compact = false ∧ off.toNat % 4 = 0 ∧ s.maskOk (hostNum h) off.toNat = false) ∧
    (∃ (s : State) (h : HostId) (off : BitVec 24), s.linked h = true ∧ s.gated off.toNat = false ∧ s.compact = false ∧ off.toNat % 4 = 0 ∧ s.maskOk (hostNum h) off.toNat = true ∧ (cffWindow off.toNat = true ∨ regAt off.toNat = none)) ∧
    (∃ (s : State) (h : HostId) (off : BitVec 24) (w : Width), s.linked h = true ∧ crosses off.toNat w = true) ∧
    (∃ (s : State) (h : HostId) (off : BitVec 24) (w : Width), s.linked h = true ∧ crosses off.toNat w = true) ∧
    (∃ (s : State) (h : HostId) (off : BitVec 24) (w : Width) (r : RegSpec) (i : Nat) (j : Nat), s.linked h = true ∧ (w = Width.w8 ∨ w = Width.w16) ∧ crosses off.toNat w = false ∧ s.gated (off.toNat - off.toNat % 4) = false ∧ s.compact = false ∧ s.maskOk (hostNum h) (off.toNat - off.toNat % 4) = true ∧ cffWindow (off.toNat - off.toNat % 4) = false ∧ regAt (off.toNat - off.toNat % 4) = some (r, i, j) ∧ narrowOk r = false) :=
  ⟨⟨up.put F.IMG_STAT_STATE 7, .ha, 0x200000, by decide +kernel⟩,
    ⟨device 1, .hb, 0xFFFFFC, by decide +kernel⟩,
    ⟨up, .ha, 0x200003, .w16, by decide +kernel⟩,
    ⟨up, .hb, 0x200001, .w32, by decide +kernel⟩,
    ⟨device 1, .ha, 0x200003, .w8, R.SWC_CFG, 0, 0, by decide +kernel⟩⟩

/-- The premises of RegisterAccesses can hold, clause by clause. -/
theorem witness_RegisterAccesses :
    (∃ (s : State) (h : HostId) (off : BitVec 24) (r : RegSpec) (i : Nat) (j : Nat), regAt off.toNat = some (r, i, j) ∧ 2097152 ≤ r.base ∧ r.base < 3145728 ∧ r.has Acc.sc = false ∧ r.has Acc.rwe = false ∧ r.hostPrivate = false ∧ s.linked h = true ∧ s.gated off.toNat = false ∧ s.compact = false ∧ s.maskOk (hostNum h) off.toNat = true ∧ s.ignoresMirrored = false ∧ off.toNat % 4 = 0) ∧
    (∃ (s : State) (h : HostId) (off : BitVec 24) (data : Word) (r : RegSpec) (i : Nat) (j : Nat), regAt off.toNat = some (r, i, j) ∧ r.has Acc.sc = true ∧ cffWindow off.toNat = false ∧ mirrored r = false ∧ bulkWindow r = false ∧ s.linked h = true ∧ s.gated off.toNat = false ∧ s.compact = false ∧ s.maskOk (hostNum h) off.toNat = true ∧ off.toNat % 4 = 0 ∧ r.off (regIdx r (hostNum h) i j).1 (regIdx r (hostNum h) i j).2 ∉ pbaOffs ∧ getBits data 31 24 = getBits (s.reg r (regIdx r (hostNum h) i j).1 (regIdx r (hostNum h) i j).2) 31 24) ∧
    (∃ (s : State) (h : HostId) (off : BitVec 24) (data : Word) (r : RegSpec) (i : Nat) (j : Nat), regAt off.toNat = some (r, i, j) ∧ r.has Acc.sc = true ∧ cffWindow off.toNat = false ∧ mirrored r = false ∧ bulkWindow r = false ∧ s.linked h = true ∧ s.gated off.toNat = false ∧ s.compact = false ∧ s.maskOk (hostNum h) off.toNat = true ∧ off.toNat % 4 = 0 ∧ r.off (regIdx r (hostNum h) i j).1 (regIdx r (hostNum h) i j).2 ∉ pbaOffs ∧ getBits data 31 24 ≠ getBits (s.reg r (regIdx r (hostNum h) i j).1 (regIdx r (hostNum h) i j).2) 31 24) ∧
    (∃ (s : State) (h : HostId) (off : BitVec 24) (r : RegSpec) (i : Nat) (j : Nat), regAt off.toNat = some (r, i, j) ∧ r.has Acc.rc = true ∧ isPairLo r = false ∧ isPairHi r = false ∧ r.hostPrivate = false ∧ cffWindow off.toNat = false ∧ r.base ∉ [R.GLB_SEM.base, R.INV_TIO_CAP_NS.base, R.INV_TD_NS.base, R.EGS_GCL_D1.base, R.PORT_CNT_LO.base, R.BPM_POOL_LOW.base] ∧ s.linked h = true ∧ s.gated off.toNat = false ∧ s.compact = false ∧ off.toNat % 4 = 0 ∧ r.off i j ∉ pbaOffs) ∧
    (∃ (s : State) (h : HostId) (off : BitVec 24) (r : RegSpec) (q : RegSpec) (i : Nat) (j : Nat) (i' : Nat) (j' : Nat), regAt off.toNat = some (r, i, j) ∧ isPairLo r = true ∧ regAt (off.toNat + 4) = some (q, i', j') ∧ isPairHi r = false ∧ cffWindow off.toNat = false ∧ r.base ≠ R.GLB_SEM.base ∧ r.base ≠ R.INV_TIO_CAP_NS.base ∧ r.base ≠ R.INV_TD_NS.base ∧ r.base ≠ R.EGS_GCL_D1.base ∧ s.linked h = true ∧ s.gated off.toNat = false ∧ s.compact = false ∧ off.toNat % 4 = 0) ∧
    (∃ (s : State) (h : HostId), s.reaches h R.GLB_ACC_ADDR 0 0 = true) ∧
    (∃ (s : State) (h : HostId) (off : BitVec 24) (r : RegSpec) (i : Nat) (j : Nat) (f : FieldSpec), regAt (off.toNat / 128 * 4) = some (r, i, j) ∧ 131072 ≤ r.base ∧ r.base < 196608 ∧ r.base ∉ [R.MGT_SPI_CMD.base, R.MGT_MDIO_CMD.base, R.MGT_WDT_CFG.base, R.MGT_WDT_KICK.base, R.MGT_SPI_BUF.base, R.MGT_SPI_CFG.base, R.MGT_MDIO_CFG.base] ∧ r.has Acc.sc = false ∧ r.has Acc.rwe = false ∧ r.hostPrivate = false ∧ r.fieldAt (off.toNat % 128 / 4) = some f ∧ f.acc = Acc.rw ∧ off.toNat % 4 = 0 ∧ s.linked h = true ∧ s.gated (off.toNat / 128 * 4) = false ∧ s.compact = false ∧ s.maskOk (hostNum h) (off.toNat / 128 * 4) = true) ∧
    (∃ (s : State) (h : HostId) (off : BitVec 24) (data : Word) (r : RegSpec) (i : Nat) (j : Nat) (f : FieldSpec), regAt (off.toNat / 128 * 4) = some (r, i, j) ∧ r.fieldAt (off.toNat % 128 / 4) = some f ∧ (f.acc = Acc.ro ∨ f.acc = Acc.rc ∨ (f.acc = Acc.sc ∨ f.acc = Acc.wo) ∧ getBits data 0 0 = 0) ∧ off.toNat % 4 = 0 ∧ s.linked h = true ∧ s.gated (off.toNat / 128 * 4) = false ∧ s.compact = false ∧ s.maskOk (hostNum h) (off.toNat / 128 * 4) = true) :=
  ⟨⟨device 1, .ha, 0x200000, R.SWC_CFG, 0, 0, by decide +kernel⟩,
    ⟨(device 1).evt F.TWN_EVT_JOINED, .ha, 0x4000C, 0x010001FF, R.TWN_EVT, 0, 0, by decide +kernel⟩,
    ⟨(device 1).evt F.TWN_EVT_JOINED, .ha, 0x4000C, 0x000001FF, R.TWN_EVT, 0, 0, by decide +kernel⟩,
    ⟨(device 1).put F.BPM_REJ_CNT_COUNT 5, .hb, 0x60010, R.BPM_REJ_CNT, 0, 0, by decide +kernel⟩,
    ⟨device 1, .hb, 0x40020, R.TWN_TCC_LO, R.TWN_TCC_HI, 0, 0, 0, 0, by decide +kernel⟩,
    ⟨device 1, .ha, by decide +kernel⟩,
    ⟨device 1, .ha, 0x4000EC, R.MGT_TEMP, 0, 0, fld "ALARM" 27 16 .rw 420, by decide +kernel⟩,
    ⟨device 1, .hb, 0x00, 1, R.GLB_ID, 0, 0, fld "REV_MINOR" 3 0 .ro 0, by decide +kernel⟩⟩

/-- The premises of SemaphoreOwnership can hold, clause by clause. -/
theorem witness_SemaphoreOwnership :
    (∃ (s : State) (h : HostId) (n : Fin 64) (data : Word), s.opens h R.GLB_SEM (↑n : Nat) 0 = true ∧ s.get F.GLB_SEM_OWNER (↑n : Nat) = hostNum h + 1 ∧ getBits data 16 16 = 0) ∧
    (∃ (s : State) (h : HostId) (n : Fin 64) (data : Word), s.opens h R.GLB_SEM (↑n : Nat) 0 = true ∧ s.get F.GLB_SEM_OWNER (↑n : Nat) = hostNum h + 1 ∧ getBits data 16 16 = 1) ∧
    (∃ (s : State) (h : HostId) (n : Fin 64) (data : Word), s.opens h R.GLB_SEM (↑n : Nat) 0 = true ∧ s.get F.GLB_SEM_OWNER (↑n : Nat) ≠ hostNum h + 1 ∧ getBits data 16 16 = 0) ∧
    (∃ (s : State) (h : HostId) (n : Fin 64) (data : Word), s.opens h R.GLB_SEM (↑n : Nat) 0 = true ∧ s.get F.GLB_SEM_OWNER (↑n : Nat) ≠ hostNum h + 1 ∧ getBits data 16 16 = 1) ∧
    (∃ (s : State) (h : HostId) (n : Fin 64), s.reaches h R.GLB_SEM (↑n : Nat) 0 = true ∧ s.get F.GLB_SEM_OWNER (↑n : Nat) ≠ 0) ∧
    (∃ (s : State) (host : Nat) (n : Nat), n < 64 ∧ s.get F.GLB_SEM_OWNER n = host + 1) :=
  ⟨⟨(device 1).put F.GLB_SEM_OWNER 1 63, .ha, 63, 0xFFFF, by decide +kernel⟩,
    ⟨(device 1).put F.GLB_SEM_OWNER 2 0, .hb, 0, 0x1FFFF, by decide +kernel⟩,
    ⟨(device 1).put F.GLB_SEM_OWNER 1 63, .hb, 63, 0, by decide +kernel⟩,
    ⟨device 1, .ha, 63, 0x10000, by decide +kernel⟩,
    ⟨(device 1).put F.GLB_SEM_OWNER 2 63, .ha, 63, by decide +kernel⟩,
    ⟨(device 1).put F.GLB_SEM_OWNER 2 63, 1, 63, by decide +kernel⟩⟩

/-- The premises of SemaphoreClaimAndHostLink can hold, clause by clause. -/
theorem witness_SemaphoreClaimAndHostLink :
    (∃ (s : State) (h : HostId) (n : Fin 64), s.reaches h R.GLB_SEM (↑n : Nat) 0 = true ∧ s.get F.GLB_SEM_OWNER (↑n : Nat) = 0) ∧
    (∃ (s : State) (host : Nat) (n : Nat), n < 64 ∧ s.get F.GLB_SEM_OWNER n = host + 1) ∧
    (∃ (s : State) (host : Nat) (n : Nat), n < 64 ∧ s.get F.GLB_SEM_OWNER n ≠ host + 1) :=
  ⟨⟨device 1, .hb, 63, by decide +kernel⟩,
    ⟨(device 1).put F.GLB_SEM_OWNER 1 63, 0, 63, by decide +kernel⟩,
    ⟨(device 1).put F.GLB_SEM_OWNER 1 0, 1, 0, by decide +kernel⟩⟩

/-- The premises of DoorbellsAndMessages can hold, clause by clause. -/
theorem witness_DoorbellsAndMessages :
    (∃ (s : State) (h : HostId) (ring : Byte), s.opens h R.GLB_DOORBELL 0 0 = true ∧ ring ≠ 0) ∧
    (∃ (s : State) (h : HostId) (v : Fin 64) (enabled : Bool) (masked : Bool), s.vectorPending (hostNum h) (↑v : Nat) = true ∧ (s.hostPort (hostNum h)).sent.testBit (↑v : Nat) = false ∧ (∀ (k : Nat), tabFind? (↑v : Nat) (s.hostPort (hostNum h)).lastMsg = some k → k + 500 * s.get F.GLB_INT_CFG_HOLDOFF (hostNum h) ≤ s.inv.ticks) ∧ s.messageAllowed (hostNum h) (↑v : Nat) enabled masked = true) ∧
    (∃ (s : State) (h : HostId) (v : Fin 64) (enabled : Bool) (masked : Bool), s.vectorPending (hostNum h) (↑v : Nat) = true ∧ (s.hostPort (hostNum h)).sent.testBit (↑v : Nat) = false ∧ (∀ (k : Nat), tabFind? (↑v : Nat) (s.hostPort (hostNum h)).lastMsg = some k → k + 500 * s.get F.GLB_INT_CFG_HOLDOFF (hostNum h) ≤ s.inv.ticks) ∧ s.messageAllowed (hostNum h) (↑v : Nat) enabled masked = false) ∧
    (∃ (s : State) (h : HostId) (v : Fin 64), s.pba (hostNum h) (↑v : Nat) = true ∧ s.vectorPending (hostNum h) (↑v : Nat) = true ∧ (s.hostPort (hostNum h)).d3 = false) :=
  ⟨⟨device 1, .hb, 0x80, by decide +kernel⟩,
    ⟨((device 1).put F.GLB_DB_STAT_DB 0x80 0).put F.MSIX_CTRL_MASKED 0 63 0, .ha, 63, true, false, by decide +kernel⟩,
    ⟨(device 1).put F.GLB_DB_STAT_DB 0x80 0, .ha, 63, true, true, by decide +kernel⟩,
    ⟨((device 1).put F.GLB_DB_STAT_DB 0x80 1).put F.MSIX_PBA_PBA (2^31) 1 1, .hb, 63, by decide +kernel⟩⟩

/-- The premises of SerialManagement can hold, clause by clause. -/
theorem witness_SerialManagement :
    (∃ (s : State) (h : HostId), s.opens h R.MGT_SPI_CMD 0 0 = true ∧ s.spiBusy = false) ∧
    (∃ (s : State) (h : HostId), s.opens h R.MGT_SPI_CMD 0 0 = true ∧ s.spiBusy = false) ∧
    (∃ (s : State) (w : Word) (a : Word), s.mgt.spi = some (w, a)) ∧
    (∃ (s : State) (h : HostId), s.opens h R.MGT_MDIO_CMD 0 0 = true ∧ s.bit F.MGT_MDIO_STAT_BUSY = false) ∧
    (∃ (s : State) (h : HostId), s.opens h R.MGT_MDIO_CMD 0 0 = true ∧ s.bit F.MGT_MDIO_STAT_BUSY = false) ∧
    (∃ (s : State) (h : HostId), s.opens h R.MGT_MDIO_CMD 0 0 = true ∧ s.bit F.MGT_MDIO_STAT_BUSY = false) ∧
    (∃ (s : State) (h : HostId), s.opens h R.MGT_MDIO_CMD 0 0 = true ∧ s.bit F.MGT_MDIO_STAT_BUSY = false) ∧
    (∃ (s : State) (w : Word), s.mgt.mdio = some w) :=
  ⟨⟨device 1, .ha, by decide +kernel⟩,
    ⟨device 1, .hb, by decide +kernel⟩,
    ⟨{ device 1 with mgt := { spi := some (0x02000001, 0) } }, 0x02000001, 0, by decide +kernel⟩,
    ⟨device 1, .ha, by decide +kernel⟩,
    ⟨device 1, .ha, by decide +kernel⟩,
    ⟨device 1, .hb, by decide +kernel⟩,
    ⟨device 1, .hb, by decide +kernel⟩,
    ⟨{ device 1 with mgt := { mdio := some 0 } }, 0, by decide +kernel⟩⟩

/-- The premises of WatchdogAndTargets can hold, clause by clause. -/
theorem witness_WatchdogAndTargets :
    (∃ (b : List Byte), 4 ≤ b.length) ∧
    (∃ (s : State) (h : HostId), s.opens h R.MGT_WDT_CFG 0 0 = true ∧ s.mgt.wdtLocked = false ∧ s.bit F.MGT_WDT_CFG_EN = false) ∧
    (∃ (s : State) (h : HostId) (key : Byte), s.opens h R.MGT_WDT_KICK 0 0 = true ∧ s.bit F.MGT_WDT_CFG_EN = true ∧ key = 90) ∧
    (∃ (s : State) (h : HostId) (key : Byte), s.opens h R.MGT_WDT_KICK 0 0 = true ∧ s.bit F.MGT_WDT_CFG_EN = true ∧ key ≠ 90) ∧
    (∃ (s : State), s.bit F.MGT_WDT_CFG_EN = true ∧ s.get F.MGT_WDT_CFG_WARN ≠ 0 ∧ s.get F.MGT_WDT_LEFT_LEFT = s.get F.MGT_WDT_CFG_WARN ∧ s.mgt.warned = false) ∧
    (∃ (s : State), s.bit F.MGT_WDT_CFG_EN = true ∧ s.get F.MGT_WDT_LEFT_LEFT = 0) :=
  ⟨⟨beBytes 4 R.MGT_I2C_MBOX_IN.base ++ [1, 2, 3, 4], by decide +kernel⟩,
    ⟨device 1, .ha, by decide +kernel⟩,
    ⟨(device 1).put F.MGT_WDT_CFG_EN 1, .ha, 0x5A, by decide +kernel⟩,
    ⟨(device 1).put F.MGT_WDT_CFG_EN 1, .hb, 0, by decide +kernel⟩,
    ⟨(((device 1).put F.MGT_WDT_CFG_EN 1).put F.MGT_WDT_CFG_WARN 255).put F.MGT_WDT_LEFT_LEFT 255, by decide +kernel⟩,
    ⟨(device 1).put F.MGT_WDT_CFG_EN 1, by decide +kernel⟩⟩

/-- The premises of TimeDomains can hold, clause by clause. -/
theorem witness_TimeDomains :
    (∃ (s : State) (h : HostId), s.opens h R.INV_CMD 0 0 = true ∧ s.bit F.INV_STAT_BUSY = false) ∧
    (∃ (s : State) (h : HostId), s.opens h R.INV_CMD 0 0 = true ∧ s.bit F.INV_STAT_BUSY = false) ∧
    (∃ (s : State) (h : HostId), s.opens h R.INV_CMD 0 0 = true ∧ s.bit F.INV_STAT_BUSY = false) ∧
    (∃ (s : State) (h : HostId) (d : Fin 4), s.opens h R.INV_CMD 0 0 = true ∧ s.bit F.INV_STAT_BUSY = false ∧ s.get F.INV_TD_ADJ_ADJ (↑d : Nat) ≠ 0) ∧
    (∃ (s : State) (h : HostId) (d : Fin 4), s.opens h R.INV_CMD 0 0 = true ∧ s.bit F.INV_STAT_BUSY = false ∧ s.get F.INV_TD_ADJ_ADJ (↑d : Nat) = 0) ∧
    (∃ (s : State) (h : HostId), s.opens h R.INV_CMD 0 0 = true ∧ s.bit F.INV_STAT_BUSY = false) ∧
    (∃ (s : State) (h : HostId), s.opens h R.INV_CMD 0 0 = true ∧ s.bit F.INV_STAT_BUSY = false) ∧
    (∃ (s : State) (h : HostId) (d : Fin 4), s.opens h R.INV_TD_RATE_HI (↑d : Nat) 0 = true ∧ s.bit F.INV_STAT_BUSY = false) ∧
    (∃ (s : State) (d : Fin 4), (s.dom (↑d : Nat)).slewRem = 0 ∧ (s.get F.INV_STAT_SLEWING).testBit (↑d : Nat) = true) ∧
    (∃ (s : State) (h : HostId) (d : Fin 4), s.reaches h R.INV_TD_NS (↑d : Nat) 0 = true) ∧
    (∃ (s : State), s.twn.syncs = [] ∧ s.inv.act = none) ∧
    (∃ (s : State) (a : InvAct), s.twn.syncs = [] ∧ s.inv.act = some (a, false)) ∧
    (∃ (s : State) (a : InvAct), s.twn.syncs = [] ∧ s.inv.act = some (a, true)) :=
  ⟨⟨device 1, .ha, by decide +kernel⟩,
    ⟨(device 1).put F.INV_TD_SET_NS_NS 999999999 3, .hb, by decide +kernel⟩,
    ⟨(device 1).put F.INV_TD_OFS_LO_OFS 5 3, .hb, by decide +kernel⟩,
    ⟨(device 1).put F.INV_TD_ADJ_ADJ 0xFFFFFFFF 3, .ha, 3, by decide +kernel⟩,
    ⟨(device 1).put F.INV_STAT_SLEWING 8, .ha, 3, by decide +kernel⟩,
    ⟨(device 1).put F.INV_STAT_SLEWING 8, .ha, by decide +kernel⟩,
    ⟨device 1, .ha, by decide +kernel⟩,
    ⟨device 1, .ha, 3, by decide +kernel⟩,
    ⟨(device 1).put F.INV_STAT_SLEWING 8, 3, by decide +kernel⟩,
    ⟨device 1, .ha, 3, by decide +kernel⟩,
    ⟨device 5, by decide +kernel⟩,
    ⟨{ device 1 with inv := { act := some (.set 3 1 999999999, false) } }, .set 3 1 999999999, by decide +kernel⟩,
    ⟨{ device 1 with inv := { act := some (.set 3 1 999999999, true) } }, .set 3 1 999999999, by decide +kernel⟩⟩

/-- The premises of CycleGenerator can hold, clause by clause. -/
theorem witness_CycleGenerator :
    (∃ (s : State) (h : HostId), s.opens h R.INV_CYC_CTRL 0 0 = true ∧ s.bit F.INV_CYC_CTRL_EN = false ∧ cycPeriodOk (s.get F.INV_CYC_OPER_PERIOD_PERIOD) = true) ∧
    (∃ (s : State) (h : HostId), s.opens h R.INV_CYC_CTRL 0 0 = true ∧ s.bit F.INV_CYC_CTRL_EN = true ∧ s.cycNeeded = false) ∧
    (∃ (s : State) (h : HostId), s.opens h R.INV_CYC_CTRL 0 0 = true ∧ s.bit F.INV_CYC_CTRL_EN = true ∧ s.cycNeeded = true) ∧
    (∃ (s : State) (h : HostId), s.opens h R.INV_CYC_CHG 0 0 = true ∧ s.bit F.INV_CYC_STAT_CHG_PEND = false ∧ cycPeriodOk (s.get F.INV_CYC_ADM_PERIOD_PERIOD) = true ∧ s.get F.INV_CYC_ADM_BASE_NS_NS < 1000000000) ∧
    (∃ (s : State) (h : HostId), s.opens h R.INV_CYC_CHG 0 0 = true ∧ s.bit F.INV_CYC_STAT_CHG_PEND = true) ∧
    (∃ (s : State) (c : PendChange), s.inv.cycPend = some c ∧ c.tx ≤ s.now) ∧
    (∃ (s : State) (n : Int), s.inv.cycNext = some n ∧ n ≤ s.now ∧ s.inv.cycPend = none ∧ s.get F.INV_CYC_OPER_PERIOD_PERIOD ≠ 0) :=
  ⟨⟨(device 1).put F.INV_CYC_OPER_PERIOD_PERIOD 1000000, .ha, by decide +kernel⟩,
    ⟨(device 1).put F.INV_CYC_CTRL_EN 1, .ha, by decide +kernel⟩,
    ⟨(device 3).put F.INV_CYC_CTRL_EN 1, .hb, by decide +kernel⟩,
    ⟨((device 1).put F.INV_CYC_ADM_PERIOD_PERIOD 1000000).put F.INV_CYC_ADM_BASE_NS_NS 999999999, .hb, by decide +kernel⟩,
    ⟨{ (device 1).put F.INV_CYC_STAT_CHG_PEND 1 with inv := { cycPend := some ⟨0, 0, 1000000, 0, 0⟩ } }, .ha, by decide +kernel⟩,
    ⟨{ (device 1).put F.INV_CYC_STAT_CHG_PEND 1 with inv := { cycPend := some ⟨0, 0, 1000000, 0, 0⟩ } }, ⟨0, 0, 1000000, 0, 0⟩, by decide +kernel⟩,
    ⟨{ (device 1).put F.INV_CYC_OPER_PERIOD_PERIOD 1000000 with inv := { cycNext := some 0 } }, 0, by decide +kernel⟩⟩

/-- The premises of TimedPins can hold, clause by clause. -/
theorem witness_TimedPins :
    (∃ (s : State) (h : HostId) (i : Fin 16), s.opens h R.INV_TIO_CFG (↑i : Nat) 0 = true) ∧
    (∃ (s : State) (h : HostId) (i : Fin 16) (cfg : BitVec 11), s.opens h R.INV_TIO_CFG (↑i : Nat) 0 = true ∧ s.bit F.INV_TIO_CFG_EN (↑i : Nat) = false ∧ ((s.setReg R.INV_TIO_CFG ((s.reg R.INV_TIO_CFG (↑i : Nat) &&& ~~~accMask R.INV_TIO_CFG fun (a : Acc) => a == Acc.rwe) ||| word (2 ^ 31 + cfg.toNat) &&& accMask R.INV_TIO_CFG fun (a : Acc) => a == Acc.rwe) (↑i : Nat)).tioEnableOk (↑i : Nat) = true)) ∧
    (∃ (s : State) (i : Fin 16), s.bit F.INV_TIO_CFG_EN (↑i : Nat) = true ∧ s.tioFrozen (↑i : Nat) = false ∧ s.get F.INV_TIO_CFG_MODE (↑i : Nat) = 4 ∧ s.tioT (↑i : Nat) ≤ s.tioNow (↑i : Nat)) ∧
    (∃ (s : State) (i : Fin 16) (r : Int) (rest : List Int), s.bit F.INV_TIO_CFG_EN (↑i : Nat) = true ∧ s.tioFrozen (↑i : Nat) = false ∧ s.get F.INV_TIO_CFG_MODE (↑i : Nat) = 6 ∧ (s.tio (↑i : Nat)).rise = r :: rest ∧ r ≤ s.tioNow (↑i : Nat) ∧ (s.tio (↑i : Nat)).fall = none ∧ s.tioNow (↑i : Nat) < r + (↑(s.get F.INV_TIO_WIDTH_WIDTH (↑i : Nat)) : Int)) ∧
    (∃ (s : State) (i : Fin 16) (rising : Bool), s.bit F.INV_TIO_CFG_EN (↑i : Nat) = true ∧ s.domRuns (s.tioDom (↑i : Nat)) = true ∧ (s.get F.INV_TIO_CFG_MODE (↑i : Nat) = 3 ∨ s.get F.INV_TIO_CFG_MODE (↑i : Nat) = if rising = true then 1 else 2) ∧ (s.tio (↑i : Nat)).queue.length < 4) ∧
    (∃ (s : State) (i : Fin 16) (rising : Bool), s.bit F.INV_TIO_CFG_EN (↑i : Nat) = true ∧ s.domRuns (s.tioDom (↑i : Nat)) = true ∧ (s.get F.INV_TIO_CFG_MODE (↑i : Nat) = 3 ∨ s.get F.INV_TIO_CFG_MODE (↑i : Nat) = if rising = true then 1 else 2) ∧ 4 ≤ (s.tio (↑i : Nat)).queue.length) ∧
    (∃ (s : State) (h : HostId) (i : Fin 16) (c : Capture) (rest : List Capture), s.reaches h R.INV_TIO_CAP_NS (↑i : Nat) 0 = true ∧ (s.tio (↑i : Nat)).queue = c :: rest) :=
  ⟨⟨(device 1).put F.INV_TIO_CFG_EN 1 15, .ha, 15, by decide +kernel⟩,
    ⟨device 1, .hb, 15, 0x100, by decide +kernel⟩,
    ⟨((device 1).put F.INV_TIO_CFG_EN 1 15).put F.INV_TIO_CFG_MODE 4 15, 15, by decide +kernel⟩,
    ⟨{ (((device 1).put F.INV_TIO_CFG_EN 1 15).put F.INV_TIO_CFG_MODE 6 15).put F.INV_TIO_WIDTH_WIDTH 100 15 with inv := { tio := [(15, { rise := [0] })] } }, 15, 0, [], by decide +kernel⟩,
    ⟨((device 1).put F.INV_TIO_CFG_EN 1 15).put F.INV_TIO_CFG_MODE 3 15, 15, true, by decide +kernel⟩,
    ⟨{ ((device 1).put F.INV_TIO_CFG_EN 1 15).put F.INV_TIO_CFG_MODE 1 15 with inv := { tio := [(15, { queue := List.replicate 4 ⟨0, 0, true, 0⟩ })] } }, 15, true, by decide +kernel⟩,
    ⟨{ device 1 with inv := { tio := [(15, { queue := [⟨1, 2, true, 0⟩] })] } }, .ha, 15, ⟨1, 2, true, 0⟩, [], by decide +kernel⟩⟩

/-- The premises of ModeRequests can hold, clause by clause. -/
theorem witness_ModeRequests :
    (∃ (s : State) (h : HostId) (key : Byte), s.opens h R.GLB_MODE_REQ 0 0 = true ∧ s.episode = false ∧ key ≠ 165) ∧
    (∃ (s : State) (h : HostId) (key : Byte), s.opens h R.GLB_MODE_REQ 0 0 = true ∧ s.episode = false ∧ key = 165 ∧ s.mode = modeHOLD) ∧
    (∃ (s : State) (h : HostId) (key : Byte), s.opens h R.GLB_MODE_REQ 0 0 = true ∧ s.episode = false ∧ key = 165 ∧ s.mode ≠ modeHOLD ∧ s.bit F.GLB_MODE_TRANSIT = true) ∧
    (∃ (s : State) (h : HostId) (key : Byte) (mode : Fin 8), s.opens h R.GLB_MODE_REQ 0 0 = true ∧ s.episode = false ∧ key = 165 ∧ forwarding s.mode = true ∧ (↑mode : Nat) ∈ [modeBRIDGE, modeSCHEDULED, modeADAPTIVE] ∧ (↑mode : Nat) ≠ s.mode ∧ s.bit F.GLB_MODE_TRANSIT = false ∧ s.bit F.TWN_CTRL_EN = false ∧ (s.get F.GLB_MODE_PERMIT_PERMIT).testBit (↑mode : Nat) = true ∧ s.role ≠ roleACTIVE) ∧
    (∃ (s : State) (t0 : Int), s.md.ts = some t0 ∧ t0 ≤ s.now) :=
  ⟨⟨device 1, .ha, 0, by decide +kernel⟩,
    ⟨device 6, .hb, 0xA5, by decide +kernel⟩,
    ⟨(device 1).put F.GLB_MODE_TRANSIT 1, .ha, 0xA5, by decide +kernel⟩,
    ⟨(device 1).put F.GLB_MODE_PERMIT_PERMIT 0xFF, .ha, 0xA5, 2, by decide +kernel⟩,
    ⟨{ (device 1).put F.GLB_MODE_TARGET 2 with md := { ts := some 0 } }, 0, by decide +kernel⟩⟩

/-- The premises of PewterAndWake can hold, clause by clause. -/
theorem witness_PewterAndWake :
    (∃ (s : State), s.draining modePEWTER = true ∧ s.drained = true) ∧
    ((∃ (s : State) (k : Nat) (f : Frame) (c : Nat), s.md.accept.isSome = true ∧ s.md.gate = none ∧ s.md.deadline ≤ s.now ∧ s.drained = false ∧ s.ports = [] ∧ s.dma.ch = [] ∧ s.twn.fwdTx = [] ∧ s.frames = [(k, some f)] ∧ (f.stage ≠ Stage.admitted ∧ f.stage ≠ Stage.gone ∧ s.swc.lists = [] ∧ c = queueClass (if f.dec.queued = true then f.dec.queue else 0) ∨ f.stage = Stage.admitted ∧ ∃ (n : Nat) (x : Copy), s.swc.lists = [(n, [x])] ∧ x.fid = k ∧ c = listClass n)) ∧
    (∃ (s : State) (k : Nat) (f : Frame) (c : Nat), s.md.accept.isSome = true ∧ s.md.gate = none ∧ s.md.deadline ≤ s.now ∧ s.drained = false ∧ s.ports = [] ∧ s.dma.ch = [] ∧ s.twn.fwdTx = [] ∧ s.frames = [(k, some f)] ∧ (f.stage ≠ Stage.admitted ∧ f.stage ≠ Stage.gone ∧ s.swc.lists = [] ∧ c = queueClass (if f.dec.queued = true then f.dec.queue else 0) ∨ f.stage = Stage.admitted ∧ ∃ (n : Nat) (x : Copy), s.swc.lists = [(n, [x])] ∧ x.fid = k ∧ c = listClass n))) ∧
    (∃ (s : State) (g : Nat), s.md.gate = some g ∧ g + 15000 ≤ s.inv.ticks) ∧
    (∃ (s : State), s.draining modeMAINTENANCE = true ∧ s.drained = true) ∧
    (∃ (s : State) (p : Port) (b : List Byte) (i : Nat) (k : KaSlot), s.mode = modePEWTER ∧ i < 4 ∧ s.md.ka[i]? = some k ∧ k.en = true ∧ k.port = (↑p : Nat) ∧ k.matches b = true ∧ s.md.wake = none) ∧
    (∃ (s : State), s.mode = modePEWTER ∧ s.md.wake = none ∧ s.bit F.GLB_PEWTER_CFG_TIME_WAKE_EN = true ∧ fullTime (s.dom 0) (s.get F.GLB_WAKE_SEC_SEC) (s.get F.GLB_WAKE_NS_NS) ≤ s.now) ∧
    (∃ (s : State), s.mode = modePEWTER ∧ s.md.wake = none ∧ s.md.wakeDue ≠ 0) ∧
    (∃ (s : State) (w : Nat), s.md.wake = some w ∧ w + 22500 ≤ s.inv.ticks) :=
  ⟨⟨{ (device 1).put F.GLB_MODE_TARGET 5 with md := { accept := some 0 } }, by decide +kernel⟩,
    ⟨⟨{ (device 1).put F.GLB_MODE_TARGET 5 with md := { accept := some 0 }, nextFid := 1, frames := [(0, some { frame0 1 with stage := .looked, begun := 1, rx := List.replicate 64 0 })] }, 0, { frame0 1 with stage := .looked, begun := 1, rx := List.replicate 64 0 }, 0, by decide +kernel, by decide +kernel, by decide +kernel, by decide +kernel, by decide +kernel, by decide +kernel, by decide +kernel, by decide +kernel, .inl (by decide +kernel)⟩,
     { (device 1).put F.GLB_MODE_TARGET 5 with md := { accept := some 0 }, nextFid := 1, frames := [(0, some (doneFrame 1))], swc := { lists := [(15, [copy0])] } }, 0, doneFrame 1, 3, by decide +kernel, by decide +kernel, by decide +kernel, by decide +kernel, by decide +kernel, by decide +kernel, by decide +kernel, by decide +kernel, .inr ⟨by decide +kernel, 15, copy0, by decide +kernel⟩⟩,
    ⟨{ device 1 with md := { gate := some 0 }, inv := { ticks := 15000 } }, 0, by decide +kernel⟩,
    ⟨{ (device 1).put F.GLB_MODE_TARGET 7 with md := { accept := some 0 } }, by decide +kernel⟩,
    ⟨{ device 5 with md := { ka := List.replicate 4 ⟨true, 1, 71, 0, 0⟩ } }, 71, List.replicate 64 0, 3, ⟨true, 1, 71, 0, 0⟩, by decide +kernel⟩,
    ⟨(device 5).put F.GLB_PEWTER_CFG_TIME_WAKE_EN 1, by decide +kernel⟩,
    ⟨{ device 5 with md := { wakeDue := 2 } }, by decide +kernel⟩,
    ⟨{ (device 5).put F.GLB_MODE_PREV 1 with md := { wake := some 0 }, inv := { ticks := 22500 } }, 0, by decide +kernel⟩⟩

/-- The premises of MaintenanceCommands can hold, clause by clause. -/
theorem witness_MaintenanceCommands :
    (∃ (s : State) (h : HostId) (mem : Fin 8), s.opens h R.GLB_MNT_CMD 0 0 = true ∧ s.mode = modeMAINTENANCE ∧ s.bit F.GLB_MNT_STAT_BUSY = false ∧ (↑mem : Nat) < 5) ∧
    (∃ (s : State) (h : HostId) (mem : Fin 8), s.opens h R.GLB_MNT_CMD 0 0 = true ∧ s.mode = modeMAINTENANCE ∧ s.bit F.GLB_MNT_STAT_BUSY = false ∧ (↑mem : Nat) < 5) ∧
    (∃ (s : State) (h : HostId), s.opens h R.GLB_MNT_CMD 0 0 = true ∧ s.mode = modeMAINTENANCE ∧ s.bit F.GLB_MNT_STAT_BUSY = true) ∧
    (∃ (s : State), s.bit F.GLB_MNT_STAT_BUSY = true) ∧
    (∃ (s : State) (h : HostId), s.opens h R.GLB_MNT_CMD 0 0 = true ∧ s.mode ≠ modeMAINTENANCE) ∧
    (∃ (s : State) (h : HostId), s.opens h R.GLB_MNT_CMD 0 0 = true ∧ s.mode ≠ modeMAINTENANCE) ∧
    (∃ (s : State) (h : HostId), s.opens h R.GLB_MNT_CMD 0 0 = true ∧ s.mode ≠ modeMAINTENANCE) :=
  ⟨⟨device 7, .ha, 4, by decide +kernel⟩,
    ⟨device 7, .hb, 0, by decide +kernel⟩,
    ⟨(device 7).put F.GLB_MNT_STAT_BUSY 1, .ha, by decide +kernel⟩,
    ⟨((device 7).put F.GLB_MNT_STAT_BUSY 1).put F.GLB_MNT_STAT_OP 1, by decide +kernel⟩,
    ⟨device 1, .ha, by decide +kernel⟩,
    ⟨device 1, .ha, by decide +kernel⟩,
    ⟨device 1, .ha, by decide +kernel⟩⟩

/-- The premises of AdaptiveAndHold can hold, clause by clause. -/
theorem witness_AdaptiveAndHold :
    (∃ (s : State) (b : Int), s.adpBoundary = some b ∧ s.mode = modeADAPTIVE) ∧
    (∃ (s : State) (p : Port) (w : WinChange) (rest : List WinChange), tabGet [] s.adp.win (↑p : Nat) = w :: rest ∧ w.at_ ≤ s.laneNs (↑p : Nat) ∧ (∀ v ∈ rest, s.laneNs (↑p : Nat) < v.at_)) ∧
    (∃ (s : State) (p : Port) (w : WinRestore), tabGet none s.adp.restore (↑p : Nat) = some w ∧ w.at_ ≤ s.laneNs (↑p : Nat) ∧ (List.map Prod.fst w.ents).Nodup) ∧
    (∃ (s : State), s.mode = modeHOLD ∧ s.twn.log = [] ∧ Max.max s.twn.holdAt s.twn.lastRel + 256 ≤ s.inv.ticks) :=
  ⟨⟨{ device 4 with adp := { ta := some 0, last := 0 }, inv := { ticks := 5000000000, dom := [(0, { sec := 10 })] } }, 10000000000, by decide +kernel⟩,
    ⟨{ device 4 with adp := { win := [(71, [⟨0, 0, 1000, 1, 2000⟩])] } }, 71, ⟨0, 0, 1000, 1, 2000⟩, [], by decide +kernel⟩,
    ⟨{ device 4 with adp := { restore := [(71, some ⟨0, [(0, 1000), (1, 2000)]⟩)] } }, 71, ⟨0, [(0, 1000), (1, 2000)]⟩, by decide +kernel⟩,
    ⟨{ (device 6).put F.GLB_MODE_PREV 2 with inv := { ticks := 256 } }, by decide +kernel⟩⟩

/-- The premises of ResetEpisodes can hold, clause by clause. -/
theorem witness_ResetEpisodes :
    (∃ (s : State) (h : HostId), s.opens h R.RST_CTRL 0 0 = true) ∧
    (∃ (s : State) (h : HostId), s.opens h R.RST_CTRL 0 0 = true) ∧
    (∃ (s : State) (src : Fin 11), ((↑src : Nat) ≤ 1 ∨ s.rst.due.testBit (↑src : Nat) = true)) ∧
    (∃ (s : State) (src : Fin 11), (s.get F.RST_STAT_LIVE).testBit (↑src : Nat) = true) ∧
    (∃ (s : State), s.bit F.RST_STAT_DRIVE = false ∧ s.get F.RST_STAT_STATE ≠ 3 ∧ (s.get F.RST_STAT_LIVE).testBit 1 = false) ∧
    (∃ (s : State), s.bit F.RST_STAT_DRIVE = false ∧ s.get F.RST_STAT_STATE ≠ 3 ∧ (s.get F.RST_STAT_LIVE).testBit 1 = true) ∧
    (∃ (s : State), s.episode = true) ∧
    (∃ (s : State), s.get F.RST_STAT_STATE = 2 ∧ s.rst.initDone = true ∧ s.bit F.RST_STAT_DRIVE = true) ∧
    (∃ (s : State), s.get F.RST_STAT_STATE = 2 ∧ s.rst.initDone = true ∧ s.bit F.RST_STAT_DRIVE = false) ∧
    (∃ (s : State), s.get F.RST_STAT_STATE = 3) ∧
    (∃ (s : State), s.get F.RST_STAT_STATE = 3) :=
  ⟨⟨device 1, .ha, by decide +kernel⟩,
    ⟨device 1, .hb, by decide +kernel⟩,
    ⟨device 1, 1, by decide +kernel⟩,
    ⟨((device 1).put F.RST_STAT_LIVE (2^10)).put F.RST_STAT_STATE 1, 10, by decide +kernel⟩,
    ⟨device 1, by decide +kernel⟩,
    ⟨((device 1).put F.RST_STAT_LIVE 2).put F.RST_STAT_STATE 1, by decide +kernel⟩,
    ⟨(device 0).put F.RST_STAT_STATE 1, by decide +kernel⟩,
    ⟨((device 0).put F.RST_STAT_STATE 2).put F.RST_STAT_DRIVE 1, by decide +kernel⟩,
    ⟨(device 0).put F.RST_STAT_STATE 2, by decide +kernel⟩,
    ⟨(device 0).put F.RST_STAT_STATE 3, by decide +kernel⟩,
    ⟨(device 0).put F.RST_STAT_STATE 3, by decide +kernel⟩⟩

/-- The premises of PortLinks can hold, clause by clause. -/
theorem witness_PortLinks :
    (∃ (s : State) (h : HostId) (p : Port) (lb : Fin 8), s.opens h R.PORT_CTRL (↑p : Nat) 0 = true ∧ (↑lb : Nat) ≤ 4) ∧
    (∃ (s : State) (h : HostId) (p : Port) (lb : Fin 8), s.opens h R.PORT_CTRL (↑p : Nat) 0 = true ∧ (↑lb : Nat) ≤ 4) ∧
    (∃ (s : State) (h : HostId) (p : Port) (lb : Fin 8), s.opens h R.PORT_CTRL (↑p : Nat) 0 = true ∧ (↑lb : Nat) ≤ 4 ∧ s.bit F.PORT_CTRL_ENABLE (↑p : Nat) = true) ∧
    (∃ (s : State) (h : HostId) (p : Port) (data : Word), s.opens h R.PORT_MODE (↑p : Nat) 0 = true ∧ s.bit F.PORT_CTRL_ENABLE (↑p : Nat) = false ∧ portModeOk (↑p : Nat) data = true) ∧
    (∃ (s : State) (h : HostId) (p : Port) (data : Word), s.opens h R.PORT_MODE (↑p : Nat) 0 = true ∧ s.bit F.PORT_CTRL_ENABLE (↑p : Nat) = false ∧ portModeOk (↑p : Nat) data = false) ∧
    (∃ (s : State) (p : Port) (same : Bool), s.bit F.PORT_CTRL_ENABLE (↑p : Nat) = true ∧ anMode (s.get F.PORT_MODE_MODE (↑p : Nat)) = true ∧ s.bit F.PORT_MODE_AN_EN (↑p : Nat) = true ∧ s.bit F.PORT_STAT_AN_DONE (↑p : Nat) = false ∧ (s.get F.PORT_MODE_MODE (↑p : Nat) = 1 ∨ same = true)) ∧
    (∃ (s : State) (p : Port), (s.port (↑p : Nat)).trainStart.isSome = true) ∧
    (∃ (s : State) (p : Port) (t0 : Int), (s.port (↑p : Nat)).trainStart = some t0 ∧ t0 + (↑(Max.max (s.get F.PORT_KR_CFG_MAX_WAIT (↑p : Nat)) 1) : Int) * 1000000 ≤ s.now) ∧
    (∃ (s : State) (p : Port), s.linkReady (↑p : Nat) = true ∧ s.bit F.PORT_STAT_LINK (↑p : Nat) = false) ∧
    (∃ (s : State) (p : Port), s.bit F.PORT_STAT_LINK (↑p : Nat) = true) ∧
    (∃ (s : State) (p : Port) (word : BitVec 16), s.bit F.PORT_CTRL_ENABLE (↑p : Nat) = true ∧ (s.get F.PORT_MODE_MODE (↑p : Nat) = 0 ∨ s.get F.PORT_MODE_MODE (↑p : Nat) = 6) ∧ word.toNat.testBit 15 = true ∧ word.toNat.testBit 12 = true ∧ s.bit F.PORT_MODE_AN_EN (↑p : Nat) = true) ∧
    (∃ (s : State) (p : Port) (word : BitVec 16), s.bit F.PORT_CTRL_ENABLE (↑p : Nat) = true ∧ (s.get F.PORT_MODE_MODE (↑p : Nat) = 0 ∨ s.get F.PORT_MODE_MODE (↑p : Nat) = 6) ∧ word.toNat.testBit 12 = false ∧ s.bit F.PORT_STAT_LINK (↑p : Nat) = false) ∧
    (∃ (s : State) (p : Port), s.bit F.PORT_STAT_LINK (↑p : Nat) = true ∧ s.get F.PORT_STAT_FEC_RES (↑p : Nat) ≠ 0) :=
  ⟨⟨device 1, .ha, 71, 4, by decide +kernel⟩,
    ⟨wired 1 0, .hb, 0, 0, by decide +kernel⟩,
    ⟨wired 1 0, .hb, 0, 3, by decide +kernel⟩,
    ⟨device 1, .ha, 0, 6, by decide +kernel⟩,
    ⟨device 1, .hb, 64, 6, by decide +kernel⟩,
    ⟨(((device 1).put F.PORT_CTRL_ENABLE 1 0).put F.PORT_MODE_MODE 1 0).put F.PORT_MODE_AN_EN 1 0, 0, false, by decide +kernel⟩,
    ⟨{ (device 1).put F.PORT_CTRL_ENABLE 1 64 with ports := [(64, { trainStart := some 0 })] }, 64, by decide +kernel⟩,
    ⟨{ (device 1).put F.PORT_CTRL_ENABLE 1 64 with ports := [(64, { trainStart := some (-1000000000) })] }, 64, -1000000000, by decide +kernel⟩,
    ⟨((device 1).put F.PORT_CTRL_ENABLE 1 64).put F.PORT_MODE_MODE 8 64, 64, by decide +kernel⟩,
    ⟨wired 1 71, 71, by decide +kernel⟩,
    ⟨((device 1).put F.PORT_CTRL_ENABLE 1 0).put F.PORT_MODE_AN_EN 1 0, 0, 0xFFFF, by decide +kernel⟩,
    ⟨((device 1).put F.PORT_CTRL_ENABLE 1 0), 0, 0x8000, by decide +kernel⟩,
    ⟨(wired 1 64).put F.PORT_STAT_FEC_RES 2 64, 64, by decide +kernel⟩⟩

/-- The premises of Verification can hold, clause by clause. -/
theorem witness_Verification :
    (∃ (s : State) (p : Port), s.get F.PORT_MM_STAT_VERIFY_STATUS (↑p : Nat) = 2 ∧ (s.port (↑p : Nat)).verifyAt + (↑(s.verifyNs (↑p : Nat)) : Int) ≤ s.now ∧ (s.port (↑p : Nat)).verifyTries < 3 ∧ s.mode ≠ modeLOAD ∧ s.mode ≠ modePEWTER ∧ s.loop (↑p : Nat) = 0) ∧
    (∃ (s : State) (p : Port), s.get F.PORT_MM_STAT_VERIFY_STATUS (↑p : Nat) = 2 ∧ (s.port (↑p : Nat)).verifyAt + (↑(s.verifyNs (↑p : Nat)) : Int) ≤ s.now ∧ 3 ≤ (s.port (↑p : Nat)).verifyTries) ∧
    (∃ (s : State) (p : Port), s.macReceives (↑p : Nat) = true ∧ s.get F.PORT_MM_STAT_VERIFY_STATUS (↑p : Nat) = 2) ∧
    (∃ (s : State) (p : Port), s.macReceives (↑p : Nat) = true ∧ s.bit F.PORT_MM_CFG_MM_EN (↑p : Nat) = true ∧ s.mode ≠ modePEWTER ∧ s.mode ≠ modeLOAD) ∧
    (∃ (s : State) (p : Port) (n : Nat) (x : Tx), s.txGet (↑p : Nat) 1 = some x ∧ x.started = true ∧ (s.port (↑p : Nat)).preempted = false ∧ x.cut = none ∧ x.smd.isSome = true ∧ (s.port (↑p : Nat)).preReq = true ∧ 60 ≤ n ∧ n + 64 ≤ s.leftToSend (↑p : Nat) x) :=
  ⟨⟨{ (wired 1 0).put F.PORT_MM_STAT_VERIFY_STATUS 2 0 with ports := [(0, { verifyTries := 2, verifyAt := -1000000000 })] }, 0, by decide +kernel⟩,
    ⟨{ (wired 1 0).put F.PORT_MM_STAT_VERIFY_STATUS 2 0 with ports := [(0, { verifyTries := 3, verifyAt := -1000000000 })] }, 0, by decide +kernel⟩,
    ⟨((wired 1 71).put F.PORT_MM_STAT_VERIFY_STATUS 2 71).put F.PORT_MM_CFG_MM_EN 1 71, 71, by decide +kernel⟩,
    ⟨((wired 1 71).put F.PORT_MM_CFG_MM_EN 1 71), 71, by decide +kernel⟩,
    ⟨{ wired 1 0 with frames := [(0, some { doneFrame 1 with rx := List.replicate 300 0 })], ports := [(0, { preReq := true, lanes := [(1, some { entry := none, list := 1, copy := { fid := 0 }, queue := 0, started := true, smd := some 0 })] })] }, 0, 60, { entry := none, list := 1, copy := { fid := 0 }, queue := 0, started := true, smd := some 0 }, by decide +kernel⟩⟩

/-- The premises of FlowControl can hold, clause by clause. -/
theorem witness_FlowControl :
    (∃ (s : State) (p : Port) (k : Fin 9), s.bit F.PORT_STAT_LINK (↑p : Nat) = true ∧ s.pairUsed (↑p : Nat) (↑k : Nat) = true ∧ s.pairHi (↑p : Nat) (↑k : Nat) ≠ 0 ∧ s.pairHi (↑p : Nat) (↑k : Nat) ≤ s.pairOcc (↑p : Nat) (↑k : Nat) ∧ s.pairXoff (↑p : Nat) (↑k : Nat) = false) ∧
    (∃ (s : State) (p : Port) (k : Fin 9), s.pairOcc (↑p : Nat) (↑k : Nat) < s.pairLo (↑p : Nat) (↑k : Nat) ∧ s.pairXoff (↑p : Nat) (↑k : Nat) = true) ∧
    (∃ (s : State) (p : Port), (s.port (↑p : Nat)).fcDue = true ∧ s.bit F.PORT_CTRL_ENABLE (↑p : Nat) = true ∧ s.bit F.PORT_STAT_LINK (↑p : Nat) = true ∧ s.mode ≠ modePEWTER ∧ s.episode = false ∧ s.laneIdle (↑p : Nat) = true ∧ s.isLogged = false) ∧
    (∃ (s : State) (p : Port) (kind : MacPacket) (b : List Byte), (s.port (↑p : Nat)).fcOut = some (kind, b) ∧ (s.port (↑p : Nat)).fcEnd ≤ s.nowPs ∧ s.loop (↑p : Nat) = 0 ∧ s.twn.syncs = [] ∧ s.inv.act = none ∧ 0 ≤ (s.dom 0).rate ∧ (s.dom 0).slewRem = 0 ∧ (s.dom 0).sec < 2 ^ 47 ∧ (s.dom 0).ns < 1000000000) ∧
    (∃ (s : State) (p : Port) (t0 : Int), (s.port (↑p : Nat)).fcSent = some t0 ∧ s.get F.PORT_FC_STAT_TX_XOFF_PRI (↑p : Nat) ≠ 0 ∧ t0 + (↑(s.quantaNs (↑p : Nat) (s.get F.PORT_FC_TIME_QUANTA (↑p : Nat))) : Int) ≤ s.now) ∧
    (∃ (s : State) (h : HostId) (p : Port) (data : Word), s.opens h R.PORT_FC_CFG (↑p : Nat) 0 = true ∧ getBits data 31 30 ≠ 3) ∧
    (∃ (s : State) (h : HostId) (p : Port) (data : Word), s.opens h R.PORT_WM_PORT_HI (↑p : Nat) 0 = true ∧ getBits data 17 0 = 0) ∧
    (∃ (s : State) (h : HostId) (p : Port) (data : Word) (k : Fin 8), s.opens h R.PORT_WM_HI (↑p : Nat) (↑k : Nat) = true ∧ getBits data 17 0 = 0) ∧
    (∃ (s : State) (p : Port) (pre : Bool) (b : List Byte) (k : Nat) (f : Frame), s.receiving (↑p : Nat) pre k f b ∧ f.drop ≠ 2 ∧ isControl (f.rx ++ b) = true ∧ errorFlags (f.rx ++ b) f.maxlen false false false = 0 ∧ s.bit F.PORT_FC_CFG_RX_EN (↑p : Nat) = true ∧ beAt (f.rx ++ b) 14 2 = 1) ∧
    (∃ (s : State) (p : Port) (pre : Bool) (b : List Byte) (k : Nat) (f : Frame), s.receiving (↑p : Nat) pre k f b ∧ f.drop ≠ 2 ∧ isControl (f.rx ++ b) = true ∧ errorFlags (f.rx ++ b) f.maxlen false false false = 0 ∧ s.bit F.PORT_FC_CFG_RX_EN (↑p : Nat) = true ∧ beAt (f.rx ++ b) 14 2 = 257) ∧
    (∃ (s : State) (p : Port) (k : Fin 9) (t0 : Int), tabFind? (↑k : Nat) (s.port (↑p : Nat)).pauseEnd = some t0 ∧ t0 ≤ s.now) :=
  ⟨⟨(((((wired 1 0).put F.PORT_FC_CFG_MODE 2 0).put F.PORT_FC_CFG_PFC_EN 0x80 0).put F.PORT_WM_HI_HI 5 0 7).put F.PORT_OCC_PRI_OCC 5 0 7), 0, 7, by decide +kernel⟩,
    ⟨((((wired 1 0).put F.PORT_FC_STAT_TX_XOFF_PORT 1 0).put F.PORT_WM_PORT_HI_HI 5 0).put F.PORT_WM_PORT_LO_LO 2 0), 0, 8, by decide +kernel⟩,
    ⟨{ (wired 1 0).put F.PORT_FC_CFG_MODE 1 0 with ports := [(0, { fcDue := true })] }, 0, by decide +kernel⟩,
    ⟨{ wired 1 71 with ports := [(71, { fcOut := some (.pause, [1]) })] }, 71, .pause, [1], by decide +kernel⟩,
    ⟨{ (wired 1 0).put F.PORT_FC_STAT_TX_XOFF_PRI 1 0 with ports := [(0, { fcSent := some (-10000000000) })] }, 0, -10000000000, by decide +kernel⟩,
    ⟨((device 1).put F.PORT_FC_STAT_TX_XOFF_PORT 1 0).put F.PORT_FC_CFG_MODE 1 0, .ha, 0, 0x80000000, by decide +kernel⟩,
    ⟨(device 1).put F.PORT_FC_STAT_TX_XOFF_PORT 1 71, .ha, 71, 0, by decide +kernel⟩,
    ⟨(device 1).put F.PORT_FC_STAT_TX_XOFF_PRI 0x80 71, .ha, 71, 0, 7, by decide +kernel⟩,
    ⟨hears ((wired 1 0).put F.PORT_FC_CFG_RX_EN 1 0) 0 (frame0 0), 0, false, ctlFrame 1 [1, 0], 0, frame0 0, by decide +kernel⟩,
    ⟨hears ((wired 1 0).put F.PORT_FC_CFG_RX_EN 1 0) 0 (frame0 0), 0, false, ctlFrame 0x101 ([0, 0x81] ++ List.replicate 16 3), 0, frame0 0, by decide +kernel⟩,
    ⟨{ wired 1 71 with ports := [(71, { pauseEnd := [(8, 0)] })] }, 71, 8, 0, by decide +kernel⟩⟩

/-- The premises of MicrowordBranches can hold, clause by clause. -/
theorem witness_MicrowordBranches :
    (∃ (s : State) (e : Fin 48) (u : BitVec 96) (x : Engine), s.executes (↑e : Nat) u x ∧ uwBr u = 0) ∧
    (∃ (s : State) (e : Fin 48) (u : BitVec 96) (x : Engine), s.executes (↑e : Nat) u x ∧ uwBr u = 1) ∧
    (∃ (s : State) (e : Fin 48) (u : BitVec 96) (x : Engine), s.executes (↑e : Nat) u x ∧ uwBr u = 2) ∧
    (∃ (s : State) (e : Fin 48) (u : BitVec 96) (x : Engine), s.executes (↑e : Nat) u x ∧ uwBr u = 3) ∧
    (∃ (s : State) (e : Fin 48) (u : BitVec 96) (x : Engine), s.executes (↑e : Nat) u x ∧ uwBr u = 4) ∧
    (∃ (s : State) (e : Fin 48) (u : BitVec 96) (x : Engine) (a : Nat) (l : List Nat), s.executes (↑e : Nat) u x ∧ uwBr u = 5 ∧ x.stack = a :: l) ∧
    (∃ (s : State) (e : Fin 48) (u : BitVec 96) (x : Engine), s.executes (↑e : Nat) u x ∧ uwBr u = 6) ∧
    (∃ (s : State) (e : Fin 48) (u : BitVec 96) (x : Engine), s.executes (↑e : Nat) u x ∧ uwBr u = 7) :=
  ⟨⟨atWord 47 (2^77) (engineAt 62 4094 []), 47, 2^77, engineAt 62 4094 [], by decide +kernel⟩,
    ⟨atWord 0 (2^93+2^77+4095*2^81) (engineAt 0 0 []), 0, (2^93+2^77+4095*2^81), engineAt 0 0 [], by decide +kernel⟩,
    ⟨atWord 0 (2*2^93+2^77+4095*2^81) (engineAt 0 0 []), 0, (2*2^93+2^77+4095*2^81), engineAt 0 0 [], by decide +kernel⟩,
    ⟨atWord 16 (3*2^93+2^77+4095*2^81) (engineAt 0 0 []), 16, (3*2^93+2^77+4095*2^81), engineAt 0 0 [], by decide +kernel⟩,
    ⟨atWord 16 (4*2^93+2^77+4095*2^81) (engineAt 0 0 [3]), 16, (4*2^93+2^77+4095*2^81), engineAt 0 0 [3], by decide +kernel⟩,
    ⟨atWord 16 (5*2^93+2^77) (engineAt 0 0 [3]), 16, (5*2^93+2^77), engineAt 0 0 [3], 3, [], by decide +kernel⟩,
    ⟨atWord 16 (6*2^93+2^77) (engineAt 0 0 [3]), 16, (6*2^93+2^77), engineAt 0 0 [3], by decide +kernel⟩,
    ⟨atWord 16 (7*2^93+2^77+2^81) (engineAt 62 0 [3]), 16, (7*2^93+2^77+2^81), engineAt 62 0 [3], by decide +kernel⟩⟩

/-- The premises of MicrowordLimits can hold, clause by clause. -/
theorem witness_MicrowordLimits :
    (∃ (i : Nat), prvOwned i = true) ∧
    (∃ (u : BitVec 96) (x : Engine), (badStatic u || badControl u x) = true) ∧
    (∃ (u : BitVec 96) (x : Engine), badStatic u = false ∧ badControl u x = false ∧ depthFault u x = true) ∧
    (∃ (u : BitVec 96) (x : Engine), badStatic u = false ∧ badControl u x = false ∧ depthFault u x = false ∧ badDynamic u x (operandX u x) = true) ∧
    (∃ (u : BitVec 96) (x : Engine), badStatic u = false ∧ badControl u x = false ∧ depthFault u x = false ∧ badDynamic u x (operandX u x) = false ∧ uwBr u < 6 ∧ x.count = 63) ∧
    (∃ (x : Engine) (e : Nat) (code : Nat), e < 48 ∧ code < 256 ∧ x.count ≤ 64 ∧ x.wlen ≤ 64) ∧
    (∃ (x : Engine) (e : Nat) (code : Nat), e < 48 ∧ code < 256 ∧ x.count ≤ 64 ∧ x.wlen ≤ 64) ∧
    (∃ (x : Engine) (e : Nat) (code : Nat), e < 48 ∧ code < 256 ∧ x.count ≤ 64 ∧ x.wlen ≤ 64) ∧
    (∃ (x : Engine) (e : Nat) (code : Nat), e < 48 ∧ code < 256 ∧ x.count ≤ 64 ∧ x.wlen ≤ 64) ∧
    (∃ (x : Engine) (e : Nat) (code : Nat), e < 48 ∧ code < 256 ∧ x.count ≤ 64 ∧ x.wlen ≤ 64) ∧
    (∃ (x : Engine) (e : Nat) (code : Nat), e < 48 ∧ code < 256 ∧ x.count ≤ 64 ∧ x.wlen ≤ 64) :=
  ⟨⟨255, by decide +kernel⟩,
    ⟨1, engineAt 0 0 [], by decide +kernel⟩,
    ⟨0, engineAt 0 0 [], by decide +kernel⟩,
    ⟨2*2^93+2^77+2^78, engineAt 0 4095 [], by decide +kernel⟩,
    ⟨2^77, engineAt 63 0 [], by decide +kernel⟩,
    ⟨engineAt 64 0 [], 47, 0, by decide +kernel⟩,
    ⟨engineAt 64 0 [], 47, 255, by decide +kernel⟩,
    ⟨engineAt 64 0 [], 47, 255, by decide +kernel⟩,
    ⟨engineAt 64 0 [], 47, 255, by decide +kernel⟩,
    ⟨engineAt 64 0 [], 47, 255, by decide +kernel⟩,
    ⟨engineAt 64 0 [], 47, 255, by decide +kernel⟩⟩

/-- The premises of ParsePipeline can hold, clause by clause. -/
theorem witness_ParsePipeline :
    (∃ (s : State) (w : WqEntry) (rest : List WqEntry) (e : Nat), (s.pipe 0).wq = w :: rest ∧ (s.pipe 1).wq = [] ∧ (s.pipe 0).rob.length < 64 ∧ s.underTest 1 = false ∧ rotFind 48 s.tin.ptr s.engineIdle = some e) ∧
    (∃ (s : State) (pl : Fin 2) (k : Nat) (port : Nat) (prv : BitVec 256) (rest : List RobEntry), (s.pipe (↑pl : Nat)).rob = { fid := k, port := port, prv := some prv } :: rest) ∧
    (∃ (s : State), s.mode ≠ modePEWTER ∧ s.underTest 1 = false ∧ (∀ c < 3, uwDecode (s.uword c s.tin.scrub) = EccRead.sound)) ∧
    (∃ (s : State) (w : UWord), s.mode ≠ modePEWTER ∧ s.underTest 1 = false ∧ uwDecode (s.uword 0 s.tin.scrub) = EccRead.single w ∧ (∀ c < 3, 0 < c → uwDecode (s.uword c s.tin.scrub) = EccRead.sound)) ∧
    (∃ (s : State) (h : HostId) (c : Fin 3) (a : Fin 4096) (part : Fin 3), (s.opens h (if (↑part : Nat) = 0 then R.TIN_UW_LO else if (↑part : Nat) = 1 then R.TIN_UW_MID else R.TIN_UW_HI) (↑c : Nat) (↑a : Nat) = true) ∧ s.mode = modeMAINTENANCE ∧ s.underTest 1 = false) :=
  ⟨⟨{ (device 1).put F.TIN_CFG_CLUSTER_EN 7 with tin := { pipe := [(0, { wq := [⟨0, 71, [1]⟩] })], engines := [(0, some (engineAt 0 0 []))] } }, ⟨0, 71, [1]⟩, [], 1, by decide +kernel⟩,
    ⟨{ device 1 with tin := { pipe := [(0, { rob := [⟨0, 71, some 1⟩] })] }, frames := [(0, some (frame0 71))] }, 0, 0, 71, 1, [], by decide +kernel⟩,
    ⟨{ device 1 with tin := { scrub := 4095 } }, by decide +kernel⟩,
    ⟨{ device 1 with tin := { store := [(0, { uw := 1 })] } }, { uw := 0, chk := 0 }, by decide +kernel⟩,
    ⟨device 7, .ha, 2, 4095, 2, by decide +kernel⟩⟩

/-- The premises of FrameBegins can hold, clause by clause. -/
theorem witness_FrameBegins :
    (∃ (s : State) (p : Port), s.macReceives (↑p : Nat) = true ∧ s.mode ≠ modePEWTER ∧ (s.port (↑p : Nat)).rxE = none) ∧
    (∃ (s : State) (p : Port), s.macReceives (↑p : Nat) = true ∧ s.mode ≠ modePEWTER ∧ (s.port (↑p : Nat)).rxE.isSome = true) ∧
    (∃ (s : State) (p : Port), s.macReceives (↑p : Nat) = true ∧ s.mode ≠ modePEWTER ∧ s.bit F.PORT_MM_CFG_MM_EN (↑p : Nat) = true ∧ (s.port (↑p : Nat)).rxP = none) ∧
    (∃ (s : State) (p : Port) (pre : Bool) (b : List Byte) (k : Nat) (f : Frame), s.receiving (↑p : Nat) pre k f b) ∧
    (∃ (s : State) (p : Port) (pre : Bool) (b : List Byte) (k : Nat) (f : Frame), s.rxFid (↑p : Nat) pre = some k ∧ s.frame k = some f ∧ f.stage = Stage.arriving ∧ f.cap = f.maxlen ∧ f.flags.testBit 2 = false ∧ f.maxlen < f.rx.length + b.length ∧ cellsOf f.maxlen - f.begun ≤ s.get F.SWC_FREE_CELLS) ∧
    (∃ (s : State) (k : Nat) (f : Frame), s.frame k = some f ∧ f.cells.length < completeCells f ∧ f.cells.length < f.begun) :=
  ⟨⟨wired 1 71, 71, by decide +kernel⟩,
    ⟨hears (wired 1 0) 0 (frame0 0), 0, by decide +kernel⟩,
    ⟨(wired 1 0).put F.PORT_MM_CFG_MM_EN 1 0, 0, by decide +kernel⟩,
    ⟨hears (wired 1 0) 0 (frame0 0), 0, false, List.replicate 130 1, 0, frame0 0, by decide +kernel⟩,
    ⟨hears (wired 1 0) 0 { frame0 0 with rx := List.replicate 70 1, maxlen := 72, cap := 72, begun := 1 }, 0, false, [1,2,3], 0, { frame0 0 with rx := List.replicate 70 1, maxlen := 72, cap := 72, begun := 1 }, by decide +kernel⟩,
    ⟨hears (wired 1 0) 0 { frame0 0 with rx := List.replicate 300 1, begun := 2, cells := [9] }, 0, { frame0 0 with rx := List.replicate 300 1, begun := 2, cells := [9] }, by decide +kernel⟩⟩

/-- The premises of FrameEnds can hold, clause by clause. -/
theorem witness_FrameEnds :
    (∃ (s : State) (p : Port) (pre : Bool) (b : List Byte) (k : Nat) (f : Frame), s.receiving (↑p : Nat) pre k f b ∧ f.src = (↑p : Nat) ∧ f.bad = false ∧ s.role = roleOFF ∧ s.twn.lagging = false ∧ s.attOf (↑p : Nat) = none ∧ 64 ≤ f.rx.length + b.length ∧ beAt (f.rx ++ b) 12 2 ≠ 34824 ∧ (s.pipe (pipeOf (↑p : Nat))).wq.length < 32 ∧ (∀ w ∈ (s.pipe (pipeOf (↑p : Nat))).wq, w.port ≤ (↑p : Nat))) ∧
    (∃ (s : State) (p : Port) (pre : Bool) (b : List Byte) (k : Nat) (f : Frame), s.receiving (↑p : Nat) pre k f b ∧ f.src = (↑p : Nat) ∧ f.bad = false ∧ s.role = roleOFF ∧ s.twn.lagging = false ∧ s.attOf (↑p : Nat) = none ∧ 64 ≤ f.rx.length + b.length ∧ beAt (f.rx ++ b) 12 2 ≠ 34824 ∧ 32 ≤ (s.pipe (pipeOf (↑p : Nat))).wq.length) ∧
    (∃ (s : State) (p : Port) (pre : Bool) (b : List Byte) (k : Nat) (f : Frame), s.receiving (↑p : Nat) pre k f b) ∧
    (∃ (s : State) (p : Port) (pre : Bool) (b : List Byte) (k : Nat) (f : Frame) (sig : RxSignals), s.receiving (↑p : Nat) pre k f b ∧ errorFlags (f.rx ++ b) f.maxlen (sig.oddNibble && Decidable.decide (s.get F.PORT_STAT_SPEED_RES (↑p : Nat) ≤ 1)) sig.code false ≠ 0 ∧ f.cfg.deliverBad = false ∧ f.drop = 0) ∧
    (∃ (s : State) (p : Port) (pre : Bool) (b : List Byte) (k : Nat) (f : Frame), s.rxFid (↑p : Nat) pre = some k ∧ s.frame k = some f ∧ f.stage = Stage.policed ∧ f.done = false ∧ f.cap = f.maxlen ∧ f.rx.length + b.length ≤ f.maxlen ∧ cellsOf (f.rx.length + b.length) - f.begun ≤ s.get F.SWC_FREE_CELLS ∧ f.dec.hit = true ∧ f.dec.filterEn = true ∧ f.cfg.mode ≠ modeBRIDGE ∧ (s.filter f.dec.filter).maxSdu ≠ 0 ∧ (s.filter f.dec.filter).maxSdu < f.rx.length + b.length ∧ f.ldec ≤ (s.filter f.dec.filter).maxSdu) ∧
    (∃ (s : State) (p : Port) (frag : Fragment) (n : Fin 4) (k : Nat) (f : Frame) (r : Reassembly), s.macReceives (↑p : Nat) = true ∧ s.bit F.PORT_MM_CFG_MM_EN (↑p : Nat) = true ∧ (s.port (↑p : Nat)).rxP = some r ∧ r.fid = k ∧ r.frags = 0 ∧ r.base = f.rx.length ∧ s.receiving (↑p : Nat) true k f frag.bytes ∧ frag.smd = Smd.start n ∧ frag.last = false ∧ 60 ≤ frag.bytes.length) ∧
    (∃ (s : State) (p : Port) (frag : Fragment) (n : Fin 4) (c : Fin 4), s.macReceives (↑p : Nat) = true ∧ s.bit F.PORT_MM_CFG_MM_EN (↑p : Nat) = true ∧ (s.port (↑p : Nat)).rxP = none ∧ frag.smd = Smd.cont n c) ∧
    (∃ (s : State) (p : Port) (frag : Fragment) (n : Fin 4) (r : Reassembly) (c : Fin 4), s.macReceives (↑p : Nat) = true ∧ s.bit F.PORT_MM_CFG_MM_EN (↑p : Nat) = true ∧ (s.port (↑p : Nat)).rxP = some r ∧ (r.frags = 0 ∨ r.frame ≠ (↑n : Nat) ∨ r.nextCount ≠ (↑c : Nat)) ∧ frag.smd = Smd.cont n c) :=
  ⟨⟨hears (wired 1 71) 71 (frame0 71), 71, false, List.replicate 64 1, 0, frame0 71, by decide +kernel⟩,
    ⟨{ hears (wired 1 71) 71 (frame0 71) with tin := { pipe := [(1, { wq := List.replicate 32 ⟨9, 71, []⟩ })] } }, 71, false, List.replicate 64 1, 0, frame0 71, by decide +kernel⟩,
    ⟨hears (wired 1 71) 71 (frame0 71), 71, false, List.replicate 64 1, 0, frame0 71, by decide +kernel⟩,
    ⟨(hears (wired 1 71) 71 (frame0 71)).put F.SWC_DROP_CNT_COUNT 0xFFFFFFFF 1, 71, false, List.replicate 64 1, 0, frame0 71, ⟨false, false, 0⟩, by decide +kernel⟩,
    ⟨{ hears (wired 2 0) 0 { frame0 0 with stage := .policed, rx := List.replicate 100 1, begun := 1, dec := { hit := true, filterEn := true, filter := 3 }, cfg := { mode := 2 } } with pol := { filters := [(3, { maxSdu := 100 })] } }, 0, false, [1], 0, { frame0 0 with stage := .policed, rx := List.replicate 100 1, begun := 1, dec := { hit := true, filterEn := true, filter := 3 }, cfg := { mode := 2 } }, by decide +kernel⟩,
    ⟨{ hears ((wired 1 0).put F.PORT_MM_CFG_MM_EN 1 0) 0 { frame0 0 with pre := true } with ports := [(0, { rxP := some ⟨0, 3, 0, 0, 0⟩ })] }, 0, ⟨.start 2, List.replicate 60 1, false, ⟨false, false, 0⟩⟩, 2, 0, { frame0 0 with pre := true }, ⟨0, 3, 0, 0, 0⟩, by decide +kernel⟩,
    ⟨(wired 1 0).put F.PORT_MM_CFG_MM_EN 1 0, 0, ⟨.cont 2 1, List.replicate 60 1, false, ⟨false, false, 0⟩⟩, 2, 1, by decide +kernel⟩,
    ⟨{ hears ((wired 1 0).put F.PORT_MM_CFG_MM_EN 1 0) 0 { frame0 0 with pre := true } with ports := [(0, { rxP := some ⟨0, 3, 0, 1, 0⟩ })] }, 0, ⟨.cont 2 0, List.replicate 60 1, false, ⟨false, false, 0⟩⟩, 2, ⟨0, 3, 0, 1, 0⟩, 0, by decide +kernel⟩⟩

/-- The premises of SwitchStages can hold, clause by clause. -/
theorem witness_SwitchStages :
    (∃ (s : State) (pl : Fin 2) (k : Nat) (rest : List Nat), (s.pipe (↑pl : Nat)).st4 = k :: rest) ∧
    (∃ (s : State) (pl : Fin 2) (k : Nat) (rest : List Nat) (f : Frame), (s.pipe (↑pl : Nat)).st4 = k :: rest ∧ s.frame k = some f ∧ f.stage = Stage.parsed ∧ f.slow ≠ 0) ∧
    (∃ (s : State) (pl : Fin 2) (k : Nat) (rest : List Nat), (s.pipe (↑pl : Nat)).st5 = k :: rest) ∧
    (∃ (s : State) (pl : Fin 2) (k : Nat) (rest : List Nat) (f : Frame), (s.pipe (↑pl : Nat)).st5 = k :: rest ∧ s.frame k = some f ∧ f.stage = Stage.looked ∧ f.slow ≠ 0) ∧
    (∃ (s : State) (pl : Fin 2) (k : Nat) (rest : List Nat), (s.pipe (↑pl : Nat)).st6 = k :: rest) ∧
    (∃ (s : State), (∀ c ∈ (s.list s.swc.ageList).head?, s.expired s.swc.ageList c = false)) ∧
    (∃ (s : State) (c : Copy) (rest : List Copy), s.list s.swc.ageList = c :: rest ∧ s.expired s.swc.ageList c = true ∧ (∀ (f : Frame), s.frame c.fid = some f → f.cfg.sess = [])) :=
  ⟨⟨{ device 1 with tin := { pipe := [(1, { st4 := [0] })] }, frames := [(0, some { frame0 71 with stage := .parsed, rx := List.replicate 64 0 })] }, 1, 0, [], by decide +kernel⟩,
    ⟨{ device 1 with tin := { pipe := [(1, { st4 := [0] })] }, frames := [(0, some { frame0 71 with stage := .parsed, slow := 6 })] }, 1, 0, [], { frame0 71 with stage := .parsed, slow := 6 }, by decide +kernel⟩,
    ⟨{ device 1 with tin := { pipe := [(1, { st5 := [0] })] }, frames := [(0, some { frame0 71 with stage := .looked, rx := List.replicate 64 0 })] }, 1, 0, [], by decide +kernel⟩,
    ⟨{ device 1 with tin := { pipe := [(1, { st5 := [0] })] }, frames := [(0, some { frame0 71 with stage := .looked, slow := 6 })] }, 1, 0, [], { frame0 71 with stage := .looked, slow := 6 }, by decide +kernel⟩,
    ⟨{ device 1 with tin := { pipe := [(0, { st6 := [0, 1] })] }, frames := [(0, some { frame0 71 with stage := .policed, slow := 6 })] }, 0, 0, [1], by decide +kernel⟩,
    ⟨{ device 1 with swc := { ageList := 615 } }, by decide +kernel⟩,
    ⟨{ (device 1) with frames := [(0, some { frame0 1 with stage := .admitted, stamp := 0, liveBy := [1,0,0,0] })], swc := { lists := [(0, [{ fid := 0 }])] }, inv := { dom := [(0, { sec := 4 })] } }, { fid := 0 }, [], by decide +kernel⟩⟩

/-- The premises of CellsAndCopies can hold, clause by clause. -/
theorem witness_CellsAndCopies :
    (∃ (s : State) (n : Nat) (i : Nat) (c : Copy) (rest : List Copy) (x : Cell), n < 576 ∧ s.list n = c :: rest ∧ s.readCell { list := n, onLane := false, ecc := 0 } = some i ∧ s.cell i = some x ∧ x.fid = c.fid ∧ x.ecc = 0 ∧ (∀ q < 8, s.list (576 + q) = []) ∧ s.twn.fwdTx = []) ∧
    (∃ (s : State) (n : Nat) (c : Copy) (f : Frame), n < 616 ∧ s.frame c.fid = some f ∧ s.pushes n = false ∧ c.host = false ∧ c.mirror = none ∧ s.get F.SWC_QOCC_CELLS n + f.begun ≤ s.colourLimit n f.colour ∧ s.get F.SWC_QOCC_CELLS n + f.begun - s.get F.SWC_QRES_RES n - (s.get F.SWC_QOCC_CELLS n - s.get F.SWC_QRES_RES n) + s.get F.SWC_SHARED_S ≤ s.get F.SWC_POOL_P ∧ s.get F.SWC_HEADROOM_H < s.get F.SWC_FREE_CELLS ∧ s.get F.SWC_FREE_DESC_DESC ≠ 0 ∧ s.get F.SWC_QOCC_CELLS n + f.begun < 2 ^ 18) ∧
    (∃ (s : State) (n : Nat) (c : Copy) (f : Frame), n < 616 ∧ s.frame c.fid = some f ∧ s.pushes n = false ∧ c.host = false ∧ c.mirror = none ∧ s.colourLimit n f.colour < s.get F.SWC_QOCC_CELLS n + f.begun) ∧
    (∃ (s : State) (n : Nat) (c : Copy) (f : Frame), n < 616 ∧ s.frame c.fid = some f ∧ s.pushes n = false ∧ c.host = false ∧ c.mirror = none ∧ s.get F.SWC_QOCC_CELLS n + f.begun ≤ s.colourLimit n f.colour ∧ (s.get F.SWC_POOL_P < s.get F.SWC_QOCC_CELLS n + f.begun - s.get F.SWC_QRES_RES n - (s.get F.SWC_QOCC_CELLS n - s.get F.SWC_QRES_RES n) + s.get F.SWC_SHARED_S ∨ s.get F.SWC_FREE_CELLS ≤ s.get F.SWC_HEADROOM_H)) ∧
    (∃ (s : State) (n : Nat) (c : Copy) (f : Frame), n < 616 ∧ s.frame c.fid = some f ∧ s.pushes n = false ∧ c.host = false ∧ c.mirror = none ∧ s.get F.SWC_QOCC_CELLS n + f.begun ≤ s.colourLimit n f.colour ∧ s.get F.SWC_FREE_DESC_DESC = 0) :=
  ⟨⟨{ (device 1) with frames := [(0, some { frame0 1 with stage := .admitted, begun := 1, cells := [7] })], swc := { lists := [(575, [{ fid := 0, sel := true }])], cells := [(7, { fid := 0, data := [], ref := 2, src := 1, pri := 0, counted := true })] } }, 575, 7, { fid := 0, sel := true }, [], { fid := 0, data := [], ref := 2, src := 1, pri := 0, counted := true }, by decide +kernel⟩,
    ⟨{ ((((device 1).put F.SWC_QLIM_LIMIT 100 615).put F.SWC_POOL_P 100).put F.SWC_FREE_CELLS 100).put F.SWC_FREE_DESC_DESC 5 with frames := [(0, some { frame0 1 with stage := .policed, begun := 1, cells := [7] })] }, 615, { fid := 0 }, { frame0 1 with stage := .policed, begun := 1, cells := [7] }, by decide +kernel⟩,
    ⟨{ (device 1).put F.SWC_QLIM_LIMIT 0 0 with frames := [(0, some { frame0 1 with stage := .policed, begun := 1, cells := [7] })] }, 0, { fid := 0 }, { frame0 1 with stage := .policed, begun := 1, cells := [7] }, by decide +kernel⟩,
    ⟨{ (((device 1).put F.SWC_QLIM_LIMIT 100 0).put F.SWC_POOL_P 0) with frames := [(0, some { frame0 1 with stage := .policed, begun := 1, cells := [7] })] }, 0, { fid := 0 }, { frame0 1 with stage := .policed, begun := 1, cells := [7] }, by decide +kernel⟩,
    ⟨{ (((device 1).put F.SWC_QLIM_LIMIT 100 0).put F.SWC_FREE_DESC_DESC 0) with frames := [(0, some { frame0 1 with stage := .policed, begun := 1, cells := [7] })] }, 0, { fid := 0 }, { frame0 1 with stage := .policed, begun := 1, cells := [7] }, by decide +kernel⟩⟩

/-- The premises of Transmission can hold, clause by clause. -/
theorem witness_Transmission :
    (∃ (s : State) (p : Port) (q : Nat) (c : Copy) (l : Nat), s.mode ≠ modePEWTER ∧ s.mode ≠ modeLOAD ∧ s.txGet (↑p : Nat) 2 = none ∧ s.txGet (↑p : Nat) 3 = none ∧ ((s.tagLooks (↑p : Nat)).laneFix (↑p : Nat)).laneDue (↑p : Nat) = true ∧ ((s.tagLooks (↑p : Nat)).laneFix (↑p : Nat)).macPick (↑p : Nat) true = some q ∧ ((s.tagLooks (↑p : Nat)).laneFix (↑p : Nat)).queueHead (↑p : Nat) q = some (Head.copy c l) ∧ ((s.tagLooks (↑p : Nat)).laneFix (↑p : Nat)).expired (8 * (↑p : Nat) + q) c = false) ∧
    (∃ (s : State) (p : Port), s.mode ≠ modePEWTER ∧ s.mode ≠ modeLOAD ∧ s.txGet (↑p : Nat) 2 = none ∧ s.txGet (↑p : Nat) 3 = none ∧ ((s.tagLooks (↑p : Nat)).laneFix (↑p : Nat)).laneDue (↑p : Nat) = true ∧ ((s.tagLooks (↑p : Nat)).laneFix (↑p : Nat)).macPick (↑p : Nat) true = none ∧ ((s.tagLooks (↑p : Nat)).laneFix (↑p : Nat)).macPick (↑p : Nat) false = none ∧ (s.port (↑p : Nat)).preempted = false) ∧
    (∃ (s : State) (p : Port) (pre : Bool) (x : Tx) (f : Frame), (s.txGet (↑p : Nat) (if pre = true then 3 else 2) = some x) ∧ (s.laneTakes (↑p : Nat) (if pre = true then 3 else 2) = true) ∧ x.entry = none ∧ 1 ≤ x.copy.nread ∧ s.frame x.copy.fid = some f ∧ (s.txGet (↑p : Nat) (if pre = true then 1 else 0) = none)) ∧
    (∃ (s : State) (p : Port) (pre : Bool) (x : Tx) (f : Frame), (s.txGet (↑p : Nat) (if pre = true then 1 else 0) = some x) ∧ x.started = true ∧ x.entry = none ∧ s.frame x.copy.fid = some f ∧ f.done = true ∧ x.cut = none ∧ x.smd = none ∧ x.bytes ≠ [] ∧ (pre = true → (s.port (↑p : Nat)).preempted = false) ∧ s.isLogged = false ∧ s.loop (↑p : Nat) = 0) :=
  ⟨⟨{ wired 1 71 with frames := [(0, some (doneFrame 1))], swc := { lists := [(575, [copy0])] } }, 71, 7, copy0, 64, by decide +kernel⟩,
    ⟨wired 1 71, 71, by decide +kernel⟩,
    ⟨{ wired 1 71 with frames := [(0, some (doneFrame 1))], ports := [(71, { lanes := [(3, some { entry := none, list := 575, copy := { copy0 with nread := 1 }, queue := 7 })] })] }, 71, true, { entry := none, list := 575, copy := { copy0 with nread := 1 }, queue := 7 }, doneFrame 1, by decide +kernel⟩,
    ⟨{ wired 1 71 with frames := [(0, some (doneFrame 1))], ports := [(71, { lanes := [(0, some { entry := none, list := 575, copy := copy0, queue := 7, started := true, bytes := [1,2] })] })] }, 71, false, { entry := none, list := 575, copy := copy0, queue := 7, started := true, bytes := [1,2] }, doneFrame 1, by decide +kernel⟩⟩

/-- The premises of GateEvents can hold, clause by clause. -/
theorem witness_GateEvents :
    (∃ (s : State) (p : Nat) (t : Int), s.bit F.EGS_GATE_CFG_GATE_EN p = true ∧ s.mode ≠ modeBRIDGE ∧ (∀ (o : GclRun), (s.eg p).old = some o → o.tx ≤ t) ∧ (∀ (c : PendChange), (s.eg p).pend = some c → t < c.tx) ∧ s.get F.EGS_GATE_OPER_LEN_LEN p = 0) ∧
    (∃ (s : State) (p : Nat) (t : Int), s.bit F.EGS_GATE_CFG_GATE_EN p = true ∧ s.mode ≠ modeBRIDGE ∧ (∀ (o : GclRun), (s.eg p).old = some o → o.tx ≤ t) ∧ (∀ (c : PendChange), (s.eg p).pend = some c → t < c.tx) ∧ s.get F.EGS_GATE_OPER_LEN_LEN p ≠ 0) ∧
    (∃ (s : State) (p : Port), s.holdAt (↑p : Nat) (s.laneNs (↑p : Nat)) = true ∧ s.bit F.EGS_GATE_STAT_HOLD (↑p : Nat) = false) ∧
    (∃ (s : State) (p : Port), s.holdAt (↑p : Nat) (s.laneNs (↑p : Nat)) = false ∧ s.bit F.EGS_GATE_STAT_HOLD (↑p : Nat) = true) ∧
    (∃ (s : State) (p : Nat), (s.bit F.EGS_GATE_CFG_GATE_EN p = false ∨ s.mode = modeBRIDGE)) :=
  ⟨⟨(device 2).put F.EGS_GATE_CFG_GATE_EN 1 71, 71, 0, by decide +kernel⟩,
    ⟨{ ((((device 2).put F.EGS_GATE_CFG_GATE_EN 1 71).put F.EGS_GATE_OPER_LEN_LEN 1 71).put F.EGS_GATE_OPER_CYCLE_CYCLE 1000 71) with egs := [(71, { bank0 := [(0, ⟨1000, 0xF, 1⟩)] })] }, 71, 500, by decide +kernel⟩,
    ⟨{ ((((((device 2).put F.EGS_GATE_CFG_HOLD_EN 1 71).put F.PORT_MM_STAT_TX_ACTIVE 1 71).put F.EGS_GATE_CFG_GATE_EN 1 71).put F.EGS_GATE_OPER_LEN_LEN 1 71).put F.EGS_GATE_OPER_CYCLE_CYCLE 1000 71) with egs := [(71, { bank0 := [(0, ⟨1000, 0xF, 1⟩)] })] }, 71, by decide +kernel⟩,
    ⟨(device 1).put F.EGS_GATE_STAT_HOLD 1 71, 71, by decide +kernel⟩,
    ⟨device 1, 71, by decide +kernel⟩⟩

/-- The premises of GateLists can hold, clause by clause. -/
theorem witness_GateLists :
    (∃ (s : State) (h : HostId) (p : Port), s.opens h R.EGS_GATE_CHG (↑p : Nat) 0 = true ∧ ((if s.bit F.EGS_GATE_STAT_CHG_PEND (↑p : Nat) = true then 5 else if s.get F.EGS_GATE_ADM_LEN_LEN (↑p : Nat) = 0 ∨ 1024 < s.get F.EGS_GATE_ADM_LEN_LEN (↑p : Nat) then 1 else if ((List.range (s.get F.EGS_GATE_ADM_LEN_LEN (↑p : Nat))).any fun (i : Nat) => badEntry (tabGet { } (s.admBank (↑p : Nat)) i)) = true then 2 else if s.get F.EGS_GATE_ADM_CYCLE_CYCLE (↑p : Nat) < 16 ∨ 1000000000 < s.get F.EGS_GATE_ADM_CYCLE_CYCLE (↑p : Nat) ∨ s.get F.EGS_GATE_ADM_CYCLE_CYCLE (↑p : Nat) < s.get F.EGS_GATE_ADM_EXT_EXT (↑p : Nat) then 3 else if 1000000000 ≤ s.get F.EGS_GATE_ADM_BASE_NS_NS (↑p : Nat) then 4 else 0) ≠ 0)) ∧
    (∃ (s : State) (h : HostId) (p : Port), s.opens h R.EGS_GATE_CHG (↑p : Nat) 0 = true ∧ ((if s.bit F.EGS_GATE_STAT_CHG_PEND (↑p : Nat) = true then 5 else if s.get F.EGS_GATE_ADM_LEN_LEN (↑p : Nat) = 0 ∨ 1024 < s.get F.EGS_GATE_ADM_LEN_LEN (↑p : Nat) then 1 else if ((List.range (s.get F.EGS_GATE_ADM_LEN_LEN (↑p : Nat))).any fun (i : Nat) => badEntry (tabGet { } (s.admBank (↑p : Nat)) i)) = true then 2 else if s.get F.EGS_GATE_ADM_CYCLE_CYCLE (↑p : Nat) < 16 ∨ 1000000000 < s.get F.EGS_GATE_ADM_CYCLE_CYCLE (↑p : Nat) ∨ s.get F.EGS_GATE_ADM_CYCLE_CYCLE (↑p : Nat) < s.get F.EGS_GATE_ADM_EXT_EXT (↑p : Nat) then 3 else if 1000000000 ≤ s.get F.EGS_GATE_ADM_BASE_NS_NS (↑p : Nat) then 4 else 0) = 0)) ∧
    (∃ (s : State) (h : HostId) (p : Port), s.opens h R.EGS_GATE_CHG (↑p : Nat) 0 = true ∧ s.bit F.EGS_GATE_STAT_CHG_PEND (↑p : Nat) = true) ∧
    (∃ (s : State) (h : HostId) (p : Port), s.opens h R.EGS_GATE_CHG (↑p : Nat) 0 = true ∧ s.bit F.EGS_GATE_STAT_CHG_PEND (↑p : Nat) = false) ∧
    (∃ (s : State) (p : Port) (c : PendChange), (s.eg (↑p : Nat)).pend = some c ∧ c.tx ≤ s.laneNs (↑p : Nat)) ∧
    (∃ (s : State) (h : HostId) (p : Port), s.opens h R.EGS_GCL_D1 (↑p : Nat) 0 = true ∧ s.get F.EGS_GCL_IDX_BANK (↑p : Nat) = 0 ∧ s.bit F.EGS_GATE_STAT_CHG_PEND (↑p : Nat) = false) ∧
    (∃ (s : State) (h : HostId) (p : Port), s.reaches h R.EGS_GCL_D1 (↑p : Nat) 0 = true) :=
  ⟨⟨device 1, .ha, 71, by decide +kernel⟩,
    ⟨{ (((device 1).put F.EGS_GATE_ADM_LEN_LEN 1 71).put F.EGS_GATE_ADM_CYCLE_CYCLE 16 71) with egs := [(71, { bank1 := [(0, ⟨1000, 0xF, 0⟩)] })] }, .ha, 71, by decide +kernel⟩,
    ⟨{ (device 1).put F.EGS_GATE_STAT_CHG_PEND 1 71 with egs := [(71, { pend := some ⟨0, 0, 16, 0, 1⟩ })] }, .hb, 71, by decide +kernel⟩,
    ⟨device 1, .hb, 71, by decide +kernel⟩,
    ⟨{ (device 1).put F.EGS_GATE_STAT_CHG_PEND 1 71 with egs := [(71, { pend := some ⟨0, 0, 16, 0, 1⟩ })] }, 71, ⟨0, 0, 16, 0, 1⟩, by decide +kernel⟩,
    ⟨((device 1).put F.EGS_GCL_IDX_IDX 1023 71).put F.EGS_GCL_IDX_AUTOINC 1 71, .ha, 71, by decide +kernel⟩,
    ⟨((device 1).put F.EGS_GCL_IDX_IDX 1023 71).put F.EGS_GCL_IDX_AUTOINC 1 71, .ha, 71, by decide +kernel⟩⟩

/-- The premises of GateEntryWriteRefused can hold, clause by clause. -/
theorem witness_GateEntryWriteRefused :
    (∃ (s : State) (h : HostId) (p : Port), s.opens h R.EGS_GCL_D1 (↑p : Nat) 0 = true ∧ (s.get F.EGS_GCL_IDX_BANK (↑p : Nat) = 1 ∨ s.bit F.EGS_GATE_STAT_CHG_PEND (↑p : Nat) = true)) ∧
    (∃ (s : State) (h : HostId) (p : Port), s.opens h R.EGS_GCL_D1 (↑p : Nat) 0 = true) :=
  ⟨⟨(device 1).put F.EGS_GCL_IDX_BANK 1 71, .ha, 71, by decide +kernel⟩,
    ⟨device 1, .ha, 71, by decide +kernel⟩⟩

/-- The premises of Shapers can hold, clause by clause. -/
theorem witness_Shapers :
    (∃ (s : State) (h : HostId) (p : Port) (q : Fin 8), s.opens h R.EGS_SHP_CFG (↑p : Nat) (↑q : Nat) = true) ∧
    (∃ (s : State) (h : HostId) (p : Port) (q : Fin 8), s.opens h R.EGS_SHP_BURST (↑p : Nat) (↑q : Nat) = true) ∧
    (∃ (s : State) (p : Nat) (q : Nat), s.bit F.EGS_SHP_CFG_EN p q = true) ∧
    (∃ (s : State) (p : Nat) (q : Nat), s.bit F.EGS_SHP_CFG_EN p q = false) :=
  ⟨⟨device 1, .ha, 71, 7, by decide +kernel⟩,
    ⟨device 1, .ha, 71, 7, by decide +kernel⟩,
    ⟨(device 1).put F.EGS_SHP_CFG_EN 1 71 7, 71, 7, by decide +kernel⟩,
    ⟨(device 1), 71, 7, by decide +kernel⟩⟩

/-- The premises of LaunchCalendar can hold, clause by clause. -/
theorem witness_LaunchCalendar :
    (∃ (s : State) (p : Port) (lt : BitVec 40), (s.eg (↑p : Nat)).cal.length < 256 ∧ s.launchNs lt.toNat ≤ s.now + 1000000000) ∧
    (∃ (s : State) (p : Port) (lt : BitVec 40), (s.eg (↑p : Nat)).cal.length < 256 ∧ s.now + 1000000000 < s.launchNs lt.toNat) ∧
    (∃ (s : State) (p : Port), 256 ≤ (s.eg (↑p : Nat)).cal.length) ∧
    (∃ (s : State) (p : Port), s.launchIsDue (↑p : Nat) = true) ∧
    (∃ (s : State) (p : Port) (e : CalEntry), s.armed (↑p : Nat) = some e ∧ (↑(s.ageLimit (queueClass e.queue)) : Int) < s.now - s.launchNs e.lt) ∧
    (∃ (now : Int) (l : List CalEntry), (List.Pairwise (fun (a b : CalEntry) => (fun (c : CalEntry) => ((↑c.lt : Int) - now + 2 ^ 39) % 2 ^ 40) a ≤ (fun (c : CalEntry) => ((↑c.lt : Int) - now + 2 ^ 39) % 2 ^ 40) b) l)) :=
  ⟨⟨device 1, 71, 1000000000, by decide +kernel⟩,
    ⟨device 1, 71, 1000000001, by decide +kernel⟩,
    ⟨{ device 1 with egs := [(71, { cal := List.replicate 256 ⟨0, 0, 64, 16, 0, none, 0, 0, none⟩ })] }, 71, by decide +kernel⟩,
    ⟨{ device 1 with egs := [(71, { cal := List.replicate 1 ⟨0, 0, 64, 16, 0, none, 0, 0, none⟩ })] }, 71, by decide +kernel⟩,
    ⟨{ device 1 with inv := { dom := [(0, { sec := 4 })] }, egs := [(71, { cal := List.replicate 1 ⟨0, 0, 64, 16, 0, none, 0, 0, none⟩ })] }, 71, ⟨0, 0, 64, 16, 0, none, 0, 0, none⟩, by decide +kernel⟩,
    ⟨0, [⟨0, 0, 64, 16, 0, none, 0, 0, none⟩, ⟨5, 0, 64, 16, 0, none, 0, 0, none⟩, ⟨9, 0, 64, 16, 0, none, 0, 0, none⟩], by decide +kernel⟩⟩

/-- The premises of TableCommands can hold, clause by clause. -/
theorem witness_TableCommands :
    (∃ (s : State) (h : HostId) (w : Fin 2), s.opens h R.LKP_CMD (↑w : Nat) 0 = true ∧ s.bit F.LKP_STAT_BUSY (↑w : Nat) = false ∧ s.loaded = true ∧ s.underTest 0 = false ∧ s.lkp.flush = []) ∧
    (∃ (s : State) (h : HostId) (w : Fin 2) (table : Fin 16) (ver : Bool), s.opens h R.LKP_CMD (↑w : Nat) 0 = true ∧ s.bit F.LKP_STAT_BUSY (↑w : Nat) = false ∧ s.loaded = true ∧ s.underTest 0 = false ∧ s.lkp.flush = [] ∧ (↑table : Nat) < 9 ∧ s.get F.LKP_INDEX_INDEX (↑w : Nat) < tblSlots (↑table : Nat) ∧ s.oddPair (↑table : Nat) (s.get F.LKP_INDEX_INDEX (↑w : Nat)) = false ∧ ver = false ∧ (s.slot (↑table : Nat) (s.get F.LKP_INDEX_INDEX (↑w : Nat))).perr = false ∧ (s.slot (↑table : Nat) (s.get F.LKP_INDEX_INDEX (↑w : Nat) + 1)).perr = false) ∧
    (∃ (s : State) (h : HostId) (w : Fin 2) (table : Fin 16), s.opens h R.LKP_CMD (↑w : Nat) 0 = true ∧ s.bit F.LKP_STAT_BUSY (↑w : Nat) = false ∧ s.loaded = true ∧ s.underTest 0 = false ∧ s.lkp.flush = [] ∧ (↑table : Nat) < 9 ∧ s.get F.LKP_INDEX_INDEX (↑w : Nat) < tblSlots (↑table : Nat) ∧ s.oddPair (↑table : Nat) (s.get F.LKP_INDEX_INDEX (↑w : Nat)) = false ∧ ((↑table : Nat) = 1 ∨ (↑table : Nat) = 6 ∨ (↑table : Nat) = 8) ∧ rsvdOk (↑table : Nat) (s.lkpData (↑w : Nat) % 2 ^ imgWidth (↑table : Nat)) = true ∧ keyOk (↑table : Nat) (s.get F.LKP_INDEX_INDEX (↑w : Nat)) (s.lkpData (↑w : Nat) % 2 ^ imgWidth (↑table : Nat)) = true ∧ s.lkp.staged.length + s.lkp.taken.length < 4096 ∧ (s.slot (↑table : Nat) (s.get F.LKP_INDEX_INDEX (↑w : Nat))).res = none) ∧
    (∃ (s : State) (h : HostId) (w : Fin 2) (table : Fin 16), s.opens h R.LKP_CMD (↑w : Nat) 0 = true ∧ s.bit F.LKP_STAT_BUSY (↑w : Nat) = false ∧ s.loaded = true ∧ s.underTest 0 = false ∧ s.lkp.flush = [] ∧ hashed (↑table : Nat) = true ∧ s.findPresent (↑table : Nat) (imgKey (↑table : Nat) (s.lkpData (↑w : Nat) % 2 ^ imgWidth (↑table : Nat))) = none) ∧
    (∃ (s : State) (h : HostId) (w : Fin 2) (table : Fin 16) (i : Nat), s.opens h R.LKP_CMD (↑w : Nat) 0 = true ∧ s.bit F.LKP_STAT_BUSY (↑w : Nat) = false ∧ s.loaded = true ∧ s.underTest 0 = false ∧ s.lkp.flush = [] ∧ hashed (↑table : Nat) = true ∧ s.findPresent (↑table : Nat) (imgKey (↑table : Nat) (s.lkpData (↑w : Nat) % 2 ^ imgWidth (↑table : Nat))) = some i ∧ s.stagedAt (↑table : Nat) i = none ∧ s.lkp.staged.length + s.lkp.taken.length < 4096) ∧
    (∃ (s : State) (h : HostId) (w : Fin 2) (table : Fin 16), s.opens h R.LKP_CMD (↑w : Nat) 0 = true ∧ s.bit F.LKP_STAT_BUSY (↑w : Nat) = false ∧ s.loaded = true ∧ s.underTest 0 = false ∧ s.lkp.flush = [] ∧ hashed (↑table : Nat) = true ∧ (∀ (i : Nat), (s.slot (↑table : Nat) i).perr = false)) ∧
    (∃ (s : State) (h : HostId) (w : Fin 2), s.opens h R.LKP_CMD (↑w : Nat) 0 = true ∧ s.bit F.LKP_STAT_BUSY (↑w : Nat) = false ∧ s.loaded = true ∧ s.underTest 0 = false ∧ s.lkp.flush = []) ∧
    (∃ (s : State) (w : Fin 2) (c : LkpCmd) (d : Nat) (b : Nat), s.lkpCmdOf (↑w : Nat) = some c ∧ tabFind? (↑w : Nat) s.lkp.flush = some (d, b) ∧ s.underTest 0 = false ∧ s.lkp.lost = none) ∧
    (∃ (s : State) (w : Fin 2) (c : LkpCmd), s.lkpCmdOf (↑w : Nat) = some c ∧ c.status < 16 ∧ tabFind? (↑w : Nat) s.lkp.flush = none) ∧
    (∃ (s : State) (w : Fin 2) (c : LkpCmd) (d b i : Nat), s.lkpCmdOf w = some c ∧ tabFind? w.val s.lkp.flush = some (d, b) ∧ s.underTest 0 = false ∧ s.lkp.lost = none ∧ i < 2 ^ 20 ∧ (s.slot 0 i).perr = false ∧ (s.slot 0 i).pend = false ∧ fdbDynamic (versionFor (s.slot 0 i) s.epoch).img = true ∧ d.testBit 7 = false ∧ d.testBit 20 = false ∧ b ≤ flushOp i) :=
  ⟨⟨device 1, .ha, 1, by decide +kernel⟩,
    ⟨(device 1).put F.LKP_INDEX_INDEX 4095 1, .ha, 1, 1, false, by decide +kernel⟩,
    ⟨withData ((device 1).put F.LKP_INDEX_INDEX 8191 1) 1 (2^75-1), .hb, 1, 8, by decide +kernel⟩,
    ⟨device 1, .ha, 0, 7, by decide +kernel⟩,
    ⟨learnt false (withData (device 1) 1 fdb1), .ha, 1, 0, (((device 1).candidates 0 (imgKey 0 fdb1)).headD 0), by decide +kernel⟩,
    ⟨learnt false (withData (device 1) 1 fdb1), .ha, 1, 0, by decide +kernel, by decide +kernel, by decide +kernel, by decide +kernel, by decide +kernel, by decide +kernel, fun i => slots_clean _ (by decide +kernel) _ i⟩,
    ⟨learnt false (withData (device 1) 1 fdb1), .hb, 1, by decide +kernel⟩,
    ⟨{ learnt false (device 1) with lkp := { (learnt false (device 1)).lkp with cmd1 := some ⟨6, 0, none, none, none⟩, flush := [(1, (0, 0))] } }, 1, ⟨6, 0, none, none, none⟩, 0, 0, by decide +kernel⟩,
    ⟨{ device 1 with lkp := { cmd1 := some ⟨1, 5, some 4095, some 1, some 7⟩ } }, 1, ⟨1, 5, some 4095, some 1, some 7⟩, by decide +kernel⟩,
    ⟨{ learnt false (device 1) with lkp := { (learnt false (device 1)).lkp with cmd1 := some ⟨6, 0, none, none, none⟩, flush := [(1, (0, 0))] } }, 1, ⟨6, 0, none, none, none⟩, 0, 0, ((device 1).candidates 0 (imgKey 0 fdb1)).headD 0, by decide +kernel⟩⟩

/-- The premises of TableEntries can hold, clause by clause. -/
theorem witness_TableEntries :
    (∃ (s : State) (h : HostId) (w : Fin 2) (table : Fin 16) (i : Nat), s.opens h R.LKP_CMD (↑w : Nat) 0 = true ∧ s.bit F.LKP_STAT_BUSY (↑w : Nat) = false ∧ s.loaded = true ∧ s.underTest 0 = false ∧ s.lkp.flush = [] ∧ hashed (↑table : Nat) = true ∧ s.lkp.staged.length + s.lkp.taken.length < 4096 ∧ ((↑table : Nat) = 0 → (s.lkpData (↑w : Nat) % 2 ^ imgWidth (↑table : Nat)).testBit 66 = false) ∧ rsvdOk (↑table : Nat) (s.lkpData (↑w : Nat) % 2 ^ imgWidth (↑table : Nat)) = true ∧ keyOk (↑table : Nat) 0 (s.lkpData (↑w : Nat) % 2 ^ imgWidth (↑table : Nat)) = true ∧ s.boundOk (↑table : Nat) (s.lkpData (↑w : Nat) % 2 ^ imgWidth (↑table : Nat)) = true ∧ (∀ (i : Nat), (s.slot (↑table : Nat) i).perr = false) ∧ s.findPresent (↑table : Nat) (imgKey (↑table : Nat) (s.lkpData (↑w : Nat) % 2 ^ imgWidth (↑table : Nat))) = some i) ∧
    (∃ (s : State) (h : HostId) (w : Fin 2) (table : Fin 16) (i : Nat), s.opens h R.LKP_CMD (↑w : Nat) 0 = true ∧ s.bit F.LKP_STAT_BUSY (↑w : Nat) = false ∧ s.loaded = true ∧ s.underTest 0 = false ∧ s.lkp.flush = [] ∧ hashed (↑table : Nat) = true ∧ s.lkp.staged.length + s.lkp.taken.length < 4096 ∧ ((↑table : Nat) = 0 → (s.lkpData (↑w : Nat) % 2 ^ imgWidth (↑table : Nat)).testBit 66 = false) ∧ rsvdOk (↑table : Nat) (s.lkpData (↑w : Nat) % 2 ^ imgWidth (↑table : Nat)) = true ∧ keyOk (↑table : Nat) 0 (s.lkpData (↑w : Nat) % 2 ^ imgWidth (↑table : Nat)) = true ∧ s.boundOk (↑table : Nat) (s.lkpData (↑w : Nat) % 2 ^ imgWidth (↑table : Nat)) = true ∧ (∀ (i : Nat), (s.slot (↑table : Nat) i).perr = false) ∧ s.findPresent (↑table : Nat) (imgKey (↑table : Nat) (s.lkpData (↑w : Nat) % 2 ^ imgWidth (↑table : Nat))) = none ∧ s.freePlace (↑table : Nat) (s.lkpData (↑w : Nat) % 2 ^ imgWidth (↑table : Nat)) (4 * s.hashBucket (↑table : Nat) 0 (imgKey (↑table : Nat) (s.lkpData (↑w : Nat) % 2 ^ imgWidth (↑table : Nat)))) 4 = some i) ∧
    (∃ (s : State) (r : LearnReq) (rest : List LearnReq), s.underTest 0 = false ∧ s.lkp.learnQ = r :: rest) ∧
    (∃ (s : State) (r : LearnReq) (rest : List LearnReq) (i : Nat), s.underTest 0 = false ∧ s.lkp.learnQ = r :: rest ∧ s.lkp.flush = [] ∧ (∀ (i : Nat), (s.slot 0 i).perr = false) ∧ s.findPresent 0 (imgKey 0 (learnedImg r.mac r.fid r.port)) = none ∧ s.freePlace 0 (learnedImg r.mac r.fid r.port) (4 * s.hashBucket 0 0 (imgKey 0 (learnedImg r.mac r.fid r.port))) 4 = some i) ∧
    (∃ (s : State), s.get F.FDB_AGE_CFG_PERIOD ≠ 0 ∧ s.underTest 0 = false ∧ s.mode ≠ modePEWTER) ∧
    (∃ (s : State) (i : Nat), s.underTest 0 = false ∧ (s.slot 0 i).poison = false ∧ (s.slot 0 i).perr = false ∧ fdbDynamic (versionFor (s.slot 0 i) s.epoch).img = true ∧ s.lkp.hits = [] ∧ (s.slot 0 i).stale = false) ∧
    (∃ (s : State) (i : Nat), s.underTest 0 = false ∧ (s.slot 0 i).poison = false ∧ (s.slot 0 i).perr = false ∧ fdbDynamic (versionFor (s.slot 0 i) s.epoch).img = true ∧ s.lkp.hits = [] ∧ (s.slot 0 i).stale = true ∧ (s.slot 0 i).pend = false) ∧
    (∃ (s : State) (i : Nat) (was : Bool), s.underTest 0 = false ∧ (s.slot 0 i).poison = false ∧ (s.slot 0 i).perr = false ∧ (s.slot 0 i).pend = false ∧ fdbDynamic (versionFor (s.slot 0 i) s.epoch).img = true ∧ s.lkp.cycleAt = s.inv.ticks ∧ s.lkp.hits = [{ slot := i, stale := was, again := none }] ∧ was = false) ∧
    (∃ (s : State) (i : Nat) (was : Bool), s.underTest 0 = false ∧ (s.slot 0 i).poison = false ∧ (s.slot 0 i).perr = false ∧ (s.slot 0 i).pend = false ∧ fdbDynamic (versionFor (s.slot 0 i) s.epoch).img = true ∧ s.lkp.cycleAt = s.inv.ticks ∧ s.lkp.hits = [{ slot := i, stale := was, again := none }] ∧ was = true) :=
  ⟨⟨learnt false (withData (device 1) 1 fdb1), .ha, 1, 0, (((device 1).candidates 0 (imgKey 0 fdb1)).headD 0), by decide +kernel, by decide +kernel, by decide +kernel, by decide +kernel, by decide +kernel, by decide +kernel, by decide +kernel, by decide +kernel, by decide +kernel, by decide +kernel, by decide +kernel, fun i => slots_clean _ (by decide +kernel) _ i, by decide +kernel⟩,
    ⟨(withData (device 1) 1 fdb1), .ha, 1, 0, (((device 1).candidates 0 (imgKey 0 fdb1)).headD 0), by decide +kernel, by decide +kernel, by decide +kernel, by decide +kernel, by decide +kernel, by decide +kernel, by decide +kernel, by decide +kernel, by decide +kernel, by decide +kernel, by decide +kernel, fun i => slots_clean _ (by decide +kernel) _ i, by decide +kernel, by decide +kernel⟩,
    ⟨{ device 1 with lkp := { learnQ := [⟨2, 1, 3, 0⟩] } }, ⟨2, 1, 3, 0⟩, [], by decide +kernel⟩,
    ⟨{ device 1 with lkp := { learnQ := [⟨2, 1, 3, 0⟩] } }, ⟨2, 1, 3, 0⟩, [], (((device 1).candidates 0 (imgKey 0 fdb1)).headD 0), by decide +kernel, by decide +kernel, by decide +kernel, fun i => slots_clean _ (by decide +kernel) _ i, by decide +kernel, by decide +kernel⟩,
    ⟨{ (device 1).put F.FDB_AGE_CFG_PERIOD 5 with lkp := { ageStep := 32767, stashVisit := 15 } }, by decide +kernel⟩,
    ⟨learnt false (device 1), (((device 1).candidates 0 (imgKey 0 fdb1)).headD 0), by decide +kernel⟩,
    ⟨learnt true (device 1), (((device 1).candidates 0 (imgKey 0 fdb1)).headD 0), by decide +kernel⟩,
    ⟨{ learnt false (device 1) with lkp := { (learnt false (device 1)).lkp with hits := [⟨(((device 1).candidates 0 (imgKey 0 fdb1)).headD 0), false, none⟩] } }, (((device 1).candidates 0 (imgKey 0 fdb1)).headD 0), false, by decide +kernel⟩,
    ⟨{ learnt true (device 1) with lkp := { (learnt true (device 1)).lkp with hits := [⟨(((device 1).candidates 0 (imgKey 0 fdb1)).headD 0), true, none⟩] } }, (((device 1).candidates 0 (imgKey 0 fdb1)).headD 0), true, by decide +kernel⟩⟩

/-- The premises of CommitTimestamp can hold, clause by clause. -/
theorem witness_CommitTimestamp :
    (∃ (s : State) (h : HostId), s.opens h R.EPOCH_COMMIT 0 0 = true ∧ s.bit F.EPOCH_STAT_BUSY = false ∧ (s.get F.EPOCH_COMMIT_TS_SEC_SEC = 0 ∧ s.get F.EPOCH_COMMIT_TS_NS_NS = 0)) ∧
    (∃ (s : State) (h : HostId), s.opens h R.EPOCH_COMMIT 0 0 = true ∧ s.bit F.EPOCH_STAT_BUSY = false ∧ (¬(s.get F.EPOCH_COMMIT_TS_SEC_SEC = 0 ∧ s.get F.EPOCH_COMMIT_TS_NS_NS = 0)) ∧ fullTime (s.dom 0) (s.get F.EPOCH_COMMIT_TS_SEC_SEC) (s.get F.EPOCH_COMMIT_TS_NS_NS) < s.now + 4000 + (↑((16 * s.lkp.staged.length + 9) / 10) : Int)) ∧
    (∃ (s : State) (h : HostId), s.opens h R.EPOCH_COMMIT 0 0 = true ∧ s.bit F.EPOCH_STAT_BUSY = false ∧ (¬(s.get F.EPOCH_COMMIT_TS_SEC_SEC = 0 ∧ s.get F.EPOCH_COMMIT_TS_NS_NS = 0)) ∧ s.now + 4000 + (↑((16 * s.lkp.staged.length + 9) / 10) : Int) ≤ fullTime (s.dom 0) (s.get F.EPOCH_COMMIT_TS_SEC_SEC) (s.get F.EPOCH_COMMIT_TS_NS_NS) ∧ fullTime (s.dom 0) (s.get F.EPOCH_COMMIT_TS_SEC_SEC) (s.get F.EPOCH_COMMIT_TS_NS_NS) ≤ s.now + 1000000000000) ∧
    (∃ (s : State) (h : HostId), s.opens h R.EPOCH_COMMIT 0 0 = true ∧ s.bit F.EPOCH_STAT_BUSY = false ∧ (¬(s.get F.EPOCH_COMMIT_TS_SEC_SEC = 0 ∧ s.get F.EPOCH_COMMIT_TS_NS_NS = 0)) ∧ s.now + 4000 + (↑((16 * s.lkp.staged.length + 9) / 10) : Int) ≤ fullTime (s.dom 0) (s.get F.EPOCH_COMMIT_TS_SEC_SEC) (s.get F.EPOCH_COMMIT_TS_NS_NS) ∧ s.now + 1000000000000 < fullTime (s.dom 0) (s.get F.EPOCH_COMMIT_TS_SEC_SEC) (s.get F.EPOCH_COMMIT_TS_NS_NS)) :=
  ⟨⟨{ ready with lkp := { staged := [⟨1, 5, 2, 1⟩] } }, .ha, by decide +kernel⟩,
    ⟨ready.put F.EPOCH_COMMIT_TS_NS_NS 3999, .ha, by decide +kernel⟩,
    ⟨(ready).put F.EPOCH_COMMIT_TS_NS_NS 4001, .ha, by decide +kernel⟩,
    ⟨((ready).put F.EPOCH_COMMIT_TS_SEC_SEC 1000).put F.EPOCH_COMMIT_TS_NS_NS 1, .ha, by decide +kernel⟩⟩

/-- The premises of CommitHidesPending can hold, clause by clause. -/
theorem witness_CommitHidesPending :
    (∃ (s : State), s.get F.EPOCH_STAT_STATE = esAPPLYING ∧ s.underTest 0 = false ∧ ((List.map (fun (e : Staged) => (e.table, e.index)) s.lkp.taken).Nodup) ∧ (∀ e ∈ s.lkp.taken, e.index < 2 ^ 20) ∧ (∀ e ∈ s.lkp.taken, (newest (s.slot e.table e.index)).settled = true ∨ (newest (s.slot e.table e.index)).tag ≠ (s.epoch + 1) % 65536)) :=
  ⟨{ (device 1).put F.EPOCH_STAT_STATE 2 with lkp := { taken := [⟨1, 5, 2, 1⟩, ⟨8, 8191, 2, 1⟩], slots := [(2^20+5, { a := ⟨1, 0, false⟩, b := ⟨3, 65535, true⟩ })] } }, by decide +kernel⟩

/-- The premises of CommitMachine can hold, clause by clause. -/
theorem witness_CommitMachine :
    (∃ (s : State) (h : HostId), s.opens h R.EPOCH_COMMIT 0 0 = true ∧ s.bit F.EPOCH_STAT_BUSY = false) ∧
    (∃ (s : State) (h : HostId), s.opens h R.EPOCH_DISCARD 0 0 = true ∧ (s.get F.EPOCH_STAT_STATE = esREADY ∨ s.get F.EPOCH_STAT_STATE = esDRAINING)) ∧
    (∃ (s : State) (h : HostId), s.opens h R.EPOCH_DISCARD 0 0 = true ∧ s.get F.EPOCH_STAT_STATE ≠ esREADY ∧ s.get F.EPOCH_STAT_STATE ≠ esDRAINING) ∧
    (∃ (s : State) (tc : Int), s.lkp.tc = some tc ∧ s.get F.EPOCH_STAT_STATE = esPENDING ∧ tc ≤ s.now) ∧
    (∃ (s : State), s.get F.EPOCH_STAT_STATE = esDRAINING ∧ s.drainDone = true) ∧
    (∃ (s : State), s.mode ≠ modeLOAD ∧ s.mode ≠ modePEWTER ∧ s.underTest 0 = false) :=
  ⟨⟨{ ready with lkp := { staged := [⟨1, 5, 2, 1⟩] } }, .hb, by decide +kernel⟩,
    ⟨{ (device 1).put F.EPOCH_STAT_STATE 1 with lkp := { staged := [⟨1, 5, 2, 1⟩] } }, .hb, by decide +kernel⟩,
    ⟨{ (device 1).put F.EPOCH_STAT_STATE 2 with lkp := { staged := [⟨1, 5, 2, 1⟩] } }, .hb, by decide +kernel⟩,
    ⟨{ ((device 1).put F.EPOCH_STAT_STATE 3).put F.EPOCH_CUR_EPOCH 65535 with lkp := { tc := some 0 } }, 0, by decide +kernel⟩,
    ⟨((device 1).put F.EPOCH_STAT_STATE 1).put F.EPOCH_CUR_EPOCH 1, by decide +kernel⟩,
    ⟨{ device 1 with lkp := { sweepT := 8, sweepI := 8191, slots := [(8 * 2^20+8191, { a := ⟨1, 5, false⟩ })] } }, by decide +kernel⟩⟩

/-- The premises of MeterPolicing can hold, clause by clause. -/
theorem witness_MeterPolicing :
    (∃ (s : State) (pl : Fin 2) (k : Nat) (rest : List Nat) (f : Frame), (s.pipe (↑pl : Nat)).st5 = k :: rest ∧ s.frame k = some f ∧ f.stage = Stage.looked ∧ f.slow = 0 ∧ f.dec.hit = true ∧ f.dec.meterEn = true ∧ f.dec.filterEn = false ∧ f.dec.gateEn = false ∧ (s.meter f.dec.meter).ecc = false) ∧
    (∃ (m : Meter) (ts : Int), ts < m.tlast) ∧
    (∃ (m : Meter) (ts : Int), m.tlast ≤ ts) ∧
    (∃ (m : Meter) (b : Nat) (input : Nat), (meterColour m b input).1 = 2) ∧
    (∃ (m : Meter) (b : Nat) (input : Nat), (meterColour m b input).1 = 1) ∧
    (∃ (m : Meter) (b : Nat) (input : Nat), (meterColour m b input).1 = 0) ∧
    (∃ (m : Meter), m.cm = true) :=
  ⟨⟨{ device 1 with tin := { pipe := [(1, { st5 := [0] })] }, frames := [(0, some metered)], pol := { meters := [(8191, { cir := 100000, pir := 200000, cbs := 200, pbs := 300 })] } }, 1, 0, [], metered, by decide +kernel⟩,
    ⟨{ tlast := 5 }, 4, by decide +kernel⟩,
    ⟨{ cir := 3, cbs := 4, pir := 9, pbs := 1}, 4000000, by decide +kernel⟩,
    ⟨{}, 64, 0, by decide +kernel⟩,
    ⟨{ tp := 64000000 }, 64, 0, by decide +kernel⟩,
    ⟨{ tp := 64000000, tc := 64000000 }, 64, 0, by decide +kernel⟩,
    ⟨{ tp := 64000000, tc := 64000000, cm := true }, by decide +kernel⟩⟩

/-- The premises of ScheduleChange can hold, clause by clause. -/
theorem witness_ScheduleChange :
    (∃ (s : State) (h : HostId) (k : Fin 16), s.opens h R.POL_SGS_CHG (↑k : Nat) 0 = true ∧ ((if s.bit F.POL_SGS_STAT_CHG_PEND (↑k : Nat) = true then 5 else if s.get F.POL_SGS_ADM_LEN_LEN (↑k : Nat) = 0 ∨ 256 < s.get F.POL_SGS_ADM_LEN_LEN (↑k : Nat) then 1 else if ((List.range (s.get F.POL_SGS_ADM_LEN_LEN (↑k : Nat))).any fun (i : Nat) => Decidable.decide ((tabGet { } (s.schedAdm (↑k : Nat)) i).interval < 8)) = true then 2 else if s.get F.POL_SGS_ADM_CYCLE_CYCLE (↑k : Nat) < 16 ∨ 1000000000 < s.get F.POL_SGS_ADM_CYCLE_CYCLE (↑k : Nat) ∨ s.get F.POL_SGS_ADM_CYCLE_CYCLE (↑k : Nat) < s.get F.POL_SGS_ADM_EXT_EXT (↑k : Nat) then 3 else if 1000000000 ≤ s.get F.POL_SGS_ADM_BASE_NS_NS (↑k : Nat) then 4 else 0) ≠ 0)) ∧
    (∃ (s : State) (h : HostId) (k : Fin 16), s.opens h R.POL_SGS_CHG (↑k : Nat) 0 = true ∧ ((if s.bit F.POL_SGS_STAT_CHG_PEND (↑k : Nat) = true then 5 else if s.get F.POL_SGS_ADM_LEN_LEN (↑k : Nat) = 0 ∨ 256 < s.get F.POL_SGS_ADM_LEN_LEN (↑k : Nat) then 1 else if ((List.range (s.get F.POL_SGS_ADM_LEN_LEN (↑k : Nat))).any fun (i : Nat) => Decidable.decide ((tabGet { } (s.schedAdm (↑k : Nat)) i).interval < 8)) = true then 2 else if s.get F.POL_SGS_ADM_CYCLE_CYCLE (↑k : Nat) < 16 ∨ 1000000000 < s.get F.POL_SGS_ADM_CYCLE_CYCLE (↑k : Nat) ∨ s.get F.POL_SGS_ADM_CYCLE_CYCLE (↑k : Nat) < s.get F.POL_SGS_ADM_EXT_EXT (↑k : Nat) then 3 else if 1000000000 ≤ s.get F.POL_SGS_ADM_BASE_NS_NS (↑k : Nat) then 4 else 0) = 0)) ∧
    (∃ (s : State) (h : HostId) (k : Fin 16), s.opens h R.POL_SGS_CHG (↑k : Nat) 0 = true ∧ s.bit F.POL_SGS_STAT_CHG_PEND (↑k : Nat) = true) ∧
    (∃ (s : State) (h : HostId) (k : Fin 16), s.opens h R.POL_SGS_CHG (↑k : Nat) 0 = true ∧ s.bit F.POL_SGS_STAT_CHG_PEND (↑k : Nat) = false) ∧
    (∃ (s : State) (k : Fin 16) (c : PendChange), (s.sched (↑k : Nat)).pend = some c ∧ c.tx ≤ s.now) :=
  ⟨⟨device 1, .ha, 15, by decide +kernel⟩,
    ⟨{ ((device 1).put F.POL_SGS_ADM_LEN_LEN 1 15).put F.POL_SGS_ADM_CYCLE_CYCLE 16 15 with pol := { scheds := [(15, { bank1 := [(0, { interval := 8 })] })] } }, .ha, 15, by decide +kernel⟩,
    ⟨(device 1).put F.POL_SGS_STAT_CHG_PEND 1 15, .ha, 15, by decide +kernel⟩,
    ⟨(device 1), .ha, 15, by decide +kernel⟩,
    ⟨{ (device 1).put F.POL_SGS_STAT_CHG_PEND 1 15 with pol := { scheds := [(15, { pend := some ⟨0, 0, 16, 0, 256⟩ })] } }, 15, ⟨0, 0, 16, 0, 256⟩, by decide +kernel⟩⟩

/-- The premises of PolicingWindow can hold, clause by clause. -/
theorem witness_PolicingWindow :
    (∃ (s : State) (h : HostId), s.opens h R.POL_CMD 0 0 = true ∧ s.bit F.POL_STAT_BUSY = false ∧ s.loaded = true) ∧
    (∃ (s : State) (h : HostId), s.opens h R.POL_CMD 0 0 = true ∧ s.bit F.POL_STAT_BUSY = false ∧ s.loaded = true) ∧
    (∃ (s : State) (h : HostId), s.opens h R.POL_CMD 0 0 = true ∧ s.bit F.POL_STAT_BUSY = false ∧ s.loaded = true) ∧
    (∃ (s : State) (h : HostId), s.opens h R.POL_CMD 0 0 = true ∧ s.bit F.POL_STAT_BUSY = false ∧ s.loaded = true) ∧
    (∃ (s : State) (h : HostId), s.opens h R.POL_CMD 0 0 = true ∧ s.bit F.POL_STAT_BUSY = false ∧ s.loaded = true) ∧
    (∃ (s : State) (c : WinCmd), s.pol.cmd = some c ∧ getBits c.word 3 0 = 0) ∧
    (∃ (s : State) (c : WinCmd), s.pol.cmd = some c ∧ getBits c.word 3 0 = 1 ∧ c.index < polEntries (getBits c.word 5 4) ∧ s.polEcc (getBits c.word 5 4) c.index (getBits c.word 6 6 == 1) = false) ∧
    (∃ (s : State) (c : WinCmd), s.pol.cmd = some c ∧ getBits c.word 3 0 = 2 ∧ getBits c.word 6 6 = 0 ∧ getBits c.word 5 4 = 1 ∧ c.index < polEntries 1 ∧ polRsvd 1 c.data = 0 ∧ (imageBits c.data 13 0 = 0 ∨ 63 < imageBits c.data 13 0)) ∧
    (∃ (s : State) (c : WinCmd), s.pol.cmd = some c ∧ getBits c.word 3 0 = 2 ∧ getBits c.word 6 6 = 0 ∧ getBits c.word 5 4 = 0 ∧ c.index < polEntries 0 ∧ polRsvd 0 c.data = 0 ∧ imageBits c.data 47 24 < imageBits c.data 23 0) ∧
    (∃ (s : State) (c : WinCmd), s.pol.cmd = some c ∧ getBits c.word 3 0 = 3 ∧ getBits c.word 5 4 = 1 ∧ c.index < polEntries 1) ∧
    (∃ (s : State) (c : WinCmd), s.pol.cmd = some c ∧ getBits c.word 3 0 = 3 ∧ getBits c.word 5 4 = 2 ∧ c.index < polEntries 2) ∧
    (∃ (s : State) (c : WinCmd), s.pol.cmd = some c ∧ getBits c.word 3 0 = 4 ∧ getBits c.word 5 4 = 1 ∧ c.index < polEntries 1) :=
  ⟨⟨(device 1).put F.POL_INDEX_INDEX 16383, .hb, by decide +kernel⟩,
    ⟨(device 1).put F.POL_INDEX_INDEX 16383, .ha, by decide +kernel⟩,
    ⟨(device 1).put F.POL_INDEX_INDEX 16383, .hb, by decide +kernel⟩,
    ⟨(device 1).put F.POL_INDEX_INDEX 16383, .ha, by decide +kernel⟩,
    ⟨(device 1).put F.POL_INDEX_INDEX 16383, .hb, by decide +kernel⟩,
    ⟨{ (device 1).put F.POL_STAT_BUSY 1 with pol := { cmd := some { word := 0x70, index := 5, data := [], host := 0 } } }, { word := 0x70, index := 5, data := [], host := 0 }, by decide +kernel⟩,
    ⟨{ (device 1).put F.POL_STAT_BUSY 1 with pol := { cmd := some { word := 0x11, index := 8191, data := [], host := 0 }, filters := [(8191, { maxSdu := 77, matchN := 3})] } }, { word := 0x11, index := 8191, data := [], host := 0 }, by decide +kernel⟩,
    ⟨{ (device 1).put F.POL_STAT_BUSY 1 with pol := { cmd := some { word := 0x12, index := 16383, data := [16383] ++ List.replicate 7 0, host := 0 } } }, { word := 0x12, index := 16383, data := [16383] ++ List.replicate 7 0, host := 0 }, by decide +kernel⟩,
    ⟨{ (device 1).put F.POL_STAT_BUSY 1 with pol := { cmd := some { word := 0x02, index := 8191, data := [1] ++ List.replicate 7 0, host := 0 } } }, { word := 0x02, index := 8191, data := [1] ++ List.replicate 7 0, host := 0 }, by decide +kernel⟩,
    ⟨{ (device 1).put F.POL_STAT_BUSY 1 with pol := { cmd := some { word := 0x13, index := 16383, data := [], host := 0 }, filters := [(16383, { blocked := true })] } }, { word := 0x13, index := 16383, data := [], host := 0 }, by decide +kernel⟩,
    ⟨{ (device 1).put F.POL_STAT_BUSY 1 with pol := { cmd := some { word := 0x63, index := 1023, data := [], host := 0 }, gates := [(1023, { closedInv := true })] } }, { word := 0x63, index := 1023, data := [], host := 0 }, by decide +kernel⟩,
    ⟨{ (device 1).put F.POL_STAT_BUSY 1 with pol := { cmd := some { word := 0x14, index := 16383, data := [], host := 0 } } }, { word := 0x14, index := 16383, data := [], host := 0 }, by decide +kernel⟩⟩

/-- The premises of ProcessData can hold, clause by clause. -/
theorem witness_ProcessData :
    (∃ (s : State) (n : Nat) (c : Copy) (f : Frame) (ed : EditRec), s.pdsHead = some (n, c, f, ed) ∧ ed.pdsRole = 1 ∧ s.expired n c = false ∧ s.pds.gather = none ∧ s.underTest 3 = false ∧ (∀ i ∈ s.unreadCells c, s.cellEcc i = 0) ∧ slotIn (s.pslot ed.pdsIndex) = true ∧ slotVirtual (s.pslot ed.pdsIndex) = false ∧ slotSrcOfs (s.pslot ed.pdsIndex) + slotLen (s.pslot ed.pdsIndex) ≤ f.rx.length - 4 ∧ (slotBuf (s.pslot ed.pdsIndex) !(s.pslot ed.pdsIndex).cur) + slotLen (s.pslot ed.pdsIndex) ≤ sramSize) ∧
    (∃ (s : State), s.pdsRuns = true ∧ s.pds.cycle ≠ 0 ∧ s.pds.gathered = false ∧ s.pds.gather = none ∧ s.gatherDue ≤ s.now ∧ s.mode ≠ modeHOLD ∧ s.pds.paused = false ∧ ((List.map (fun (x : Nat × PdsSlot) => x.1) s.pds.slots).Nodup)) ∧
    (∃ (s : State), s.pds.gather.isSome = true) ∧
    (∃ (s : State) (n : Nat) (c : Copy) (f : Frame) (ed : EditRec), s.pdsHead = some (n, c, f, ed) ∧ ed.pdsRole = 2 ∧ s.expired n c = false ∧ s.pdsRuns = true ∧ s.pds.cycle ≠ 0 ∧ s.mode ≠ modeHOLD ∧ s.pds.paused = false ∧ s.pds.gather = none ∧ s.heldDue = [] ∧ (∀ i ∈ s.unreadCells c, s.cellEcc i = 0) ∧ ed.pdsIndex < 64 ∧ (s.fanout ed.pdsIndex).img.testBit 0 = true ∧ (s.fanout ed.pdsIndex).lastRun < s.foWindow ed.pdsIndex) ∧
    (∃ (s : State) (n : Nat) (c : Copy) (f : Frame) (ed : EditRec), s.pdsHead = some (n, c, f, ed) ∧ ed.pdsRole = 2 ∧ s.expired n c = false ∧ s.pdsRuns = true ∧ s.pds.cycle ≠ 0 ∧ s.mode ≠ modeHOLD ∧ s.pds.paused = false ∧ s.pds.gather = none ∧ s.heldDue = [] ∧ (∀ i ∈ s.unreadCells c, s.cellEcc i = 0) ∧ ed.pdsIndex < 64 ∧ (s.fanout ed.pdsIndex).img.testBit 0 = true ∧ s.foWindow ed.pdsIndex ≤ (s.fanout ed.pdsIndex).lastRun) ∧
    (∃ (s : State) (g : Fin 64) (h : HeldRun) (rest : List HeldRun), s.heldDue = h :: rest ∧ h.group = (↑g : Nat) ∧ (∀ y ∈ rest, y.group ≠ (↑g : Nat)) ∧ s.mode ≠ modeHOLD ∧ s.pds.gather = none) :=
  ⟨⟨{ serving 1 4095 with pds := { slots := [(4095, { img := 1 + 8 * 8 + 2^30 * 14 })] } }, 615, copy0, pdsFrame 1 4095, { pdsRole := 1, pdsIndex := 4095 }, by decide +kernel⟩,
    ⟨{ serving 1 4095 with inv := { ticks := 10 }, pds := { cycle := 1, slots := [(0, { img := 1, fresh := true }), (4095, { img := 1, miss := 255 })] } }, by decide +kernel⟩,
    ⟨{ (serving 1 4095).put F.PDS_STAT_GATHER_BUSY 1 with pds := { gather := some { start := 0, cnt := 1, due := 0, cur := [], began := 0, used := 0, todo := [.virtuals, .build 3] } } }, by decide +kernel⟩,
    ⟨{ (serving 2 63).put F.INV_CYC_OPER_PERIOD_PERIOD 1000000 with pds := { cycle := 1, fanouts := [(63, { img := 1 + 2 * 1000, miss := 3, fault := true })] } }, 615, copy0, pdsFrame 2 63, { pdsRole := 2, pdsIndex := 63 }, by decide +kernel⟩,
    ⟨{ (serving 2 63).put F.INV_CYC_OPER_PERIOD_PERIOD 1000000 with pds := { cycle := 1, fanouts := [(63, { img := 1 + 2 * 1000, lastRun := 1 })] } }, 615, copy0, pdsFrame 2 63, { pdsRole := 2, pdsIndex := 63 }, by decide +kernel⟩,
    ⟨{ (serving 2 63) with pds := { cycle := 1, fanouts := [(63, { img := 1, miss := 2 })] } }, 63, ⟨0, 63, 1, 0, 0⟩, [], by decide +kernel⟩⟩

/-- The premises of ProcessDataWindow can hold, clause by clause. -/
theorem witness_ProcessDataWindow :
    (∃ (s : State) (h : HostId) (table : Fin 8), s.opens h R.PDS_CMD 0 0 = true ∧ s.bit F.PDS_CMD_STAT_BUSY = false ∧ s.loaded = true ∧ (↑table : Nat) < 5 ∧ s.get F.PDS_INDEX_INDEX < pdsEntries (↑table : Nat)) ∧
    (∃ (s : State) (h : HostId) (table : Fin 8), s.opens h R.PDS_CMD 0 0 = true ∧ s.bit F.PDS_CMD_STAT_BUSY = false ∧ s.loaded = true ∧ (↑table : Nat) < 5 ∧ s.get F.PDS_INDEX_INDEX < pdsEntries (↑table : Nat)) ∧
    (∃ (s : State) (h : HostId) (table : Fin 8), s.opens h R.PDS_CMD 0 0 = true ∧ s.bit F.PDS_CMD_STAT_BUSY = false ∧ s.loaded = true ∧ (↑table : Nat) < 5 ∧ s.get F.PDS_INDEX_INDEX < pdsEntries (↑table : Nat) ∧ ((s.pdsWrite (↑table : Nat) (s.get F.PDS_INDEX_INDEX) (List.foldl (fun (a : Nat) (e : Word × Nat) => a + BitVec.toNat e.1 * 2 ^ (32 * e.2)) 0 (List.map (fun (j : Nat) => s.reg R.PDS_DATA j) (List.range 6)).zipIdx)).1 = 0) ∧ s.pdsRuns = false) ∧
    (∃ (s : State) (h : HostId) (table : Fin 8), s.opens h R.PDS_CMD 0 0 = true ∧ s.bit F.PDS_CMD_STAT_BUSY = false ∧ s.loaded = true ∧ (↑table : Nat) < 5 ∧ s.get F.PDS_INDEX_INDEX < pdsEntries (↑table : Nat) ∧ ((s.pdsWrite (↑table : Nat) (s.get F.PDS_INDEX_INDEX) (List.foldl (fun (a : Nat) (e : Word × Nat) => a + BitVec.toNat e.1 * 2 ^ (32 * e.2)) 0 (List.map (fun (j : Nat) => s.reg R.PDS_DATA j) (List.range 6)).zipIdx)).1 = 0) ∧ s.pdsRuns = true) ∧
    (∃ (s : State) (h : HostId) (table : Fin 8), s.opens h R.PDS_CMD 0 0 = true ∧ s.bit F.PDS_CMD_STAT_BUSY = false ∧ s.loaded = true ∧ (↑table : Nat) < 5 ∧ s.get F.PDS_INDEX_INDEX < pdsEntries (↑table : Nat) ∧ ((s.pdsWrite (↑table : Nat) (s.get F.PDS_INDEX_INDEX) (List.foldl (fun (a : Nat) (e : Word × Nat) => a + BitVec.toNat e.1 * 2 ^ (32 * e.2)) 0 (List.map (fun (j : Nat) => s.reg R.PDS_DATA j) (List.range 6)).zipIdx)).1 = 3)) ∧
    (∃ (s : State) (c : WinCmd), s.pds.cmd = some c) :=
  ⟨⟨(device 1).put F.PDS_INDEX_INDEX 511, .ha, 4, by decide +kernel⟩,
    ⟨(device 1).put F.PDS_INDEX_INDEX 4095, .ha, 0, by decide +kernel⟩,
    ⟨((device 1).put F.PDS_INDEX_INDEX 63).put F.PDS_DATA_DATA 1 0, .ha, 2, by decide +kernel⟩,
    ⟨((device 1).put F.PDS_INDEX_INDEX 63).put F.PDS_STAT_RUNNING 1, .ha, 2, by decide +kernel⟩,
    ⟨((device 1).put F.PDS_INDEX_INDEX 1023).put F.PDS_STAT_RUNNING 1, .ha, 3, by decide +kernel⟩,
    ⟨{ (device 1).put F.PDS_CMD_STAT_BUSY 1 with pds := { cmd := some { word := 0x41, index := 511, data := [], host := 0 }, links := [(511, { img := 77 })] } }, { word := 0x41, index := 511, data := [], host := 0 }, by decide +kernel⟩⟩

/-- The premises of CounterGroups can hold, clause by clause. -/
theorem witness_CounterGroups :
    (∃ (s : State) (h : HostId), s.opens h R.PMC_GRP_EN 0 0 = true) :=
  ⟨device 1, .ha, by decide +kernel⟩

/-- The premises of CountersTick can hold, clause by clause. -/
theorem witness_CountersTick :
    (∃ (s : State), s.pmc.clear = 0) ∧
    (∃ (s : State) (n : Nat), n < 512 ∧ s.pmc.clear.testBit (n / 64) = true ∧ s.pmc.eff.testBit (n / 64) = false) ∧
    (∃ (s : State) (h : HostId), s.opens h R.PMC_CMD 0 0 = true) ∧
    (∃ (s : State) (h : HostId), s.opens h R.PMC_CMD 0 0 = true) ∧
    (∃ (s : State) (h : HostId), s.opens h R.PMC_CMD 0 0 = true) ∧
    (∃ (s : State) (n : Fin 512), (↑n : Nat) ∈ s.pmc.wraps) ∧
    (∃ (s : State), s.mode ≠ modePEWTER ∧ s.pmc.clearLed = false) :=
  ⟨⟨{ device 1 with pmc := { eff := 255 } }, by decide +kernel⟩,
    ⟨{ device 1 with pmc := { eff := 127, clear := 128 } }, 511, by decide +kernel⟩,
    ⟨device 1, .ha, by decide +kernel⟩,
    ⟨device 1, .ha, by decide +kernel⟩,
    ⟨device 1, .ha, by decide +kernel⟩,
    ⟨{ device 1 with pmc := { wraps := [3, 511] } }, 511, by decide +kernel⟩,
    ⟨wired 1 71, by decide +kernel⟩⟩

/-- The premises of Dumps can hold, clause by clause. -/
theorem witness_Dumps :
    (∃ (s : State) (h : HostId), s.opens h R.PMC_DUMP_CFG 0 0 = true ∧ s.bit F.PMC_DUMP_CFG_EN = false) ∧
    (∃ (s : State) (n : Int), s.pmc.next = some n ∧ n ≤ s.now ∧ s.now < n + (↑(s.get F.PMC_DUMP_PERIOD_PERIOD) : Int) ∧ s.mode ≠ modePEWTER ∧ s.pmc.busy = false ∧ s.chState 15 = chRUN ∧ s.owned 15 ≠ 0) ∧
    (∃ (s : State) (n : Int), s.pmc.next = some n ∧ n ≤ s.now ∧ s.now < n + (↑(s.get F.PMC_DUMP_PERIOD_PERIOD) : Int) ∧ s.mode ≠ modePEWTER ∧ (s.pmc.busy = true ∨ s.chState 15 ≠ chRUN ∨ s.owned 15 = 0)) ∧
    (∃ (s : State), s.pmc.busy = true ∧ s.pmc.ended = true) :=
  ⟨⟨device 1, .ha, by decide +kernel⟩,
    ⟨{ ((((device 1).put F.PMC_DUMP_PERIOD_PERIOD 1000).put F.DMA_CH_STAT_STATE 1 15).put F.DMA_CH_CFG_SIZE 4 15).put F.DMA_CH_TAIL_TAIL 1 15 with pmc := { next := some 0 } }, 0, by decide +kernel⟩,
    ⟨{ (device 1).put F.PMC_DUMP_PERIOD_PERIOD 1000 with pmc := { next := some 0 } }, 0, by decide +kernel⟩,
    ⟨{ device 1 with pmc := { busy := true, ended := true } }, by decide +kernel⟩⟩

/-- The premises of ImageLoading can hold, clause by clause. -/
theorem witness_ImageLoading :
    (∃ (s : State), s.imgState = imgDISCOVER ∧ s.episode = false ∧ s.bit F.IMG_STAT_BOOT_HOST = true) ∧
    (∃ (s : State), s.imgState = imgDISCOVER ∧ s.episode = false ∧ s.bit F.IMG_STAT_BOOT_HOST = false) ∧
    (∃ (s : State), s.imgState = imgFLASH ∧ s.episode = false) ∧
    (∃ (s : State) (b : List Byte), s.imgState = imgFLASH ∧ s.episode = false ∧ 4 ≤ b.length ∧ beAt b 0 4 ≠ 1481198919) ∧
    (∃ (s : State) (b : List Byte) (u : State) (v : State), s.imgState = imgFLASH ∧ s.episode = false ∧
      u = (s.setImg { s.img with bytes := b.take (max 12 (imgTotal b)) }).put F.IMG_COUNT_BYTES (min b.length (imgTotal b)) ∧
      u.imgJudge u.img.bytes = .done v) ∧
    (∃ (s : State) (h : HostId), s.opens h R.IMG_CTRL 0 0 = true ∧ s.imgState = imgWAIT_HOST ∧ s.bit F.IMG_FUSE_STAT_BUSY = false) ∧
    (∃ (s : State) (h : HostId), s.opens h R.IMG_CTRL 0 0 = true ∧ s.imgState = imgHOST ∧ s.get F.IMG_STAT_HOST = hostNum h ∧ s.get F.IMG_STAT_SRC = 3) ∧
    (∃ (s : State) (h : HostId), s.opens h R.IMG_CTRL 0 0 = true ∧ s.imgState = imgHOST ∧ s.get F.IMG_STAT_HOST ≠ hostNum h) ∧
    (∃ (s : State) (k : Nat) (b : List Byte) (l : List (Nat × List Byte)), s.img.inbox = (k, b) :: l ∧ (s.imgState ≠ imgHOST ∨ s.get F.IMG_STAT_HOST ≠ k)) ∧
    (∃ (s : State) (k : Nat) (b : List Byte) (l : List (Nat × List Byte)), s.img.inbox = (k, b) :: l ∧ s.imgState = imgHOST ∧ s.get F.IMG_STAT_HOST = k ∧ (s.img.bytes ++ b).length ≤ 8388608 ∧ ((s.img.bytes ++ b).length < 12 ∨ (s.img.bytes ++ b).length ≤ imgTotal (s.img.bytes ++ b))) ∧
    (∃ (s : State), s.imgState = imgHOST ∧ s.get F.IMG_STAT_SRC = 3 ∧ s.img.lastByte + 500000000 ≤ s.inv.ticks) ∧
    (∃ (s : State), s.imgState = imgVERIFY ∧ s.episode = false) ∧
    (∃ (s : State), s.imgState = imgCLEAR ∧ s.episode = false ∧ s.img.next ∈ [imgFLASH, imgWAIT_HOST]) ∧
    (∃ (s : State), s.imgState = imgRELEASE ∧ s.episode = false) :=
  ⟨⟨(loader 0).put F.IMG_STAT_BOOT_HOST 1, by decide +kernel⟩,
    ⟨loader 0, by decide +kernel⟩,
    ⟨(loader 1).put F.IMG_STAT_SRC 2, by decide +kernel⟩,
    ⟨(loader 1).put F.IMG_STAT_SRC 1, [0x58, 0x49, 0x4D, 0x46], by decide +kernel⟩,
    by
      obtain ⟨v, hv⟩ := image_judged
      exact ⟨(loader 1).put F.IMG_STAT_SRC 1, image0, _, v, by decide +kernel, by decide +kernel, rfl, hv⟩,
    ⟨loader 4, .hb, by decide +kernel⟩,
    ⟨((loader 5).put F.IMG_STAT_HOST 1).put F.IMG_STAT_SRC 3, .hb, by decide +kernel⟩,
    ⟨(loader 5).put F.IMG_STAT_HOST 1, .ha, by decide +kernel⟩,
    ⟨{ (loader 5).put F.IMG_STAT_HOST 1 with img := { inbox := [(0, [1])] } }, 0, [1], [], by decide +kernel⟩,
    ⟨{ ((loader 5).put F.IMG_STAT_HOST 1).put F.IMG_STAT_SRC 3 with img := { inbox := [(1, [0x58])] } }, 1, [0x58], [], by decide +kernel⟩,
    ⟨{ ((loader 5).put F.IMG_STAT_HOST 1).put F.IMG_STAT_SRC 3 with inv := { ticks := 500000000 } }, by decide +kernel⟩,
    ⟨(loader 2).put F.IMG_STAT_SRC 3, by decide +kernel⟩,
    ⟨{ loader 3 with img := { next := 1 } }, by decide +kernel⟩,
    ⟨{ loader 6 with img := { bytes := image0 } }, by decide +kernel⟩⟩

/-- The premises of FusesAndPatches can hold, clause by clause. -/
theorem witness_FusesAndPatches :
    (∃ (s : State) (h : HostId) (word : Fin 64) (vpp : Bool), s.opens h R.IMG_FUSE_CMD 0 0 = true ∧ s.bit F.IMG_FUSE_STAT_BUSY = false ∧ s.mode = modeLOAD ∧ s.imgState ∈ [imgWAIT_HOST, imgDONE] ∧ vpp = true ∧ (↑word : Nat) < 39) ∧
    (∃ (s : State) (h : HostId) (word : Fin 64) (vpp : Bool), s.opens h R.IMG_FUSE_CMD 0 0 = true ∧ s.bit F.IMG_FUSE_STAT_BUSY = false ∧ (s.mode ≠ modeLOAD ∨ s.imgState ∉ [imgWAIT_HOST, imgDONE] ∨ vpp = false ∨ 39 ≤ (↑word : Nat))) ∧
    (∃ (s : State) (w : Nat) (bits : Word), s.img.fusing = some (w, bits)) ∧
    (∃ (s : State) (h : HostId), s.opens h R.IMG_CFG 0 0 = true ∧ s.img.patchLocked = false) ∧
    (∃ (s : State) (h : HostId), s.opens h R.IMG_CFG 0 0 = true ∧ s.img.patchLocked = true) ∧
    (∃ (s : State) (h : HostId) (nwords : Fin 32) (words : List Word) (w0 : Nat) (addr : Nat) (st : Nat), s.opens h R.IMG_PATCH_CMD 0 0 = true ∧ s.bit F.IMG_PATCH_STAT_BUSY = false ∧ (words = List.map (fun (i : Nat) => s.reg R.IMG_PATCH_DATA i) (List.range (Min.min (↑nwords : Nat) 16))) ∧ w0 = BitVec.toNat (s.reg R.IMG_PATCH_DATA) ∧ addr = BitVec.toNat (s.reg R.IMG_PATCH_DATA 1) ∧ s.patchStatus (↑nwords : Nat) w0 addr (List.drop 2 words) = st ∧ st ≠ 0) ∧
    (∃ (s : State) (h : HostId) (nwords : Fin 32) (words : List Word) (w0 : Nat) (addr : Nat) (u : State) (v : State), s.opens h R.IMG_PATCH_CMD 0 0 = true ∧ s.bit F.IMG_PATCH_STAT_BUSY = false ∧ (words = List.map (fun (i : Nat) => s.reg R.IMG_PATCH_DATA i) (List.range (Min.min (↑nwords : Nat) 16))) ∧ w0 = BitVec.toNat (s.reg R.IMG_PATCH_DATA) ∧ addr = BitVec.toNat (s.reg R.IMG_PATCH_DATA 1) ∧ u = s.setReg R.IMG_PATCH_CMD (s.reg R.IMG_PATCH_CMD &&& ~~~65311 ||| keyWord (↑nwords : Nat)) ∧ s.patchStatus (↑nwords : Nat) w0 addr (List.drop 2 words) = 0 ∧ s.mode = modeLOAD ∧ u.recordApply (sectionOf (w0 / 2 ^ 24) (w0 / 2 ^ 16 % 256) addr) (w0 / 2 ^ 24) (w0 / 2 ^ 16 % 256) (w0 % 2 ^ 16) addr (List.drop 2 words) = some v ∧ v.imgChecks (s.bit F.IMG_INFO_FORERUNNER) = true) ∧
    (∃ (s : State) (h : HostId) (nwords : Fin 32) (words : List Word) (w0 : Nat) (addr : Nat) (u : State) (v : State) (r : LkpRes), s.opens h R.IMG_PATCH_CMD 0 0 = true ∧ s.bit F.IMG_PATCH_STAT_BUSY = false ∧ (words = List.map (fun (i : Nat) => s.reg R.IMG_PATCH_DATA i) (List.range (Min.min (↑nwords : Nat) 16))) ∧ w0 = BitVec.toNat (s.reg R.IMG_PATCH_DATA) ∧ addr = BitVec.toNat (s.reg R.IMG_PATCH_DATA 1) ∧ u = s.setReg R.IMG_PATCH_CMD (s.reg R.IMG_PATCH_CMD &&& ~~~65311 ||| keyWord (↑nwords : Nat)) ∧ s.patchStatus (↑nwords : Nat) w0 addr (List.drop 2 words) = 0 ∧ s.mode ≠ modeLOAD ∧ u.lkpDo 2 (w0 / 2 ^ 16 % 256 - 16) addr false (unitNat (List.drop 2 words)) = (r, v) ∧ r.status = 0) :=
  ⟨⟨loader 4, .ha, 38, true, by decide +kernel⟩,
    ⟨loader 4, .ha, 39, true, by decide +kernel⟩,
    ⟨{ (loader 4).put F.IMG_FUSE_STAT_BUSY 1 with img := { fuses := [(38, 0xF0)], fusing := some (38, 0x0F) } }, 38, 0x0F, by decide +kernel⟩,
    ⟨(device 0).put F.IMG_INFO_ALLOW_PATCH 1, .ha, by decide +kernel⟩,
    ⟨{ device 0 with img := { patchLocked := true } }, .ha, by decide +kernel⟩,
    ⟨device 0, .ha, 31, List.replicate 16 0, 0, 0, 1, by decide +kernel⟩,
    ⟨patching 0 [0x01000001, BitVec.ofNat 32 R.SWC_QLIM.base, 5], .ha, 3, [0x01000001, BitVec.ofNat 32 R.SWC_QLIM.base, 5], 0x01000001, R.SWC_QLIM.base, patchWord (patching 0 [0x01000001, BitVec.ofNat 32 R.SWC_QLIM.base, 5]) 3, ((patchWord (patching 0 [0x01000001, BitVec.ofNat 32 R.SWC_QLIM.base, 5]) 3).recordApply 5 1 0 1 R.SWC_QLIM.base [5]).getD {}, by decide +kernel⟩,
    ⟨patching 1 [0x02110002, 5, 1, 0], .ha, 4, [0x02110002, 5, 1, 0], 0x02110002, 5, patchWord (patching 1 [0x02110002, 5, 1, 0]) 4, ((patchWord (patching 1 [0x02110002, 5, 1, 0]) 4).lkpDo 2 1 5 false 1).2, ((patchWord (patching 1 [0x02110002, 5, 1, 0]) 4).lkpDo 2 1 5 false 1).1, by decide +kernel⟩⟩

/-- The premises of DmaChannels can hold, clause by clause. -/
theorem witness_DmaChannels :
    (∃ (s : State) (h : HostId) (n : Fin 16), s.opens h R.DMA_CH_CTRL (↑n : Nat) 0 = true ∧ s.chState (↑n : Nat) = chIDLE ∧ (14 ≤ (↑n : Nat) ∨ s.chMode (↑n : Nat) ≠ 3) ∧ (s.dch (↑n : Nat)).owed = none) ∧
    (∃ (s : State) (h : HostId) (n : Fin 16) (d : BitVec 256) (st : Nat) (info : Nat), s.opens h R.DMA_CH_CTRL (↑n : Nat) 0 = true ∧ s.chState (↑n : Nat) = chIDLE ∧ (14 ≤ (↑n : Nat) ∨ s.chMode (↑n : Nat) ≠ 3) ∧ (s.dch (↑n : Nat)).owed = some (d, st, info)) ∧
    (∃ (s : State) (h : HostId) (n : Fin 16), s.opens h R.DMA_CH_CTRL (↑n : Nat) 0 = true ∧ s.chState (↑n : Nat) = chSTOPPED ∧ s.get F.DMA_CH_STAT_CAUSE (↑n : Nat) = 2 ∧ s.bit F.DMA_ERR_VALID = true) ∧
    (∃ (s : State) (h : HostId) (n : Fin 16), s.opens h R.DMA_CH_CTRL (↑n : Nat) 0 = true ∧ s.chState (↑n : Nat) = chRUN) ∧
    (∃ (s : State) (h : HostId) (n : Fin 16), s.opens h R.DMA_CH_CTRL (↑n : Nat) 0 = true ∧ s.chState (↑n : Nat) ≠ chRUN) ∧
    (∃ (s : State) (h : HostId) (n : Fin 16), s.opens h R.DMA_CH_CTRL (↑n : Nat) 0 = true ∧ s.chState (↑n : Nat) = chPAUSED ∧ ((s.dch (↑n : Nat)).started = true ∨ (s.dch (↑n : Nat)).descs = [])) ∧
    (∃ (s : State) (h : HostId) (n : Fin 16), s.opens h R.DMA_CH_CTRL (↑n : Nat) 0 = true ∧ (s.chState (↑n : Nat) = chPAUSED ∨ s.chState (↑n : Nat) = chSTOPPED) ∧ (s.dch (↑n : Nat)).fid = none ∧ (s.dch (↑n : Nat)).committed = false) ∧
    (∃ (s : State) (n : Fin 16), s.chState (↑n : Nat) = chPAUSING) ∧
    (∃ (s : State) (h : HostId) (n : Fin 16), s.opens h R.DMA_CH_TAIL (↑n : Nat) 0 = true) ∧
    (∃ (s : State) (n : Fin 16) (ds : List (BitVec 256)), s.chState (↑n : Nat) = chRUN ∧ (↑n : Nat) ≠ 14 ∧ ds.length ≤ 4 ∧ (s.dch (↑n : Nat)).descs.length + ds.length ≤ s.owned (↑n : Nat) ∧ (s.dch (↑n : Nat)).started = true) ∧
    (∃ (s : State) (n : Fin 16) (ds : List (BitVec 256)) (d : BitVec 256) (l : List (BitVec 256)), s.chState (↑n : Nat) = chRUN ∧ (↑n : Nat) ≠ 14 ∧ ds.length ≤ 4 ∧ (s.dch (↑n : Nat)).descs.length + ds.length ≤ s.owned (↑n : Nat) ∧ (s.dch (↑n : Nat)).descs = [] ∧ (s.dch (↑n : Nat)).started = false ∧ s.mayProcess (↑n : Nat) = true ∧ ds = d :: l ∧ s.descBad (↑n : Nat) d = true) ∧
    (∃ (s : State) (n : Fin 16) (ds : List (BitVec 256)) (d : BitVec 256) (l : List (BitVec 256)), s.chState (↑n : Nat) = chRUN ∧ (↑n : Nat) ≠ 14 ∧ ds.length ≤ 4 ∧ (s.dch (↑n : Nat)).descs.length + ds.length ≤ s.owned (↑n : Nat) ∧ (s.dch (↑n : Nat)).descs = [] ∧ (s.dch (↑n : Nat)).started = false ∧ s.mayProcess (↑n : Nat) = true ∧ ds = d :: l ∧ s.descBad (↑n : Nat) d = false ∧ s.descCheck d = none) ∧
    (∃ (s : State) (n : Fin 16) (ds : List (BitVec 256)) (d : BitVec 256) (l : List (BitVec 256)) (st : Nat), s.chState (↑n : Nat) = chRUN ∧ (↑n : Nat) ≠ 14 ∧ ds.length ≤ 4 ∧ (s.dch (↑n : Nat)).descs.length + ds.length ≤ s.owned (↑n : Nat) ∧ (s.dch (↑n : Nat)).descs = [] ∧ (s.dch (↑n : Nat)).started = false ∧ s.mayProcess (↑n : Nat) = true ∧ ds = d :: l ∧ s.descBad (↑n : Nat) d = false ∧ s.descCheck d = some st) ∧
    (∃ (s : State) (n : Fin 16) (d : BitVec 256) (data : List Byte), s.active (↑n : Nat) = some d ∧ dType d = 1 ∧ db d 99 96 = 0 ∧ (s.dch (↑n : Nat)).moved + data.length ≤ dLen d) ∧
    (∃ (s : State) (n : Fin 16) (d : BitVec 256) (k : Nat), s.active (↑n : Nat) = some d ∧ dType d = 2 ∧ db d 99 96 = 0 ∧ (s.dch (↑n : Nat)).moved + k ≤ dLen d) ∧
    (∃ (s : State) (n : Fin 16) (d : BitVec 256) (data : List Byte) (c : Instr), s.active (↑n : Nat) = some d ∧ (dType d, c) ∈ [(3, Instr.txSw n data), (4, Instr.txDir n data), (5, Instr.txLaunch n data)] ∧ data ≠ [] ∧ (s.dch (↑n : Nat)).moved + data.length < dLen d) ∧
    (∃ (s : State) (n : Fin 16) (d : BitVec 256) (data : List Byte) (c : Instr), s.active (↑n : Nat) = some d ∧ (dType d, c) ∈ [(3, Instr.txSw n data), (4, Instr.txDir n data), (5, Instr.txLaunch n data)] ∧ data ≠ [] ∧ (s.dch (↑n : Nat)).moved < dLen d ∧ dLen d ≤ (s.dch (↑n : Nat)).moved + data.length) ∧
    (∃ (s : State) (n : Fin 16) (d : BitVec 256) (st : Nat) (info : Nat), (s.dch (↑n : Nat)).descs = [d] ∧ (s.dch (↑n : Nat)).result = some (st, info) ∧ s.chState (↑n : Nat) ∈ [chRUN, chPAUSING] ∧ (dType d = 1 → db d 99 96 = 2 → s.img.inbox = []) ∧ s.verifies = false) ∧
    (∃ (s : State) (h : HostId) (write : Bool) (m : Nat), m < 16 ∧ s.chHost m = hostNum h ∧ s.beatReady m write = true) ∧
    (∃ (s : State), (∀ n < 16, (s.dch n).fid = none ∨ (s.dch n).committed = true)) ∧
    (∃ (s : State) (n : Fin 16) (k : Nat) (d : BitVec 256) (f : Frame) (list : Nat) (c : Copy), s.active (↑n : Nat) = some d ∧ dType d = 6 ∧ (s.dch (↑n : Nat)).copy = some (list, c) ∧ s.frame c.fid = some f ∧ (0 < (s.dch (↑n : Nat)).moved ∨ db d 157 157 = if (s.dch (↑n : Nat)).handle.isSome = true then 1 else 0) ∧ (s.dch (↑n : Nat)).moved + k < Min.min (stored f).length (dLen d)) ∧
    (∃ (s : State) (n : Fin 16) (k : Nat) (d : BitVec 256) (f : Frame) (list : Nat) (c : Copy), s.active (↑n : Nat) = some d ∧ dType d = 6 ∧ (s.dch (↑n : Nat)).copy = some (list, c) ∧ s.frame c.fid = some f ∧ (0 < (s.dch (↑n : Nat)).moved ∨ db d 157 157 = if (s.dch (↑n : Nat)).handle.isSome = true then 1 else 0) ∧ (s.dch (↑n : Nat)).moved ≤ Min.min (stored f).length (dLen d) ∧ Min.min (stored f).length (dLen d) ≤ (s.dch (↑n : Nat)).moved + k) ∧
    (∃ (s : State) (n : Fin 16) (k : Nat) (d : BitVec 256) (b : List Byte) (l : Nat), s.active (↑n : Nat) = some d ∧ dType d = 6 ∧ (s.dch (↑n : Nat)).copy = none ∧ (s.dch (↑n : Nat)).again = some (b, l) ∧ (0 < (s.dch (↑n : Nat)).moved ∨ db d 157 157 = if (s.dch (↑n : Nat)).handle.isSome = true then 1 else 0) ∧ (s.dch (↑n : Nat)).moved + k < Min.min b.length (dLen d)) ∧
    (∃ (s : State) (n : Fin 16) (k : Nat) (d : BitVec 256) (f : Frame) (q : Nat) (c : Copy), s.active (↑n : Nat) = some d ∧ dType d = 6 ∧ (s.dch (↑n : Nat)).copy = none ∧ (s.dch (↑n : Nat)).again = none ∧ s.chState (↑n : Nat) = chRUN ∧ db d 157 157 = 0 ∧ s.rxQueue (↑n : Nat) = some q ∧ (s.takeSound (592 + q)).1 = some c ∧ s.list (592 + q) = [c] ∧ (s.takeSound (592 + q)).2.frame c.fid = some f ∧ (s.dch (↑n : Nat)).moved + k < Min.min (stored f).length (dLen d)) :=
  ⟨⟨device 1, .ha, 15, by decide +kernel⟩,
    ⟨channel 0 1 13 { owed := some (desc 3 64, 0, 7) }, .hb, 13, desc 3 64, 0, 7, by decide +kernel⟩,
    ⟨(((device 1).put F.DMA_CH_STAT_STATE 4 13).put F.DMA_CH_STAT_CAUSE 2 13).put F.DMA_ERR_VALID 1, .ha, 13, by decide +kernel⟩,
    ⟨channel 1 0 13 {}, .ha, 13, by decide +kernel⟩,
    ⟨channel 2 0 13 {}, .ha, 13, by decide +kernel⟩,
    ⟨channel 3 0 13 {}, .ha, 13, by decide +kernel⟩,
    ⟨channel 3 0 13 { started := true, descs := [desc 1 64] }, .ha, 13, by decide +kernel⟩,
    ⟨channel 2 0 13 {}, 13, by decide +kernel⟩,
    ⟨device 1, .ha, 14, by decide +kernel⟩,
    ⟨channel 1 0 13 { started := true, descs := [desc 1 64] }, 13, [desc 1 64, desc 1 64, desc 1 64], by decide +kernel⟩,
    ⟨channel 1 0 13 {}, 13, [desc 7 64, desc 1 64], desc 7 64, [desc 1 64], by decide +kernel⟩,
    ⟨channel 1 0 13 {}, 13, [desc 1 64, desc 1 64], desc 1 64, [desc 1 64], by decide +kernel⟩,
    ⟨channel 1 1 13 {}, 13, [desc 3 59], desc 3 59, [], 5, by decide +kernel⟩,
    ⟨channel 1 0 13 { started := true, descs := [desc 1 3] }, 13, desc 1 3, [1, 2], by decide +kernel⟩,
    ⟨channel 1 0 13 { started := true, descs := [desc 2 3] }, 13, desc 2 3, 2, by decide +kernel⟩,
    ⟨{ channel 1 1 13 { started := true, fid := some 0, descs := [desc 3 60] } with frames := [(0, some { frame0 72 with origin := .hostSw 13 })] }, 13, desc 3 60, [1, 2], .txSw 13 [1, 2], by decide +kernel⟩,
    ⟨channel 1 1 13 { started := true, descs := [desc 4 60] }, 13, desc 4 60, List.replicate 60 1, .txDir 13 (List.replicate 60 1), by decide +kernel⟩,
    ⟨channel 1 0 13 { started := true, descs := [desc 1 3 ||| (BitVec.ofNat 256 (2^156))], moved := 3, result := some (5, 9) }, 13, desc 1 3 ||| (BitVec.ofNat 256 (2^156)), 5, 9, by decide +kernel⟩,
    ⟨channel 1 0 13 { started := true, descs := [desc 1 3] }, .ha, false, 13, by decide +kernel⟩,
    ⟨channel 1 0 13 { started := true, descs := [desc 2 3] }, by decide +kernel⟩,
    ⟨{ channel 1 2 13 { started := true, descs := [desc 6 64], copy := some (592, copy0) } with frames := [(0, some (doneFrame 1))] }, 13, 63, desc 6 64, doneFrame 1, 592, copy0, by decide +kernel⟩,
    ⟨{ channel 1 2 13 { started := true, descs := [desc 6 64], copy := some (592, copy0), moved := 1 } with frames := [(0, some (doneFrame 1))] }, 13, 63, desc 6 64, doneFrame 1, 592, copy0, by decide +kernel⟩,
    ⟨channel 1 2 13 { started := true, descs := [desc 6 64], again := some ([1, 2, 3], 3) }, 13, 2, desc 6 64, [1, 2, 3], 3, by decide +kernel⟩,
    ⟨{ (channel 1 2 13 { started := true, descs := [desc 6 64] }).put F.DMA_CH_CFG_QMASK 1 13 with frames := [(0, some (doneFrame 1))], swc := { lists := [(592, [copy0])] } }, 13, 63, desc 6 64, doneFrame 1, 0, copy0, by decide +kernel⟩⟩

/-- The premises of BufferPools can hold, clause by clause. -/
theorem witness_BufferPools :
    (∃ (s : State) (h : HostId) (k : Nat) (i : Nat) (l : List Nat) (arg : Nat) (names : List Nat), s.opens h R.BPM_CMD 0 0 = true ∧ s.bit F.BPM_CMD_STAT_BUSY (hostNum h) = false ∧ arg = s.get F.BPM_ARG_ARG (hostNum h) ∧ arg ≠ 0 ∧ names = ownerList (wordNames (s.reg R.BPM_OWNERS (hostNum h))) ∧ names ≠ [] ∧ names.all nameOk = true ∧ s.servingPool arg userHOST none = some k ∧ (s.pool k).cache = i :: l ∧ i < 2 ^ 21 ∧ (s.underTest 3 = false ∨ s.poolHost k = true)) ∧
    (∃ (s : State) (h : HostId) (k : Nat) (arg : Nat) (names : List Nat), s.opens h R.BPM_CMD 0 0 = true ∧ s.bit F.BPM_CMD_STAT_BUSY (hostNum h) = false ∧ arg = s.get F.BPM_ARG_ARG (hostNum h) ∧ arg ≠ 0 ∧ names = ownerList (wordNames (s.reg R.BPM_OWNERS (hostNum h))) ∧ names ≠ [] ∧ names.all nameOk = true ∧ s.servingPool arg userHOST none = some k ∧ (s.pool k).cache = []) ∧
    (∃ (s : State) (h : HostId) (a : Nat) (kind : Nat), s.opens h R.BPM_CMD 0 0 = true ∧ s.bit F.BPM_CMD_STAT_BUSY (hostNum h) = false ∧ a = s.get F.BPM_ARG_ARG (hostNum h) % 2 ^ 24 ∧ s.rejectKind a (hostNum h + 1) = some kind) ∧
    (∃ (s : State) (h : HostId) (a : Nat) (l : List Nat), s.opens h R.BPM_CMD 0 0 = true ∧ s.bit F.BPM_CMD_STAT_BUSY (hostNum h) = false ∧ a = s.get F.BPM_ARG_ARG (hostNum h) % 2 ^ 24 ∧ s.handleUnknown a = false ∧ s.owners a = some l ∧ hostNum h + 1 ∈ l ∧ (List.filter (fun (n : Nat) => n != hostNum h + 1) l ≠ [])) ∧
    (∃ (s : State) (h : HostId) (a : Nat) (l : List Nat), s.opens h R.BPM_CMD 0 0 = true ∧ s.bit F.BPM_CMD_STAT_BUSY (hostNum h) = false ∧ a = s.get F.BPM_ARG_ARG (hostNum h) % 2 ^ 24 ∧ s.handleUnknown a = false ∧ s.owners a = some l ∧ hostNum h + 1 ∈ l ∧ (List.filter (fun (n : Nat) => n != hostNum h + 1) l = []) ∧ (s.pool (handlePool a)).cache.length < 32 ∧ (s.pool (handlePool a)).lost = false) ∧
    (∃ (s : State) (h : HostId) (a : Nat) (l : List Nat) (n : Nat) (rest : List Nat), s.opens h R.BPM_CMD 0 0 = true ∧ s.bit F.BPM_CMD_STAT_BUSY (hostNum h) = false ∧ a = s.get F.BPM_ARG_ARG (hostNum h) % 2 ^ 24 ∧ s.handleUnknown a = false ∧ s.owners a = some l ∧ wordNames (s.reg R.BPM_OWNERS (hostNum h)) = n :: rest ∧ nameOk n = true ∧ hostNum h + 1 ∈ l ∧ n ∉ l ∧ l.length < 4) ∧
    (∃ (s : State) (h : HostId) (a : Nat) (l : List Nat) (n : Nat) (rest : List Nat), s.opens h R.BPM_CMD 0 0 = true ∧ s.bit F.BPM_CMD_STAT_BUSY (hostNum h) = false ∧ a = s.get F.BPM_ARG_ARG (hostNum h) % 2 ^ 24 ∧ s.handleUnknown a = false ∧ s.owners a = some l ∧ wordNames (s.reg R.BPM_OWNERS (hostNum h)) = n :: rest ∧ nameOk n = true ∧ hostNum h + 1 ∈ l ∧ n ∉ l ∧ 4 ≤ l.length) ∧
    (∃ (s : State) (h : HostId) (a : Nat) (l : List Nat), s.opens h R.BPM_CMD 0 0 = true ∧ s.bit F.BPM_CMD_STAT_BUSY (hostNum h) = false ∧ a = s.get F.BPM_ARG_ARG (hostNum h) % 2 ^ 24 ∧ s.handleUnknown a = false ∧ s.owners a = some l) ∧
    (∃ (s : State) (h : HostId) (k : Fin 8), s.opens h R.BPM_POOL_CFG (↑k : Nat) 0 = true ∧ s.poolHost (↑k : Nat) = true ∧ s.bit F.BPM_POOL_CFG_EN (↑k : Nat) = false ∧ s.poolCount (↑k : Nat) ≠ 0) ∧
    (∃ (s : State) (k : Fin 8), (s.pool (↑k : Nat)).init = true ∧ s.dma14Runs = true) ∧
    (∃ (s : State) (k : Fin 8) (data : List Word), (s.pool (↑k : Nat)).cache.length < 8 ∧ 0 < (s.pool (↑k : Nat)).count ∧ (s.pool (↑k : Nat)).lost = false ∧ (s.poolHost (↑k : Nat) = false ∨ s.dma14Runs = true ∧ data.length = Min.min 16 (s.pool (↑k : Nat)).count)) ∧
    (∃ (s : State) (k : Fin 8), 24 < (s.pool (↑k : Nat)).cache.length ∧ (s.poolHost (↑k : Nat) = false ∨ s.dma14Runs = true) ∧ (s.pool (↑k : Nat)).waits = []) :=
  ⟨⟨((pool7 [9] []).put F.BPM_ARG_ARG 64 1).setReg R.BPM_OWNERS 0x8740 1, .hb, 7, 9, [], 64, [0x40, 0x87], by decide +kernel⟩,
    ⟨((pool7 [] []).put F.BPM_ARG_ARG 64 1).setReg R.BPM_OWNERS 1 1, .hb, 7, 64, [1], by decide +kernel⟩,
    ⟨pool7 [] [1], .hb, 7 * 2 ^ 21 + 5, 3, by decide +kernel⟩,
    ⟨pool7 [] [1, 2], .hb, 7 * 2 ^ 21 + 5, [1, 2], by decide +kernel⟩,
    ⟨pool7 (List.replicate 31 0) [2], .hb, 7 * 2 ^ 21 + 5, [2], by decide +kernel⟩,
    ⟨(pool7 [] [1, 2, 0x40]).setReg R.BPM_OWNERS 0x87 1, .hb, 7 * 2 ^ 21 + 5, [1, 2, 0x40], 0x87, [0, 0, 0], by decide +kernel⟩,
    ⟨(pool7 [] [1, 2, 0x40, 0x41]).setReg R.BPM_OWNERS 0x87 1, .hb, 7 * 2 ^ 21 + 5, [1, 2, 0x40, 0x41], 0x87, [0, 0, 0], by decide +kernel⟩,
    ⟨pool7 [] [1, 2, 0x40, 0x41], .hb, 7 * 2 ^ 21 + 5, [1, 2, 0x40, 0x41], by decide +kernel⟩,
    ⟨((device 1).put F.BPM_POOL_CFG_COUNT 100 7).put F.BPM_POOL_CFG_PLACE 1 7, .ha, 7, by decide +kernel⟩,
    ⟨{ (device 1).put F.BPM_POOL_CFG_COUNT 100 7 with pools := [(7, { init := true })] }, 7, by decide +kernel⟩,
    ⟨pool7 [1] [2], 7, [], by decide +kernel⟩,
    ⟨pool7 (List.replicate 25 4) [], 7, by decide +kernel⟩⟩

/-- The premises of CaptureFifo can hold, clause by clause. -/
theorem witness_CaptureFifo :
    (∃ (s : State) (u : State) (l : Nat) (c : Copy) (f : Frame) (m : MirrorInfo), s.cff.job = none ∧ s.mode ≠ modePEWTER ∧ s.underTest 4 = false ∧ s.underTest 2 = false ∧ ((rotFind 8 s.cff.rr fun (m : Nat) => s.mirrorReady (584 + m)) = some l) ∧ s.takeHead (584 + l) = (some c, u) ∧ u.frame c.fid = some f ∧ c.mirror = some m) ∧
    (∃ (s : State) (k : Nat) (trailer : Nat) (r : CffRec), s.cff.job = some (k, trailer) ∧ s.cff.recs.getLast? = some r) ∧
    (∃ (s : State) (h : HostId), s.reaches h R.CFF_WINDOW 0 0 = true ∧ s.underTest 4 = false ∧ s.mode ≠ modePEWTER ∧ s.cffReadable = true) ∧
    (∃ (s : State) (h : HostId), s.reaches h R.CFF_WINDOW 0 0 = true ∧ s.underTest 4 = false ∧ s.mode ≠ modePEWTER ∧ s.cffReadable = false) ∧
    (∃ (s : State) (h : HostId), s.opens h R.CFF_MARK 0 0 = true) ∧
    (∃ (s : State) (h : HostId), s.opens h R.CFF_REWIND 0 0 = true ∧ s.bit F.CFF_STAT_MARK_VALID = true) ∧
    (∃ (s : State) (h : HostId), s.opens h R.CFF_REWIND 0 0 = true ∧ s.bit F.CFF_STAT_MARK_VALID = false) ∧
    (∃ (s : State) (h : HostId), s.opens h R.CFF_RELEASE 0 0 = true ∧ s.bit F.CFF_STAT_MARK_VALID = false) ∧
    (∃ (s : State) (h : HostId) (k : Fin 16) (data : Word), s.opens h R.CFF_SESS_CFG (↑k : Nat) 0 = true ∧ s.bit F.CFF_SESS_CFG_EN (↑k : Nat) = false ∧ (¬(getBits data 30 30 = 1 ∧ getBits data 29 29 = 1))) ∧
    (∃ (s : State) (h : HostId) (k : Fin 16) (data : Word), s.opens h R.CFF_SESS_CFG (↑k : Nat) 0 = true ∧ s.bit F.CFF_SESS_CFG_EN (↑k : Nat) = false ∧ getBits data 30 30 = 1 ∧ getBits data 29 29 = 1) :=
  ⟨⟨{ device 1 with frames := [(0, some (doneFrame 1))], swc := { lists := [(591, [{ copy0 with mirror := some mirror0 }])] } }, ((({ device 1 with frames := [(0, some (doneFrame 1))], swc := { lists := [(591, [{ copy0 with mirror := some mirror0 }])] } }) : State).takeHead 591).2, 7, { copy0 with mirror := some mirror0 }, ((((({ device 1 with frames := [(0, some (doneFrame 1))], swc := { lists := [(591, [{ copy0 with mirror := some mirror0 }])] } }) : State).takeHead 591).2).frame 0).getD (doneFrame 1), mirror0, by decide +kernel⟩,
    ⟨{ fifo 4 false with cff := { recs := [⟨0, 9, 4, false⟩], job := some (3, 5) } }, 3, 5, ⟨0, 9, 4, false⟩, by decide +kernel⟩,
    ⟨fifo 9 true, .ha, by decide +kernel⟩,
    ⟨fifo 8 false, .ha, by decide +kernel⟩,
    ⟨fifo 8 false, .ha, by decide +kernel⟩,
    ⟨((fifo 8 false).put F.CFF_STAT_MARK_VALID 1).put F.CFF_MPTR_INDEX 4, .hb, by decide +kernel⟩,
    ⟨fifo 8 false, .ha, by decide +kernel⟩,
    ⟨(fifo 9 true).put F.CFF_RPTR_INDEX 9, .ha, by decide +kernel⟩,
    ⟨device 1, .ha, 15, 0xA7000000, by decide +kernel⟩,
    ⟨device 1, .ha, 15, 0xE0000000, by decide +kernel⟩⟩

/-- The premises of ServiceSram can hold, clause by clause. -/
theorem witness_ServiceSram :
    (∃ (s : State) (h : HostId) (off : BitVec 24) (j : Nat) (a : Nat), s.opens h R.PDS_SRAM_WINDOW j 0 = true ∧ s.compact = false ∧ off.toNat = R.PDS_SRAM_WINDOW.base + 4 * j ∧ j < 16384 ∧ a = 65536 * s.get F.PDS_SRAM_PAGE_PAGE + 4 * j ∧ s.underTest 3 = false) ∧
    (∃ (s : State) (h : HostId) (off : BitVec 24) (j : Nat) (a : Nat), s.opens h R.PDS_SRAM_WINDOW j 0 = true ∧ s.compact = false ∧ off.toNat = R.PDS_SRAM_WINDOW.base + 4 * j ∧ j < 16384 ∧ a = 65536 * s.get F.PDS_SRAM_PAGE_PAGE + 4 * j ∧ s.underTest 3 = true) :=
  ⟨⟨(device 1).put F.PDS_SRAM_PAGE_PAGE 63, .ha, BitVec.ofNat 24 (R.PDS_SRAM_WINDOW.base + 65532), 16383, 65536 * 63 + 65532, by decide +kernel⟩,
    ⟨(((device 7).put F.GLB_MNT_STAT_BUSY 1).put F.GLB_MNT_STAT_OP 2).put F.GLB_MNT_STAT_MEM 3, .ha, BitVec.ofNat 24 R.PDS_SRAM_WINDOW.base, 0, 0, by decide +kernel⟩⟩

/-- The premises of TwinRoles can hold, clause by clause. -/
theorem witness_TwinRoles :
    (∃ (s : State), s.bit F.TWN_CTRL_EN = true ∧ s.role = roleOFF ∧ (s.mode = modeSCHEDULED ∨ s.mode = modeSERVICE) ∧ s.rst.due.testBit 5 = false) ∧
    (∃ (s : State) (h : HostId), s.opens h R.TWN_CTRL 0 0 = true ∧ s.role = roleACTIVE) ∧
    (∃ (s : State) (h : HostId), s.opens h R.TWN_CTRL 0 0 = true ∧ s.role ∈ [rolePAIRING, roleSYNC, roleSOLO] ∧ s.twn.held = []) ∧
    (∃ (s : State) (h : HostId), s.opens h R.TWN_CTRL 0 0 = true ∧ s.role ∈ [roleSHADOW, roleSTANDBY]) ∧
    (∃ (s : State), s.role = rolePAIRING ∧ s.twn.hbRecv = none ∧ s.twn.roleFrom + s.pairWait ≤ s.inv.ticks) ∧
    (∃ (s : State), s.role = roleSYNC ∧ s.twn.cut = none ∧ s.twn.roleFrom + s.pairWait ≤ s.inv.ticks) ∧
    (∃ (s : State) (key : BitVec 32), s.role = rolePAIRING ∧ key.toNat ≠ s.imgKey) ∧
    (∃ (s : State) (peer : Fin 8) (key : BitVec 32), s.role = rolePAIRING ∧ key.toNat = s.imgKey ∧ (↑peer : Nat) = roleSOLO) ∧
    (∃ (s : State) (peer : Fin 8) (key : BitVec 32), s.role = rolePAIRING ∧ key.toNat = s.imgKey ∧ (↑peer : Nat) = rolePAIRING ∧ s.twn.ordered = false ∧ s.get F.TWN_CTRL_SIDE = 0) ∧
    (∃ (s : State) (peer : Fin 8) (key : BitVec 32) (a : Option Align) (x : Align), s.role = rolePAIRING ∧ key.toNat = s.imgKey ∧ (↑peer : Nat) = rolePAIRING ∧ s.twn.ordered = false ∧ s.get F.TWN_CTRL_SIDE = 1 ∧ a = some x) ∧
    (∃ (s : State) (peer : Fin 8), s.role = roleSYNC ∧ (↑peer : Nat) ≠ roleSOLO) ∧
    (∃ (s : State) (peer : Fin 8), s.role = roleSOLO ∧ (↑peer : Nat) = roleSTANDBY) ∧
    (∃ (s : State) (peer : Fin 8), s.role ∈ [roleACTIVE, roleSOLO] ∧ (↑peer : Nat) ∈ [roleACTIVE, roleSOLO]) ∧
    (∃ (s : State) (c : Nat), s.role = roleSYNC ∧ s.twn.cut = some c) ∧
    (∃ (s : State) (c : CutCmd), c.op = 5 ∧ s.role = roleSYNC) ∧
    (∃ (s : State) (lseq : Byte) (c : CutCmd), c.op ≠ 5 ∧ tabGet 256 s.twn.lseqIn 6 ∈ [256, BitVec.toNat lseq]) ∧
    (∃ (s : State), s.role = roleSHADOW ∧ s.twn.cutTime + (↑s.lMax : Int) + 8000 ≤ s.now ∧ 64 ≤ s.twn.okRun) ∧
    (∃ (s : State) (t0 : Nat), s.twn.hbRecv = some t0 ∧ t0 + 384 ≤ s.inv.ticks ∧ s.role = roleSTANDBY) ∧
    (∃ (s : State) (t0 : Nat), s.twn.hbRecv = some t0 ∧ t0 + 384 ≤ s.inv.ticks ∧ s.role = roleACTIVE) ∧
    (∃ (s : State), s.bit F.TWN_STAT_LINK = true) ∧
    (∃ (s : State) (cause : Byte), s.role = roleACTIVE ∧ BitVec.toNat cause ≠ causeDIVERGED) ∧
    (∃ (s : State) (cause : Byte), s.isActive = true ∧ BitVec.toNat cause = causeDIVERGED) ∧
    (∃ (s : State), s.bit F.TWN_CTRL_FENCE_EN = true ∧ s.role ≠ roleOFF) ∧
    (∃ (s : State) (t0 : Nat), s.twn.twfO = some t0 ∧ t0 + 5000 ≤ s.inv.ticks) ∧
    (∃ (s : State) (h : HostId), s.opens h R.TWN_CMD 0 0 = true ∧ s.isActive = true ∧ s.bit F.TWN_STAT_LINK = true) ∧
    (∃ (s : State) (h : HostId), s.opens h R.TWN_CMD 0 0 = true ∧ s.isActive = false) ∧
    (∃ (s : State) (h : HostId), s.opens h R.TWN_CMD 0 0 = true ∧ s.role = roleACTIVE) ∧
    (∃ (s : State) (h : HostId), s.opens h R.TWN_CMD 0 0 = true ∧ s.role ≠ roleACTIVE) ∧
    (∃ (s : State) (h : HostId) (off : BitVec 24) (r : RegSpec) (i : Nat) (j : Nat), regAt off.toNat = some (r, i, j) ∧ mirrored r = true ∧ s.ignoresMirrored = true ∧ s.linked h = true ∧ s.gated off.toNat = false ∧ s.compact = false ∧ s.maskOk (hostNum h) off.toNat = true ∧ off.toNat % 4 = 0) :=
  ⟨⟨((twin 0).put F.TWN_CTRL_EN 1), by decide +kernel⟩,
    ⟨(twin 5).put F.TWN_CTRL_EN 1, .ha, by decide +kernel⟩,
    ⟨(twin 1).put F.TWN_CTRL_EN 1, .ha, by decide +kernel⟩,
    ⟨(twin 3).put F.TWN_CTRL_EN 1, .ha, by decide +kernel⟩,
    ⟨{ twin 1 with inv := { ticks := 65535 * 500000 } }, by decide +kernel⟩,
    ⟨{ twin 2 with inv := { ticks := 65535 * 500000 } }, by decide +kernel⟩,
    ⟨twin 1, BitVec.ofNat 32 ((twin 1).imgKey + 1), by decide +kernel⟩,
    ⟨twin 1, 6, BitVec.ofNat 32 (twin 1).imgKey, by decide +kernel⟩,
    ⟨twin 1, 1, BitVec.ofNat 32 (twin 1).imgKey, by decide +kernel⟩,
    ⟨(twin 1).put F.TWN_CTRL_SIDE 1, 1, BitVec.ofNat 32 (twin 1).imgKey, some ⟨7, [(1, 2, 3), (1, 2, 3), (1, 2, 3)], 1000000⟩, ⟨7, [(1, 2, 3), (1, 2, 3), (1, 2, 3)], 1000000⟩, by decide +kernel⟩,
    ⟨twin 2, 7, by decide +kernel⟩,
    ⟨twin 6, 4, by decide +kernel⟩,
    ⟨(twin 6).put F.TWN_CTRL_SIDE 1, 6, by decide +kernel⟩,
    ⟨{ twin 2 with twn := { cut := some 7 } }, 7, by decide +kernel⟩,
    ⟨twin 2, ⟨5, 0xFFFFFFFFFFFF⟩, by decide +kernel⟩,
    ⟨twin 4, 3, ⟨15, 0⟩, by decide +kernel⟩,
    ⟨{ twin 3 with twn := { okRun := 64 }, inv := { dom := [(0, { sec := 4 })] } }, by decide +kernel⟩,
    ⟨{ twin 4 with twn := { hbRecv := some 0 }, inv := { ticks := 384 } }, 0, by decide +kernel⟩,
    ⟨{ twin 5 with twn := { hbRecv := some 0 }, inv := { ticks := 384 } }, 0, by decide +kernel⟩,
    ⟨twin 5, by decide +kernel⟩,
    ⟨twin 5, 3, by decide +kernel⟩,
    ⟨twin 5, 4, by decide +kernel⟩,
    ⟨(twin 5).put F.TWN_CTRL_FENCE_EN 1, by decide +kernel⟩,
    ⟨{ twin 5 with twn := { twfO := some 0 }, inv := { ticks := 5000 } }, 0, by decide +kernel⟩,
    ⟨twin 6, .ha, by decide +kernel⟩,
    ⟨twin 4, .ha, by decide +kernel⟩,
    ⟨twin 5, .ha, by decide +kernel⟩,
    ⟨twin 6, .ha, by decide +kernel⟩,
    ⟨twin 4, .ha, BitVec.ofNat 24 (R.SWC_QLIM.off 615 0), R.SWC_QLIM, 615, 0, by decide +kernel⟩⟩

/-- The premises of TwinMessages can hold, clause by clause. -/
theorem witness_TwinMessages :
    (∃ (s : State), s.role ∉ [roleOFF, roleBAD] ∧ s.bit F.TWN_STAT_LINK = true ∧ (∀ t0 ∈ s.twn.hbSent, t0 + 128 ≤ s.inv.ticks)) ∧
    (∃ (s : State) (m : LinkMsg), s.bit F.TWN_STAT_LINK = true ∧ s.twn.linkFree ≤ s.elapsedPs ∧ s.twn.txq = [m] ∧ s.twn.tagsOut = [] ∧ m.type ≠ 7 ∧ m.arr = none ∧ s.twn.syncs = []) ∧
    (∃ (s : State) (lseq : Byte) (w : BitVec 64), s.isLogged = true ∧ s.twn.cut = none ∧ tabGet 256 s.twn.lseqIn 2 ∈ [256, BitVec.toNat lseq] ∧ s.tcc + 64 ≤ (s.readTag w.toNat).arr + 1875) ∧
    (∃ (s : State) (lseq : Byte) (w : BitVec 64), s.isLogged = true ∧ s.twn.cut = none ∧ tabGet 256 s.twn.lseqIn 2 ∈ [256, BitVec.toNat lseq] ∧ (s.readTag w.toNat).arr + 1875 < s.tcc + 64) ∧
    (∃ (s : State) (lseq : Byte), s.isLogged = true ∧ s.twn.cut = none ∧ tabGet 256 s.twn.lseqIn 2 ∉ [256, BitVec.toNat lseq]) ∧
    (∃ (s : State) (g : OrderTag) (l : List OrderTag) (x : Held) (f : Frame), s.isLogged = true ∧ s.twn.log = g :: l ∧ g.arr + 1875 ≤ s.tcc ∧ s.twn.hostRel = [] ∧ List.find? (s.tagMatches g) s.twn.held = some x ∧ x.at_ + 64 ≤ g.arr + 1875 ∧ s.frame x.fid = some f ∧ f.hostType ≠ 4 ∧ f.hostType ≠ 5) ∧
    (∃ (s : State) (g : OrderTag) (l : List OrderTag), s.isLogged = true ∧ s.twn.log = g :: l ∧ g.arr + 1875 ≤ s.tcc ∧ s.twn.hostRel = [] ∧ List.find? (s.tagMatches g) s.twn.held = none) ∧
    (∃ (s : State) (x : Held), s.isLogged = true ∧ (List.find? (fun (x : Held) => x.att.isSome && Decidable.decide (x.at_ + 10000 ≤ s.tcc) && !s.tagged x) s.twn.held = some x)) ∧
    (∃ (s : State) (k : BitVec 32) (x : SeenWait), s.isActive = true ∧ (List.find? (fun (x : SeenWait) => x.att == k.toNat / 2 ^ 28 && x.kh == k.toNat / 2 ^ 16 % 4096 && x.id == k.toNat % 2 ^ 16) s.twn.seenWait = some x)) ∧
    (∃ (s : State) (k : BitVec 32), s.isActive = true ∧ ((s.twn.seenWait.any fun (x : SeenWait) => x.att == k.toNat / 2 ^ 28 && x.kh == k.toNat / 2 ^ 16 % 4096 && x.id == k.toNat % 2 ^ 16) = false)) ∧
    (∃ (s : State) (x : SeenWait), s.isActive = true ∧ (List.find? (fun (x : SeenWait) => Decidable.decide (2 * x.at_ + s.get F.TWN_CFG_SEEN_WAIT ≤ 2 * s.inv.ticks)) s.twn.seenWait = some x)) ∧
    (∃ (s : State), (s.isActive = true ∨ s.isLogged = true) ∧ s.twn.hostRel = []) ∧
    (∃ (s : State) (fid : BitVec 16) (k : Nat), (s.isActive = true ∨ s.isLogged = true) ∧ s.twn.hostRel = [] ∧ tabFind? fid.toNat s.twn.fwdIn = some k) ∧
    (∃ (s : State) (n : Nat) (d : Digest), s.digests = true ∧ s.twn.digNum = some n ∧ s.digInterval ≠ n ∧ (List.find? (fun (p : Digest) => p.num == n) s.twn.peer = none) ∧ (d = { num := n, crc := (crc64 (List.flatMap digItemBytes (List.map (fun (x : FixedItem) => x.item) s.twn.items))).toNat, inputs := (List.filter (fun (i : DigItem) => match i with | .input .. => true | _ => false) (List.map (fun (x : FixedItem) => x.item) s.twn.items)).length, frames := (List.filter (fun (i : DigItem) => !(fun (i : DigItem) => match i with | .input .. => true | _ => false) i) (List.map (fun (x : FixedItem) => x.item) s.twn.items)).length })) ∧
    (∃ (s : State) (num : BitVec 32) (crc : BitVec 64) (inputs : BitVec 32) (frames : BitVec 32) (d : Digest), (List.find? (fun (d : Digest) => d.num == num.toNat) s.twn.own = some d) ∧ (s.isLogged = true ∨ s.isActive = true) ∧ d = { num := num.toNat, crc := crc.toNat, inputs := inputs.toNat, frames := frames.toNat }) ∧
    (∃ (s : State) (num : BitVec 32) (crc : BitVec 64) (d : Digest), (List.find? (fun (d : Digest) => d.num == num.toNat) s.twn.own = some d) ∧ s.isLogged = true ∧ d.crc ≠ crc.toNat) ∧
    (∃ (s : State) (num : BitVec 32) (crc : BitVec 64) (d : Digest), (List.find? (fun (d : Digest) => d.num == num.toNat) s.twn.own = some d) ∧ s.role = roleACTIVE ∧ d.crc ≠ crc.toNat) ∧
    (∃ (s : State) (lseq : Byte) (ofs : BitVec 10) (off : BitVec 24) (data : Word) (be : BitVec 4) (h : HostId) (target : Fin 8) (epoch : BitVec 16) (k : BitVec 13) (tsec : BitVec 32) (tns : BitVec 30) (crc : BitVec 64) (c : Instr) (x : TwinCmd), s.isLogged = true ∧ tabGet 256 s.twn.lseqIn 6 ∈ [256, BitVec.toNat lseq] ∧ (c, x) ∈ [(Instr.twinCmdWrite lseq ofs off data be h, TwinCmd.write off.toNat data be.toNat (hostNum h)), (Instr.twinCmdMode lseq ofs target, TwinCmd.mode (↑target : Nat)), (Instr.twinCmdCommit lseq ofs epoch k tsec tns crc, TwinCmd.commit epoch.toNat k.toNat tsec.toNat tns.toNat crc.toNat)]) ∧
    (∃ (s : State) (arr : Nat) (l : List (Nat × TwinCmd)) (x : TwinCmd), s.twn.cmds = (arr, x) :: l ∧ ((↑s.tcc : Int) - (↑arr : Int)) % 2 ^ 48 < 1875) ∧
    (∃ (s : State) (arr : Nat) (l : List (Nat × TwinCmd)) (x : TwinCmd) (off : Nat) (data : Word) (be : Nat) (h : Nat) (r : RegSpec) (i : Nat) (j : Nat), s.twn.cmds = (arr, x) :: l ∧ 1875 ≤ ((↑s.tcc : Int) - (↑arr : Int)) % 2 ^ 48 ∧ ((↑s.tcc : Int) - (↑arr : Int)) % 2 ^ 48 < 2 ^ 47 ∧ x = TwinCmd.write off data be h ∧ regAt off = some (r, i, j) ∧ 2097152 ≤ r.base ∧ r.base < 3145728 ∧ r.has Acc.sc = false ∧ r.has Acc.rwe = false ∧ r.hostPrivate = false) ∧
    (∃ (s : State) (arr : Nat) (l : List (Nat × TwinCmd)) (x : TwinCmd) (target : Nat), s.twn.cmds = (arr, x) :: l ∧ 1875 ≤ ((↑s.tcc : Int) - (↑arr : Int)) % 2 ^ 48 ∧ ((↑s.tcc : Int) - (↑arr : Int)) % 2 ^ 48 < 2 ^ 47 ∧ x = TwinCmd.mode target ∧ forwarding s.mode = true ∧ target ∈ [modeBRIDGE, modeSCHEDULED, modeADAPTIVE]) ∧
    (∃ (s : State) (lseq : Byte), s.isLogged = true ∧ tabGet 256 s.twn.lseqIn 6 ∈ [256, BitVec.toNat lseq]) ∧
    (∃ (s : State) (lseq : Byte), s.role = roleSHADOW ∧ tabGet 256 s.twn.lseqIn 7 ∈ [256, BitVec.toNat lseq]) ∧
    (∃ (s : State) (c : Nat) (k : Nat) (v : Meter), s.twn.syncs = [(c, [SyncItem.meter k v])] ∧ s.inv.act = none ∧ 1875 ≤ (s.tcc + 2 ^ 48 - c) % 2 ^ 48 ∧ (s.tcc + 2 ^ 48 - c) % 2 ^ 48 < 2 ^ 46) :=
  ⟨⟨twin 5, by decide +kernel⟩,
    ⟨{ twin 5 with twn := { txq := [⟨8, 7, [], none, []⟩] } }, ⟨8, 7, [], none, []⟩, by decide +kernel⟩,
    ⟨twin 4, 255, 0xFFFFFFFFFFFFFFFF, by decide +kernel⟩,
    ⟨{ twin 4 with inv := { ticks := 725 } }, 5, 0, by decide +kernel⟩,
    ⟨{ twin 4 with twn := { lseqIn := [(2, 5)] } }, 6, by decide +kernel⟩,
    ⟨{ ((twin 4).put F.TWN_ATT_A_EN 1 2).put F.TWN_ATT_A_PORT_A 1 2 with twn := { log := [⟨0, 0, 1, 0, 0, 0⟩], held := [held0 0] }, inv := { ticks := 750 }, frames := [(0, some { frame0 1 with stage := .held, rx := List.replicate 64 0 })] }, ⟨0, 0, 1, 0, 0, 0⟩, [], held0 0, { frame0 1 with stage := .held, rx := List.replicate 64 0 }, by decide +kernel⟩,
    ⟨{ twin 4 with twn := { log := [⟨0, 0, 1, 0, 0, 1⟩], held := [held0 0] }, inv := { ticks := 750 } }, ⟨0, 0, 1, 0, 0, 1⟩, [], by decide +kernel⟩,
    ⟨{ twin 4 with twn := { held := [held0 0] }, inv := { ticks := 4000 }, frames := [(0, some { frame0 1 with stage := .held, rx := List.replicate 64 0 })] }, held0 0, by decide +kernel⟩,
    ⟨{ twin 5 with twn := { seenWait := [⟨0, 15, 0xFFF, 0xFFFF, 0, [1]⟩] } }, 0xFFFFFFFF, ⟨0, 15, 0xFFF, 0xFFFF, 0, [1]⟩, by decide +kernel⟩,
    ⟨{ twin 6 with twn := { seenWait := [⟨0, 15, 0xFFF, 0xFFFE, 0, [1]⟩] } }, 0xFFFFFFFF, by decide +kernel⟩,
    ⟨{ twin 5 with twn := { seenWait := [⟨0, 15, 0xFFF, 0xFFFE, 0, [1]⟩] }, inv := { ticks := 100000 }, frames := [(0, some { frame0 1 with rx := List.replicate 64 0 })] }, ⟨0, 15, 0xFFF, 0xFFFE, 0, [1]⟩, by decide +kernel⟩,
    ⟨twin 4, by decide +kernel⟩,
    ⟨{ twin 5 with twn := { fwdIn := [(0xFFFF, 0)] }, frames := [(0, some { frame0 1 with origin := .twin, rx := List.replicate 64 0 })] }, 0xFFFF, 0, by decide +kernel⟩,
    ⟨{ twin 5 with twn := { digNum := some 0, items := [⟨0, 0, .input 0 1 2 3 0 0 5 0⟩, ⟨1, 0, .pds [1, 2] 7⟩] }, inv := { dom := [(0, { ns := 65536 })] } }, 0, { num := 0, crc := (crc64 ([DigItem.input 0 1 2 3 0 0 5 0, .pds [1, 2] 7].flatMap digItemBytes)).toNat, inputs := 1, frames := 1 }, by decide +kernel⟩,
    ⟨{ twin 4 with twn := { own := [⟨1, 2, 3, 4⟩] } }, 1, 2, 3, 4, ⟨1, 2, 3, 4⟩, by decide +kernel⟩,
    ⟨{ twin 4 with twn := { own := [⟨1, 3, 3, 4⟩] } }, 1, 2, ⟨1, 3, 3, 4⟩, by decide +kernel⟩,
    ⟨{ twin 5 with twn := { own := [⟨1, 3, 3, 4⟩] } }, 1, 2, ⟨1, 3, 3, 4⟩, by decide +kernel⟩,
    ⟨twin 4, 0, 1023, 0x200000, 5, 15, .ha, 1, 2, 3, 4, 5, 6, .twinCmdWrite 0 1023 0x200000 5 15 .ha, .write 0x200000 5 15 0, by decide +kernel⟩,
    ⟨{ twin 4 with twn := { cmds := [(0, .mode 1)] }, inv := { ticks := 749 } }, 0, [], .mode 1, by decide +kernel⟩,
    ⟨{ twin 4 with twn := { cmds := [(0, .write (R.SWC_QLIM.off 615 0) 5 15 0)] }, inv := { ticks := 750 } }, 0, [], .write (R.SWC_QLIM.off 615 0) 5 15 0, R.SWC_QLIM.off 615 0, 5, 15, 0, R.SWC_QLIM, 615, 0, by decide +kernel⟩,
    ⟨{ twin 4 with twn := { cmds := [(0, .mode 1)] }, inv := { ticks := 750 } }, 0, [], .mode 1, 1, by decide +kernel⟩,
    ⟨twin 4, 0, by decide +kernel⟩,
    ⟨twin 3, 0, by decide +kernel⟩,
    ⟨{ twin 3 with twn := { syncs := [(0, [.meter 8191 { cir := 1 }])] }, inv := { ticks := 750 } }, 0, 8191, { cir := 1 }, by decide +kernel⟩⟩

/-- The premise of ExecKeepsQueue can hold: a command completes. -/
theorem witness_ExecKeepsQueue : ∃ (c : Instr) (s t : State), exec c s = .next t := by
  obtain ⟨u, h⟩ := exec_settled .dispatch (device 1)
  exact ⟨_, _, _, h⟩

/-- The premises of VectorsStayArmed can hold. -/
theorem witness_VectorsStayArmed : ∃ s t : State, s.VectorsArmed ∧ step s = .next t := by
  have h : (State.reset.vectorsSettle).pending = [] := by decide +kernel
  exact ⟨State.reset.vectorsSettle, State.reset.vectorsSettle, vectorsSettle_armed _, by unfold step; rw [h]⟩

end Witnesses

end Sys2Proof.Tests
end

section
/-! PROOFS. The commit timestamp (06_epochs_and_consistency.md R183): what an accepted commit reports, and the four cases of T_c. -/

namespace Sys2Proof.Machine

variable (s : State)

/-! ## An event under a condition -/

theorem State.get_evtIf_other (c : Bool) (f g : Fld) (i j qi qj : Nat) (h : g.reg.off qi qj ≠ f.reg.off i j) :
    (s.evtIf c f i j).get g qi qj = s.get g qi qj := by
  cases c with
  | false => rfl
  | true => exact s.get_evt_other f g i j qi qj h

/-- The bit of an event under a condition: set when the condition holds, else as it was. -/
theorem State.bit_evtIf_same (c : Bool) (f : Fld) (i j : Nat) (h : f.hi < 24) (hw : f.lo ≤ f.hi) :
    (s.evtIf c f i j).bit f i j = (c || s.bit f i j) := by
  cases c with
  | false => rfl
  | true => exact s.bit_evt_same f i j h hw

/-! ## A time in a pair of registers -/

theorem State.get_putTime_other (fsec fns g : Fld) (t : Int) (i qi qj : Nat) (hs : g.reg.off qi qj ≠ fsec.reg.off i 0)
    (hn : g.reg.off qi qj ≠ fns.reg.off i 0) : (s.putTime fsec fns t i).get g qi qj = s.get g qi qj := by
  rw [State.putTime, State.get_put_other _ _ _ _ _ _ _ _ hn, State.get_put_other _ _ _ _ _ _ _ _ hs]

/-- The seconds of a reported time: its low 32 bits. -/
theorem State.get_putTime_sec (fsec fns : Fld) (t : Int) (i : Nat) (h : fsec.hi < 32) (hw : fsec.width = 32)
    (hne : fsec.reg.off i 0 ≠ fns.reg.off i 0) : (s.putTime fsec fns t i).get fsec i = (t / 1000000000 % 2 ^ 32).toNat := by
  rw [State.putTime, State.get_put_other _ _ _ _ _ _ _ _ hne, State.get_put_same _ _ _ _ _ h, hw]
  exact Nat.mod_eq_of_lt (by omega)

/-- The nanoseconds of a reported time: below one second, so no bit of them is lost. -/
theorem State.get_putTime_ns (fsec fns : Fld) (t : Int) (i : Nat) (h : fns.hi < 32) (hw : fns.width = 30) :
    (s.putTime fsec fns t i).get fns i = (t % 1000000000).toNat := by
  rw [State.putTime, State.get_put_same _ _ _ _ _ h, hw]
  exact Nat.mod_eq_of_lt (by omega)

/-! ## The start of a commit -/

theorem State.get_epochState_other (st : Nat) (g : Fld) (qi qj : Nat) (h : g.reg.off qi qj ≠ R.EPOCH_STAT.base) :
    (s.epochState st).get g qi qj = s.get g qi qj := by
  rw [State.epochState, State.get_put_other _ _ _ _ _ _ _ _ h, State.get_put_other _ _ _ _ _ _ _ _ h]

/-- The history entry of a commit (R198): word `w` and time `tc` in entry `e`, which becomes the newest. -/
def State.historyEntry (s : State) (w : Word) (tc : Int) (e : Nat) : State :=
  ((s.setReg R.EPOCH_HIST_A w e).putTime F.EPOCH_HIST_SEC_SEC F.EPOCH_HIST_NS_NS tc e).put F.EPOCH_HIST_PTR_NEWEST e

/-- The history lies above the other registers of the epochs. -/
theorem epochHist_base_le_off (e : Nat) : ∀ r ∈ [R.EPOCH_HIST_A, R.EPOCH_HIST_SEC, R.EPOCH_HIST_NS], R.EPOCH_HIST_A.base ≤ r.off e 0 := by
  simp only [List.mem_cons, List.not_mem_nil, or_false, forall_eq_or_imp, forall_eq, RegSpec.off, R.EPOCH_HIST_A, R.EPOCH_HIST_SEC,
    R.EPOCH_HIST_NS]
  omega

theorem State.get_historyEntry_other (w : Word) (tc : Int) (e : Nat) (g : Fld) (qi qj : Nat) (hp : g.reg.off qi qj ≠ R.EPOCH_HIST_PTR.base)
    (hb : g.reg.off qi qj < R.EPOCH_HIST_A.base) : (s.historyEntry w tc e).get g qi qj = s.get g qi qj := by
  have ne : ∀ r ∈ [R.EPOCH_HIST_A, R.EPOCH_HIST_SEC, R.EPOCH_HIST_NS], g.reg.off qi qj ≠ r.off e 0 := fun r hr =>
    (hb.trans_le (epochHist_base_le_off e r hr)).ne
  rw [State.historyEntry, State.get_put_other _ _ _ _ _ _ _ _ hp,
    State.get_putTime_other _ _ _ _ _ _ _ _ (ne _ (by simp [F.EPOCH_HIST_SEC_SEC])) (ne _ (by simp [F.EPOCH_HIST_NS_NS])),
    State.get_setReg_other _ _ _ _ _ _ _ _ (ne _ (by simp))]

/-- The set being built becomes the set that the commit at `tc` has taken (R182). -/
def State.takeStaged (s : State) (tc : Int) : State := { s with lkp := { s.lkp with tc := some tc, taken := s.lkp.staged, staged := [] } }

theorem State.takeStaged_get (tc : Int) (g : Fld) (qi qj : Nat) : (s.takeStaged tc).get g qi qj = s.get g qi qj := rfl

/-- What the start of a commit does, in order, whatever its history entry is. -/
theorem State.startCommit_eq (tc : Int) (k epoch host : Nat) (twin : Bool) : ∃ w e, s.startCommit tc k epoch host twin =
    ((((((s.epochState esAPPLYING).put F.EPOCH_CUR_PEND 1).putTime F.EPOCH_TC_SEC_SEC F.EPOCH_TC_NS_NS tc).historyEntry w tc e).takeStaged
      tc).put F.EPOCH_STAT_STAGED 0).evt F.EPOCH_EVT_ACCEPTED := ⟨_, _, rfl⟩

theorem State.startCommit_tc (tc : Int) (k epoch host : Nat) (twin : Bool) : (s.startCommit tc k epoch host twin).lkp.tc = some tc := by
  obtain ⟨w, e, h⟩ := s.startCommit_eq tc k epoch host twin
  rw [h, State.evt_lkp]
  rfl

/-- The registers that report T_c read after the start of a commit as the report left them. -/
theorem State.get_startCommit_of_tcReg (tc : Int) (k epoch host : Nat) (twin : Bool) (g : Fld)
    (hg : g.reg.off 0 0 ∈ [R.EPOCH_TC_SEC.base, R.EPOCH_TC_NS.base]) : (s.startCommit tc k epoch host twin).get g =
      (((s.epochState esAPPLYING).put F.EPOCH_CUR_PEND 1).putTime F.EPOCH_TC_SEC_SEC F.EPOCH_TC_NS_NS tc).get g := by
  have ne : ∀ a ∉ [R.EPOCH_TC_SEC.base, R.EPOCH_TC_NS.base], g.reg.off 0 0 ≠ a := fun a ha e => ha (e ▸ hg)
  have below : ∀ a ∈ [R.EPOCH_TC_SEC.base, R.EPOCH_TC_NS.base], a < R.EPOCH_HIST_A.base := by decide
  obtain ⟨w, e, h⟩ := s.startCommit_eq tc k epoch host twin
  rw [h, State.get_evt_other _ _ _ _ _ _ _ (ne _ (by decide)), State.get_put_other _ _ _ _ _ _ _ _ (ne _ (by decide)),
    State.takeStaged_get, State.get_historyEntry_other _ _ _ _ _ _ _ (ne _ (by decide)) (below _ hg)]

theorem State.startCommit_tcSec (tc : Int) (k epoch host : Nat) (twin : Bool) :
    (s.startCommit tc k epoch host twin).get F.EPOCH_TC_SEC_SEC = (tc / 1000000000 % 2 ^ 32).toNat := by
  rw [State.get_startCommit_of_tcReg _ _ _ _ _ _ _ (by decide), State.get_putTime_sec _ _ _ _ _ (by decide) rfl (by decide)]

theorem State.startCommit_tcNs (tc : Int) (k epoch host : Nat) (twin : Bool) :
    (s.startCommit tc k epoch host twin).get F.EPOCH_TC_NS_NS = (tc % 1000000000).toNat := by
  rw [State.get_startCommit_of_tcReg _ _ _ _ _ _ _ (by decide), State.get_putTime_ns _ _ _ _ _ (by decide) rfl]

/-- The start of a commit sets ACCEPTED and leaves TS_ADJ to the timestamp. -/
theorem State.startCommit_tsAdj (tc : Int) (k epoch host : Nat) (twin : Bool) :
    (s.startCommit tc k epoch host twin).bit F.EPOCH_EVT_TS_ADJ = s.bit F.EPOCH_EVT_TS_ADJ := by
  obtain ⟨w, e, h⟩ := s.startCommit_eq tc k epoch host twin
  unfold State.bit
  rw [h, State.get_evt_disjoint _ F.EPOCH_EVT_ACCEPTED F.EPOCH_EVT_TS_ADJ 0 0 rfl (by decide) (by decide) (by decide),
    State.get_put_other _ _ _ _ _ _ _ _ (by decide), State.takeStaged_get,
    State.get_historyEntry_other _ _ _ _ _ _ _ (by decide) (by decide),
    State.get_putTime_other _ _ _ _ _ _ _ _ (by decide) (by decide), State.get_put_other _ _ _ _ _ _ _ _ (by decide),
    State.get_epochState_other _ _ _ _ _ (by decide)]

/-! ## What a commit reports -/

/-- From `s` to `t` a commit with timestamp `tc` has been accepted: T_c is fixed and reported, and TS_ADJ is set if it was adjusted. -/
def ReportsTc (s t : State) (tc : Int) (adj : Bool) : Prop :=
  t.lkp.tc = some tc ∧ t.get F.EPOCH_TC_SEC_SEC = (tc / 1000000000 % 2 ^ 32).toNat ∧ t.get F.EPOCH_TC_NS_NS = (tc % 1000000000).toNat ∧
    t.bit F.EPOCH_EVT_TS_ADJ = (adj || s.bit F.EPOCH_EVT_TS_ADJ)

/-- The end of the command keeps the report. -/
theorem ReportsTc.settled {s b t : State} {tc : Int} {adj : Bool} (h : ReportsTc s t tc adj) : ReportsTc s (settled b t) tc adj := by
  obtain ⟨htc, hsec, hns, hadj⟩ := h
  exact ⟨by rw [settled_lkp, htc], by rw [settled_get _ _ _ _ _ (not_pbaOff _ (by decide)), hsec],
    by rw [settled_get _ _ _ _ _ (not_pbaOff _ (by decide)), hns], by rw [settled_bit _ _ _ _ _ (not_pbaOff _ (by decide)), hadj]⟩

/-- A commit reports the timestamp that `commitTime` gives at the present time for the entries staged. -/
theorem State.commit_reports (host : Nat) : ReportsTc s (s.commit 0x5A host) (s.commitTime s.now s.lkp.staged.length).1
    (s.commitTime s.now s.lkp.staged.length).2 := by
  rw [State.commit, if_neg (by decide)]
  refine ⟨?_, ?_, ?_, ?_⟩
  · rw [State.evtIf_lkp, State.startCommit_tc]
  · rw [State.get_evtIf_other _ _ _ _ _ _ _ _ (by decide), State.startCommit_tcSec]
  · rw [State.get_evtIf_other _ _ _ _ _ _ _ _ (by decide), State.startCommit_tcNs]
  · rw [State.bit_evtIf_same _ _ _ _ _ (by decide) (by decide), State.startCommit_tsAdj]

/-- A message for the peer changes the twin link alone, or is lost while the link is down. -/
theorem State.linkQueue_only (m : LinkMsg) : ∃ x, s.linkQueue m = { s with twn := x } := by
  unfold State.linkQueue
  split
  · exact ⟨_, rfl⟩
  · exact ⟨_, rfl⟩

/-- Beside the commit itself, an accepted write changes the twin link alone (R185). -/
theorem State.commitWrite_only (host key : Nat) : ∃ x, s.commitWrite host key = { s.commit key host with twn := x } := by
  unfold State.commitWrite
  split
  · exact (s.commit key host).linkQueue_only _
  · exact ⟨_, rfl⟩

/-- T_c does not depend on the register EPOCH_COMMIT, which holds the write that asks for it. -/
theorem State.commitTime_setReg_commit (v : Word) (a : Int) (k : Nat) : (s.setReg R.EPOCH_COMMIT v).commitTime a k = s.commitTime a k := by
  unfold State.commitTime
  rw [State.get_setReg_other _ _ _ _ _ _ _ _ (by decide), State.get_setReg_other _ _ _ _ _ _ _ _ (by decide)]
  rfl

/-- A write of EPOCH_COMMIT while BUSY is 0 holds its word in the register and commits (R9, R182). -/
theorem State.regWrite_epochCommit (host : Nat) (w : Word) (hb : s.bit F.EPOCH_STAT_BUSY = false) :
    ∃ v, s.regWrite host R.EPOCH_COMMIT 0 0 15 w = ([], (s.setReg R.EPOCH_COMMIT v).commitWrite host (keyOf w)) := by
  have post : s.regWrite host R.EPOCH_COMMIT 0 0 15 w = s.posted (s.bit F.EPOCH_STAT_BUSY) R.EPOCH_COMMIT 0 0 w
      (fun s => s.commitWrite host (keyOf w)) := rfl
  rw [post, hb]
  exact ⟨_, rfl⟩

/-- The command EPOCH_COMMIT, when its write is accepted, reports T_c (R183). -/
theorem State.epochCommit_reports {h : HostId} (ho : s.opens h R.EPOCH_COMMIT 0 0 = true) (hb : s.bit F.EPOCH_STAT_BUSY = false) :
    Does (.epochCommit h) s fun t => ReportsTc s t (s.commitTime s.now s.lkp.staged.length).1 (s.commitTime s.now s.lkp.staged.length).2 := by
  obtain ⟨v, hw⟩ := s.regWrite_epochCommit (hostNum h) (keyWord 0) hb
  refine does_of (u := s.rowWrite (hostNum h) R.EPOCH_COMMIT 0 0 (keyWord 0)) rfl (ReportsTc.settled ?_)
  obtain ⟨x, hx⟩ := (s.setReg R.EPOCH_COMMIT v).commitWrite_only (hostNum h) 0x5A
  rw [rowWrite_own h _ _ _ _ ho (by decide) (by rw [hw]), hw, show keyOf (keyWord 0) = 0x5A by decide, hx]
  obtain ⟨htc, hsec, hns, hadj⟩ := (s.setReg R.EPOCH_COMMIT v).commit_reports (hostNum h)
  rw [State.commitTime_setReg_commit] at htc hsec hns hadj
  rw [State.bit_setReg_other _ _ _ _ _ _ _ _ (by decide)] at hadj
  exact ⟨htc, hsec, hns, hadj⟩

/-! ## The four cases of T_c (R183) -/

/-- T_min (R183): 4 µs after acceptance at `a`, and 1.6 ns for each of the `k` entries taken, rounded up to a whole nanosecond. -/
def tcMin (a : Int) (k : Nat) : Int := a + 4000 + ((16 * k + 9) / 10 : Nat)

/-- T_w (R183): the time that EPOCH_COMMIT_TS_SEC and EPOCH_COMMIT_TS_NS hold. -/
def State.tcWanted (s : State) : Int := fullTime (s.dom 0) (s.get F.EPOCH_COMMIT_TS_SEC_SEC) (s.get F.EPOCH_COMMIT_TS_NS_NS)

/-- No time is wanted: both registers are 0. -/
abbrev State.tcUnset (s : State) : Prop := s.get F.EPOCH_COMMIT_TS_SEC_SEC = 0 ∧ s.get F.EPOCH_COMMIT_TS_NS_NS = 0

variable {s} {a : Int} {k : Nat}

theorem commitTime_unset (hz : s.tcUnset) : s.commitTime a k = (tcMin a k, false) := if_pos hz

theorem commitTime_early (hz : ¬ s.tcUnset) (h : s.tcWanted < tcMin a k) : s.commitTime a k = (tcMin a k, true) :=
  (if_neg hz).trans (if_pos h)

theorem commitTime_inRange (hz : ¬ s.tcUnset) (h : tcMin a k ≤ s.tcWanted) (h' : s.tcWanted ≤ a + 1000000000000) :
    s.commitTime a k = (s.tcWanted, false) :=
  (if_neg hz).trans ((if_neg (not_lt.2 h)).trans (if_neg (not_lt.2 h')))

theorem commitTime_late (hz : ¬ s.tcUnset) (h : tcMin a k ≤ s.tcWanted) (h' : a + 1000000000000 < s.tcWanted) :
    s.commitTime a k = (a + 1000000000000, true) :=
  (if_neg hz).trans ((if_neg (not_lt.2 h)).trans (if_pos h'))

/-- Settles O42: an accepted commit reports `commitTime`, which is evaluated in each case of R183. -/
theorem commitTimestamp : Obligations.CommitTimestamp := by
  intro s h ho hb
  have reports := s.epochCommit_reports ho hb
  refine ⟨fun hz => ?_, fun hz early => ?_, fun hz low high => ?_, fun hz low late => ?_⟩
  · rwa [commitTime_unset hz] at reports
  · rwa [commitTime_early hz early] at reports
  · rwa [commitTime_inRange hz low high] at reports
  · rwa [commitTime_late hz low late] at reports

end Sys2Proof.Machine
end

section
/-! PROOFS. Writes of gate control list entries (08_egress_scheduling.md R258): what EGS_GCL_D1 does with a write, and that the operative bank
of a port is out of its reach. -/

namespace Sys2Proof.Machine

variable (s : State)

/-! ## The operative bank -/

@[simp] theorem State.eg_setEg_same (p : Nat) (g : EgsPort) : (s.setEg p g).eg p = g := tabGet_set_same _ _ _ _

/-- The operative bank follows the schedulers' state and the bit BANK of the port, nothing else. -/
theorem State.operBank_congr {s t : State} {p : Nat} (he : t.egs = s.egs) (hb : t.get F.EGS_GATE_STAT_BANK p = s.get F.EGS_GATE_STAT_BANK p) :
    t.operBank p = s.operBank p := by
  rw [State.operBank, State.operBank, State.eg, State.eg, he, hb]

/-- After the state of a port's scheduler is set, BANK still chooses which of its banks is operative. -/
theorem State.operBank_setEg (p : Nat) (g : EgsPort) :
    (s.setEg p g).operBank p = if s.get F.EGS_GATE_STAT_BANK p = 0 then g.bank0 else g.bank1 := by
  rw [State.operBank, State.eg_setEg_same, State.setEg_get]

/-! ## The registers of a port that a write of EGS_GCL_D1 changes -/

/-- The registers of port `p` stand at the same distance from their bases: EGS_GATE_STAT is none of those that a write of EGS_GCL_D1 changes. -/
theorem gateStat_off_ne (p : Nat) : ∀ r ∈ [R.EGS_EVT, R.EGS_GCL_IDX], R.EGS_GATE_STAT.off p 0 ≠ r.off p 0 := by
  simp [RegSpec.off, R.EGS_EVT, R.EGS_GCL_IDX, R.EGS_GATE_STAT]

/-- No register of a port's scheduler that stands at offset 8 or 0x78 of its 4 KiB block is a PBA word: those stand at 0x800 and 0x804 of theirs. -/
theorem egs_not_pbaOff (p : Nat) : ∀ r ∈ [R.EGS_EVT, R.EGS_GATE_STAT], ¬ pbaOff (r.off p 0) := by
  simp only [List.mem_cons, List.not_mem_nil, or_false, forall_eq_or_imp, forall_eq]
  refine ⟨?_, ?_⟩ <;>
  · rintro ⟨k, host, hhost, hk, e⟩
    simp [RegSpec.off, R.EGS_EVT, R.EGS_GATE_STAT, R.MSIX_PBA] at e
    omega

theorem State.operBank_evtCfgErr (p : Nat) : (s.evt F.EGS_EVT_CFG_ERR p).operBank p = s.operBank p :=
  State.operBank_congr (s.evt_egs _ _ _) (s.get_evt_other _ _ _ _ _ _ (gateStat_off_ne p _ (by simp [F.EGS_EVT_CFG_ERR])))

theorem State.operBank_gclAdvance (p : Nat) : (s.gclAdvance p).operBank p = s.operBank p := by
  unfold State.gclAdvance
  split
  · exact State.operBank_congr rfl (s.get_put_other _ _ _ _ _ _ _ (gateStat_off_ne p _ (by simp [F.EGS_GCL_IDX_IDX])))
  · rfl

/-! ## A write of EGS_GCL_D1 -/

/-- R258: the write names the operative bank, or a change is pending. -/
abbrev State.gclRefuses (s : State) (p : Nat) : Prop := s.get F.EGS_GCL_IDX_BANK p = 1 ∨ s.bit F.EGS_GATE_STAT_CHG_PEND p = true

theorem State.gclWrite_of_refuses {s : State} {p : Nat} (h : s.gclRefuses p) (w : Word) : s.gclWrite p w = s.evt F.EGS_EVT_CFG_ERR p :=
  if_pos h

/-- An entry goes into the bank that BANK does not name operative. -/
theorem State.operBank_gclWrite (p : Nat) (w : Word) : (s.gclWrite p w).operBank p = s.operBank p := by
  by_cases refused : s.gclRefuses p
  · rw [State.gclWrite_of_refuses refused, State.operBank_evtCfgErr]
  · rw [State.gclWrite, if_neg refused, State.operBank_gclAdvance]
    by_cases hb : s.get F.EGS_GATE_STAT_BANK p = 0
    · rw [if_pos hb, State.operBank_setEg, if_pos hb, State.operBank, if_pos hb]
    · rw [if_neg hb, State.operBank_setEg, if_neg hb, State.operBank, if_neg hb]

/-- EGS_GCL_D1 takes a whole word without a flag: a refusal is an event of the port, no access error. -/
theorem State.regWrite_egsGclD1 (host p : Nat) (w : Word) : s.regWrite host R.EGS_GCL_D1 p 0 15 w = ([], s.gclWrite p w) := rfl

/-- The command GCL_WRITE, when its write reaches the register, is the write of EGS_GCL_D1 but for the twin link, which may carry it to the
peer (R411). -/
theorem does_gclWrite {s : State} {h : HostId} {p : Port} {data : Word} {P : State → Prop} (ho : s.opens h R.EGS_GCL_D1 p 0 = true)
    (hp : ∀ x, P (settled s { s.gclWrite p data with twn := x })) : Does (.gclWrite h p data) s P := by
  refine does_of (u := s.rowWrite (hostNum h) R.EGS_GCL_D1 p 0 data) rfl ?_
  obtain ⟨x, hx⟩ := rowWrite_mirrored h _ _ _ data ho (by rw [State.regWrite_egsGclD1])
  rw [hx, State.regWrite_egsGclD1]
  exact hp x

/-- The end of a command keeps the operative banks. -/
theorem settled_operBank (b t : State) (p : Nat) : (settled b t).operBank p = t.operBank p :=
  State.operBank_congr (settled_egs b t) (settled_get b t _ _ _ (egs_not_pbaOff p _ (by simp [F.EGS_GATE_STAT_BANK])))

/-- Settles O37: a refused write is the event CFG_ERR alone, and every write leaves the operative bank as it is. -/
theorem gateEntryWriteRefused : Obligations.GateEntryWriteRefused := by
  intro s h p data ho
  refine ⟨fun refused => does_gclWrite ho fun x => ?_, does_gclWrite ho fun x => ?_⟩
  · rw [State.gclWrite_of_refuses refused]
    refine ⟨?_, ?_, settled_keeps _ _ _ ?_⟩
    · rw [settled_bit _ _ _ _ _ (egs_not_pbaOff p _ (by simp [F.EGS_EVT_CFG_ERR]))]
      exact s.bit_evt_same _ _ _ (by decide) (by decide)
    · rw [settled_egs]
      exact s.evt_egs _ _ _
    · exact State.keepsRegs_evt (State.keepsRegs_refl _) _ _ _ (by simp [F.EGS_EVT_CFG_ERR])
  · rw [settled_operBank]
    exact s.operBank_gclWrite p data

end Sys2Proof.Machine
end

section
/-! PROOFS. The semaphores (15_host_ports_and_registers.md R439, R440): what a write of the owner and of any other host does, a read of a held
semaphore, and the releases of a host link's reset. -/

namespace Sys2Proof.Machine

variable (s : State)

/-! ## Where the semaphores stand -/

theorem sem_off_eq (n : Nat) : R.GLB_SEM.off n 0 = 0x100 + 4 * n := by
  simp [RegSpec.off, R.GLB_SEM, Nat.mul_comm]

theorem sem_off_ne {m n : Nat} (h : n ≠ m) : R.GLB_SEM.off n 0 ≠ R.GLB_SEM.off m 0 := by
  simp only [sem_off_eq]
  omega

theorem semEvt_off_ne_sem (n : Nat) : R.GLB_SEM_EVT.off 0 0 ≠ R.GLB_SEM.off n 0 := by
  rw [sem_off_eq, show R.GLB_SEM_EVT.off 0 0 = 0x30 by decide]
  omega

theorem sem_not_pbaOff {n : Nat} (hn : n < 64) : ¬ pbaOff (R.GLB_SEM.off n 0) := by
  have above : ∀ a ∈ pbaOffs, 0x200 ≤ a := by decide
  refine not_pbaOff _ fun hp => ?_
  have := above _ hp
  rw [sem_off_eq] at this
  omega

/-- An event of the semaphores changes no semaphore. -/
theorem State.get_semEvt_sem (f g : Fld) (n : Nat) (hf : f.reg = R.GLB_SEM_EVT) (hg : g.reg = R.GLB_SEM) : (s.evt f).get g n = s.get g n :=
  s.get_evt_other f g 0 0 n 0 (by rw [hf, hg]; exact (semEvt_off_ne_sem n).symm)

/-! ## A write of a semaphore (R439) -/

section
variable {s} {host n : Nat} {w : Word}

theorem State.semWrite_owner_tag (hmine : s.get F.GLB_SEM_OWNER n = host + 1) (hrel : getBits w 16 16 = 0) :
    s.semWrite host n w = s.put F.GLB_SEM_TAG (getBits w 15 0) n := by
  simp [State.semWrite, hmine, hrel]

theorem State.semWrite_owner_release (hmine : s.get F.GLB_SEM_OWNER n = host + 1) (hrel : getBits w 16 16 = 1) :
    s.semWrite host n w = ((s.put F.GLB_SEM_TAG (getBits w 15 0) n).put F.GLB_SEM_OWNER 0 n).evt F.GLB_SEM_EVT_RELEASED := by
  simp [State.semWrite, hmine, hrel]

theorem State.semWrite_other_ignored (hother : s.get F.GLB_SEM_OWNER n ≠ host + 1) (hrel : getBits w 16 16 = 0) :
    s.semWrite host n w = s := by
  simp [State.semWrite, hother, hrel]

theorem State.semWrite_other_release (hother : s.get F.GLB_SEM_OWNER n ≠ host + 1) (hrel : getBits w 16 16 = 1) :
    s.semWrite host n w = s.evt F.GLB_SEM_EVT_WRONG_REL := by
  simp [State.semWrite, hother, hrel]

end

/-- TAG takes the low half of the word written. -/
theorem State.get_put_semTag (w : Word) (n : Nat) : (s.put F.GLB_SEM_TAG (getBits w 15 0) n).get F.GLB_SEM_TAG n = getBits w 15 0 := by
  rw [State.get_put_same _ _ _ _ _ (by decide)]
  exact Nat.mod_eq_of_lt (getBits_lt w 15 0)

/-- A write of the owner leaves OWNER to the release. -/
theorem State.owner_put_semTag (v n : Nat) : (s.put F.GLB_SEM_TAG v n).get F.GLB_SEM_OWNER n = s.get F.GLB_SEM_OWNER n :=
  s.get_put_disjoint _ _ _ _ _ rfl (by decide) (by decide)

/-- A release leaves TAG as it was written. -/
theorem State.tag_put_semOwner (v n : Nat) : (s.put F.GLB_SEM_OWNER v n).get F.GLB_SEM_TAG n = s.get F.GLB_SEM_TAG n :=
  s.get_put_disjoint _ _ _ _ _ rfl (by decide) (by decide)

theorem State.owner_put_zero (n : Nat) : (s.put F.GLB_SEM_OWNER 0 n).get F.GLB_SEM_OWNER n = 0 := by
  rw [State.get_put_same _ _ _ _ _ (by decide), Nat.zero_mod]

/-- The command SEM_WRITE, when its write reaches the register, is the write of the semaphore. -/
theorem does_semWrite {s : State} {h : HostId} {n : Fin 64} {data : Word} {P : State → Prop} (ho : s.opens h R.GLB_SEM n 0 = true)
    (hp : P (settled s (s.semWrite (hostNum h) n data))) : Does (.semWrite h n data) s P := by
  have write : s.regWrite (hostNum h) R.GLB_SEM n 0 15 data = ([], s.semWrite (hostNum h) n data) := rfl
  refine does_of (u := s.rowWrite (hostNum h) R.GLB_SEM n 0 data) rfl ?_
  rwa [rowWrite_own h _ _ _ _ ho (by decide) (by rw [write]), write]

/-! ## A read of a semaphore (R438) -/

/-- The command SEM_CLAIM_READ of a held semaphore returns its word with GOT = 0, and does nothing else. -/
theorem does_semClaimRead_held {s : State} {h : HostId} {n : Fin 64} {P : State → Prop} (hr : s.reaches h R.GLB_SEM n 0 = true)
    (held : s.get F.GLB_SEM_OWNER n ≠ 0)
    (hp : P (settled s (s.emit (.readData (hostNum h)
      (BitVec.ofNat 64 ((s.reg R.GLB_SEM n &&& 0x7FFFFFFF) ||| s.rsvdShown (hostNum h) R.GLB_SEM n 0).toNat))))) :
    Does (.semClaimRead h n) s P := by
  have read : s.semRead (hostNum h) n = (s.reg R.GLB_SEM n &&& 0x7FFFFFFF, s) := if_neg held
  have regRead : ∀ a, s.regRead (hostNum h) a R.GLB_SEM n 0 =
      ((s.semRead (hostNum h) n).1 ||| s.rsvdShown (hostNum h) R.GLB_SEM n 0, (s.semRead (hostNum h) n).2) := fun _ => if_pos rfl
  refine does_of (u := s.rowRead (hostNum h) R.GLB_SEM n 0) rfl ?_
  rwa [rowRead_reaches h _ _ _ hr, regRead, read]

/-! ## The releases of a host link's reset (R440) -/

/-- The reset of a host's link at semaphore `n`: it is released if that host owns it. -/
def State.semAutoOne (s : State) (host n : Nat) : State :=
  if s.get F.GLB_SEM_OWNER n = host + 1 then (s.put F.GLB_SEM_OWNER 0 n).evt2 F.GLB_SEM_EVT_RELEASED F.GLB_SEM_EVT_AUTO_REL else s

theorem State.semAuto_eq_foldl (host : Nat) : s.semAuto host = (List.range 64).foldl (fun s n => s.semAutoOne host n) s := rfl

section
variable {s} {host m n : Nat}

theorem State.semAutoOne_owned (h : s.get F.GLB_SEM_OWNER n = host + 1) : s.semAutoOne host n =
    ((s.put F.GLB_SEM_OWNER 0 n).evt F.GLB_SEM_EVT_RELEASED).put F.GLB_SEM_EVT_AUTO_REL 1 := if_pos h

theorem State.semAutoOne_not_owned (h : s.get F.GLB_SEM_OWNER n ≠ host + 1) : s.semAutoOne host n = s := if_neg h

/-- A release shows in OWNER as the owner's put left it. -/
theorem State.owner_semAutoOne_owned (h : s.get F.GLB_SEM_OWNER m = host + 1) :
    (s.semAutoOne host m).get F.GLB_SEM_OWNER n = (s.put F.GLB_SEM_OWNER 0 m).get F.GLB_SEM_OWNER n := by
  rw [State.semAutoOne_owned h, State.get_put_other _ _ _ _ _ _ _ _ (semEvt_off_ne_sem n).symm, State.get_semEvt_sem _ _ _ _ rfl rfl]

/-- The other semaphores keep their owners. -/
theorem State.owner_semAutoOne_other (hne : n ≠ m) : (s.semAutoOne host m).get F.GLB_SEM_OWNER n = s.get F.GLB_SEM_OWNER n := by
  by_cases h : s.get F.GLB_SEM_OWNER m = host + 1
  · rw [State.owner_semAutoOne_owned h, State.get_put_other _ _ _ _ _ _ _ _ (sem_off_ne hne)]
  · rw [State.semAutoOne_not_owned h]

theorem State.released_semAutoOne_owned (h : s.get F.GLB_SEM_OWNER n = host + 1) :
    (s.semAutoOne host n).bit F.GLB_SEM_EVT_RELEASED = true := by
  rw [State.semAutoOne_owned h, State.bit_put_disjoint _ F.GLB_SEM_EVT_AUTO_REL F.GLB_SEM_EVT_RELEASED _ _ _ rfl (by decide) (by decide)]
  exact State.bit_evt_same _ _ _ _ (by decide) (by decide)

/-- Semaphore `n` is free, and a release has been reported. -/
def State.SemFreed (s : State) (n : Nat) : Prop := s.get F.GLB_SEM_OWNER n = 0 ∧ s.bit F.GLB_SEM_EVT_RELEASED = true

theorem State.semAutoOne_freed (h : s.get F.GLB_SEM_OWNER n = host + 1) : (s.semAutoOne host n).SemFreed n :=
  ⟨(State.owner_semAutoOne_owned h).trans (s.owner_put_zero n), State.released_semAutoOne_owned h⟩

/-- A semaphore that has been released stays so while the others are. -/
theorem State.SemFreed.semAutoOne (hf : s.SemFreed n) : (s.semAutoOne host m).SemFreed n := by
  by_cases h : s.get F.GLB_SEM_OWNER m = host + 1
  · obtain ⟨free, -⟩ := hf
    have hne : n ≠ m := by
      rintro rfl
      omega
    exact ⟨(State.owner_semAutoOne_other hne).trans free, State.released_semAutoOne_owned h⟩
  · rwa [State.semAutoOne_not_owned h]

end

/-- Every semaphore listed that the host owns is released. -/
theorem State.foldl_semAutoOne_freed {host n : Nat} (l : List Nat) (hn : n ∈ l) (hown : s.get F.GLB_SEM_OWNER n = host + 1) :
    (l.foldl (fun s n => s.semAutoOne host n) s).SemFreed n := by
  induction l generalizing s with
  | nil => cases hn
  | cons m l ih =>
    rw [List.foldl_cons]
    by_cases hm : n = m
    · subst hm
      exact List.foldlRecOn (motive := (State.SemFreed · n)) l _ (State.semAutoOne_freed hown) fun _ hf _ _ => hf.semAutoOne
    · exact ih _ (List.mem_of_ne_of_mem hm hn) ((State.owner_semAutoOne_other hm).trans hown)

/-- The reset of a host's link releases each of its semaphores and sets RELEASED. -/
theorem State.semAuto_freed {host n : Nat} (hn : n < 64) (hown : s.get F.GLB_SEM_OWNER n = host + 1) : (s.semAuto host).SemFreed n :=
  s.semAuto_eq_foldl host ▸ s.foldl_semAutoOne_freed _ (List.mem_range.2 hn) hown

/-! ## What the commands leave -/

section
variable {s} {h : HostId} {n : Fin 64} {data : Word} (ho : s.opens h R.GLB_SEM n 0 = true)
include ho

/-- The owner writes TAG. -/
theorem does_semWrite_owner_tag (hmine : s.get F.GLB_SEM_OWNER n = hostNum h + 1) (hrel : getBits data 16 16 = 0) :
    Does (.semWrite h n data) s fun t =>
      t.get F.GLB_SEM_TAG n = getBits data 15 0 ∧ t.get F.GLB_SEM_OWNER n = hostNum h + 1 ∧ s.keepsRegs t [R.GLB_SEM.off n 0] ∧
        s.onlyRegs t := by
  refine does_semWrite ho ?_
  have notPba := sem_not_pbaOff n.isLt
  rw [State.semWrite_owner_tag hmine hrel]
  refine ⟨?_, ?_, settled_keeps _ _ _ ?_, settled_onlyRegs ?_⟩
  · rw [settled_get _ _ _ _ _ notPba, State.get_put_semTag]
  · rw [settled_get _ _ _ _ _ notPba, State.owner_put_semTag, hmine]
  · exact State.keepsRegs_put (State.keepsRegs_refl _) _ _ _ _ (by simp [F.GLB_SEM_TAG])
  · exact State.onlyRegs_put State.onlyRegs_refl _ _ _ _

/-- The owner releases: TAG is written, OWNER is 0, and RELEASED is set. -/
theorem does_semWrite_owner_release (hmine : s.get F.GLB_SEM_OWNER n = hostNum h + 1) (hrel : getBits data 16 16 = 1) :
    Does (.semWrite h n data) s fun t =>
      t.get F.GLB_SEM_OWNER n = 0 ∧ t.get F.GLB_SEM_TAG n = getBits data 15 0 ∧ t.bit F.GLB_SEM_EVT_RELEASED = true ∧
        s.keepsRegs t [R.GLB_SEM.off n 0, R.GLB_SEM_EVT.base] ∧ s.onlyRegs t := by
  refine does_semWrite ho ?_
  have notPba := sem_not_pbaOff n.isLt
  rw [State.semWrite_owner_release hmine hrel]
  refine ⟨?_, ?_, ?_, settled_keeps _ _ _ ?_, settled_onlyRegs ?_⟩
  · rw [settled_get _ _ _ _ _ notPba, State.get_semEvt_sem _ _ _ _ rfl rfl, State.owner_put_zero]
  · rw [settled_get _ _ _ _ _ notPba, State.get_semEvt_sem _ _ _ _ rfl rfl, State.tag_put_semOwner, State.get_put_semTag]
  · rw [settled_bit _ _ _ _ _ (not_pbaOff _ (by decide))]
    exact State.bit_evt_same _ _ _ _ (by decide) (by decide)
  · have tagged := State.keepsRegs_put (State.keepsRegs_refl (s := s) [R.GLB_SEM.off n 0, R.GLB_SEM_EVT.base]) F.GLB_SEM_TAG
      (getBits data 15 0) n 0 (by simp [F.GLB_SEM_TAG])
    exact State.keepsRegs_evt (State.keepsRegs_put tagged _ _ _ _ (by simp [F.GLB_SEM_OWNER])) _ _ _ (by
      simp [F.GLB_SEM_EVT_RELEASED, RegSpec.off, R.GLB_SEM_EVT])
  · exact State.onlyRegs_evt (State.onlyRegs_put (State.onlyRegs_put State.onlyRegs_refl _ _ _ _) _ _ _ _) _ _ _

/-- A write without RELEASE of a host that does not own the semaphore does nothing. -/
theorem does_semWrite_other_ignored (hother : s.get F.GLB_SEM_OWNER n ≠ hostNum h + 1) (hrel : getBits data 16 16 = 0) :
    Does (.semWrite h n data) s fun t => s.keepsRegs t [] ∧ s.onlyRegs t := by
  refine does_semWrite ho ?_
  rw [State.semWrite_other_ignored hother hrel]
  exact ⟨settled_keeps _ _ _ (State.keepsRegs_refl _), settled_onlyRegs State.onlyRegs_refl⟩

/-- A RELEASE of a host that does not own the semaphore is the event WRONG_REL alone. -/
theorem does_semWrite_other_release (hother : s.get F.GLB_SEM_OWNER n ≠ hostNum h + 1) (hrel : getBits data 16 16 = 1) :
    Does (.semWrite h n data) s fun t =>
      t.bit F.GLB_SEM_EVT_WRONG_REL = true ∧ s.keepsRegs t [R.GLB_SEM_EVT.base] ∧ s.onlyRegs t := by
  refine does_semWrite ho ?_
  rw [State.semWrite_other_release hother hrel]
  refine ⟨?_, settled_keeps _ _ _ ?_, settled_onlyRegs (State.onlyRegs_evt State.onlyRegs_refl _ _ _)⟩
  · rw [settled_bit _ _ _ _ _ (not_pbaOff _ (by decide))]
    exact State.bit_evt_same _ _ _ _ (by decide) (by decide)
  · exact State.keepsRegs_evt (State.keepsRegs_refl _) _ _ _ (by simp [F.GLB_SEM_EVT_WRONG_REL, RegSpec.off, R.GLB_SEM_EVT])

end

/-- Settles O10: the four cases of a write, by owner and RELEASE; the read of a held semaphore; the releases of a link's reset, one semaphore
after the other. -/
theorem semaphoreOwnership : Obligations.SemaphoreOwnership := by
  refine ⟨fun s h n data ho => ⟨fun hmine => ⟨?_, ?_⟩, fun hother => ⟨?_, ?_⟩⟩, fun s h n hr held => ?_,
    fun s host n hn hown => ?_⟩
  · exact does_semWrite_owner_tag ho hmine
  · exact does_semWrite_owner_release ho hmine
  · exact does_semWrite_other_ignored ho hother
  · exact does_semWrite_other_release ho hother
  · exact does_semClaimRead_held hr held ⟨settled_out _ _, settled_keeps _ _ _ (State.keepsRegs_of_eq _ rfl)⟩
  · exact s.semAuto_freed hn hown

end Sys2Proof.Machine
end

section
/-! PROOFS. The counter groups (18_counters_and_telemetry.md R517, R519, R522): what a write of PMC_GRP_EN does, what the clears and the additions
of a tick do to each counter, and the groups that count from the next tick. -/

namespace Sys2Proof.Machine

variable (s : State)

/-! ## A write of PMC_GRP_EN -/

/-- PMC_GRP_EN is a plain register: a write takes the eight bits of EN and keeps the rest of the word. -/
theorem State.regWrite_pmcGrpEn (host : Nat) (w : Word) : s.regWrite host R.PMC_GRP_EN 0 0 15 w =
    ([], s.setReg R.PMC_GRP_EN ((s.reg R.PMC_GRP_EN &&& ~~~bitMask 7 0) ||| (w &&& bitMask 7 0))) := rfl

/-- A field merged into a word by its mask reads as in the word it came from. -/
theorem getBits_merge_bitMask (old new : Word) (hi lo : Nat) (h : hi < 32) :
    getBits ((old &&& ~~~bitMask hi lo) ||| (new &&& bitMask hi lo)) hi lo = getBits new hi lo := by
  refine Nat.eq_of_testBit_eq fun i => ?_
  rw [getBits_testBit, getBits_testBit]
  by_cases inField : i < hi + 1 - lo
  · have masked : (bitMask hi lo).getLsbD (lo + i) = true := by
      rw [bitMask_testBit _ _ _ h, decide_eq_true_eq]
      omega
    simp [masked]
  · simp [inField]

theorem getBits_word_byte (b : Byte) : getBits (word b.toNat) 7 0 = b.toNat := by
  simp only [getBits, word, BitVec.toNat_ofNat, Nat.shiftRight_zero]
  omega

/-- The command GROUP_ENABLE_WRITE, when its write reaches the register, sets EN and does nothing else. -/
theorem does_groupEnableWrite {s : State} {h : HostId} (en : Byte) (ho : s.opens h R.PMC_GRP_EN 0 0 = true) :
    Does (.groupEnableWrite h en) s fun t =>
      t.get F.PMC_GRP_EN_EN = en.toNat ∧ t.pmc = s.pmc ∧ s.keepsRegs t [R.PMC_GRP_EN.base] := by
  refine does_of (u := s.rowWrite (hostNum h) R.PMC_GRP_EN 0 0 (word en.toNat)) rfl ?_
  rw [rowWrite_own h _ _ _ _ ho (by decide) (by rw [State.regWrite_pmcGrpEn]), State.regWrite_pmcGrpEn]
  refine ⟨?_, settled_pmc _ _, settled_keeps _ _ _ ?_⟩
  · rw [settled_get _ _ _ _ _ (not_pbaOff _ (by decide))]
    exact (State.get_setReg_same _ F.PMC_GRP_EN_EN _ _ _).trans
      ((getBits_merge_bitMask _ _ _ _ (by decide)).trans (getBits_word_byte en))
  · exact State.keepsRegs_setReg (State.keepsRegs_refl _) _ _ _ _ (by decide)

/-! ## Where the counters stand -/

theorem pmcCntLo_off (n : Nat) : R.PMC_CNT_LO.off n 0 = 0x82000 + 8 * n := by
  simp [RegSpec.off, R.PMC_CNT_LO, Nat.mul_comm]

theorem pmcCntHi_off (n : Nat) : R.PMC_CNT_HI.off n 0 = 0x82004 + 8 * n := by
  simp [RegSpec.off, R.PMC_CNT_HI, Nat.mul_comm]

/-- No counter is a PBA word: those stand below 0x82000, or above BAR0. -/
theorem pmcCnt_not_pbaOff {n : Nat} (hn : n < 512) : ¬ pbaOff (R.PMC_CNT_LO.off n 0) ∧ ¬ pbaOff (R.PMC_CNT_HI.off n 0) := by
  have outside : ∀ a ∈ pbaOffs, a < 0x82000 ∨ 0x1000000 ≤ a := by decide
  rw [pmcCntLo_off, pmcCntHi_off]
  refine ⟨not_pbaOff _ fun hp => ?_, not_pbaOff _ fun hp => ?_⟩ <;>
  · have := outside _ hp
    omega

/-- The end of a command keeps the counters. -/
theorem settled_pmcCnt (b t : State) {n : Nat} (hn : n < 512) : (settled b t).pmcCnt n = t.pmcCnt n := by
  obtain ⟨lo, hi⟩ := pmcCnt_not_pbaOff hn
  rw [State.pmcCnt, State.pmcCnt, settled_get _ _ _ _ _ lo, settled_get _ _ _ _ _ hi]

/-! ## Setting a counter -/

/-- A counter holds 48 bits of what it is set to (R517). -/
theorem State.pmcCnt_setPmcCnt_same (n v : Nat) : (s.setPmcCnt n v).pmcCnt n = v % 2 ^ 48 := by
  have apart : F.PMC_CNT_LO_COUNT.reg.off n 0 ≠ F.PMC_CNT_HI_COUNT.reg.off n 0 := by
    simp only [F.PMC_CNT_LO_COUNT, F.PMC_CNT_HI_COUNT, pmcCntLo_off, pmcCntHi_off]
    omega
  rw [State.pmcCnt, State.setPmcCnt, State.get_put_other _ _ _ _ _ _ _ _ apart, State.get_put_same _ _ _ _ _ (by decide),
    State.get_put_same _ _ _ _ _ (by decide), show F.PMC_CNT_LO_COUNT.width = 32 from rfl, show F.PMC_CNT_HI_COUNT.width = 16 from rfl]
  omega

/-- A register that is neither half of counter `n` keeps its fields when the counter is set. -/
theorem State.get_setPmcCnt_other (n v : Nat) (g : Fld) (qi qj : Nat) (hlo : g.reg.off qi qj ≠ R.PMC_CNT_LO.off n 0)
    (hhi : g.reg.off qi qj ≠ R.PMC_CNT_HI.off n 0) : (s.setPmcCnt n v).get g qi qj = s.get g qi qj := by
  rw [State.setPmcCnt, State.get_put_other _ _ _ _ _ _ _ _ hhi, State.get_put_other _ _ _ _ _ _ _ _ hlo]

@[simp] theorem State.pmcCnt_setPmc (p : PmcState) (n : Nat) : (s.setPmc p).pmcCnt n = s.pmcCnt n := rfl

theorem State.pmcCnt_setPmcCnt_other {m n : Nat} (h : m ≠ n) (v : Nat) : (s.setPmcCnt n v).pmcCnt m = s.pmcCnt m := by
  rw [State.pmcCnt, State.pmcCnt, State.get_setPmcCnt_other, State.get_setPmcCnt_other] <;>
  · simp only [F.PMC_CNT_LO_COUNT, F.PMC_CNT_HI_COUNT, pmcCntLo_off, pmcCntHi_off]
    omega

/-! ## Operations on the counters of a tick -/

/-- From `s` to `t` nothing that decides which counters count, and by how much, has changed: the registers below the counters, the groups that
count, the samples, and the events of the tick. -/
structure SameCounting (s t : State) : Prop where
  get_below : ∀ (g : Fld) (i j : Nat), g.reg.off i j < R.PMC_CNT_LO.base → t.get g i j = s.get g i j
  eff : t.pmc.eff = s.pmc.eff
  samp : t.pmc.samp = s.pmc.samp
  prev : t.pmc.prev = s.pmc.prev
  events : t.events = s.events

theorem SameCounting.refl : SameCounting s s := ⟨fun _ _ _ _ => rfl, rfl, rfl, rfl, rfl⟩

theorem SameCounting.trans {s t u : State} (h : SameCounting s t) (k : SameCounting t u) : SameCounting s u :=
  ⟨fun g i j hg => (k.get_below g i j hg).trans (h.get_below g i j hg), k.eff.trans h.eff, k.samp.trans h.samp, k.prev.trans h.prev,
    k.events.trans h.events⟩

/-- The counters' own state may change beside the groups that count and the samples. -/
theorem SameCounting.setPmc {s t : State} (h : SameCounting s t) {p : PmcState} (eff : p.eff = t.pmc.eff) (samp : p.samp = t.pmc.samp)
    (prev : p.prev = t.pmc.prev) : SameCounting s (t.setPmc p) :=
  ⟨h.get_below, eff.trans h.eff, samp.trans h.samp, prev.trans h.prev, h.events⟩

theorem SameCounting.setPmc_clear {s t : State} (h : SameCounting s t) (mask : Nat) :
    SameCounting s (t.setPmc { t.pmc with clear := mask }) := h.setPmc rfl rfl rfl

theorem SameCounting.setPmcCnt (n v : Nat) : SameCounting s (s.setPmcCnt n v) := by
  refine ⟨fun g i j hg => s.get_setPmcCnt_other n v g i j ?_ ?_, rfl, rfl, rfl, rfl⟩ <;>
  · rw [show R.PMC_CNT_LO.base = 0x82000 from rfl] at hg
    simp only [pmcCntLo_off, pmcCntHi_off]
    omega

/-- The registers of counter `n` that select what it counts stand below the counters. -/
theorem pmcSelector_off_lt {n : Nat} (hn : n < 512) : ∀ r ∈ [R.PMC_EVSEL, R.PMC_THR], r.off n 0 < R.PMC_CNT_LO.base := by
  simp only [List.mem_cons, List.not_mem_nil, or_false, forall_eq_or_imp, forall_eq, RegSpec.off, R.PMC_EVSEL, R.PMC_THR, R.PMC_CNT_LO]
  omega

/-- A counter adds the same amount after any operation on the counters (R521). -/
theorem SameCounting.pmcAmount {s t : State} (h : SameCounting s t) {n : Nat} (hn : n < 512) (busy : Nat) :
    t.pmcAmount n busy = s.pmcAmount n busy := by
  have sel : t.selector n = s.selector n := by
    have below := pmcSelector_off_lt hn R.PMC_EVSEL (by simp)
    rw [State.selector, State.selector, h.get_below _ _ _ below, h.get_below _ _ _ below, h.get_below _ _ _ below]
  have thr : t.get F.PMC_THR_THR n = s.get F.PMC_THR_THR n := h.get_below _ _ _ (pmcSelector_off_lt hn R.PMC_THR (by simp))
  simp only [State.pmcAmount, State.eventsOf, sel, thr, h.samp, h.prev, h.events]

/-- `f` acts on one counter: it changes neither another one nor what decides the counting. -/
structure OnOneCounter (f : State → Nat → State) : Prop where
  same : ∀ s n, SameCounting s (f s n)
  other : ∀ s {m n}, m ≠ n → (f s n).pmcCnt m = s.pmcCnt m

namespace OnOneCounter

variable {f : State → Nat → State} (hf : OnOneCounter f)
include hf

theorem foldl_same (l : List Nat) : SameCounting s (l.foldl f s) :=
  List.foldlRecOn l f (SameCounting.refl s) fun _ h n _ => h.trans (hf.same _ n)

/-- A counter that is not listed holds its value. -/
theorem foldl_pmcCnt_of_not_mem {l : List Nat} {n : Nat} (hn : n ∉ l) : (l.foldl f s).pmcCnt n = s.pmcCnt n :=
  List.foldlRecOn (motive := fun t => t.pmcCnt n = s.pmcCnt n) l f rfl fun _ h _ hm =>
    (hf.other _ (ne_of_mem_of_not_mem hm hn).symm).trans h

/-- A counter that is listed once changes at its turn only, and finds there its own value and the counting as they were. -/
theorem foldl_pmcCnt_of_mem {l : List Nat} (hl : l.Nodup) {n : Nat} (hn : n ∈ l) :
    ∃ u, SameCounting s u ∧ u.pmcCnt n = s.pmcCnt n ∧ (l.foldl f s).pmcCnt n = (f u n).pmcCnt n := by
  induction l generalizing s with
  | nil => cases hn
  | cons m l ih =>
    obtain ⟨hm, hl⟩ := List.nodup_cons.1 hl
    rw [List.foldl_cons]
    by_cases e : n = m
    · subst e
      exact ⟨s, SameCounting.refl s, rfl, hf.foldl_pmcCnt_of_not_mem _ hm⟩
    · obtain ⟨u, hu, hcnt, hturn⟩ := ih (f s m) hl (List.mem_of_ne_of_mem e hn)
      exact ⟨u, (hf.same s m).trans hu, hcnt.trans (hf.other s e), hturn⟩

end OnOneCounter

theorem mem_groupCounters {mask n : Nat} : n ∈ groupCounters mask ↔ n < 512 ∧ mask.testBit (n / 64) = true := by
  simp [groupCounters]

theorem nodup_groupCounters (mask : Nat) : (groupCounters mask).Nodup := List.nodup_range.filter _

theorem not_mem_groupCounters {mask n : Nat} (h : mask.testBit (n / 64) = false) : n ∉ groupCounters mask := fun hn => by
  simp [(mem_groupCounters.1 hn).2] at h

/-! ## The clears at the start of a tick (R522) -/

theorem onOneCounter_clear : OnOneCounter fun s n => s.setPmcCnt n 0 :=
  ⟨fun s n => SameCounting.setPmcCnt s n 0, fun s _ _ h => s.pmcCnt_setPmcCnt_other h 0⟩

theorem State.pmcClears_same : SameCounting s s.pmcClears := by
  unfold State.pmcClears
  exact (onOneCounter_clear.foldl_same s _).setPmc_clear 0

/-- A counter of a group that is not being cleared holds its value. -/
theorem State.pmcCnt_pmcClears {s : State} {n : Nat} (h : s.pmc.clear.testBit (n / 64) = false) : s.pmcClears.pmcCnt n = s.pmcCnt n := by
  unfold State.pmcClears
  rw [State.pmcCnt_setPmc]
  exact onOneCounter_clear.foldl_pmcCnt_of_not_mem s (not_mem_groupCounters h)

/-! ## The additions of a tick (R517, R521) -/

theorem State.pmcAdd_eq (n a : Nat) : s.pmcAdd n a = if 2 ^ 48 ≤ s.pmcCnt n + a then
    (s.setPmcCnt n ((s.pmcCnt n + a) % 2 ^ 48)).setPmc { s.pmc with wraps := s.pmc.wraps ++ [n] }
    else s.setPmcCnt n ((s.pmcCnt n + a) % 2 ^ 48) := rfl

/-- Beside the counter's own value, an addition may note a wrap. -/
theorem State.pmcAdd_wraps (n a : Nat) : ∃ l, s.pmcAdd n a =
    (s.setPmcCnt n ((s.pmcCnt n + a) % 2 ^ 48)).setPmc { s.pmc with wraps := l } := by
  rw [State.pmcAdd_eq]
  split
  · exact ⟨_, rfl⟩
  · exact ⟨s.pmc.wraps, rfl⟩

theorem State.pmcCnt_pmcAdd_same (n a : Nat) : (s.pmcAdd n a).pmcCnt n = (s.pmcCnt n + a) % 2 ^ 48 := by
  obtain ⟨l, e⟩ := s.pmcAdd_wraps n a
  rw [e, State.pmcCnt_setPmc, State.pmcCnt_setPmcCnt_same, Nat.mod_mod]

theorem onOneCounter_pmcAdd (busy : Nat) : OnOneCounter fun s n => s.pmcAdd n (s.pmcAmount n busy) := by
  refine ⟨fun s n => ?_, fun s m n h => ?_⟩ <;> obtain ⟨l, e⟩ := s.pmcAdd_wraps n (s.pmcAmount n busy)
  · rw [e]
    exact (SameCounting.setPmcCnt s n _).setPmc rfl rfl rfl
  · rw [e, State.pmcCnt_setPmc, State.pmcCnt_setPmcCnt_other _ h]

/-- The additions of a tick: every counter of a group that counts adds its amount, but in PEWTER (R532). -/
def State.pmcAdds (s : State) (busy : Nat) : State :=
  if s.mode = modePEWTER then s else (groupCounters s.pmc.eff).foldl (fun s n => s.pmcAdd n (s.pmcAmount n busy)) s

theorem State.pmcAdds_same (busy : Nat) : SameCounting s (s.pmcAdds busy) := by
  unfold State.pmcAdds
  split
  · exact SameCounting.refl s
  · exact (onOneCounter_pmcAdd busy).foldl_same s _

section
variable {s} {n busy : Nat}

/-- A counter of a group that does not count holds its value. -/
theorem State.pmcCnt_pmcAdds_stopped (h : s.pmc.eff.testBit (n / 64) = false) : (s.pmcAdds busy).pmcCnt n = s.pmcCnt n := by
  unfold State.pmcAdds
  split
  · rfl
  · exact (onOneCounter_pmcAdd busy).foldl_pmcCnt_of_not_mem s (not_mem_groupCounters h)

/-- A counter of a group that counts adds its amount modulo 2^48. -/
theorem State.pmcCnt_pmcAdds_counting (hn : n < 512) (h : s.pmc.eff.testBit (n / 64) = true) (hm : s.mode ≠ modePEWTER) :
    (s.pmcAdds busy).pmcCnt n = (s.pmcCnt n + s.pmcAmount n busy) % 2 ^ 48 := by
  obtain ⟨u, same, hcnt, hturn⟩ := (onOneCounter_pmcAdd busy).foldl_pmcCnt_of_mem s (nodup_groupCounters s.pmc.eff)
    (mem_groupCounters.2 ⟨hn, h⟩)
  rw [State.pmcAdds, if_neg hm, hturn, State.pmcCnt_pmcAdd_same, hcnt, same.pmcAmount hn]

end

/-! ## A tick -/

theorem State.pmcCnt_pmcSample (n : Nat) : ({ s.pmcSample with events := [] } : State).pmcCnt n = s.pmcCnt n := rfl

theorem State.counterTick_eq (busy : Nat) : s.counterTick busy = { (s.pmcClears.pmcAdds busy).pmcSample with events := [] } := rfl

/-- The samples at the end of a tick leave the counters to the clears and the additions. -/
theorem State.pmcCnt_counterTick (busy n : Nat) : (s.counterTick busy).pmcCnt n = (s.pmcClears.pmcAdds busy).pmcCnt n := by
  rw [State.counterTick_eq, State.pmcCnt_pmcSample]

/-- From the next tick the groups count that PMC_GRP_EN names (R519). -/
theorem State.eff_counterTick (busy : Nat) : (s.counterTick busy).pmc.eff = s.get F.PMC_GRP_EN_EN :=
  (s.pmcClears_same.trans (s.pmcClears.pmcAdds_same busy)).get_below F.PMC_GRP_EN_EN 0 0 (by decide)

section
variable {s} {n : Nat} (busy : Nat) (hc : s.pmc.clear.testBit (n / 64) = false)
include hc

theorem State.pmcCnt_counterTick_stopped (h : s.pmc.eff.testBit (n / 64) = false) : (s.counterTick busy).pmcCnt n = s.pmcCnt n := by
  rw [← s.pmcClears_same.eff] at h
  rw [State.pmcCnt_counterTick, State.pmcCnt_pmcAdds_stopped h, State.pmcCnt_pmcClears hc]

theorem State.pmcCnt_counterTick_counting (hn : n < 512) (h : s.pmc.eff.testBit (n / 64) = true) (hm : s.mode ≠ modePEWTER) :
    (s.counterTick busy).pmcCnt n = (s.pmcCnt n + s.pmcAmount n busy) % 2 ^ 48 := by
  have cleared := s.pmcClears_same
  have mode : s.pmcClears.mode = s.mode := cleared.get_below F.GLB_MODE_CUR 0 0 (by decide)
  rw [← cleared.eff] at h
  rw [← mode] at hm
  rw [State.pmcCnt_counterTick, State.pmcCnt_pmcAdds_counting hn h hm, State.pmcCnt_pmcClears hc, cleared.pmcAmount hn]

end

/-- Settles O50: the write changes EN alone; the tick takes the groups from EN at its end, after each counter of the groups that counted until
then has added once. -/
theorem counterGroups : Obligations.CounterGroups := by
  refine ⟨fun s h en ho => does_groupEnableWrite en ho, fun s busy => does_of (u := s.counterTick busy) rfl ⟨?_, fun n hn hc => ⟨?_, ?_⟩⟩⟩
  · rw [settled_pmc, State.eff_counterTick]
  · rw [settled_pmcCnt _ _ hn]
    exact State.pmcCnt_counterTick_stopped busy hc
  · rw [settled_pmcCnt _ _ hn]
    exact State.pmcCnt_counterTick_counting busy hc hn

end Sys2Proof.Machine
end

section
set_option Elab.async false
/-! PROOFS. The queue of commands and the message vectors: what every step does whatever its command is (95_what_each_step_holds.md; R452), and
the state that a POWER_ON reset leaves (R7, R570). -/

namespace Sys2Proof.Machine

variable (s : State)

/-! ## A step -/

/-- With a command at the front of the queue a step is the command's meaning, run with the queue's rest. -/
theorem step_cons (c : Instr) (l : List Instr) : step { s with pending := c :: l } = exec c { s with pending := l } := rfl

theorem step_of_idle {s : State} (h : s.pending = []) : step s = .next s := by rw [step, h]

theorem step_of_waiting {s : State} {c : Instr} {l : List Instr} (h : s.pending = c :: l) : step s = exec c { s with pending := l } := by rw [step, h]

/-- Every command completes, and ends in a settled state. -/
theorem eq_settled_of_exec {c : Instr} {s t : State} (h : exec c s = .next t) : ∃ u, t = settled s u := by
  obtain ⟨u, hu⟩ := exec_settled c s
  rw [hu] at h
  exact ⟨u, (Host.Outcome.next.inj h).symm⟩

/-- Every step completes and takes the command at the front of the queue. -/
theorem step_drops_front : ∃ t, step s = .next t ∧ t.pending = s.pending.drop 1 := by
  cases h : s.pending with
  | nil => exact ⟨s, step_of_idle h, h⟩
  | cons c l =>
    obtain ⟨u, hu⟩ := exec_settled c { s with pending := l }
    exact ⟨_, (step_of_waiting h).trans hu, settled_pending _ u⟩

/-- Settles O1: the two cases of a step, by its queue. -/
theorem stepRunsFront : Obligations.StepRunsFront :=
  ⟨fun c s => step_cons s c s.pending, fun _ h => step_of_idle h⟩

/-- Settles O2: every command ends in a settled state, whose queue is the one it began with. -/
theorem execKeepsQueue : Obligations.ExecKeepsQueue := by
  intro c s t h
  obtain ⟨u, rfl⟩ := eq_settled_of_exec h
  exact settled_pending s u

/-! ## Runs -/

/-- Settles O3, by induction on the number of steps: each step takes one command. -/
theorem runConsumesQueue : Obligations.RunConsumesQueue := by
  intro n
  induction n with
  | zero => exact fun s => ⟨s, rfl, rfl⟩
  | succ n ih =>
    intro s
    obtain ⟨u, hu, front⟩ := step_drops_front s
    obtain ⟨t, ht, rest⟩ := ih u
    refine ⟨t, ?_, ?_⟩
    · have first : core.step s = .next u := hu
      rw [← ht]
      simp only [Host.Core.run, first]
    · rw [rest, front, List.drop_drop, Nat.add_comm]

/-- Settles O4, by induction on the number of steps: every step answers a next state. -/
theorem blockNeverStops : Obligations.BlockNeverStops := by
  intro n
  induction n with
  | zero => exact fun _ => trivial
  | succ n ih =>
    intro s
    obtain ⟨u, hu, -⟩ := step_drops_front s
    exact ⟨u, hu, ih u⟩

/-! ## The message vectors (R452) -/

/-- Whether the vectors are armed follows the registers and the hosts' ports, not the queue. -/
theorem VectorsArmed_pending {s : State} (h : s.VectorsArmed) (l : List Instr) : ({ s with pending := l } : State).VectorsArmed := h

/-- A settled state has its vectors armed. -/
theorem settled_vectorsArmed (b t : State) : (settled b t).VectorsArmed := VectorsArmed_pending (vectorsSettle_armed t) b.pending

/-- Settles O5: an idle step keeps the state, and a command ends in a settled one, whose vectors are armed whatever they were before. -/
theorem vectorsStayArmed : Obligations.VectorsStayArmed := by
  intro s t armed h
  cases hq : s.pending with
  | nil =>
    rw [step_of_idle hq] at h
    exact Host.Outcome.next.inj h ▸ armed
  | cons c l =>
    rw [step_of_waiting hq] at h
    obtain ⟨u, rfl⟩ := eq_settled_of_exec h
    exact settled_vectorsArmed _ u

/-! ## The state after a POWER_ON reset (R7, R570) -/

/-- With no register written, every register holds its Reset value. -/
theorem reset_reg (r : RegSpec) (i j : Nat) : State.reset.reg r i j = r.resetWord := rfl

/-- No message of a vector has been sent, and no PBA bit is set. -/
theorem reset_vectorBusy (h v : Nat) : State.reset.vectorBusy h v = false := by
  have sent : (State.reset.hostPort h).sent = 0 := by unfold State.hostPort; split <;> rfl
  have word : State.reset.get F.MSIX_PBA_PBA (v / 32) h = 0 := rfl
  rw [State.vectorBusy, State.pba, word, sent, Nat.zero_testBit, Nat.zero_testBit]
  rfl

/-- Settles O6: no vector is busy after the reset, pending or not. -/
theorem vectorsArmedAtReset : Obligations.VectorsArmedAtReset := fun h _ v _ _ => reset_vectorBusy h v

/-- No byte of the service SRAM is listed, and none is lost. -/
theorem reset_sramByte (a : Nat) : State.reset.sramByte a = 0 := by
  rw [State.sramByte_eq _ _ (by decide)]
  rfl

/-- Settles O7: the state after the reset lists nothing, so that every part reads as its default. -/
theorem resetState : Obligations.ResetState :=
  ⟨reset_reg, by decide, fun _ => rfl, fun _ => rfl, reset_sramByte, rfl, rfl⟩

/-! ## The 40-bit timestamp (R303) -/

/-- A time that is a natural number of nanoseconds has that number, modulo 2^40, as its stamp. -/
theorem ts40_natCast (n : Nat) : ts40 (n : Int) = n % 2 ^ 40 := by
  unfold ts40
  omega

theorem domNs_eq_natCast (d : Domain) : domNs d = ((d.sec * 1000000000 + d.ns : Nat) : Int) := by
  unfold domNs
  omega

/-- The rounding adds the whole nanosecond that a FRAC of one half or more is worth. -/
theorem domRound_eq_natCast (d : Domain) : domRound d = ((d.sec * 1000000000 + d.ns + (if 2 ^ 47 ≤ d.frac then 1 else 0) : Nat) : Int) := by
  rw [domRound, domNs_eq_natCast]
  split <;> rfl

/-- Settles O16: both times are natural numbers of nanoseconds. -/
theorem timestampForm : Obligations.TimestampForm :=
  ⟨fun s => by rw [State.now, domNs_eq_natCast, ts40_natCast], fun d => by rw [domRound_eq_natCast, ts40_natCast]⟩

end Sys2Proof.Machine
end

section
set_option Elab.async false
/-! PROOFS. Where the registers stand: two registers whose extents are apart share no offset, nor do two entries of one array. And what a row of the
command table that reaches its register leaves (R9, R411). -/

namespace Sys2Proof.Machine

/-! ## Extents of register arrays -/

/-- How far apart two entries stand whose first index differs by one. -/
def RegSpec.rowStride (r : RegSpec) : Nat :=
  match r.dims with
  | [] => if r.hostPrivate then 0x1000000 else 0
  | (_, s) :: _ => s

/-- How far apart two entries stand whose second index differs by one. -/
def RegSpec.colStride (r : RegSpec) : Nat :=
  match r.dims with
  | [] => 0
  | [_] => if r.hostPrivate then 0x1000000 else 0
  | _ :: (_, t) :: _ => t

/-- How many values the first index has. -/
def RegSpec.rows (r : RegSpec) : Nat :=
  match r.dims with
  | [] => if r.hostPrivate then 2 else 1
  | (n, _) :: _ => n

/-- How many values the second index has. -/
def RegSpec.cols (r : RegSpec) : Nat :=
  match r.dims with
  | [] => 1
  | [_] => if r.hostPrivate then 2 else 1
  | _ :: (m, _) :: _ => m

/-- The indices name an entry of the array. -/
abbrev RegSpec.inside (r : RegSpec) (i j : Nat) : Prop := i < r.rows ∧ j < r.cols

theorem RegSpec.off_eq (r : RegSpec) (i j : Nat) : r.off i j = r.base + i * r.rowStride + j * r.colStride := by
  unfold RegSpec.off RegSpec.rowStride RegSpec.colStride
  split <;> simp_all

/-- What the entries of an array span modulo `m`: an index whose stride is a multiple of `m` adds nothing. -/
def RegSpec.spread (r : RegSpec) (m : Nat) : Nat :=
  (if r.rowStride % m = 0 then 0 else (r.rows - 1) * r.rowStride) + (if r.colStride % m = 0 then 0 else (r.cols - 1) * r.colStride)

theorem mul_mod_le_spread {i n s m : Nat} (h : i < n) :
    ∃ a ≤ (if s % m = 0 then 0 else (n - 1) * s), i * s % m = a % m := by
  by_cases hs : s % m = 0
  · exact ⟨0, by simp, by rw [Nat.mul_mod, hs]; simp⟩
  · exact ⟨i * s, by rw [if_neg hs]; exact Nat.mul_le_mul_right _ (by omega), rfl⟩

theorem RegSpec.off_mod {r : RegSpec} {i j m : Nat} (h : r.inside i j) (fits : r.base % m + r.spread m < m) :
    r.base % m ≤ r.off i j % m ∧ r.off i j % m ≤ r.base % m + r.spread m := by
  obtain ⟨a, ha, ea⟩ := mul_mod_le_spread (s := r.rowStride) (m := m) h.1
  obtain ⟨b, hb, eb⟩ := mul_mod_le_spread (s := r.colStride) (m := m) h.2
  have sum : a + b ≤ r.spread m := Nat.add_le_add ha hb
  have e : r.off i j % m = (r.base % m + a + b) % m := by
    rw [RegSpec.off_eq, Nat.add_mod, Nat.add_mod r.base, ea, eb]
    simp [Nat.add_mod]
  have small : r.base % m + a + b < m := by omega
  rw [e, Nat.mod_eq_of_lt small]
  omega

/-- The last offset of an array. -/
def RegSpec.top (r : RegSpec) : Nat := r.base + (r.rows - 1) * r.rowStride + (r.cols - 1) * r.colStride

theorem RegSpec.off_le_top {r : RegSpec} {i j : Nat} (h : r.inside i j) : r.off i j ≤ r.top := by
  rw [RegSpec.off_eq, RegSpec.top]
  have hi := Nat.mul_le_mul_right r.rowStride (show i ≤ r.rows - 1 by omega)
  have hj := Nat.mul_le_mul_right r.colStride (show j ≤ r.cols - 1 by omega)
  omega

theorem RegSpec.base_le_off (r : RegSpec) (i j : Nat) : r.base ≤ r.off i j := by
  rw [RegSpec.off_eq]
  omega

/-- Two arrays keep apart modulo `m`. -/
def apartMod (r q : RegSpec) (m : Nat) : Bool :=
  decide (r.base % m + r.spread m < m) && decide (q.base % m + q.spread m < m) &&
    (decide (r.base % m + r.spread m < q.base % m) || decide (q.base % m + q.spread m < r.base % m))

/-- Two arrays share no offset: one ends before the other begins, or they are interleaved. -/
def apart (r q : RegSpec) : Bool :=
  decide (r.top < q.base) || decide (q.top < r.base) || [r.rowStride, q.rowStride, r.colStride, q.colStride].any (apartMod r q)

theorem off_ne {r q : RegSpec} {i j k l : Nat} (h : apart r q = true) (hr : r.inside i j) (hq : q.inside k l) : r.off i j ≠ q.off k l := by
  simp only [apart, Bool.or_eq_true, decide_eq_true_eq, List.any_eq_true] at h
  have hrt := RegSpec.off_le_top hr
  have hqt := RegSpec.off_le_top hq
  have hrb := r.base_le_off i j
  have hqb := q.base_le_off k l
  rcases h with (h | h) | ⟨m, -, h⟩
  · omega
  · omega
  · simp only [apartMod, Bool.and_eq_true, Bool.or_eq_true, decide_eq_true_eq] at h
    obtain ⟨⟨fr, fq⟩, h⟩ := h
    obtain ⟨r1, r2⟩ := RegSpec.off_mod hr fr
    obtain ⟨q1, q2⟩ := RegSpec.off_mod hq fq
    intro e
    rw [e] at r1 r2
    omega

/-- The entries of an array stand apart from each other. -/
def RegSpec.spaced (r : RegSpec) : Bool :=
  (decide ((r.cols - 1) * r.colStride < r.rowStride) || r.rows == 1) && (r.cols == 1 || decide (0 < r.colStride)) ||
    (decide ((r.rows - 1) * r.rowStride < r.colStride) || r.cols == 1) && (r.rows == 1 || decide (0 < r.rowStride))

theorem rows_first_inj {i j k l n s t : Nat} (h : (n - 1) * t < s) (hj : j < n) (hl : l < n) (e : i * s + j * t = k * s + l * t) : i = k := by
  have hj := Nat.mul_le_mul_right t (show j ≤ n - 1 by omega)
  have hl := Nat.mul_le_mul_right t (show l ≤ n - 1 by omega)
  rcases Nat.lt_trichotomy i k with lt | eq | gt
  · have := Nat.mul_le_mul_right s (show i + 1 ≤ k by omega)
    rw [Nat.add_mul] at this
    omega
  · exact eq
  · have := Nat.mul_le_mul_right s (show k + 1 ≤ i by omega)
    rw [Nat.add_mul] at this
    omega

theorem off_inj {r : RegSpec} {i j k l : Nat} (h : r.spaced = true) (hr : r.inside i j) (hq : r.inside k l) (e : r.off i j = r.off k l) :
    i = k ∧ j = l := by
  rw [RegSpec.off_eq, RegSpec.off_eq] at e
  simp only [RegSpec.spaced, Bool.or_eq_true, Bool.and_eq_true, decide_eq_true_eq, beq_iff_eq] at h
  rcases h with ⟨h, h'⟩ | ⟨h, h'⟩
  · have hik : i = k := by
      rcases h with h | h
      · exact rows_first_inj h hr.2 hq.2 (by omega)
      · have := hr.1; have := hq.1; omega
    refine ⟨hik, ?_⟩
    subst hik
    rcases h' with h' | h'
    · have := hr.2; have := hq.2; omega
    · exact Nat.eq_of_mul_eq_mul_right h' (by omega)
  · have hjl : j = l := by
      rcases h with h | h
      · exact rows_first_inj h hr.1 hq.1 (by omega)
      · have := hr.2; have := hq.2; omega
    refine ⟨?_, hjl⟩
    subst hjl
    rcases h' with h' | h'
    · have := hr.1; have := hq.1; omega
    · exact Nat.eq_of_mul_eq_mul_right h' (by omega)

/-- Two entries of one array share no offset. -/
theorem off_ne_of_idx {r : RegSpec} {i j k l : Nat} (h : r.spaced = true) (hr : r.inside i j) (hq : r.inside k l) (ne : i ≠ k ∨ j ≠ l) :
    r.off i j ≠ r.off k l := fun e => by
  obtain ⟨hi, hj⟩ := off_inj h hr hq e
  exact ne.elim (· hi) (· hj)

/-- A register apart from the PBA words is none of them. -/
theorem not_pba {r : RegSpec} {i j : Nat} (h : apart r R.MSIX_PBA = true) (hr : r.inside i j) : ¬ pbaOff (r.off i j) := by
  rintro ⟨k, x, hx, hk, e⟩
  exact off_ne h hr ⟨hk, hx⟩ e

/-! ## Registers that are apart whatever their indices -/

/-- The strides of an array are multiples of `m`. -/
def RegSpec.multiples (r : RegSpec) (m : Nat) : Bool := r.rowStride % m == 0 && r.colStride % m == 0

theorem RegSpec.off_mod_of_multiples {r : RegSpec} {m : Nat} (h : r.multiples m = true) (i j : Nat) : r.off i j % m = r.base % m := by
  simp only [RegSpec.multiples, Bool.and_eq_true, beq_iff_eq] at h
  rw [RegSpec.off_eq, Nat.add_mod, Nat.add_mod r.base, Nat.mul_mod i, Nat.mul_mod j, h.1, h.2]
  simp

/-- Two arrays share no offset, at any indices: a register without indices stands below an array, or they are interleaved entry by entry. -/
def free (r q : RegSpec) : Bool :=
  r.multiples 0 && decide (r.base < q.base) || q.multiples 0 && decide (q.base < r.base) ||
    [r.rowStride, q.rowStride, r.colStride, q.colStride].any fun m => r.multiples m && q.multiples m && r.base % m != q.base % m

theorem RegSpec.off_of_multiples_zero {r : RegSpec} (h : r.multiples 0 = true) (i j : Nat) : r.off i j = r.base := by
  simpa using RegSpec.off_mod_of_multiples h i j

theorem off_ne_of_free {r q : RegSpec} (h : free r q = true) (i j k l : Nat) : r.off i j ≠ q.off k l := by
  simp only [free, Bool.or_eq_true, Bool.and_eq_true, decide_eq_true_eq, List.any_eq_true, bne_iff_ne] at h
  rcases h with (⟨single, below⟩ | ⟨single, below⟩) | ⟨m, -, ⟨hr, hq⟩, ne⟩
  · have := q.base_le_off k l
    rw [RegSpec.off_of_multiples_zero single]
    omega
  · have := r.base_le_off i j
    rw [RegSpec.off_of_multiples_zero single]
    omega
  · intro e
    have := RegSpec.off_mod_of_multiples hr i j
    rw [e, RegSpec.off_mod_of_multiples hq] at this
    exact ne this.symm

/-- A register is no PBA word, at any indices. -/
def pbaFree (r : RegSpec) : Bool :=
  [0, r.rowStride, r.colStride].any fun m => r.multiples m && pbaOffs.all fun a => a % m != r.base % m

theorem not_pba_of_free {r : RegSpec} (h : pbaFree r = true) (i j : Nat) : ¬ pbaOff (r.off i j) := fun hp => by
  simp only [pbaFree, List.any_eq_true, Bool.and_eq_true, List.all_eq_true, bne_iff_ne] at h
  obtain ⟨m, -, hr, ne⟩ := h
  exact ne _ (pbaOff_mem _ hp) (RegSpec.off_mod_of_multiples hr i j)

/-! ## What an update of a register leaves in the fields of others

The side conditions name registers, not indices, so that each is decided. -/

variable (s : State)

@[simp] theorem State.reg_setReg_free {r q : RegSpec} (h : free q r = true) (v : Word) (i j k l : Nat) : (s.setReg r v i j).reg q k l = s.reg q k l :=
  s.reg_setReg_other r q v i j k l (off_ne_of_free h _ _ _ _)

@[simp] theorem State.get_setReg_free {r : RegSpec} {g : Fld} (h : free g.reg r = true) (v : Word) (i j k l : Nat) :
    (s.setReg r v i j).get g k l = s.get g k l := s.get_setReg_other r g v i j k l (off_ne_of_free h _ _ _ _)

@[simp] theorem State.reg_put_free {f : Fld} {q : RegSpec} (h : free q f.reg = true) (v i j k l : Nat) : (s.put f v i j).reg q k l = s.reg q k l :=
  s.reg_put_other f q v i j k l (off_ne_of_free h _ _ _ _)

@[simp] theorem State.get_put_free {f g : Fld} (h : free g.reg f.reg = true) (v i j k l : Nat) : (s.put f v i j).get g k l = s.get g k l :=
  s.get_put_other f g v i j k l (off_ne_of_free h _ _ _ _)

@[simp] theorem State.reg_evt_free {f : Fld} {q : RegSpec} (h : free q f.reg = true) (i j k l : Nat) : (s.evt f i j).reg q k l = s.reg q k l :=
  s.reg_evt_other f q i j k l (off_ne_of_free h _ _ _ _)

@[simp] theorem State.get_evt_free {f g : Fld} (h : free g.reg f.reg = true) (i j k l : Nat) : (s.evt f i j).get g k l = s.get g k l :=
  s.get_evt_other f g i j k l (off_ne_of_free h _ _ _ _)

@[simp] theorem State.reg_inc_free {f : Fld} {q : RegSpec} (h : free q f.reg = true) (n i j k l : Nat) : (s.inc f i j n).reg q k l = s.reg q k l :=
  s.reg_put_free h _ i j k l

@[simp] theorem State.get_inc_free {f g : Fld} (h : free g.reg f.reg = true) (n i j k l : Nat) : (s.inc f i j n).get g k l = s.get g k l :=
  s.get_put_free h _ i j k l

@[simp] theorem State.get_evtIf_free {f g : Fld} (h : free g.reg f.reg = true) (c : Bool) (i j k l : Nat) : (s.evtIf c f i j).get g k l = s.get g k l :=
  s.get_evtIf_other c f g i j k l (off_ne_of_free h _ _ _ _)

@[simp] theorem settled_get_free (b t : State) {g : Fld} (h : pbaFree g.reg = true) (i j : Nat) : (settled b t).get g i j = t.get g i j :=
  settled_get b t g i j (not_pba_of_free h i j)

@[simp] theorem settled_bit_free (b t : State) {g : Fld} (h : pbaFree g.reg = true) (i j : Nat) : (settled b t).bit g i j = t.bit g i j :=
  settled_bit b t g i j (not_pba_of_free h i j)

@[simp] theorem settled_reg_free (b t : State) {q : RegSpec} (h : pbaFree q = true) (i j : Nat) : (settled b t).reg q i j = t.reg q i j :=
  settled_reg b t q i j (not_pba_of_free h i j)

@[simp] theorem State.bit_put_free {f g : Fld} (h : free g.reg f.reg = true) (v i j k l : Nat) : (s.put f v i j).bit g k l = s.bit g k l := by
  rw [State.bit, s.get_put_free h, State.bit]

@[simp] theorem State.bit_evt_free {f g : Fld} (h : free g.reg f.reg = true) (i j k l : Nat) : (s.evt f i j).bit g k l = s.bit g k l := by
  rw [State.bit, s.get_evt_free h, State.bit]

/-- Two fields of one register have no bit in common. -/
def besideFld (f g : Fld) : Bool := decide (g.reg = f.reg) && decide (f.hi < 32) && (decide (f.hi < g.lo) || decide (g.hi < f.lo))

theorem besideFld_iff {f g : Fld} : besideFld f g = true ↔ (g.reg = f.reg ∧ f.hi < 32) ∧ (f.hi < g.lo ∨ g.hi < f.lo) := by
  simp [besideFld]

@[simp] theorem State.get_put_beside {f g : Fld} (h : besideFld f g = true) (v i j : Nat) : (s.put f v i j).get g i j = s.get g i j := by
  obtain ⟨⟨hr, hf⟩, hd⟩ := besideFld_iff.1 h
  exact s.get_put_disjoint f g v i j hr hf hd

@[simp] theorem State.bit_put_beside {f g : Fld} (h : besideFld f g = true) (v i j : Nat) : (s.put f v i j).bit g i j = s.bit g i j := by
  rw [State.bit, s.get_put_beside h, State.bit]

@[simp] theorem State.get_evt_beside {f g : Fld} (h : besideFld f g = true) (hf : f.hi < 24) (hg : g.hi < 24) (i j : Nat) :
    (s.evt f i j).get g i j = s.get g i j := by
  obtain ⟨⟨hr, -⟩, hd⟩ := besideFld_iff.1 h
  exact s.get_evt_disjoint f g i j hr hf hg hd

/-- A value that fits its field is read back. -/
@[simp] theorem State.get_put_fits {f : Fld} {v : Nat} (h : f.hi < 32) (hv : v < 2 ^ f.width) (i j : Nat) : (s.put f v i j).get f i j = v := by
  rw [s.get_put_same f v i j h, Nat.mod_eq_of_lt hv]

@[simp] theorem State.bit_put_one {f : Fld} (h : f.hi < 32) (hw : 1 < 2 ^ f.width) (i j : Nat) : (s.put f 1 i j).bit f i j = true := by
  rw [State.bit, s.get_put_fits h hw]
  rfl

@[simp] theorem State.bit_put_zero {f : Fld} (h : f.hi < 32) (i j : Nat) : (s.put f 0 i j).bit f i j = false := by
  rw [State.bit, s.get_put_same f 0 i j h, Nat.zero_mod]
  rfl

theorem State.get_lt (f : Fld) (i j : Nat) : s.get f i j < 2 ^ f.width := getBits_lt ..

/-! ## Rows of the command table that reach their register -/

variable {s}

/-- A row whose write sets no flag is the register's own write, but for the twin link, which may carry it to the peer (R411). -/
theorem does_rowWrite {c : Instr} {h : HostId} {r : RegSpec} {i j : Nat} {w : Word} {u : State} {P : State → Prop}
    (he : exec c s = finish s (s.rowWrite (hostNum h) r i j w)) (ho : s.opens h r i j = true)
    (hw : s.regWrite (hostNum h) r i j 15 w = ([], u)) (hp : ∀ x, P (settled s { u with twn := x })) : Does c s P := by
  obtain ⟨x, hx⟩ := rowWrite_mirrored h r i j w ho (by rw [hw])
  rw [hw] at hx
  exact does_of he (hx ▸ hp x)

/-- A row whose write sets no flag, of a register that is not mirrored, is the register's own write. -/
theorem does_rowWrite_own {c : Instr} {h : HostId} {r : RegSpec} {i j : Nat} {w : Word} {u : State} {P : State → Prop}
    (he : exec c s = finish s (s.rowWrite (hostNum h) r i j w)) (ho : s.opens h r i j = true) (hm : mirrored r = false)
    (hw : s.regWrite (hostNum h) r i j 15 w = ([], u)) (hp : P (settled s u)) : Does c s P := by
  have hx := rowWrite_own h r i j w ho hm (by rw [hw])
  rw [hw] at hx
  exact does_of he (hx ▸ hp)

/-- A row that reads its register returns the word read, after the effects of the read. -/
theorem does_rowRead {c : Instr} {h : HostId} {r : RegSpec} {i j : Nat} {v : Word} {u : State} {P : State → Prop}
    (he : exec c s = finish s (s.rowRead (hostNum h) r i j)) (hr : s.reaches h r i j = true)
    (hv : s.regRead (hostNum h) (r.addr i j) r i j = (v, u))
    (hp : P (settled s (u.emit (.readData (hostNum h) (BitVec.ofNat 64 v.toNat))))) : Does c s P := by
  have hx := rowRead_reaches h r i j hr
  rw [hv] at hx
  exact does_of he (hx ▸ hp)

end Sys2Proof.Machine
end

section
set_option Elab.async false
/-! PROOFS. Accesses of a host to BAR0 and BAR2 (00_scope.md R8 to R19; 15_host_ports_and_registers.md R435 to R447): the checks of an access in
their order, and what an access does that passes them. -/

namespace Sys2Proof.Machine

/-! ## The end of a command and what has been driven out -/

theorem State.vectorSettle_emit (s : State) (h v : Nat) (o : Out) : (s.emit o).vectorSettle h v = (s.vectorSettle h v).emit o := by
  have same : ((s.emit o).vectorBusy h v && !(s.emit o).vectorPending h v) = (s.vectorBusy h v && !s.vectorPending h v) := rfl
  have host : ∀ x, (s.emit o).setHost h x = (s.setHost h x).emit o := fun x => by unfold State.setHost; split <;> rfl
  unfold State.vectorSettle
  rw [same]
  split
  · rw [host]
    rfl
  · rfl

theorem foldl_vectorSettle_emit (h : Nat) (l : List Nat) (s : State) (o : Out) :
    l.foldl (fun s v => State.vectorSettle s h v) (s.emit o) = (l.foldl (fun s v => State.vectorSettle s h v) s).emit o := by
  induction l generalizing s with
  | nil => rfl
  | cons v l ih => rw [List.foldl_cons, State.vectorSettle_emit, ih, List.foldl_cons]

/-- What a command drives out at its end does not change how the vectors settle. -/
theorem settled_emit (b s : State) (o : Out) : settled b (s.emit o) = (settled b s).emit o := by
  unfold settled State.vectorsSettle
  rw [foldl_vectorSettle_emit, foldl_vectorSettle_emit]
  rfl

/-! ## A register at an offset -/

/-- The registers of BAR0 have strides, and no two indices beside a host's. -/
theorem RegSpec.off_of_index {r : RegSpec} {a i j : Nat} (h : r.index a = some (i, j)) (hp : r.hostPrivate = false) : r.off i j = a := by
  unfold RegSpec.index at h
  unfold RegSpec.off
  split at h
  · split at h
    · cases h
      simp [*]
    · cases h
  · next n s e =>
    dsimp only at h
    split at h
    · next c =>
      simp only [Option.some.injEq, Prod.mk.injEq] at h
      obtain ⟨rfl, rfl⟩ := h
      obtain ⟨hb, hs, hn⟩ := c
      have := Nat.div_mul_cancel (Nat.dvd_of_mod_eq_zero hs)
      rw [Nat.zero_mul]
      omega
    · cases h
  · next n s m t rest e =>
    dsimp only at h
    split at h
    · next c =>
      simp only [Option.some.injEq, Prod.mk.injEq] at h
      obtain ⟨rfl, rfl⟩ := h
      obtain ⟨hb, hs, ht, hm⟩ := c
      have := Nat.div_mul_cancel (Nat.dvd_of_mod_eq_zero ht)
      have := Nat.div_add_mod' (a - r.base) s
      omega
    · cases h

theorem index_of_regAt {a : Nat} {r : RegSpec} {i j : Nat} (h : regAt a = some (r, i, j)) : r.index a = some (i, j) := by
  unfold regAt at h
  split at h
  · next r' i' j' e =>
    split at h
    · cases h
    · cases h
      obtain ⟨q, -, hq⟩ := List.exists_of_findSome?_eq_some e
      cases hi : q.index a with
      | none => rw [hi] at hq; cases hq
      | some ij =>
        rw [hi] at hq
        cases hq
        exact hi
  · cases h

theorem off_of_regAt {a : Nat} {r : RegSpec} {i j : Nat} (h : regAt a = some (r, i, j)) (hp : r.hostPrivate = false) : r.off i j = a :=
  RegSpec.off_of_index (index_of_regAt h) hp

theorem base_le_of_regAt {a : Nat} {r : RegSpec} {i j : Nat} (h : regAt a = some (r, i, j)) : r.base ≤ a := by
  have hi := index_of_regAt h
  unfold RegSpec.index at hi
  split at hi
  · split at hi
    · omega
    · cases hi
  · dsimp only at hi
    split at hi
    · next c => exact c.1
    · cases hi
  · dsimp only at hi
    split at hi
    · next c => exact c.1
    · cases hi

variable {s : State} {h : HostId} {off : BitVec 24} {r : RegSpec} {i j : Nat}

/-- A register of BAR0 above the vectors' page is no PBA word: those of HB stand beyond BAR0 in the model's key space. -/
theorem not_pba_of_regAt (hr : regAt off.toNat = some (r, i, j)) (hp : r.hostPrivate = false) (hb : 0x8808 ≤ r.base) : ¬ pbaOff (r.off i j) := by
  have lt := off.isLt
  have le := base_le_of_regAt hr
  rw [off_of_regAt hr hp]
  refine not_pbaOff _ ?_
  rw [show pbaOffs = [0x8800, 0x8804, 0x1008800, 0x1008804] by decide]
  simp only [List.mem_cons, List.not_mem_nil, or_false]
  omega

/-! ## Which word an access reaches -/

theorem linked_iff : s.linked h = true ↔ s.hostsDead = false ∧ s.bit (hostUp (hostNum h)) = true ∧ s.bit (hostL1 (hostNum h)) = false := by
  simp [State.linked, and_assoc]

/-- A host whose link is up is seen, and no reset has taken its link away. -/
theorem hostSeen_of_linked (hl : s.linked h = true) : s.hostSeen (hostNum h) = s := by
  obtain ⟨-, up, l1⟩ := linked_iff.1 hl
  exact hostSeen_up _ up l1

theorem not_dead_of_linked (hl : s.linked h = true) : s.hostsDead = false := (linked_iff.1 hl).1

theorem decoded_of_strict (hc : s.compact = false) (a : Nat) : s.decoded a = a := by
  rw [State.decoded, hc]
  rfl

/-- An aligned 32-bit write is the write of its word. -/
theorem hostWrite_w32 (hl : s.linked h = true) {a : Nat} (ha : a % 4 = 0) (data : BitVec 64) :
    s.hostWrite (hostNum h) a .w32 data = s.writeWord (hostNum h) a 15 (data.setWidth 32) := by
  have cr : crosses a .w32 = false := by simp [crosses, ha]
  have be : byteEnables a .w32 = 15 := by simp [byteEnables, widthBytes, ha]
  simp only [State.hostWrite, not_dead_of_linked hl, hostSeen_of_linked hl, cr, Bool.false_eq_true, if_false, ha, Nat.sub_zero, be,
    Nat.mul_zero, BitVec.shiftLeft_zero]

/-- An aligned 32-bit read returns its word. -/
theorem hostRead_w32 (hl : s.linked h = true) {a : Nat} (ha : a % 4 = 0) (flip : BitVec 48) : s.hostRead (hostNum h) a .w32 flip =
    (s.readWord (hostNum h) a 15 flip).2.emit (.readData (hostNum h) (BitVec.ofNat 64 (s.readWord (hostNum h) a 15 flip).1.toNat)) := by
  have cr : crosses a .w32 = false := by simp [crosses, ha]
  have be : byteEnables a .w32 = 15 := by simp [byteEnables, widthBytes, ha]
  have lane : ∀ v : Word, laneBytes v a .w32 = BitVec.ofNat 64 v.toNat := fun v => by
    have := v.isLt
    simp [laneBytes, widthBytes, ha, Nat.mod_eq_of_lt this]
  simp only [State.hostRead, not_dead_of_linked hl, hostSeen_of_linked hl, cr, Bool.false_eq_true, if_false, ha, Nat.sub_zero, be, lane]

/-! ## The checks of a write, in their order (R436, R437, R606) -/

section
variable {a be : Nat} {w : Word} (hg : s.gated a = false) (hc : s.compact = false)
include hg hc

theorem writeWord_masked {host : Nat} (hm : s.maskOk host a = false) : s.writeWord host a be w = s.accErr [flMASK] host 0 a be true w := by
  simp only [State.writeWord, hg, decoded_of_strict hc, hm, Bool.not_false, Bool.false_eq_true, if_false, if_true]

theorem writeWord_hole {host : Nat} (hm : s.maskOk host a = true) (hole : cffWindow a = true ∨ regAt a = none) :
    s.writeWord host a be w = s.accErr [flUNIMP] host 0 a be true w := by
  have none : (if cffWindow a then Option.none else regAt a) = Option.none := by rcases hole with e | e <;> simp [e]
  simp only [State.writeWord, hg, decoded_of_strict hc, hm, hc, none, Bool.not_true, Bool.false_eq_true, if_false]

theorem writeWord_narrow {host : Nat} (hm : s.maskOk host a = true) (hw : cffWindow a = false) (hr : regAt a = some (r, i, j)) (hb : be ≠ 15)
    (hn : narrowOk r = false) : s.writeWord host a be w = s.accErr [flWIDTH] host 0 a be true w := by
  simp only [State.writeWord, hg, decoded_of_strict hc, hm, hw, hr, hb, hn, Bool.not_true, Bool.false_eq_true, if_false, ne_eq,
    not_false_eq_true, and_self, if_true]

/-- A write of a whole word that passes the checks reaches its register, and then the register's RSVD bits (R17). -/
theorem writeWord_reaches {host : Nat} (hm : s.maskOk host a = true) (hw : cffWindow a = false) (hr : regAt a = some (r, i, j)) :
    s.writeWord host a 15 w = s.rsvdWrite (s.regWriteAt host 0 a a 15 r i j w w) host r i j 15 w := by
  simp only [State.writeWord, hg, decoded_of_strict hc, hm, hw, hr, Bool.not_true, Bool.false_eq_true, if_false, ne_eq,
    not_true_eq_false, false_and]

end

/-- Without what has been driven out last, a state is the one before. -/
theorem emit_withOut {u : State} {l : List Out} (h : u.out = l) (o : Out) : ({ u.emit o with out := l } : State) = u := by
  subst h
  rfl

/-- An access that ends with completer abort sets ALIGN and does nothing else. -/
theorem accErr_abort (be : Nat) (write : Bool) (data : Word) :
    let t := settled s ((s.accErr [flALIGN] (hostNum h) 0 off.toNat be write data).emit (.abort (hostNum h)))
    AccessError s { t with out := s.out } h 5 off.toNat ∧ t.out = s.out ++ [.abort (hostNum h)] := by
  have err := accErr_error (s := s) h 5 off.toNat be write data (by decide) off.isLt
  have out : (settled s (s.accErr [5] (hostNum h) 0 off.toNat be write data)).out = s.out := by
    obtain ⟨_, _, _, _, _, r, x, y, e⟩ := err
    rw [e]
  intro t
  have e : t = (settled s (s.accErr [5] (hostNum h) 0 off.toNat be write data)).emit (.abort (hostNum h)) := settled_emit ..
  rw [e]
  rw [emit_withOut out]
  refine ⟨err, ?_⟩
  rw [State.emit, out]

/-- The byte enables of a narrow access are not those of a word. -/
theorem byteEnables_narrow {a : Nat} {w : Width} (hw : w = .w8 ∨ w = .w16) (hc : crosses a w = false) : byteEnables a w ≠ 15 := by
  have lt : a % 4 < 4 := Nat.mod_lt _ (by decide)
  unfold byteEnables
  rcases hw with rfl | rfl
  · revert lt
    generalize a % 4 = k
    revert k
    decide
  · have ne : a % 4 ≠ 3 := by simpa [crosses] using hc
    revert lt ne
    generalize a % 4 = k
    revert k
    decide

/-- A narrow access within a word is a write of its bytes of that word. -/
theorem hostWrite_narrow (hl : s.linked h = true) {a : Nat} {w : Width} (hw : w = .w8 ∨ w = .w16) (hc : crosses a w = false) (data : BitVec 64) :
    s.hostWrite (hostNum h) a w data =
      s.writeWord (hostNum h) (a - a % 4) (byteEnables a w) ((data.setWidth 32 : Word) <<< (8 * (a % 4))) := by
  rcases hw with rfl | rfl <;>
    simp only [State.hostWrite, not_dead_of_linked hl, hostSeen_of_linked hl, hc, Bool.false_eq_true, if_false]

theorem hostWrite_crossing (hl : s.linked h = true) {a : Nat} {w : Width} (hc : crosses a w = true) (data : BitVec 64) :
    s.hostWrite (hostNum h) a w data =
      (s.accErr [flALIGN] (hostNum h) 0 a (byteEnables a w) true (data.setWidth 32)).emit (.abort (hostNum h)) := by
  simp only [State.hostWrite, not_dead_of_linked hl, hostSeen_of_linked hl, hc, Bool.false_eq_true, if_false, if_true]

theorem hostRead_crossing (hl : s.linked h = true) {a : Nat} {w : Width} (hc : crosses a w = true) (flip : BitVec 48) :
    s.hostRead (hostNum h) a w flip = (s.accErr [flALIGN] (hostNum h) 0 a (byteEnables a w) false 0).emit (.abort (hostNum h)) := by
  simp only [State.hostRead, not_dead_of_linked hl, hostSeen_of_linked hl, hc, Bool.false_eq_true, if_false, if_true]

theorem exec_registerWrite (w : Width) (data : BitVec 64) :
    exec (.registerWrite h (at0 off) w data) s = finish s (s.hostWrite (hostNum h) off.toNat w data) := rfl

theorem exec_clearingRead (w : Width) : exec (.clearingRead h (at0 off) w) s = finish s (s.hostRead (hostNum h) off.toNat w 0) := rfl

/-- Settles O8: each check is the first that applies, and its error is all that the access does. -/
theorem accessChecks : Obligations.AccessChecks := by
  refine ⟨fun s h off data hl hg hc ha => ⟨fun hm => ?_, fun hm hole => ?_⟩, fun s h off w data hl hc => ⟨?_, ?_⟩,
    fun s h off w data r i j hl hw hx hg hc hm hcff hr hn => ?_⟩
  · refine does_of (exec_registerWrite .w32 data) ?_
    rw [hostWrite_w32 hl ha, writeWord_masked hg hc hm]
    exact accErr_error h flMASK off.toNat 15 true _ (by decide) off.isLt
  · refine does_of (exec_registerWrite .w32 data) ?_
    rw [hostWrite_w32 hl ha, writeWord_hole hg hc hm hole]
    exact accErr_error h flUNIMP off.toNat 15 true _ (by decide) off.isLt
  · refine does_of (exec_registerWrite w data) ?_
    rw [hostWrite_crossing hl hc]
    exact accErr_abort _ _ _
  · refine does_of (exec_clearingRead w) ?_
    rw [hostRead_crossing hl hc]
    exact accErr_abort _ _ _
  · refine does_of (exec_registerWrite w data) ?_
    rw [hostWrite_narrow hl hw hx, writeWord_narrow hg hc hm hcff hr (byteEnables_narrow hw hx) hn]
    exact accErr_error h flWIDTH _ _ true _ (by decide) (lt_of_le_of_lt (Nat.sub_le _ _) off.isLt)

end Sys2Proof.Machine
end

section
set_option Elab.async false
/-! PROOFS. What an access does that passes the checks (00_scope.md R8 to R11, R17; 15_host_ports_and_registers.md R445, R447): plain writes, clears,
reads with their effects, pairs, and single bits through BAR2. -/

namespace Sys2Proof.Machine

variable {s : State} {h : HostId} {off : BitVec 24} {r : RegSpec} {i j : Nat}

/-! ## Access masks -/

theorem accMask_congr {p q : Acc → Bool} (h : ∀ f ∈ r.fields, p f.acc = q f.acc) : accMask r p = accMask r q := by
  unfold accMask
  exact List.foldl_ext _ _ _ fun m f hf => by rw [h f hf]

theorem acc_ne_of_has {a : Acc} (ha : r.has a = false) {f : FieldSpec} (hf : f ∈ r.fields) : f.acc ≠ a := by
  simp only [RegSpec.has, List.any_eq_false, beq_iff_eq] at ha
  exact ha f hf

theorem foldl_accMask_bit (p : Acc → Bool) (l : List FieldSpec) (m : Word) (b : Nat) :
    (l.foldl (fun m f => if p f.acc then m ||| f.mask else m) m).getLsbD b = (m.getLsbD b || l.any fun f => p f.acc && f.mask.getLsbD b) := by
  induction l generalizing m with
  | nil => simp
  | cons f l ih =>
    rw [List.foldl_cons, ih, List.any_cons]
    cases p f.acc <;> simp [Bool.or_assoc]

/-- A bit is in an access mask when a field holds it whose code is picked. -/
theorem accMask_bit (p : Acc → Bool) (b : Nat) : (accMask r p).getLsbD b = r.fields.any fun f => p f.acc && f.mask.getLsbD b := by
  rw [accMask, foldl_accMask_bit]
  simp

theorem mask_bit (f : FieldSpec) {b : Nat} (hb : b < 32) (lo : f.lo ≤ b) (hi : b ≤ f.hi) : f.mask.getLsbD b = true := by
  have : b - f.lo < f.hi + 1 - f.lo := by omega
  simp [FieldSpec.mask, bitMask, BitVec.getLsbD_ofNat, hb, Nat.testBit_shiftLeft, lo, Nat.testBit_two_pow_sub_one, this]

/-! ## A plain write (R9) -/

/-- The word that a plain write of `w` leaves in a register that held `old`. -/
def plainWord (r : RegSpec) (old w : Word) : Word :=
  (old &&& ~~~ accMask r (fun a => a == .rw)) ||| (clampWord r w &&& accMask r (fun a => a == .rw))

theorem plainWrite_open (hrwe : r.has .rwe = false) (w : Word) :
    s.plainWrite r i j w = ([], s.setReg r (plainWord r (s.reg r i j) w) i j) := by
  have shut : s.closed r i = false := by rw [State.closed, hrwe, Bool.false_and]
  have mask : accMask r (fun a => a == .rw || (a == .rwe && !false)) = accMask r (fun a => a == .rw) :=
    accMask_congr fun f hf => by
      have : (f.acc == Acc.rwe) = false := by simpa using acc_ne_of_has hrwe hf
      rw [this, Bool.false_and, Bool.or_false]
  simp only [State.plainWrite, shut, mask, Bool.false_eq_true, if_false, plainWord]

/-- Registers of the switch core take plain writes. -/
theorem regWrite_swc (host : Nat) (lo : 0x200000 ≤ r.base) (hi : r.base < 0x300000) (hsc : r.has .sc = false) (hrwe : r.has .rwe = false)
    (hp : r.hostPrivate = false) (w : Word) :
    s.regWrite host r i j 15 w = ([], s.setReg r (plainWord r (s.reg r i j) w) i j) := by
  have own : regIdx r host i j = (i, j) := by rw [regIdx, hp]; rfl
  have above : ∀ n, n ≤ 0x200000 → ¬ r.base < n := fun n hn => by omega
  simp only [State.regWrite, hsc, own, Bool.false_eq_true, if_false, above 0x20000 (by decide), above 0x30000 (by decide), above 0x40000 (by decide),
    above 0x50000 (by decide), above 0x70000 (by decide), above 0x80000 (by decide), above 0x90000 (by decide), above 0xA0000 (by decide),
    above 0x100000 (by decide), above 0x200000 (by decide), hi, if_true, plainWrite_open hrwe]

theorem bulkWindow_swc (lo : 0x200000 ≤ r.base) (hi : r.base < 0x300000) : bulkWindow r = false := by
  have tin : R.TIN_UW_LO.base < 0x200000 ∧ R.TIN_UW_MID.base < 0x200000 ∧ R.TIN_UW_HI.base < 0x200000 := by decide
  have pds : 0x300000 ≤ R.PDS_SRAM_WINDOW.base := by decide
  simp only [bulkWindow, Bool.or_eq_false_iff, beq_eq_false_iff_ne]
  omega

/-- A write at an offset that sets no flag is the register's own write, but for the twin link (R411). -/
theorem regWriteAt_open {host a : Nat} {w : Word} {u : State} (hi : (mirrored r && s.ignoresMirrored) = false)
    (hb : (!s.loaded && bulkWindow r) = false) (hw : s.regWrite host r i j 15 w = ([], u)) :
    ∃ x, s.regWriteAt host 0 a a 15 r i j w w = { u with twn := x } := by
  simp only [State.regWriteAt, hi, hb, hw, Bool.false_eq_true, if_false, State.accErr]
  exact mirror_only ..

/-! ## RSVD bits (R17) -/

theorem rsvdWrite_only (t : State) (host be : Nat) (w : Word) : ∃ v, s.rsvdWrite t host r i j be w = { t with rsvd := v } := by
  unfold State.rsvdWrite
  dsimp only
  split
  · exact ⟨_, rfl⟩
  · exact ⟨_, rfl⟩

/-- RSVD bits written as they are read stay. -/
theorem rsvdWrite_same (t : State) {host be : Nat} {w : Word} (hw : w &&& r.rsvdMask = s.rsvdHeld host r i j) :
    s.rsvdWrite t host r i j be w = t := by
  have none : (s.rsvdHeld host r i j ^^^ w) &&& r.rsvdMask &&& beMask be = 0 := by
    rw [← hw]
    ext b hb
    simp only [BitVec.getElem_and, BitVec.getElem_xor]
    cases w[b] <;> cases r.rsvdMask[b] <;> simp
  unfold State.rsvdWrite
  simp only [none, beq_self_eq_true, Bool.true_or, Bool.or_true, if_true]

/-! ## What a command leaves that writes one register -/

@[simp] theorem settled_rsvd (b t : State) : (settled b t).rsvd = t.rsvd := by
  obtain ⟨r, x, y, e⟩ := settled_only b t
  rw [e]

/-- The end of a command that has written one register keeps the others, whatever became of the parts that hold no register. -/
theorem settled_setReg_keeps (s : State) (w : Word) (v : Tab Word) (x : TwnState) (b : State) :
    s.keepsRegs (settled b { (s.setReg r w i j) with rsvd := v, twn := x }) [r.off i j] :=
  have keeps : s.keepsRegs (s.setReg r w i j) [r.off i j] := State.keepsRegs_setReg (State.keepsRegs_refl _) _ _ _ _ (List.mem_cons_self)
  fun q k l hq => (settled_reg _ _ _ _ _ (not_pbaOff _ fun hp => hq (List.mem_append_right _ hp))).trans (keeps q k l hq)

theorem cffWindow_swc (lo : 0x200000 ≤ r.base) (hr : regAt off.toNat = some (r, i, j)) : cffWindow off.toNat = false := by
  have := base_le_of_regAt hr
  simp only [cffWindow, decide_eq_false_iff_not]
  omega

/-- A write of a register of the switch core (R9). -/
theorem does_registerWrite_swc (data : BitVec 64) (hr : regAt off.toNat = some (r, i, j)) (lo : 0x200000 ≤ r.base) (hi : r.base < 0x300000)
    (hsc : r.has .sc = false) (hrwe : r.has .rwe = false) (hp : r.hostPrivate = false) (hl : s.linked h = true)
    (hg : s.gated off.toNat = false) (hc : s.compact = false) (hm : s.maskOk (hostNum h) off.toNat = true) (hig : s.ignoresMirrored = false)
    (ha : off.toNat % 4 = 0) : Does (.registerWrite h (at0 off) .w32 data) s fun t =>
      t.reg r i j = plainWord r (s.reg r i j) (data.setWidth 32) ∧ s.keepsRegs t [r.off i j] ∧
      (data.setWidth 32 &&& r.rsvdMask = s.rsvdHeld (hostNum h) r i j → t.rsvd = s.rsvd) := by
  obtain ⟨x, hx⟩ := regWriteAt_open (s := s) (host := hostNum h) (a := off.toNat) (w := data.setWidth 32) (by rw [hig, Bool.and_false])
    (by rw [bulkWindow_swc lo hi, Bool.and_false]) (regWrite_swc (hostNum h) lo hi hsc hrwe hp _)
  have reaches := writeWord_reaches (w := data.setWidth 32) hg hc hm (cffWindow_swc lo hr) hr
  refine does_of (exec_registerWrite .w32 data) ?_
  rw [hostWrite_w32 hl ha, reaches, hx]
  obtain ⟨v, hv⟩ := rsvdWrite_only (s := s) (r := r) (i := i) (j := j)
    { (s.setReg r (plainWord r (s.reg r i j) (data.setWidth 32)) i j) with twn := x } (hostNum h) 15 (data.setWidth 32)
  refine ⟨?_, ?_, fun hd => ?_⟩
  · rw [hv, settled_reg _ _ _ _ _ (not_pba_of_regAt hr hp (by omega))]
    exact State.reg_setReg_same ..
  · rw [hv]
    exact settled_setReg_keeps s _ v x s
  · rw [rsvdWrite_same _ hd]
    exact settled_rsvd ..

/-! ## A clearing write of an SC register (R11) -/

theorem regWrite_sc (host : Nat) (hsc : r.has .sc = true) (w : Word) :
    s.regWrite host r i j 15 w = s.scWrite r (regIdx r host i j).1 (regIdx r host i j).2 w := by
  simp only [State.regWrite, hsc, if_true]

/-- The word that a clearing write of `w` leaves of the word `old`. -/
abbrev clearedWord (r : RegSpec) (old w : Word) : Word := old &&& ~~~ (w &&& accMask r (fun a => a == .sc))

section
variable {data : Word} (hr : regAt off.toNat = some (r, i, j)) (hsc : r.has .sc = true) (hcff : cffWindow off.toNat = false)
  (hmi : mirrored r = false) (hbulk : bulkWindow r = false) (hl : s.linked h = true) (hg : s.gated off.toNat = false) (hc : s.compact = false)
  (hm : s.maskOk (hostNum h) off.toNat = true) (ha : off.toNat % 4 = 0)
include hr hsc hcff hmi hbulk hl hg hc hm ha

/-- A clearing write that passes the checks of the access reaches its register, copied for each host where it is private. -/
theorem hostWrite_sc : s.hostWrite (hostNum h) off.toNat .w32 (data.setWidth 64) =
    let x := s.scWrite r (regIdx r (hostNum h) i j).1 (regIdx r (hostNum h) i j).2 data
    s.rsvdWrite (x.2.accErr x.1 (hostNum h) 0 off.toNat 15 true data) (hostNum h) r i j 15 data := by
  have word : (data.setWidth 64).setWidth 32 = data := by simp
  rw [hostWrite_w32 hl ha, word, writeWord_reaches hg hc hm hcff hr]
  simp only [State.regWriteAt, hmi, hbulk, Bool.false_and, Bool.and_false, Bool.false_eq_true, if_false, regWrite_sc _ hsc, mirror_none _ _ _ _ _ _ hmi]

/-- The write of an outdated SEQ is an error, and nothing else: it does not reach the RSVD bits either. -/
theorem does_scClearWrite_stale
    (hseq : getBits data 31 24 ≠ getBits (s.reg r (regIdx r (hostNum h) i j).1 (regIdx r (hostNum h) i j).2) 31 24) :
    Does (.scClearWrite h off data) s fun t => AccessError s t h 0 off.toNat := by
  have stale : s.scWrite r (regIdx r (hostNum h) i j).1 (regIdx r (hostNum h) i j).2 data = ([flSTALE], s) := by
    simp only [State.scWrite, hseq, if_false]
  refine does_of (u := s.hostWrite (hostNum h) off.toNat .w32 (data.setWidth 64)) rfl ?_
  rw [hostWrite_sc hr hsc hcff hmi hbulk hl hg hc hm ha, stale]
  have none : ∀ t, s.rsvdWrite t (hostNum h) r i j 15 data = t := fun t => by
    simp only [State.rsvdWrite, regWrite_sc _ hsc, stale, List.contains_cons, beq_self_eq_true, Bool.true_or, Bool.or_true, if_true]
  simp only [none]
  exact accErr_error h flSTALE off.toNat 15 true data (by decide) off.isLt

theorem does_scClearWrite_seq (hpba : r.off (regIdx r (hostNum h) i j).1 (regIdx r (hostNum h) i j).2 ∉ pbaOffs)
    (hseq : getBits data 31 24 = getBits (s.reg r (regIdx r (hostNum h) i j).1 (regIdx r (hostNum h) i j).2) 31 24) :
    Does (.scClearWrite h off data) s fun t =>
      t.reg r (regIdx r (hostNum h) i j).1 (regIdx r (hostNum h) i j).2
        = clearedWord r (s.reg r (regIdx r (hostNum h) i j).1 (regIdx r (hostNum h) i j).2) data ∧
      s.keepsRegs t [r.off (regIdx r (hostNum h) i j).1 (regIdx r (hostNum h) i j).2] ∧ ({ s with rsvd := t.rsvd } : State).onlyRegs t ∧
      (data &&& r.rsvdMask = s.rsvdHeld (hostNum h) r i j → t.rsvd = s.rsvd) := by
  generalize hk : regIdx r (hostNum h) i j = k at hpba hseq ⊢
  have cleared : s.scWrite r k.1 k.2 data = ([], s.setReg r (clearedWord r (s.reg r k.1 k.2) data) k.1 k.2) := by
    simp only [State.scWrite, hseq, if_true]
  refine does_of (u := s.hostWrite (hostNum h) off.toNat .w32 (data.setWidth 64)) rfl ?_
  rw [hostWrite_sc hr hsc hcff hmi hbulk hl hg hc hm ha, hk, cleared]
  simp only [State.accErr]
  obtain ⟨v, hv⟩ := rsvdWrite_only (s := s) (r := r) (i := i) (j := j) (s.setReg r (clearedWord r (s.reg r k.1 k.2) data) k.1 k.2) (hostNum h) 15 data
  refine ⟨?_, ?_, ?_, fun hd => ?_⟩
  · rw [hv, settled_reg _ _ _ _ _ (not_pbaOff _ hpba)]
    exact State.reg_setReg_same ..
  · rw [hv]
    exact settled_setReg_keeps s _ v s.twn s
  · rw [hv, settled_rsvd]
    exact settled_onlyRegs (s := { s with rsvd := v }) ⟨_, _, _, rfl⟩
  · rw [rsvdWrite_same _ hd]
    exact settled_rsvd ..

end

/-! ## Reads (R8, R10, R445) -/

/-- A read of a word that reaches a register is the read of that register. -/
theorem readWord_reaches {host a be : Nat} (flip : BitVec 48) (hg : s.gated a = false) (hc : s.compact = false) (hcff : cffWindow a = false)
    (hr : regAt a = some (r, i, j)) : s.readWord host a be flip = s.regRead host a r i j := by
  simp only [State.readWord, hg, decoded_of_strict hc, hcff, hr, Bool.false_eq_true, if_false]

/-- What a read clears, of a register that no rule clears beside its RC fields. -/
theorem clearRc_fields (hcnt : r.base ≠ R.PORT_CNT_LO.base) (hlow : r.base ≠ R.BPM_POOL_LOW.base) :
    ∃ u, s.clearRc r i j = u ∧ u.reg r i j = s.reg r i j &&& ~~~ accMask r (fun a => a == .rc) ∧ s.keepsRegs u [r.off i j] ∧ u.out = s.out := by
  refine ⟨_, rfl, ?_⟩
  simp only [State.clearRc, hcnt, hlow, if_false]
  split
  · next none =>
    rw [none]
    exact ⟨(BitVec.and_allOnes (x := s.reg r i j)).symm, State.keepsRegs_refl _, rfl⟩
  · exact ⟨State.reg_setReg_same .., State.keepsRegs_setReg (State.keepsRegs_refl _) _ _ _ _ (List.mem_cons_self), rfl⟩

/-- A read clears registers only. -/
theorem clearRc_only (s : State) (r : RegSpec) (i j : Nat) : ∃ x, s.clearRc r i j = { s with regs := x } := by
  unfold State.clearRc
  dsimp only
  split <;> split <;> (try split) <;> exact ⟨_, rfl⟩

/-- A plain read: the word held, then the effects of the read. -/
theorem regRead_plain (host a : Nat) (hlo : isPairLo r = false) (hhi : isPairHi r = false) (hb : r.base ∉ [R.GLB_SEM.base,
    R.INV_TIO_CAP_NS.base, R.INV_TD_NS.base, R.EGS_GCL_D1.base]) : s.regRead host a r i j = (s.live host r i j, s.clearRc r i j) := by
  simp only [List.mem_cons, List.not_mem_nil, or_false, not_or] at hb
  obtain ⟨sem, cap, td, gcl⟩ := hb
  simp only [State.regRead, sem, cap, td, gcl, hlo, hhi, Bool.false_eq_true, if_false]

theorem does_clearingRead_rc (hr : regAt off.toNat = some (r, i, j)) (hlo : isPairLo r = false) (hhi : isPairHi r = false)
    (hcff : cffWindow off.toNat = false) (hb : r.base ∉ [R.GLB_SEM.base, R.INV_TIO_CAP_NS.base, R.INV_TD_NS.base, R.EGS_GCL_D1.base,
      R.PORT_CNT_LO.base, R.BPM_POOL_LOW.base])
    (hl : s.linked h = true) (hg : s.gated off.toNat = false) (hc : s.compact = false) (ha : off.toNat % 4 = 0) (hpba : r.off i j ∉ pbaOffs) :
    Does (.clearingRead h (at0 off) .w32) s fun t =>
      t.reg r i j = s.reg r i j &&& ~~~ accMask r (fun a => a == .rc) ∧ s.keepsRegs t [r.off i j] ∧
      t.out = s.out ++ [.readData (hostNum h) (BitVec.ofNat 64 (s.live (hostNum h) r i j).toNat)] := by
  simp only [List.mem_cons, List.not_mem_nil, or_false, not_or] at hb
  obtain ⟨sem, cap, td, gcl, cnt, low⟩ := hb
  obtain ⟨u, hu, cleared, keeps, out⟩ := clearRc_fields (s := s) (i := i) (j := j) cnt low
  refine does_of (exec_clearingRead .w32) ?_
  rw [hostRead_w32 hl ha, readWord_reaches _ hg hc hcff hr, regRead_plain _ _ hlo hhi (by simp [sem, cap, td, gcl]), hu]
  refine ⟨?_, settled_keeps _ _ _ keeps, ?_⟩
  · rw [settled_reg _ _ _ _ _ (not_pbaOff _ hpba)]
    exact cleared
  · rw [settled_out, State.emit, out]

/-- A read of the _LO register of a pair fills the reader's snapshot with the high word. -/
theorem regRead_pairLo {host a : Nat} {q : RegSpec} {k l : Nat} (hlo : isPairLo r = true) (hhi : isPairHi r = false)
    (hq : regAt (a + 4) = some (q, k, l)) (sem : r.base ≠ R.GLB_SEM.base) (cap : r.base ≠ R.INV_TIO_CAP_NS.base)
    (td : r.base ≠ R.INV_TD_NS.base) (gcl : r.base ≠ R.EGS_GCL_D1.base) :
    s.regRead host a r i j = (s.live host r i j, (s.setSnap host a (s.live host q k l)).clearRc r i j) := by
  simp only [State.regRead, sem, cap, td, gcl, hlo, hhi, hq, Bool.false_eq_true, if_false, if_true]

theorem pairSnap_setSnap_same (host a : Nat) (w : Word) : (s.setSnap host a w).pairSnap host a = w := tabGet_set_same ..

theorem pairSnap_setSnap_other {host a k b : Nat} (w : Word) (ne : 2 * b + k ≠ 2 * a + host) :
    (s.setSnap host a w).pairSnap k b = s.pairSnap k b := tabGet_set_other _ _ _ ne _

theorem does_pairLoRead {q : RegSpec} {k l : Nat} (hr : regAt off.toNat = some (r, i, j)) (hlo : isPairLo r = true)
    (hq : regAt (off.toNat + 4) = some (q, k, l)) (hhi : isPairHi r = false) (hcff : cffWindow off.toNat = false)
    (sem : r.base ≠ R.GLB_SEM.base) (cap : r.base ≠ R.INV_TIO_CAP_NS.base) (td : r.base ≠ R.INV_TD_NS.base) (gcl : r.base ≠ R.EGS_GCL_D1.base)
    (hl : s.linked h = true) (hg : s.gated off.toNat = false) (hc : s.compact = false) (ha : off.toNat % 4 = 0) :
    Does (.pairLoRead h off) s fun t => t.pairSnap (hostNum h) off.toNat = s.live (hostNum h) q k l ∧
      (∀ a k, a * 2 + k ≠ off.toNat * 2 + hostNum h → t.pairSnap k a = s.pairSnap k a) ∧
      t.out = s.out ++ [.readData (hostNum h) (BitVec.ofNat 64 (s.live (hostNum h) r i j).toNat)] := by
  refine does_of (u := s.hostRead (hostNum h) off.toNat .w32 0) rfl ?_
  rw [hostRead_w32 hl ha, readWord_reaches _ hg hc hcff hr, regRead_pairLo hlo hhi hq sem cap td gcl]
  obtain ⟨x, hx⟩ := clearRc_only (s.setSnap (hostNum h) off.toNat (s.live (hostNum h) q k l)) r i j
  rw [hx]
  refine ⟨?_, fun a m ne => ?_, ?_⟩
  · rw [State.pairSnap, settled_snaps]
    exact pairSnap_setSnap_same ..
  · rw [State.pairSnap, settled_snaps]
    exact pairSnap_setSnap_other _ (by omega)
  · rw [settled_out]
    rfl

/-- GLB_ACC_ADDR holds a field at every bit, so that it has no RSVD bit to show. -/
theorem live_accAddr (host : Nat) : s.live host R.GLB_ACC_ADDR 0 0 = s.reg R.GLB_ACC_ADDR := by
  have mask : R.GLB_ACC_ADDR.rsvdMask = 0 := by decide
  have none : s.rsvdShown host R.GLB_ACC_ADDR 0 0 = 0 := by
    unfold State.rsvdShown
    split
    · rfl
    · rw [State.rsvdHeld, mask]
      exact BitVec.and_zero
  have word : s.live host R.GLB_ACC_ADDR 0 0 = s.reg R.GLB_ACC_ADDR ||| s.rsvdShown host R.GLB_ACC_ADDR 0 0 := rfl
  rw [word, none]
  exact BitVec.or_zero

/-- A bit that a read clears reads 0 from then on. -/
theorem bit_clear_of_rc {t : State} {f : Fld} (h : t.reg f.reg = s.reg f.reg &&& ~~~ accMask f.reg (fun a => a == .rc)) (one : f.hi = f.lo)
    (hm : (accMask f.reg fun a => a == .rc).getLsbD f.lo = true) : t.bit f = false := by
  have zero : t.get f = 0 := by
    apply Nat.eq_of_testBit_eq
    intro b
    rw [State.get, getBits_testBit, h, Nat.zero_testBit]
    by_cases hb : b = 0
    · subst hb
      simp [hm]
    · have : ¬ b < f.hi + 1 - f.lo := by omega
      simp [this]
  rw [State.bit, zero]
  rfl

theorem does_accAddrRead (hr : s.reaches h R.GLB_ACC_ADDR 0 0 = true) : Does (.accAddrRead h) s fun t =>
    t.out = s.out ++ [.readData (hostNum h) (BitVec.ofNat 64 (s.reg R.GLB_ACC_ADDR).toNat)] ∧
    t.bit F.GLB_ACC_ADDR_VALID = false ∧ t.bit F.GLB_ACC_ADDR_MULTI = false ∧ s.keepsRegs t [R.GLB_ACC_ADDR.base] := by
  obtain ⟨u, hu, cleared, keeps, out⟩ := clearRc_fields (s := s) (r := R.GLB_ACC_ADDR) (i := 0) (j := 0) (by decide) (by decide)
  have read := regRead_plain (s := s) (r := R.GLB_ACC_ADDR) (i := 0) (j := 0) (hostNum h) (R.GLB_ACC_ADDR.addr 0 0) (by decide) (by decide) (by decide)
  rw [hu] at read
  refine does_rowRead rfl hr read ?_
  have reg : (settled s (u.emit (.readData (hostNum h) (BitVec.ofNat 64 (s.live (hostNum h) R.GLB_ACC_ADDR 0 0).toNat)))).reg R.GLB_ACC_ADDR =
      s.reg R.GLB_ACC_ADDR &&& ~~~ accMask R.GLB_ACC_ADDR (fun a => a == .rc) := by
    rw [settled_reg_free _ _ (by decide)]
    exact cleared
  refine ⟨?_, bit_clear_of_rc reg rfl (by decide), bit_clear_of_rc reg rfl (by decide), settled_keeps _ _ _ keeps⟩
  rw [settled_out, State.emit, out, live_accAddr]

/-! ## Single bits through BAR2 (R447) -/

theorem aliasWrite_w32 (hl : s.linked h = true) {a : Nat} (ha : a % 4 = 0) (data : BitVec 64) :
    s.aliasWrite (hostNum h) a .w32 data = s.aliasPut (hostNum h) a 15 (data.setWidth 32) := by
  have cr : crosses a .w32 = false := by simp [crosses, ha]
  have be : byteEnables a .w32 = 15 := by simp [byteEnables, widthBytes, ha]
  simp only [State.aliasWrite, not_dead_of_linked hl, hostSeen_of_linked hl, cr, Bool.false_eq_true, if_false, ha, Nat.sub_zero, be,
    Nat.mul_zero, BitVec.shiftLeft_zero]

theorem aliasPut_reaches {host a : Nat} {data : Word} (hg : s.gated (a / 128 * 4) = false) (hc : s.compact = false)
    (hm : s.maskOk host (a / 128 * 4) = true) (hr : regAt (a / 128 * 4) = some (r, i, j)) :
    s.aliasPut host a 15 data = s.aliasReg host a (a / 128 * 4) r i j (a % 128 / 4) data := by
  simp only [State.aliasPut, hg, decoded_of_strict hc, hm, hr, Bool.not_true, Bool.false_eq_true, if_false, ne_eq, not_true_eq_false]

/-- The command ALIAS_WRITE, when it reaches a bit of a register, is the write of that bit. -/
theorem does_aliasWrite {data : Word} {P : State → Prop} (hr : regAt (off.toNat / 128 * 4) = some (r, i, j)) (ha : off.toNat % 4 = 0)
    (hl : s.linked h = true) (hg : s.gated (off.toNat / 128 * 4) = false) (hc : s.compact = false)
    (hm : s.maskOk (hostNum h) (off.toNat / 128 * 4) = true)
    (hp : P (settled s (s.aliasReg (hostNum h) off.toNat (off.toNat / 128 * 4) r i j (off.toNat % 128 / 4) data))) :
    Does (.aliasWrite h off { w := .w32, val := data.setWidth 64 }) s P := by
  have word : (data.setWidth 64).setWidth 32 = data := by simp
  refine does_of (u := s.aliasWrite (hostNum h) off.toNat .w32 (data.setWidth 64)) rfl ?_
  rw [aliasWrite_w32 hl ha, word, aliasPut_reaches hg hc hm hr]
  exact hp

/-- A write that no field of the bit takes changes nothing. -/
theorem aliasReg_ignored {host a b : Nat} {data : Word} {f : FieldSpec} {o : Nat} (hf : r.fieldAt b = some f)
    (hacc : f.acc = .ro ∨ f.acc = .rc ∨ ((f.acc = .sc ∨ f.acc = .wo) ∧ getBits data 0 0 = 0)) :
    s.aliasReg host o a r i j b data = s := by
  rcases hacc with e | e | ⟨e | e, zero⟩ <;> simp only [State.aliasReg, hf, e]
  · rw [if_pos zero]
  · rw [if_pos zero]

/-- A plain write of a word that differs from the register's in a bit of an RW field alone stores that word. -/
theorem plainWord_setBit {old : Word} {b v : Nat} (hb : b < 32) (hm : (accMask r fun a => a == .rw).getLsbD b = true)
    (hc : ∀ w, clampWord r w = w) : plainWord r old (setBits old b b v) = setBits old b b v := by
  rw [plainWord, hc]
  apply BitVec.eq_of_getLsbD_eq
  intro n hn
  by_cases hne : n = b
  · subst hne
    simp [hm]
  · have away : (setBits old b b v).getLsbD n = old.getLsbD n := by
      rw [setBits_getLsbD _ _ _ _ _ hb, if_neg (by omega)]
    simp only [BitVec.getLsbD_or, BitVec.getLsbD_and, BitVec.getLsbD_not, away, hn, decide_true, Bool.true_and]
    cases old.getLsbD n <;> cases (accMask r fun a => a == .rw).getLsbD n <;> rfl

/-- The registers of MGT whose write acts, or brings a field into its range. -/
abbrev mgtActs : List Nat :=
  [R.MGT_SPI_CMD.base, R.MGT_MDIO_CMD.base, R.MGT_WDT_CFG.base, R.MGT_WDT_KICK.base, R.MGT_SPI_BUF.base, R.MGT_SPI_CFG.base, R.MGT_MDIO_CFG.base]

section
variable (lo : 0x20000 ≤ r.base) (hi : r.base < 0x30000) (hb : r.base ∉ mgtActs)
include lo hi hb

theorem clampWord_mgt (w : Word) : clampWord r w = w := by
  simp only [mgtActs, List.mem_cons, List.not_mem_nil, or_false, not_or] at hb
  obtain ⟨-, -, -, -, -, spi, mdio⟩ := hb
  have above : ∀ q ∈ [R.FDB_LIMIT, R.SWC_QLIM, R.SWC_PO_CFG, R.SWC_AGE_LIMIT, R.PORT_WM_PORT_LO, R.PORT_WM_LO, R.PORT_RXCFG, R.INV_TD_SLEW_CFG,
      R.INV_TD_SET_NS, R.PMC_DUMP_BASE_NS, R.PMC_DUMP_PERIOD, R.TWN_CFG, R.TWN_ATT_B, R.DMA_CH_CFG], r.base ≠ q.base := by
    have : ∀ q ∈ [R.FDB_LIMIT, R.SWC_QLIM, R.SWC_PO_CFG, R.SWC_AGE_LIMIT, R.PORT_WM_PORT_LO, R.PORT_WM_LO, R.PORT_RXCFG, R.INV_TD_SLEW_CFG,
      R.INV_TD_SET_NS, R.PMC_DUMP_BASE_NS, R.PMC_DUMP_PERIOD, R.TWN_CFG, R.TWN_ATT_B, R.DMA_CH_CFG], 0x30000 ≤ q.base := by decide
    intro q hq
    have := this q hq
    omega
  simp only [List.mem_cons, List.not_mem_nil, or_false, forall_eq_or_imp, forall_eq] at above
  obtain ⟨a1, a2, a3, a4, a5, a6, a7, a8, a9, a10, a11, a12, a13, a14⟩ := above
  have glb : r.base ≠ R.GLB_ADP_CFG.base := by
    have : R.GLB_ADP_CFG.base < 0x20000 := by decide
    omega
  simp only [clampWord, spi, mdio, a1, a2, a3, a4, a5, a6, a7, a8, a9, a10, a11, a12, a13, a14, glb, if_false]

theorem regWrite_mgt (host : Nat) (hsc : r.has .sc = false) (hrwe : r.has .rwe = false) (hp : r.hostPrivate = false) (w : Word) :
    s.regWrite host r i j 15 w = ([], s.setReg r (plainWord r (s.reg r i j) w) i j) := by
  simp only [mgtActs, List.mem_cons, List.not_mem_nil, or_false, not_or] at hb
  obtain ⟨spi, mdio, wdt, kick, buf, -, -⟩ := hb
  have own : regIdx r host i j = (i, j) := by rw [regIdx, hp]; rfl
  have glb : ¬ r.base < 0x20000 := by omega
  simp only [State.regWrite, State.writeMgt, hsc, own, glb, hi, spi, mdio, wdt, kick, buf, Bool.false_eq_true, if_false, if_true, plainWrite_open hrwe]

omit hb in
theorem mirrored_mgt : mirrored r = false := by
  have port : ¬ (0x800000 ≤ r.base ∧ r.base ≠ R.PORT_LANE.base ∧ r.base ≠ R.PORT_TX_EQ.base) := by omega
  have mid : ¬ (0x100000 ≤ r.base ∧ r.base < 0x800000 ∧ r.base ≠ R.EPOCH_COMMIT.base) := by omega
  have inv : ¬ (0x30000 ≤ r.base ∧ r.base < 0x40000) := by omega
  simp only [mirrored, port, mid, inv, decide_false, Bool.or_false, Bool.and_false]

/-- A write of a bit of an RW field of MGT sets that bit alone. -/
theorem aliasReg_mgt {host o a b : Nat} {data : Word} {f : FieldSpec} (hf : r.fieldAt b = some f) (hacc : f.acc = .rw) (h32 : b < 32)
    (hsc : r.has .sc = false) (hrwe : r.has .rwe = false) (hp : r.hostPrivate = false) :
    s.aliasReg host o a r i j b data = s.setReg r (setBits (s.reg r i j) b b (getBits data 0 0)) i j := by
  have own : regIdx r host i j = (i, j) := by rw [regIdx, hp]; rfl
  have found := List.find?_some hf
  simp only [decide_eq_true_eq] at found
  have mask : (accMask r fun a => a == .rw).getLsbD b = true := by
    rw [accMask_bit, List.any_eq_true]
    exact ⟨f, List.mem_of_find?_eq_some hf, by simp [hacc, mask_bit f h32 found.1 found.2]⟩
  simp only [State.aliasReg, hf, hacc, State.aliasField, own, mirrored_mgt lo hi, Bool.false_and, Bool.false_eq_true, if_false,
    regWrite_mgt lo hi hb host hsc hrwe hp, List.filter_nil, State.accErr, mirror_none _ _ _ _ _ _ (mirrored_mgt lo hi),
    plainWord_setBit h32 mask (clampWord_mgt lo hi hb)]

end

/-- Settles O9: every access that passes the checks is an equation about its register. -/
theorem registerAccesses : Obligations.RegisterAccesses := by
  refine ⟨fun s h off data r i j hr lo hi hsc hrwe hp hl hg hc hm hig ha => ?_,
    fun s h off data r i j hr hsc hcff hmi hbulk hl hg hc hm ha hpba => ⟨fun hseq => ?_, fun hseq => ?_⟩,
    fun s h off r i j hr _ hlo hhi _ hcff hb hl hg hc ha hpba => ?_,
    fun s h off r q i j k l hr hlo hq hhi hcff sem cap td gcl hl hg hc ha => ?_, fun s h hr => does_accAddrRead hr,
    fun s h off data r i j f hr lo hi hb hsc hrwe hp hf hacc ha hl hg hc hm => ?_,
    fun s h off data r i j f hr hf hacc ha hl hg hc hm => ?_⟩
  · exact does_registerWrite_swc data hr lo hi hsc hrwe hp hl hg hc hm hig ha
  · exact does_scClearWrite_seq hr hsc hcff hmi hbulk hl hg hc hm ha hpba hseq
  · exact does_scClearWrite_stale hr hsc hcff hmi hbulk hl hg hc hm ha hseq
  · exact does_clearingRead_rc hr hlo hhi hcff hb hl hg hc ha hpba
  · exact does_pairLoRead hr hlo hq hhi hcff sem cap td gcl hl hg hc ha
  · refine does_aliasWrite hr ha hl hg hc hm ?_
    rw [aliasReg_mgt lo hi hb hf hacc (by omega) hsc hrwe hp]
    have lt := off.isLt
    have le := base_le_of_regAt hr
    refine ⟨?_, settled_keeps _ _ _ (State.keepsRegs_setReg (State.keepsRegs_refl _) _ _ _ _ List.mem_cons_self),
      settled_onlyRegs (State.onlyRegs_setReg State.onlyRegs_refl ..)⟩
    rw [settled_reg _ _ _ _ _ (not_pbaOff _ ?_)]
    · exact State.reg_setReg_same ..
    · rw [off_of_regAt hr hp, show pbaOffs = [0x8800, 0x8804, 0x1008800, 0x1008804] by decide]
      simp only [List.mem_cons, List.not_mem_nil, or_false]
      omega
  · refine does_aliasWrite hr ha hl hg hc hm ?_
    rw [aliasReg_ignored hf hacc]
    exact ⟨settled_keeps _ _ _ (State.keepsRegs_refl _), settled_onlyRegs State.onlyRegs_refl⟩

end Sys2Proof.Machine
end

section
set_option Elab.async false
/-! PROOFS. Claims of semaphores and what a host link's reset leaves of them (15_host_ports_and_registers.md R438, R440, R433); doorbells, message
vectors and their masks (R452, R453). -/

namespace Sys2Proof.Machine

variable {s : State}

/-! ## A claim of a semaphore (R438) -/

theorem does_semClaimRead_free {h : HostId} {n : Fin 64} (hr : s.reaches h R.GLB_SEM n 0 = true) (free : s.get F.GLB_SEM_OWNER n = 0) :
    Does (.semClaimRead h n) s fun t =>
      t.get F.GLB_SEM_OWNER n = hostNum h + 1 ∧ t.get F.GLB_SEM_TAG n = 0 ∧
      t.out = s.out ++ [.readData (hostNum h) (BitVec.ofNat 64 ((t.reg R.GLB_SEM n ||| 0x80000000) ||| s.rsvdShown (hostNum h) R.GLB_SEM n 0).toNat)] ∧
      s.keepsRegs t [R.GLB_SEM.off n 0] := by
  let u := (s.put F.GLB_SEM_OWNER (hostNum h + 1) n).put F.GLB_SEM_TAG 0 n
  have claim : s.semRead (hostNum h) n = (u.reg R.GLB_SEM n ||| 0x80000000, u) := if_pos free
  have read : ∀ a, s.regRead (hostNum h) a R.GLB_SEM n 0 =
      ((s.semRead (hostNum h) n).1 ||| s.rsvdShown (hostNum h) R.GLB_SEM n 0, (s.semRead (hostNum h) n).2) := fun _ => if_pos rfl
  have own : hostNum h + 1 < 4 := by cases h <;> decide
  refine does_rowRead rfl hr ((read _).trans (by rw [claim])) ⟨?_, ?_, ?_, settled_keeps _ _ _ ?_⟩
  · rw [settled_get _ _ _ _ _ (sem_not_pbaOff n.isLt)]
    change u.get F.GLB_SEM_OWNER n = hostNum h + 1
    rw [State.get_put_beside _ (by decide), State.get_put_fits _ (by decide) own]
  · rw [settled_get _ _ _ _ _ (sem_not_pbaOff n.isLt)]
    exact State.get_put_fits _ (by decide) (by decide) _ _
  · rw [settled_out, settled_reg _ _ _ _ _ (sem_not_pbaOff n.isLt)]
    rfl
  · have owner : s.keepsRegs (s.put F.GLB_SEM_OWNER (hostNum h + 1) n) [R.GLB_SEM.off n 0] :=
      State.keepsRegs_put (State.keepsRegs_refl _) _ _ _ _ (List.mem_singleton.2 rfl)
    exact State.keepsRegs_put owner F.GLB_SEM_TAG 0 n 0 (List.mem_singleton.2 rfl)

/-! ## The releases of a host link's reset (R440) -/

section
variable {host m n : Nat}

/-- The release of one semaphore leaves those alone that the host does not own. -/
theorem State.reg_semAutoOne_not_owned (h : s.get F.GLB_SEM_OWNER n ≠ host + 1) : (s.semAutoOne host m).reg R.GLB_SEM n = s.reg R.GLB_SEM n := by
  by_cases hm : s.get F.GLB_SEM_OWNER m = host + 1
  · have ne : n ≠ m := by
      rintro rfl
      exact h hm
    rw [State.semAutoOne_owned hm, State.reg_put_other _ _ _ _ _ _ _ _ (semEvt_off_ne_sem n).symm,
      State.reg_evt_other _ _ _ _ _ _ _ (semEvt_off_ne_sem n).symm, State.reg_put_other _ _ _ _ _ _ _ _ (sem_off_ne ne)]
  · rw [State.semAutoOne_not_owned hm]

theorem foldl_semAutoOne_not_owned (l : List Nat) (h : s.get F.GLB_SEM_OWNER n ≠ host + 1) :
    (l.foldl (fun s n => s.semAutoOne host n) s).reg R.GLB_SEM n = s.reg R.GLB_SEM n := by
  induction l generalizing s with
  | nil => rfl
  | cons m l ih =>
    have kept := s.reg_semAutoOne_not_owned (m := m) h
    have get : (s.semAutoOne host m).get F.GLB_SEM_OWNER n = s.get F.GLB_SEM_OWNER n := congrArg (getBits · 29 28) kept
    rw [List.foldl_cons, ih (get ▸ h), kept]

theorem State.reg_semAuto_not_owned (h : s.get F.GLB_SEM_OWNER n ≠ host + 1) : (s.semAuto host).reg R.GLB_SEM n = s.reg R.GLB_SEM n :=
  foldl_semAutoOne_not_owned _ h

/-- AUTO_REL, once set, stays through further releases. -/
theorem State.autoRel_semAutoOne (h : s.bit F.GLB_SEM_EVT_AUTO_REL = true) : (s.semAutoOne host m).bit F.GLB_SEM_EVT_AUTO_REL = true := by
  by_cases hm : s.get F.GLB_SEM_OWNER m = host + 1
  · rw [State.semAutoOne_owned hm]
    exact State.bit_put_one _ (by decide) (by decide) _ _
  · rwa [State.semAutoOne_not_owned hm]

theorem foldl_semAutoOne_autoRel (l : List Nat) (hn : n ∈ l) (hown : s.get F.GLB_SEM_OWNER n = host + 1) :
    (l.foldl (fun s n => s.semAutoOne host n) s).bit F.GLB_SEM_EVT_AUTO_REL = true := by
  induction l generalizing s with
  | nil => cases hn
  | cons m l ih =>
    rw [List.foldl_cons]
    by_cases hm : n = m
    · subst hm
      refine List.foldlRecOn (motive := (State.bit · F.GLB_SEM_EVT_AUTO_REL = true)) l _ ?_ fun _ hf _ _ => State.autoRel_semAutoOne hf
      rw [State.semAutoOne_owned hown]
      exact State.bit_put_one _ (by decide) (by decide) _ _
    · exact ih (List.mem_of_ne_of_mem hm hn) ((State.owner_semAutoOne_other hm).trans hown)

theorem State.autoRel_semAuto (hn : n < 64) (hown : s.get F.GLB_SEM_OWNER n = host + 1) : (s.semAuto host).bit F.GLB_SEM_EVT_AUTO_REL = true :=
  foldl_semAutoOne_autoRel _ (List.mem_range.2 hn) hown

/-- After its link's reset a host owns no semaphore. -/
theorem State.owner_semAuto_ne (hn : n < 64) : (s.semAuto host).get F.GLB_SEM_OWNER n ≠ host + 1 := by
  by_cases hown : s.get F.GLB_SEM_OWNER n = host + 1
  · rw [(s.semAuto_freed hn hown).1]
    omega
  · rwa [State.get, show F.GLB_SEM_OWNER.reg = R.GLB_SEM from rfl, State.reg_semAuto_not_owned hown]

/-- The link's own fields stand in GLB_HOST_STAT, apart from the semaphores. -/
theorem State.owner_hostLinkDown : (s.hostLinkDown host).get F.GLB_SEM_OWNER n = s.get F.GLB_SEM_OWNER n := by
  have free : ∀ f ∈ [hostUp host, hostWidth host, hostSpeed host, hostL1 host], free F.GLB_SEM_OWNER.reg f.reg = true := by
    unfold hostUp hostWidth hostSpeed hostL1
    by_cases h0 : host = 0
    · simp only [h0, if_true]
      decide
    · simp only [h0, if_false]
      decide
  simp only [List.mem_cons, List.not_mem_nil, or_false, forall_eq_or_imp, forall_eq] at free
  obtain ⟨up, width, speed, l1⟩ := free
  rw [State.hostLinkDown, State.get_put_free _ l1, State.get_put_free _ speed, State.get_put_free _ width, State.get_put_free _ up]

theorem State.up_hostLinkDown : (s.hostLinkDown host).bit (hostUp host) = false := by
  have beside : ∀ f ∈ [hostWidth host, hostSpeed host, hostL1 host], besideFld f (hostUp host) = true := by
    unfold hostUp hostWidth hostSpeed hostL1
    by_cases h0 : host = 0
    · simp only [h0, if_true]
      decide
    · simp only [h0, if_false]
      decide
  simp only [List.mem_cons, List.not_mem_nil, or_false, forall_eq_or_imp, forall_eq] at beside
  obtain ⟨width, speed, l1⟩ := beside
  rw [State.hostLinkDown, State.bit_put_beside _ l1, State.bit_put_beside _ speed, State.bit_put_beside _ width]
  exact State.bit_put_zero _ (by unfold hostUp; split <;> decide) _ _

theorem hostUp_pbaFree (host : Nat) : pbaFree (hostUp host).reg = true := by unfold hostUp; split <;> decide

/-- After an FLR, a hot reset or a link down of a host it owns no semaphore, and after all but FLR its link is down. -/
theorem settled_hostLinkReset (b : State) (cause : Nat) : (∀ n < 64, (settled b (s.hostLinkReset host cause)).get F.GLB_SEM_OWNER n ≠ host + 1) ∧
    (cause ≠ 0 → (settled b (s.hostLinkReset host cause)).bit (hostUp host) = false) := by
  refine ⟨fun n hn => ?_, fun hc => ?_⟩
  · rw [settled_get _ _ _ _ _ (sem_not_pbaOff hn)]
    unfold State.hostLinkReset
    dsimp only
    split
    · exact State.owner_semAuto_ne hn
    · rw [State.owner_hostLinkDown]
      exact State.owner_semAuto_ne hn
  · rw [settled_bit_free _ _ (hostUp_pbaFree host), State.hostLinkReset]
    simp only [hc, if_false]
    exact State.up_hostLinkDown

end

/-! ## What settling leaves of a host's port -/

theorem hostPort_d3_vectorSettle (h v k : Nat) : ((s.vectorSettle h v).hostPort k).d3 = (s.hostPort k).d3 := by
  have arm : ∀ (x : HostPort) w, (x.arm w).d3 = x.d3 := fun x w => by unfold HostPort.arm; split <;> rfl
  unfold State.vectorSettle
  split
  · rw [setPba_hostPort]
    unfold State.setHost State.hostPort
    by_cases h0 : h = 0 <;> by_cases k0 : k = 0 <;> simp [h0, k0, arm]
  · rfl

theorem hostPort_d3_settled (b : State) (k : Nat) : ((settled b s).hostPort k).d3 = (s.hostPort k).d3 := by
  have fold : ∀ (h : Nat) (l : List Nat) (u : State), ((l.foldl (fun s v => State.vectorSettle s h v) u).hostPort k).d3 = (u.hostPort k).d3 :=
    fun h l u => List.foldlRecOn (motive := fun w : State => (w.hostPort k).d3 = (u.hostPort k).d3) l _ rfl fun _ hw v _ =>
      (hostPort_d3_vectorSettle h v k).trans hw
  exact (fold 1 _ _).trans (fold 0 _ s)

/-- Settles O11: the claim; the releases of a link's reset, one semaphore after another; and the mark that D3hot leaves on the host's port. -/
theorem semaphoreClaimAndHostLink : Obligations.SemaphoreClaimAndHostLink := by
  refine ⟨fun s h n hr free => does_semClaimRead_free hr free, fun s host n hn => ⟨State.autoRel_semAuto hn, State.reg_semAuto_not_owned⟩,
    fun s h cause => does_of (u := s.hostLinkReset (hostNum h) cause.val) rfl (settled_hostLinkReset s cause.val),
    fun s h => does_of (u := s.hostLinkReset (hostNum h) 2) rfl ?_, fun s h => does_of (u := s.hostD3 (hostNum h)) rfl ?_⟩
  · obtain ⟨free, down⟩ := settled_hostLinkReset (s := s) (host := hostNum h) s 2
    exact ⟨free, down (by decide)⟩
  · rw [hostPort_d3_settled, State.hostD3]
    cases h <;> rfl

end Sys2Proof.Machine
end

section
set_option Elab.async false
/-! PROOFS. Doorbells, message vectors and their masks (15_host_ports_and_registers.md R451 to R453). -/

namespace Sys2Proof.Machine

variable {s t : State}

/-! ## What the vectors follow (R451) -/

/-- The registers that decide which vectors are pending. -/
def pendingRegs : List RegSpec := [R.GLB_DB_STAT, R.EGS_EVT, R.PORT_EVT, R.DMA_CH_EVT] ++ vectorSources.map (·.1)

/-- Whether a vector is pending follows the entries of those registers alone. -/
theorem vectorPending_congr (h : ∀ q ∈ pendingRegs, ∀ i j, q.inside i j → t.reg q i j = s.reg q i j) {host v : Nat} (hh : host < 2) (hv : v < 64) :
    t.vectorPending host v = s.vectorPending host v := by
  have same : ∀ q ∈ pendingRegs, ∀ i, q.inside i 0 → t.reg q i = s.reg q i := fun q hq i hi => h q hq i 0 hi
  have word : ∀ q ∈ pendingRegs, ∀ k, 8 * k + 7 < q.rows → 0 < q.cols →
      ((List.range 8).any fun i => pendingWord (t.reg q (8 * k + i))) = (List.range 8).any fun i => pendingWord (s.reg q (8 * k + i)) :=
    fun q hq k hk hc => by
      rw [Bool.eq_iff_iff, List.any_eq_true, List.any_eq_true]
      refine exists_congr fun i => and_congr_right fun hi => ?_
      have : i < 8 := List.mem_range.1 hi
      rw [same q hq _ ⟨by omega, hc⟩]
  unfold State.vectorPending
  split
  · rw [State.get, State.get, show F.GLB_DB_STAT_DB.reg = R.GLB_DB_STAT from rfl, same R.GLB_DB_STAT (by decide) host ⟨hh, by decide⟩]
  split
  · rfl
  split
  · rw [word R.EGS_EVT (by decide) (v - 43) (show 8 * (v - 43) + 7 < 72 by omega) (by decide)]
  split
  · rw [word R.PORT_EVT (by decide) (v - 34) (show 8 * (v - 34) + 7 < 72 by omega) (by decide)]
  split
  · rw [same R.DMA_CH_EVT (by decide) (v - 16) ⟨show v - 16 < 16 by omega, by decide⟩]
  split
  · next e he =>
    have hm := List.mem_of_find?_eq_some he
    have single : ∀ x ∈ vectorSources, x.1.inside 0 0 := by decide
    rw [same e.1 (List.mem_append_right _ (List.mem_map_of_mem hm)) 0 (single e hm)]
  · rfl

/-! ## What settling leaves of a pending vector -/

theorem vectorSettle_keeps_pending {h v k w : Nat} (hh : h < 2) (hk : k < 2) (hv : v < 64) (hw : w < 64) (hp : s.vectorPending k w = true) :
    ((s.vectorSettle h v).hostPort k).sent.testBit w = (s.hostPort k).sent.testBit w ∧ (s.vectorSettle h v).pba k w = s.pba k w := by
  unfold State.vectorSettle
  split
  · next c =>
    simp only [Bool.and_eq_true, Bool.not_eq_true'] at c
    have ne : ¬ (k = h ∧ w = v) := by
      rintro ⟨rfl, rfl⟩
      rw [c.2] at hp
      cases hp
    have reg : ∀ x, (s.setHost h x).pba k w = s.pba k w := fun x => by simp only [State.pba, State.get, State.setHost_reg]
    rw [setPba_hostPort, setHost_hostPort _ _ _ _ hh hk, pba_setPba _ _ _ _ _ hh hk hv hw, if_neg ne, reg]
    refine ⟨?_, rfl⟩
    split
    · next e =>
      rw [arm_other _ _ _ fun e' => ne ⟨e, e'⟩, e]
    · rfl
  · exact ⟨rfl, rfl⟩

theorem foldl_vectorSettle_keeps_pending {h k w : Nat} (hh : h < 2) (hk : k < 2) (hw : w < 64) (l : List Nat) (hl : ∀ v ∈ l, v < 64)
    (hp : s.vectorPending k w = true) : ((l.foldl (fun s v => State.vectorSettle s h v) s).hostPort k).sent.testBit w = (s.hostPort k).sent.testBit w ∧
      (l.foldl (fun s v => State.vectorSettle s h v) s).pba k w = s.pba k w ∧
      (l.foldl (fun s v => State.vectorSettle s h v) s).vectorPending k w = true := by
  induction l generalizing s with
  | nil => exact ⟨rfl, rfl, hp⟩
  | cons v l ih =>
    have hv := hl v List.mem_cons_self
    have still := (settle_pending s h v k w hh hk hv hw).trans hp
    obtain ⟨sent, pba, pend⟩ := ih (fun x hx => hl x (List.mem_cons_of_mem _ hx)) still
    obtain ⟨sent', pba'⟩ := vectorSettle_keeps_pending hh hk hv hw hp
    exact ⟨sent.trans sent', pba.trans pba', pend⟩

/-- The end of a command leaves a pending vector sent or not, and its PBA bit, as they were. -/
theorem settled_keeps_pending (b : State) {k w : Nat} (hk : k < 2) (hw : w < 64) (hp : s.vectorPending k w = true) :
    ((settled b s).hostPort k).sent.testBit w = (s.hostPort k).sent.testBit w ∧ (settled b s).pba k w = s.pba k w := by
  have r : ∀ v ∈ List.range 64, v < 64 := fun v hv => List.mem_range.1 hv
  obtain ⟨sent0, pba0, pend⟩ := foldl_vectorSettle_keeps_pending (h := 0) (by decide) hk hw _ r hp
  obtain ⟨sent1, pba1, -⟩ := foldl_vectorSettle_keeps_pending (h := 1) (by decide) hk hw _ r pend
  exact ⟨sent1.trans sent0, pba1.trans pba0⟩

/-! ## Setting a PBA bit and sending a message (R452) -/

section
variable {host v : Nat}

theorem setPba_keeps (hh : host < 2) (hv : v < 64) (b : Bool) (l : List Nat) : s.keepsRegs (s.setPba host v b) l := fun q i j hq =>
  s.setPba_reg host v b q i j fun e => hq (List.mem_append_right _ (pbaOff_mem _ ⟨v / 32, host, hh, by omega, e⟩))

theorem vectorPending_setPba (hh : host < 2) (hv : v < 64) (b : Bool) {k : Nat} (hk : k < 2) (w : Nat) :
    (s.setPba host v b).vectorPending k w = s.vectorPending k w :=
  vectorPending_reg (fun q i j hq => s.setPba_reg host v b q i j fun e => hq ⟨v / 32, host, hh, by omega, e⟩) k w hk

theorem pba_setPba_true : (s.setPba host v true).pba host v = true := by
  have lt : s.get F.MSIX_PBA_PBA (v / 32) host < 2 ^ 32 := getBits_lt _ _ _
  have bit : 2 ^ (v % 32) < 2 ^ 32 := Nat.pow_lt_pow_right (by decide) (by omega)
  have fits : s.get F.MSIX_PBA_PBA (v / 32) host ||| 2 ^ (v % 32) < 2 ^ F.MSIX_PBA_PBA.width := Nat.or_lt_two_pow lt bit
  rw [State.pba, State.setPba, State.putBit]
  simp only [if_true]
  rw [State.get_put_fits _ (by decide) fits, Nat.testBit_or, Nat.testBit_two_pow_self, Bool.or_true]

theorem setHost_keeps (x : HostPort) (l : List Nat) : s.keepsRegs (s.setHost host x) l := fun q i j _ => s.setHost_reg host x q i j

theorem vectorPending_setHost (x : HostPort) {k : Nat} (hk : k < 2) (w : Nat) : (s.setHost host x).vectorPending k w = s.vectorPending k w :=
  vectorPending_reg (fun q i j _ => s.setHost_reg host x q i j) k w hk

theorem setHost_out (x : HostPort) : (s.setHost host x).out = s.out := by unfold State.setHost; split <;> rfl

theorem setPba_out (b : Bool) : (s.setPba host v b).out = s.out := rfl

/-- What the message of a vector drives out: a posted write to the address of its entry. -/
def State.messageOf (s : State) (host v : Nat) : Out :=
  .message host v (s.get F.MSIX_ADDR_LO_ADDR v host + 2 ^ 32 * s.get F.MSIX_ADDR_HI_ADDR v host) (s.reg R.MSIX_DATA v host)

/-- A message marks its vector sent in the host's port, clears its PBA bit, and goes out. -/
theorem sendMessage_eq : ∃ x : HostPort, x.sent.testBit v = true ∧
    s.sendMessage host v = ((s.setHost host x).setPba host v false).emit (s.messageOf host v) := by
  let x : HostPort := { s.hostPort host with sent := (s.hostPort host).sent ||| 2 ^ v, lastMsg := tabInsert v s.inv.ticks (s.hostPort host).lastMsg }
  refine ⟨x, by simp only [x, Nat.testBit_or, Nat.testBit_two_pow_self, Bool.or_true], ?_⟩
  have reg : ∀ q i j, (s.setHost host x).reg q i j = s.reg q i j := s.setHost_reg host x
  have get : ∀ f i j, (s.setHost host x).get f i j = s.get f i j := fun f i j => by rw [State.get, reg, State.get]
  unfold State.sendMessage State.messageOf
  dsimp only
  rw [get, get, reg]

theorem hostPort_emit (o : Out) (k : Nat) : (s.emit o).hostPort k = s.hostPort k := rfl

theorem vectorPending_emit (o : Out) (k w : Nat) : (s.emit o).vectorPending k w = s.vectorPending k w := rfl

theorem pba_emit (o : Out) (k w : Nat) : (s.emit o).pba k w = s.pba k w := rfl

/-- What a command leaves that sends the message of a pending vector. -/
theorem settled_sendMessage (b : State) (hh : host < 2) (hv : v < 64) (hp : s.vectorPending host v = true) :
    (settled b (s.sendMessage host v)).out = s.out ++ [s.messageOf host v] ∧
      ((settled b (s.sendMessage host v)).hostPort host).sent.testBit v = true ∧ (settled b (s.sendMessage host v)).pba host v = false ∧
      s.keepsRegs (s.sendMessage host v) [] := by
  obtain ⟨x, hx, e⟩ := sendMessage_eq (s := s) (host := host) (v := v)
  rw [e]
  have pend : (((s.setHost host x).setPba host v false).emit (s.messageOf host v)).vectorPending host v = true := by
    rw [vectorPending_emit, vectorPending_setPba hh hv false hh, vectorPending_setHost x hh, hp]
  obtain ⟨sent, pba⟩ := settled_keeps_pending b hh hv pend
  refine ⟨?_, ?_, ?_, ?_⟩
  · rw [settled_out, State.emit, setPba_out, setHost_out]
  · rw [sent, hostPort_emit, setPba_hostPort, setHost_hostPort _ _ _ _ hh hh, if_pos rfl, hx]
  · rw [pba, pba_emit, pba_setPba _ _ _ _ _ hh hh hv hv, if_pos ⟨rfl, rfl⟩]
  · exact State.keepsRegs_trans (setHost_keeps x []) (setPba_keeps hh hv false [])

end

theorem hostNum_lt (h : HostId) : hostNum h < 2 := by cases h <;> decide

/-! ## Doorbells (R453) -/

/-- The doorbells rung of a host: each is a new event of its vector. -/
theorem doorbell_only (host : Nat) {ring : Nat} (h : ring ≠ 0) : ∃ x, s.doorbell host ring =
    ((s.put F.GLB_DB_STAT_DB (s.get F.GLB_DB_STAT_DB (1 - host) ||| ring) (1 - host)).incWrap F.GLB_DB_STAT_SEQ (1 - host)).setHost (1 - host) x :=
  ⟨_, by rw [State.doorbell, if_neg h]⟩

theorem onlyRegs_setHost (h : s.onlyRegs t) (host : Nat) (x : HostPort) : s.onlyRegs (t.setHost host x) := by
  refine State.onlyRegs_trans h ?_
  unfold State.setHost
  split <;> exact ⟨_, _, _, rfl⟩

theorem does_doorbell {h : HostId} {ring : Byte} (ho : s.opens h R.GLB_DOORBELL 0 0 = true) (hr : ring ≠ 0) : Does (.doorbell h ring) s fun t =>
    t.get F.GLB_DB_STAT_DB (1 - hostNum h) = s.get F.GLB_DB_STAT_DB (1 - hostNum h) ||| ring.toNat ∧
    t.get F.GLB_DB_STAT_SEQ (1 - hostNum h) = (s.get F.GLB_DB_STAT_SEQ (1 - hostNum h) + 1) % 256 ∧
    s.keepsRegs t [R.GLB_DB_STAT.off (1 - hostNum h) 0] ∧ s.onlyRegs t := by
  have ring0 : ring.toNat ≠ 0 := fun e => hr (BitVec.eq_of_toNat_eq e)
  have fits : s.get F.GLB_DB_STAT_DB (1 - hostNum h) ||| ring.toNat < 2 ^ F.GLB_DB_STAT_DB.width :=
    Nat.or_lt_two_pow (s.get_lt _ _ _) ring.isLt
  obtain ⟨x, hx⟩ := doorbell_only (s := s) (hostNum h) ring0
  have write : s.regWrite (hostNum h) R.GLB_DOORBELL 0 0 15 (word ring.toNat) = ([], s.doorbell (hostNum h) (getBits (word ring.toNat) 7 0)) := rfl
  rw [getBits_word_byte, hx] at write
  have get : ∀ f i, ∀ u : State, (u.setHost (1 - hostNum h) x).get f i = u.get f i := fun f i u => by
    rw [State.get, State.setHost_reg, State.get]
  refine does_rowWrite_own rfl ho (by decide) write ⟨?_, ?_, settled_keeps _ _ _ ?_, settled_onlyRegs ?_⟩
  · rw [settled_get_free _ _ (by decide), get, State.incWrap, State.get_put_beside _ (by decide), State.get_put_fits _ (by decide) fits]
  · rw [settled_get_free _ _ (by decide), get, State.incWrap, State.get_put_same _ _ _ _ _ (by decide), State.get_put_beside _ (by decide)]
    rfl
  · have db := State.keepsRegs_put (s := s) (State.keepsRegs_refl [R.GLB_DB_STAT.off (1 - hostNum h) 0]) F.GLB_DB_STAT_DB
      (s.get F.GLB_DB_STAT_DB (1 - hostNum h) ||| ring.toNat) (1 - hostNum h) 0 (List.mem_singleton.2 rfl)
    exact State.keepsRegs_trans (State.keepsRegs_put db F.GLB_DB_STAT_SEQ _ (1 - hostNum h) 0 (List.mem_singleton.2 rfl)) (setHost_keeps x _)
  · exact onlyRegs_setHost (State.onlyRegs_put (State.onlyRegs_put State.onlyRegs_refl ..) ..) _ _

/-! ## Messages -/

section
variable {h : HostId} {v : Fin 64} {enabled masked : Bool}

theorem msixMessage_due (hp : s.vectorPending (hostNum h) v = true) (hs : (s.hostPort (hostNum h)).sent.testBit v = false)
    (hf : ∀ k, tabFind? v.val (s.hostPort (hostNum h)).lastMsg = some k → k + 500 * s.get F.GLB_INT_CFG_HOLDOFF (hostNum h) ≤ s.inv.ticks) :
    s.msixMessage (hostNum h) v enabled masked = if s.messageAllowed (hostNum h) v enabled masked then s.sendMessage (hostNum h) v
      else s.setPba (hostNum h) v true := by
  unfold State.msixMessage
  dsimp only
  cases hl : tabFind? v.val (s.hostPort (hostNum h)).lastMsg with
  | none => simp only [hp, hs, Bool.not_false, Bool.and_self, if_true]
  | some k => simp only [hp, hs, hf k hl, decide_true, Bool.not_false, Bool.and_self, if_true]

/-- The mask of a vector stands apart from what decides whether it is pending, and from the PBA words. -/
theorem vectorPending_putMask (m : Nat) : (s.put F.MSIX_CTRL_MASKED m v (hostNum h)).vectorPending (hostNum h) v = s.vectorPending (hostNum h) v := by
  have away : ∀ q ∈ pendingRegs, apart q R.MSIX_CTRL = true := by decide
  exact vectorPending_congr (fun q hq i j hi => s.reg_put_other _ _ _ _ _ _ _ (off_ne (away q hq) hi ⟨v.isLt, hostNum_lt h⟩)) (hostNum_lt h) v.isLt

theorem pba_putMask (m : Nat) : (s.put F.MSIX_CTRL_MASKED m v (hostNum h)).pba (hostNum h) v = s.pba (hostNum h) v := by
  have lt := v.isLt
  rw [State.pba, State.get_put_other _ _ _ _ _ _ _ _ (off_ne (by decide) ⟨show v.val / 32 < 2 by omega, hostNum_lt h⟩ ⟨v.isLt, hostNum_lt h⟩)]
  rfl

/-- The mask stands apart from the address and the data of an entry. -/
theorem messageOf_putMask (m : Nat) : (s.put F.MSIX_CTRL_MASKED m v (hostNum h)).messageOf (hostNum h) v = s.messageOf (hostNum h) v := by
  simp (disch := decide) only [State.messageOf, State.get_put_free, State.reg_put_free]

theorem does_msixUnmask (hb : s.pba (hostNum h) v = true) (hp : s.vectorPending (hostNum h) v = true) (hd : (s.hostPort (hostNum h)).d3 = false) :
    Does (.msixUnmask h v true false) s fun t =>
      t.bit F.MSIX_CTRL_MASKED v (hostNum h) = false ∧ t.pba (hostNum h) v = false ∧ (t.hostPort (hostNum h)).sent.testBit v = true ∧
      t.out = s.out ++ [s.messageOf (hostNum h) v] ∧ s.keepsRegs t [R.MSIX_CTRL.off v (hostNum h)] := by
  let u := s.put F.MSIX_CTRL_MASKED 0 v (hostNum h)
  have clear : u.bit F.MSIX_CTRL_MASKED v (hostNum h) = false := State.bit_put_zero _ (by decide) _ _
  have port : (u.hostPort (hostNum h)).d3 = false := hd
  have allowed : u.messageAllowed (hostNum h) v true false = true := by
    rw [State.messageAllowed, clear, port]
    rfl
  have pend : u.vectorPending (hostNum h) v = true := (vectorPending_putMask 0).trans hp
  have send : s.msixUnmask (hostNum h) v true false = u.sendMessage (hostNum h) v := by
    have busy : u.pba (hostNum h) v = true := (pba_putMask 0).trans hb
    rw [State.msixUnmask, if_pos]
    rw [busy, pend, allowed]
    rfl
  obtain ⟨out, sent, pba, keeps⟩ := settled_sendMessage s (hostNum_lt h) v.isLt pend
  have own : s.keepsRegs u [R.MSIX_CTRL.off v (hostNum h)] := State.keepsRegs_put (State.keepsRegs_refl _) _ _ _ _ (List.mem_singleton.2 rfl)
  refine does_of (u := s.msixUnmask (hostNum h) v true false) rfl ?_
  rw [send]
  refine ⟨?_, pba, sent, out.trans (by rw [messageOf_putMask]; rfl), settled_keeps _ _ _ ?_⟩
  · have mask : R.MSIX_CTRL.off v (hostNum h) ∉ pbaOffs := fun hm => by
      have e : pbaOffs = [0x8800, 0x8804, 0x1008800, 0x1008804] := by decide
      have lt := v.isLt
      have off : R.MSIX_CTRL.off v (hostNum h) = 0x800C + v * 0x10 + hostNum h * 0x1000000 := rfl
      rw [e, off] at hm
      simp only [List.mem_cons, List.not_mem_nil, or_false] at hm
      have := hostNum_lt h
      omega
    have kept : (u.sendMessage (hostNum h) v).bit F.MSIX_CTRL_MASKED v (hostNum h) = u.bit F.MSIX_CTRL_MASKED v (hostNum h) :=
      congrArg (fun w => getBits w 0 0 != 0) (keeps R.MSIX_CTRL v (hostNum h) mask)
    rw [settled_bit _ _ _ _ _ (not_pbaOff _ mask), kept, clear]
  · exact State.keepsRegs_trans own fun q i j hq => keeps q i j fun hm => hq (List.mem_append_right _ hm)

end

/-- Settles O12: the doorbell's two fields; a due message, sent or refused; and a mask that is cleared. -/
theorem doorbellsAndMessages : Obligations.DoorbellsAndMessages := by
  refine ⟨fun s h ring ho hr => does_doorbell ho hr, fun s h v enabled masked hp hs hf => ⟨fun allowed => ?_, fun refused => ?_⟩,
    fun s h v hb hp hd => does_msixUnmask hb hp hd⟩
  · obtain ⟨out, sent, pba, keeps⟩ := settled_sendMessage s (hostNum_lt h) v.isLt hp
    refine does_of (u := s.msixMessage (hostNum h) v enabled masked) rfl ?_
    rw [msixMessage_due hp hs hf, if_pos allowed]
    exact ⟨out, sent, pba, settled_keeps _ _ _ keeps⟩
  · refine does_of (u := s.msixMessage (hostNum h) v enabled masked) rfl ?_
    rw [msixMessage_due hp hs hf, refused]
    simp only [Bool.false_eq_true, if_false]
    have pend := (vectorPending_setPba (s := s) (hostNum_lt h) v.isLt true (hostNum_lt h) v).trans hp
    refine ⟨(settled_out ..).trans (setPba_out true), ?_, settled_keeps _ _ _ (setPba_keeps (hostNum_lt h) v.isLt true [])⟩
    rw [(settled_keeps_pending s (hostNum_lt h) v.isLt pend).2]
    exact pba_setPba_true

end Sys2Proof.Machine
end

section
set_option Elab.async false
/-! PROOFS. The I2C target, the test access port, the watchdog and the temperature alarm (15_host_ports_and_registers.md R459, R461, R462;
21_pins_power_and_electrical.md R603). -/

namespace Sys2Proof.Machine

variable {s : State}

/-- Bits of a word that is spelled as a number. -/
theorem getBits_word (n hi lo : Nat) : getBits (word n) hi lo = n % 2 ^ 32 / 2 ^ lo % 2 ^ (hi + 1 - lo) := by
  rw [getBits, word, BitVec.toNat_ofNat, Nat.shiftRight_eq_div_pow]

theorem beNat_lt (l : List Byte) : beNat l < 256 ^ l.length := by
  have step : ∀ (l : List Byte) (a : Nat), l.foldl (fun a b => a * 256 + b.toNat) a < (a + 1) * 256 ^ l.length := by
    intro l
    induction l with
    | nil => intro a; simp
    | cons b l ih =>
      intro a
      have hb := b.isLt
      calc (b :: l).foldl (fun a b => a * 256 + b.toNat) a < (a * 256 + b.toNat + 1) * 256 ^ l.length := ih _
        _ ≤ ((a + 1) * 256) * 256 ^ l.length := Nat.mul_le_mul_right _ (by omega)
        _ = (a + 1) * 256 ^ (b :: l).length := by rw [List.length_cons, Nat.pow_succ]; ring
  simpa [beNat] using step l 0

theorem beAt_lt (l : List Byte) (i n : Nat) : beAt l i n < 256 ^ n := by
  have := beNat_lt (bytesAt l i n)
  rwa [bytesAt, List.length_map, List.length_range] at this

/-! ## I2C (R459) -/

theorem does_i2cWrite (b : List Byte) (hb : 4 ≤ b.length) : Does (.i2cWrite b) s fun t =>
    t.mgt = { s.mgt with i2cPtr := beAt b 0 4 } ∧
    (8 ≤ b.length → beAt b 0 4 = R.MGT_I2C_MBOX_IN.base → t.get F.MGT_I2C_MBOX_IN_DATA = beAt b 4 4 ∧ t.bit F.MGT_EVT_MBOX_IN = true) ∧
    s.keepsRegs t [R.MGT_I2C_MBOX_IN.base, R.MGT_EVT.base] := by
  refine does_of (u := s.i2cWrite b) rfl ?_
  let u : State := { s with mgt := { s.mgt with i2cPtr := beAt b 0 4 } }
  have own : s.keepsRegs u [R.MGT_I2C_MBOX_IN.base, R.MGT_EVT.base] := State.keepsRegs_of_eq _ rfl
  have e : s.i2cWrite b = if 8 ≤ b.length ∧ beAt b 0 4 = R.MGT_I2C_MBOX_IN.base then
      (u.put F.MGT_I2C_MBOX_IN_DATA (beAt b 4 4)).evt F.MGT_EVT_MBOX_IN else u := by
    rw [State.i2cWrite, if_neg (by omega)]
  rw [e]
  by_cases hm : 8 ≤ b.length ∧ beAt b 0 4 = R.MGT_I2C_MBOX_IN.base
  · rw [if_pos hm]
    refine ⟨by simp [u], fun _ _ => ⟨?_, ?_⟩, settled_keeps _ _ _ ?_⟩
    · rw [settled_get_free _ _ (by decide), State.get_evt_free _ (by decide), State.get_put_fits _ (by decide) (beAt_lt b 4 4)]
    · rw [settled_bit_free _ _ (by decide)]
      exact State.bit_evt_same _ _ _ _ (by decide) (by decide)
    · exact State.keepsRegs_evt (State.keepsRegs_put own _ _ _ _ (by decide)) _ _ _ (by decide)
  · rw [if_neg hm]
    exact ⟨settled_mgt _ _, fun h8 hp => absurd ⟨h8, hp⟩ hm, settled_keeps _ _ _ own⟩

/-- The word that the target reads leaves all but the count of free values as it was. -/
theorem i2cWord_only (s : State) (p : Nat) : ∃ n, (s.i2cWord p).2 = { s with freeCtr := n } := by
  unfold State.i2cWord
  split
  · exact ⟨_, rfl⟩
  · split
    · exact ⟨_, rfl⟩
    · split
      · exact ⟨_, rfl⟩
      · exact ⟨_, rfl⟩

theorem i2cRead_leaves (n : Nat) : (s.i2cRead n).mgt = { s.mgt with i2cPtr := if n = 0 then s.mgt.i2cPtr else (s.mgt.i2cPtr + 4 * n) % 2 ^ 32 } ∧
    (s.i2cRead n).out.length = s.out.length + n ∧ s.keepsRegs (s.i2cRead n) [] := by
  induction n generalizing s with
  | zero => exact ⟨rfl, rfl, State.keepsRegs_refl _⟩
  | succ n ih =>
    obtain ⟨k, hk⟩ := i2cWord_only s s.mgt.i2cPtr
    rw [State.i2cRead, hk]
    dsimp only
    obtain ⟨mgt, out, keeps⟩ := ih (s := { ({ s with freeCtr := k } : State).emit (.i2c (beBytes 4 (s.i2cWord s.mgt.i2cPtr).1.toNat)) with
      mgt := { s.mgt with i2cPtr := (s.mgt.i2cPtr + 4) % 2 ^ 32 } })
    refine ⟨?_, ?_, keeps⟩
    · refine mgt.trans ?_
      simp only [Nat.add_one_ne_zero, if_false]
      congr 1
      split
      · next h0 => rw [h0]
      · omega
    · refine out.trans ?_
      have one : (s.out ++ [Out.i2c (beBytes 4 (s.i2cWord s.mgt.i2cPtr).1.toNat)]).length = s.out.length + 1 := List.length_append
      exact (congrArg (· + n) one).trans (by omega)

/-! ## The test access port (R461) -/

theorem tapDrive_tap (u : State) : u.tapDrive.tap = u.tap ∧ u.tapDrive.regs = u.regs := by
  unfold State.tapDrive
  dsimp only
  split
  · exact ⟨rfl, rfl⟩
  · split <;> exact ⟨rfl, rfl⟩

/-- What the controller's present state does with the edge, before it moves on. -/
def State.tapAct (s : State) (tdi : Bool) (cells : List Bool) : State :=
  match s.tap.fsm with
  | .captureDr => { s with tap := { s.tap with drShift := s.tapCapture cells } }
  | .shiftDr =>
    if tapPublic s.tapIr then
      ({ s with tap := { s.tap with drShift := shiftBits s.tap.drShift tdi } }).emit (.pin "TDO" (s.tap.drShift.headD false))
    else (s.draw 1).2.emit (.pin "TDO" ((s.draw 1).1.getLsbD 0))
  | .captureIr => { s with tap := { s.tap with irShift := bitsOf 8 0x01 } }
  | .shiftIr => ({ s with tap := { s.tap with irShift := shiftBits s.tap.irShift tdi } }).emit (.pin "TDO" (s.tap.irShift.headD false))
  | _ => s

/-- What the controller does on entering a state. -/
def State.tapEnter (s : State) (f : TapFsm) : State :=
  let s := { s with tap := { s.tap with fsm := f } }
  match f with
  | .testLogicReset => { s with tap := { s.tap with ir := 0x01 } }
  | .updateIr => ({ s with tap := { s.tap with ir := natOfBits s.tap.irShift } }).tapDrive
  | .updateDr => if s.tapIr = 0x00 ∨ s.tapIr = 0x02 then ({ s with tap := { s.tap with boundary := s.tap.drShift } }).tapDrive else s
  | _ => s

theorem tapEdge_eq (tms tdi : Bool) (cells : List Bool) :
    s.tapEdge tms tdi false cells = (s.tapAct tdi cells).tapEnter (s.tap.fsm.next tms) := by
  unfold State.tapEdge State.tapAct State.tapEnter
  rw [if_neg Bool.false_ne_true] <;> rfl

theorem tapAct_regs (tdi : Bool) (cells : List Bool) : (s.tapAct tdi cells).regs = s.regs := by
  unfold State.tapAct
  split <;> (try split) <;> rfl

theorem tapEnter_leaves (f : TapFsm) : (s.tapEnter f).tap.fsm = f ∧ (f = .testLogicReset → (s.tapEnter f).tap.ir = 0x01) ∧
    (s.tapEnter f).tap.irShift = s.tap.irShift ∧ (s.tapEnter f).tap.drShift = s.tap.drShift ∧ (s.tapEnter f).regs = s.regs := by
  unfold State.tapEnter
  cases f with
  | updateIr =>
    dsimp only
    rw [(tapDrive_tap _).1, (tapDrive_tap _).2]
    exact ⟨rfl, nofun, rfl, rfl, rfl⟩
  | updateDr =>
    dsimp only
    split
    · rw [(tapDrive_tap _).1, (tapDrive_tap _).2]
      exact ⟨rfl, nofun, rfl, rfl, rfl⟩
    · exact ⟨rfl, nofun, rfl, rfl, rfl⟩
  | testLogicReset => exact ⟨rfl, fun _ => rfl, rfl, rfl, rfl⟩
  | _ => exact ⟨rfl, nofun, rfl, rfl, rfl⟩

theorem does_tapTckEdge (tms tdi : Bool) (cells : List Bool) : Does (.tapTckEdge tms tdi false cells) s fun t =>
    t.tap.fsm = s.tap.fsm.next tms ∧ (t.tap.fsm = .testLogicReset → t.tap.ir = 0x01) ∧
    (s.tap.fsm = .shiftIr → t.tap.irShift = shiftBits s.tap.irShift tdi) ∧
    (s.tap.fsm = .shiftDr → tapPublic s.tapIr = true → t.tap.drShift = shiftBits s.tap.drShift tdi) ∧
    (s.tap.fsm = .captureDr → t.tap.drShift = s.tapCapture cells) ∧ s.keepsRegs t [] := by
  obtain ⟨fsm, ir, irShift, drShift, regs⟩ := tapEnter_leaves (s := s.tapAct tdi cells) (s.tap.fsm.next tms)
  refine does_of (u := s.tapEdge tms tdi false cells) rfl ?_
  rw [tapEdge_eq]
  simp only [settled_tap]
  refine ⟨fsm, fun h => ir (fsm.symm.trans h), fun h => ?_, fun h hp => ?_, fun h => ?_,
    settled_keeps _ _ _ (State.keepsRegs_of_eq _ (regs.trans (tapAct_regs ..)))⟩
  · rw [irShift, State.tapAct, h]
    rfl
  · rw [drShift, State.tapAct, h]
    simp only [hp, if_true]
    rfl
  · rw [drShift, State.tapAct, h]

/-! ## The watchdog (R462) -/

/-- A write of MGT_WDT_CFG before its first one has locked EN. -/
theorem wdtCfg_open (w : Word) (hl : s.mgt.wdtLocked = false) (hen : s.bit F.MGT_WDT_CFG_EN = false) : s.wdtCfg w =
    let u : State := { ((s.put F.MGT_WDT_CFG_WARN (getBits w 23 16)).put F.MGT_WDT_CFG_TIMEOUT (max 1 (getBits w 15 0))).put F.MGT_WDT_CFG_EN
      (getBits w 31 31) with mgt := { s.mgt with wdtLocked := true } }
    if getBits w 31 31 = 1 then u.wdtRestart else u := by
  simp only [State.wdtCfg, hen, hl, State.put_mgt, Bool.false_eq_true, if_false]

theorem does_wdtCfgWrite {h : HostId} {en : Bool} {warn : Byte} {timeout : BitVec 16} (ho : s.opens h R.MGT_WDT_CFG 0 0 = true)
    (hl : s.mgt.wdtLocked = false) (hen : s.bit F.MGT_WDT_CFG_EN = false) : Does (.wdtCfgWrite h en warn timeout) s fun t =>
      t.get F.MGT_WDT_CFG_WARN = warn.toNat ∧ t.get F.MGT_WDT_CFG_TIMEOUT = max 1 timeout.toNat ∧ t.bit F.MGT_WDT_CFG_EN = en ∧
      t.mgt.wdtLocked = true ∧ (en = true → t.get F.MGT_WDT_LEFT_LEFT = max 1 timeout.toNat) ∧
      s.keepsRegs t [R.MGT_WDT_CFG.base, R.MGT_WDT_LEFT.base] := by
  have hw := warn.isLt
  have ht := timeout.isLt
  let w := word ((if en then 2 ^ 31 else 0) + warn.toNat * 2 ^ 16 + timeout.toNat)
  have bw : getBits w 23 16 = warn.toNat := by rw [getBits_word]; cases en <;> simp only [Bool.false_eq_true, if_false, if_true] <;> omega
  have bt : getBits w 15 0 = timeout.toNat := by rw [getBits_word]; cases en <;> simp only [Bool.false_eq_true, if_false, if_true] <;> omega
  have be : getBits w 31 31 = en.toNat := by
    rw [getBits_word]; cases en <;> simp only [Bool.false_eq_true, if_false, if_true, Bool.toNat_true, Bool.toNat_false] <;> omega
  have write : s.regWrite (hostNum h) R.MGT_WDT_CFG 0 0 15 w = ([], s.wdtCfg w) := by
    have e : s.regWrite (hostNum h) R.MGT_WDT_CFG 0 0 15 w =
      ((if s.bit F.MGT_WDT_CFG_EN then [flGATED] else []) ++ (if s.mgt.wdtLocked then [flLOCK] else []), s.wdtCfg w) := rfl
    rw [e, hl, hen]
    rfl
  rw [wdtCfg_open w hl hen, bw, bt, be] at write
  let u : State := { ((s.put F.MGT_WDT_CFG_WARN warn.toNat).put F.MGT_WDT_CFG_TIMEOUT (max 1 timeout.toNat)).put F.MGT_WDT_CFG_EN en.toNat with
    mgt := { s.mgt with wdtLocked := true } }
  have uget : ∀ f, u.get f =
      (((s.put F.MGT_WDT_CFG_WARN warn.toNat).put F.MGT_WDT_CFG_TIMEOUT (max 1 timeout.toNat)).put F.MGT_WDT_CFG_EN en.toNat).get f := fun _ => rfl
  have uwarn : u.get F.MGT_WDT_CFG_WARN = warn.toNat := by
    rw [uget, State.get_put_beside _ (by decide), State.get_put_beside _ (by decide), State.get_put_fits _ (by decide) warn.isLt]
  have utime : u.get F.MGT_WDT_CFG_TIMEOUT = max 1 timeout.toNat := by
    rw [uget, State.get_put_beside _ (by decide), State.get_put_fits _ (by decide) (show max 1 timeout.toNat < 2 ^ 16 by omega)]
  have uen : u.bit F.MGT_WDT_CFG_EN = en := by
    rw [State.bit, uget, State.get_put_fits _ (by decide) (show en.toNat < 2 by cases en <;> decide)]
    cases en <;> rfl
  have keeps : s.keepsRegs u [R.MGT_WDT_CFG.base, R.MGT_WDT_LEFT.base] :=
    State.keepsRegs_put (State.keepsRegs_put (State.keepsRegs_put (State.keepsRegs_refl _) _ _ _ _ (by decide)) _ _ _ _ (by decide)) _ _ _ _ (by decide)
  refine does_rowWrite_own rfl ho (by decide) write ?_
  cases en with
  | false =>
    refine ⟨?_, ?_, ?_, by rw [settled_mgt]; rfl, nofun, settled_keeps _ _ _ keeps⟩
    · exact (settled_get_free _ _ (by decide) _ _).trans uwarn
    · exact (settled_get_free _ _ (by decide) _ _).trans utime
    · exact (settled_bit_free _ _ (by decide) _ _).trans uen
  | true =>
    have left : ∀ f, u.wdtRestart.get f = (u.put F.MGT_WDT_LEFT_LEFT (max 1 timeout.toNat)).get f := fun f => by rw [← utime]; rfl
    refine ⟨?_, ?_, ?_, by rw [settled_mgt]; rfl, fun _ => ?_, settled_keeps _ _ _ (State.keepsRegs_put keeps _ _ _ _ (by decide))⟩
    · exact (settled_get_free _ _ (by decide) _ _).trans ((left _).trans ((State.get_put_free _ (by decide) _ _ _ _ _).trans uwarn))
    · exact (settled_get_free _ _ (by decide) _ _).trans ((left _).trans ((State.get_put_free _ (by decide) _ _ _ _ _).trans utime))
    · exact (settled_bit_free _ _ (by decide) _ _).trans ((State.bit_put_free u (by decide) _ _ _ _ _).trans uen)
    · exact (settled_get_free _ _ (by decide) _ _).trans ((left _).trans
        (State.get_put_fits _ (by decide) (show max 1 timeout.toNat < 2 ^ 16 by omega) _ _))

theorem State.wdtRestart_left (s : State) : s.wdtRestart.get F.MGT_WDT_LEFT_LEFT = s.get F.MGT_WDT_CFG_TIMEOUT := by
  have fits := State.get_put_fits s (f := F.MGT_WDT_LEFT_LEFT) (by decide) (show s.get F.MGT_WDT_CFG_TIMEOUT < 2 ^ 16 from s.get_lt F.MGT_WDT_CFG_TIMEOUT 0 0) 0 0
  exact fits

theorem State.wdtRestart_keeps (s : State) : s.keepsRegs s.wdtRestart [R.MGT_WDT_LEFT.base] :=
  State.keepsRegs_put (State.keepsRegs_refl _) _ _ _ _ (by decide)

theorem does_wdtKick {h : HostId} {key : Byte} (ho : s.opens h R.MGT_WDT_KICK 0 0 = true) (hen : s.bit F.MGT_WDT_CFG_EN = true) :
    (key = 0x5A → Does (.wdtKick h key) s fun t =>
      t.get F.MGT_WDT_LEFT_LEFT = s.get F.MGT_WDT_CFG_TIMEOUT ∧ t.mgt = { s.mgt with warned := false } ∧ s.keepsRegs t [R.MGT_WDT_LEFT.base]) ∧
    (key ≠ 0x5A → Does (.wdtKick h key) s fun t => s.keepsRegs t [] ∧ s.onlyRegs t) := by
  have lt := key.isLt
  have hk : keyOf (word (key.toNat * 256)) = key.toNat := by
    rw [keyOf, getBits_word]
    omega
  have write : s.regWrite (hostNum h) R.MGT_WDT_KICK 0 0 15 (word (key.toNat * 256)) = ([], s.wdtKick (keyOf (word (key.toNat * 256)))) := rfl
  rw [hk] at write
  refine ⟨fun e => does_rowWrite_own rfl ho (by decide) write ?_, fun ne => does_rowWrite_own rfl ho (by decide) write ?_⟩
  · have kick : s.wdtKick key.toNat = s.wdtRestart := if_pos ⟨by rw [e]; rfl, hen⟩
    rw [kick]
    exact ⟨(settled_get_free _ _ (by decide) _ _).trans s.wdtRestart_left, settled_mgt _ _, settled_keeps _ _ _ s.wdtRestart_keeps⟩
  · have kick : s.wdtKick key.toNat = s := if_neg fun ⟨e, _⟩ => ne (BitVec.eq_of_toNat_eq e)
    rw [kick]
    exact ⟨settled_keeps _ _ _ (State.keepsRegs_refl _), settled_onlyRegs State.onlyRegs_refl⟩

/-! ## The temperature (R603) -/

theorem State.keepsRegs_evtIf {t : State} {l : List Nat} (h : s.keepsRegs t l) (c : Bool) (f : Fld) (i j : Nat) (hl : f.reg.off i j ∈ l) :
    s.keepsRegs (t.evtIf c f i j) l := by
  cases c with
  | false => exact h
  | true => exact State.keepsRegs_evt h f i j hl

theorem State.onlyRegs_evtIf {t : State} (h : s.onlyRegs t) (c : Bool) (f : Fld) (i j : Nat) : s.onlyRegs (t.evtIf c f i j) := by
  cases c with
  | false => exact h
  | true => exact State.onlyRegs_evt h f i j

theorem does_tempAlarm (tj : BitVec 12) : Does (.tempAlarm tj) s fun t => t.get F.MGT_TEMP_TJ = tj.toNat ∧
    (signed 12 (s.get F.MGT_TEMP_ALARM) ≤ signed 12 tj.toNat → t.bit F.MGT_EVT_TEMP_HI = true) ∧
    s.keepsRegs t [R.MGT_TEMP.base, R.MGT_EVT.base] ∧ s.onlyRegs t := by
  have e : s.tempAlarm tj.toNat = (s.put F.MGT_TEMP_TJ tj.toNat).evtIf (decide (signed 12 (s.get F.MGT_TEMP_ALARM) ≤ signed 12 tj.toNat))
      F.MGT_EVT_TEMP_HI := by
    rw [State.tempAlarm, State.get_put_beside _ (by decide)]
  refine does_of (u := s.tempAlarm tj.toNat) rfl ?_
  rw [e]
  refine ⟨?_, fun hot => ?_, settled_keeps _ _ _ ?_, settled_onlyRegs (State.onlyRegs_evtIf (State.onlyRegs_put State.onlyRegs_refl ..) ..)⟩
  · rw [settled_get_free _ _ (by decide), State.get_evtIf_free _ (by decide), State.get_put_fits _ (by decide) tj.isLt]
  · rw [settled_bit_free _ _ (by decide), State.bit_evtIf_same _ _ _ _ _ (by decide) (by decide), decide_eq_true hot, Bool.true_or]
  · exact State.keepsRegs_evtIf (State.keepsRegs_put (State.keepsRegs_refl _) _ _ _ _ (by decide)) _ _ _ _ (by decide)

/-- Settles O14, interface by interface. -/
theorem watchdogAndTargets : Obligations.WatchdogAndTargets := by
  refine ⟨fun s b hb => does_i2cWrite b hb, fun s n => does_of (u := s.i2cRead n) rfl ?_, fun s tms tdi cells => ⟨_, rfl, rfl⟩,
    fun s tms tdi cells => does_tapTckEdge tms tdi cells, fun s h en warn timeout ho hl hen => does_wdtCfgWrite ho hl hen,
    fun s h key ho hen => does_wdtKick ho hen, fun s hen hw hleft hwarned => does_of (u := s.wdtWarn) rfl ?_,
    fun s hen h0 => does_of (u := s.wdtExpire) rfl ?_, fun s tj => does_tempAlarm tj⟩
  · obtain ⟨mgt, out, keeps⟩ := i2cRead_leaves (s := s) n
    exact ⟨(settled_mgt ..).trans mgt, (congrArg List.length (settled_out ..)).trans out, settled_keeps _ _ _ keeps⟩
  · have warn : s.wdtWarn = { s.evt F.MGT_EVT_WDT_WARN with mgt := { s.mgt with warned := true } } := if_pos ⟨hen, hw, hleft, hwarned⟩
    rw [warn]
    refine ⟨?_, settled_mgt _ _, settled_keeps _ _ _ (State.keepsRegs_evt (State.keepsRegs_refl _) _ _ _ (by decide))⟩
    exact (settled_bit_free _ _ (by decide) _ _).trans (s.bit_evt_same F.MGT_EVT_WDT_WARN 0 0 (by decide) (by decide))
  · have expire : s.wdtExpire = s.rstDue 2 := if_pos ⟨hen, h0⟩
    rw [expire]
    exact ⟨settled_rst _ _, settled_keeps _ _ _ (State.keepsRegs_refl _)⟩

end Sys2Proof.Machine
end

section
set_option Elab.async false
/-! PROOFS. The window of the service SRAM (12_process_data_service.md R383; 02_operating_modes.md R58). -/

namespace Sys2Proof.Machine

variable {s : State}

/-! ## The register at an offset of the window -/

/-- The first register of a list that holds an offset, when those before it end below it. -/
theorem findSome?_index {before : List RegSpec} {r : RegSpec} {rest : List RegSpec} {a i j : Nat}
    (hb : ∀ q ∈ before, q.index a = none) (hr : r.index a = some (i, j)) :
    (before ++ r :: rest).findSome? (fun q => (q.index a).map fun ij => (q, ij.1, ij.2)) = some (r, i, j) := by
  induction before with
  | nil => simp [hr]
  | cons q l ih =>
    rw [List.cons_append, List.findSome?_cons_of_isNone (by rw [hb q List.mem_cons_self]; rfl)]
    exact ih fun p hp => hb p (List.mem_cons_of_mem _ hp)

/-- An array of registers holds no offset past its last one. -/
theorem index_above_top {r : RegSpec} {a : Nat} (h : r.top < a) : r.index a = none := by
  cases e : r.index a with
  | none => rfl
  | some ij =>
    unfold RegSpec.index at e
    simp only [RegSpec.top, RegSpec.rows, RegSpec.cols, RegSpec.rowStride, RegSpec.colStride] at h
    split at e
    all_goals rename_i dims
    all_goals simp only [dims] at h
    · split at e
      · omega
      · cases e
    · next n st =>
      dsimp only at e
      split at e
      · next c =>
        have := Nat.mul_le_mul_right st (show (a - r.base) / st ≤ n - 1 by omega)
        have := Nat.div_mul_cancel (Nat.dvd_of_mod_eq_zero c.2.1)
        omega
      · cases e
    · next n st m t rest =>
      dsimp only at e
      split at e
      · next c =>
        have := Nat.mul_le_mul_right st (show (a - r.base) / st ≤ n - 1 by omega)
        have := Nat.mul_le_mul_right t (show (a - r.base) % st / t ≤ m - 1 by omega)
        have := Nat.div_mul_cancel (Nat.dvd_of_mod_eq_zero c.2.2.1)
        have := Nat.div_add_mod' (a - r.base) st
        omega
      · cases e

theorem regAt_sramWindow {j : Nat} (hj : j < 16384) : regAt (R.PDS_SRAM_WINDOW.base + 4 * j) = some (R.PDS_SRAM_WINDOW, j, 0) := by
  have base : R.PDS_SRAM_WINDOW.base = 0x510000 := rfl
  have block : (blockAt (R.PDS_SRAM_WINDOW.base + 4 * j)).regs = regsPds := by
    have above : ∀ n, n ≤ 0x500000 → ¬ R.PDS_SRAM_WINDOW.base + 4 * j < n := fun n hn => by omega
    have below : R.PDS_SRAM_WINDOW.base + 4 * j < 0x800000 := by omega
    simp only [blockAt, above, below, if_true, if_false, Nat.reduceLeDiff]
    rfl
  have index : R.PDS_SRAM_WINDOW.index (R.PDS_SRAM_WINDOW.base + 4 * j) = some (j, 0) := by
    have d : R.PDS_SRAM_WINDOW.base + 4 * j - R.PDS_SRAM_WINDOW.base = 4 * j := by omega
    show (if R.PDS_SRAM_WINDOW.base ≤ R.PDS_SRAM_WINDOW.base + 4 * j ∧ (R.PDS_SRAM_WINDOW.base + 4 * j - R.PDS_SRAM_WINDOW.base) % 4 = 0
      ∧ (R.PDS_SRAM_WINDOW.base + 4 * j - R.PDS_SRAM_WINDOW.base) / 4 < 16384 then _ else _) = _
    rw [if_pos (by omega), d, Nat.mul_div_cancel_left _ (by decide)]
  have others : ∀ q ∈ regsPds.dropLast, q.top < 0x510000 := by decide
  have found : regsPds.findSome? (fun q => (q.index (R.PDS_SRAM_WINDOW.base + 4 * j)).map fun ij => (q, ij.1, ij.2)) =
      some (R.PDS_SRAM_WINDOW, j, 0) :=
    findSome?_index (before := regsPds.dropLast) (rest := [])
      (fun q hq => index_above_top (by have := others q hq; omega)) index
  have exists_ : unimplementedIndex R.PDS_SRAM_WINDOW j = false := by
    simp [unimplementedIndex, R.PDS_SRAM_WINDOW, R.DMA_CH_RING_LO, R.DMA_CH_RING_HI, R.DMA_CH_HEAD, R.DMA_CH_TAIL, R.DMA_CH_CUR,
      R.LKP_SEED, R.SWC_DROP_CNT]
  unfold regAt
  rw [block, found]
  simp only [exists_, Bool.false_eq_true, if_false]

/-! ## The write of a word -/

/-- The bytes of a word, least significant first. -/
def wordBytes (w : Word) (k : Nat) : Byte := BitVec.ofNat 8 (getBits w (8 * k + 7) (8 * k))

theorem sramWord_idle (hu : s.underTest 3 = false) (a : Nat) (w : Word) :
    s.sramWord a 15 w = (((s.sramPut a (wordBytes w 0)).sramPut (a + 1) (wordBytes w 1)).sramPut (a + 2) (wordBytes w 2)).sramPut (a + 3)
      (wordBytes w 3) := by
  unfold State.sramWord
  rw [if_neg (by simp [hu])]
  rfl

theorem sramWord_tested (hu : s.underTest 3 = true) (a : Nat) (w : Word) : s.sramWord a 15 w = s := by
  unfold State.sramWord
  rw [if_pos hu]

theorem sramWord_byte_same (hu : s.underTest 3 = false) (a : Nat) (w : Word) {k : Nat} (hk : k < 4) :
    (s.sramWord a 15 w).sramByte (a + k) = wordBytes w k := by
  rw [sramWord_idle hu]
  have cases : k = 0 ∨ k = 1 ∨ k = 2 ∨ k = 3 := by omega
  rcases cases with rfl | rfl | rfl | rfl
  · rw [State.sramByte_sramPut_other _ _ (by omega), State.sramByte_sramPut_other _ _ (by omega), State.sramByte_sramPut_other _ _ (by omega)]
    exact State.sramByte_sramPut_same _ _ _ hu
  · rw [State.sramByte_sramPut_other _ _ (by omega), State.sramByte_sramPut_other _ _ (by omega)]
    exact State.sramByte_sramPut_same _ _ _ (by simpa using hu)
  · rw [State.sramByte_sramPut_other _ _ (by omega)]
    exact State.sramByte_sramPut_same _ _ _ (by simpa using hu)
  · exact State.sramByte_sramPut_same _ _ _ (by simpa using hu)

theorem sramWord_byte_other (a : Nat) (w : Word) {b : Nat} (hb : b < a ∨ a + 4 ≤ b) : (s.sramWord a 15 w).sramByte b = s.sramByte b := by
  cases hu : s.underTest 3 with
  | true => rw [sramWord_tested hu]
  | false =>
    rw [sramWord_idle hu]
    repeat rw [State.sramByte_sramPut_other _ _ (by omega)]

theorem sramWord_regs (a : Nat) (w : Word) : (s.sramWord a 15 w).regs = s.regs := by
  cases hu : s.underTest 3 with
  | true => rw [sramWord_tested hu]
  | false => simp [sramWord_idle hu]

/-! ## What the end of a command leaves of the memory -/

theorem settled_underTest (b t : State) (m : Nat) : (settled b t).underTest m = t.underTest m := by
  unfold State.underTest
  rw [settled_bit_free _ _ (by decide), settled_get_free _ _ (by decide), settled_get_free _ _ (by decide)]

theorem settled_sramByte (b t : State) (x : TwnState) (a : Nat) : (settled b { t with twn := x }).sramByte a = t.sramByte a := by
  unfold State.sramByte
  rw [settled_underTest, settled_sram, settled_sramLost]
  rfl

theorem settled_wf (b t : State) (x : TwnState) : Memory.wf (settled b { t with twn := x }) = Memory.wf t := by
  unfold Memory.wf
  rw [settled_sram, settled_sramLost]

/-- A 32-bit write of a word of the window that opens (R383). -/
theorem does_sramWindowWrite {h : HostId} {off : BitVec 24} {j : Nat} (data : BitVec 64) (ho : s.opens h R.PDS_SRAM_WINDOW j 0 = true)
    (hc : s.compact = false) (hoff : off.toNat = R.PDS_SRAM_WINDOW.base + 4 * j) (hj : j < 16384) {P : State → Prop}
    (hp : ∀ x, P (settled s { s.sramWord (65536 * s.get F.PDS_SRAM_PAGE_PAGE + 4 * j) 15 (data.setWidth 32) with twn := x })) :
    Does (.registerWrite h (at0 off) .w32 data) s P := by
  simp only [State.opens, State.reaches, Bool.and_eq_true, Bool.not_eq_true'] at ho
  obtain ⟨⟨⟨⟨hl, hg⟩, hm⟩, hi⟩, hb⟩ := ho
  have addr : R.PDS_SRAM_WINDOW.addr j 0 = off.toNat := by
    rw [RegSpec.addr, RegSpec.off_eq, RegSpec.off_eq, hoff]
    have stride : R.PDS_SRAM_WINDOW.rowStride = 4 := rfl
    rw [stride]
    omega
  rw [addr] at hg hm
  have hr : regAt off.toNat = some (R.PDS_SRAM_WINDOW, j, 0) := hoff ▸ regAt_sramWindow hj
  have base : R.PDS_SRAM_WINDOW.base = 0x510000 := rfl
  have hw : cffWindow off.toNat = false := by
    simp only [cffWindow, decide_eq_false_iff_not]
    omega
  have write : s.regWrite (hostNum h) R.PDS_SRAM_WINDOW j 0 15 (data.setWidth 32) =
      ([], s.sramWord (65536 * s.get F.PDS_SRAM_PAGE_PAGE + 4 * j) 15 (data.setWidth 32)) := rfl
  obtain ⟨x, hx⟩ := regWriteAt_open (a := off.toNat) hi hb write
  have full : R.PDS_SRAM_WINDOW.rsvdMask = 0 := by decide
  have rsvd : data.setWidth 32 &&& R.PDS_SRAM_WINDOW.rsvdMask = s.rsvdHeld (hostNum h) R.PDS_SRAM_WINDOW j 0 := by
    simp [State.rsvdHeld, full]
  refine does_of (exec_registerWrite .w32 data) ?_
  rw [hostWrite_w32 hl (by omega), writeWord_reaches hg hc hm hw hr, hx, rsvdWrite_same _ rsvd]
  exact hp x

/-- Settles O58: the write stores the bytes of the word one after the other. -/
theorem serviceSram : Obligations.ServiceSram := by
  intro s h off data j a ho hc hoff hj ha
  subst ha
  have keeps : ∀ x, s.keepsRegs (settled s { s.sramWord (65536 * s.get F.PDS_SRAM_PAGE_PAGE + 4 * j) 15 (data.setWidth 32) with twn := x }) [] :=
    fun x => settled_keeps _ _ _ (State.keepsRegs_of_eq _ (sramWord_regs _ _))
  refine ⟨fun hu => does_sramWindowWrite data ho hc hoff hj fun x => ⟨fun k hk => ?_, fun b hb => ?_, keeps x, fun hwf => ?_⟩,
    fun hu => does_sramWindowWrite data ho hc hoff hj fun x => ⟨?_, keeps x⟩⟩
  · exact (settled_sramByte ..).trans (sramWord_byte_same hu _ _ hk)
  · exact (settled_sramByte ..).trans (sramWord_byte_other _ _ hb)
  · exact (settled_wf ..).trans (State.sramWord_wf _ _ _ _ hwf)
  · rw [settled_sram, sramWord_tested hu]

end Sys2Proof.Machine
end

section
set_option Elab.async false
/-! PROOFS. The shapers (08_egress_scheduling.md R263 to R265). -/

namespace Sys2Proof.Machine

variable {s : State}

/-! ## The egress part of a port -/

theorem State.eg_setEg (s : State) (p p' : Nat) (v : EgsPort) : (s.setEg p v).eg p' = if p' = p then v else s.eg p' := tabGet_set ..

theorem State.eg_of_egs {t : State} (h : t.egs = s.egs) (p : Nat) : t.eg p = s.eg p := by rw [State.eg, State.eg, h]

theorem settled_eg (b t : State) (p : Nat) : (settled b t).eg p = t.eg p := State.eg_of_egs (settled_egs b t) p

/-! ## Tokens -/

theorem State.tok_of_egs {t : State} (h : t.egs = s.egs) (p q : Nat) : t.tok p q = s.tok p q := by rw [State.tok, State.tok, State.eg_of_egs h]

theorem settled_tok (b t : State) (p q : Nat) : (settled b t).tok p q = t.tok p q := State.tok_of_egs (settled_egs b t) p q

theorem State.tok_setTok (s : State) (p q p' q' : Nat) (v : Int) :
    (s.setTok p q v).tok p' q' = if p' = p ∧ q' = q then v else s.tok p' q' := by
  unfold State.setTok
  rw [State.tok, State.eg_setEg]
  by_cases hp : p' = p
  · subst hp
    by_cases hq : q' = q
    · simp [hq]
    · rw [if_pos rfl, if_neg (by simp [hq])]
      exact tabGet_set_other _ _ _ hq v
  · rw [if_neg hp, if_neg (by simp [hp])]
    rfl

@[simp] theorem State.tok_setTok_same (s : State) (p q : Nat) (v : Int) : (s.setTok p q v).tok p q = v := by
  rw [State.tok_setTok, if_pos ⟨rfl, rfl⟩]

@[simp] theorem State.setTok_regs (s : State) (p q : Nat) (v : Int) : (s.setTok p q v).regs = s.regs := rfl

/-- The count of a shaper after a tick (R263). -/
def State.accrued (s : State) (p q : Nat) : Int :=
  if s.bit F.EGS_SHP_CFG_EN p q then min (s.tok p q + shpPerTick (s.get F.EGS_SHP_CFG_RATE p q)) (s.shpBurst p q) else s.tok p q

theorem State.accrued_congr {t : State} {p q : Nat} (hr : t.regs = s.regs) (ht : t.tok p q = s.tok p q) : t.accrued p q = s.accrued p q := by
  unfold State.accrued State.shpBurst State.bit State.get State.reg
  rw [hr, ht]

theorem State.shpTick_regs (s : State) (p q : Nat) : (s.shpTick p q).regs = s.regs := by
  unfold State.shpTick
  split <;> rfl

theorem State.shpTick_tok (s : State) (p q p' q' : Nat) : (s.shpTick p q).tok p' q' = if p' = p ∧ q' = q then s.accrued p q else s.tok p' q' := by
  unfold State.shpTick State.accrued
  split
  · exact s.tok_setTok ..
  · by_cases e : p' = p ∧ q' = q
    · rw [if_pos e, e.1, e.2]
    · rw [if_neg e]

/-- The tick of the first `n` shapers of a port. -/
theorem foldl_shpTick_queues (s : State) (p n : Nat) :
    ((List.range n).foldl (fun s q => s.shpTick p q) s).regs = s.regs ∧
    ∀ p' q', ((List.range n).foldl (fun s q => s.shpTick p q) s).tok p' q' = if p' = p ∧ q' < n then s.accrued p q' else s.tok p' q' := by
  induction n with
  | zero => exact ⟨rfl, fun p' q' => (if_neg (by omega)).symm⟩
  | succ n ih =>
    obtain ⟨regs, tok⟩ := ih
    rw [List.range_succ, List.foldl_append, List.foldl_cons, List.foldl_nil]
    refine ⟨(State.shpTick_regs ..).trans regs, fun p' q' => ?_⟩
    rw [State.shpTick_tok]
    by_cases last : p' = p ∧ q' = n
    · obtain ⟨rfl, rfl⟩ := last
      rw [if_pos ⟨rfl, rfl⟩, if_pos (by omega)]
      exact State.accrued_congr regs ((tok _ _).trans (if_neg (by omega)))
    · rw [if_neg last, tok]
      by_cases early : p' = p ∧ q' < n
      · rw [if_pos early, if_pos (by omega)]
      · rw [if_neg early, if_neg (by omega)]

/-- The tick of the shapers of the first `n` ports. -/
theorem foldl_shpTick_ports (s : State) (n : Nat) :
    ((List.range n).foldl (fun s p => (List.range 8).foldl (fun s q => s.shpTick p q) s) s).regs = s.regs ∧
    ∀ p q, q < 8 → ((List.range n).foldl (fun s p => (List.range 8).foldl (fun s q => s.shpTick p q) s) s).tok p q =
      if p < n then s.accrued p q else s.tok p q := by
  induction n with
  | zero => exact ⟨rfl, fun p q _ => (if_neg (by omega)).symm⟩
  | succ n ih =>
    obtain ⟨regs, tok⟩ := ih
    rw [List.range_succ (n := n), List.foldl_append, List.foldl_cons, List.foldl_nil]
    obtain ⟨regs', tok'⟩ := foldl_shpTick_queues
      ((List.range n).foldl (fun s p => (List.range 8).foldl (fun s q => s.shpTick p q) s) s) n 8
    refine ⟨regs'.trans regs, fun p q hq => (tok' p q).trans ?_⟩
    by_cases last : p = n
    · subst last
      rw [if_pos ⟨rfl, hq⟩, if_pos (by omega)]
      exact State.accrued_congr regs ((tok _ _ hq).trans (if_neg (by omega)))
    · rw [if_neg (by omega), tok p q hq]
      by_cases early : p < n
      · rw [if_pos early, if_pos (by omega)]
      · rw [if_neg early, if_neg (by omega)]

theorem does_shaperTokenAccrual (s : State) : Does .shaperTokenAccrual s fun t => ∀ p < 72, ∀ q < 8, t.tok p q = s.accrued p q := by
  refine does_of (u := s.shapersTick) rfl fun p hp q hq => (settled_tok ..).trans ?_
  rw [State.shapersTick, (foldl_shpTick_ports s 72).2 p q hq, if_pos hp]

/-! ## Configuration (R265) -/

/-- The fields of a write of EGS_SHP_CFG. -/
def State.shpPut (s : State) (p q : Nat) (w : Word) : State :=
  (s.put F.EGS_SHP_CFG_EN (getBits w 31 31) p q).put F.EGS_SHP_CFG_RATE (getBits w 23 0) p q

theorem State.shpPut_burst (s : State) (p q : Nat) (w : Word) : (s.shpPut p q w).shpBurst p q = s.shpBurst p q := by
  unfold State.shpBurst State.shpPut
  rw [State.get_put_free _ (by decide), State.get_put_free _ (by decide)]

theorem State.shpCfg_eq (s : State) (p q : Nat) (w : Word) : s.shpCfg p q w =
    if getBits w 31 31 == 1 && !s.bit F.EGS_SHP_CFG_EN p q then (s.shpPut p q w).setTok p q ((s.shpPut p q w).shpBurst p q)
    else if getBits w 31 31 == 1 then (s.shpPut p q w).setTok p q (min ((s.shpPut p q w).tok p q) ((s.shpPut p q w).shpBurst p q))
    else s.shpPut p q w := rfl

theorem State.shpCfg_regs (s : State) (p q : Nat) (w : Word) : (s.shpCfg p q w).regs = (s.shpPut p q w).regs := by
  rw [State.shpCfg_eq]
  split
  · rfl
  · split <;> rfl

theorem State.shpCfg_tok (s : State) (p q : Nat) (w : Word) : (s.shpCfg p q w).tok p q =
    if getBits w 31 31 = 0 then s.tok p q
    else if s.bit F.EGS_SHP_CFG_EN p q then min (s.tok p q) (s.shpBurst p q) else s.shpBurst p q := by
  have tok : (s.shpPut p q w).tok p q = s.tok p q := State.tok_of_egs rfl p q
  have lt : getBits w 31 31 < 2 := getBits_lt ..
  rw [State.shpCfg_eq, State.shpPut_burst, tok]
  by_cases off : getBits w 31 31 = 0
  · simp [off, tok]
  · have on : getBits w 31 31 = 1 := by omega
    cases s.bit F.EGS_SHP_CFG_EN p q <;> simp [on]

theorem does_shaperConfigWrite {h : HostId} {p : Port} {q : Fin 8} {data : Word} (ho : s.opens h R.EGS_SHP_CFG p q = true) :
    Does (.shaperConfigWrite h p q false data) s fun t =>
      t.get F.EGS_SHP_CFG_EN p q = getBits data 31 31 ∧ t.get F.EGS_SHP_CFG_RATE p q = getBits data 23 0 ∧
      t.tok p q = (if getBits data 31 31 = 0 then s.tok p q
        else if s.bit F.EGS_SHP_CFG_EN p q then min (s.tok p q) (s.shpBurst p q) else s.shpBurst p q) ∧
      s.keepsRegs t [R.EGS_SHP_CFG.off p q] := by
  have apart : ¬ pbaOff (R.EGS_SHP_CFG.off p q) := not_pba (by decide) ⟨p.isLt, q.isLt⟩
  have get : ∀ f, (s.shpCfg p q data).get f p q = (s.shpPut p q data).get f p q := fun f => by
    rw [State.get, State.get, State.reg, State.reg, State.shpCfg_regs]
  refine does_rowWrite rfl ho (u := s.shpCfg p q data) rfl fun x => ⟨?_, ?_, ?_, ?_⟩
  · refine (settled_get _ _ _ _ _ apart).trans ((get _).trans ?_)
    rw [State.shpPut, State.get_put_beside _ (by decide), State.get_put_fits _ (by decide) (show getBits data 31 31 < 2 ^ 1 from getBits_lt ..)]
  · refine (settled_get _ _ _ _ _ apart).trans ((get _).trans ?_)
    exact State.get_put_fits _ (by decide) (show getBits data 23 0 < 2 ^ 24 from getBits_lt ..) _ _
  · exact (settled_tok ..).trans (s.shpCfg_tok p q data)
  · refine settled_keeps _ _ _ (State.keepsRegs_trans (t := s.shpPut p q data) ?_ (State.keepsRegs_of_eq _ (s.shpCfg_regs p q data)))
    exact State.keepsRegs_put (State.keepsRegs_put (State.keepsRegs_refl _) _ _ _ _ List.mem_cons_self) _ _ _ _ List.mem_cons_self

theorem State.shpBurstWrite_regs (s : State) (p q : Nat) (w : Word) :
    (s.shpBurstWrite p q w).regs = (s.put F.EGS_SHP_BURST_BURST (getBits w 23 0) p q).regs := by
  unfold State.shpBurstWrite
  dsimp only
  split <;> rfl

theorem State.shpBurstWrite_tok (s : State) (p q : Nat) (w : Word) : (s.shpBurstWrite p q w).tok p q =
    if s.bit F.EGS_SHP_CFG_EN p q then min (s.tok p q) ((getBits w 23 0 : Int) * 2 ^ 24) else s.tok p q := by
  have tok : (s.put F.EGS_SHP_BURST_BURST (getBits w 23 0) p q).tok p q = s.tok p q := State.tok_of_egs rfl p q
  have burst : (s.put F.EGS_SHP_BURST_BURST (getBits w 23 0) p q).shpBurst p q = (getBits w 23 0 : Int) * 2 ^ 24 := by
    rw [State.shpBurst, State.get_put_fits _ (by decide) (show getBits w 23 0 < 2 ^ 24 from getBits_lt ..)]
  unfold State.shpBurstWrite
  dsimp only
  rw [State.bit_put_free _ (by decide), tok, burst]
  split
  · exact State.tok_setTok_same ..
  · exact tok

theorem does_shaperBurstWrite {h : HostId} {p : Port} {q : Fin 8} {data : Word} (ho : s.opens h R.EGS_SHP_BURST p q = true) :
    Does (.shaperConfigWrite h p q true data) s fun t =>
      t.get F.EGS_SHP_BURST_BURST p q = getBits data 23 0 ∧
      t.tok p q = (if s.bit F.EGS_SHP_CFG_EN p q then min (s.tok p q) ((getBits data 23 0 : Int) * 2 ^ 24) else s.tok p q) ∧
      s.keepsRegs t [R.EGS_SHP_BURST.off p q] := by
  have apart : ¬ pbaOff (R.EGS_SHP_BURST.off p q) := not_pba (by decide) ⟨p.isLt, q.isLt⟩
  refine does_rowWrite rfl ho (u := s.shpBurstWrite p q data) rfl fun x => ⟨?_, ?_, ?_⟩
  · have get : (s.shpBurstWrite p q data).get F.EGS_SHP_BURST_BURST p q =
        (s.put F.EGS_SHP_BURST_BURST (getBits data 23 0) p q).get F.EGS_SHP_BURST_BURST p q := by
      rw [State.get, State.get, State.reg, State.reg, State.shpBurstWrite_regs]
    refine (settled_get _ _ _ _ _ apart).trans (get.trans ?_)
    exact State.get_put_fits _ (by decide) (show getBits data 23 0 < 2 ^ 24 from getBits_lt ..) _ _
  · exact (settled_tok ..).trans (s.shpBurstWrite_tok p q data)
  · exact settled_keeps _ _ _ (State.keepsRegs_trans (State.keepsRegs_put (State.keepsRegs_refl _) _ _ _ _ List.mem_cons_self)
      (State.keepsRegs_of_eq _ (s.shpBurstWrite_regs p q data)))

/-- Settles O38: a tick accrues shaper by shaper, a write of a shaper's registers sets its count, and a debit has its floor. -/
theorem shapers : Obligations.Shapers := by
  refine ⟨does_shaperTokenAccrual, fun s h p q data => ⟨does_shaperConfigWrite, does_shaperBurstWrite⟩, fun s p q l => ⟨fun on => ?_, fun off => ?_⟩⟩
  · rw [State.shpDebit, if_pos on, State.tok_setTok_same]
    exact le_max_right _ _
  · rw [State.shpDebit, if_neg (by simp [off])]

end Sys2Proof.Machine
end

section
set_option Elab.async false
/-! PROOFS. Changes of a gate control list, and its entries through their window (08_egress_scheduling.md R255, R256, R258, R268). -/

namespace Sys2Proof.Machine

variable {s : State}

theorem State.get_of_regs {t : State} (h : t.regs = s.regs) (f : Fld) (i j : Nat) : t.get f i j = s.get f i j := by
  rw [State.get, State.get, State.reg, State.reg, h]

theorem State.bit_of_regs {t : State} (h : t.regs = s.regs) (f : Fld) (i j : Nat) : t.bit f i j = s.bit f i j := by
  rw [State.bit, State.bit, State.get_of_regs h]

/-! ## A refused and an accepted GO (R255) -/

/-- The code of the first check of R255 that a GO fails. -/
def State.gateCode (s : State) (p : Nat) : Nat :=
  let len := s.get F.EGS_GATE_ADM_LEN_LEN p
  let cyc := s.get F.EGS_GATE_ADM_CYCLE_CYCLE p
  if s.bit F.EGS_GATE_STAT_CHG_PEND p then 5 else if len = 0 ∨ 1024 < len then 1
  else if (List.range len).any fun i => badEntry (tabGet {} (s.admBank p) i) then 2
  else if cyc < 16 ∨ 1000000000 < cyc ∨ cyc < s.get F.EGS_GATE_ADM_EXT_EXT p then 3
  else if 1000000000 ≤ s.get F.EGS_GATE_ADM_BASE_NS_NS p then 4 else 0

/-- The change that a GO which passes asks for. -/
def State.gatePend (s : State) (p : Nat) : PendChange :=
  let cyc := s.get F.EGS_GATE_ADM_CYCLE_CYCLE p
  let base := fullTime (s.dom 0) (s.get F.EGS_GATE_ADM_BASE_SEC_SEC p) (s.get F.EGS_GATE_ADM_BASE_NS_NS p)
  ⟨changeTime s.now base cyc, base, cyc, s.get F.EGS_GATE_ADM_EXT_EXT p, s.get F.EGS_GATE_ADM_LEN_LEN p⟩

/-- The registers of a GO that passes. -/
def State.gateAccept (s : State) (p : Nat) : State :=
  (((s.put F.EGS_GATE_STAT_CHG_PEND 1 p).put F.EGS_GATE_STAT_CHG_ERR 0 p).putTime F.EGS_GATE_CHG_SEC_SEC F.EGS_GATE_CHG_NS_NS (s.gatePend p).tx p)

/-- Checks that are made one after the other refuse under the code of the first that fails. -/
theorem firstRefusal {α : Type} {A B C D : Prop} [Decidable A] [Decidable B] [Decidable C] [Decidable D] (refuse : Nat → α) (ok : α) :
    (if A then refuse 1 else if B then refuse 2 else if C then refuse 3 else if D then refuse 4 else ok) =
    if (if A then 1 else if B then 2 else if C then 3 else if D then 4 else 0) = 0 then ok
    else refuse (if A then 1 else if B then 2 else if C then 3 else if D then 4 else 0) := by
  by_cases a : A
  · simp [a]
  · by_cases b : B
    · simp [a, b]
    · by_cases c : C
      · simp [a, b, c]
      · by_cases d : D <;> simp [a, b, c, d]

theorem gateChange_go (s : State) (p : Nat) : s.gateChange p 0x5A true false =
    if s.gateCode p = 0 then (s.gateAccept p).setEg p { s.eg p with pend := some (s.gatePend p) } else s.gateRefuse p (s.gateCode p) := by
  unfold State.gateChange State.gateCode
  dsimp only
  rw [if_neg (by decide)]
  cases s.bit F.EGS_GATE_STAT_CHG_PEND p with
  | true => rfl
  | false =>
    rw [if_neg (by decide), if_neg (by decide)]
    exact firstRefusal (s.gateRefuse p) _

theorem gateChange_cancel (s : State) (p : Nat) : s.gateChange p 0x5A false true =
    if s.bit F.EGS_GATE_STAT_CHG_PEND p then
      ((s.put F.EGS_GATE_STAT_CHG_PEND 0 p).setEg p { s.eg p with pend := none }).evt F.EGS_EVT_CHG_DONE p
    else s.gateRefuse p 5 := by
  simp only [State.gateChange]
  cases s.bit F.EGS_GATE_STAT_CHG_PEND p <;> simp

theorem State.gateCode_lt (s : State) (p : Nat) : s.gateCode p < 8 := by
  unfold State.gateCode
  dsimp only
  repeat' split
  all_goals decide

/-- A refusal shows its code and sets CFG_ERR, and does nothing else (R255). -/
theorem gateRefuse_shows (s : State) (p : Nat) {code : Nat} (hc : code < 8) :
    (s.gateRefuse p code).get F.EGS_GATE_STAT_CHG_ERR p = code ∧ (s.gateRefuse p code).bit F.EGS_EVT_CFG_ERR p = true ∧
    (s.gateRefuse p code).egs = s.egs ∧ (s.gateRefuse p code).bit F.EGS_GATE_STAT_CHG_PEND p = s.bit F.EGS_GATE_STAT_CHG_PEND p ∧
    s.keepsRegs (s.gateRefuse p code) [R.EGS_GATE_STAT.off p 0, R.EGS_EVT.off p 0] := by
  unfold State.gateRefuse
  refine ⟨?_, State.bit_evt_same _ _ _ _ (by decide) (by decide), State.evt_egs _ _ _ _, ?_, ?_⟩
  · rw [State.get_evt_free _ (by decide), State.get_put_fits _ (by decide) (show code < 2 ^ 3 from hc)]
  · rw [State.bit_evt_free _ (by decide), State.bit_put_beside _ (by decide)]
  · exact State.keepsRegs_evt (State.keepsRegs_put (State.keepsRegs_refl _) _ _ _ _ List.mem_cons_self) _ _ _
      (List.mem_cons_of_mem _ List.mem_cons_self)

theorem regWrite_gateChg (host p : Nat) (go cancel : Bool) :
    s.regWrite host R.EGS_GATE_CHG p 0 15 (keyWord (go.toNat + 2 * cancel.toNat)) = ([], s.gateChange p 0x5A go cancel) := by
  cases go <;> cases cancel <;> rfl

theorem gateAccept_shows (s : State) (p : Nat) :
    (s.gateAccept p).bit F.EGS_GATE_STAT_CHG_PEND p = true ∧ (s.gateAccept p).get F.EGS_GATE_STAT_CHG_ERR p = 0 ∧
    (s.gateAccept p).get F.EGS_GATE_CHG_NS_NS p = ((s.gatePend p).tx % 1000000000).toNat ∧
    (s.gateAccept p).get F.EGS_GATE_CHG_SEC_SEC p = ((s.gatePend p).tx / 1000000000 % 2 ^ 32).toNat ∧
    s.keepsRegs (s.gateAccept p) [R.EGS_GATE_STAT.off p 0, R.EGS_GATE_CHG_SEC.off p 0, R.EGS_GATE_CHG_NS.off p 0] := by
  unfold State.gateAccept
  refine ⟨?_, ?_, ?_, ?_, ?_⟩
  · rw [State.putTime, State.bit_put_free _ (by decide), State.bit_put_free _ (by decide), State.bit_put_beside _ (by decide)]
    exact State.bit_put_one _ (by decide) (by decide) _ _
  · rw [State.putTime, State.get_put_free _ (by decide), State.get_put_free _ (by decide)]
    exact State.get_put_fits _ (by decide) (by decide) _ _
  · exact State.get_putTime_ns _ _ _ _ _ (by decide) (by decide)
  · exact State.get_putTime_sec _ _ _ _ _ (by decide) (by decide) (off_ne_of_free (by decide) _ _ _ _)
  · have stat : s.keepsRegs ((s.put F.EGS_GATE_STAT_CHG_PEND 1 p).put F.EGS_GATE_STAT_CHG_ERR 0 p)
        [R.EGS_GATE_STAT.off p 0, R.EGS_GATE_CHG_SEC.off p 0, R.EGS_GATE_CHG_NS.off p 0] :=
      State.keepsRegs_put (State.keepsRegs_put (State.keepsRegs_refl _) _ _ _ _ List.mem_cons_self) _ _ _ _ List.mem_cons_self
    rw [State.putTime]
    exact State.keepsRegs_put (State.keepsRegs_put stat _ _ _ _ (List.mem_cons_of_mem _ List.mem_cons_self)) _ _ _ _
      (List.mem_cons_of_mem _ (List.mem_cons_of_mem _ List.mem_cons_self))

theorem does_gateChangeGo_refused {h : HostId} {p : Port} (ho : s.opens h R.EGS_GATE_CHG p 0 = true) (hc : s.gateCode p ≠ 0) :
    Does (.gateChangeGo h p) s fun t => t.get F.EGS_GATE_STAT_CHG_ERR p = s.gateCode p ∧ t.bit F.EGS_EVT_CFG_ERR p = true ∧
      t.eg p = s.eg p ∧ t.bit F.EGS_GATE_STAT_CHG_PEND p = s.bit F.EGS_GATE_STAT_CHG_PEND p ∧
      s.keepsRegs t [R.EGS_GATE_STAT.off p 0, R.EGS_EVT.off p 0] := by
  refine does_rowWrite rfl ho (regWrite_gateChg _ _ true false) fun x => ?_
  rw [gateChange_go, if_neg hc]
  obtain ⟨code, evt, egs, pend, keeps⟩ := gateRefuse_shows s p (s.gateCode_lt p)
  refine ⟨?_, ?_, ?_, ?_, settled_keeps _ _ _ keeps⟩
  · exact (settled_get_free _ _ (by decide) _ _).trans code
  · exact (settled_bit_free _ _ (by decide) _ _).trans evt
  · exact (settled_eg ..).trans (State.eg_of_egs egs p)
  · exact (settled_bit_free _ _ (by decide) _ _).trans pend

theorem does_gateChangeGo_accepted {h : HostId} {p : Port} (ho : s.opens h R.EGS_GATE_CHG p 0 = true) (hc : s.gateCode p = 0) :
    Does (.gateChangeGo h p) s fun t => t.bit F.EGS_GATE_STAT_CHG_PEND p = true ∧ t.get F.EGS_GATE_STAT_CHG_ERR p = 0 ∧
      t.eg p = { s.eg p with pend := some (s.gatePend p) } ∧
      t.get F.EGS_GATE_CHG_NS_NS p = ((s.gatePend p).tx % 1000000000).toNat ∧
      t.get F.EGS_GATE_CHG_SEC_SEC p = ((s.gatePend p).tx / 1000000000 % 2 ^ 32).toNat ∧
      s.keepsRegs t [R.EGS_GATE_STAT.off p 0, R.EGS_GATE_CHG_SEC.off p 0, R.EGS_GATE_CHG_NS.off p 0] := by
  refine does_rowWrite rfl ho (regWrite_gateChg _ _ true false) fun x => ?_
  rw [gateChange_go, if_pos hc]
  obtain ⟨pend, err, ns, sec, keeps⟩ := gateAccept_shows s p
  refine ⟨?_, ?_, ?_, ?_, ?_, settled_keeps _ _ _ keeps⟩
  · exact (settled_bit_free _ _ (by decide) _ _).trans pend
  · exact (settled_get_free _ _ (by decide) _ _).trans err
  · exact (settled_eg ..).trans (State.eg_setEg_same ..)
  · exact (settled_get_free _ _ (by decide) _ _).trans ns
  · exact (settled_get_free _ _ (by decide) _ _).trans sec

/-! ## CANCEL (R255) -/

theorem does_gateChangeCancel {h : HostId} {p : Port} (ho : s.opens h R.EGS_GATE_CHG p 0 = true) :
    (s.bit F.EGS_GATE_STAT_CHG_PEND p = true → Does (.gateChangeCancel h p) s fun t =>
      t.bit F.EGS_GATE_STAT_CHG_PEND p = false ∧ t.eg p = { s.eg p with pend := none } ∧ t.bit F.EGS_EVT_CHG_DONE p = true ∧
      s.keepsRegs t [R.EGS_GATE_STAT.off p 0, R.EGS_EVT.off p 0]) ∧
    (s.bit F.EGS_GATE_STAT_CHG_PEND p = false → Does (.gateChangeCancel h p) s fun t =>
      t.get F.EGS_GATE_STAT_CHG_ERR p = 5 ∧ t.bit F.EGS_EVT_CFG_ERR p = true ∧ t.eg p = s.eg p) := by
  refine ⟨fun pending => does_rowWrite rfl ho (regWrite_gateChg _ _ false true) fun x => ?_,
    fun idle => does_rowWrite rfl ho (regWrite_gateChg _ _ false true) fun x => ?_⟩
  · have keeps : s.keepsRegs (((s.put F.EGS_GATE_STAT_CHG_PEND 0 p).setEg p { s.eg p with pend := none }).evt F.EGS_EVT_CHG_DONE p)
        [R.EGS_GATE_STAT.off p 0, R.EGS_EVT.off p 0] :=
      State.keepsRegs_evt (t := (s.put F.EGS_GATE_STAT_CHG_PEND 0 p).setEg p { s.eg p with pend := none })
        (State.keepsRegs_put (State.keepsRegs_refl _) F.EGS_GATE_STAT_CHG_PEND 0 p 0 List.mem_cons_self) _ _ _
        (List.mem_cons_of_mem _ List.mem_cons_self)
    rw [gateChange_cancel, if_pos pending]
    refine ⟨?_, ?_, ?_, settled_keeps _ _ _ keeps⟩
    · refine (settled_bit_free _ _ (by decide) _ _).trans ((State.bit_evt_free _ (by decide) _ _ _ _).trans ?_)
      exact State.bit_put_zero s (by decide) _ _
    · exact (settled_eg ..).trans ((State.eg_of_egs (State.evt_egs ..) p).trans (State.eg_setEg_same ..))
    · exact (settled_bit_free _ _ (by decide) _ _).trans (State.bit_evt_same _ _ _ _ (by decide) (by decide))
  · rw [gateChange_cancel, if_neg (by simp [idle])]
    obtain ⟨code, evt, egs, -, -⟩ := gateRefuse_shows s p (code := 5) (by decide)
    exact ⟨(settled_get_free _ _ (by decide) _ _).trans code, (settled_bit_free _ _ (by decide) _ _).trans evt,
      (settled_eg ..).trans (State.eg_of_egs egs p)⟩

/-! ## The change time (R256) -/

/-- The registers of a change that takes effect. -/
def State.gateSwap (s : State) (p : Nat) (c : PendChange) : State :=
  ((((s.put F.EGS_GATE_STAT_BANK (1 - s.get F.EGS_GATE_STAT_BANK p) p).putTime F.EGS_GATE_OPER_BASE_SEC_SEC F.EGS_GATE_OPER_BASE_NS_NS c.base p).put
    F.EGS_GATE_OPER_CYCLE_CYCLE c.cycle p).put F.EGS_GATE_OPER_LEN_LEN c.len p).put F.EGS_GATE_STAT_CHG_PEND 0 p

/-- The list that a change replaces. -/
def State.gateSwapped (s : State) (p : Nat) (c : PendChange) : EgsPort :=
  { s.eg p with pend := none, base := c.base, ext := c.ext, old := some { s.operRun p with tx := c.tx } }

theorem gateChangeTime_eq {p : Nat} {c : PendChange} (hp : (s.eg p).pend = some c) (ht : c.tx ≤ s.laneNs p) :
    s.gateChangeTime p = (((s.gateSwap p c).setEg p (s.gateSwapped p c)).evt F.EGS_EVT_CHG_DONE p).gateUpdate p := by
  unfold State.gateChangeTime
  rw [hp]
  exact if_neg (by omega)

theorem gateUpdate_only (s : State) (p : Nat) :
    ∃ v w, s.gateUpdate p = (s.put F.EGS_GATE_STAT_OPER_GATES v p).put F.EGS_GATE_STAT_ENTRY w p := by
  unfold State.gateUpdate
  dsimp only
  split <;> exact ⟨_, _, rfl⟩

/-- What a change shows when its registers are written and the entry in force is brought up to date. -/
theorem gateSwap_shows (s : State) (p : Nat) (c : PendChange) (v : EgsPort) (x : Nat) (y : Nat) :
    let t := ((((s.gateSwap p c).setEg p v).evt F.EGS_EVT_CHG_DONE p).put F.EGS_GATE_STAT_OPER_GATES x p).put F.EGS_GATE_STAT_ENTRY y p
    t.get F.EGS_GATE_STAT_BANK p = 1 - s.get F.EGS_GATE_STAT_BANK p ∧ t.get F.EGS_GATE_OPER_CYCLE_CYCLE p = c.cycle % 2 ^ 32 ∧
    t.get F.EGS_GATE_OPER_LEN_LEN p = c.len % 2 ^ 11 ∧ t.bit F.EGS_GATE_STAT_CHG_PEND p = false ∧ t.bit F.EGS_EVT_CHG_DONE p = true := by
  intro t
  refine ⟨?_, ?_, ?_, ?_, ?_⟩
  · rw [State.get_put_beside _ (by decide), State.get_put_beside _ (by decide), State.get_evt_free _ (by decide), State.setEg_get,
      State.gateSwap, State.putTime, State.get_put_beside _ (by decide), State.get_put_free _ (by decide), State.get_put_free _ (by decide),
      State.get_put_free _ (by decide), State.get_put_free _ (by decide)]
    exact State.get_put_fits _ (by decide) (show 1 - s.get F.EGS_GATE_STAT_BANK p < 2 ^ 1 by omega) _ _
  · rw [State.get_put_free _ (by decide), State.get_put_free _ (by decide), State.get_evt_free _ (by decide), State.setEg_get,
      State.gateSwap, State.get_put_free _ (by decide), State.get_put_free _ (by decide)]
    exact State.get_put_same _ _ _ _ _ (by decide)
  · rw [State.get_put_free _ (by decide), State.get_put_free _ (by decide), State.get_evt_free _ (by decide), State.setEg_get,
      State.gateSwap, State.get_put_free _ (by decide)]
    exact State.get_put_same _ _ _ _ _ (by decide)
  · rw [State.bit_put_beside _ (by decide), State.bit_put_beside _ (by decide), State.bit_evt_free _ (by decide), State.setEg_bit, State.gateSwap]
    exact State.bit_put_zero _ (by decide) _ _
  · rw [State.bit_put_free _ (by decide), State.bit_put_free _ (by decide)]
    exact State.bit_evt_same _ _ _ _ (by decide) (by decide)

theorem does_gateChangeTime {p : Port} {c : PendChange} (hp : (s.eg p).pend = some c) (ht : c.tx ≤ s.laneNs p) : Does (.gateChangeTime p) s fun t =>
    t.get F.EGS_GATE_STAT_BANK p = 1 - s.get F.EGS_GATE_STAT_BANK p ∧
    t.eg p = s.gateSwapped p c ∧
    t.get F.EGS_GATE_OPER_CYCLE_CYCLE p = c.cycle % 2 ^ 32 ∧ t.get F.EGS_GATE_OPER_LEN_LEN p = c.len % 2 ^ 11 ∧
    t.bit F.EGS_GATE_STAT_CHG_PEND p = false ∧ t.bit F.EGS_EVT_CHG_DONE p = true := by
  have parts : (s.gateChanged p).regs = (s.gateChangeTime p).regs ∧ (s.gateChanged p).egs = (s.gateChangeTime p).egs := by
    unfold State.gateChanged
    dsimp only
    split <;> exact ⟨rfl, rfl⟩
  obtain ⟨regs, egs⟩ := parts
  obtain ⟨v, w, upd⟩ := gateUpdate_only (((s.gateSwap p c).setEg p (s.gateSwapped p c)).evt F.EGS_EVT_CHG_DONE p) p
  rw [gateChangeTime_eq hp ht, upd] at regs egs
  obtain ⟨bank, cycle, len, pend, evt⟩ := gateSwap_shows s p c (s.gateSwapped p c) v w
  refine does_of (u := s.gateChanged p) rfl ⟨?_, ?_, ?_, ?_, ?_, ?_⟩
  · exact (settled_get_free _ _ (by decide) _ _).trans ((State.get_of_regs regs _ _ _).trans bank)
  · refine (settled_eg ..).trans ((State.eg_of_egs egs p).trans ((State.eg_of_egs ?_ p).trans (State.eg_setEg_same (s.gateSwap p c) p _)))
    simp only [State.put_egs, State.evt_egs]
  · exact (settled_get_free _ _ (by decide) _ _).trans ((State.get_of_regs regs _ _ _).trans cycle)
  · exact (settled_get_free _ _ (by decide) _ _).trans ((State.get_of_regs regs _ _ _).trans len)
  · exact (settled_bit_free _ _ (by decide) _ _).trans ((State.bit_of_regs regs _ _ _).trans pend)
  · exact (settled_bit_free _ _ (by decide) _ _).trans ((State.bit_of_regs regs _ _ _).trans evt)

/-! ## Entries through the window (R258, R268) -/

theorem State.admBank_congr {t : State} {p : Nat} (he : t.egs = s.egs) (hb : t.get F.EGS_GATE_STAT_BANK p = s.get F.EGS_GATE_STAT_BANK p) :
    t.admBank p = s.admBank p := by
  unfold State.admBank
  rw [hb, State.eg_of_egs he]

theorem settled_admBank (b t : State) (p : Nat) : (settled b t).admBank p = t.admBank p :=
  State.admBank_congr (settled_egs b t) (settled_get_free _ _ (by decide) _ _)

theorem State.admBank_gclAdvance (p : Nat) : (s.gclAdvance p).admBank p = s.admBank p := by
  unfold State.gclAdvance
  split
  · exact State.admBank_congr rfl (State.get_put_free _ (by decide) _ _ _ _ _)
  · rfl

theorem State.gclAdvance_idx (p : Nat) : (s.gclAdvance p).get F.EGS_GCL_IDX_IDX p =
    if s.bit F.EGS_GCL_IDX_AUTOINC p then (s.get F.EGS_GCL_IDX_IDX p + 1) % 1024 else s.get F.EGS_GCL_IDX_IDX p := by
  unfold State.gclAdvance
  split
  · exact State.get_put_same _ _ _ _ _ (by decide)
  · rfl

theorem State.gclAdvance_keeps (p : Nat) : s.keepsRegs (s.gclAdvance p) [R.EGS_GCL_IDX.off p 0] := by
  unfold State.gclAdvance
  split
  · exact State.keepsRegs_put (State.keepsRegs_refl _) _ _ _ _ List.mem_cons_self
  · exact State.keepsRegs_refl _

theorem State.gclAdvance_out (p : Nat) : (s.gclAdvance p).out = s.out := by
  unfold State.gclAdvance
  split <;> rfl

/-- The entry that a write of EGS_GCL_D1 stores. -/
def State.gclNew (s : State) (p : Nat) (w : Word) : GclEntry := ⟨(s.eg p).d0.toNat, getBits w 7 0, getBits w 31 30⟩

/-- The administrative bank of a port after a write of entry `i` of it. -/
def State.storeEntry (s : State) (p i : Nat) (e : GclEntry) : State :=
  if s.get F.EGS_GATE_STAT_BANK p = 0 then s.setEg p { s.eg p with bank1 := tabSet {} (s.eg p).bank1 i e }
  else s.setEg p { s.eg p with bank0 := tabSet {} (s.eg p).bank0 i e }

theorem State.storeEntry_regs (p i : Nat) (e : GclEntry) : (s.storeEntry p i e).regs = s.regs := by
  unfold State.storeEntry
  split <;> rfl

theorem State.storeEntry_admBank (p i : Nat) (e : GclEntry) : (s.storeEntry p i e).admBank p = tabSet {} (s.admBank p) i e := by
  have bank : (s.storeEntry p i e).get F.EGS_GATE_STAT_BANK p = s.get F.EGS_GATE_STAT_BANK p := State.get_of_regs (s.storeEntry_regs p i e) _ _ _
  unfold State.admBank
  rw [bank]
  unfold State.storeEntry
  split <;> rw [State.eg_setEg_same]

theorem State.gclWrite_stores {p : Nat} (hb : s.get F.EGS_GCL_IDX_BANK p = 0) (hp : s.bit F.EGS_GATE_STAT_CHG_PEND p = false) (w : Word) :
    s.gclWrite p w = (s.storeEntry p (s.get F.EGS_GCL_IDX_IDX p) (s.gclNew p w)).gclAdvance p := by
  unfold State.gclWrite
  exact if_neg (by rw [hb, hp]; decide)

theorem does_gclWrite_stores {h : HostId} {p : Port} {data : Word} (ho : s.opens h R.EGS_GCL_D1 p 0 = true) (hb : s.get F.EGS_GCL_IDX_BANK p = 0)
    (hp : s.bit F.EGS_GATE_STAT_CHG_PEND p = false) : Does (.gclWrite h p data) s fun t =>
      tabGet {} (t.admBank p) (s.get F.EGS_GCL_IDX_IDX p) = s.gclNew p data ∧
      (∀ i, i ≠ s.get F.EGS_GCL_IDX_IDX p → tabGet {} (t.admBank p) i = tabGet {} (s.admBank p) i) ∧
      t.get F.EGS_GCL_IDX_IDX p = (if s.bit F.EGS_GCL_IDX_AUTOINC p then (s.get F.EGS_GCL_IDX_IDX p + 1) % 1024 else s.get F.EGS_GCL_IDX_IDX p) ∧
      s.keepsRegs t [R.EGS_GCL_IDX.off p 0] := by
  refine does_gclWrite ho fun x => ?_
  have bank : ∀ b, (settled b { s.gclWrite p data with twn := x }).admBank p =
      tabSet {} (s.admBank p) (s.get F.EGS_GCL_IDX_IDX p) (s.gclNew p data) := fun b => by
    refine (settled_admBank _ _ _).trans (Eq.trans (b := (s.gclWrite p data).admBank p) rfl ?_)
    rw [State.gclWrite_stores hb hp, State.admBank_gclAdvance, State.storeEntry_admBank]
  have regs := s.storeEntry_regs p (s.get F.EGS_GCL_IDX_IDX p) (s.gclNew p data)
  refine ⟨?_, fun i hi => ?_, ?_, settled_keeps _ _ _ ?_⟩
  · rw [bank, tabGet_set_same]
  · rw [bank, tabGet_set_other _ _ _ hi]
  · refine (settled_get_free _ _ (by decide) _ _).trans (Eq.trans (b := (s.gclWrite p data).get F.EGS_GCL_IDX_IDX p) rfl ?_)
    rw [State.gclWrite_stores hb hp, State.gclAdvance_idx, State.bit_of_regs regs, State.get_of_regs regs]
  · have keeps : s.keepsRegs (s.gclWrite p data) [R.EGS_GCL_IDX.off p 0] := by
      rw [State.gclWrite_stores hb hp]
      exact State.keepsRegs_trans (State.keepsRegs_of_eq _ regs) (State.gclAdvance_keeps p)
    exact keeps

theorem regRead_gclD1 (host a p : Nat) : s.regRead host a R.EGS_GCL_D1 p 0 =
    (gclD1 (s.gclEntry p) ||| s.rsvdShown host R.EGS_GCL_D1 p 0, (s.gclAdvance p).clearRc R.EGS_GCL_D1 p 0) := rfl

theorem does_gclRead {h : HostId} {p : Port} (hr : s.reaches h R.EGS_GCL_D1 p 0 = true) : Does (.gclRead h p) s fun t =>
    t.out = s.out ++ [.readData (hostNum h) (BitVec.ofNat 64 (gclD1 (s.gclEntry p) ||| s.rsvdShown (hostNum h) R.EGS_GCL_D1 p 0).toNat)] ∧
    t.get F.EGS_GCL_IDX_IDX p = (if s.bit F.EGS_GCL_IDX_AUTOINC p then (s.get F.EGS_GCL_IDX_IDX p + 1) % 1024 else s.get F.EGS_GCL_IDX_IDX p) ∧
    s.keepsRegs t [R.EGS_GCL_IDX.off p 0] := by
  have clear : (s.gclAdvance p).clearRc R.EGS_GCL_D1 p 0 = s.gclAdvance p := rfl
  refine does_rowRead rfl hr (regRead_gclD1 _ _ _) ?_
  rw [clear]
  refine ⟨?_, (settled_get_free _ _ (by decide) _ _).trans (State.gclAdvance_idx _), settled_keeps _ _ _ (State.gclAdvance_keeps _)⟩
  exact (settled_out ..).trans (congrArg (· ++ _) (State.gclAdvance_out _))

/-- Settles O36: a change follows the chain of checks, the swap takes the sampled values, and the window reaches one entry. -/
theorem gateLists : Obligations.GateLists :=
  ⟨fun _ _ _ ho => ⟨does_gateChangeGo_refused ho, does_gateChangeGo_accepted ho⟩, fun _ _ _ ho => does_gateChangeCancel ho,
    fun _ _ _ hp ht => does_gateChangeTime hp ht, fun _ _ _ _ ho hb hp => does_gclWrite_stores ho hb hp, fun _ _ _ hr => does_gclRead hr⟩

end Sys2Proof.Machine
end

section
set_option Elab.async false
/-! PROOFS. Changes of a gate schedule (09_policing.md R281, R288; 08_egress_scheduling.md R255 to R257). -/

namespace Sys2Proof.Machine

variable {s : State}

/-! ## A schedule in the state -/

@[simp] theorem State.sched_setSched_same (s : State) (k : Nat) (x : Schedule) : (s.setSched k x).sched k = x := tabGet_set_same ..

theorem State.setSched_regs (s : State) (k : Nat) (x : Schedule) : (s.setSched k x).regs = s.regs := rfl

theorem State.sched_of_pol {t : State} (h : t.pol = s.pol) (k : Nat) : t.sched k = s.sched k := by rw [State.sched, State.sched, h]

theorem settled_sched (b t : State) (k : Nat) : (settled b t).sched k = t.sched k := State.sched_of_pol (settled_pol b t) k

/-! ## GO and CANCEL (R255, R281) -/

/-- The code of the first check that a GO fails. -/
def State.schedCode (s : State) (k : Nat) : Nat :=
  let len := s.get F.POL_SGS_ADM_LEN_LEN k
  let cyc := s.get F.POL_SGS_ADM_CYCLE_CYCLE k
  if s.bit F.POL_SGS_STAT_CHG_PEND k then 5 else if len = 0 ∨ 256 < len then 1
  else if (List.range len).any fun i => decide ((tabGet {} (s.schedAdm k) i).interval < 8) then 2
  else if cyc < 16 ∨ 1000000000 < cyc ∨ cyc < s.get F.POL_SGS_ADM_EXT_EXT k then 3
  else if 1000000000 ≤ s.get F.POL_SGS_ADM_BASE_NS_NS k then 4 else 0

/-- The change that a GO which passes asks for. -/
def State.schedPend (s : State) (k : Nat) : PendChange :=
  let cyc := s.get F.POL_SGS_ADM_CYCLE_CYCLE k
  let base := fullTime (s.dom 0) (s.get F.POL_SGS_ADM_BASE_SEC_SEC k) (s.get F.POL_SGS_ADM_BASE_NS_NS k)
  ⟨changeTime s.now base cyc, base, cyc, s.get F.POL_SGS_ADM_EXT_EXT k, s.get F.POL_SGS_ADM_LEN_LEN k⟩

/-- The registers of a GO that passes. -/
def State.schedAccept (s : State) (k : Nat) : State :=
  ((s.put F.POL_SGS_STAT_CHG_PEND 1 k).put F.POL_SGS_STAT_CHG_ERR 0 k).putTime F.POL_SGS_CHG_SEC_SEC F.POL_SGS_CHG_NS_NS (s.schedPend k).tx k

theorem schedChange_go (s : State) (k : Nat) : s.schedChange k 0x5A true false =
    if s.schedCode k = 0 then (s.schedAccept k).setSched k { s.sched k with pend := some (s.schedPend k) } else s.schedRefuse k (s.schedCode k) := by
  unfold State.schedChange State.schedCode
  dsimp only
  rw [if_neg (by decide)]
  cases s.bit F.POL_SGS_STAT_CHG_PEND k with
  | true => rfl
  | false =>
    rw [if_neg (by decide), if_neg (by decide)]
    exact firstRefusal (s.schedRefuse k) _

theorem schedChange_cancel (s : State) (k : Nat) : s.schedChange k 0x5A false true =
    if s.bit F.POL_SGS_STAT_CHG_PEND k then
      ((s.put F.POL_SGS_STAT_CHG_PEND 0 k).setSched k { s.sched k with pend := none }).evt F.POL_EVT_CHG_DONE
    else s.schedRefuse k 5 := by
  unfold State.schedChange
  dsimp only
  rw [if_neg (by decide)]
  cases s.bit F.POL_SGS_STAT_CHG_PEND k <;> rfl

theorem State.schedCode_lt (s : State) (k : Nat) : s.schedCode k < 8 := by
  unfold State.schedCode
  dsimp only
  repeat' split
  all_goals decide

theorem schedRefuse_shows (s : State) (k : Nat) {code : Nat} (hc : code < 8) :
    (s.schedRefuse k code).get F.POL_SGS_STAT_CHG_ERR k = code ∧ (s.schedRefuse k code).bit F.POL_EVT_CFG_ERR = true ∧
    (s.schedRefuse k code).pol = s.pol ∧ s.keepsRegs (s.schedRefuse k code) [R.POL_SGS_STAT.off k 0, R.POL_EVT.base] := by
  unfold State.schedRefuse
  refine ⟨?_, State.bit_evt_same _ _ _ _ (by decide) (by decide), by rw [State.evt_pol, State.put_pol], ?_⟩
  · rw [State.get_evt_free _ (by decide), State.get_put_fits _ (by decide) (show code < 2 ^ 3 from hc)]
  · exact State.keepsRegs_evt (State.keepsRegs_put (State.keepsRegs_refl _) _ _ _ _ List.mem_cons_self) _ _ _
      (List.mem_cons_of_mem _ List.mem_cons_self)

theorem schedAccept_shows (s : State) (k : Nat) :
    (s.schedAccept k).bit F.POL_SGS_STAT_CHG_PEND k = true ∧ (s.schedAccept k).get F.POL_SGS_STAT_CHG_ERR k = 0 ∧
    (s.schedAccept k).get F.POL_SGS_CHG_NS_NS k = ((s.schedPend k).tx % 1000000000).toNat ∧
    (s.schedAccept k).get F.POL_SGS_CHG_SEC_SEC k = ((s.schedPend k).tx / 1000000000 % 2 ^ 32).toNat := by
  unfold State.schedAccept
  refine ⟨?_, ?_, State.get_putTime_ns _ _ _ _ _ (by decide) (by decide),
    State.get_putTime_sec _ _ _ _ _ (by decide) (by decide) (off_ne_of_free (by decide) _ _ _ _)⟩
  · rw [State.putTime, State.bit_put_free _ (by decide), State.bit_put_free _ (by decide), State.bit_put_beside _ (by decide)]
    exact State.bit_put_one _ (by decide) (by decide) _ _
  · rw [State.putTime, State.get_put_free _ (by decide), State.get_put_free _ (by decide)]
    exact State.get_put_fits _ (by decide) (by decide) _ _

theorem regWrite_schedChg (host k : Nat) (go cancel : Bool) :
    s.regWrite host R.POL_SGS_CHG k 0 15 (keyWord (go.toNat + 2 * cancel.toNat)) = ([], s.schedChange k 0x5A go cancel) := by
  cases go <;> cases cancel <;> rfl

theorem does_scheduleRefused {c : Instr} {h : HostId} {k : Fin 16} {w : Word} {code : Nat} (he : exec c s = finish s (s.rowWrite (hostNum h) R.POL_SGS_CHG k 0 w))
    (ho : s.opens h R.POL_SGS_CHG k 0 = true) (hw : s.regWrite (hostNum h) R.POL_SGS_CHG k 0 15 w = ([], s.schedRefuse k code)) (hc : code < 8) :
    Does c s fun t => t.get F.POL_SGS_STAT_CHG_ERR k = code ∧ t.bit F.POL_EVT_CFG_ERR = true ∧
      t.pol = s.pol ∧ s.keepsRegs t [R.POL_SGS_STAT.off k 0, R.POL_EVT.base] := by
  obtain ⟨err, evt, pol, keeps⟩ := schedRefuse_shows s k hc
  refine does_rowWrite he ho hw fun x => ⟨?_, ?_, (settled_pol ..).trans pol, settled_keeps _ _ _ keeps⟩
  · exact (settled_get_free _ _ (by decide) _ _).trans err
  · exact (settled_bit_free _ _ (by decide) _ _).trans evt

theorem does_scheduleChangeGo_accepted {h : HostId} {k : Fin 16} (ho : s.opens h R.POL_SGS_CHG k 0 = true) (hc : s.schedCode k = 0) :
    Does (.scheduleChangeGo h k) s fun t => t.bit F.POL_SGS_STAT_CHG_PEND k = true ∧ t.get F.POL_SGS_STAT_CHG_ERR k = 0 ∧
      t.sched k = { s.sched k with pend := some (s.schedPend k) } ∧
      t.get F.POL_SGS_CHG_NS_NS k = ((s.schedPend k).tx % 1000000000).toNat ∧
      t.get F.POL_SGS_CHG_SEC_SEC k = ((s.schedPend k).tx / 1000000000 % 2 ^ 32).toNat := by
  refine does_rowWrite rfl ho (regWrite_schedChg _ _ true false) fun x => ?_
  rw [schedChange_go, if_pos hc]
  obtain ⟨pend, err, ns, sec⟩ := schedAccept_shows s k
  refine ⟨?_, ?_, ?_, ?_, ?_⟩
  · exact (settled_bit_free _ _ (by decide) _ _).trans pend
  · exact (settled_get_free _ _ (by decide) _ _).trans err
  · exact (settled_sched ..).trans (State.sched_setSched_same ..)
  · exact (settled_get_free _ _ (by decide) _ _).trans ns
  · exact (settled_get_free _ _ (by decide) _ _).trans sec

theorem does_scheduleChangeCancel_pending {h : HostId} {k : Fin 16} (ho : s.opens h R.POL_SGS_CHG k 0 = true)
    (hp : s.bit F.POL_SGS_STAT_CHG_PEND k = true) : Does (.scheduleChangeCancel h k) s fun t => t.bit F.POL_SGS_STAT_CHG_PEND k = false ∧
      t.sched k = { s.sched k with pend := none } ∧ t.bit F.POL_EVT_CHG_DONE = true := by
  refine does_rowWrite rfl ho (regWrite_schedChg _ _ false true) fun x => ?_
  rw [schedChange_cancel, if_pos hp]
  refine ⟨?_, ?_, ?_⟩
  · refine (settled_bit_free _ _ (by decide) _ _).trans ((State.bit_evt_free _ (by decide) _ _ _ _).trans ?_)
    exact State.bit_put_zero s (by decide) _ _
  · exact (settled_sched ..).trans ((State.sched_of_pol (State.evt_pol ..) k).trans (State.sched_setSched_same ..))
  · exact (settled_bit_free _ _ (by decide) _ _).trans (State.bit_evt_same _ _ _ _ (by decide) (by decide))

/-! ## The change time (R256, R281) -/

/-- The registers of a change that takes effect. -/
def State.schedSwap (s : State) (k : Nat) (c : PendChange) : State :=
  ((((s.put F.POL_SGS_STAT_BANK (1 - s.get F.POL_SGS_STAT_BANK k) k).putTime F.POL_SGS_OPER_BASE_SEC_SEC F.POL_SGS_OPER_BASE_NS_NS c.base k).put
    F.POL_SGS_OPER_CYCLE_CYCLE c.cycle k).put F.POL_SGS_OPER_LEN_LEN c.len k).put F.POL_SGS_STAT_CHG_PEND 0 k

/-- The schedule after a change: the list that it replaces stays as the old one. -/
def State.schedSwapped (s : State) (k : Nat) (c : PendChange) : Schedule :=
  let run : OldList := ⟨s.schedOper k, (s.sched k).base, s.get F.POL_SGS_OPER_CYCLE_CYCLE k, s.get F.POL_SGS_OPER_LEN_LEN k, (s.sched k).ext, c.tx⟩
  { s.sched k with pend := none, base := c.base, ext := c.ext, old := some run }

theorem schedChangeTime_eq {k : Nat} {c : PendChange} (hp : (s.sched k).pend = some c) (ht : c.tx ≤ s.now) :
    s.schedChangeTime k = ((s.schedSwap k c).setSched k (s.schedSwapped k c)).evt F.POL_EVT_CHG_DONE := by
  unfold State.schedChangeTime
  rw [hp]
  exact if_neg (by omega)

theorem schedSwap_shows (s : State) (k : Nat) (c : PendChange) (v : Schedule) :
    let t := ((s.schedSwap k c).setSched k v).evt F.POL_EVT_CHG_DONE
    t.get F.POL_SGS_STAT_BANK k = 1 - s.get F.POL_SGS_STAT_BANK k ∧ t.get F.POL_SGS_OPER_CYCLE_CYCLE k = c.cycle % 2 ^ 32 ∧
    t.get F.POL_SGS_OPER_LEN_LEN k = c.len % 2 ^ F.POL_SGS_OPER_LEN_LEN.width ∧ t.bit F.POL_SGS_STAT_CHG_PEND k = false ∧
    t.sched k = v ∧ t.bit F.POL_EVT_CHG_DONE = true := by
  intro t
  have get : ∀ f : Fld, free f.reg F.POL_EVT_CHG_DONE.reg = true → t.get f k = (s.schedSwap k c).get f k := fun f hf => by
    rw [State.get_evt_free _ hf, State.get_of_regs (State.setSched_regs ..)]
  refine ⟨?_, ?_, ?_, ?_, (State.sched_of_pol (State.evt_pol ..) k).trans (State.sched_setSched_same ..),
    State.bit_evt_same _ _ _ _ (by decide) (by decide)⟩
  · rw [get _ (by decide), State.schedSwap, State.putTime, State.get_put_beside _ (by decide), State.get_put_free _ (by decide), State.get_put_free _ (by decide),
      State.get_put_free _ (by decide), State.get_put_free _ (by decide)]
    exact State.get_put_fits _ (by decide) (show 1 - s.get F.POL_SGS_STAT_BANK k < 2 ^ 1 by omega) _ _
  · rw [get _ (by decide), State.schedSwap, State.get_put_free _ (by decide), State.get_put_free _ (by decide)]
    exact State.get_put_same _ _ _ _ _ (by decide)
  · rw [get _ (by decide), State.schedSwap, State.get_put_free _ (by decide)]
    exact State.get_put_same _ _ _ _ _ (by decide)
  · rw [State.bit, get _ (by decide)]
    exact State.bit_put_zero _ (by decide) _ _

theorem does_scheduleChangeTime {k : Fin 16} {c : PendChange} (hp : (s.sched k).pend = some c) (ht : c.tx ≤ s.now) :
    Does (.scheduleChangeTime k) s fun t =>
      t.get F.POL_SGS_STAT_BANK k = 1 - s.get F.POL_SGS_STAT_BANK k ∧ t.sched k = s.schedSwapped k c ∧
      t.get F.POL_SGS_OPER_CYCLE_CYCLE k = c.cycle % 2 ^ 32 ∧ t.get F.POL_SGS_OPER_LEN_LEN k = c.len % 2 ^ F.POL_SGS_OPER_LEN_LEN.width ∧
      t.bit F.POL_SGS_STAT_CHG_PEND k = false ∧ t.bit F.POL_EVT_CHG_DONE = true := by
  obtain ⟨bank, cycle, len, pend, sched, evt⟩ := schedSwap_shows s k c (s.schedSwapped k c)
  refine does_of (u := s.schedChangeTime k) rfl ?_
  rw [schedChangeTime_eq hp ht]
  refine ⟨?_, (settled_sched ..).trans sched, ?_, ?_, ?_, ?_⟩
  · exact (settled_get_free _ _ (by decide) _ _).trans bank
  · exact (settled_get_free _ _ (by decide) _ _).trans cycle
  · exact (settled_get_free _ _ (by decide) _ _).trans len
  · exact (settled_bit_free _ _ (by decide) _ _).trans pend
  · exact (settled_bit_free _ _ (by decide) _ _).trans evt

/-- Settles O47: a schedule's change follows the chain of checks of a gate control list, and the swap takes the sampled values. -/
theorem scheduleChange : Obligations.ScheduleChange := by
  refine ⟨fun s h k ho => ⟨fun (hc : s.schedCode k ≠ 0) => ?_, does_scheduleChangeGo_accepted ho, does_scheduleChangeCancel_pending ho, fun idle => ?_⟩,
    fun s k c hp ht => does_scheduleChangeTime hp ht⟩
  · have refusal : s.regWrite (hostNum h) R.POL_SGS_CHG k 0 15 (keyWord 1) = ([], s.schedRefuse k (s.schedCode k)) :=
      (regWrite_schedChg _ _ true false).trans (by rw [schedChange_go, if_neg hc])
    exact does_scheduleRefused rfl ho refusal (s.schedCode_lt k)
  · obtain ⟨t, ht, err, evt, pol, -⟩ := does_scheduleRefused (c := .scheduleChangeCancel h k) (code := 5) rfl ho
      ((regWrite_schedChg _ _ false true).trans (by rw [schedChange_cancel, if_neg (by simp [idle])])) (by decide)
    exact ⟨t, ht, err, evt, pol⟩

end Sys2Proof.Machine
end

section
set_option Elab.async false
/-! PROOFS. The gates in force and the events of a gate control list (08_egress_scheduling.md R249, R252, R253; 02_operating_modes.md R37). -/

namespace Sys2Proof.Machine

variable {s : State}

/-! ## A port counter (R102) -/

theorem State.portCnt_only (s : State) (p k n : Nat) : s.onlyRegs (s.portCnt p k n) :=
  State.onlyRegs_put (State.onlyRegs_put State.onlyRegs_refl _ _ _ _) _ _ _ _

theorem State.portCount_portCnt (s : State) (p k n : Nat) : (s.portCnt p k n).portCount p k = (s.portCount p k + n) % 2 ^ 64 := by
  have lo : s.get F.PORT_CNT_LO_COUNT p k < 2 ^ 32 := s.get_lt ..
  unfold State.portCount State.portCnt
  dsimp only
  rw [State.get_put_free _ (by decide), State.get_put_same _ _ _ _ _ (by decide), State.get_put_same _ _ _ _ _ (by decide)]
  have wlo : F.PORT_CNT_LO_COUNT.width = 32 := rfl
  have whi : F.PORT_CNT_HI_COUNT.width = 32 := rfl
  rw [wlo, whi]
  omega

theorem State.portCnt_keeps (s : State) (p k n : Nat) : s.keepsRegs (s.portCnt p k n) [R.PORT_CNT_LO.off p k, R.PORT_CNT_HI.off p k] :=
  State.keepsRegs_put (State.keepsRegs_put (State.keepsRegs_refl _) _ _ _ _ List.mem_cons_self) _ _ _ _ (List.mem_cons_of_mem _ List.mem_cons_self)

/-- A register apart from the port counters. -/
def cntFree (r : RegSpec) : Bool := apart r R.PORT_CNT_LO && apart r R.PORT_CNT_HI

theorem State.reg_portCnt {r : RegSpec} (h : cntFree r = true) {p k i j : Nat} (hp : p < 72) (hk : k < 48) (hr : r.inside i j) (n : Nat) :
    (s.portCnt p k n).reg r i j = s.reg r i j := by
  simp only [cntFree, Bool.and_eq_true] at h
  unfold State.portCnt
  dsimp only
  rw [State.reg_put_other _ F.PORT_CNT_HI_COUNT _ _ _ _ _ _ (off_ne h.2 hr ⟨hp, hk⟩), State.reg_put_other _ F.PORT_CNT_LO_COUNT _ _ _ _ _ _ (off_ne h.1 hr ⟨hp, hk⟩)]

theorem State.get_portCnt {f : Fld} (h : cntFree f.reg = true) {p k i j : Nat} (hp : p < 72) (hk : k < 48) (hr : f.reg.inside i j) (n : Nat) :
    (s.portCnt p k n).get f i j = s.get f i j := by
  rw [State.get, State.get, State.reg_portCnt h hp hk hr]

theorem State.bit_portCnt {f : Fld} (h : cntFree f.reg = true) {p k i j : Nat} (hp : p < 72) (hk : k < 48) (hr : f.reg.inside i j) (n : Nat) :
    (s.portCnt p k n).bit f i j = s.bit f i j := by
  rw [State.bit, State.bit, State.get_portCnt h hp hk hr]

theorem State.portCount_put {f : Fld} (h : cntFree f.reg = true) {p k i j : Nat} (hp : p < 72) (hk : k < 48) (hr : f.reg.inside i j) (v : Nat) :
    (s.put f v i j).portCount p k = s.portCount p k := by
  simp only [cntFree, Bool.and_eq_true] at h
  rw [State.portCount, State.portCount, State.get_put_other _ _ _ _ _ _ _ _ (off_ne h.1 hr ⟨hp, hk⟩).symm,
    State.get_put_other _ _ _ _ _ _ _ _ (off_ne h.2 hr ⟨hp, hk⟩).symm]

theorem State.portCount_of_regs {t : State} (h : t.regs = s.regs) (p k : Nat) : t.portCount p k = s.portCount p k := by
  rw [State.portCount, State.portCount, State.get_of_regs h, State.get_of_regs h]

theorem settled_portCount (b t : State) {p k : Nat} (hp : p < 72) (hk : k < 48) : (settled b t).portCount p k = t.portCount p k := by
  rw [State.portCount, State.portCount, settled_get _ _ _ _ _ (not_pba (by decide) ⟨hp, hk⟩),
    settled_get _ _ _ _ _ (not_pba (by decide) ⟨hp, hk⟩)]

@[simp] theorem State.port_setPort_same (s : State) (p : Nat) (v : PortSt) : (s.setPort p v).port p = v := tabGet_set_same ..

theorem State.port_of_ports {t : State} (h : t.ports = s.ports) (p : Nat) : t.port p = s.port p := by rw [State.port, State.port, h]

theorem settled_port (b t : State) (p : Nat) : (settled b t).port p = t.port p := State.port_of_ports (settled_ports b t) p

/-! ## The gates and the entry in force -/

/-- The entry in force does not depend on the gates that EGS_GATE_STAT shows. -/
theorem gateEntry_put_operGates (s : State) (p v : Nat) (t : Int) : (s.put F.EGS_GATE_STAT_OPER_GATES v p).gateEntry p t = s.gateEntry p t := by
  have bank : (s.put F.EGS_GATE_STAT_OPER_GATES v p).operBank p = s.operBank p := State.operBank_congr rfl (State.get_put_beside _ (by decide) _ _ _)
  have adm : (s.put F.EGS_GATE_STAT_OPER_GATES v p).admBank p = s.admBank p := State.admBank_congr rfl (State.get_put_beside _ (by decide) _ _ _)
  have run : (s.put F.EGS_GATE_STAT_OPER_GATES v p).operRun p = s.operRun p := by
    unfold State.operRun
    rw [bank, State.get_put_free _ (by decide), State.get_put_free _ (by decide)]
    rfl
  have at_ : (s.put F.EGS_GATE_STAT_OPER_GATES v p).runAt p t = s.runAt p t := by
    unfold State.runAt
    rw [run, adm]
    rfl
  unfold State.gateEntry
  rw [at_]

theorem gateUpdate_eq (s : State) (p : Nat) : s.gateUpdate p =
    (s.put F.EGS_GATE_STAT_OPER_GATES (s.gatesAt p (s.laneNs p)) p).put F.EGS_GATE_STAT_ENTRY
      (if s.get F.EGS_GATE_OPER_LEN_LEN p = 0 then 0
       else (s.put F.EGS_GATE_STAT_OPER_GATES (s.gatesAt p (s.laneNs p)) p).gateEntry p (s.laneNs p)) p := by
  unfold State.gateUpdate
  dsimp only
  rw [State.get_put_free _ (by decide)]
  split <;> rfl

theorem does_gateEntryStart (s : State) (p : Port) : Does (.gateEntryStart p) s fun t =>
    t.get F.EGS_GATE_STAT_OPER_GATES p = s.gatesAt p (s.laneNs p) % 256 ∧
    t.get F.EGS_GATE_STAT_ENTRY p = (if s.get F.EGS_GATE_OPER_LEN_LEN p = 0 then 0 else s.gateEntry p (s.laneNs p) % 1024) ∧
    t.get F.EGS_GATE_STAT_BANK p = s.get F.EGS_GATE_STAT_BANK p ∧ s.keepsRegs t [R.EGS_GATE_STAT.off p 0] ∧ s.onlyRegs t := by
  have keeps : ∀ v w, s.keepsRegs ((s.put F.EGS_GATE_STAT_OPER_GATES v p).put F.EGS_GATE_STAT_ENTRY w p) [R.EGS_GATE_STAT.off p 0] := fun v w =>
    State.keepsRegs_put (State.keepsRegs_put (State.keepsRegs_refl _) _ _ _ _ List.mem_cons_self) _ _ _ _ List.mem_cons_self
  have only : ∀ v w, s.onlyRegs ((s.put F.EGS_GATE_STAT_OPER_GATES v p).put F.EGS_GATE_STAT_ENTRY w p) := fun v w =>
    State.onlyRegs_put (State.onlyRegs_put State.onlyRegs_refl _ _ _ _) _ _ _ _
  refine does_of (u := s.gateUpdate p) rfl ?_
  rw [gateUpdate_eq]
  refine ⟨?_, ?_, ?_, settled_keeps _ _ _ (keeps _ _), settled_onlyRegs (only _ _)⟩
  · refine (settled_get_free _ _ (by decide) _ _).trans ((State.get_put_beside _ (by decide) _ _ _).trans ?_)
    exact State.get_put_same _ _ _ _ _ (by decide)
  · refine (settled_get_free _ _ (by decide) _ _).trans ((State.get_put_same _ _ _ _ _ (by decide)).trans ?_)
    split
    · rfl
    · exact congrArg (· % 1024) (gateEntry_put_operGates ..)
  · exact (settled_get_free _ _ (by decide) _ _).trans ((State.get_put_beside _ (by decide) _ _ _).trans (State.get_put_beside _ (by decide) _ _ _))

/-- With no list that a change brings or took away, the operative list is in force. -/
theorem runAt_oper {p : Nat} {t : Int} (ho : ∀ o, (s.eg p).old = some o → o.tx ≤ t) (hp : ∀ c, (s.eg p).pend = some c → t < c.tx) :
    (s.runAt p t).2.1 = s.operRun p := by
  have notYet : ∀ c, (s.eg p).pend = some c → ¬ c.tx ≤ t := fun c hc => not_le.2 (hp c hc)
  unfold State.runAt
  dsimp only
  cases old : (s.eg p).old with
  | none =>
    cases pend : (s.eg p).pend with
    | none => rfl
    | some c => simp only [notYet c pend, if_false]
  | some o =>
    simp only [not_lt.2 (ho o old), if_false]
    cases pend : (s.eg p).pend with
    | none => rfl
    | some c => simp only [notYet c pend, if_false]

theorem gatesAt_open {p : Nat} (t : Int) (h : s.bit F.EGS_GATE_CFG_GATE_EN p = false ∨ s.mode = modeBRIDGE) :
    s.gatesAt p t = 0xFF ∧ s.listHold p t = false := by
  have off : (!s.gatesRun || !s.bit F.EGS_GATE_CFG_GATE_EN p) = true := by
    rcases h with h | h <;> simp [State.gatesRun, h]
  unfold State.gatesAt State.listHold
  rw [if_pos off, if_pos off]
  exact ⟨rfl, rfl⟩

theorem gatesAt_list {p : Nat} {t : Int} (he : s.bit F.EGS_GATE_CFG_GATE_EN p = true) (hm : s.mode ≠ modeBRIDGE)
    (ho : ∀ o, (s.eg p).old = some o → o.tx ≤ t) (hp : ∀ c, (s.eg p).pend = some c → t < c.tx) :
    (s.get F.EGS_GATE_OPER_LEN_LEN p = 0 → s.gatesAt p t = s.get F.EGS_GATE_CFG_ADM_GATES p) ∧
    (s.get F.EGS_GATE_OPER_LEN_LEN p ≠ 0 → s.gatesAt p t = (s.operEntry p (s.gateEntry p t)).gates) := by
  have on : ¬ (!s.gatesRun || !s.bit F.EGS_GATE_CFG_GATE_EN p) = true := by simp [State.gatesRun, he, hm]
  have inForce : s.gateInForce p t =
      if s.get F.EGS_GATE_OPER_LEN_LEN p = 0 then none else some (s.operEntry p (s.gateEntry p t)) := by
    unfold State.gateInForce
    rw [runAt_oper ho hp]
    rfl
  unfold State.gatesAt
  rw [if_neg on, inForce]
  exact ⟨fun h => by rw [if_pos h], fun h => by rw [if_neg h]⟩

/-! ## The MAC hold (R253) -/

/-- The hold shows, and a frame in progress is to be preempted. -/
def State.macHolds (s : State) (p : Nat) : State :=
  let u := (s.put F.EGS_GATE_STAT_HOLD 1 p).portCnt p 33
  if (u.txGet p 1).isSome then u.setPort p { u.port p with preReq := true } else u

theorem State.macHolds_regs (s : State) (p : Nat) : (s.macHolds p).regs = ((s.put F.EGS_GATE_STAT_HOLD 1 p).portCnt p 33 1).regs := by
  unfold State.macHolds
  dsimp only
  split <;> rfl

theorem does_macHoldAssert {p : Port} (hh : s.holdAt p (s.laneNs p) = true) (hs : s.bit F.EGS_GATE_STAT_HOLD p = false) :
    Does (.macHoldAssert p) s fun t =>
      t.bit F.EGS_GATE_STAT_HOLD p = true ∧ t.portCount p 33 = (s.portCount p 33 + 1) % 2 ^ 64 ∧
      ((s.txGet p 1).isSome = true → (t.port p).preReq = true) := by
  have u : s.macHold p = s.macHolds p := if_pos (by rw [hh, hs]; rfl)
  refine does_of (u := s.macHold p) rfl ?_
  rw [u]
  have regs := s.macHolds_regs p
  refine ⟨?_, ?_, fun tx => ?_⟩
  · refine (settled_bit_free _ _ (by decide) _ _).trans ((State.bit_of_regs regs _ _ _).trans ?_)
    rw [State.bit_portCnt (by decide) p.isLt (by decide) ⟨p.isLt, Nat.one_pos⟩]
    exact State.bit_put_one _ (by decide) (by decide) _ _
  · rw [settled_portCount _ _ p.isLt (by decide), State.portCount_of_regs regs, State.portCount_portCnt,
      State.portCount_put (by decide) p.isLt (by decide) ⟨p.isLt, Nat.one_pos⟩]
  · have on : s.macHolds p = _ := if_pos tx
    rw [on]
    exact congrArg PortSt.preReq ((settled_port ..).trans (State.port_setPort_same ..))

theorem does_macHoldRelease {p : Port} (hh : s.holdAt p (s.laneNs p) = false) (hs : s.bit F.EGS_GATE_STAT_HOLD p = true) :
    Does (.macHoldRelease p) s fun t =>
      t.bit F.EGS_GATE_STAT_HOLD p = false ∧ s.keepsRegs t [R.EGS_GATE_STAT.off p 0] ∧ s.onlyRegs t := by
  have u : s.macRelease p = s.put F.EGS_GATE_STAT_HOLD 0 p := if_pos (by rw [hh, hs]; rfl)
  refine does_of (u := s.macRelease p) rfl ?_
  rw [u]
  refine ⟨?_, settled_keeps _ _ _ ?_, settled_onlyRegs (State.onlyRegs_put State.onlyRegs_refl _ _ _ _)⟩
  · exact (settled_bit_free _ _ (by decide) _ _).trans (State.bit_put_zero _ (by decide) _ _)
  · exact State.keepsRegs_put (State.keepsRegs_refl _) _ _ _ _ List.mem_cons_self

/-- Settles O35: the entry in force is the operative list's, and the hold of the MAC shows as it changes. -/
theorem gateEvents : Obligations.GateEvents :=
  ⟨does_gateEntryStart, fun _ _ t => ⟨gatesAt_open t, gatesAt_list⟩, fun _ _ => does_macHoldAssert, fun _ _ => does_macHoldRelease⟩

end Sys2Proof.Machine
end

section
set_option Elab.async false
/-! PROOFS. A commit being applied is not seen by frames of the epoch in force (06_epochs_and_consistency.md R176, R177, R186). -/

namespace Sys2Proof.Machine

variable {s : State}

/-! ## Slots of the tables -/

theorem State.underTest_of_regs {t : State} (h : t.regs = s.regs) (m : Nat) : t.underTest m = s.underTest m := by
  unfold State.underTest
  rw [State.bit_of_regs h, State.get_of_regs h, State.get_of_regs h]

@[simp] theorem State.setSlot_regs (s : State) (t i : Nat) (v : Slot9) : (s.setSlot t i v).regs = s.regs := by
  unfold State.setSlot
  split
  · rfl
  · split <;> rfl

/-- Of the tables a write of a slot changes the slots only. -/
theorem State.setSlot_lkp (s : State) (t i : Nat) (v : Slot9) : ∃ l, s.setSlot t i v = { s with lkp := { s.lkp with slots := l } } := by
  unfold State.setSlot
  split
  · exact ⟨_, rfl⟩
  · split <;> exact ⟨_, rfl⟩

theorem State.slot_of_parts {u : State} (hu : u.underTest 0 = s.underTest 0) (hs : u.lkp.slots = s.lkp.slots) (hl : u.lkp.lost = s.lkp.lost)
    (t i : Nat) : u.slot t i = s.slot t i := by
  unfold State.slot
  rw [hu, hs, hl]

theorem settled_slot (b u : State) (t i : Nat) : (settled b u).slot t i = u.slot t i :=
  State.slot_of_parts (settled_underTest b u 0) (by rw [settled_lkp]) (by rw [settled_lkp]) t i

/-- What a slot that the table does not list reads as (R58, log entry 1). -/
def restSlot (lost : Option Nat) (t i : Nat) : Slot9 :=
  match lost with
  | none => {}
  | some n => lostSlot t (n + 10 * (t * 2 ^ 20 + i))

theorem State.slot_eq (h : s.underTest 0 = false) (t i : Nat) : s.slot t i = tabGet (restSlot s.lkp.lost t i) s.lkp.slots (t * 2 ^ 20 + i) := by
  unfold State.slot tabGet
  rw [h, if_neg Bool.false_ne_true]
  cases tabFind? (t * 2 ^ 20 + i) s.lkp.slots <;> rfl

/-- The table of the slots after a write of one. -/
def slotsPut (lost : Option Nat) (slots : Tab Slot9) (k : Nat) (v : Slot9) : Tab Slot9 :=
  match lost with
  | none => tabSet {} slots k v
  | some _ => tabInsert k v slots

theorem State.setSlot_eq (h : s.underTest 0 = false) (t i : Nat) (v : Slot9) :
    s.setSlot t i v = { s with lkp := { s.lkp with slots := slotsPut s.lkp.lost s.lkp.slots (t * 2 ^ 20 + i) v } } := by
  unfold State.setSlot slotsPut
  rw [h, if_neg Bool.false_ne_true]
  cases s.lkp.lost <;> rfl

theorem State.slot_setSlot_same (h : s.underTest 0 = false) (t i : Nat) (v : Slot9) : (s.setSlot t i v).slot t i = v := by
  rw [State.slot_eq ((State.underTest_of_regs (s.setSlot_regs t i v) 0).trans h), State.setSlot_eq h]
  unfold slotsPut
  dsimp only
  cases s.lkp.lost with
  | none => exact tabGet_set_same _ _ _ _
  | some n => simp only [tabGet, tabFind_insert_same, Option.getD_some]

theorem State.slot_setSlot_other {t i t' i' : Nat} (ne : t' * 2 ^ 20 + i' ≠ t * 2 ^ 20 + i) (v : Slot9) :
    (s.setSlot t i v).slot t' i' = s.slot t' i' := by
  cases h : s.underTest 0 with
  | true => rw [State.setSlot, if_pos h]
  | false =>
    rw [State.slot_eq ((State.underTest_of_regs (s.setSlot_regs t i v) 0).trans h), State.setSlot_eq h, State.slot_eq h]
    unfold slotsPut
    dsimp only
    cases s.lkp.lost with
    | none => exact tabGet_set_other _ _ _ ne _
    | some n => simp only [tabGet, tabFind_insert_other ne]

theorem slotKey_ne {t i t' i' : Nat} (hi : i < 2 ^ 20) (hi' : i' < 2 ^ 20) (ne : (t', i') ≠ (t, i)) : t' * 2 ^ 20 + i' ≠ t * 2 ^ 20 + i := fun e => by
  have : t' = t := by omega
  subst this
  exact ne (by rw [show i' = i by omega])

/-! ## The entries of the commit, one by one -/

/-- The slot of a staged entry after its image is written (R177). -/
def State.appliedSlot (s : State) (e : Staged) : Slot9 :=
  let x := s.slot e.table e.index
  let v : Version := { img := e.img, tag := (s.epoch + 1) % 65536, settled := false }
  let x := { x with pend := true, unpoison := x.unpoison || e.op == 2,
                    res := match s.stagedAt e.table e.index with | some n => if n.op = 3 then some n.img else none | none => none }
  if x.newB then { x with a := v, newB := false } else { x with b := v, newB := true }

theorem State.applyStaged_eq (s : State) (e : Staged) : s.applyStaged e = s.setSlot e.table e.index (s.appliedSlot e) := rfl

/-- The image of an applied entry is pending: frames of the epoch in force get what they got, frames of the next one the image. -/
theorem State.appliedSlot_versions (s : State) (e : Staged)
    (hn : (newest (s.slot e.table e.index)).settled = true ∨ (newest (s.slot e.table e.index)).tag ≠ (s.epoch + 1) % 65536) :
    versionFor (s.appliedSlot e) s.epoch = versionFor (s.slot e.table e.index) s.epoch ∧
    (versionFor (s.appliedSlot e) ((s.epoch + 1) % 65536)).img = e.img ∧ (s.appliedSlot e).pend = true := by
  have next : (s.epoch + 1) % 65536 ≠ (s.epoch + 1 + 1) % 65536 := by omega
  have before : versionFor (s.slot e.table e.index) s.epoch = newest (s.slot e.table e.index) := by
    unfold versionFor
    dsimp only
    rcases hn with h | h <;> simp [h]
  rw [before]
  unfold State.appliedSlot versionFor newest older
  cases hb : (s.slot e.table e.index).newB <;> simp [hb, next]

/-- What the entries that have been applied so far leave: every entry of theirs is in its slot, the others' slots stand. -/
theorem foldl_applyStaged (l : List Staged) (hu : s.underTest 0 = false) (hd : (l.map fun e => (e.table, e.index)).Nodup)
    (hi : ∀ e ∈ l, e.index < 2 ^ 20) :
    (l.foldl State.applyStaged s).regs = s.regs ∧ (∀ t i, i < 2 ^ 20 → (t, i) ∉ l.map (fun e => (e.table, e.index)) →
      (l.foldl State.applyStaged s).slot t i = s.slot t i) ∧
    ∀ e ∈ l, ∃ u : State, u.epoch = s.epoch ∧ u.slot e.table e.index = s.slot e.table e.index ∧
      (l.foldl State.applyStaged s).slot e.table e.index = u.appliedSlot e := by
  induction l generalizing s with
  | nil => exact ⟨rfl, fun _ _ _ _ => rfl, nofun⟩
  | cons e l ih =>
    obtain ⟨fresh, hd'⟩ := List.nodup_cons.1 hd
    have regs : (s.applyStaged e).regs = s.regs := s.setSlot_regs ..
    have epoch : (s.applyStaged e).epoch = s.epoch := State.get_of_regs regs ..
    have he := hi e List.mem_cons_self
    have same : (s.applyStaged e).slot e.table e.index = s.appliedSlot e := State.slot_setSlot_same hu ..
    have other : ∀ t i, i < 2 ^ 20 → (t, i) ≠ (e.table, e.index) → (s.applyStaged e).slot t i = s.slot t i := fun t i ht ne =>
      State.slot_setSlot_other (slotKey_ne he ht ne) _
    obtain ⟨regs', keep, done⟩ := ih (s := s.applyStaged e) ((State.underTest_of_regs regs 0).trans hu) hd' fun x hx => hi x (List.mem_cons_of_mem _ hx)
    rw [List.foldl_cons]
    refine ⟨regs'.trans regs, fun t i ht hti => ?_, fun x hx => ?_⟩
    · rw [List.map_cons, List.mem_cons, not_or] at hti
      exact (keep t i ht hti.2).trans (other t i ht hti.1)
    · rcases List.mem_cons.1 hx with rfl | hx
      · exact ⟨s, rfl, rfl, (keep _ _ he fresh).trans same⟩
      · obtain ⟨u, hue, hus, hul⟩ := done x hx
        have ne : (x.table, x.index) ≠ (e.table, e.index) := fun eq => fresh (List.mem_map.2 ⟨x, hx, eq⟩)
        exact ⟨u, hue.trans epoch, hus.trans (other _ _ (hi x (List.mem_cons_of_mem _ hx)) ne), hul⟩

/-- The end of a commit's application. -/
def State.taken (s : State) : State := ({ s with lkp := { s.lkp with taken := [] } } : State).epochState esPENDING

theorem taken_shows (s : State) : s.taken.get F.EPOCH_STAT_STATE = esPENDING ∧ s.taken.lkp.taken = [] ∧ s.taken.epoch = s.epoch ∧
    ∀ t i, s.taken.slot t i = s.slot t i := by
  have other : ∀ f : Fld, free f.reg R.EPOCH_STAT = true → ∀ i j, s.taken.get f i j = s.get f i j := fun f hf i j => by
    unfold State.taken State.epochState
    rw [State.get_put_free (f := F.EPOCH_STAT_BUSY) _ hf, State.get_put_free (f := F.EPOCH_STAT_STATE) _ hf]
    rfl
  refine ⟨?_, rfl, other _ (by decide) _ _, fun t i => State.slot_of_parts (s := s) (u := s.taken) ?_ rfl rfl t i⟩
  · unfold State.taken State.epochState
    rw [State.get_put_beside _ (by decide)]
    exact State.get_put_fits _ (by decide) (by decide) _ _
  · unfold State.underTest
    rw [State.bit, State.bit, other _ (by decide), other _ (by decide), other _ (by decide)]

/-- Settles O43: each entry of the set is written to the version that frames of the epoch in force do not read. -/
theorem commitHidesPending : Obligations.CommitHidesPending := by
  intro s hs hu hd hi hn
  obtain ⟨regs, -, done⟩ := foldl_applyStaged s.lkp.taken hu hd hi
  obtain ⟨state, taken, epoch, slots⟩ := taken_shows (s.lkp.taken.foldl State.applyStaged s)
  have applied : s.commitApplied = (s.lkp.taken.foldl State.applyStaged s).taken := if_pos hs
  refine does_of (u := s.commitApplied) rfl ?_
  rw [applied]
  refine ⟨?_, by rw [settled_lkp, taken], ?_, fun e he => ?_⟩
  · exact (settled_get_free _ _ (by decide) _ _).trans state
  · exact (settled_get_free _ _ (by decide) _ _).trans (epoch.trans (State.get_of_regs regs ..))
  · obtain ⟨u, ue, us, ul⟩ := done e he
    rw [settled_slot, slots, ul, ← us, ← ue]
    exact u.appliedSlot_versions e (by rw [us, ue]; exact hn e he)

end Sys2Proof.Machine
end

section
set_option Elab.async false
/-! PROOFS. The commands of the policing window (09_policing.md R277, R279, R282, R286, R287). -/

namespace Sys2Proof.Machine

variable {s : State}

/-! ## A posted write (R9) -/

/-- A posted write that finds the register idle stores its word, and the action of the register follows. -/
theorem posted_idle {busy : Bool} (hb : busy = false) (r : RegSpec) (i j : Nat) (w : Word) (act : State → State) :
    ∃ v, s.posted busy r i j w act = ([], act (s.setReg r v i j)) := by
  unfold State.posted
  rw [hb]
  exact ⟨_, rfl⟩

/-- The registers of other blocks than the loader's do not say whether it has been DONE. -/
theorem loaded_setReg {r : RegSpec} (h : free F.IMG_STAT_STATE.reg r = true) (v : Word) (i j : Nat) : (s.setReg r v i j).loaded = s.loaded := by
  rw [State.loaded, State.loaded, State.imgState, State.imgState, State.get_setReg_free _ h]

/-! ## The acceptance of a command -/

/-- The command that an accepted write of POL_CMD makes. -/
def State.polCommand (s : State) (w : Word) (host : Nat) : WinCmd :=
  { word := w, index := s.get F.POL_INDEX_INDEX, data := (List.range 8).map (fun i => s.reg R.POL_DATA i), host := host }

theorem polAccept_eq (s : State) (w : Word) (host : Nat) :
    s.polAccept w host = { (s.put F.POL_STAT_BUSY 1) with pol := { s.pol with cmd := some (s.polCommand w host) } } := rfl

theorem polCommand_setReg (s : State) (v w : Word) (host : Nat) : (s.setReg R.POL_CMD v).polCommand w host = s.polCommand w host := by
  have index : (s.setReg R.POL_CMD v).get F.POL_INDEX_INDEX = s.get F.POL_INDEX_INDEX := State.get_setReg_free _ (by decide) _ _ _ _ _
  have data : ∀ i, (s.setReg R.POL_CMD v).reg R.POL_DATA i = s.reg R.POL_DATA i := fun i => State.reg_setReg_free _ (by decide) _ _ _ _ _
  unfold State.polCommand
  rw [index]
  simp only [data]

theorem does_polAccepted {c : Instr} {h : HostId} {w : Word} (he : exec c s = finish s (s.rowWrite (hostNum h) R.POL_CMD 0 0 w))
    (ho : s.opens h R.POL_CMD 0 0 = true) (hb : s.bit F.POL_STAT_BUSY = false) (hl : s.loaded = true) :
    Does c s fun t => t.bit F.POL_STAT_BUSY = true ∧
      ∃ c, t.pol = { s.pol with cmd := some c } ∧ c.word = w ∧ c.index = s.get F.POL_INDEX_INDEX ∧
        c.data = (List.range 8).map fun j => s.reg R.POL_DATA j := by
  obtain ⟨v, hv⟩ := posted_idle (s := s) hb R.POL_CMD 0 0 w (fun u => u.polAccept (u.windowWord w) (hostNum h))
  have word : (s.setReg R.POL_CMD v).windowWord w = w := if_pos ((loaded_setReg (by decide) v 0 0).trans hl)
  rw [word] at hv
  have write : s.regWrite (hostNum h) R.POL_CMD 0 0 15 w = ([], (s.setReg R.POL_CMD v).polAccept w (hostNum h)) := hv
  refine does_rowWrite he ho write fun x => ?_
  rw [polAccept_eq, polCommand_setReg]
  refine ⟨?_, s.polCommand w (hostNum h), ?_, rfl, rfl, rfl⟩
  · exact (settled_bit_free _ _ (by decide) _ _).trans (State.bit_put_one (s.setReg R.POL_CMD v) (by decide) (by decide) _ _)
  · exact settled_pol _ _

/-! ## The completion of a command -/

/-- The end of a command that has reported `st`. -/
def State.polDone (s : State) (st : Nat) : State :=
  ((({ s with pol := { s.pol with cmd := none } } : State).put F.POL_STAT_STATUS st).put F.POL_STAT_BUSY 0).evt F.POL_EVT_CMD_DONE

theorem polComplete_eq {c : WinCmd} (hc : s.pol.cmd = some c) : s.polComplete none = (s.polDo c).2.polDone (s.polDo c).1 := by
  unfold State.polComplete
  rw [hc]
  rfl

/-- What every completed command shows. -/
abbrev PolEnds (t : State) (st : Nat) : Prop :=
  t.get F.POL_STAT_STATUS = st ∧ t.pol.cmd = none ∧ t.bit F.POL_STAT_BUSY = false ∧ t.bit F.POL_EVT_CMD_DONE = true

theorem polDone_shows (u : State) {st : Nat} (hst : st < 8) : (u.polDone st).get F.POL_STAT_STATUS = st ∧
    (u.polDone st).bit F.POL_STAT_BUSY = false ∧ (u.polDone st).bit F.POL_EVT_CMD_DONE = true ∧
    (u.polDone st).pol = { u.pol with cmd := none } ∧ u.keepsRegs (u.polDone st) [R.POL_STAT.base, R.POL_EVT.base] := by
  unfold State.polDone
  generalize hv : ({ u with pol := { u.pol with cmd := none } } : State) = v
  have regs : v.regs = u.regs := by rw [← hv]
  have pol : v.pol = { u.pol with cmd := none } := by rw [← hv]
  refine ⟨?_, ?_, State.bit_evt_same _ _ _ _ (by decide) (by decide), ?_, ?_⟩
  · rw [State.get_evt_free _ (by decide), State.get_put_beside _ (by decide), State.get_put_fits _ (by decide) (show st < 2 ^ 3 from hst)]
  · rw [State.bit_evt_free _ (by decide)]
    exact State.bit_put_zero _ (by decide) _ _
  · rw [State.evt_pol, State.put_pol, State.put_pol, pol]
  · have keeps : v.keepsRegs (((v.put F.POL_STAT_STATUS st).put F.POL_STAT_BUSY 0).evt F.POL_EVT_CMD_DONE) [R.POL_STAT.base, R.POL_EVT.base] :=
      State.keepsRegs_evt (State.keepsRegs_put (State.keepsRegs_put (State.keepsRegs_refl _) _ _ _ _ (by decide)) _ _ _ _ (by decide)) _ _ _ (by decide)
    exact State.keepsRegs_trans (State.keepsRegs_of_eq _ regs) keeps

/-- A command whose work leaves `u` and answers `st`. -/
theorem does_polCmdComplete {c : WinCmd} {st : Nat} {u : State} {P : State → Prop} (hc : s.pol.cmd = some c) (hd : s.polDo c = (st, u)) (hst : st < 8)
    (hp : ∀ t : State, PolEnds t st → t.pol = { u.pol with cmd := none } → u.keepsRegs t [R.POL_STAT.base, R.POL_EVT.base] → P t) :
    Does (.polCmdComplete none) s P := by
  obtain ⟨status, busy, done, pol, keeps⟩ := polDone_shows u hst
  refine does_of (u := s.polComplete none) rfl ?_
  rw [polComplete_eq hc, hd]
  refine hp _ ⟨?_, ?_, ?_, ?_⟩ ((settled_pol _ _).trans pol) (settled_keeps _ _ _ keeps)
  · exact (settled_get_free _ _ (by decide) _ _).trans status
  · rw [settled_pol, pol]
  · exact (settled_bit_free _ _ (by decide) _ _).trans busy
  · exact (settled_bit_free _ _ (by decide) _ _).trans done

/-! ## What each command does -/

theorem State.setFilter_pol (s : State) (k : Nat) (x : Filter) : (s.setFilter k x).pol = { s.pol with filters := tabSet {} s.pol.filters k x } := rfl
theorem State.setGate_pol (s : State) (k : Nat) (x : Gate) : (s.setGate k x).pol = { s.pol with gates := tabSet {} s.pol.gates k x } := rfl

theorem polDo_nop {c : WinCmd} (h : getBits c.word 3 0 = 0) : s.polDo c = (0, s) := by
  unfold State.polDo
  exact if_pos h

/-- A command of an OP that its table takes, with an index that the table has. -/
theorem polDo_known {c : WinCmd} (hop : getBits c.word 3 0 = 1 ∨ (getBits c.word 3 0 = 2 ∧ getBits c.word 6 6 = 0) ∨
      (getBits c.word 3 0 = 3 ∧ (getBits c.word 5 4 = 1 ∨ getBits c.word 5 4 = 2)) ∨ (getBits c.word 3 0 = 4 ∧ getBits c.word 5 4 = 1))
    (hi : c.index < polEntries (getBits c.word 5 4)) : s.polDo c =
      if getBits c.word 3 0 = 1 then (if s.polEcc (getBits c.word 5 4) c.index (getBits c.word 6 6 == 1) then 5 else 0,
        s.polData (s.polImage (getBits c.word 5 4) c.index (getBits c.word 6 6 == 1)))
      else if getBits c.word 3 0 = 2 then s.polWrite (getBits c.word 5 4) c.index c.data
      else if getBits c.word 3 0 = 3 then
        (0, if getBits c.word 5 4 = 1 then s.setFilter c.index { s.filter c.index with blocked := false }
            else s.setGate c.index { s.gate c.index with closedInv := false })
      else (0, s.setFilter c.index { s.filter c.index with matchN := 0, passN := 0, notPass := 0, passSdu := 0, notPassSdu := 0, redN := 0 }) := by
  unfold State.polDo
  dsimp only
  have some : getBits c.word 3 0 ≠ 0 := by omega
  have listed : ¬ (5 ≤ getBits c.word 3 0 ∨ (getBits c.word 3 0 = 2 ∧ (getBits c.word 6 6 == 1) = true) ∨
      (getBits c.word 3 0 = 3 ∧ getBits c.word 5 4 ≠ 1 ∧ getBits c.word 5 4 ≠ 2) ∨ (getBits c.word 3 0 = 4 ∧ getBits c.word 5 4 ≠ 1)) := by
    rw [beq_iff_eq]
    omega
  rw [if_neg some, if_neg listed, if_neg (by omega)]

/-- The eight data registers show the words of an image. -/
theorem polData_shows (s : State) (v n : Nat) : let t := (List.range n).foldl (fun s i => s.put F.POL_DATA_DATA ((v >>> (32 * i)) % 2 ^ 32) i) s
    (∀ j < n, t.get F.POL_DATA_DATA j = v / 2 ^ (32 * j) % 2 ^ 32) ∧ t.pol = s.pol := by
  induction n with
  | zero => exact ⟨nofun, rfl⟩
  | succ n ih =>
    obtain ⟨words, pol⟩ := ih
    simp only [List.range_succ, List.foldl_append, List.foldl_cons, List.foldl_nil]
    refine ⟨fun j hj => ?_, (State.put_pol ..).trans pol⟩
    by_cases last : j = n
    · subst last
      rw [State.get_put_fits _ (by decide) (show (v >>> (32 * j)) % 2 ^ 32 < 2 ^ 32 from Nat.mod_lt _ (by decide)), Nat.shiftRight_eq_div_pow]
    · have off : R.POL_DATA.off j 0 ≠ R.POL_DATA.off n 0 := by
        simp only [RegSpec.off_eq, show R.POL_DATA.rowStride = 4 from rfl]
        omega
      rw [State.get_put_other _ F.POL_DATA_DATA F.POL_DATA_DATA _ _ _ _ _ off]
      exact words j (by omega)

theorem State.filter_of_pol {t : State} {x : Tab Filter} (h : t.pol.filters = x) (k : Nat) : t.filter k = tabGet {} x k := by rw [State.filter, h]
theorem State.gate_of_pol {t : State} {x : Tab Gate} (h : t.pol.gates = x) (k : Nat) : t.gate k = tabGet {} x k := by rw [State.gate, h]

theorem does_polFilterSet {c : WinCmd} {x : Filter} (hc : s.pol.cmd = some c) (hd : s.polDo c = (0, s.setFilter c.index x)) :
    Does (.polCmdComplete none) s fun t => PolEnds t 0 ∧ t.filter c.index = x ∧ t.pol.meters = s.pol.meters ∧ t.pol.gates = s.pol.gates := by
  refine does_polCmdComplete hc hd (by decide) fun t ends pol _ => ?_
  rw [State.setFilter_pol] at pol
  refine ⟨ends, ?_, by rw [pol], by rw [pol]⟩
  rw [State.filter_of_pol (x := tabSet {} s.pol.filters c.index x) (by rw [pol]), tabGet_set_same]

theorem polWrite_filter {index : Nat} {ws : List Word} (hr : polRsvd 1 ws = 0) (hm : imageBits ws 13 0 = 0 ∨ 63 < imageBits ws 13 0) :
    s.polWrite 1 index ws = (0, s.setFilter index
      { s.filter index with maxSdu := min (imageBits ws 13 0) 16000, blockOvs := imageBits ws 14 14 == 1, ecc := false }) := by
  unfold State.polWrite
  rw [if_neg (not_not.2 hr)]
  exact if_neg (by omega)

theorem polWrite_meterRefused {index : Nat} {ws : List Word} (hr : polRsvd 0 ws = 0) (hp : imageBits ws 47 24 < imageBits ws 23 0) :
    s.polWrite 0 index ws = (3, s) := by
  unfold State.polWrite
  rw [if_neg (not_not.2 hr)]
  exact if_pos hp

/-- Settles O46: a command is sampled when it is accepted, and its work and its report follow at its completion. -/
theorem policingWindow : Obligations.PolicingWindow := by
  refine ⟨fun s h ver table ho hb hl => ⟨does_polAccepted rfl ho hb hl, does_polAccepted rfl ho hb hl, does_polAccepted rfl ho hb hl,
    does_polAccepted rfl ho hb hl, does_polAccepted rfl ho hb hl⟩, fun s c hc => ⟨fun op => ?_, fun op hi ecc => ?_, fun op ver tbl hi hr hm => ?_,
    fun op ver tbl hi hr hp => ?_, fun op tbl hi => ?_, fun op tbl hi => ?_, fun op tbl hi => ?_⟩⟩
  · exact does_polCmdComplete hc (polDo_nop op) (by decide) fun t ends pol keeps => ⟨ends, pol, keeps⟩
  · obtain ⟨words, pol⟩ := polData_shows s (s.polImage (getBits c.word 5 4) c.index (getBits c.word 6 6 == 1)) 8
    have run := polDo_known (s := s) (.inl op) hi
    rw [if_pos op, ecc, if_neg Bool.false_ne_true] at run
    refine does_polCmdComplete hc run (by decide) fun t ends hpol keeps => ⟨ends, hpol.trans (by rw [State.polData, pol]), fun j hj => ?_⟩
    have data : ∀ i < 8, R.POL_DATA.off i 0 ∉ [R.POL_STAT.base, R.POL_EVT.base] ++ pbaOffs := by decide
    refine Eq.trans ?_ (words j hj)
    exact congrArg (getBits · 31 0) (keeps R.POL_DATA j 0 (data j hj))
  · have run := polDo_known (s := s) (.inr (.inl ⟨op, ver⟩)) (tbl ▸ hi)
    rw [if_neg (by omega), if_pos op, tbl, polWrite_filter hr hm] at run
    exact does_polFilterSet hc run
  · have run := polDo_known (s := s) (.inr (.inl ⟨op, ver⟩)) (tbl ▸ hi)
    rw [if_neg (by omega), if_pos op, tbl, polWrite_meterRefused hr hp] at run
    exact does_polCmdComplete hc run (by decide) fun t ends pol _ => ⟨ends, pol⟩
  · have run := polDo_known (s := s) (.inr (.inr (.inl ⟨op, .inl tbl⟩))) (tbl ▸ hi)
    rw [if_neg (by omega), if_neg (by omega), if_pos op, if_pos tbl] at run
    exact does_polFilterSet hc run
  · have run := polDo_known (s := s) (.inr (.inr (.inl ⟨op, .inr tbl⟩))) (tbl ▸ hi)
    rw [if_neg (by omega), if_neg (by omega), if_pos op, if_neg (by omega)] at run
    refine does_polCmdComplete hc run (by decide) fun t ends pol _ => ?_
    rw [State.setGate_pol] at pol
    refine ⟨ends, ?_, by rw [pol]⟩
    rw [State.gate_of_pol (x := tabSet {} s.pol.gates c.index { s.gate c.index with closedInv := false }) (by rw [pol]), tabGet_set_same]
  · have run := polDo_known (s := s) (.inr (.inr (.inr ⟨op, tbl⟩))) (tbl ▸ hi)
    rw [if_neg (by omega), if_neg (by omega), if_neg (by omega)] at run
    obtain ⟨t, ht, ends, filter, -⟩ := does_polFilterSet hc run
    exact ⟨t, ht, ends, filter⟩

end Sys2Proof.Machine
end

section
set_option Elab.async false
/-! PROOFS. The commands of the process data window (12_process_data_service.md R373 to R379). -/

namespace Sys2Proof.Machine

variable {s u : State}

/-! ## What a WRITE depends on -/

/-- Two states hold the same service and the same regions of its memory. -/
structure SamePds (s u : State) : Prop where
  pds : u.pds = s.pds
  base : ∀ j, u.get F.PDS_RGN_BASE_ADDR j = s.get F.PDS_RGN_BASE_ADDR j
  top : ∀ j, u.get F.PDS_RGN_TOP_ADDR j = s.get F.PDS_RGN_TOP_ADDR j

theorem SamePds.of_regs (hp : u.pds = s.pds) (hr : u.regs = s.regs) : SamePds s u :=
  ⟨hp, fun _ => State.get_of_regs hr .., fun _ => State.get_of_regs hr ..⟩

theorem SamePds.trans {t : State} (h : SamePds s t) (h' : SamePds t u) : SamePds s u :=
  ⟨h'.pds.trans h.pds, fun j => (h'.base j).trans (h.base j), fun j => (h'.top j).trans (h.top j)⟩

theorem pdsStoreEntry_regs (s : State) (table i m : Nat) : (s.pdsStoreEntry table i m).regs = s.regs := by
  unfold State.pdsStoreEntry
  dsimp only
  split <;> rfl

theorem State.setPds_pds (s : State) (p : PdsState) : (s.setPds p).pds = p := rfl

theorem pdsStoreEntry_pds (h : u.pds = s.pds) (table i m : Nat) : (u.pdsStoreEntry table i m).pds = (s.pdsStoreEntry table i m).pds := by
  unfold State.pdsStoreEntry
  dsimp only
  split <;> simp only [State.setPslot, State.setFanout, State.setLink, State.pslot, State.fanout, State.link, State.setPds_pds, h]

theorem SamePds.store (h : SamePds s u) (table i m : Nat) : SamePds (s.pdsStoreEntry table i m) (u.pdsStoreEntry table i m) where
  pds := pdsStoreEntry_pds h.pds table i m
  base j := by rw [State.get_of_regs (pdsStoreEntry_regs u table i m), State.get_of_regs (pdsStoreEntry_regs s table i m), h.base]
  top j := by rw [State.get_of_regs (pdsStoreEntry_regs u table i m), State.get_of_regs (pdsStoreEntry_regs s table i m), h.top]

theorem SamePds.stores (h : SamePds s u) (q : List (Nat × Nat × Nat)) :
    SamePds (q.foldl (fun s e => s.pdsStoreEntry e.1 e.2.1 e.2.2) s) (q.foldl (fun s e => s.pdsStoreEntry e.1 e.2.1 e.2.2) u) := by
  induction q generalizing s u with
  | nil => exact h
  | cons e q ih => exact ih (h.store e.1 e.2.1 e.2.2)

/-- The registers of the window and of the service's state are none of the regions. -/
def pdsAside (r : RegSpec) : Bool := free R.PDS_RGN_BASE r && free R.PDS_RGN_TOP r

theorem SamePds.put {f : Fld} (hf : pdsAside f.reg = true) (s : State) (v i j : Nat) : SamePds s (s.put f v i j) := by
  simp only [pdsAside, Bool.and_eq_true] at hf
  exact ⟨rfl, fun k => State.get_put_free (g := F.PDS_RGN_BASE_ADDR) _ hf.1 .., fun k => State.get_put_free (g := F.PDS_RGN_TOP_ADDR) _ hf.2 ..⟩

theorem SamePds.setReg {r : RegSpec} (hf : pdsAside r = true) (s : State) (v : Word) (i j : Nat) : SamePds s (s.setReg r v i j) := by
  simp only [pdsAside, Bool.and_eq_true] at hf
  exact ⟨rfl, fun k => State.get_setReg_free (g := F.PDS_RGN_BASE_ADDR) _ hf.1 .., fun k => State.get_setReg_free (g := F.PDS_RGN_TOP_ADDR) _ hf.2 ..⟩

theorem SamePds.symm (h : SamePds s u) : SamePds u s := ⟨h.pds.symm, fun j => (h.base j).symm, fun j => (h.top j).symm⟩

theorem SamePds.apply (h : SamePds s u) : SamePds s.pdsApply u.pdsApply := by
  unfold State.pdsApply
  dsimp only
  rw [h.pds]
  have q := h.stores s.pds.queue
  refine (SamePds.put (by decide) _ 0 0 0).symm.trans (SamePds.trans ?_ (SamePds.put (by decide) _ 0 0 0))
  refine ⟨?_, fun j => q.base j, fun j => q.top j⟩
  show { (List.foldl _ u _).pds with queue := [] } = { (List.foldl _ s _).pds with queue := [] }
  rw [q.pds]

theorem SamePds.slotOk (h : SamePds s u) (i m : Nat) : u.slotOk i m = s.slotOk i m := by
  have group : ∀ g, u.groupOut g = s.groupOut g := fun g => by rw [State.groupOut, State.groupOut, h.pds]
  have template : ∀ t, u.template t = s.template t := fun t => by rw [State.template, State.template, h.pds]
  unfold State.slotOk
  simp only [group, template, h.base, h.top]

theorem SamePds.entryOk (h : SamePds s u) (table i m : Nat) : u.pdsEntryOk table i m = s.pdsEntryOk table i m := by
  unfold State.pdsEntryOk
  split
  · exact h.slotOk i m
  · rfl
  · rfl
  · simp only [h.base, h.top]
  · rfl

theorem SamePds.lensOk (h : SamePds s u) : u.lensOk = s.lensOk := by
  have len : ∀ g, u.groupLen g = s.groupLen g := fun g => by
    unfold State.groupLen State.group State.groupIn State.pslot
    rw [h.pds]
  unfold State.lensOk
  simp only [len]

/-- The image of a WRITE passes its checks (R374 to R379). -/
def State.pdsPasses (s : State) (table i m : Nat) : Bool :=
  (m &&& (2 ^ 192 - 1 - pdsCfgMask table - pdsStateMask table)) == 0 && s.pdsApply.pdsEntryOk table i m
    && (s.pdsApply.pdsStoreEntry table i m).lensOk

theorem SamePds.passes (h : SamePds s u) (table i m : Nat) : u.pdsPasses table i m = s.pdsPasses table i m := by
  unfold State.pdsPasses
  rw [h.apply.entryOk, (h.apply.store table i m).lensOk]

/-- What a WRITE that waits for the next cycle leaves (R374). -/
def State.pdsQueued (s : State) (table i m : Nat) : State :=
  (s.setPds { s.pds with queue := s.pds.queue ++ [(table, i, m)] }).put F.PDS_STAT_PEND (s.pds.queue ++ [(table, i, m)]).length

theorem pdsWrite_eq (s : State) (table i m : Nat) : s.pdsWrite table i m =
    if !s.pdsPasses table i m then (3, s)
    else if !s.pdsRuns then (0, s.pdsStoreEntry table i m)
    else if 64 ≤ s.pds.queue.length then (4, s) else (0, s.pdsQueued table i m) := rfl

theorem pdsWrite_status (s : State) (table i m : Nat) : (s.pdsWrite table i m).1 =
    if s.pdsPasses table i m = false then 3 else if s.pdsRuns = false then 0 else if 64 ≤ s.pds.queue.length then 4 else 0 := by
  rw [pdsWrite_eq]
  cases s.pdsPasses table i m with
  | false => rfl
  | true =>
    cases s.pdsRuns with
    | false => rfl
    | true => by_cases full : 64 ≤ s.pds.queue.length <;> simp [full]

theorem pdsWrite_failed {table i m : Nat} (h : (s.pdsWrite table i m).1 = 3) : s.pdsPasses table i m = false := by
  rw [pdsWrite_status] at h
  by_contra passes
  rw [if_neg passes] at h
  split at h
  · omega
  · split at h <;> omega

theorem pdsWrite_passed {table i m : Nat} (h : (s.pdsWrite table i m).1 = 0) :
    s.pdsPasses table i m = true ∧ (s.pdsRuns = true → s.pds.queue.length < 64) := by
  rw [pdsWrite_status] at h
  cases passes : s.pdsPasses table i m with
  | false => rw [if_pos passes] at h; omega
  | true =>
    refine ⟨rfl, fun runs => ?_⟩
    rw [if_neg (by rw [passes]; decide), if_neg (by rw [runs]; decide)] at h
    split at h <;> omega

/-! ## The acceptance of a command (R373) -/

/-- The number that the data registers hold. -/
def State.pdsImageWritten (s : State) : Nat :=
  ((List.range 6).map fun j => s.reg R.PDS_DATA j).zipIdx.foldl (fun a e => a + e.1.toNat * 2 ^ (32 * e.2)) 0

/-- The command that an accepted write of PDS_CMD makes. -/
def State.pdsCommand (s : State) (w : Word) (host : Nat) : WinCmd :=
  { word := w, index := s.get F.PDS_INDEX_INDEX, data := (List.range 6).map (fun i => s.reg R.PDS_DATA i), host := host }

/-- The window's registers after an accepted write. -/
def State.pdsBusy (s : State) (v : Word) : State := (s.setReg R.PDS_CMD v).put F.PDS_CMD_STAT_BUSY 1

theorem pdsBusy_same (s : State) (v : Word) : SamePds s (s.pdsBusy v) :=
  (SamePds.setReg (by decide) s v 0 0).trans (SamePds.put (by decide) _ 1 0 0)

/-- What a command does when it is accepted: its STATUS and the state. -/
def State.pdsActs (s : State) (op table index m : Nat) : Nat × State :=
  if pdsCheck op table index ≠ 0 then (pdsCheck op table index, s) else if op = 2 then s.pdsWrite table index m else (0, s)

theorem pdsAccept_eq (s : State) (v w : Word) (host : Nat) : (s.setReg R.PDS_CMD v).pdsAccept w host =
    let x := (s.pdsBusy v).pdsActs (getBits w 3 0) (getBits w 6 4) (s.get F.PDS_INDEX_INDEX) s.pdsImageWritten
    x.2.setPds { x.2.pds with cmd := some { s.pdsCommand w host with res := x.1 } } := by
  have index : (s.setReg R.PDS_CMD v).get F.PDS_INDEX_INDEX = s.get F.PDS_INDEX_INDEX := State.get_setReg_free _ (by decide) _ _ _ _ _
  have data : ∀ i, (s.setReg R.PDS_CMD v).reg R.PDS_DATA i = s.reg R.PDS_DATA i := fun i => State.reg_setReg_free _ (by decide) _ _ _ _ _
  unfold State.pdsAccept
  simp only [index, data]
  rfl

/-- A command that the window takes: what its end holds of the service and of the registers of the service. -/
theorem does_pdsAccepted {c : Instr} {h : HostId} {op : Nat} {table : Fin 8} {st : Nat} {P : State → Prop}
    (he : exec c s = finish s (s.rowWrite (hostNum h) R.PDS_CMD 0 0 (word (op + table.val * 16))))
    (ho : s.opens h R.PDS_CMD 0 0 = true) (hb : s.bit F.PDS_CMD_STAT_BUSY = false) (hl : s.loaded = true) (hop : op < 3) (ht : table.val < 5)
    (hi : s.get F.PDS_INDEX_INDEX < pdsEntries table)
    (hx : ∀ v, ∃ u, (if op = 2 then (s.pdsBusy v).pdsWrite table (s.get F.PDS_INDEX_INDEX) s.pdsImageWritten else (0, s.pdsBusy v)) = (st, u) ∧
      ∀ t : State, t.pds = { u.pds with cmd := some { s.pdsCommand (word (op + table.val * 16)) (hostNum h) with res := st } } →
        t.bit F.PDS_CMD_STAT_BUSY = u.bit F.PDS_CMD_STAT_BUSY → t.get F.PDS_STAT_PEND = u.get F.PDS_STAT_PEND → P t) : Does c s P := by
  obtain ⟨v, hv⟩ := posted_idle (s := s) hb R.PDS_CMD 0 0 (word (op + table.val * 16)) (fun u => u.pdsAccept (u.windowWord (word (op + table.val * 16))) (hostNum h))
  have same : (s.setReg R.PDS_CMD v).windowWord (word (op + table.val * 16)) = word (op + table.val * 16) :=
    if_pos ((loaded_setReg (by decide) v 0 0).trans hl)
  rw [same, pdsAccept_eq] at hv
  have opBits : getBits (word (op + table.val * 16)) 3 0 = op := by
    rw [getBits_word]
    omega
  have tblBits : getBits (word (op + table.val * 16)) 6 4 = table.val := by
    rw [getBits_word]
    omega
  have check : pdsCheck op table (s.get F.PDS_INDEX_INDEX) = 0 := by
    unfold pdsCheck
    rw [if_neg (by omega), if_neg (by omega)]
  obtain ⟨u, hu, hp⟩ := hx v
  have acts : (s.pdsBusy v).pdsActs op table (s.get F.PDS_INDEX_INDEX) s.pdsImageWritten = (st, u) := by
    unfold State.pdsActs
    rw [if_neg (not_not.2 check), hu]
  rw [opBits, tblBits, acts] at hv
  refine does_rowWrite he ho hv fun x => hp _ ?_ ?_ ?_
  · exact settled_pds _ _
  · exact settled_bit_free _ _ (by decide) _ _
  · exact settled_get_free _ _ (by decide) _ _

theorem pdsBusy_busy (s : State) (v : Word) : (s.pdsBusy v).bit F.PDS_CMD_STAT_BUSY = true := State.bit_put_one _ (by decide) (by decide) _ _

theorem pdsBusy_runs (s : State) (v : Word) : (s.pdsBusy v).pdsRuns = s.pdsRuns := by
  unfold State.pdsRuns State.pdsBusy
  rw [State.bit_put_free _ (by decide), State.bit, State.bit, State.get_setReg_free _ (by decide)]

/-- What the acceptance of a command of the window leaves. -/
theorem does_pdsCommands {h : HostId} {table : Fin 8} (ho : s.opens h R.PDS_CMD 0 0 = true) (hb : s.bit F.PDS_CMD_STAT_BUSY = false)
    (hl : s.loaded = true) (ht : table.val < 5) (hi : s.get F.PDS_INDEX_INDEX < pdsEntries table) :
    let i := s.get F.PDS_INDEX_INDEX
    let m := s.pdsImageWritten
    (Does (.pdsNop h table) s fun t => ∃ c, t.pds = { s.pds with cmd := some c } ∧ c.res = 0 ∧ t.bit F.PDS_CMD_STAT_BUSY = true) ∧
    (Does (.pdsRead h table) s fun t => ∃ c, t.pds = { s.pds with cmd := some c } ∧ c.res = 0 ∧ c.index = i ∧
      c.word = word (1 + table.val * 16) ∧ t.bit F.PDS_CMD_STAT_BUSY = true) ∧
    ((s.pdsWrite table i m).1 = 0 → s.pdsRuns = false → Does (.pdsWrite h table) s fun t =>
      ∃ c, t.pds = { (s.pdsStoreEntry table i m).pds with cmd := some c } ∧ c.res = 0) ∧
    ((s.pdsWrite table i m).1 = 0 → s.pdsRuns = true → Does (.pdsWrite h table) s fun t =>
      t.get F.PDS_STAT_PEND = s.pds.queue.length + 1 ∧
      ∃ c, t.pds = { s.pds with queue := s.pds.queue ++ [(table.val, i, m)], cmd := some c } ∧ c.res = 0) ∧
    ((s.pdsWrite table i m).1 = 3 → Does (.pdsWrite h table) s fun t => ∃ c, t.pds = { s.pds with cmd := some c } ∧ c.res = 3) := by
  intro i m
  refine ⟨?_, ?_, fun ok idle => ?_, fun ok runs => ?_, fun bad => ?_⟩
  · refine does_pdsAccepted (op := 0) rfl ho hb hl (by decide) ht hi fun v => ⟨_, rfl, fun t pds busy _ => ?_⟩
    exact ⟨_, pds, rfl, busy.trans (pdsBusy_busy s v)⟩
  · refine does_pdsAccepted (op := 1) rfl ho hb hl (by decide) ht hi fun v => ⟨_, rfl, fun t pds busy _ => ?_⟩
    exact ⟨_, pds, rfl, rfl, rfl, busy.trans (pdsBusy_busy s v)⟩
  · obtain ⟨passes, -⟩ := pdsWrite_passed ok
    refine does_pdsAccepted (op := 2) (st := 0) rfl ho hb hl (by decide) ht hi fun v => ⟨(s.pdsBusy v).pdsStoreEntry table i m, ?_, fun t pds _ _ => ?_⟩
    · rw [if_pos rfl, pdsWrite_eq, (pdsBusy_same s v).passes, passes, pdsBusy_runs, idle]
      rfl
    · rw [pdsStoreEntry_pds (pdsBusy_same s v).pds] at pds
      exact ⟨_, pds, rfl⟩
  · obtain ⟨passes, room⟩ := pdsWrite_passed ok
    have room := room runs
    refine does_pdsAccepted (op := 2) (st := 0) rfl ho hb hl (by decide) ht hi fun v => ⟨(s.pdsBusy v).pdsQueued table i m, ?_, fun t pds _ pend => ⟨?_, ?_⟩⟩
    · have full : ¬ 64 ≤ (s.pdsBusy v).pds.queue.length := by rw [(pdsBusy_same s v).pds]; omega
      rw [if_pos rfl, pdsWrite_eq, (pdsBusy_same s v).passes, passes, pdsBusy_runs, runs, if_neg (by decide), if_neg (by decide), if_neg full]
    · rw [pend, State.pdsQueued, State.get_put_same _ _ _ _ _ (by decide), (pdsBusy_same s v).pds, List.length_append]
      exact Nat.mod_eq_of_lt (show s.pds.queue.length + 1 < 2 ^ 7 by omega)
    · have same := (pdsBusy_same s v).pds
      refine ⟨{ s.pdsCommand (word (2 + table.val * 16)) (hostNum h) with res := 0 }, pds.trans ?_, rfl⟩
      simp only [State.pdsQueued, State.put_pds, State.setPds_pds, same, m, i]
  · refine does_pdsAccepted (op := 2) (st := 3) rfl ho hb hl (by decide) ht hi fun v => ⟨s.pdsBusy v, ?_, fun t pds _ _ => ⟨_, pds, rfl⟩⟩
    rw [if_pos rfl, pdsWrite_eq, (pdsBusy_same s v).passes, pdsWrite_failed bad]
    rfl

/-! ## The completion of a command (R373) -/

/-- The six data registers show the words of an image. -/
theorem pdsData_shows (s : State) (v n : Nat) : let t := (List.range n).foldl (fun s i => s.put F.PDS_DATA_DATA ((v >>> (32 * i)) % 2 ^ 32) i) s
    (∀ j < n, t.get F.PDS_DATA_DATA j = v / 2 ^ (32 * j) % 2 ^ 32) ∧ t.pds = s.pds := by
  induction n with
  | zero => exact ⟨nofun, rfl⟩
  | succ n ih =>
    obtain ⟨words, pds⟩ := ih
    simp only [List.range_succ, List.foldl_append, List.foldl_cons, List.foldl_nil]
    refine ⟨fun j hj => ?_, (State.put_pds ..).trans pds⟩
    by_cases last : j = n
    · subst last
      rw [State.get_put_fits _ (by decide) (show (v >>> (32 * j)) % 2 ^ 32 < 2 ^ 32 from Nat.mod_lt _ (by decide)), Nat.shiftRight_eq_div_pow]
    · have off : R.PDS_DATA.off j 0 ≠ R.PDS_DATA.off n 0 := by
        simp only [RegSpec.off_eq, show R.PDS_DATA.rowStride = 4 from rfl]
        omega
      rw [State.get_put_other _ F.PDS_DATA_DATA F.PDS_DATA_DATA _ _ _ _ _ off]
      exact words j (by omega)

/-- What a READ loads. -/
def State.pdsLoads (s : State) (c : WinCmd) : State :=
  if c.res = 0 ∧ getBits c.word 3 0 = 1 then
    (List.range 6).foldl (fun t i => t.put F.PDS_DATA_DATA ((s.pdsImage (getBits c.word 6 4) c.index >>> (32 * i)) % 2 ^ 32) i) s
  else s

theorem pdsLoads_pds (s : State) (c : WinCmd) : (s.pdsLoads c).pds = s.pds := by
  unfold State.pdsLoads
  split
  · exact (pdsData_shows s _ 6).2
  · rfl

/-- The end of a command that has reported `st`. -/
def State.pdsDone (s : State) (st : Nat) : State :=
  (((s.setPds { s.pds with cmd := none }).put F.PDS_CMD_STAT_STATUS st).put F.PDS_CMD_STAT_BUSY 0).evt F.PDS_EVT_CMD_DONE

theorem pdsComplete_eq {c : WinCmd} (hc : s.pds.cmd = some c) : s.pdsComplete = (s.pdsLoads c).pdsDone c.res := by
  unfold State.pdsComplete
  rw [hc]
  rfl

theorem pdsDone_shows (u : State) (st : Nat) : (u.pdsDone st).get F.PDS_CMD_STAT_STATUS = st % 8 ∧
    (u.pdsDone st).bit F.PDS_CMD_STAT_BUSY = false ∧ (u.pdsDone st).bit F.PDS_EVT_CMD_DONE = true ∧
    (u.pdsDone st).pds = { u.pds with cmd := none } ∧ ∀ j, (u.pdsDone st).get F.PDS_DATA_DATA j = u.get F.PDS_DATA_DATA j := by
  unfold State.pdsDone
  generalize hv : u.setPds { u.pds with cmd := none } = v
  have regs : v.regs = u.regs := by rw [← hv]; rfl
  have pds : v.pds = { u.pds with cmd := none } := by rw [← hv]; rfl
  refine ⟨?_, ?_, State.bit_evt_same _ _ _ _ (by decide) (by decide), ?_, fun j => ?_⟩
  · rw [State.get_evt_free _ (by decide), State.get_put_beside _ (by decide)]
    exact State.get_put_same _ _ _ _ _ (by decide)
  · rw [State.bit_evt_free _ (by decide)]
    exact State.bit_put_zero _ (by decide) _ _
  · rw [State.evt_pds, State.put_pds, State.put_pds, pds]
  · rw [State.get_evt_free _ (by decide), State.get_put_free _ (by decide), State.get_put_free _ (by decide), State.get_of_regs regs]

theorem does_pdsCmdComplete {c : WinCmd} (hc : s.pds.cmd = some c) : Does .pdsCmdComplete s fun t => t.pds = { s.pds with cmd := none } ∧
    t.get F.PDS_CMD_STAT_STATUS = c.res % 8 ∧ t.bit F.PDS_CMD_STAT_BUSY = false ∧ t.bit F.PDS_EVT_CMD_DONE = true ∧
    (c.res = 0 → getBits c.word 3 0 = 1 → ∀ j < 6,
      t.get F.PDS_DATA_DATA j = s.pdsImage (getBits c.word 6 4) c.index / 2 ^ (32 * j) % 2 ^ 32) := by
  obtain ⟨status, busy, done, pds, data⟩ := pdsDone_shows (s.pdsLoads c) c.res
  refine does_of (u := s.pdsComplete) rfl ?_
  rw [pdsComplete_eq hc]
  refine ⟨(settled_pds _ _).trans (by rw [pds, pdsLoads_pds]), ?_, ?_, ?_, fun ok read j hj => ?_⟩
  · exact (settled_get_free _ _ (by decide) _ _).trans status
  · exact (settled_bit_free _ _ (by decide) _ _).trans busy
  · exact (settled_bit_free _ _ (by decide) _ _).trans done
  · have apart : ∀ i < 6, ¬ pbaOff (R.PDS_DATA.off i 0) := fun i hi => not_pba (by decide) ⟨hi, Nat.one_pos⟩
    refine (settled_get _ _ _ _ _ (apart j hj)).trans ((data j).trans ?_)
    rw [State.pdsLoads, if_pos ⟨ok, read⟩]
    exact (pdsData_shows s _ 6).1 j hj

/-- Settles O49: what a WRITE comes to does not depend on the window's own registers, and a completed READ loads its image. -/
theorem processDataWindow : Obligations.ProcessDataWindow :=
  ⟨fun _ _ _ ho hb hl ht hi => does_pdsCommands ho hb hl ht hi, fun _ _ hc => does_pdsCmdComplete hc⟩

end Sys2Proof.Machine
end

section
set_option Elab.async false
/-! PROOFS. One microword on one engine (04_tin_parse_engines.md R117 to R126). -/

namespace Sys2Proof.Machine

variable {s : State}

/-! ## Bits of a PRV (R124) -/

theorem prvBits_testBit (p : BitVec 256) (hi lo k : Nat) : (prvBits p hi lo).testBit k = (decide (k < hi + 1 - lo) && p.getLsbD (lo + k)) := by
  rw [prvBits, Nat.testBit_mod_two_pow, Nat.testBit_shiftRight]
  rfl

theorem prvSet_getLsbD (p : BitVec 256) {hi lo i : Nat} (v : Nat) (hi' : i < 256) :
    (prvSet p hi lo v).getLsbD i = if lo ≤ i ∧ i ≤ hi then v.testBit (i - lo) else p.getLsbD i := by
  have mask : (BitVec.ofNat 256 ((2 ^ (hi + 1 - lo) - 1) <<< lo)).getLsbD i = decide (lo ≤ i ∧ i ≤ hi) := by
    rw [BitVec.getLsbD_ofNat, Nat.testBit_shiftLeft, Nat.testBit_two_pow_sub_one, decide_eq_true hi', Bool.true_and]
    by_cases h : lo ≤ i
    · simp only [ge_iff_le, h, decide_true, Bool.true_and, true_and, decide_eq_decide]
      omega
    · simp [h]
  have value : (BitVec.ofNat 256 (v <<< lo)).getLsbD i = (decide (lo ≤ i) && v.testBit (i - lo)) := by
    rw [BitVec.getLsbD_ofNat, Nat.testBit_shiftLeft, decide_eq_true hi', Bool.true_and]
  unfold prvSet
  dsimp only
  rw [BitVec.getLsbD_or, BitVec.getLsbD_and, BitVec.getLsbD_and, BitVec.getLsbD_not, mask, value, decide_eq_true hi']
  by_cases h : lo ≤ i ∧ i ≤ hi
  · simp [h]
  · simp [h]

theorem prvBits_prvSet_same (p : BitVec 256) {hi lo : Nat} (v : Nat) (hh : hi < 256) : prvBits (prvSet p hi lo v) hi lo = v % 2 ^ (hi + 1 - lo) := by
  refine Nat.eq_of_testBit_eq fun k => ?_
  rw [prvBits_testBit, Nat.testBit_mod_two_pow]
  by_cases h : k < hi + 1 - lo
  · rw [prvSet_getLsbD p v (by omega), if_pos (by omega), Nat.add_sub_cancel_left]
  · simp [h]

theorem prvBits_prvSet_other (p : BitVec 256) {hi lo hi' lo' : Nat} (v : Nat) (hh' : hi' < 256) (ne : hi' < lo ∨ hi < lo') :
    prvBits (prvSet p hi lo v) hi' lo' = prvBits p hi' lo' := by
  refine Nat.eq_of_testBit_eq fun k => ?_
  rw [prvBits_testBit, prvBits_testBit]
  by_cases h : k < hi' + 1 - lo'
  · rw [prvSet_getLsbD p v (by omega), if_neg (by omega)]
  · simp [h]

/-- The bits that a program may store are those that the device does not own. -/
theorem prvMask_owned {i : Nat} (h : prvOwned i = true) : prvMask.getLsbD i = false := by
  by_cases hi : i < 256
  · have all : ∀ k < 256, prvOwned k = true → prvMask.getLsbD k = false := by decide +kernel
    exact all i hi h
  · exact BitVec.getLsbD_of_ge _ _ (by omega)

theorem prvStore_owned (p : BitVec 256) (hi lo v : Nat) {i : Nat} (h : prvOwned i = true) : (prvStore p hi lo v).getLsbD i = p.getLsbD i := by
  by_cases hi' : i < 256
  · rw [prvStore, BitVec.getLsbD_or, BitVec.getLsbD_and, BitVec.getLsbD_and, BitVec.getLsbD_not, prvMask_owned h, decide_eq_true hi',
      Bool.and_false, Bool.or_false, Bool.not_false, Bool.true_and, Bool.and_true]
  · rw [BitVec.getLsbD_of_ge _ _ (by omega), BitVec.getLsbD_of_ge _ _ (by omega)]

/-! ## What every microword keeps (R117, R124) -/

theorem uwWrites_keeps (u : BitVec 96) (x : Engine) (v : Nat) : (uwWrites u x v).cur ≤ 127 ∧ (uwWrites u x v).win = x.win ∧
    ∀ i, prvOwned i = true → (uwWrites u x v).prv.getLsbD i = x.prv.getLsbD i := by
  refine ⟨min_le_right _ _, rfl, fun i hi => ?_⟩
  by_cases store : uwPst u = 1
  · rw [uwWrites, if_pos store]
    exact prvStore_owned _ _ _ _ hi
  · rw [uwWrites, if_neg store]

/-! ## What stops a parse (R119 to R121) -/

/-- An engine that has counted the word that it is about to execute. -/
abbrev Engine.counted (x : Engine) : Engine := { x with count := x.count + 1 }

theorem uwExec_bad {u : BitVec 96} {x : Engine} (h : (badStatic u || badControl u x) = true) :
    uwExec u x = .stop x.counted (if depthFault u x && Config.depthWins u then 1 else 6) := if_pos h

theorem uwExec_deep {u : BitVec 96} {x : Engine} (hs : badStatic u = false) (hc : badControl u x = false) (hd : depthFault u x = true) :
    uwExec u x = .stop x.counted 1 := by
  unfold uwExec
  dsimp only
  rw [if_neg, if_pos]
  · exact hd
  · rw [hs, Bool.false_or]
    exact Bool.eq_false_iff.1 hc

theorem uwExec_fails {u : BitVec 96} {x : Engine} (hs : badStatic u = false) (hc : badControl u x = false) (hd : depthFault u x = false)
    (hb : badDynamic u x (operandX u x) = true) : uwExec u x = .stop x.counted 6 := by
  unfold uwExec
  dsimp only
  rw [if_neg, if_neg, if_pos]
  · exact hb
  · exact Bool.eq_false_iff.1 hd
  · rw [hs, Bool.false_or]
    exact Bool.eq_false_iff.1 hc

/-- Where a lawful word goes on: the result of its BR from what it writes. -/
def uwNext (u : BitVec 96) (x w : Engine) (v : Nat) : UwResult :=
  match uwBr u with
  | 0 => uwGoOn w (x.addr + 1) x.stack
  | 1 => uwGoOn w (uwTgt u) x.stack
  | 2 => uwGoOn w (if condHolds u v then uwTgt u else x.addr + 1) x.stack
  | 3 => uwGoOn w (uwTgt u + v % 16) x.stack
  | 4 => uwGoOn w (uwTgt u) ((x.addr + 1) :: x.stack)
  | 5 => uwGoOn w (x.stack.headD 0) x.stack.tail
  | 6 => .stop w 0
  | _ => .stop w (uwTgt u % 256)

theorem uwExec_lawful {u : BitVec 96} {x : Engine} (hs : badStatic u = false) (hc : badControl u x = false) (hd : depthFault u x = false)
    (hb : badDynamic u x (operandX u x) = false) : uwExec u x = uwNext u x (uwWrites u x.counted (operandX u x)) (operandX u x) := by
  unfold uwExec uwNext
  dsimp only
  rw [if_neg, if_neg, if_neg]
  · rfl
  · exact Bool.eq_false_iff.1 hb
  · exact Bool.eq_false_iff.1 hd
  · rw [hs, Bool.false_or]
    exact Bool.eq_false_iff.1 hc

theorem uwGoOn_limit {w : Engine} (h : w.count = 64) (addr : Nat) (stack : List Nat) : uwGoOn w addr stack = .stop w 5 := if_pos h

theorem uwGoOn_more {w : Engine} (h : w.count ≠ 64) (addr : Nat) (stack : List Nat) :
    uwGoOn w addr stack = .more { w with addr := addr, stack := stack } := if_neg h

theorem uwNext_limit {u : BitVec 96} {x w : Engine} (hw : w.count = 64) (hb : uwBr u < 6) (v : Nat) : uwNext u x w v = .stop w 5 := by
  have kinds : uwBr u = 0 ∨ uwBr u = 1 ∨ uwBr u = 2 ∨ uwBr u = 3 ∨ uwBr u = 4 ∨ uwBr u = 5 := by omega
  rcases kinds with h | h | h | h | h | h
  all_goals rw [uwNext, h]; exact uwGoOn_limit hw _ _

theorem prvFinish_shows (x : Engine) {e code : Nat} (he : e < 48) (hc : code < 256) (hn : x.count ≤ 64) (hl : x.wlen ≤ 64) :
    prvBits (prvFinish x e code) 255 255 = (if code = 0 then 1 else 0) ∧ prvBits (prvFinish x e code) 254 254 = (if code = 0 then 0 else 1) ∧
    prvBits (prvFinish x e code) 253 246 = code ∧ prvBits (prvFinish x e code) 26 21 = e ∧ prvBits (prvFinish x e code) 20 14 = x.count ∧
    prvBits (prvFinish x e code) 13 7 = x.wlen := by
  unfold prvFinish
  simp (disch := decide) only [prvBits_prvSet_other, prvBits_prvSet_same]
  refine ⟨?_, ?_, Nat.mod_eq_of_lt hc, Nat.mod_eq_of_lt (by omega), Nat.mod_eq_of_lt (by omega), Nat.mod_eq_of_lt (by omega)⟩
  · split <;> rfl
  · split <;> rfl

/-- Settles O28: the writes of a word keep the cursor in range and mask the store, and `uwExec` stops for the first of R119 to R121 that holds. -/
theorem microwordLimits : Obligations.MicrowordLimits := by
  refine ⟨uwWrites_keeps, fun u x h => uwExec_bad h, fun u x hs hc hd => uwExec_deep hs hc hd, fun u x hs hc hd hb => uwExec_fails hs hc hd hb,
    fun u x hs hc hd hb hbr hcount => ?_, fun x e code he hc hn hl => prvFinish_shows x he hc hn hl⟩
  have last : x.counted = { x with count := 64 } := by rw [Engine.counted, hcount]
  rw [uwExec_lawful hs hc hd hb, last]
  exact uwNext_limit rfl hbr _

end Sys2Proof.Machine
end

section
set_option Elab.async false
/-! PROOFS. The branches of a microword on its engine (04_tin_parse_engines.md R118, R120, R126). -/

namespace Sys2Proof.Machine

variable {s : State}

/-! ## The parts of the pipelines -/

@[simp] theorem State.engine_setEngine (s : State) (e : Nat) (v : Option Engine) : (s.setEngine e v).engine e = v := tabGet_set_same ..

@[simp] theorem State.pipe_setPipe (s : State) (p : Nat) (v : Pipe) : (s.setPipe p v).pipe p = v := tabGet_set_same ..

theorem State.engine_of_tin {t : State} (h : t.tin.engines = s.tin.engines) (e : Nat) : t.engine e = s.engine e := by
  rw [State.engine, State.engine, h]

theorem State.pipe_of_tin {t : State} (h : t.tin.pipe = s.tin.pipe) (p : Nat) : t.pipe p = s.pipe p := by rw [State.pipe, State.pipe, h]

theorem settled_engine (b t : State) (e : Nat) : (settled b t).engine e = t.engine e := State.engine_of_tin (by rw [settled_tin]) e

theorem settled_pipe (b t : State) (p : Nat) : (settled b t).pipe p = t.pipe p := State.pipe_of_tin (by rw [settled_tin]) p

/-! ## The cycle of an engine -/

theorem engineStep_more {e br : Nat} {u : BitVec 96} {x y : Engine} (h : s.executes e u x) (hb : uwBr u = br) (hx : uwExec u x = .more y) :
    s.engineStep e br none = (s.count 0x42 (e / 16)).setEngine e (some y) := by
  obtain ⟨running, rfl, sound, -⟩ := h
  unfold State.engineStep
  simp only [running, sound, hb, hx, ne_eq, not_true_eq_false, if_false]

theorem engineStep_stop {e br code : Nat} {u : BitVec 96} {x y : Engine} (h : s.executes e u x) (hb : uwBr u = br) (hx : uwExec u x = .stop y code) :
    s.engineStep e br none = (s.count 0x42 (e / 16)).engineStop e y code := by
  obtain ⟨running, rfl, sound, -⟩ := h
  unfold State.engineStep
  simp only [running, sound, hb, hx, ne_eq, not_true_eq_false, if_false]

theorem uwExec_of_executes {e : Nat} {u : BitVec 96} {x : Engine} (h : s.executes e u x) :
    uwExec u x = uwNext u x (uwWrites u x.counted (operandX u x)) (operandX u x) := by
  obtain ⟨-, -, -, static, control, deep, dynamic, -⟩ := h
  exact uwExec_lawful static control deep dynamic

/-- A lawful word that is not the 64th goes on where its BR says. -/
theorem uwGoOn_of_executes {e : Nat} {u : BitVec 96} {x : Engine} (h : s.executes e u x) (addr : Nat) (stack : List Nat) :
    uwGoOn (uwWrites u x.counted (operandX u x)) addr stack = .more { uwWrites u x.counted (operandX u x) with addr := addr, stack := stack } := by
  obtain ⟨-, -, -, -, -, -, -, few⟩ := h
  refine uwGoOn_more (show x.count + 1 ≠ 64 by omega) _ _

/-- What a command leaves whose word goes on. -/
theorem does_goOn {c : Instr} {e br : Nat} {u : BitVec 96} {x y : Engine} (h : s.executes e u x) (hb : uwBr u = br)
    (hc : exec c s = finish s (s.engineStep e br none)) (hx : uwExec u x = .more y) :
    Does c s fun t => t.engine e = some y ∧ s.keepsRegs t [] := by
  refine does_of hc ?_
  rw [engineStep_more h hb hx]
  exact ⟨(settled_engine ..).trans (State.engine_setEngine ..), settled_keeps _ _ _ (State.keepsRegs_of_eq _ rfl)⟩

/-- What a command leaves whose word ends the parse. -/
theorem does_stop {c : Instr} {e br code : Nat} {u : BitVec 96} {x y : Engine} (h : s.executes e u x) (hb : uwBr u = br)
    (hc : exec c s = finish s (s.engineStep e br none)) (hx : uwExec u x = .stop y code) (hf : y.fid = x.fid) (hp : y.pipe = x.pipe) :
    Does c s fun t => t.engine e = none ∧ s.keepsRegs t [] ∧
      (t.pipe x.pipe).rob = (s.pipe x.pipe).rob.map fun r => if r.fid = x.fid then { r with prv := some (prvFinish y e code) } else r := by
  refine does_of hc ?_
  rw [engineStep_stop h hb hx]
  refine ⟨(settled_engine ..).trans (State.engine_setEngine ..), settled_keeps _ _ _ (State.keepsRegs_of_eq _ rfl), ?_⟩
  have set : ∀ v e', (((s.count 0x42 (e / 16)).setPipe x.pipe v).setEngine e e' |>.pipe x.pipe) = v := fun v _ => State.pipe_setPipe _ _ v
  rw [settled_pipe, State.engineStop, hf, hp]
  exact congrArg Pipe.rob (set _ _)

/-- Settles O27: a lawful word writes what it writes, and its BR names where the engine goes on or ends its parse. -/
theorem microwordBranches : Obligations.MicrowordBranches := by
  intro s e u x h
  have lawful := uwExec_of_executes h
  have more := uwGoOn_of_executes h
  refine ⟨fun hb => ?_, fun hb => ?_, fun hb => ?_, fun hb => ?_, fun hb => ?_, fun a l hb hs => ?_, fun hb => ?_, fun hb => ?_⟩
  · exact does_goOn h hb rfl (by rw [lawful, uwNext, hb]; exact more _ _)
  · exact does_goOn h hb rfl (by rw [lawful, uwNext, hb]; exact more _ _)
  · exact does_goOn h hb rfl (by rw [lawful, uwNext, hb]; exact more _ _)
  · exact does_goOn h hb rfl (by rw [lawful, uwNext, hb]; exact more _ _)
  · exact does_goOn h hb rfl (by rw [lawful, uwNext, hb]; exact more _ _)
  · exact does_goOn h hb rfl (by rw [lawful, uwNext, hb, hs]; exact more _ _)
  · exact does_stop h hb rfl (by rw [lawful, uwNext, hb]; rfl) rfl rfl
  · exact does_stop h hb rfl (by rw [lawful, uwNext, hb]; rfl) rfl rfl

end Sys2Proof.Machine
end

section
set_option Elab.async false
/-! PROOFS. The pipelines around the engines: dispatch, retirement, the scrub of the microcode store and its window (04_tin_parse_engines.md R112,
R114, R131, R133). -/

namespace Sys2Proof.Machine

variable {s : State}

/-! ## Dispatch (R112) -/

theorem dispatch_alone {w : WqEntry} {rest : List WqEntry} (h0 : (s.pipe 0).wq = w :: rest) (h1 : (s.pipe 1).wq = [])
    (hr : (s.pipe 0).rob.length < 64) : s.dispatch = (s.grant 0).2 := by
  have r0 : s.pipeReady 0 = true := by simp [State.pipeReady, h0, hr]
  have r1 : s.pipeReady 1 = false := by simp [State.pipeReady, h1]
  simp [State.dispatch, r0, r1]

/-- The grant of a window to an engine leaves its pipeline and the engine as R112 says. -/
theorem grant_tin {pl e : Nat} {w : WqEntry} {rest : List WqEntry} (hq : (s.pipe pl).wq = w :: rest) (hu : s.underTest 1 = false)
    (he : rotFind 48 s.tin.ptr s.engineIdle = some e) :
    (s.grant pl).2.tin.pipe = tabSet {} s.tin.pipe pl
      { s.pipe pl with wq := rest, rob := (s.pipe pl).rob ++ [{ fid := w.fid, port := w.port, prv := none }] } ∧
    (s.grant pl).2.tin.engines = tabSet none s.tin.engines e (some (engineStart w.fid pl w.win w.win.length (s.entryAddr w.port))) := by
  unfold State.grant
  rw [hq, he]
  dsimp only
  rw [hu, if_neg Bool.false_ne_true]
  unfold State.pipeShow
  rw [show ∀ (t : State) n m, (t.count n m).tin = t.tin from fun _ _ _ => rfl, State.put_tin, State.put_tin, State.modFrame_tin]
  exact ⟨rfl, rfl⟩

theorem does_dispatch {w : WqEntry} {rest : List WqEntry} {e : Nat} (h0 : (s.pipe 0).wq = w :: rest) (h1 : (s.pipe 1).wq = [])
    (hr : (s.pipe 0).rob.length < 64) (hu : s.underTest 1 = false) (he : rotFind 48 s.tin.ptr s.engineIdle = some e) :
    Does .dispatch s fun t => (t.pipe 0).wq = rest ∧ (t.pipe 0).rob = (s.pipe 0).rob ++ [{ fid := w.fid, port := w.port, prv := none }] ∧
      t.engine e = some (engineStart w.fid 0 w.win w.win.length (s.entryAddr w.port)) := by
  obtain ⟨pipes, engines⟩ := grant_tin h0 hu he
  have pipe : (s.grant 0).2.pipe 0 = { s.pipe 0 with wq := rest, rob := (s.pipe 0).rob ++ [{ fid := w.fid, port := w.port, prv := none }] } := by
    rw [State.pipe, pipes, tabGet_set_same]
  have engine : (s.grant 0).2.engine e = some (engineStart w.fid 0 w.win w.win.length (s.entryAddr w.port)) := by
    rw [State.engine, engines, tabGet_set_same]
  refine does_of (u := s.dispatch) rfl ?_
  rw [dispatch_alone h0 h1 hr, settled_pipe, settled_engine, pipe, engine]
  exact ⟨rfl, rfl, rfl⟩

/-! ## Retirement (R114) -/

theorem slowPath_tin (pl k : Nat) (prv : BitVec 256) : (s.slowPath pl k prv).tin = s.tin := by
  unfold State.slowPath
  dsimp only
  rw [State.modFrame_tin]
  exact ((State.evtIf_tin ..).trans (State.evtIf_tin ..)).trans (State.inc_tin ..)

theorem traceCapture_tin (port : Nat) (prv : BitVec 256) : (s.traceCapture port prv).tin = s.tin := by
  have words : ∀ l : List Nat, (l.foldl (fun s k => State.put s F.TIN_TRACE_PRV_PRV ((prv.toNat >>> (32 * k)) % 2 ^ 32) k) s).tin = s.tin :=
    fun l => List.foldlRecOn (motive := fun t : State => t.tin = s.tin) l _ rfl fun t ht k _ => ht
  unfold State.traceCapture
  split
  · rw [State.evt_tin, State.put_tin, words]
  · rfl

/-- The frame of a retiring PRV, on the slow path where the PRV says so. -/
def State.retired (s : State) (pl k : Nat) (prv : BitVec 256) : State :=
  let live : Bool := match s.frame k with | some f => f.stage == .parsing | none => false
  let s := s.modFrame k (fun f => if live then { f with stage := .parsed, prv := prv } else f)
  if live && prvBits prv 254 254 == 1 then s.slowPath pl k prv else s

theorem retired_tin (pl k : Nat) (prv : BitVec 256) : (s.retired pl k prv).tin = s.tin := by
  unfold State.retired
  extract_lets live u
  split
  · exact (slowPath_tin ..).trans (State.modFrame_tin ..)
  · exact State.modFrame_tin ..

theorem retire_eq {pl k port : Nat} {prv : BitVec 256} {rest : List RobEntry}
    (h : (s.pipe pl).rob = { fid := k, port := port, prv := some prv } :: rest) : s.retire pl =
      (let t := (s.retired pl k prv).traceCapture port prv
       (t.setPipe pl { t.pipe pl with rob := rest, st4 := (t.pipe pl).st4 ++ [k] }).pipeShow pl) := by
  unfold State.retire
  dsimp only
  rw [h]
  rfl

theorem pipeShow_pipe (pl p : Nat) : (s.pipeShow pl).pipe p = s.pipe p := rfl

theorem does_prvRetire {pl : Fin 2} {k port : Nat} {prv : BitVec 256} {rest : List RobEntry}
    (h : (s.pipe pl).rob = { fid := k, port := port, prv := some prv } :: rest) :
    Does (.prvRetire pl) s fun t => t.pipe pl = { s.pipe pl with rob := rest, st4 := (s.pipe pl).st4 ++ [k] } := by
  refine does_of (u := s.retire pl) rfl ?_
  have same : ((s.retired pl k prv).traceCapture port prv).pipe pl = s.pipe pl := State.pipe_of_tin (by rw [traceCapture_tin, retired_tin]) _
  rw [settled_pipe, retire_eq h]
  dsimp only
  rw [same]
  exact (pipeShow_pipe ..).trans (State.pipe_setPipe ..)

/-! ## The microcode store (R58, R131) -/

/-- What a word that has not been written since a loss reads as. -/
def State.uwordRest (s : State) (c a : Nat) : UWord :=
  match s.tin.lost with
  | none => {}
  | some n => { uw := Config.freeValue 96 (n + 4096 * c + a), chk := Config.freeValue 8 (n + 12288 + 4096 * c + a) }

theorem State.uword_eq (h : s.underTest 1 = false) (c a : Nat) : s.uword c a = tabGet (s.uwordRest c a) s.tin.store (4096 * c + a) := by
  unfold State.uword tabGet State.uwordRest
  rw [if_neg (by simp [h])]
  cases tabFind? (4096 * c + a) s.tin.store <;> cases s.tin.lost <;> rfl

theorem State.setUword_regs (s : State) (c a : Nat) (w : UWord) : (s.setUword c a w).regs = s.regs := by
  unfold State.setUword
  split
  · rfl
  · split <;> rfl

theorem State.setUword_lost (s : State) (c a : Nat) (w : UWord) : (s.setUword c a w).tin.lost = s.tin.lost := by
  unfold State.setUword
  split
  · rfl
  · split <;> rename_i e <;> simp only [e]

theorem State.setUword_scrub (s : State) (c a : Nat) (w : UWord) : (s.setUword c a w).tin.scrub = s.tin.scrub := by
  unfold State.setUword
  split
  · rfl
  · split <;> rfl

theorem State.setUword_store (h : s.underTest 1 = false) (c a : Nat) (w : UWord) : (s.setUword c a w).tin.store =
    if s.tin.lost.isNone then tabSet {} s.tin.store (4096 * c + a) w else tabInsert (4096 * c + a) w s.tin.store := by
  unfold State.setUword
  rw [if_neg (by simp [h])]
  split <;> rename_i e <;> simp [e]

theorem State.uwordRest_setUword (s : State) (c a : Nat) (w : UWord) (c' a' : Nat) : (s.setUword c a w).uwordRest c' a' = s.uwordRest c' a' := by
  rw [State.uwordRest, State.setUword_lost, State.uwordRest]

theorem State.uword_setUword_same (h : s.underTest 1 = false) (c a : Nat) (w : UWord) : (s.setUword c a w).uword c a = w := by
  rw [State.uword_eq (by rwa [State.underTest_of_regs (s.setUword_regs c a w)]), State.setUword_store h]
  unfold State.uwordRest
  rw [State.setUword_lost]
  cases s.tin.lost with
  | none => exact tabGet_set_same ..
  | some n => simp [tabGet, tabFind_insert_same]

theorem State.uword_setUword_other {c a c' a' : Nat} (ne : 4096 * c' + a' ≠ 4096 * c + a) (h : s.underTest 1 = false) (w : UWord) :
    (s.setUword c a w).uword c' a' = s.uword c' a' := by
  rw [State.uword_eq (by rwa [State.underTest_of_regs (s.setUword_regs c a w)]), State.uword_eq h, State.setUword_store h,
    State.uwordRest_setUword]
  split
  · exact tabGet_set_other _ _ _ ne _
  · rw [tabGet, tabFind_insert_other ne]
    rfl

theorem State.uword_of_parts {t : State} (hu : t.underTest 1 = s.underTest 1) (hs : t.tin.store = s.tin.store) (hl : t.tin.lost = s.tin.lost)
    (c a : Nat) : t.uword c a = s.uword c a := by
  rw [State.uword, State.uword, hu, hs, hl]

theorem State.uword_congr {t : State} (hu : t.underTest 1 = s.underTest 1) (ht : t.tin = s.tin) (c a : Nat) : t.uword c a = s.uword c a :=
  State.uword_of_parts hu (by rw [ht]) (by rw [ht]) c a

/-! ## The scrub (R131) -/

theorem scrubWord_sound {c : Nat} (h : uwDecode (s.uword c s.tin.scrub) = .sound) : s.scrubWord c none = s := by
  unfold State.scrubWord
  dsimp only
  rw [h]

theorem scrubWord_single {c : Nat} {w : UWord} (h : uwDecode (s.uword c s.tin.scrub) = .single w) :
    s.scrubWord c none = (s.setUword c s.tin.scrub w).uwCorrected c s.tin.scrub := by
  unfold State.scrubWord
  dsimp only
  rw [h]

theorem underTest_uwCorrected (c a m : Nat) : (s.uwCorrected c a).underTest m = s.underTest m := by
  have keep : ∀ f : Fld, f.reg = R.GLB_MNT_STAT → (s.uwCorrected c a).get f = s.get f := fun f hf => by
    unfold State.uwCorrected
    rw [State.get_evt_free _ (by rw [hf]; decide), State.get_put_free _ (by rw [hf]; decide), State.get_put_free _ (by rw [hf]; decide),
      State.get_put_free _ (by rw [hf]; decide), State.get_inc_free _ (by rw [hf]; decide)]
  rw [State.underTest, State.underTest, State.bit, State.bit, keep _ rfl, keep _ rfl, keep _ rfl]

theorem uwCorrected_tin (c a : Nat) : (s.uwCorrected c a).tin = s.tin := by
  unfold State.uwCorrected
  rw [State.evt_tin, State.put_tin, State.put_tin, State.put_tin, State.inc_tin]

theorem eccCorr_uwCorrected (c a : Nat) : (s.uwCorrected c a).bit F.TIN_EVT_ECC_CORR = true := by
  unfold State.uwCorrected
  exact State.bit_evt_same _ _ _ _ (by decide) (by decide)

/-- The clusters beyond the first are sound, so the scrub of a state ends with that of the first. -/
theorem scrubStep_first {t : State} (hm : s.mode ≠ modePEWTER) (ht : s.scrubWord 0 none = t)
    (h1 : uwDecode (t.uword 1 t.tin.scrub) = .sound) (h2 : uwDecode (t.uword 2 t.tin.scrub) = .sound) :
    s.scrubStep none = { t with tin := { t.tin with scrub := (t.tin.scrub + 1) % 4096 } } := by
  unfold State.scrubStep
  rw [if_neg hm]
  dsimp only [List.foldl_cons, List.foldl_nil]
  rw [ht, scrubWord_sound h1, scrubWord_sound h2]

theorem does_ucodeScrubStep_sound (hm : s.mode ≠ modePEWTER) (h : ∀ c < 3, uwDecode (s.uword c s.tin.scrub) = .sound) :
    Does (.ucodeScrubStep none) s fun t => t = settled s { s with tin := { s.tin with scrub := (s.tin.scrub + 1) % 4096 } } := by
  refine does_of (u := s.scrubStep none) rfl ?_
  rw [scrubStep_first hm (scrubWord_sound (h 0 (by decide))) (h 1 (by decide)) (h 2 (by decide))]

/-- The place of the scrub is all that its advance changes. -/
theorem settled_scrubAt (b t : State) (n : Nat) :
    (∀ c a, (settled b { t with tin := { t.tin with scrub := n } }).uword c a = t.uword c a) ∧
    (settled b { t with tin := { t.tin with scrub := n } }).tin.scrub = n ∧
    (settled b { t with tin := { t.tin with scrub := n } }).bit F.TIN_EVT_ECC_CORR = t.bit F.TIN_EVT_ECC_CORR :=
  ⟨State.uword_of_parts ((settled_underTest ..).trans (State.underTest_of_regs rfl 1)) (by rw [settled_tin]) (by rw [settled_tin]),
    by rw [settled_tin], (settled_bit_free _ _ (by decide) _ _).trans (State.bit_of_regs rfl _ _ _)⟩

theorem does_ucodeScrubStep_single {w : UWord} (hm : s.mode ≠ modePEWTER) (hu : s.underTest 1 = false)
    (h : uwDecode (s.uword 0 s.tin.scrub) = .single w) (h' : ∀ c < 3, 0 < c → uwDecode (s.uword c s.tin.scrub) = .sound) :
    Does (.ucodeScrubStep none) s fun t => t.uword 0 s.tin.scrub = w ∧ t.tin.scrub = (s.tin.scrub + 1) % 4096 ∧
      t.bit F.TIN_EVT_ECC_CORR = true := by
  have test : ((s.setUword 0 s.tin.scrub w).uwCorrected 0 s.tin.scrub).underTest 1 = (s.setUword 0 s.tin.scrub w).underTest 1 :=
    underTest_uwCorrected ..
  have scrub : ((s.setUword 0 s.tin.scrub w).uwCorrected 0 s.tin.scrub).tin.scrub = s.tin.scrub := by rw [uwCorrected_tin, State.setUword_scrub]
  have words : ∀ c a, ((s.setUword 0 s.tin.scrub w).uwCorrected 0 s.tin.scrub).uword c a = (s.setUword 0 s.tin.scrub w).uword c a :=
    State.uword_congr test (uwCorrected_tin ..)
  have event : ((s.setUword 0 s.tin.scrub w).uwCorrected 0 s.tin.scrub).bit F.TIN_EVT_ECC_CORR = true := eccCorr_uwCorrected ..
  have step := fun h1 h2 => scrubStep_first hm (scrubWord_single h) h1 h2
  generalize (s.setUword 0 s.tin.scrub w).uwCorrected 0 s.tin.scrub = t at *
  have sound : ∀ c < 3, 0 < c → uwDecode (t.uword c t.tin.scrub) = .sound := fun c hc pos => by
    rw [scrub, words, State.uword_setUword_other (by omega) hu, h' c hc pos]
  obtain ⟨word, next, corr⟩ := settled_scrubAt s t ((t.tin.scrub + 1) % 4096)
  refine does_of (u := s.scrubStep none) rfl ?_
  rw [step (sound 1 (by decide) (by decide)) (sound 2 (by decide) (by decide))]
  exact ⟨(word ..).trans ((words ..).trans (State.uword_setUword_same hu ..)), next.trans (by rw [scrub]), corr.trans event⟩

/-! ## The check code (R131) -/

theorem foldl_bits_lt (p : Nat → Bool) (n : Nat) : (List.range n).foldl (fun a i => a + (if p i then 2 ^ i else 0)) 0 < 2 ^ n := by
  induction n with
  | zero => exact Nat.zero_lt_one
  | succ n ih =>
    rw [List.range_succ, List.foldl_append, List.foldl_cons, List.foldl_nil, Nat.pow_succ]
    split <;> omega

theorem uwCheck7_lt (u : BitVec 96) : uwCheck7 u < 128 := by
  unfold uwCheck7
  exact foldl_bits_lt (uwHamming u) 7

theorem parityN_check : ∀ c < 128, ∀ b : Bool, parityN 8 (c + if b then 128 else 0) = xor (parityN 7 c) b := by decide +kernel

/-- A word with its own check bits is sound. -/
theorem uwDecode_uwCheck (u : BitVec 96) : uwDecode { uw := u, chk := uwCheck u } = .sound := by
  have lt := uwCheck7_lt u
  have chk : (uwCheck u).toNat = uwCheck7 u + if xor (parityN 96 u.toNat) (parityN 7 (uwCheck7 u)) then 128 else 0 := by
    unfold uwCheck
    rw [BitVec.toNat_ofNat]
    split <;> omega
  have low : (uwCheck u).toNat % 128 = uwCheck7 u := by
    rw [chk]
    split <;> omega
  have even : xor (parityN 96 u.toNat) (parityN 8 (uwCheck u).toNat) = false := by
    rw [chk, parityN_check _ lt]
    cases parityN 96 u.toNat <;> cases parityN 7 (uwCheck7 u) <;> rfl
  unfold uwDecode
  dsimp only
  rw [low, even, Nat.xor_self, if_neg Bool.false_ne_true, if_pos rfl]

/-! ## The microcode window (R133) -/

/-- The microword with one of its three words replaced. -/
def uwMerge (u : BitVec 96) (part : Nat) (d : Word) : BitVec 96 :=
  (u &&& ~~~ BitVec.ofNat 96 ((2 ^ 32 - 1) <<< (32 * part))) ||| BitVec.ofNat 96 (d.toNat <<< (32 * part))

theorem uwMerge_getLsbD (u : BitVec 96) (part : Nat) (d : Word) {k : Nat} (hk : k < 96) :
    (uwMerge u part d).getLsbD k = if 32 * part ≤ k ∧ k < 32 * part + 32 then d.getLsbD (k - 32 * part) else u.getLsbD k := by
  have value : (BitVec.ofNat 96 (d.toNat <<< (32 * part))).getLsbD k = (decide (32 * part ≤ k) && d.getLsbD (k - 32 * part)) := by
    rw [BitVec.getLsbD_ofNat, Nat.testBit_shiftLeft, decide_eq_true hk, Bool.true_and]
    rfl
  have mask : (BitVec.ofNat 96 ((2 ^ 32 - 1) <<< (32 * part))).getLsbD k = decide (32 * part ≤ k ∧ k < 32 * part + 32) := by
    rw [BitVec.getLsbD_ofNat, Nat.testBit_shiftLeft, Nat.testBit_two_pow_sub_one, decide_eq_true hk, Bool.true_and]
    by_cases h : 32 * part ≤ k
    · simp only [ge_iff_le, h, decide_true, Bool.true_and, true_and, decide_eq_decide]
      omega
    · simp [h]
  rw [uwMerge, BitVec.getLsbD_or, BitVec.getLsbD_and, BitVec.getLsbD_not, mask, value, decide_eq_true hk]
  by_cases lo : 32 * part ≤ k
  · by_cases hi : k < 32 * part + 32
    · simp [lo, hi]
    · have zero : d.getLsbD (k - 32 * part) = false := BitVec.getLsbD_of_ge _ _ (by omega)
      simp [lo, hi, zero]
  · simp [lo]

theorem uwPart_getLsbD (w : UWord) {part : Nat} (hp : part < 3) {k : Nat} (hk : k < 32) :
    (uwPart w part).getLsbD k = w.uw.getLsbD (32 * part + k) := by
  rw [uwPart, if_neg (by omega), BitVec.getLsbD_ofNat, Nat.testBit_shiftRight, decide_eq_true hk, Bool.true_and]
  rfl

theorem uwPart_uwMerge {w : UWord} {part q : Nat} {d : Word} {c : BitVec 8} (hq : q < 3) :
    uwPart { uw := uwMerge w.uw part d, chk := c } q = if q = part then d else uwPart w q := by
  refine BitVec.eq_of_getLsbD_eq fun k hk => ?_
  rw [uwPart_getLsbD _ hq hk, uwMerge_getLsbD _ _ _ (by omega)]
  by_cases h : q = part
  · rw [if_pos h, if_pos (by omega)]
    congr 1
    omega
  · rw [if_neg h, if_neg (by omega), uwPart_getLsbD _ hq hk]

theorem uwWrite_eq (c a part : Nat) (d : Word) : s.uwWrite c a part d =
    (s.setUword c a { uw := uwMerge (s.uword c a).uw part d, chk := uwCheck (uwMerge (s.uword c a).uw part d) }).put F.TIN_UCODE_VER_MODIFIED 1 := rfl

theorem mergeBytes_all (old data : Word) : mergeBytes old data 15 = data := by
  have all : beMask 15 = BitVec.allOnes 32 := by decide
  rw [mergeBytes, all, BitVec.not_allOnes, BitVec.and_zero, BitVec.zero_or, BitVec.and_allOnes]

/-- The write of a word of the window in MAINTENANCE: the first one marks the store as dirty (R54, R133). -/
def State.uwLoaded (s : State) (c a part : Nat) (d : Word) : State :=
  if s.bit F.TIN_UCODE_VER_MODIFIED then s.uwWrite c a part d
  else { (s.uwWrite c a part d).evt F.GLB_MODE_STAT_BIST_DIRTY with md := { (s.uwWrite c a part d).md with dirty := true } }

theorem regWrite_uw {host part : Nat} {r : RegSpec} {c a : Nat} {w : Word}
    (hr : part = 0 ∧ r = R.TIN_UW_LO ∨ part = 1 ∧ r = R.TIN_UW_MID ∨ part = 2 ∧ r = R.TIN_UW_HI)
    (hm : s.mode = modeMAINTENANCE) (hu : s.underTest 1 = false) : s.regWrite host r c a 15 w = ([], s.uwLoaded c a part w) := by
  have shut : (s.mode != modeMAINTENANCE) = false := by simp [hm]
  have tin : s.regWrite host r c a 15 w = if s.underTest 1 then actOnly s else if s.closed r c then ([flGATED], s)
      else actOnly (s.uwLoaded c a part (mergeBytes (uwPart (s.uword c a) part) w 15)) := by
    rcases hr with ⟨rfl, rfl⟩ | ⟨rfl, rfl⟩ | ⟨rfl, rfl⟩ <;> rfl
  have opened : s.closed r c = false := by
    have e : s.enabled r c = (s.mode != modeMAINTENANCE) := by rcases hr with ⟨-, rfl⟩ | ⟨-, rfl⟩ | ⟨-, rfl⟩ <;> rfl
    rw [State.closed, e, shut, Bool.and_false]
  rw [tin, hu, opened, mergeBytes_all, if_neg Bool.false_ne_true, if_neg Bool.false_ne_true, actOnly]

/-- What is read of the store after a state of the same store has settled. -/
theorem settled_uword (b t : State) (c a : Nat) : (settled b t).uword c a = t.uword c a := State.uword_congr (settled_underTest ..) (settled_tin ..) c a

theorem settled_uwLoaded (b : State) (hu : s.underTest 1 = false) (c a part : Nat) (d : Word) :
    (settled b (s.uwLoaded c a part d)).uword c a =
      { uw := uwMerge (s.uword c a).uw part d, chk := uwCheck (uwMerge (s.uword c a).uw part d) } ∧
    (settled b (s.uwLoaded c a part d)).bit F.TIN_UCODE_VER_MODIFIED = true := by
  have test : ∀ m, (s.uwWrite c a part d).underTest m = s.underTest m := fun m => by
    rw [uwWrite_eq, State.underTest, State.bit_put_free _ (by decide), State.get_put_free _ (by decide), State.get_put_free _ (by decide)]
    exact State.underTest_of_regs (State.setUword_regs ..) m
  have modified : (s.uwWrite c a part d).bit F.TIN_UCODE_VER_MODIFIED = true := by
    rw [uwWrite_eq]
    exact State.bit_put_one _ (by decide) (by decide) _ _
  have word : (s.uwWrite c a part d).uword c a =
      { uw := uwMerge (s.uword c a).uw part d, chk := uwCheck (uwMerge (s.uword c a).uw part d) } := by
    rw [State.uword_congr (s := s.setUword c a { uw := uwMerge (s.uword c a).uw part d, chk := uwCheck (uwMerge (s.uword c a).uw part d) })
      ((test 1).trans (State.underTest_of_regs (State.setUword_regs ..) 1).symm) rfl, State.uword_setUword_same hu]
  rw [settled_uword, settled_bit_free _ _ (by decide)]
  unfold State.uwLoaded
  generalize s.uwWrite c a part d = t at *
  split
  · exact ⟨word, modified⟩
  · have regs : ({ t.evt F.GLB_MODE_STAT_BIST_DIRTY with md := { t.md with dirty := true } } : State).regs = (t.evt F.GLB_MODE_STAT_BIST_DIRTY).regs := rfl
    refine ⟨(State.uword_congr ?_ (State.evt_tin ..) c a).trans word, ?_⟩
    · refine (State.underTest_of_regs regs 1).trans ?_
      rw [State.underTest, State.bit_evt_free _ (by decide), State.get_evt_free _ (by decide),
        State.get_evt_free _ (by decide)]
      rfl
    · rw [State.bit, State.get_of_regs regs, ← State.bit, State.bit_evt_free _ (by decide), modified]

theorem does_ucodeWindowWrite {h : HostId} {c : Fin 3} {a : Fin 4096} {part : Fin 3} {data : Word}
    (ho : s.opens h (if part.val = 0 then R.TIN_UW_LO else if part.val = 1 then R.TIN_UW_MID else R.TIN_UW_HI) c a = true)
    (hm : s.mode = modeMAINTENANCE) (hu : s.underTest 1 = false) : Does (.ucodeWindowWrite h c a part data) s fun t =>
      uwPart (t.uword c a) part = data ∧ (∀ q < 3, q ≠ part.val → uwPart (t.uword c a) q = uwPart (s.uword c a) q) ∧
      (t.uword c a).chk = uwCheck (t.uword c a).uw ∧ uwDecode (t.uword c a) = .sound ∧ t.bit F.TIN_UCODE_VER_MODIFIED = true := by
  have lt := part.isLt
  have which : part.val = 0 ∨ part.val = 1 ∨ part.val = 2 := by omega
  have reg : ∀ r, r = (if part.val = 0 then R.TIN_UW_LO else if part.val = 1 then R.TIN_UW_MID else R.TIN_UW_HI) →
      (part.val = 0 ∧ r = R.TIN_UW_LO ∨ part.val = 1 ∧ r = R.TIN_UW_MID ∨ part.val = 2 ∧ r = R.TIN_UW_HI) ∧ mirrored r = false := by
    rintro r rfl
    rcases which with e | e | e <;> simp only [e] <;> decide
  obtain ⟨hr, own⟩ := reg _ rfl
  obtain ⟨word, modified⟩ := settled_uwLoaded s hu c.val a.val part.val data
  refine does_rowWrite_own rfl ho own (regWrite_uw hr hm hu) ?_
  rw [word]
  refine ⟨?_, fun q hq ne => ?_, rfl, uwDecode_uwCheck _, modified⟩
  · rw [uwPart_uwMerge lt, if_pos rfl]
  · rw [uwPart_uwMerge hq, if_neg ne]

/-- Settles O29: each step of the pipelines by what it does to the queues, the engines and the store. -/
theorem parsePipeline : Obligations.ParsePipeline :=
  ⟨fun _ _ _ _ h0 h1 hr hu he => does_dispatch h0 h1 hr hu he, fun _ _ _ _ _ _ h => does_prvRetire h,
    fun _ hm hu => ⟨does_ucodeScrubStep_sound hm, fun _ h h' => does_ucodeScrubStep_single hm hu h h'⟩,
    fun _ _ _ _ _ _ ho hm hu => does_ucodeWindowWrite ho hm hu⟩

end Sys2Proof.Machine
end

section
set_option Elab.async false
/-! PROOFS. Fuses and patches (19_configuration_image.md R542, R550, R551). -/

namespace Sys2Proof.Machine

variable {s : State}

/-! ## What an access depends on -/

/-- The registers that say whether an access reaches its register. -/
def accessRegs : List RegSpec := [R.RST_STAT, R.GLB_HOST_STAT, R.GLB_MODE, R.GLB_WMASK_HA, R.GLB_WMASK_HB, R.IMG_STAT, R.TWN_STAT]

theorem opens_congr {t : State} (h : ∀ q ∈ accessRegs, t.reg q = s.reg q) (k : HostId) (r : RegSpec) (i j : Nat) :
    t.opens k r i j = s.opens k r i j := by
  have same : ∀ f : Fld, f.reg ∈ accessRegs → t.get f = s.get f := fun f hf => by rw [State.get, State.get, h _ hf]
  have hostFields : hostUp (hostNum k) ∈ [F.GLB_HOST_STAT_HA_UP, F.GLB_HOST_STAT_HB_UP] ∧
      hostL1 (hostNum k) ∈ [F.GLB_HOST_STAT_HA_L1, F.GLB_HOST_STAT_HB_L1] := by cases k <;> decide
  have up : t.get (hostUp (hostNum k)) = s.get (hostUp (hostNum k)) := same _ (by cases k <;> decide)
  have l1 : t.get (hostL1 (hostNum k)) = s.get (hostL1 (hostNum k)) := same _ (by cases k <;> decide)
  simp only [State.opens, State.reaches, State.linked, State.hostsDead, State.gated, State.episode, State.mode, State.maskOk, State.ignoresMirrored,
    State.role, State.loaded, State.imgState, State.bit, up, l1, same F.RST_STAT_STATE (by decide), same F.RST_STAT_REACH (by decide),
    same F.GLB_MODE_CUR (by decide), same F.GLB_WMASK_HA_REGION (by decide), same F.GLB_WMASK_HB_REGION (by decide),
    same F.IMG_STAT_STATE (by decide), same F.TWN_STAT_ROLE (by decide)]

theorem opens_put {f : Fld} (hf : ∀ q ∈ accessRegs, free q f.reg = true) (v i j : Nat) (k : HostId) (r : RegSpec) (i' j' : Nat) :
    (s.put f v i j).opens k r i' j' = s.opens k r i' j' :=
  opens_congr (s := s) (t := s.put f v i j) (fun q hq => State.reg_put_free s (hf q hq) v i j 0 0) k r i' j'

theorem keyOf_keyWord {n : Nat} (h : n < 256) : keyOf (keyWord n) = 0x5A := by
  rw [keyOf, keyWord, getBits_word]
  omega

theorem low_keyWord {n k : Nat} (hk : k ≤ 7) (h : n < 2 ^ (k + 1)) : getBits (keyWord n) k 0 = n := by
  have small : 2 ^ (k + 1) ≤ 2 ^ 8 := Nat.pow_le_pow_right (by decide) (by omega)
  have divides : 2 ^ (k + 1) ∣ 0x5A00 := (Nat.pow_dvd_pow 2 (show k + 1 ≤ 8 by omega)).trans (by decide)
  rw [keyWord, getBits_word, pow_zero, Nat.div_one, Nat.sub_zero, Nat.mod_eq_of_lt (show 0x5A00 + n < 2 ^ 32 by omega), Nat.add_mod,
    Nat.mod_eq_zero_of_dvd divides, Nat.zero_add, Nat.mod_mod, Nat.mod_eq_of_lt h]

/-! ## Fuses (R542) -/

/-- The state in which a fuse command is judged: the supply has been sensed and the word stands in the register. -/
structure FuseCommand (s u : State) (vpp : Bool) : Prop where
  mode : u.mode = s.mode
  state : u.imgState = s.imgState
  supply : u.bit F.IMG_FUSE_STAT_VPP = vpp
  data : u.reg R.IMG_FUSE_DATA = s.reg R.IMG_FUSE_DATA
  keeps : s.keepsRegs u [R.IMG_FUSE_STAT.base, R.IMG_FUSE_CMD.base]
  only : s.onlyRegs u
  img : u.img = s.img

theorem fuseProgram_judged {h : HostId} {word : Nat} {vpp : Bool} (hw : word < 64) (ho : s.opens h R.IMG_FUSE_CMD 0 0 = true)
    (hb : s.bit F.IMG_FUSE_STAT_BUSY = false) : ∃ u, s.fuseProgram (hostNum h) word vpp = u.fuseCmd 0x5A word ∧ FuseCommand s u vpp := by
  let v := s.put F.IMG_FUSE_STAT_VPP (if vpp then 1 else 0)
  have opens : v.opens h R.IMG_FUSE_CMD 0 0 = true := (opens_put (by decide) ..).trans ho
  have idle : v.bit F.IMG_FUSE_STAT_BUSY = false := (State.bit_put_beside _ (by decide) ..).trans hb
  obtain ⟨w, hw'⟩ := posted_idle (s := v) idle R.IMG_FUSE_CMD 0 0 (keyWord word)
    (fun t => t.fuseCmd (keyOf (keyWord word)) (getBits (keyWord word) 5 0))
  have write : v.regWrite (hostNum h) R.IMG_FUSE_CMD 0 0 15 (keyWord word) = ([], (v.setReg R.IMG_FUSE_CMD w).fuseCmd 0x5A word) := by
    have e : v.regWrite (hostNum h) R.IMG_FUSE_CMD 0 0 15 (keyWord word) = v.posted (v.bit F.IMG_FUSE_STAT_BUSY) R.IMG_FUSE_CMD 0 0 (keyWord word)
      (fun t => t.fuseCmd (keyOf (keyWord word)) (getBits (keyWord word) 5 0)) := rfl
    rw [e, hw', keyOf_keyWord (by omega), low_keyWord (by decide) hw]
  refine ⟨v.setReg R.IMG_FUSE_CMD w, ?_, ?_⟩
  · refine (rowWrite_own h R.IMG_FUSE_CMD 0 0 (keyWord word) opens (by decide) (by rw [write])).trans ?_
    rw [write]
  · exact {
      mode := (State.get_setReg_free v (g := F.GLB_MODE_CUR) (by decide) ..).trans (State.get_put_free s (by decide) ..)
      state := (State.get_setReg_free v (g := F.IMG_STAT_STATE) (by decide) ..).trans (State.get_put_free s (by decide) ..)
      supply := by
        rw [State.bit, State.get_setReg_free v (by decide), State.get_put_fits s (by decide) (by cases vpp <;> decide)]
        cases vpp <;> rfl
      data := (State.reg_setReg_free v (by decide) ..).trans (State.reg_put_free s (by decide) ..)
      keeps := State.keepsRegs_setReg (State.keepsRegs_put (State.keepsRegs_refl _) _ _ _ _ (by decide)) _ _ _ _ (by decide)
      only := State.onlyRegs_setReg (State.onlyRegs_put State.onlyRegs_refl _ _ _ _) _ _ _ _
      img := rfl }

theorem does_fuseProgram_starts {h : HostId} {word : Fin 64} {vpp : Bool} (ho : s.opens h R.IMG_FUSE_CMD 0 0 = true)
    (hb : s.bit F.IMG_FUSE_STAT_BUSY = false) (hm : s.mode = modeLOAD) (hi : s.imgState ∈ [imgWAIT_HOST, imgDONE]) (hv : vpp = true)
    (hw : word.val < 39) : Does (.fuseProgram h word vpp) s fun t =>
      t.bit F.IMG_FUSE_STAT_BUSY = true ∧ t.img = { s.img with fusing := some (word.val, s.reg R.IMG_FUSE_DATA) } ∧
      s.keepsRegs t [R.IMG_FUSE_STAT.base, R.IMG_FUSE_CMD.base] := by
  obtain ⟨u, hu, c⟩ := fuseProgram_judged (vpp := vpp) word.isLt ho hb
  refine does_of (u := s.fuseProgram (hostNum h) word vpp) rfl ?_
  have ok : ¬ (u.mode ≠ modeLOAD ∨ (u.imgState ≠ imgWAIT_HOST ∧ u.imgState ≠ imgDONE) ∨ u.bit F.IMG_FUSE_STAT_VPP = false ∨ 39 ≤ word.val) := by
    rw [c.mode, c.state, c.supply, hv]
    simp only [List.mem_cons, List.not_mem_nil, or_false] at hi
    rintro (h1 | ⟨h1, h2⟩ | h1 | h1)
    · exact h1 hm
    · exact hi.elim h1 h2
    · cases h1
    · omega
  have next : s.fuseProgram (hostNum h) word vpp =
      (u.put F.IMG_FUSE_STAT_BUSY 1).setImg { u.img with fusing := some (word.val, u.reg R.IMG_FUSE_DATA) } := by
    rw [hu, State.fuseCmd, if_neg (by decide), if_neg ok]
  have regs : ((u.put F.IMG_FUSE_STAT_BUSY 1).setImg { u.img with fusing := some (word.val, u.reg R.IMG_FUSE_DATA) }).regs =
      (u.put F.IMG_FUSE_STAT_BUSY 1).regs := rfl
  rw [next, settled_bit_free _ _ (by decide), State.bit_of_regs regs, settled_img]
  refine ⟨State.bit_put_one _ (by decide) (by decide) _ _, ?_, settled_keeps _ _ _ ?_⟩
  · rw [c.img, c.data]
    rfl
  · exact State.keepsRegs_trans (State.keepsRegs_put c.keeps _ _ _ _ (by decide)) (State.keepsRegs_of_eq _ regs)

theorem does_fuseProgram_refused {h : HostId} {word : Fin 64} {vpp : Bool} (ho : s.opens h R.IMG_FUSE_CMD 0 0 = true)
    (hb : s.bit F.IMG_FUSE_STAT_BUSY = false)
    (hr : s.mode ≠ modeLOAD ∨ s.imgState ∉ [imgWAIT_HOST, imgDONE] ∨ vpp = false ∨ 39 ≤ word.val) : Does (.fuseProgram h word vpp) s fun t =>
      t.get F.IMG_FUSE_STAT_STATUS = 1 ∧ s.keepsRegs t [R.IMG_FUSE_STAT.base, R.IMG_FUSE_CMD.base] ∧ s.onlyRegs t := by
  obtain ⟨u, hu, c⟩ := fuseProgram_judged (vpp := vpp) word.isLt ho hb
  refine does_of (u := s.fuseProgram (hostNum h) word vpp) rfl ?_
  have no : u.mode ≠ modeLOAD ∨ (u.imgState ≠ imgWAIT_HOST ∧ u.imgState ≠ imgDONE) ∨ u.bit F.IMG_FUSE_STAT_VPP = false ∨ 39 ≤ word.val := by
    rw [c.mode, c.state, c.supply]
    simpa using hr
  have next : s.fuseProgram (hostNum h) word vpp = u.put F.IMG_FUSE_STAT_STATUS 1 := by
    rw [hu, State.fuseCmd, if_neg (by decide), if_pos no]
  rw [next]
  exact ⟨(settled_get_free _ _ (by decide) _ _).trans (State.get_put_fits _ (by decide) (by decide) _ _),
    settled_keeps _ _ _ (State.keepsRegs_put c.keeps _ _ _ _ (by decide)), settled_onlyRegs (State.onlyRegs_put c.only _ _ _ _)⟩

theorem does_fuseDone {w : Nat} {bits readBack : Word} (h : s.img.fusing = some (w, bits)) : Does (.fuseDone readBack) s fun t =>
    t.bit F.IMG_FUSE_STAT_BUSY = false ∧ t.bit F.IMG_EVT_FUSE_DONE = true ∧
    t.get F.IMG_FUSE_STAT_STATUS = (if bits &&& ~~~readBack = 0 then 0 else 2) ∧
    t.img = { s.img with fuses := tabSet 0 s.img.fuses w (tabGet 0 s.img.fuses w ||| (bits &&& readBack)), fusing := none } ∧
    s.keepsRegs t [R.IMG_FUSE_STAT.base, R.IMG_EVT.base] := by
  let u := s.setImg { s.img with fuses := tabSet 0 s.img.fuses w (tabGet 0 s.img.fuses w ||| (bits &&& readBack)), fusing := none }
  have next : s.fuseDone readBack = ((u.put F.IMG_FUSE_STAT_BUSY 0).put F.IMG_FUSE_STAT_STATUS (if bits &&& ~~~readBack = 0 then 0 else 2)).evt
      F.IMG_EVT_FUSE_DONE := by
    unfold State.fuseDone
    rw [h]
  have fits : (if bits &&& ~~~readBack = 0 then 0 else 2) < 2 ^ F.IMG_FUSE_STAT_STATUS.width := by split <;> decide
  have start : s.keepsRegs u [R.IMG_FUSE_STAT.base, R.IMG_EVT.base] := State.keepsRegs_of_eq _ rfl
  refine does_of (u := s.fuseDone readBack) rfl ?_
  rw [next]
  refine ⟨?_, ?_, ?_, ?_, settled_keeps _ _ _ ?_⟩
  · rw [settled_bit_free _ _ (by decide), State.bit_evt_free _ (by decide), State.bit_put_beside _ (by decide), State.bit_put_zero _ (by decide)]
  · rw [settled_bit_free _ _ (by decide), State.bit_evt_same _ _ _ _ (by decide) (by decide)]
  · rw [settled_get_free _ _ (by decide), State.get_evt_free _ (by decide), State.get_put_fits _ (by decide) fits]
  · rw [settled_img, State.evt_img, State.put_img, State.put_img]
    rfl
  · exact State.keepsRegs_evt (State.keepsRegs_put (State.keepsRegs_put start _ _ _ _ (by decide)) _ _ _ _ (by decide)) _ _ _ (by decide)

/-! ## PATCH_EN (R550) -/

theorem getBits_one_bool (b : Bool) : (getBits (word (if b then 1 else 0)) 0 0 == 1) = b := by cases b <;> decide

theorem does_patchEnWrite_first {h : HostId} {en : Bool} (ho : s.opens h R.IMG_CFG 0 0 = true) (hl : s.img.patchLocked = false) :
    Does (.patchEnWrite h en) s fun t => t.bit F.IMG_CFG_PATCH_EN = (en && s.bit F.IMG_INFO_ALLOW_PATCH && s.loaded) ∧
      t.img = { s.img with patchLocked := true } ∧ s.keepsRegs t [R.IMG_CFG.base] := by
  have write : s.regWrite (hostNum h) R.IMG_CFG 0 0 15 (word (if en then 1 else 0)) =
      ([], (s.put F.IMG_CFG_PATCH_EN (if en && s.bit F.IMG_INFO_ALLOW_PATCH && s.loaded then 1 else 0)).setImg { s.img with patchLocked := true }) := by
    have e : s.regWrite (hostNum h) R.IMG_CFG 0 0 15 (word (if en then 1 else 0)) =
      (if s.img.patchLocked then [flLOCK] else [], s.patchEn (getBits (word (if en then 1 else 0)) 0 0 == 1)) := rfl
    rw [e, getBits_one_bool, State.patchEn, hl]
    rfl
  refine does_rowWrite_own rfl ho (by decide) write ?_
  generalize (en && s.bit F.IMG_INFO_ALLOW_PATCH && s.loaded) = on
  have regs : ((s.put F.IMG_CFG_PATCH_EN (if on then 1 else 0)).setImg { s.img with patchLocked := true }).regs =
      (s.put F.IMG_CFG_PATCH_EN (if on then 1 else 0)).regs := rfl
  refine ⟨?_, settled_img _ _, settled_keeps _ _ _ ?_⟩
  · rw [settled_bit_free _ _ (by decide), State.bit_of_regs regs, State.bit, State.get_put_fits _ (by decide) (by cases on <;> decide)]
    cases on <;> rfl
  · exact State.keepsRegs_trans (State.keepsRegs_put (State.keepsRegs_refl _) _ _ _ _ (by decide)) (State.keepsRegs_of_eq _ regs)

theorem does_patchEnWrite_locked {h : HostId} {en : Bool} (ho : s.opens h R.IMG_CFG 0 0 = true) (hl : s.img.patchLocked = true) :
    Does (.patchEnWrite h en) s fun t => AccessError s t h flLOCK R.IMG_CFG.base := by
  have write : s.regWrite (hostNum h) R.IMG_CFG 0 0 15 (word (if en then 1 else 0)) = ([flLOCK], s) := by
    have e : s.regWrite (hostNum h) R.IMG_CFG 0 0 15 (word (if en then 1 else 0)) =
      (if s.img.patchLocked then [flLOCK] else [], s.patchEn (getBits (word (if en then 1 else 0)) 0 0 == 1)) := rfl
    rw [e, State.patchEn, hl]
    rfl
  refine does_of (u := s.rowWrite (hostNum h) R.IMG_CFG 0 0 (word (if en then 1 else 0))) rfl ?_
  rw [rowWrite_opens h _ _ _ _ ho, mirror_none _ _ _ _ _ _ (by decide), write]
  exact accErr_error h flLOCK R.IMG_CFG.base 15 true _ (by decide) (by decide)

/-! ## Patches (R551) -/

/-- The state in which a patch is judged: its command stands in the register. -/
def State.patchPosted (s : State) (nwords : Nat) : State :=
  s.setReg R.IMG_PATCH_CMD ((s.reg R.IMG_PATCH_CMD &&& ~~~(0xFF1F : Word)) ||| keyWord nwords)

theorem keyWord_masked : ∀ n < 32, keyWord n &&& (0xFF1F : Word) = keyWord n := by decide

theorem regWrite_patchCmd {host nwords : Nat} (hn : nwords < 32) (hb : s.bit F.IMG_PATCH_STAT_BUSY = false) :
    s.regWrite host R.IMG_PATCH_CMD 0 0 15 (keyWord nwords) = ([], (s.patchPosted nwords).patchCmd host 0x5A nwords) := by
  have e : s.regWrite host R.IMG_PATCH_CMD 0 0 15 (keyWord nwords) = s.posted (s.bit F.IMG_PATCH_STAT_BUSY) R.IMG_PATCH_CMD 0 0 (keyWord nwords)
    (fun t => t.patchCmd host (keyOf (keyWord nwords)) (getBits (keyWord nwords) 4 0)) := rfl
  have mask : accMask R.IMG_PATCH_CMD (fun a => a == .pw) = 0xFF1F := by decide
  rw [e, hb, keyOf_keyWord (by omega), low_keyWord (by decide) hn, State.posted, if_neg Bool.false_ne_true]
  dsimp only
  rw [mask, keyWord_masked _ hn]
  rfl

section Posted
variable (nwords : Nat)

theorem patchPosted_get {f : Fld} (hf : free f.reg R.IMG_PATCH_CMD = true) (i j : Nat) : (s.patchPosted nwords).get f i j = s.get f i j :=
  State.get_setReg_free s hf ..

theorem patchPosted_reg {r : RegSpec} (hr : free r R.IMG_PATCH_CMD = true) (i j : Nat) : (s.patchPosted nwords).reg r i j = s.reg r i j :=
  State.reg_setReg_free s hr ..

theorem patchPosted_mode : (s.patchPosted nwords).mode = s.mode := patchPosted_get nwords (f := F.GLB_MODE_CUR) (by decide) 0 0

theorem patchPosted_status (n w0 addr : Nat) (ws : List Word) : (s.patchPosted nwords).patchStatus n w0 addr ws = s.patchStatus n w0 addr ws := by
  have patchable : ∀ r t, (s.patchPosted nwords).patchable r t addr ws = s.patchable r t addr ws := fun r t => by
    unfold State.patchable
    simp only [patchPosted_get nwords (f := F.TWN_CTRL_SIDE) (by decide)]
  unfold State.patchStatus
  simp only [patchable, patchPosted_mode, State.role, State.bit, patchPosted_get nwords (f := F.TWN_STAT_ROLE) (by decide),
    patchPosted_get nwords (f := F.IMG_CFG_PATCH_EN) (by decide), patchPosted_get nwords (f := F.IMG_PATCH_CNT_COUNT) (by decide)]
  rfl

theorem patchPosted_keeps : s.keepsRegs (s.patchPosted nwords) [R.IMG_PATCH_CMD.base, R.IMG_PATCH_STAT.base, R.IMG_EVT.base] :=
  State.keepsRegs_setReg (State.keepsRegs_refl _) _ _ _ _ (by decide)

end Posted

/-- The words of a patch. -/
abbrev State.patchWords (s : State) (nwords : Nat) : List Word := (List.range (min nwords 16)).map fun i => s.reg R.IMG_PATCH_DATA i

/-- The patch command with its words read from the state before it. -/
theorem patchCmd_posted (host nwords : Nat) : (s.patchPosted nwords).patchCmd host 0x5A nwords =
    (let u := s.patchPosted nwords
     let words := s.patchWords nwords
     let w0 := (s.reg R.IMG_PATCH_DATA 0).toNat
     let addr := (s.reg R.IMG_PATCH_DATA 1).toNat
     let ws := words.drop 2
     let rtype := w0 / 2 ^ 24
     let target := w0 / 2 ^ 16 % 256
     let st := s.patchStatus nwords w0 addr ws
     if st ≠ 0 then u.patchRefuse st
     else if s.mode = modeLOAD then
       match u.recordApply (sectionOf rtype target addr) rtype target (w0 % 2 ^ 16) addr ws with
       | none => u.patchRefuse 7
       | some t =>
         if !t.imgChecks (s.bit F.IMG_INFO_FORERUNNER) then u.patchRefuse 7
         else (if rtype = 1 ∧ (blockAt addr).base = 0x60000 then (t.imgEffects u).poolsBuild else t.imgEffects u).patchLog host false words
     else
       let (r, t) := u.lkpDo 2 (target - 0x10) addr false (unitNat ws)
       if r.status = 0 then t.patchLog host true words
       else if r.status = 8 then t.patchRefuse 8
       else t.patchRefuse 7) := by
  have words : (s.patchPosted nwords).patchWords nwords = s.patchWords nwords := by
    simp only [State.patchWords, patchPosted_reg nwords (r := R.IMG_PATCH_DATA) (by decide)]
  have w : ∀ k, (s.patchPosted nwords).reg R.IMG_PATCH_DATA k = s.reg R.IMG_PATCH_DATA k := fun k =>
    patchPosted_reg nwords (by decide) k 0
  have fore : (s.patchPosted nwords).bit F.IMG_INFO_FORERUNNER = s.bit F.IMG_INFO_FORERUNNER := by
    rw [State.bit, State.bit, patchPosted_get nwords (by decide)]
  unfold State.patchWords at words
  unfold State.patchCmd State.patchWords
  rw [if_neg (by decide)]
  dsimp only
  rw [words, w, w, patchPosted_mode, patchPosted_status, fore] <;> rfl

theorem patchRefuse_only (st : Nat) (u : State) : u.onlyRegs (u.patchRefuse st) := State.onlyRegs_evt (State.onlyRegs_put State.onlyRegs_refl _ _ _ _) _ _ _

theorem patchRefuse_keeps {u : State} {l : List Nat} (h : s.keepsRegs u l) (st : Nat) (hs : R.IMG_PATCH_STAT.base ∈ l) (he : R.IMG_EVT.base ∈ l) :
    s.keepsRegs (u.patchRefuse st) l := 
  State.keepsRegs_evt (State.keepsRegs_put h F.IMG_PATCH_STAT_STATUS st 0 0 hs) F.IMG_EVT_PATCH_ERR 0 0 he

theorem patchStatus_lt (nwords w0 addr : Nat) (ws : List Word) : s.patchStatus nwords w0 addr ws < 16 := by
  unfold State.patchStatus
  dsimp only
  split_ifs <;> decide

theorem does_patch {h : HostId} {nwords : Fin 32} {P : State → Prop} (ho : s.opens h R.IMG_PATCH_CMD 0 0 = true)
    (hb : s.bit F.IMG_PATCH_STAT_BUSY = false) (hp : P (settled s ((s.patchPosted nwords).patchCmd (hostNum h) 0x5A nwords))) :
    Does (.patch h nwords) s P := does_rowWrite_own rfl ho (by decide) (regWrite_patchCmd nwords.isLt hb) hp

theorem does_patch_refused {h : HostId} {nwords : Fin 32} {st : Nat} (ho : s.opens h R.IMG_PATCH_CMD 0 0 = true)
    (hb : s.bit F.IMG_PATCH_STAT_BUSY = false) (hst : s.patchStatus nwords (s.reg R.IMG_PATCH_DATA 0).toNat (s.reg R.IMG_PATCH_DATA 1).toNat
      ((s.patchWords nwords).drop 2) = st) (h0 : st ≠ 0) : Does (.patch h nwords) s fun t =>
      t.get F.IMG_PATCH_STAT_STATUS = st ∧ t.bit F.IMG_EVT_PATCH_ERR = true ∧
      s.keepsRegs t [R.IMG_PATCH_CMD.base, R.IMG_PATCH_STAT.base, R.IMG_EVT.base] ∧ s.onlyRegs t := by
  have lt : st < 2 ^ F.IMG_PATCH_STAT_STATUS.width := hst ▸ patchStatus_lt ..
  refine does_patch ho hb ?_
  rw [patchCmd_posted]
  dsimp only
  rw [hst, if_pos h0]
  refine ⟨?_, ?_, settled_keeps _ _ _ (patchRefuse_keeps (patchPosted_keeps _) _ (by decide) (by decide)),
    settled_onlyRegs (State.onlyRegs_trans (State.onlyRegs_setReg State.onlyRegs_refl _ _ _ _) (patchRefuse_only ..))⟩
  · rw [settled_get_free _ _ (by decide), State.patchRefuse, State.get_evt_free _ (by decide), State.get_put_fits _ (by decide) lt]
  · rw [settled_bit_free _ _ (by decide), State.patchRefuse, State.bit_evt_same _ _ _ _ (by decide) (by decide)]

/-- What the log of a patch that has passed shows. -/
theorem settled_patchLog (b t : State) (host : Nat) (staged : Bool) (words : List Word) :
    (settled b (t.patchLog host staged words)).get F.IMG_PATCH_STAT_STATUS = 0 ∧
    (settled b (t.patchLog host staged words)).bit F.IMG_EVT_PATCH_DONE = true ∧
    (settled b (t.patchLog host staged words)).bit F.IMG_STAT_PATCHED = true ∧
    (settled b (t.patchLog host staged words)).get F.IMG_PATCH_CNT_COUNT = min (t.get F.IMG_PATCH_CNT_COUNT + 1) 511 ∧
    (settled b (t.patchLog host staged words)).img.log.length = t.img.log.length + 1 ∧
    t.keepsRegs (settled b (t.patchLog host staged words))
      [R.IMG_PATCH_CNT.base, R.IMG_PATCH_CRC.base, R.IMG_STAT.base, R.IMG_PATCH_STAT.base, R.IMG_EVT.base] := by
  unfold State.patchLog
  dsimp only
  generalize crc32cFrom _ _ = c
  generalize (PatchLog.mk _ _ _ _) = e
  let u := (t.inc F.IMG_PATCH_CNT_COUNT).setReg R.IMG_PATCH_CRC c
  have regs : (u.setImg { u.img with log := u.img.log ++ [e] }).regs = u.regs := rfl
  have log : (u.setImg { u.img with log := u.img.log ++ [e] }).img.log.length = t.img.log.length + 1 := List.length_append
  have count : (u.setImg { u.img with log := u.img.log ++ [e] }).get F.IMG_PATCH_CNT_COUNT = min (t.get F.IMG_PATCH_CNT_COUNT + 1) 511 := by
    rw [State.get_of_regs regs, State.get_setReg_free _ (by decide), State.get_inc_same _ _ _ _ _ (by decide)]
    rfl
  have keeps : t.keepsRegs (u.setImg { u.img with log := u.img.log ++ [e] })
      [R.IMG_PATCH_CNT.base, R.IMG_PATCH_CRC.base, R.IMG_STAT.base, R.IMG_PATCH_STAT.base, R.IMG_EVT.base] :=
    State.keepsRegs_trans (State.keepsRegs_setReg (State.keepsRegs_put (State.keepsRegs_refl _) _ _ _ _ (by decide)) _ _ _ _ (by decide))
      (State.keepsRegs_of_eq _ regs)
  generalize u.setImg { u.img with log := u.img.log ++ [e] } = x at *
  refine ⟨?_, ?_, ?_, ?_, ?_, fun q i j hq => ?_⟩
  · rw [settled_get_free _ _ (by decide), State.get_evt_free _ (by decide), State.get_put_fits _ (by decide) (by decide)]
  · rw [settled_bit_free _ _ (by decide), State.bit_evt_same _ _ _ _ (by decide) (by decide)]
  · rw [settled_bit_free _ _ (by decide), State.bit_evt_free _ (by decide), State.bit_put_free _ (by decide), State.bit_put_one _ (by decide) (by decide)]
  · rw [settled_get_free _ _ (by decide), State.get_evt_free _ (by decide), State.get_put_free _ (by decide), State.get_put_free _ (by decide), count]
  · rw [settled_img, State.evt_img, State.put_img, State.put_img, log]
  · refine (settled_reg _ _ _ _ _ (not_pbaOff _ fun hp => hq (List.mem_append_right _ hp))).trans ?_
    exact State.keepsRegs_evt (State.keepsRegs_put (State.keepsRegs_put keeps _ _ _ _ (by decide)) _ _ _ _ (by decide)) _ _ _ (by decide) q i j hq

/-- Settles O54: the fuse command, the write of PATCH_EN and the patch command, each by its judgement. -/
theorem fusesAndPatches : Obligations.FusesAndPatches := by
  refine ⟨fun s h word vpp ho hb => ⟨does_fuseProgram_starts ho hb, does_fuseProgram_refused ho hb⟩, fun s w bits readBack => does_fuseDone,
    fun s h en ho => ⟨does_patchEnWrite_first ho, does_patchEnWrite_locked ho⟩, fun s h nwords words w0 addr ho hb hwords hw0 haddr => ?_⟩
  subst hwords hw0 haddr
  refine ⟨fun st hst h0 => does_patch_refused ho hb hst h0, fun u v hu hst => ⟨fun hm hv hc => does_patch ho hb ?_, fun hm r hr h0 => does_patch ho hb ?_⟩⟩
  · have e : u = s.patchPosted nwords := hu
    subst e
    rw [patchCmd_posted]
    dsimp only
    rw [hst, if_neg (by decide), if_pos hm, hv]
    dsimp only
    rw [hc, if_neg (by decide)]
    obtain ⟨status, done, patched, -⟩ := settled_patchLog s
      (if (s.reg R.IMG_PATCH_DATA 0).toNat / 2 ^ 24 = 1 ∧ (blockAt (s.reg R.IMG_PATCH_DATA 1).toNat).base = 0x60000
        then (v.imgEffects (s.patchPosted nwords)).poolsBuild else v.imgEffects (s.patchPosted nwords)) (hostNum h) false (s.patchWords nwords)
    exact ⟨status, done, patched⟩
  · have e : u = s.patchPosted nwords := hu
    subst e
    rw [patchCmd_posted]
    dsimp only
    rw [hst, if_neg (by decide), if_neg hm, hr]
    dsimp only
    rw [if_pos h0]
    exact settled_patchLog s v (hostNum h) true (s.patchWords nwords)

end Sys2Proof.Machine
end

section
set_option Elab.async false
/-! PROOFS. Operations that leave the registers of GLB, RST, MGT and INV and the state of Invar alone: the buffer pools, the launch calendars and
the process data service. -/

namespace Sys2Proof.Machine

variable {s t u : State}

/-- From `s` to `t` the registers below offset 0x40000 and the states of Invar and of the mode machine are as they were. -/
structure Low (s t : State) : Prop where
  regs : ∀ (q : RegSpec) (i j : Nat), q.off i j < 0x40000 → t.reg q i j = s.reg q i j
  inv : t.inv = s.inv
  md : t.md = s.md

theorem Low.refl (s : State) : Low s s := ⟨fun _ _ _ _ => rfl, rfl, rfl⟩

theorem Low.trans (h : Low s t) (k : Low t u) : Low s u :=
  ⟨fun q i j hq => (k.regs q i j hq).trans (h.regs q i j hq), k.inv.trans h.inv, k.md.trans h.md⟩

/-- A change of other parts of the state. -/
theorem Low.same (h : Low s t) (hr : u.regs = t.regs := by rfl) (hi : u.inv = t.inv := by rfl) (hm : u.md = t.md := by rfl) : Low s u :=
  h.trans ⟨fun q i j _ => by simp only [State.reg, hr], hi, hm⟩

theorem Low.get (h : Low s t) (f : Fld) {i j : Nat} (hf : f.reg.off i j < 0x40000) : t.get f i j = s.get f i j := by
  rw [State.get, State.get, h.regs _ _ _ hf]

theorem Low.bit (h : Low s t) (f : Fld) {i j : Nat} (hf : f.reg.off i j < 0x40000) : t.bit f i j = s.bit f i j := by
  rw [State.bit, State.bit, h.get f hf]

theorem Low.setReg {r : RegSpec} {v : Word} {i j : Nat} (h : Low s t) (hr : 0x40000 ≤ r.base := by decide) : Low s (t.setReg r v i j) :=
  h.trans ⟨fun q qi qj hq => t.reg_setReg_other r q v i j qi qj fun e => by
    have := r.base_le_off i j
    omega, rfl, rfl⟩

theorem Low.put {f : Fld} {v i j : Nat} (h : Low s t) (hf : 0x40000 ≤ f.reg.base := by decide) : Low s (t.put f v i j) := h.setReg hf

theorem Low.inc {f : Fld} {i j n : Nat} (h : Low s t) (hf : 0x40000 ≤ f.reg.base := by decide) : Low s (t.inc f i j n) := h.put hf

theorem Low.evt {f : Fld} {i j : Nat} (h : Low s t) (hf : 0x40000 ≤ f.reg.base := by decide) : Low s (t.evt f i j) :=
  h.trans ⟨fun q qi qj hq => t.reg_evt_other f q i j qi qj fun e => by
    have := f.reg.base_le_off i j
    omega, t.evt_inv f i j, t.evt_md f i j⟩

theorem Low.evtIf {f : Fld} {c : Bool} {i j : Nat} (h : Low s t) (hf : 0x40000 ≤ f.reg.base := by decide) : Low s (t.evtIf c f i j) := by
  cases c
  · exact h
  · exact h.evt hf

theorem Low.ite {c : Prop} [Decidable c] (ht : Low s t) (hu : Low s u) : Low s (if c then t else u) := by
  split
  · exact ht
  · exact hu

theorem Low.foldl {α : Type} {f : State → α → State} (h : Low s t) (l : List α) (hf : ∀ u a, Low u (f u a)) : Low s (l.foldl f t) :=
  List.foldlRecOn (motive := fun t => Low s t) l f h fun _ ht a _ => ht.trans (hf _ a)

/-! ## The service SRAM and the pools -/

theorem Low.sramPut (s : State) (a : Nat) (b : Byte) : Low s (s.sramPut a b) := by
  unfold State.sramPut
  split <;> exact (Low.refl s).same

theorem Low.sramWrite (l : List Byte) (s : State) (a : Nat) : Low s (s.sramWrite a l) := by
  induction l generalizing s a with
  | nil => exact Low.refl s
  | cons b l ih =>
    unfold State.sramWrite
    exact Low.ite (Low.refl s) ((Low.sramPut s a b).trans (ih _ _))

theorem Low.setPool (s : State) (k : Nat) (p : Pool) : Low s (s.setPool k p) := (Low.refl s).same

theorem Low.poolSet (s : State) (k : Nat) (p : Pool) : Low s (s.poolSet k p) := by
  unfold State.poolSet State.poolShow
  exact Low.put (Low.put (Low.setPool s k p))

theorem Low.ringWrite (s : State) (k pos : Nat) (l : List Nat) : Low s (s.ringWrite k pos l) := by
  unfold State.ringWrite
  exact Low.foldl (Low.refl s) _ fun u e => Low.ite (Low.refl u).same (Low.sramWrite _ _ _)

theorem Low.spill (s : State) (k : Nat) : Low s (s.spill k) := (Low.ringWrite s k _ _).trans (Low.poolSet _ _ _)

theorem Low.bufferBack (s : State) (h : Nat) : Low s (s.bufferBack h) := Low.poolSet _ _ _

theorem Low.dropName (s : State) (h req : Nat) : Low s (s.dropName h req).2 := by
  unfold State.dropName
  dsimp only
  split
  · exact Low.refl s
  · split
    · exact Low.setPool _ _ _
    · split
      · exact Low.bufferBack _ _
      · split
        · split
          · exact Low.refl s
          · exact Low.setPool _ _ _
        · exact (Low.spill _ _).trans (Low.bufferBack _ _)

theorem Low.capture {fv fm : Fld} {w : Word} (h : Low s t) (hv : 0x40000 ≤ fv.reg.base := by decide) (hm : 0x40000 ≤ fm.reg.base := by decide) :
    Low s (t.capture fv fm w) := by
  unfold State.capture
  exact Low.ite (h.put hm) (h.setReg hv)

theorem Low.bpmReject (s : State) (kind req h : Nat) : Low s (s.bpmReject kind req h) := by
  unfold State.bpmReject
  exact Low.ite (Low.put (Low.capture (Low.evt (Low.inc (Low.refl s))))) (Low.capture (Low.evt (Low.inc (Low.refl s))))

theorem Low.bpmRelease (s : State) (h req : Nat) : Low s (s.bpmRelease h req).2 := by
  unfold State.bpmRelease
  split
  · exact Low.bpmReject _ _ _ _
  · exact Low.dropName _ _ _

theorem Low.hwRelease (s : State) (h req : Nat) : Low s (s.hwRelease h req) := Low.bpmRelease _ _ _

theorem Low.bpmAdd (s : State) (h req name : Nat) : Low s (s.bpmAdd h req name).2 := by
  unfold State.bpmAdd
  split
  · exact Low.bpmReject _ _ _ _
  · split
    · exact Low.refl s
    · split
      · exact Low.refl s
      · split
        · exact Low.refl s
        · exact Low.setPool _ _ _

/-! ## The launch calendars (R260, R360) -/

theorem Low.setEg (h : Low s t) {p : Nat} {v : EgsPort} : Low s (t.setEg p v) := h.same

theorem Low.calReport (s : State) (p : Nat) (rearmed : Bool) : Low s (s.calReport p rearmed) := by
  unfold State.calReport
  dsimp only
  exact Low.ite (Low.setEg (Low.put (Low.put (Low.refl s)))) (Low.put (Low.put (Low.refl s)))

theorem Low.calAdd (s : State) (p : Nat) (e : CalEntry) : Low s (s.calAdd p e).2 := by
  unfold State.calAdd
  dsimp only
  split
  · dsimp only
    exact Low.evt (Low.inc (Low.refl s))
  · split
    · exact Low.refl s
    · exact (Low.setEg (Low.refl s)).trans (Low.calReport _ _ _)

/-- One port of a launch takes the entry, or refuses it. -/
def launchPort (e : CalEntry) (a : CalResult × List Nat × State) (p : Nat) : CalResult × List Nat × State :=
  match a.2.2.calAdd p e with
  | (.accepted, s) => (a.1, a.2.1 ++ [p], s)
  | (r, s) => (if a.1 = .accepted then r else a.1, a.2.1, s)

theorem launchPort_state (e : CalEntry) (a : CalResult × List Nat × State) (p : Nat) : (launchPort e a p).2.2 = (a.2.2.calAdd p e).2 := by
  unfold launchPort
  split <;> simp_all

/-- The state in which a launch is inserted: an attachment's frame has taken its sequence number. -/
def State.launchSeq (s : State) (ports : List Nat) (mac : Nat) : Option Nat × State :=
  match (ports.head?).bind s.attOf with
  | some c => (some (s.takeSeq c mac).1, (s.takeSeq c mac).2)
  | none => (none, s)

theorem launchInsert_eq (s : State) (ports : List Nat) (e : CalEntry) (mac : Nat) : s.launchInsert ports e mac =
    ports.foldl (launchPort { e with seq := (s.launchSeq ports mac).1 }) (.accepted, [], (s.launchSeq ports mac).2) := rfl

theorem Low.launchSeq (s : State) (ports : List Nat) (mac : Nat) : Low s (s.launchSeq ports mac).2 := by
  unfold State.launchSeq
  split
  · exact Low.same (Low.refl s)
  · exact Low.refl s

theorem Low.launchInsert (s : State) (ports : List Nat) (e : CalEntry) (mac : Nat) : Low s (s.launchInsert ports e mac).2.2 := by
  rw [launchInsert_eq]
  exact List.foldlRecOn (motive := fun a : CalResult × List Nat × State => Low s a.2.2) _ _ (Low.launchSeq s ports mac) fun a ha p _ => by
    rw [launchPort_state]
    exact ha.trans (Low.calAdd _ _ _)

theorem Low.egressRelease (s : State) (p : Nat) (e : CalEntry) : Low s (s.egressRelease p e) :=
  Low.foldl (Low.refl s) _ fun _ _ => Low.hwRelease _ _ _

theorem Low.pdsCnt (h : Low s t) {k n : Nat} : Low s (t.pdsCnt k n) := Low.inc h

theorem Low.digestItem (h : Low s t) {place : Nat} {i : DigItem} : Low s (t.digestItem place i) := Low.ite h.same h

theorem Low.pdsInsert (s : State) (r : Retained) (b : List Byte) (start at_ : Int) : Low s (s.pdsInsert r b start at_).2 := by
  unfold State.pdsInsert
  extract_lets ports lt e
  have inserted := Low.launchInsert s ports e (beAt b 6 6)
  generalize s.launchInsert ports e (beAt b 6 6) = a at *
  obtain ⟨res, took, v⟩ := a
  have released := inserted.trans (Low.foldl (Low.refl v) (ports.filter fun p => !took.contains p) fun u p => Low.egressRelease u p e)
  dsimp only
  split
  · exact Low.digestItem released
  · dsimp only
    exact Low.evt (Low.pdsCnt released)

theorem Low.relaunch (s : State) (r : Option Retained) (start at_ : Int) : Low s (s.relaunch r start at_) := by
  unfold State.relaunch
  split
  · exact Low.refl s
  · next x =>
    dsimp only
    split
    · exact Low.refl s
    · refine Low.pdsCnt (Low.trans ?_ (Low.pdsInsert _ _ _ _ _))
      exact Low.foldl (Low.refl s) _ fun u h => Low.foldl (Low.refl u) _ fun _ _ => Low.bpmAdd _ _ _ _

/-! ## The cycle of the process data service (R346, R371) -/

theorem Low.setPds (h : Low s t) {p : PdsState} : Low s (t.setPds p) := h.same

theorem Low.slotMissed (s : State) (i : Nat) (x : PdsSlot) : Low s (s.slotMissed i x) := by
  unfold State.slotMissed
  exact Low.setPds (Low.evtIf (Low.pdsCnt (Low.refl s)))

theorem Low.gatherDeadline (s : State) : Low s s.gatherDeadline := by
  unfold State.gatherDeadline
  dsimp only
  split
  · exact Low.refl s
  · split
    · exact Low.setPds (Low.refl s)
    · split
      · exact Low.foldl (Low.setPds (Low.refl s)) _ fun _ _ => Low.relaunch _ _ _ _
      · refine Low.setPds (Low.put (Low.foldl (Low.ite (Low.evt (Low.pdsCnt (Low.setPds (Low.refl s)))) (Low.setPds (Low.refl s))) _ fun u e => ?_))
        exact Low.ite (Low.setPds (Low.refl u)) (Low.ite (Low.setPds (Low.refl u)) (Low.slotMissed _ _ _))

theorem Low.pdsStoreEntry (s : State) (table i m : Nat) : Low s (s.pdsStoreEntry table i m) := by
  unfold State.pdsStoreEntry
  dsimp only
  split <;> exact Low.setPds (Low.refl s)

theorem Low.pdsApply (s : State) : Low s s.pdsApply :=
  Low.put (Low.setPds (Low.foldl (Low.refl s) _ fun _ _ => Low.pdsStoreEntry _ _ _ _))

theorem Low.pdsCycleStart (s : State) (x : Int) : Low s (s.pdsCycleStart x) := by
  unfold State.pdsCycleStart
  exact Low.ite (Low.refl s) (Low.setPds ((Low.gatherDeadline s).trans (Low.pdsApply _)))

theorem Low.pdsStart (s : State) (x : Int) : Low s (s.pdsStart x) := by
  unfold State.pdsStart
  dsimp only
  split
  · exact Low.ite ((Low.put (Low.setPds (Low.refl s))).trans (Low.pdsCycleStart _ _)) (Low.put (Low.setPds (Low.refl s)))
  · exact Low.put (Low.setPds (Low.refl s))

/-- The start that follows a wake is remembered in the state of the mode machine alone. -/
theorem Low.wakePds (s : State) : ∃ x, Low { s with md := x } s.wakePds := by
  unfold State.wakePds
  split
  · exact ⟨s.md, Low.refl s⟩
  · dsimp only
    split
    · exact ⟨s.md, Low.refl s⟩
    · split
      · exact ⟨_, Low.pdsStart _ _⟩
      · exact ⟨_, Low.refl _⟩

/-- A start of the service's cycle, and the start that waits for it, leave the registers and the state of Invar. -/
theorem wakePds_pdsCycleStart (s : State) (x : Int) : ((s.pdsCycleStart x).wakePds).inv = s.inv ∧
    ∀ f : Fld, f.reg.off 0 0 < 0x40000 → ((s.pdsCycleStart x).wakePds).get f = s.get f := by
  obtain ⟨m, wake⟩ := Low.wakePds (s.pdsCycleStart x)
  have start := Low.pdsCycleStart s x
  exact ⟨wake.inv.trans start.inv, fun f hf => (wake.get f hf).trans ((State.get_of_regs rfl ..).trans (start.get f hf))⟩

end Sys2Proof.Machine
end

section
set_option Elab.async false
/-! PROOFS. The cycle generator and its changes (11_invar_time_unit.md R323 to R326). -/

namespace Sys2Proof.Machine

variable {s : State}

/-! ## Writes of its registers -/

theorem regWrite_cycCtrl (host : Nat) (w : Word) : s.regWrite host R.INV_CYC_CTRL 0 0 15 w = ([], s.cycCtrl (getBits w 31 31)) := rfl

theorem regWrite_cycChg (host : Nat) (go cancel : Bool) :
    s.regWrite host R.INV_CYC_CHG 0 0 15 (keyWord (go.toNat + 2 * cancel.toNat)) = ([], s.cycChange 0x5A go cancel) := by
  cases go <;> cases cancel <;> rfl

/-- The operative base as a time. -/
def State.cycOperBase (s : State) : Int := fullTime (s.dom 0) (s.get F.INV_CYC_OPER_BASE_SEC_SEC) (s.get F.INV_CYC_OPER_BASE_NS_NS)

theorem cycStart_ok (hp : cycPeriodOk (s.get F.INV_CYC_OPER_PERIOD_PERIOD) = true) : s.cycStart =
    { s.put F.INV_CYC_CTRL_EN 1 with inv := { s.inv with
        cycBase := s.cycOperBase, cycNext := some (gridAtOrAfter s.cycOperBase (s.get F.INV_CYC_OPER_PERIOD_PERIOD) (s.now + 2000)) } } := by
  rw [State.cycStart, if_pos hp]
  rfl

theorem does_cycleGenEnable {h : HostId} (ho : s.opens h R.INV_CYC_CTRL 0 0 = true) (he : s.bit F.INV_CYC_CTRL_EN = false)
    (hp : cycPeriodOk (s.get F.INV_CYC_OPER_PERIOD_PERIOD) = true) : Does (.cycleGenEnable h) s fun t =>
      t.bit F.INV_CYC_CTRL_EN = true ∧ s.keepsRegs t [R.INV_CYC_CTRL.base] ∧
      t.inv.cycBase = fullTime (s.dom 0) (s.get F.INV_CYC_OPER_BASE_SEC_SEC) (s.get F.INV_CYC_OPER_BASE_NS_NS) ∧
      t.inv.cycNext = some (gridAtOrAfter t.inv.cycBase (s.get F.INV_CYC_OPER_PERIOD_PERIOD) (s.now + 2000)) := by
  have write : s.regWrite (hostNum h) R.INV_CYC_CTRL 0 0 15 (word (2 ^ 31)) = ([], s.cycStart) := by
    rw [regWrite_cycCtrl, show getBits (word (2 ^ 31)) 31 31 = 1 by decide, State.cycCtrl, he, if_pos ⟨rfl, rfl⟩]
  rw [cycStart_ok hp] at write
  have keeps : s.keepsRegs (s.put F.INV_CYC_CTRL_EN 1) [R.INV_CYC_CTRL.base] := State.keepsRegs_put (State.keepsRegs_refl _) _ _ _ _ (by decide)
  refine does_rowWrite rfl ho write fun x => ⟨?_, settled_keeps _ _ _ (State.keepsRegs_trans keeps (State.keepsRegs_of_eq _ rfl)), ?_, ?_⟩
  · refine (settled_bit_free _ _ (by decide) _ _).trans ((State.bit_of_regs (s := s.put F.INV_CYC_CTRL_EN 1) rfl _ _ _).trans ?_)
    exact State.bit_put_one _ (by decide) (by decide) _ _
  · rw [settled_inv]
    rfl
  · rw [settled_inv]

theorem does_cycleGenDisable {h : HostId} (ho : s.opens h R.INV_CYC_CTRL 0 0 = true) (he : s.bit F.INV_CYC_CTRL_EN = true) :
    (s.cycNeeded = false → Does (.cycleGenDisable h) s fun t =>
      t.bit F.INV_CYC_CTRL_EN = false ∧ t.bit F.INV_CYC_STAT_RUNNING = false ∧ t.inv = { s.inv with cycNext := none } ∧
      s.keepsRegs t [R.INV_CYC_CTRL.base, R.INV_CYC_STAT.base]) ∧
    (s.cycNeeded = true → Does (.cycleGenDisable h) s fun t =>
      t.bit F.INV_CYC_CTRL_EN = true ∧ t.bit F.INV_EVT_CFG_ERR = true ∧ t.inv = s.inv ∧ s.keepsRegs t [R.INV_EVT.base]) := by
  have write : s.regWrite (hostNum h) R.INV_CYC_CTRL 0 0 15 0 = ([], s.cycStop) := by
    rw [regWrite_cycCtrl, show getBits (0 : Word) 31 31 = 0 by decide, State.cycCtrl, he, if_neg (by decide), if_pos ⟨rfl, rfl⟩]
  refine ⟨fun hn => ?_, fun hn => ?_⟩
  · let u := (s.put F.INV_CYC_CTRL_EN 0).put F.INV_CYC_STAT_RUNNING 0
    have stop : s.cycStop = { u with inv := { s.inv with cycNext := none } } := by
      rw [State.cycStop, hn]
      rfl
    have keeps : s.keepsRegs u [R.INV_CYC_CTRL.base, R.INV_CYC_STAT.base] :=
      State.keepsRegs_put (State.keepsRegs_put (State.keepsRegs_refl _) _ _ _ _ (by decide)) _ _ _ _ (by decide)
    rw [stop] at write
    refine does_rowWrite rfl ho write fun x => ⟨?_, ?_, settled_inv _ _, settled_keeps _ _ _ (State.keepsRegs_trans keeps (State.keepsRegs_of_eq _ rfl))⟩
    · refine (settled_bit_free _ _ (by decide) _ _).trans ((State.bit_of_regs (s := u) rfl _ _ _).trans ?_)
      exact (State.bit_put_free _ (by decide) ..).trans (State.bit_put_zero _ (by decide) _ _)
    · refine (settled_bit_free _ _ (by decide) _ _).trans ((State.bit_of_regs (s := u) rfl _ _ _).trans ?_)
      exact State.bit_put_zero _ (by decide) _ _
  · have stop : s.cycStop = s.evt F.INV_EVT_CFG_ERR := by
      rw [State.cycStop, hn, if_pos rfl]
    have keeps : s.keepsRegs (s.evt F.INV_EVT_CFG_ERR) [R.INV_EVT.base] := State.keepsRegs_evt (State.keepsRegs_refl _) _ _ _ (by decide)
    rw [stop] at write
    refine does_rowWrite rfl ho write fun x => ⟨?_, ?_, (settled_inv _ _).trans (State.evt_inv ..),
      settled_keeps _ _ _ (State.keepsRegs_trans keeps (State.keepsRegs_of_eq _ rfl))⟩
    · refine (settled_bit_free _ _ (by decide) _ _).trans ((State.bit_of_regs (s := s.evt F.INV_EVT_CFG_ERR) rfl _ _ _).trans ?_)
      exact (State.bit_evt_free _ (by decide) ..).trans he
    · refine (settled_bit_free _ _ (by decide) _ _).trans ((State.bit_of_regs (s := s.evt F.INV_EVT_CFG_ERR) rfl _ _ _).trans ?_)
      exact State.bit_evt_same _ _ _ _ (by decide) (by decide)

/-! ## Changes (R325) -/

/-- The first point of a grid at or after a time. -/
theorem le_gridAtOrAfter (b t : Int) {p : Nat} (hp : p ≠ 0) : t ≤ gridAtOrAfter b p t := by
  have pos : (0 : Int) < p := by omega
  have div := Int.mul_ediv_add_emod (t - b + p - 1) p
  have lt := Int.emod_lt_of_pos (t - b + p - 1) pos
  rw [gridAtOrAfter, if_neg hp]
  rw [Int.mul_comm] at div
  omega

theorem le_changeTime (now base : Int) {cycle : Nat} (hc : cycle ≠ 0) : now + 2000 ≤ changeTime now base cycle := by
  unfold changeTime
  split
  · assumption
  · exact le_gridAtOrAfter _ _ hc

theorem cycPeriodOk_ne_zero {p : Nat} (h : cycPeriodOk p = true) : p ≠ 0 := by
  simp only [cycPeriodOk, decide_eq_true_eq] at h
  omega

/-- The change that a GO asks for. -/
def State.cycAsked (s : State) : PendChange :=
  let b := fullTime (s.dom 0) (s.get F.INV_CYC_ADM_BASE_SEC_SEC) (s.get F.INV_CYC_ADM_BASE_NS_NS)
  { tx := changeTime s.now b (s.get F.INV_CYC_ADM_PERIOD_PERIOD), base := b, cycle := s.get F.INV_CYC_ADM_PERIOD_PERIOD, ext := 0, len := 0 }

theorem cycAsked_shows (hc : cycPeriodOk (s.get F.INV_CYC_ADM_PERIOD_PERIOD) = true) : s.cycAsked.cycle = s.get F.INV_CYC_ADM_PERIOD_PERIOD ∧
    s.cycAsked.base = fullTime (s.dom 0) (s.get F.INV_CYC_ADM_BASE_SEC_SEC) (s.get F.INV_CYC_ADM_BASE_NS_NS) ∧ s.now + 2000 ≤ s.cycAsked.tx := by
  unfold State.cycAsked
  exact ⟨rfl, rfl, le_changeTime _ _ (cycPeriodOk_ne_zero hc)⟩

/-- The registers of an accepted change. -/
def State.cycAccept (s : State) : State :=
  ((s.put F.INV_CYC_STAT_CHG_PEND 1).put F.INV_CYC_STAT_CHG_ERR 0).putTime F.INV_CYC_CHG_SEC_SEC F.INV_CYC_CHG_NS_NS s.cycAsked.tx

theorem cycChange_go (hp : s.bit F.INV_CYC_STAT_CHG_PEND = false) (hc : cycPeriodOk (s.get F.INV_CYC_ADM_PERIOD_PERIOD) = true)
    (hb : s.get F.INV_CYC_ADM_BASE_NS_NS < 1000000000) :
    s.cycChange 0x5A true false = { s.cycAccept with inv := { s.inv with cycPend := some s.cycAsked } } := by
  unfold State.cycChange
  dsimp only
  rw [if_neg (by simp), if_neg (by simp [hp]), if_neg (by simp), if_neg (by simp [hc]), if_neg (by omega)]
  rfl

theorem cycAccept_shows (s : State) : s.cycAccept.bit F.INV_CYC_STAT_CHG_PEND = true ∧ s.cycAccept.get F.INV_CYC_STAT_CHG_ERR = 0 ∧
    s.keepsRegs s.cycAccept [R.INV_CYC_STAT.base, R.INV_CYC_CHG_SEC.base, R.INV_CYC_CHG_NS.base] := by
  unfold State.cycAccept State.putTime
  refine ⟨?_, ?_, ?_⟩
  · rw [State.bit_put_free _ (by decide), State.bit_put_free _ (by decide), State.bit_put_beside _ (by decide)]
    exact State.bit_put_one _ (by decide) (by decide) _ _
  · rw [State.get_put_free _ (by decide), State.get_put_free _ (by decide)]
    exact State.get_put_fits _ (by decide) (by decide) _ _
  · have stat : s.keepsRegs ((s.put F.INV_CYC_STAT_CHG_PEND 1).put F.INV_CYC_STAT_CHG_ERR 0)
        [R.INV_CYC_STAT.base, R.INV_CYC_CHG_SEC.base, R.INV_CYC_CHG_NS.base] :=
      State.keepsRegs_put (State.keepsRegs_put (State.keepsRegs_refl _) _ _ _ _ (by decide)) _ _ _ _ (by decide)
    exact State.keepsRegs_put (State.keepsRegs_put stat _ _ _ _ (by decide)) _ _ _ _ (by decide)

/-- What a write of Invar's registers and state shows once it is finished. -/
theorem settled_ofInv (b v : State) (i : InvState) (x : TwnState) : (settled b { { v with inv := i } with twn := x }).inv = i ∧
    (settled b { { v with inv := i } with twn := x }).bit F.INV_CYC_STAT_CHG_PEND = v.bit F.INV_CYC_STAT_CHG_PEND ∧
    (settled b { { v with inv := i } with twn := x }).get F.INV_CYC_STAT_CHG_ERR = v.get F.INV_CYC_STAT_CHG_ERR ∧
    ∀ bases, b.keepsRegs v bases → b.keepsRegs (settled b { { v with inv := i } with twn := x }) bases :=
  ⟨settled_inv _ _, (settled_bit_free _ _ (by decide) _ _).trans (State.bit_of_regs (s := v) rfl _ _ _),
    (settled_get_free _ _ (by decide) _ _).trans (State.get_of_regs (s := v) rfl _ _ _),
    fun _ keeps => settled_keeps _ _ _ (State.keepsRegs_trans keeps (State.keepsRegs_of_eq _ rfl))⟩

theorem does_cycleChangeGo {h : HostId} (ho : s.opens h R.INV_CYC_CHG 0 0 = true) (hp : s.bit F.INV_CYC_STAT_CHG_PEND = false)
    (hc : cycPeriodOk (s.get F.INV_CYC_ADM_PERIOD_PERIOD) = true) (hb : s.get F.INV_CYC_ADM_BASE_NS_NS < 1000000000) :
    Does (.cycleChangeGo h) s fun t => t.bit F.INV_CYC_STAT_CHG_PEND = true ∧ t.get F.INV_CYC_STAT_CHG_ERR = 0 ∧
      (∃ c, t.inv = { s.inv with cycPend := some c } ∧ c.cycle = s.get F.INV_CYC_ADM_PERIOD_PERIOD ∧
        c.base = fullTime (s.dom 0) (s.get F.INV_CYC_ADM_BASE_SEC_SEC) (s.get F.INV_CYC_ADM_BASE_NS_NS) ∧ s.now + 2000 ≤ c.tx) ∧
      s.keepsRegs t [R.INV_CYC_STAT.base, R.INV_CYC_CHG_SEC.base, R.INV_CYC_CHG_NS.base] := by
  obtain ⟨pend, err, keeps⟩ := cycAccept_shows s
  have write : s.regWrite (hostNum h) R.INV_CYC_CHG 0 0 15 (keyWord 1) =
      ([], { s.cycAccept with inv := { s.inv with cycPend := some s.cycAsked } }) :=
    (regWrite_cycChg (s := s) (hostNum h) true false).trans (congrArg _ (cycChange_go hp hc hb))
  have asked := cycAsked_shows hc
  generalize s.cycAccept = v at *
  generalize s.cycAsked = c at *
  refine does_rowWrite rfl ho write fun x => ?_
  obtain ⟨hi, hpend, herr, hkeeps⟩ := settled_ofInv s v { s.inv with cycPend := some c } x
  exact ⟨hpend.trans pend, herr.trans err, ⟨c, hi, asked⟩, hkeeps _ keeps⟩

theorem does_cycleChangeCancel {h : HostId} (ho : s.opens h R.INV_CYC_CHG 0 0 = true) (hp : s.bit F.INV_CYC_STAT_CHG_PEND = true) :
    Does (.cycleChangeCancel h) s fun t => t.bit F.INV_CYC_STAT_CHG_PEND = false ∧ t.inv = { s.inv with cycPend := none } ∧
      t.bit F.INV_EVT_CYC_CHG_DONE = true ∧ s.keepsRegs t [R.INV_CYC_STAT.base, R.INV_EVT.base] := by
  let u : State := { s.put F.INV_CYC_STAT_CHG_PEND 0 with inv := { s.inv with cycPend := none } }
  have write := regWrite_cycChg (s := s) (hostNum h) false true
  have cancel : s.cycChange 0x5A false true = u.evt F.INV_EVT_CYC_CHG_DONE := by
    unfold State.cycChange
    dsimp only
    rw [if_neg (by simp), if_neg (by simp [hp]), if_pos rfl]
  have down : u.bit F.INV_CYC_STAT_CHG_PEND = false :=
    (State.bit_of_regs (s := s.put F.INV_CYC_STAT_CHG_PEND 0) rfl _ _ _).trans (State.bit_put_zero _ (by decide) _ _)
  have keeps : s.keepsRegs u [R.INV_CYC_STAT.base, R.INV_EVT.base] :=
    State.keepsRegs_trans (State.keepsRegs_put (State.keepsRegs_refl _) F.INV_CYC_STAT_CHG_PEND 0 0 0 (by decide)) (State.keepsRegs_of_eq _ rfl)
  have inv : u.inv = { s.inv with cycPend := none } := rfl
  rw [cancel] at write
  generalize u = v at *
  have keeps' : s.keepsRegs (v.evt F.INV_EVT_CYC_CHG_DONE) [R.INV_CYC_STAT.base, R.INV_EVT.base] := State.keepsRegs_evt keeps _ _ _ (by decide)
  refine does_rowWrite rfl ho write fun x => ⟨?_, ?_, ?_, settled_keeps _ _ _ (State.keepsRegs_trans keeps' (State.keepsRegs_of_eq _ rfl))⟩
  · refine (settled_bit_free _ _ (by decide) _ _).trans ((State.bit_of_regs (s := v.evt F.INV_EVT_CYC_CHG_DONE) rfl _ _ _).trans ?_)
    exact (State.bit_evt_free _ (by decide) ..).trans down
  · exact (settled_inv _ _).trans ((State.evt_inv ..).trans inv)
  · refine (settled_bit_free _ _ (by decide) _ _).trans ((State.bit_of_regs (s := v.evt F.INV_EVT_CYC_CHG_DONE) rfl _ _ _).trans ?_)
    exact State.bit_evt_same _ _ _ _ (by decide) (by decide)

/-! ## Starts (R323, R326) -/

theorem tioCycle_only (s : State) (t : Int) : ∃ x, s.tioCycle t = { s with inv := { s.inv with tio := x } } :=
  List.foldlRecOn (motive := fun u : State => ∃ x, u = { s with inv := { s.inv with tio := x } }) _ _ ⟨_, rfl⟩ fun u hu i _ => by
    obtain ⟨x, rfl⟩ := hu
    dsimp only
    split
    · exact ⟨_, rfl⟩
    · exact ⟨_, rfl⟩

theorem cycIssue_only (s : State) (t : Int) (n : Nat) : ∃ x, s.cycIssue t n =
    { (s.incWrap F.INV_CYC_CNT_COUNT (n := n)).put F.INV_CYC_STAT_RUNNING 1 with inv := { s.inv with tio := x } } := tioCycle_only _ t

/-- What the issue of a start shows. -/
theorem cycIssue_shows (s : State) (t : Int) (n : Nat) : (s.cycIssue t n).get F.INV_CYC_CNT_COUNT = (s.get F.INV_CYC_CNT_COUNT + n) % 2 ^ 32 ∧
    (s.cycIssue t n).bit F.INV_CYC_STAT_RUNNING = true ∧
    (s.cycIssue t n).get F.INV_CYC_OPER_PERIOD_PERIOD = s.get F.INV_CYC_OPER_PERIOD_PERIOD ∧
    ∃ x, (s.cycIssue t n).inv = { s.inv with tio := x } := by
  obtain ⟨x, hx⟩ := cycIssue_only s t n
  have regs : (s.cycIssue t n).regs = ((s.incWrap F.INV_CYC_CNT_COUNT (n := n)).put F.INV_CYC_STAT_RUNNING 1).regs := by rw [hx]
  refine ⟨?_, ?_, ?_, x, by rw [hx]⟩
  · rw [State.get_of_regs regs, State.get_put_free _ (by decide), State.incWrap]
    exact State.get_put_same _ _ _ _ _ (by decide)
  · rw [State.bit_of_regs regs]
    exact State.bit_put_one _ (by decide) (by decide) _ _
  · rw [State.get_of_regs regs, State.get_put_free _ (by decide), State.incWrap, State.get_put_free _ (by decide)]

/-- The next point of a grid lies after the present time, and no more than one period. -/
theorem next_point {now n : Int} {p : Nat} (hp : p ≠ 0) (hn : n ≤ now) :
    now < n + ((((now - n) / (p : Int)).toNat + 1 : Nat) : Int) * p ∧ n + ((((now - n) / (p : Int)).toNat + 1 : Nat) : Int) * p ≤ now + p := by
  have pos : (0 : Int) < p := by omega
  have nonneg : 0 ≤ (now - n) / (p : Int) := Int.ediv_nonneg (by omega) (by omega)
  have div := Int.mul_ediv_add_emod (now - n) p
  have lt := Int.emod_lt_of_pos (now - n) pos
  have ge := Int.emod_nonneg (now - n) (show (p : Int) ≠ 0 by omega)
  rw [Int.mul_comm] at div
  push_cast
  rw [Int.toNat_of_nonneg nonneg, Int.add_mul, Int.one_mul]
  omega

theorem cycTick_due {n : Int} (hn : s.inv.cycNext = some n) (hd : n ≤ s.now) (hp : s.inv.cycPend = none)
    (h0 : s.get F.INV_CYC_OPER_PERIOD_PERIOD ≠ 0) :
    ∃ t : Int, s.cycDue = some (t, ((s.now - n) / (s.get F.INV_CYC_OPER_PERIOD_PERIOD : Int)).toNat + 1,
        n + ((((s.now - n) / (s.get F.INV_CYC_OPER_PERIOD_PERIOD : Int)).toNat + 1 : Nat) : Int) * s.get F.INV_CYC_OPER_PERIOD_PERIOD) ∧
      s.cycHeldBack t = false := by
  refine ⟨n + (((s.now - n) / (s.get F.INV_CYC_OPER_PERIOD_PERIOD : Int)).toNat : Int) * s.get F.INV_CYC_OPER_PERIOD_PERIOD, ?_,
    by rw [State.cycHeldBack, hp]⟩
  have limit : s.cycLimit = s.now := by rw [State.cycLimit, hp]
  rw [State.cycDue, hn]
  dsimp only
  rw [limit, if_pos ⟨hd, h0⟩]
  push_cast
  rfl

theorem does_cycleStart {n : Int} (hn : s.inv.cycNext = some n) (hd : n ≤ s.now) (hp : s.inv.cycPend = none)
    (h0 : s.get F.INV_CYC_OPER_PERIOD_PERIOD ≠ 0) :
    Does .cycleStart s fun t => ∃ k : Nat, 0 < k ∧ t.inv.cycNext = some (n + k * s.get F.INV_CYC_OPER_PERIOD_PERIOD) ∧
      s.now < n + k * s.get F.INV_CYC_OPER_PERIOD_PERIOD ∧ n + k * s.get F.INV_CYC_OPER_PERIOD_PERIOD ≤ s.now + s.get F.INV_CYC_OPER_PERIOD_PERIOD ∧
      t.get F.INV_CYC_CNT_COUNT = (s.get F.INV_CYC_CNT_COUNT + k) % 2 ^ 32 ∧ t.bit F.INV_CYC_STAT_RUNNING = true := by
  obtain ⟨after, within⟩ := next_point h0 hd
  obtain ⟨at_, due, free⟩ := cycTick_due hn hd hp h0
  generalize ((s.now - n) / (s.get F.INV_CYC_OPER_PERIOD_PERIOD : Int)).toNat + 1 = k at *
  obtain ⟨count, running, -, x, inv⟩ := cycIssue_shows s at_ k
  let u : State := { s.cycIssue at_ k with inv := { (s.cycIssue at_ k).inv with cycNext := some (n + (k : Int) * s.get F.INV_CYC_OPER_PERIOD_PERIOD) } }
  have tick : s.cycTick = (true, u) := by
    rw [State.cycTick, due]
    dsimp only
    rw [free]
    rfl
  have start : s.cycleStart = (u.pdsCycleStart at_).wakePds := by
    rw [State.cycleStart, due]
    dsimp only
    rw [tick]
    rfl
  have ucount : u.get F.INV_CYC_CNT_COUNT = _ := (State.get_of_regs (s := s.cycIssue at_ k) rfl _ _ _).trans count
  have urun : u.bit F.INV_CYC_STAT_RUNNING = true := (State.bit_of_regs (s := s.cycIssue at_ k) rfl _ _ _).trans running
  have unext : u.inv.cycNext = some (n + (k : Int) * s.get F.INV_CYC_OPER_PERIOD_PERIOD) := rfl
  generalize u = v at *
  obtain ⟨inv, low⟩ := wakePds_pdsCycleStart v at_
  refine does_of (u := s.cycleStart) rfl ⟨k, ?_, ?_, after, within, ?_, ?_⟩
  · by_contra h
    have : k = 0 := by omega
    rw [this] at after
    omega
  · rw [start, settled_inv, inv, unext]
  · rw [start, settled_get_free _ _ (by decide), low _ (by decide), ucount]
  · rw [start, settled_bit_free _ _ (by decide), State.bit, low _ (by decide)]
    exact urun

/-! ## The change time (R325) -/

/-- The registers of a change that takes effect. -/
def State.cycSwapRegs (s : State) (c : PendChange) : State :=
  (((s.put F.INV_CYC_OPER_PERIOD_PERIOD c.cycle).putTime F.INV_CYC_OPER_BASE_SEC_SEC F.INV_CYC_OPER_BASE_NS_NS c.base).put
    F.INV_CYC_STAT_CHG_PEND 0).evt F.INV_EVT_CYC_CHG_DONE

/-- The base of a change that takes effect. -/
def State.cycRebase (s : State) (c : PendChange) : State := { s with inv := { s.inv with cycPend := none, cycBase := c.base } }

theorem cycRebase_regs (s : State) (c : PendChange) : (s.cycRebase c).regs = s.regs := rfl

theorem cycRebase_inv (s : State) (c : PendChange) : (s.cycRebase c).inv = { s.inv with cycPend := none, cycBase := c.base } := rfl

/-- The registers and the state of a change that takes effect. -/
def State.cycSwap (s : State) (c : PendChange) : State := (s.cycSwapRegs c).cycRebase c

theorem cycSwap_shows (s : State) (c : PendChange) : (s.cycSwap c).get F.INV_CYC_OPER_PERIOD_PERIOD = c.cycle % 2 ^ 24 ∧
    (s.cycSwap c).inv = { s.inv with cycPend := none, cycBase := c.base } := by
  have inv : (s.cycSwapRegs c).inv = s.inv := State.evt_inv ..
  refine ⟨?_, by rw [State.cycSwap, cycRebase_inv, inv]⟩
  rw [State.cycSwap, State.get_of_regs (cycRebase_regs ..), State.cycSwapRegs, State.putTime, State.get_evt_free _ (by decide),
    State.get_put_free _ (by decide), State.get_put_free _ (by decide), State.get_put_free _ (by decide)]
  exact State.get_put_same _ _ _ _ _ (by decide)

/-- The starts of the old grid that have been passed before the change. -/
def State.cycPassed (s : State) : Nat := match s.cycDue with | some (_, n, _) => n | none => 0

theorem cycChangeTime_eq {c : PendChange} (hp : s.inv.cycPend = some c) (ht : c.tx ≤ s.now) : s.cycChangeTime =
    if (s.cycSwap c).inv.cycNext.isSome then
      let k := (((s.cycSwap c).now - c.tx) / (c.cycle : Int)).toNat
      let u := (s.cycSwap c).cycIssue (c.tx + k * c.cycle) (k + 1 + s.cycPassed)
      (true, { u with inv := { u.inv with cycNext := some (c.tx + (k + 1) * c.cycle) } })
    else (false, s.cycSwap c) := by
  unfold State.cycChangeTime
  rw [hp]
  dsimp only
  rw [if_neg (by omega)]
  rfl

theorem does_cycleChangeTime {c : PendChange} (hp : s.inv.cycPend = some c) (ht : c.tx ≤ s.now) : Does .cycleChangeTime s fun t =>
    t.inv.cycPend = none ∧ t.inv.cycBase = c.base ∧ t.get F.INV_CYC_OPER_PERIOD_PERIOD = c.cycle % 2 ^ 24 ∧
    (s.inv.cycNext = none → t.inv.cycNext = none) ∧
    (s.inv.cycNext ≠ none → c.cycle ≠ 0 → ∃ k : Nat, t.inv.cycNext = some (c.tx + k * c.cycle) ∧ s.now < c.tx + k * c.cycle) := by
  obtain ⟨period, inv⟩ := cycSwap_shows s c
  have eq := cycChangeTime_eq hp ht
  have now : (s.cycSwap c).now = s.now := by rw [State.now, State.dom, inv]; rfl
  rw [now] at eq
  have next : (s.cycSwap c).inv.cycNext = s.inv.cycNext := by rw [inv]
  refine does_of (u := s.cycleChanged) rfl ?_
  cases hn : s.inv.cycNext with
  | none =>
    rw [next, hn, Option.isSome_none, if_neg Bool.false_ne_true] at eq
    have changed : s.cycleChanged = s.cycSwap c := by
      unfold State.cycleChanged
      rw [eq]
      dsimp only
      rw [next, hn]
    rw [changed, settled_inv, settled_get_free _ _ (by decide), inv]
    exact ⟨rfl, rfl, period, fun _ => hn, fun h => absurd rfl h⟩
  | some n =>
    rw [next, hn, Option.isSome_some, if_pos rfl] at eq
    extract_lets k u at eq
    obtain ⟨-, -, upd, x, uinv⟩ := cycIssue_shows (s.cycSwap c) (c.tx + (k : Int) * c.cycle) (k + 1 + s.cycPassed)
    let v : State := { u with inv := { u.inv with cycNext := some (c.tx + ((k : Int) + 1) * c.cycle) } }
    have vperiod : v.get F.INV_CYC_OPER_PERIOD_PERIOD = c.cycle % 2 ^ 24 :=
      (State.get_of_regs (s := u) rfl _ _ _).trans (upd.trans period)
    have vinv : v.inv = { u.inv with cycNext := some (c.tx + ((k : Int) + 1) * c.cycle) } := rfl
    rw [show u.inv = _ from uinv, inv] at vinv
    have eq' : s.cycChangeTime = (true, v) := eq
    generalize v = w at *
    have changed : ∃ a, s.cycleChanged = (w.pdsCycleStart a).wakePds := by
      unfold State.cycleChanged
      rw [eq']
      dsimp only
      rw [vinv]
      exact ⟨_, rfl⟩
    obtain ⟨a, ha⟩ := changed
    obtain ⟨same, low⟩ := wakePds_pdsCycleStart w a
    rw [ha, settled_inv, settled_get_free _ _ (by decide), same, low _ (by decide), vinv]
    refine ⟨rfl, rfl, vperiod, nofun, ?_⟩
    intro _ h0
    exact ⟨k + 1, by push_cast; rfl, (next_point h0 ht).1⟩

/-- Settles O17: each write, change and start of the generator by the state it leaves; the service's part of a start keeps Invar. -/
theorem cycleGenerator : Obligations.CycleGenerator :=
  ⟨fun _ _ ho he hp => does_cycleGenEnable ho he hp, fun _ _ ho he => does_cycleGenDisable ho he,
    fun _ _ ho hp hc hb => does_cycleChangeGo ho hp hc hb, fun _ _ ho hp => does_cycleChangeCancel ho hp,
    fun _ _ hp ht => does_cycleChangeTime hp ht, fun _ _ hn hd hp h0 => does_cycleStart hn hd hp h0⟩

end Sys2Proof.Machine
end

section
set_option Elab.async false
/-! PROOFS. The timed pins (11_invar_time_unit.md R327 to R329). -/

namespace Sys2Proof.Machine

variable {s t u : State} {i : Nat}

/-! ## What drives a pin -/

theorem tio_setTio_same (s : State) (i : Nat) (v : Tio) : (s.setTio i v).tio i = v := tabGet_set_same ..

theorem tio_setTio_other (s : State) {i k : Nat} (h : k ≠ i) (v : Tio) : (s.setTio i v).tio k = s.tio k := tabGet_set_other _ _ _ h _

theorem tio_of_inv (h : t.inv = s.inv) (k : Nat) : t.tio k = s.tio k := by rw [State.tio, h, State.tio]

theorem settled_tio (b t : State) (k : Nat) : (settled b t).tio k = t.tio k := tio_of_inv (settled_inv b t) k

/-- A step of a pin: no register and no domain changes, nor does another pin. -/
structure PinStep (i : Nat) (s t : State) : Prop where
  regs : t.regs = s.regs
  dom : t.inv.dom = s.inv.dom
  others : ∀ k, k ≠ i → t.tio k = s.tio k

theorem PinStep.refl (s : State) : PinStep i s s := ⟨rfl, rfl, fun _ _ => rfl⟩

theorem PinStep.trans (h : PinStep i s t) (h' : PinStep i t u) : PinStep i s u :=
  ⟨h'.regs.trans h.regs, h'.dom.trans h.dom, fun k hk => (h'.others k hk).trans (h.others k hk)⟩

theorem PinStep.setTio (s : State) (v : Tio) : PinStep i s (s.setTio i v) := ⟨rfl, rfl, fun _ hk => tio_setTio_other s hk v⟩

theorem PinStep.get (h : PinStep i s t) (f : Fld) (k j : Nat) : t.get f k j = s.get f k j := State.get_of_regs h.regs f k j

theorem PinStep.now (h : PinStep i s t) (k : Nat) : t.tioNow k = s.tioNow k := by
  simp only [State.tioNow, State.tioDom, State.dom, h.get, h.dom]

theorem PinStep.keeps (h : PinStep i s t) (b : State) : s.keepsRegs (settled b t) [] := fun q k j hq =>
  (settled_reg b t q k j (not_pbaOff _ fun hp => hq (List.mem_append_right _ hp))).trans (State.keepsRegs_of_eq [] h.regs q k j hq)

/-- Driving a pin sets what it drives and the level at its ball. -/
theorem tioDrive_step (s : State) (i : Nat) (v : Option Bool) :
    PinStep i s (s.tioDrive i v) ∧ ∃ l, (s.tioDrive i v).tio i = { s.tio i with out := v, level := l } := by
  have drive : PinStep i s (s.setTio i { s.tio i with out := v }) := .setTio s _
  have pin := tio_setTio_same s i { s.tio i with out := v }
  unfold State.tioDrive State.tioShow
  generalize s.setTio i { s.tio i with out := v } = u at *
  split
  · exact ⟨drive, _, pin⟩
  split
  · exact ⟨drive, _, pin⟩
  · exact ⟨drive.trans ⟨rfl, rfl, fun _ hk => tio_setTio_other u hk _⟩, _, (tio_setTio_same u i _).trans (by rw [pin])⟩

theorem PinStep.tioFall (s : State) : PinStep i s (s.tioFall i) := by
  unfold State.tioFall
  dsimp only
  split
  · split
    · exact (PinStep.setTio s _).trans (tioDrive_step _ _ _).1
    · exact .refl s
  · exact .refl s

theorem PinStep.tioRise (s : State) : PinStep i s (s.tioRise i) := by
  unfold State.tioRise
  dsimp only
  split
  · split
    · exact (PinStep.setTio s _).trans (tioDrive_step _ _ _).1
    · exact .refl s
  · exact .refl s

theorem PinStep.tioAct (s : State) : PinStep i s (s.tioAct i) := by
  have pulse : PinStep i s (((s.tioFall i).tioRise i).tioFall i) := ((PinStep.tioFall s).trans (.tioRise _)).trans (.tioFall _)
  unfold State.tioAct
  split
  · exact .refl s
  split
  · split
    · exact (tioDrive_step _ _ _).1
    · exact .refl s
  · exact pulse
  · exact pulse
  · exact .refl s

/-! ## Enabling and disabling (R327, R328) -/

/-- Enabling a pin whose configuration is in order sets EN, and drives the pin. -/
theorem tioEnable_step (h : s.tioEnableOk i = true) : PinStep i (s.put F.INV_TIO_CFG_EN 1 i) (s.tioEnable i) := by
  unfold State.tioEnable
  rw [if_neg (by simp [h])]
  generalize s.put F.INV_TIO_CFG_EN 1 i = u
  dsimp only
  have drive : ∀ v, PinStep i u (u.tioDrive i v) := fun v => (tioDrive_step u i v).1
  split
  · exact (drive _).trans (.tioAct _)
  · exact ((drive _).trans (.setTio _ _)).trans (.tioAct _)
  · exact (drive _).trans (.setTio _ _)
  · exact drive _
  · exact drive _

theorem tioDisable_step (s : State) (i : Nat) : PinStep i (s.put F.INV_TIO_CFG_EN 0 i) (s.tioDisable i) ∧ ((s.tioDisable i).tio i).rise = [] ∧
    ((s.tioDisable i).tio i).fall = none ∧ ((s.tioDisable i).tio i).queue = (s.tio i).queue := by
  have same : (s.put F.INV_TIO_CFG_EN 0 i).tio i = s.tio i := tio_of_inv (s.setReg_inv ..) i
  unfold State.tioDisable
  generalize s.put F.INV_TIO_CFG_EN 0 i = u at *
  have clear : PinStep i u (u.setTio i { u.tio i with rise := [], fall := none }) := .setTio u _
  have pin := tio_setTio_same u i { u.tio i with rise := [], fall := none }
  dsimp only
  generalize u.setTio i { u.tio i with rise := [], fall := none } = v at *
  obtain ⟨step, l, hl⟩ := tioDrive_step v i (v.tioIdle i)
  rw [hl, pin, same]
  exact ⟨clear.trans step, rfl, rfl, rfl⟩

/-- What a row of a write leaves when its register's write sets flags: the access error, and the twin link. -/
theorem does_rowWrite_flags {c : Instr} {h : HostId} {r : RegSpec} {i j : Nat} {w : Word} {k : Nat} {u : State} {P : State → Prop}
    (he : exec c s = finish s (s.rowWrite (hostNum h) r i j w)) (ho : s.opens h r i j = true)
    (hw : s.regWrite (hostNum h) r i j 15 w = ([k], u))
    (hp : ∀ v, u.onlyRegs v → u.keepsRegs v [R.GLB_ACC_ERR.base, R.GLB_ACC_ADDR.base, R.GLB_ACC_INFO.base, R.GLB_ACC_DATA.base] →
      ∀ x, P (settled s { v with twn := x })) : Does c s P := by
  have row := rowWrite_opens h r i j w ho
  rw [hw] at row
  obtain ⟨x, hx⟩ := mirror_only (s := u.accErr [k] (hostNum h) 0 (r.addr i j) 15 true w) (hostNum h) (r.addr i j) 15 r [k] w
  rw [hx] at row
  exact does_of he (row ▸ hp _ (accErr_only ..) (fun _ _ _ hq => accErr_keeps _ _ _ _ _ _ _ _ _ _ hq) x)

theorem regWrite_tioCfg (s : State) (host i : Nat) (w : Word) : s.regWrite host R.INV_TIO_CFG i 0 15 w = s.tioCfgWrite i w := rfl

/-- The configuration of a pin that is not enabled, written. -/
def State.tioConfigured (s : State) (i : Nat) (w : Word) : State :=
  s.setReg R.INV_TIO_CFG ((s.reg R.INV_TIO_CFG i &&& ~~~ accMask R.INV_TIO_CFG (fun a => a == .rwe)) |||
    (w &&& accMask R.INV_TIO_CFG (fun a => a == .rwe))) i

/-- A pin that a write has disabled. -/
def PinOff (i : Nat) (s t : State) : Prop := t.bit F.INV_TIO_CFG_EN i = false ∧ (t.tio i).rise = [] ∧ (t.tio i).fall = none ∧
  (t.tio i).queue = (s.tio i).queue ∧ ∀ k, k ≠ i → t.tio k = s.tio k

theorem pinOff_tioDisable (s : State) (i : Nat) : PinOff i s (s.tioDisable i) := by
  obtain ⟨step, rise, fall, queue⟩ := tioDisable_step s i
  exact ⟨(State.bit_of_regs step.regs ..).trans (State.bit_put_zero _ (by decide) _ _), rise, fall, queue,
    fun k hk => (step.others k hk).trans (tio_of_inv (s.setReg_inv ..) k)⟩

theorem PinOff.of (h : PinOff i u t) (inv : u.inv = s.inv) : PinOff i s t := by
  obtain ⟨en, rise, fall, queue, others⟩ := h
  exact ⟨en, rise, fall, queue.trans (by rw [tio_of_inv inv]), fun k hk => (others k hk).trans (tio_of_inv inv k)⟩

theorem PinOff.settled (h : PinOff i s t) (hi : i < 16) (b : State) (en : u.bit F.INV_TIO_CFG_EN i = t.bit F.INV_TIO_CFG_EN i) (inv : u.inv = t.inv) :
    PinOff i s (settled b u) := by
  obtain ⟨off, rise, fall, queue, others⟩ := h
  have tio : ∀ k, (Machine.settled b u).tio k = t.tio k := fun k => (settled_tio b u k).trans (tio_of_inv inv k)
  rw [PinOff, tio, settled_bit _ _ _ _ _ (not_pba (by decide) ⟨hi, by decide⟩), en]
  exact ⟨off, rise, fall, queue, fun k hk => (tio k).trans (others k hk)⟩

/-- No pin's configuration lies in the registers of access errors or among the PBA words. -/
theorem tioCfg_beside : ∀ i : Fin 16, R.INV_TIO_CFG.off i 0 ∉
    [R.GLB_ACC_ERR.base, R.GLB_ACC_ADDR.base, R.GLB_ACC_INFO.base, R.GLB_ACC_DATA.base] ++ pbaOffs := by decide

theorem does_tioDisable {h : HostId} {i : Fin 16} {cfg : BitVec 11} (ho : s.opens h R.INV_TIO_CFG i 0 = true) :
    Does (.tioDisable h i cfg) s (PinOff i s) := by
  have low : getBits (word cfg.toNat) 31 31 = 0 := by
    have := cfg.isLt
    rw [getBits_word]
    omega
  have write := regWrite_tioCfg s (hostNum h) i (word cfg.toNat)
  rw [State.tioCfgWrite, low] at write
  cases was : s.bit F.INV_TIO_CFG_EN i with
  | false =>
    have write' : s.regWrite (hostNum h) R.INV_TIO_CFG i 0 15 (word cfg.toNat) = ([], (s.tioConfigured i (word cfg.toNat)).tioDisable i) := by
      rw [write, was]
      rfl
    have off := (pinOff_tioDisable (s.tioConfigured i (word cfg.toNat)) i).of (s := s) (s.setReg_inv ..)
    generalize (s.tioConfigured i (word cfg.toNat)).tioDisable i = v at *
    exact does_rowWrite rfl ho write' fun x => off.settled i.isLt s (State.bit_of_regs (s := v) rfl ..) rfl
  | true =>
    have write' : s.regWrite (hostNum h) R.INV_TIO_CFG i 0 15 (word cfg.toNat) = ([flGATED], s.tioDisable i) := by
      rw [write, was]
      rfl
    have off := pinOff_tioDisable s i
    generalize s.tioDisable i = v at *
    refine does_rowWrite_flags rfl ho write' fun e only keeps x => off.settled i.isLt s ?_ ?_
    · refine (State.bit_of_regs (s := e) rfl ..).trans ?_
      rw [State.bit, State.get, show e.reg F.INV_TIO_CFG_EN.reg i = _ from keeps _ _ _ (tioCfg_beside i)]
      rfl
    · obtain ⟨r, x, y, rfl⟩ := only
      rfl

theorem does_tioEnable {h : HostId} {i : Fin 16} {cfg : BitVec 11} (ho : s.opens h R.INV_TIO_CFG i 0 = true)
    (was : s.bit F.INV_TIO_CFG_EN i = false) (ok : (s.tioConfigured i (word (2 ^ 31 + cfg.toNat))).tioEnableOk i = true) :
    Does (.tioEnable h i cfg) s fun t => t.bit F.INV_TIO_CFG_EN i = true ∧ s.keepsRegs t [R.INV_TIO_CFG.off i 0] ∧
      ∀ k, k ≠ i.val → t.tio k = s.tio k := by
  have high : getBits (word (2 ^ 31 + cfg.toNat)) 31 31 = 1 := by
    have := cfg.isLt
    rw [getBits_word]
    omega
  have write : s.regWrite (hostNum h) R.INV_TIO_CFG i 0 15 (word (2 ^ 31 + cfg.toNat)) =
      ([], (s.tioConfigured i (word (2 ^ 31 + cfg.toNat))).tioEnable i) := by
    rw [regWrite_tioCfg, State.tioCfgWrite, high, was]
    rfl
  have keeps : s.keepsRegs (s.tioConfigured i (word (2 ^ 31 + cfg.toNat))) [R.INV_TIO_CFG.off i 0] :=
    State.keepsRegs_setReg (State.keepsRegs_refl _) _ _ _ _ List.mem_cons_self
  have inv : (s.tioConfigured i (word (2 ^ 31 + cfg.toNat))).inv = s.inv := s.setReg_inv ..
  generalize s.tioConfigured i (word (2 ^ 31 + cfg.toNat)) = u at *
  have step := tioEnable_step ok
  have keeps' : s.keepsRegs (u.put F.INV_TIO_CFG_EN 1 i) [R.INV_TIO_CFG.off i 0] := State.keepsRegs_put keeps _ _ _ _ List.mem_cons_self
  have en : (u.tioEnable i).bit F.INV_TIO_CFG_EN i = true :=
    (State.bit_of_regs step.regs ..).trans (State.bit_put_one _ (by decide) (by decide) _ _)
  have others : ∀ k, k ≠ i.val → (u.tioEnable i).tio k = s.tio k := fun k hk =>
    (step.others k hk).trans (tio_of_inv ((u.setReg_inv ..).trans inv) k)
  have regs := step.regs
  generalize u.tioEnable i = v at *
  refine does_rowWrite rfl ho write fun x => ⟨?_, ?_, fun k hk => (settled_tio _ _ k).trans (others k hk)⟩
  · rw [settled_bit _ _ _ _ _ (not_pba (by decide) ⟨i.isLt, by decide⟩)]
    exact (State.bit_of_regs (s := v) rfl ..).trans en
  · exact settled_keeps _ _ _ (State.keepsRegs_trans (State.keepsRegs_trans keeps' (State.keepsRegs_of_eq _ regs)) (State.keepsRegs_of_eq _ rfl))

/-! ## Edges driven (R327, R328) -/

theorem does_tioLevel {i : Fin 16} (en : s.bit F.INV_TIO_CFG_EN i = true) (live : s.tioFrozen i = false)
    (mode : s.get F.INV_TIO_CFG_MODE i = 4) (due : s.tioT i ≤ s.tioNow i) :
    Does (.tioOutputEdge i) s fun t => (t.tio i).out = some (s.bit F.INV_TIO_CFG_LEVEL i) ∧ s.keepsRegs t [] := by
  have act : s.tioAct i = s.tioDrive i (some (s.bit F.INV_TIO_CFG_LEVEL i)) := by
    unfold State.tioAct
    rw [en, live, mode, if_neg (by decide)]
    exact if_pos due
  obtain ⟨step, l, hl⟩ := tioDrive_step s i (some (s.bit F.INV_TIO_CFG_LEVEL i))
  refine does_of (u := s.tioAct i) rfl ?_
  rw [act]
  exact ⟨by rw [settled_tio, hl], step.keeps _⟩

theorem tioFall_none (h : (s.tio i).fall = none) : s.tioFall i = s := by
  unfold State.tioFall
  dsimp only
  rw [h]

theorem tioFall_later {f : Int} (h : (s.tio i).fall = some f) (hf : s.tioNow i < f) : s.tioFall i = s := by
  unfold State.tioFall
  dsimp only
  rw [h]
  exact if_neg fun ⟨le, _⟩ => by omega

theorem does_tioCycle {i : Fin 16} {r : Int} {rest : List Int} (en : s.bit F.INV_TIO_CFG_EN i = true) (live : s.tioFrozen i = false)
    (mode : s.get F.INV_TIO_CFG_MODE i = 6) (rise : (s.tio i).rise = r :: rest) (due : r ≤ s.tioNow i) (fall : (s.tio i).fall = none)
    (wide : s.tioNow i < r + s.get F.INV_TIO_WIDTH_WIDTH i) :
    Does (.tioOutputEdge i) s fun t => (t.tio i).out = some true ∧ (t.tio i).rise = rest ∧
      (t.tio i).fall = some (r + s.get F.INV_TIO_WIDTH_WIDTH i) ∧ s.keepsRegs t [] := by
  let planned : Tio := { s.tio i with rise := rest, fall := some (r + s.get F.INV_TIO_WIDTH_WIDTH i) }
  have risen : s.tioRise i = (s.setTio i planned).tioDrive i (some true) := by
    unfold State.tioRise
    dsimp only
    rw [rise, mode]
    exact if_pos due
  have plan : PinStep i s (s.setTio i planned) := .setTio s _
  have pin := tio_setTio_same s i planned
  obtain ⟨step, l, hl⟩ := tioDrive_step (s.setTio i planned) i (some true)
  rw [← risen, pin] at hl
  rw [← risen] at step
  have whole := plan.trans step
  have act : s.tioAct i = s.tioRise i := by
    unfold State.tioAct
    rw [en, live, mode, if_neg (by decide), tioFall_none fall]
    exact tioFall_later (by rw [hl]) (by rw [whole.now]; exact wide)
  refine does_of (u := s.tioAct i) rfl ?_
  rw [act]
  rw [settled_tio, hl]
  exact ⟨rfl, rfl, rfl, whole.keeps _⟩

/-! ## Edges captured (R329) -/

/-- A pin with the level that its edge leaves. -/
def State.tioSensed (s : State) (i : Nat) (rising : Bool) : State := s.setTio i { s.tio i with level := rising }

/-- The capture of an edge. -/
def State.tioStamp (s : State) (i : Nat) (rising : Bool) (sub : Nat) : Capture :=
  { sec := ((domRound (s.dom (s.tioDom i)) + sub) / 1000000000).toNat % 2 ^ 48, ns := ((domRound (s.dom (s.tioDom i)) + sub) % 1000000000).toNat,
    rising := rising, gen := if (s.get F.INV_STAT_GEN).testBit (s.tioDom i) then 1 else 0 }

theorem tioCapture_wanted {rising : Bool} {sub : Nat} (en : s.bit F.INV_TIO_CFG_EN i = true) (runs : s.domRuns (s.tioDom i) = true)
    (mode : s.get F.INV_TIO_CFG_MODE i = 3 ∨ s.get F.INV_TIO_CFG_MODE i = (if rising then 1 else 2)) :
    s.tioCapture i rising sub =
      if (s.tio i).queue.length < 4 then
        ((s.tioSensed i rising).setTio i { s.tio i with level := rising, queue := (s.tio i).queue ++ [s.tioStamp i rising sub] }).evt F.INV_EVT_TIO_CAP
      else ((s.tioSensed i rising).inc F.INV_TIO_STAT_OVF i).evt F.INV_EVT_TIO_OVF := by
  have pin : (s.tioSensed i rising).tio i = { s.tio i with level := rising } := tio_setTio_same ..
  have wanted : ((s.get F.INV_TIO_CFG_MODE i == 1 && rising) || (s.get F.INV_TIO_CFG_MODE i == 2 && !rising) ||
      s.get F.INV_TIO_CFG_MODE i == 3) = true := by
    rcases mode with mode | mode
    · rw [mode]; simp
    · cases rising <;> simp [mode]
  have whole : (s.bit F.INV_TIO_CFG_EN i && ((s.get F.INV_TIO_CFG_MODE i == 1 && rising) || (s.get F.INV_TIO_CFG_MODE i == 2 && !rising) ||
      s.get F.INV_TIO_CFG_MODE i == 3) && s.domRuns (s.tioDom i)) = true := by rw [en, wanted, runs]; rfl
  have unfolded : s.tioCapture i rising sub =
      if (s.bit F.INV_TIO_CFG_EN i && ((s.get F.INV_TIO_CFG_MODE i == 1 && rising) || (s.get F.INV_TIO_CFG_MODE i == 2 && !rising) ||
        s.get F.INV_TIO_CFG_MODE i == 3) && s.domRuns (s.tioDom i)) = true then
        if ((s.tioSensed i rising).tio i).queue.length < 4 then
          ((s.tioSensed i rising).setTio i { (s.tioSensed i rising).tio i with
            queue := ((s.tioSensed i rising).tio i).queue ++ [s.tioStamp i rising sub] }).evt F.INV_EVT_TIO_CAP
        else ((s.tioSensed i rising).inc F.INV_TIO_STAT_OVF i).evt F.INV_EVT_TIO_OVF
      else s.tioSensed i rising := rfl
  rw [unfolded, if_pos whole, pin]

theorem does_tioCaptured {i : Fin 16} {rising : Bool} {sub : Fin 2} (en : s.bit F.INV_TIO_CFG_EN i = true)
    (runs : s.domRuns (s.tioDom i) = true) (mode : s.get F.INV_TIO_CFG_MODE i = 3 ∨ s.get F.INV_TIO_CFG_MODE i = (if rising then 1 else 2))
    (room : (s.tio i).queue.length < 4) : Does (.tioCapture i rising sub) s fun t =>
      (∃ c, (t.tio i).queue = (s.tio i).queue ++ [c] ∧ c.rising = rising ∧
        (c.ns : Int) = (domRound (s.dom (s.tioDom i)) + sub.val) % 1000000000) ∧
      t.bit F.INV_EVT_TIO_CAP = true ∧ s.keepsRegs t [R.INV_EVT.base] := by
  let w : Tio := { s.tio i with level := rising, queue := (s.tio i).queue ++ [s.tioStamp i rising sub] }
  have capture : s.tioCapture i rising sub = ((s.tioSensed i rising).setTio i w).evt F.INV_EVT_TIO_CAP :=
    (tioCapture_wanted en runs mode).trans (if_pos room)
  have pin : ((s.tioSensed i rising).setTio i w).tio i = w := tio_setTio_same ..
  have regs : ((s.tioSensed i rising).setTio i w).regs = s.regs := rfl
  have queue : w.queue = (s.tio i).queue ++ [s.tioStamp i rising sub] := rfl
  refine does_of (u := s.tioCapture i rising sub) rfl ?_
  rw [capture]
  generalize (s.tioSensed i rising).setTio i w = v at *
  refine ⟨⟨s.tioStamp i rising sub, ?_, rfl, ?_⟩, ?_, settled_keeps _ _ _ (State.keepsRegs_evt (State.keepsRegs_of_eq _ regs) _ _ _ (by decide))⟩
  · rw [settled_tio, tio_of_inv (v.evt_inv ..), pin, queue]
  · exact Int.toNat_of_nonneg (Int.emod_nonneg _ (by decide))
  · rw [settled_bit_free _ _ (by decide)]
    exact State.bit_evt_same _ _ _ _ (by decide) (by decide)

theorem does_tioLost {i : Fin 16} {rising : Bool} {sub : Fin 2} (en : s.bit F.INV_TIO_CFG_EN i = true)
    (runs : s.domRuns (s.tioDom i) = true) (mode : s.get F.INV_TIO_CFG_MODE i = 3 ∨ s.get F.INV_TIO_CFG_MODE i = (if rising then 1 else 2))
    (full : 4 ≤ (s.tio i).queue.length) : Does (.tioCapture i rising sub) s fun t =>
      (t.tio i).queue = (s.tio i).queue ∧ t.get F.INV_TIO_STAT_OVF i = min (s.get F.INV_TIO_STAT_OVF i + 1) 255 ∧
      t.bit F.INV_EVT_TIO_OVF = true ∧ s.keepsRegs t [R.INV_EVT.base, R.INV_TIO_STAT.off i 0] := by
  have capture : s.tioCapture i rising sub = ((s.tioSensed i rising).inc F.INV_TIO_STAT_OVF i).evt F.INV_EVT_TIO_OVF :=
    (tioCapture_wanted en runs mode).trans (if_neg (by omega))
  have queue : ((s.tioSensed i rising).tio i).queue = (s.tio i).queue := by rw [State.tioSensed, tio_setTio_same]
  have regs : (s.tioSensed i rising).regs = s.regs := rfl
  refine does_of (u := s.tioCapture i rising sub) rfl ?_
  rw [capture]
  generalize s.tioSensed i rising = v at *
  have keeps : s.keepsRegs (v.inc F.INV_TIO_STAT_OVF i) [R.INV_EVT.base, R.INV_TIO_STAT.off i 0] :=
    State.keepsRegs_put (State.keepsRegs_of_eq _ regs) _ _ _ _ (List.mem_cons_of_mem _ List.mem_cons_self)
  refine ⟨?_, ?_, ?_, settled_keeps _ _ _ (State.keepsRegs_evt keeps _ _ _ List.mem_cons_self)⟩
  · rw [settled_tio, tio_of_inv (State.evt_inv ..), tio_of_inv (t := v.inc F.INV_TIO_STAT_OVF i) (s := v) rfl, queue]
  · rw [settled_get _ _ _ _ _ (not_pba (by decide) ⟨i.isLt, by decide⟩), State.get_evt_other _ _ _ _ _ _ _ (off_ne (by decide) ⟨i.isLt, by decide⟩ (by decide)),
      State.get_inc_same _ _ _ _ _ (by decide), State.get_of_regs regs]
    rfl
  · rw [settled_bit_free _ _ (by decide)]
    exact State.bit_evt_same _ _ _ _ (by decide) (by decide)

/-! ## Captures read (R329) -/

/-- The word of a capture. -/
def capWord (c : Capture) : Word := BitVec.ofNat 32 (2 ^ 31 + (if c.rising then 2 ^ 30 else 0) + c.ns)

theorem rsvdShown_capNs (s : State) (host i : Nat) : s.rsvdShown host R.INV_TIO_CAP_NS i 0 = 0 := by
  have none : R.INV_TIO_CAP_NS.rsvdMask = 0 := by decide
  unfold State.rsvdShown
  split
  · rfl
  · rw [State.rsvdHeld, none]
    exact BitVec.and_zero

theorem regRead_capNs {c : Capture} {rest : List Capture} (s : State) (host a i : Nat) (hq : (s.tio i).queue = c :: rest) :
    s.regRead host a R.INV_TIO_CAP_NS i 0 = (capWord c,
      ((s.setTio i { s.tio i with queue := rest }).put F.INV_TIO_CAP_SEC_SEC c.sec i).put F.INV_TIO_STAT_GEN c.gen i) := by
  have read : s.tioCapRead i = (capWord c,
      ((s.setTio i { s.tio i with queue := rest }).put F.INV_TIO_CAP_SEC_SEC c.sec i).put F.INV_TIO_STAT_GEN c.gen i) := by
    unfold State.tioCapRead
    dsimp only
    rw [hq]
    rfl
  have row : s.regRead host a R.INV_TIO_CAP_NS i 0 = ((s.tioCapRead i).1 ||| s.rsvdShown host R.INV_TIO_CAP_NS i 0, (s.tioCapRead i).2) := rfl
  rw [row, read, rsvdShown_capNs]
  simp

theorem does_tioCaptureRead {h : HostId} {i : Fin 16} {c : Capture} {rest : List Capture} (hr : s.reaches h R.INV_TIO_CAP_NS i 0 = true)
    (hq : (s.tio i).queue = c :: rest) : Does (.tioCaptureRead h i) s fun t =>
      (t.tio i).queue = rest ∧ t.get F.INV_TIO_CAP_SEC_SEC i = c.sec % 2 ^ 32 ∧
      t.out = s.out ++ [.readData (hostNum h) (BitVec.ofNat 64 (capWord c).toNat)] ∧
      s.keepsRegs t [R.INV_TIO_CAP_SEC.off i 0, R.INV_TIO_STAT.off i 0] := by
  have read := regRead_capNs s (hostNum h) (R.INV_TIO_CAP_NS.addr i 0) i hq
  have queue : ((s.setTio i { s.tio i with queue := rest }).tio i).queue = rest := by rw [tio_setTio_same]
  have regs : (s.setTio i { s.tio i with queue := rest }).regs = s.regs := rfl
  have out : (s.setTio i { s.tio i with queue := rest }).out = s.out := rfl
  generalize s.setTio i { s.tio i with queue := rest } = v at *
  have sec : s.keepsRegs (v.put F.INV_TIO_CAP_SEC_SEC c.sec i) [R.INV_TIO_CAP_SEC.off i 0, R.INV_TIO_STAT.off i 0] :=
    State.keepsRegs_put (State.keepsRegs_of_eq _ regs) _ _ _ _ List.mem_cons_self
  have keeps := State.keepsRegs_put sec F.INV_TIO_STAT_GEN c.gen i 0 (List.mem_cons_of_mem _ List.mem_cons_self)
  have inv : ((v.put F.INV_TIO_CAP_SEC_SEC c.sec i).put F.INV_TIO_STAT_GEN c.gen i).inv = v.inv := rfl
  have out' : ((v.put F.INV_TIO_CAP_SEC_SEC c.sec i).put F.INV_TIO_STAT_GEN c.gen i).out = v.out := rfl
  have got : ((v.put F.INV_TIO_CAP_SEC_SEC c.sec i).put F.INV_TIO_STAT_GEN c.gen i).get F.INV_TIO_CAP_SEC_SEC i = c.sec % 2 ^ 32 := by
    rw [State.get_put_other _ _ _ _ _ _ _ _ (off_ne (by decide) ⟨i.isLt, by decide⟩ ⟨i.isLt, by decide⟩)]
    exact State.get_put_same _ _ _ _ _ (by decide)
  generalize (v.put F.INV_TIO_CAP_SEC_SEC c.sec i).put F.INV_TIO_STAT_GEN c.gen i = u at *
  refine does_rowRead rfl hr read ⟨?_, ?_, ?_, settled_keeps _ _ _ (State.keepsRegs_trans keeps (State.keepsRegs_of_eq _ rfl))⟩
  · rw [settled_tio, tio_of_inv (t := u.emit _) (s := v) inv, queue]
  · rw [settled_get _ _ _ _ _ (not_pba (by decide) ⟨i.isLt, by decide⟩)]
    exact (State.get_of_regs (s := u) rfl ..).trans got
  · rw [settled_out]
    exact congrArg (· ++ _) (out'.trans out)

/-- Settles O18: a pin is configured, driven and read by steps that leave every other pin alone. -/
theorem timedPins : Obligations.TimedPins :=
  ⟨fun _ _ _ _ ho => ⟨does_tioDisable ho, fun was ok => does_tioEnable ho was ok⟩,
    fun _ _ en live => ⟨fun mode due => does_tioLevel en live mode due,
      fun _ _ mode rise due fall wide => does_tioCycle en live mode rise due fall wide⟩,
    fun _ _ _ _ en runs mode => ⟨fun room => does_tioCaptured en runs mode room, fun full => does_tioLost en runs mode full⟩,
    fun _ _ _ _ _ hr hq => does_tioCaptureRead hr hq⟩

end Sys2Proof.Machine
end

section
set_option Elab.async false
/-! PROOFS. Mode requests and the switch point (02_operating_modes.md R41 to R45). -/

namespace Sys2Proof.Machine

variable {s t u : State}

/-! ## What the service and the schedulers do at a switch point -/

theorem Low.bpmAlloc (s : State) (size user : Nat) (place : Option Bool) (names : List Nat) : Low s (s.bpmAlloc size user place names).2.2 := by
  unfold State.bpmAlloc
  split
  · exact Low.evt (f := F.BPM_EVT_FAIL) (Low.refl s)
  · have failed : ∀ k, Low s ((s.inc F.BPM_POOL_FAIL_COUNT k).evt F.BPM_EVT_FAIL) := fun _ => Low.evt (Low.inc (Low.refl s))
    dsimp only
    split
    · split
      · exact failed _
      · exact Low.poolSet _ _ _
    · exact failed _

theorem Low.pdsBuffers (size : Nat) (names : List Nat) (n : Nat) (s : State) (acc : List Nat) : Low s (s.pdsBuffers size names n acc).2 := by
  induction n generalizing s acc with
  | zero => exact Low.refl s
  | succ n ih =>
    have alloc := Low.bpmAlloc s size userPDS (some false) names
    unfold State.pdsBuffers
    split
    · next h v e =>
      rw [e] at alloc
      exact alloc.trans (ih v _)
    · next v _ e =>
      rw [e] at alloc
      exact alloc.trans (Low.foldl (Low.refl v) _ fun w h => Low.foldl (Low.refl w) _ fun _ _ => Low.hwRelease _ _ _)

theorem Low.pdsStore (s : State) (hs : List Nat) (b : List Byte) : Low s (s.pdsStore hs b) := by
  unfold State.pdsStore
  split
  · exact Low.sramWrite _ _ _
  · exact Low.foldl (Low.refl s) _ fun u _ => (Low.sramWrite _ u _).trans (Low.sramWrite _ _ _)

theorem Low.retRelease (s : State) (r : Option Retained) : Low s (s.retRelease r) := by
  unfold State.retRelease
  split
  · exact Low.foldl (Low.refl s) _ fun _ _ => Low.hwRelease _ _ _
  · exact Low.refl s

theorem Low.pdsBuild (s : State) (slot : Bool) (i : Nat) (body : List Byte) (port queue : Nat) (timed : Bool) (ofs : Nat) (start at_ : Int) (cnt : Nat) :
    Low s (s.pdsBuild slot i body port queue timed ofs start at_ cnt) := by
  unfold State.pdsBuild
  extract_lets b n names
  have taken := Low.pdsBuffers (if n = 1 then b.length else 1024) names n s []
  split
  · next v e =>
    rw [e] at taken
    exact Low.evt (Low.pdsCnt taken)
  · next hs v e =>
    rw [e] at taken
    extract_lets w r
    have inserted := (taken.trans (Low.pdsStore v hs b)).trans (Low.pdsInsert w r b start at_)
    generalize w.pdsInsert r b start at_ = x at *
    obtain ⟨ok, x⟩ := x
    dsimp only
    have counted : Low s (if ok then x.pdsCnt cnt else x) := Low.ite (Low.pdsCnt inserted) inserted
    generalize (if ok then x.pdsCnt cnt else x) = y at *
    exact Low.ite (Low.setPds (counted.trans (Low.retRelease _ _))) (Low.setPds (counted.trans (Low.retRelease _ _)))

theorem Low.linkRun (s : State) (g : Option Gather) (i : Nat) : Low s (s.linkRun g i).2 := by
  unfold State.linkRun
  extract_lets l src dst xs xd so dof stale x p y u v rlim y' w z
  split
  · exact Low.pdsCnt (Low.refl s)
  split
  · exact Low.refl s
  · have counted : Low s v := Low.ite (Low.pdsCnt (Low.refl s)) (Low.evt (Low.pdsCnt (Low.pdsCnt (Low.refl s))))
    have limited : Low s w := Low.ite counted (Low.evt (Low.pdsCnt counted))
    exact Low.setPds (limited.trans (Low.sramWrite _ _ _))

theorem Low.gatherStep (s : State) (st : GatherStep) : Low s (s.gatherStep st) := by
  unfold State.gatherStep
  split
  · exact Low.refl s
  dsimp only
  split
  · exact Low.setPds (Low.linkRun _ _ _)
  · refine Low.foldl (Low.setPds (Low.refl s)) _ fun u _ => ?_
    unfold State.slotVirtualDone
    exact Low.ite (Low.setPds (Low.refl u)) (Low.setPds (Low.refl u))
  · exact Low.setPds (Low.refl s)
  · exact (Low.setPds (Low.refl s)).trans (Low.pdsBuild _ _ _ _ _ _ _ _ _ _ _)

theorem Low.gatherRest (s : State) : Low s s.gatherRest := by
  unfold State.gatherRest
  split
  · exact Low.refl s
  · exact Low.put (Low.setPds (Low.foldl (Low.refl s) _ fun _ _ => Low.gatherStep _ _))

theorem Low.retReleaseAll (s : State) : Low s s.retReleaseAll :=
  Low.setPds (Low.foldl (Low.foldl (Low.refl s) _ fun _ _ => Low.retRelease _ _) _ fun _ _ => Low.retRelease _ _)

theorem Low.stopPort (s : State) (p : Nat) (x : Int) : Low s (s.stopPort p x) := by
  unfold State.stopPort
  dsimp only
  exact Low.ite (Low.refl s) (Low.pdsCnt (Low.foldl ((Low.setEg (Low.refl s)).trans (Low.calReport _ _ _)) _ fun _ _ => Low.egressRelease _ _ _))

theorem Low.pdsStop (s : State) (x : Int) : Low s (s.pdsStop x) := by
  unfold State.pdsStop
  refine Low.ite (Low.refl s) (Low.put (Low.trans (Low.foldl ?_ _ fun _ _ => Low.stopPort _ _ _) (Low.pdsApply _)))
  exact ((Low.setPds (Low.refl s)).trans (Low.gatherRest _)).trans (Low.retReleaseAll _)

theorem Low.setWeight (s : State) (p q w : Nat) : Low s (s.setWeight p q w) := by
  unfold State.setWeight
  split <;> exact Low.put (Low.refl s)

theorem Low.adpEnter (s : State) (x : Int) : Low s (s.adpEnter x) :=
  Low.foldl (Low.same (Low.refl s)) _ fun u _ => Low.ite (Low.foldl (Low.refl u) _ fun _ _ => Low.setWeight _ _ _ _) (Low.refl u)

theorem Low.adpLeave (s : State) (x : Int) : Low s (s.adpLeave x) :=
  Low.foldl (Low.same (Low.refl s)) _ fun u _ => Low.ite (Low.refl u) (Low.foldl (Low.refl u) _ fun _ _ => Low.setWeight _ _ _ _)

theorem Low.epochState (s : State) (x : Nat) : Low s (s.epochState x) := Low.put (Low.put (Low.refl s))

theorem Low.unlockEpoch (s : State) : Low s s.unlockEpoch := by
  unfold State.unlockEpoch
  exact Low.ite (Low.refl s) (Low.ite (Low.same (Low.refl s)) ((Low.same (Low.refl s)).trans (Low.epochState _ _)))

theorem Low.mode (h : Low s t) : t.mode = s.mode := h.get _ (by decide)

/-! ## Requests (R41) -/

theorem mode_lt (s : State) : s.mode < 8 := s.get_lt F.GLB_MODE_CUR 0 0

theorem regWrite_modeReq {host : Nat} (key : Byte) (mode : Fin 8) (he : s.episode = false) :
    s.regWrite host R.GLB_MODE_REQ 0 0 15 (word (key.toNat * 256 + mode.val)) = ([], s.modeRequest key.toNat mode) := by
  have hk := key.isLt
  have hm := mode.isLt
  have key' : keyOf (word (key.toNat * 256 + mode.val)) = key.toNat := by
    rw [keyOf, getBits_word]
    omega
  have mode' : getBits (word (key.toNat * 256 + mode.val)) 2 0 = mode.val := by
    rw [getBits_word]
    omega
  have write : s.regWrite host R.GLB_MODE_REQ 0 0 15 (word (key.toNat * 256 + mode.val)) =
      ([], if s.episode then s else s.modeRequest (keyOf (word (key.toNat * 256 + mode.val))) (getBits (word (key.toNat * 256 + mode.val)) 2 0)) := rfl
  rw [write, he, key', mode']
  rfl

/-- A refused request shows its reason. -/
theorem does_modeRefused {h : HostId} {key : Byte} {mode : Fin 8} {r : Nat} (ho : s.opens h R.GLB_MODE_REQ 0 0 = true) (he : s.episode = false)
    (hr : s.judgeMode key.toNat mode = r) (h0 : r ≠ 0) (h16 : r < 16) :
    Does (.modeRequest h key mode) s fun t => t.get F.GLB_MODE_STAT_REASON = r ∧ t.bit F.GLB_MODE_STAT_REFUSED = true ∧
      s.keepsRegs t [R.GLB_MODE_STAT.base] ∧ s.onlyRegs t := by
  have refused : s.modeRequest key.toNat mode = s.modeRefuse r := by
    rw [State.modeRequest, hr]
    dsimp only
    rw [if_neg (by omega), if_pos h0]
  have write := regWrite_modeReq (s := s) (host := hostNum h) key mode he
  rw [refused] at write
  refine does_rowWrite_own rfl ho (by decide) write ⟨?_, ?_, settled_keeps _ _ _ ?_, settled_onlyRegs ?_⟩
  · rw [settled_get_free _ _ (by decide), State.modeRefuse, State.get_evt_beside _ (by decide) (by decide) (by decide)]
    exact State.get_put_fits _ (by decide) h16 _ _
  · rw [settled_bit_free _ _ (by decide)]
    exact State.bit_evt_same _ _ _ _ (by decide) (by decide)
  · exact State.keepsRegs_evt (State.keepsRegs_put (State.keepsRegs_refl _) _ _ _ _ (by decide)) _ _ _ (by decide)
  · exact State.onlyRegs_evt (State.onlyRegs_put State.onlyRegs_refl _ _ _ _) _ _ _

theorem judgeMode_key {key : Byte} (target : Nat) (hk : key ≠ 0xA5) : s.judgeMode key.toNat target = 1 := by
  have : key.toNat ≠ 0xA5 := fun e => hk (BitVec.eq_of_toNat_eq e)
  unfold State.judgeMode
  dsimp only
  rw [if_pos this]

theorem judgeMode_hold (target : Nat) (hm : s.mode = modeHOLD) : s.judgeMode 0xA5 target = 2 := by
  unfold State.judgeMode
  dsimp only
  rw [if_neg (by decide), if_pos hm]

theorem judgeMode_transit (target : Nat) (hm : s.mode ≠ modeHOLD) (ht : s.bit F.GLB_MODE_TRANSIT = true) : s.judgeMode 0xA5 target = 3 := by
  unfold State.judgeMode
  dsimp only
  rw [if_neg (by decide), if_neg hm, if_pos ht]

/-- The modes among which software chooses without a prerequisite. -/
def freeModes : List Nat := [modeBRIDGE, modeSCHEDULED, modeADAPTIVE]

theorem judgeMode_forwarding {target : Nat} (cur : forwarding s.mode = true) (mem : target ∈ freeModes) (ne : target ≠ s.mode)
    (still : s.bit F.GLB_MODE_TRANSIT = false) (alone : s.bit F.TWN_CTRL_EN = false)
    (permit : (s.get F.GLB_MODE_PERMIT_PERMIT).testBit target = true) : s.judgeMode 0xA5 target = 0 := by
  have range : 1 ≤ s.mode ∧ s.mode ≤ 4 := by simpa [forwarding] using cur
  have target_range : forwarding target = true ∧ target ≠ modeSERVICE ∧ target ≠ modePEWTER := by
    simp only [freeModes, List.mem_cons, List.not_mem_nil, or_false] at mem
    rcases mem with rfl | rfl | rfl <;> decide
  obtain ⟨fwd, notService, notPewter⟩ := target_range
  have notLoad : s.mode ≠ modeLOAD := by simp only [modeLOAD]; omega
  have notMaint : s.mode ≠ modeMAINTENANCE := by simp only [modeMAINTENANCE]; omega
  have path : modePath s.mode (s.get F.GLB_MODE_PREV) target = true := by
    rw [modePath, if_neg notLoad, if_pos cur, fwd]
    rfl
  have permits : s.permits target = true := by
    rw [State.permits, permit, Bool.or_true]
  have prereq : s.modePrereq target = true := by
    rw [State.modePrereq, if_neg fun h => notMaint h.1, if_neg notService, if_neg notPewter]
  unfold State.judgeMode
  dsimp only
  rw [if_neg (by decide), if_neg (by simp only [modeHOLD]; omega), still, if_neg (by decide), alone, Bool.false_and, if_neg (by decide), if_neg ne,
    path, if_neg (by decide), if_neg fun h => notLoad h.1, permits, if_neg (by decide), prereq]
  rfl

/-- The registers of an accepted transition. -/
def State.modeTransit (s : State) (target : Nat) : State := (s.put F.GLB_MODE_TARGET target).put F.GLB_MODE_TRANSIT 1

theorem modeTransit_shows {target : Nat} (h : target < 8) : (s.modeTransit target).bit F.GLB_MODE_TRANSIT = true ∧
    (s.modeTransit target).get F.GLB_MODE_TARGET = target ∧ (s.modeTransit target).mode = s.mode ∧
    s.keepsRegs (s.modeTransit target) [R.GLB_MODE.base] := by
  unfold State.modeTransit State.mode
  refine ⟨State.bit_put_one _ (by decide) (by decide) _ _, ?_, ?_, ?_⟩
  · rw [State.get_put_beside _ (by decide)]
    exact State.get_put_fits _ (by decide) h _ _
  · rw [State.get_put_beside _ (by decide), State.get_put_beside _ (by decide)]
  · exact State.keepsRegs_put (State.keepsRegs_put (State.keepsRegs_refl _) _ _ _ _ (by decide)) _ _ _ _ (by decide)

theorem modeTransit_switchPoint (target : Nat) (x : Int) : (s.modeTransit target).switchPoint x = s.switchPoint x := by
  have running : (s.modeTransit target).bit F.INV_CYC_STAT_RUNNING = s.bit F.INV_CYC_STAT_RUNNING :=
    (State.bit_put_free _ (by decide) ..).trans (State.bit_put_free _ (by decide) ..)
  have period : (s.modeTransit target).get F.INV_CYC_OPER_PERIOD_PERIOD = s.get F.INV_CYC_OPER_PERIOD_PERIOD :=
    (State.get_put_free _ (by decide) ..).trans (State.get_put_free _ (by decide) ..)
  have inv : (s.modeTransit target).inv = s.inv := rfl
  have held : ∀ c, (s.modeTransit target).cycHeldBack c = s.cycHeldBack c := fun c => by
    simp only [State.cycHeldBack, inv]
  simp only [State.switchPoint, running, period, inv, held]

/-- A message that waits for the twin link changes the state of the twin alone. -/
theorem sendCmd_only (s : State) (op x : Nat) (l : List Nat) : ∃ y, s.sendCmd op x l = { s with twn := y } := by
  unfold State.sendCmd State.linkQueue
  split
  · exact ⟨_, rfl⟩
  · exact ⟨_, rfl⟩

theorem modeRequest_accepted {key target : Nat} (hj : s.judgeMode key target = 0) (cur : forwarding s.mode = true) (mem : target ∈ freeModes) :
    ∃ x, s.modeRequest key target =
      { s.modeTransit target with md := { s.md with ts := some (s.switchPoint s.now), forced := false }, twn := x } := by
  have range : 1 ≤ s.mode ∧ s.mode ≤ 4 := by simpa [forwarding] using cur
  have notEntry : (target == modePEWTER || target == modeMAINTENANCE) = false := by
    simp only [freeModes, List.mem_cons, List.not_mem_nil, or_false] at mem
    rcases mem with rfl | rfl | rfl <;> decide
  have accept : s.modeAccept target = { s.modeTransit target with md := { s.md with ts := some (s.switchPoint s.now), forced := false } } := by
    rw [← modeTransit_switchPoint]
    unfold State.modeAccept
    dsimp only
    rw [if_neg (by simp only [modePEWTER]; omega), notEntry, Bool.and_false, if_neg (by decide)]
    rfl
  unfold State.modeRequest
  dsimp only
  rw [hj, if_neg (by decide), if_neg (by decide), accept]
  split
  · exact sendCmd_only _ _ _ _
  · exact ⟨_, rfl⟩

theorem settled_modeAccepted (b v : State) (m : ModeState) (x : TwnState) : (settled b { v with md := m, twn := x }).md = m ∧
    (settled b { v with md := m, twn := x }).bit F.GLB_MODE_TRANSIT = v.bit F.GLB_MODE_TRANSIT ∧
    (settled b { v with md := m, twn := x }).get F.GLB_MODE_TARGET = v.get F.GLB_MODE_TARGET ∧
    (settled b { v with md := m, twn := x }).mode = v.mode ∧
    ∀ l, b.keepsRegs v l → b.keepsRegs (settled b { v with md := m, twn := x }) l :=
  ⟨settled_md _ _, (settled_bit_free _ _ (by decide) _ _).trans (State.bit_of_regs (s := v) rfl ..),
    (settled_get_free _ _ (by decide) _ _).trans (State.get_of_regs (s := v) rfl ..),
    (settled_get_free _ _ (by decide) _ _).trans (State.get_of_regs (s := v) rfl ..),
    fun _ keeps => settled_keeps _ _ _ (State.keepsRegs_trans keeps (State.keepsRegs_of_eq _ rfl))⟩

theorem does_modeAccepted {h : HostId} {mode : Fin 8} (ho : s.opens h R.GLB_MODE_REQ 0 0 = true) (he : s.episode = false)
    (cur : forwarding s.mode = true) (mem : mode.val ∈ freeModes) (hj : s.judgeMode 0xA5 mode = 0) :
    Does (.modeRequest h 0xA5 mode) s fun t => t.bit F.GLB_MODE_TRANSIT = true ∧ t.get F.GLB_MODE_TARGET = mode.val ∧ t.mode = s.mode ∧
      t.md = { s.md with ts := some (s.switchPoint s.now), forced := false } ∧ s.keepsRegs t [R.GLB_MODE.base] := by
  obtain ⟨x, hx⟩ := modeRequest_accepted hj cur mem
  have write := regWrite_modeReq (s := s) (host := hostNum h) 0xA5 mode he
  rw [show (0xA5 : Byte).toNat = 0xA5 from rfl, hx] at write
  obtain ⟨transit, target, same, keeps⟩ := modeTransit_shows (s := s) mode.isLt
  generalize s.modeTransit mode.val = v at *
  obtain ⟨hmd, htransit, htarget, hmode, hkeeps⟩ := settled_modeAccepted s v { s.md with ts := some (s.switchPoint s.now), forced := false } x
  exact does_rowWrite_own rfl ho (by decide) write
    ⟨htransit.trans transit, htarget.trans target, hmode.trans same, hmd, hkeeps _ keeps⟩

/-! ## The switch point (R45) -/

/-- GLB_MODE and its events at a change of the mode. -/
def State.modeShown (s : State) (old target : Nat) (forced : Bool) : State :=
  let s := ((s.put F.GLB_MODE_PREV old).put F.GLB_MODE_CUR target).put F.GLB_MODE_TARGET target
  let s := (s.put F.GLB_MODE_TRANSIT 0).put F.GLB_MODE_FORCED (if forced then 1 else 0)
  let s := s.evt F.GLB_MODE_STAT_DONE
  if forced then s.put F.GLB_MODE_STAT_FORCED 1 else s

theorem modeShown_shows {old target : Nat} (forced : Bool) (ho : old < 8) (ht : target < 8) : (s.modeShown old target forced).mode = target ∧
    (s.modeShown old target forced).get F.GLB_MODE_PREV = old ∧ (s.modeShown old target forced).bit F.GLB_MODE_TRANSIT = false ∧
    (s.modeShown old target forced).md = s.md := by
  have cur : (((s.put F.GLB_MODE_PREV old).put F.GLB_MODE_CUR target).put F.GLB_MODE_TARGET target).get F.GLB_MODE_CUR = target := by
    rw [State.get_put_beside _ (by decide)]
    exact State.get_put_fits _ (by decide) ht _ _
  have prev : (((s.put F.GLB_MODE_PREV old).put F.GLB_MODE_CUR target).put F.GLB_MODE_TARGET target).get F.GLB_MODE_PREV = old := by
    rw [State.get_put_beside _ (by decide), State.get_put_beside _ (by decide)]
    exact State.get_put_fits _ (by decide) ho _ _
  have md : (((s.put F.GLB_MODE_PREV old).put F.GLB_MODE_CUR target).put F.GLB_MODE_TARGET target).md = s.md := rfl
  unfold State.modeShown State.mode
  generalize ((s.put F.GLB_MODE_PREV old).put F.GLB_MODE_CUR target).put F.GLB_MODE_TARGET target = v at *
  dsimp only
  have stat : ∀ (w : State) (f : Fld), f.reg = R.GLB_MODE →
      (if forced then (w.evt F.GLB_MODE_STAT_DONE).put F.GLB_MODE_STAT_FORCED 1 else w.evt F.GLB_MODE_STAT_DONE).get f = w.get f := fun w f hf => by
    have fr : free f.reg F.GLB_MODE_STAT_DONE.reg = true := by rw [hf]; decide
    split
    · rw [State.get_put_free (f := F.GLB_MODE_STAT_FORCED) _ fr, State.get_evt_free _ fr]
    · rw [State.get_evt_free _ fr]
  refine ⟨?_, ?_, ?_, ?_⟩
  · rw [stat _ _ rfl, State.get_put_beside _ (by decide), State.get_put_beside _ (by decide), cur]
  · rw [stat _ _ rfl, State.get_put_beside _ (by decide), State.get_put_beside _ (by decide), prev]
  · rw [State.bit, stat _ _ rfl, State.get_put_beside _ (by decide)]
    exact State.bit_put_zero _ (by decide) _ _
  · split
    · exact (State.evt_md ..).trans md
    · exact (State.evt_md ..).trans md

theorem modeChange_shows {target : Nat} (x : Int) (forced : Bool) (ht : target < 8) : (s.modeChange target x forced).mode = target ∧
    (s.modeChange target x forced).get F.GLB_MODE_PREV = s.mode ∧ (s.modeChange target x forced).bit F.GLB_MODE_TRANSIT = false ∧
    (s.modeChange target x forced).md.ts = s.md.ts := by
  have old := mode_lt s
  let a := if s.mode = modeLOAD then s.unlockEpoch else s
  let b := if s.mode = modeSERVICE then a.pdsStop x else a
  let c := (b.noteMode x).modeShown s.mode target forced
  let d := if s.mode = modeADAPTIVE then c.adpLeave x else c
  let e := if target = modeADAPTIVE then d.adpEnter x else d
  have stopped : Low s b := by
    have : Low s a := Low.ite (Low.unlockEpoch s) (Low.refl s)
    exact Low.ite (this.trans (Low.pdsStop _ _)) this
  have started : Low c (if target = modeSERVICE then e.pdsStart x else e) := by
    have left : Low c d := Low.ite (Low.adpLeave _ _) (Low.refl c)
    have entered : Low c e := Low.ite (left.trans (Low.adpEnter _ _)) left
    exact Low.ite (entered.trans (Low.pdsStart _ _)) entered
  have change : s.modeChange target x forced = if target = modeSERVICE then e.pdsStart x else e := rfl
  rw [change]
  obtain ⟨cur, prev, transit, md⟩ := modeShown_shows (s := b.noteMode x) forced old ht
  refine ⟨started.mode.trans cur, (started.get _ (by decide)).trans prev, (started.bit _ (by decide)).trans transit, ?_⟩
  rw [started.md]
  exact (congrArg (·.ts) md).trans (congrArg (·.ts) stopped.md)

theorem does_switchPoint {x : Int} (ht : s.md.ts = some x) (hn : x ≤ s.now) : Does .switchPoint s fun t =>
    t.mode = s.get F.GLB_MODE_TARGET ∧ t.get F.GLB_MODE_PREV = s.mode ∧ t.bit F.GLB_MODE_TRANSIT = false ∧ t.md.ts = none := by
  let v : State := { s with md := { s.md with ts := none, forced := false } }
  have time : s.switchTime = v.modeChange (s.get F.GLB_MODE_TARGET) x s.md.forced := by
    unfold State.switchTime
    rw [ht]
    dsimp only
    rw [if_neg (by omega)]
    rfl
  obtain ⟨cur, prev, transit, ts⟩ := modeChange_shows (s := v) (target := s.get F.GLB_MODE_TARGET) x s.md.forced (s.get_lt F.GLB_MODE_TARGET 0 0)
  refine does_of (u := s.switchTime) rfl ?_
  rw [time, State.mode, settled_get_free _ _ (by decide), settled_get_free _ _ (by decide), settled_bit_free _ _ (by decide), settled_md]
  exact ⟨cur, prev, transit, ts⟩

/-- Settles O19: the first failing step of R41 refuses a request, and the switch point changes GLB_MODE whatever starts and stops with it. -/
theorem modeRequests : Obligations.ModeRequests :=
  ⟨fun _ _ _ mode ho he => ⟨fun hk => does_modeRefused ho he (judgeMode_key mode hk) (by decide) (by decide),
      fun hk hm => hk ▸ does_modeRefused ho he (judgeMode_hold mode hm) (by decide) (by decide),
      fun hk hm ht => hk ▸ does_modeRefused ho he (judgeMode_transit mode hm ht) (by decide) (by decide),
      fun hk cur mem ne still alone permit _ =>
        hk ▸ does_modeAccepted ho he cur mem (judgeMode_forwarding cur mem ne still alone permit)⟩,
    fun _ _ ht hn => does_switchPoint ht hn⟩

end Sys2Proof.Machine
end

section
set_option Elab.async false
/-! PROOFS. Reset episodes (20_reset_and_errors.md R557 to R567, R575, R576, R580). -/

namespace Sys2Proof.Machine

variable {s t u : State}

/-! ## Single bits of a field -/

/-- A bit put into a field is the bit read, and the field's other bits stay. -/
theorem testBit_putBit (s : State) {f : Fld} (hf : f.hi < 32) {k m : Nat} (b : Bool) (i j : Nat) (hk : k < f.width) (hm : m < f.width) :
    ((s.putBit f k b i j).get f i j).testBit m = if m = k then b else (s.get f i j).testBit m := by
  have pow : 2 ^ k < 2 ^ f.width := Nat.pow_lt_pow_right (by decide) hk
  unfold State.putBit
  dsimp only
  rw [s.get_put_same f _ i j hf, Nat.testBit_mod_two_pow, decide_eq_true hm, Bool.true_and]
  cases b
  · rw [if_neg Bool.false_ne_true, Nat.testBit_and, Nat.sub_sub, Nat.add_comm 1, Nat.testBit_two_pow_sub_succ pow, decide_eq_true hm,
      Nat.testBit_two_pow]
    by_cases e : m = k
    · simp [e]
    · simp [e, Ne.symm e]
  · rw [if_pos rfl, Nat.testBit_or, Nat.testBit_two_pow]
    by_cases e : m = k
    · simp [e]
    · simp [e, Ne.symm e]

/-! ## Software requests and errors of the mode (R575, R580) -/

theorem regWrite_rstCtrl {host : Nat} (op : Nat) (h : op < 4) : s.regWrite host R.RST_CTRL 0 0 15 (keyWord op) = ([], s.rstCtrl 0x5A op) := by
  have key : keyOf (keyWord op) = 0x5A := keyOf_keyWord (by omega)
  have low : getBits (keyWord op) 1 0 = op := by
    rw [keyWord, getBits_word]
    omega
  have write : s.regWrite host R.RST_CTRL 0 0 15 (keyWord op) = ([], s.rstCtrl (keyOf (keyWord op)) (getBits (keyWord op) 1 0)) := rfl
  rw [write, key, low]

theorem does_modeCorrected : Does (.modeEccError false) s fun t => t.get F.RST_MODE_ECC_COUNT = min (s.get F.RST_MODE_ECC_COUNT + 1) (2 ^ 32 - 1) ∧
    t.bit F.RST_EVT_MODE_CORR = true ∧ s.keepsRegs t [R.RST_MODE_ECC.base, R.RST_EVT.base] ∧ s.onlyRegs t := by
  refine does_of (u := (s.inc F.RST_MODE_ECC_COUNT).evt F.RST_EVT_MODE_CORR) rfl ⟨?_, ?_, settled_keeps _ _ _ ?_, settled_onlyRegs ?_⟩
  · rw [settled_get_free _ _ (by decide), State.get_evt_free _ (by decide), State.get_inc_same _ _ _ _ _ (by decide)]
    rfl
  · rw [settled_bit_free _ _ (by decide)]
    exact State.bit_evt_same _ _ _ _ (by decide) (by decide)
  · exact State.keepsRegs_evt (State.keepsRegs_put (State.keepsRegs_refl _) _ _ _ _ (by decide)) _ _ _ (by decide)
  · exact State.onlyRegs_evt (State.onlyRegs_put State.onlyRegs_refl _ _ _ _) _ _ _

/-! ## The drive of RST_N (R565) -/

theorem rstDrive_regs (s : State) : s.rstDrive.regs = s.regs ∨ ∃ d, s.rstDrive.regs = (s.put F.RST_STAT_DRIVE d).regs := by
  unfold State.rstDrive
  dsimp only
  split
  · exact .inl rfl
  · exact .inr ⟨_, rfl⟩

theorem rstDrive_get {f : Fld} (h : besideFld F.RST_STAT_DRIVE f = true) : s.rstDrive.get f = s.get f := by
  rcases rstDrive_regs s with same | ⟨d, drive⟩
  · exact State.get_of_regs same ..
  · exact (State.get_of_regs drive ..).trans (State.get_put_beside _ h ..)

theorem rstDrive_keeps (s : State) : s.keepsRegs s.rstDrive [R.RST_STAT.base] := by
  rcases rstDrive_regs s with same | ⟨d, drive⟩
  · exact State.keepsRegs_of_eq _ same
  · exact State.keepsRegs_trans (State.keepsRegs_put (State.keepsRegs_refl _) F.RST_STAT_DRIVE d 0 0 (by decide)) (State.keepsRegs_of_eq _ drive)

theorem rstDrive_reg {q : RegSpec} (h : free q R.RST_STAT = true) (i j : Nat) : s.rstDrive.reg q i j = s.reg q i j := by
  rcases rstDrive_regs s with same | ⟨d, drive⟩
  · rw [State.reg, same, State.reg]
  · have put : (s.put F.RST_STAT_DRIVE d).reg q i j = s.reg q i j := State.reg_put_free _ h ..
    rw [← put, State.reg, drive, State.reg]

/-! ## Sources that assert (R559) -/

/-- What the assertion of a source shows. -/
def Asserted (src : Nat) (t : State) : Prop :=
  t.get F.RST_STAT_STATE = 1 ∧ (t.get F.RST_STAT_LIVE).testBit src = true ∧ t.bit (causeFld src) = true

theorem asserted_shown (v : State) {src : Nat} (h : src < 11) :
    Asserted src (((v.evt (causeFld src)).putBit F.RST_STAT_LIVE src true).put F.RST_STAT_STATE 1).rstDrive := by
  have free : free (causeFld src).reg R.RST_STAT = true := by
    change free R.RST_CAUSE R.RST_STAT = true
    decide
  refine ⟨?_, ?_, ?_⟩
  · rw [rstDrive_get (by decide)]
    exact State.get_put_fits _ (by decide) (by decide) _ _
  · rw [rstDrive_get (by decide), State.get_put_beside _ (by decide), testBit_putBit _ (by decide) _ _ _ h h, if_pos rfl]
  · have same : ∀ w : State, ((w.putBit F.RST_STAT_LIVE src true).put F.RST_STAT_STATE 1).reg (causeFld src).reg = w.reg (causeFld src).reg := fun w => by
      rw [State.putBit, State.reg_put_free (f := F.RST_STAT_STATE) _ free, State.reg_put_free (f := F.RST_STAT_LIVE) _ free]
    rw [State.bit, State.get, rstDrive_reg free, same]
    exact State.bit_evt_same _ _ _ _ (show src < 24 by omega) (Nat.le_refl src)

theorem rstAssert_asserted (s : State) {src : Nat} (h : src < 11) : Asserted src (s.rstAssert src) := asserted_shown _ h

theorem Asserted.settled {src : Nat} (h : Asserted src t) (b : State) : Asserted src (settled b t) := by
  obtain ⟨state, live, cause⟩ := h
  have free : pbaFree (causeFld src).reg = true := by
    change pbaFree R.RST_CAUSE = true
    decide
  exact ⟨(settled_get_free _ _ (by decide) _ _).trans state, by rw [settled_get_free _ _ (by decide)]; exact live,
    (settled_bit_free _ _ free _ _).trans cause⟩

/-- The pin shown low after the pin has asserted. -/
theorem Asserted.pinLow {src : Nat} (h : Asserted src t) : Asserted src (t.put F.RST_STAT_PIN 0) ∧ (t.put F.RST_STAT_PIN 0).bit F.RST_STAT_PIN = false := by
  obtain ⟨state, live, cause⟩ := h
  have free : free (causeFld src).reg F.RST_STAT_PIN.reg = true := by
    change free R.RST_CAUSE R.RST_STAT = true
    decide
  exact ⟨⟨(State.get_put_beside _ (by decide) ..).trans state, by rw [State.get_put_beside _ (by decide)]; exact live,
    (State.bit_put_free _ free ..).trans cause⟩, State.bit_put_zero _ (by decide) _ _⟩

/-! ## Sources that release (R559, R565) -/

/-- A release shown: the source's bit falls, and the stretch begins with the last source. -/
def State.liveCleared (s : State) (src : Nat) : State :=
  let s := s.putBit F.RST_STAT_LIVE src false
  if s.get F.RST_STAT_LIVE = 0 ∧ s.get F.RST_STAT_STATE = 1 then s.put F.RST_STAT_STATE 2 else s

theorem liveCleared_shows (s : State) {src : Nat} (h : src < 11) : ((s.liveCleared src).get F.RST_STAT_LIVE).testBit src = false ∧
    s.keepsRegs (s.liveCleared src) [R.RST_STAT.base] ∧
    (s.get F.RST_STAT_LIVE = 2 ^ src → s.get F.RST_STAT_STATE = 1 → (s.liveCleared src).get F.RST_STAT_STATE = 2) ∧
    (s.liveCleared src).bit F.RST_STAT_PIN = s.bit F.RST_STAT_PIN := by
  have cleared : ((s.putBit F.RST_STAT_LIVE src false).get F.RST_STAT_LIVE).testBit src = false := by
    rw [testBit_putBit _ (by decide) _ _ _ h h, if_pos rfl]
  have keeps : s.keepsRegs (s.putBit F.RST_STAT_LIVE src false) [R.RST_STAT.base] :=
    State.keepsRegs_put (State.keepsRegs_refl _) _ _ _ _ (by decide)
  have last : s.get F.RST_STAT_LIVE = 2 ^ src → (s.putBit F.RST_STAT_LIVE src false).get F.RST_STAT_LIVE = 0 := fun e => by
    have lt : (s.putBit F.RST_STAT_LIVE src false).get F.RST_STAT_LIVE < 2 ^ 11 := State.get_lt ..
    refine Nat.eq_of_testBit_eq fun m => ?_
    rw [Nat.zero_testBit]
    by_cases hm : m < 11
    · rw [testBit_putBit _ (by decide) _ _ _ h hm, e, Nat.testBit_two_pow]
      split
      · rfl
      · next ne => exact decide_eq_false (Ne.symm ne)
    · exact Nat.testBit_lt_two_pow (Nat.lt_of_lt_of_le lt (Nat.pow_le_pow_right (by decide) (by omega)))
  have state : (s.putBit F.RST_STAT_LIVE src false).get F.RST_STAT_STATE = s.get F.RST_STAT_STATE := State.get_put_beside _ (by decide) ..
  have pin : (s.putBit F.RST_STAT_LIVE src false).bit F.RST_STAT_PIN = s.bit F.RST_STAT_PIN := State.bit_put_beside _ (by decide) ..
  unfold State.liveCleared
  generalize s.putBit F.RST_STAT_LIVE src false = v at *
  dsimp only
  split
  · refine ⟨?_, State.keepsRegs_put keeps _ _ _ _ (by decide), fun _ _ => State.get_put_fits _ (by decide) (by decide) _ _, ?_⟩
    · rw [State.get_put_beside _ (by decide)]
      exact cleared
    · exact (State.bit_put_beside _ (by decide) ..).trans pin
  · next c => exact ⟨cleared, keeps, fun hl hs => absurd ⟨last hl, state.trans hs⟩ c, pin⟩

theorem rstRelease_eq {src : Nat} (h : (s.get F.RST_STAT_LIVE).testBit src = true) :
    ∃ v : State, v.regs = (s.liveCleared src).regs ∧ s.rstRelease src = v.rstDrive := by
  unfold State.rstRelease
  rw [if_pos h]
  dsimp only
  refine ⟨_, ?_, rfl⟩
  unfold State.liveCleared
  generalize s.putBit F.RST_STAT_LIVE src false = v
  have same : ∀ (x : RstState) (f : Fld), ({ v with rst := x } : State).get f = v.get f := fun _ _ => rfl
  simp only [same]
  split <;> rfl

theorem rstRelease_shows {src : Nat} (hs : src < 11) (h : (s.get F.RST_STAT_LIVE).testBit src = true) :
    ((s.rstRelease src).get F.RST_STAT_LIVE).testBit src = false ∧ s.keepsRegs (s.rstRelease src) [R.RST_STAT.base] ∧
    (s.get F.RST_STAT_LIVE = 2 ^ src → s.get F.RST_STAT_STATE = 1 → (s.rstRelease src).get F.RST_STAT_STATE = 2) ∧
    (s.rstRelease src).bit F.RST_STAT_PIN = s.bit F.RST_STAT_PIN := by
  obtain ⟨v, regs, release⟩ := rstRelease_eq h
  obtain ⟨cleared, keeps, stretch, pin⟩ := liveCleared_shows s hs
  rw [release]
  refine ⟨?_, ?_, fun hl hst => ?_, ?_⟩
  · rw [rstDrive_get (by decide), State.get_of_regs regs]
    exact cleared
  · exact State.keepsRegs_trans (State.keepsRegs_trans keeps (State.keepsRegs_of_eq _ regs)) (rstDrive_keeps v)
  · rw [rstDrive_get (by decide), State.get_of_regs regs]
    exact stretch hl hst
  · rw [State.bit, rstDrive_get (by decide), State.get_of_regs regs]
    exact pin

theorem does_release {src : Fin 11} (h : (s.get F.RST_STAT_LIVE).testBit src = true) : Does (.resetSourceRelease src) s fun t =>
    (t.get F.RST_STAT_LIVE).testBit src = false ∧ s.keepsRegs t [R.RST_STAT.base] ∧
    (s.get F.RST_STAT_LIVE = 2 ^ src.val → s.get F.RST_STAT_STATE = 1 → t.get F.RST_STAT_STATE = 2) := by
  obtain ⟨cleared, keeps, stretch, -⟩ := rstRelease_shows src.isLt h
  refine does_of (u := s.rstRelease src) rfl ⟨?_, settled_keeps _ _ _ keeps, fun hl hst => ?_⟩
  · rw [settled_get_free _ _ (by decide)]
    exact cleared
  · rw [settled_get_free _ _ (by decide)]
    exact stretch hl hst

/-! ## The pin (R564) -/

theorem does_pinLow (hd : s.bit F.RST_STAT_DRIVE = false) (hm : s.get F.RST_STAT_STATE ≠ 3) (hl : (s.get F.RST_STAT_LIVE).testBit 1 = false) :
    Does .rstNLow s fun t => t.bit F.RST_STAT_PIN = false ∧ Asserted 1 t := by
  have low : s.rstPinLow = ((s.put F.RST_STAT_PIN 0).rstAssert 1).put F.RST_STAT_PIN 0 := by
    have live : (s.put F.RST_STAT_PIN 0).get F.RST_STAT_LIVE = s.get F.RST_STAT_LIVE := State.get_put_beside _ (by decide) ..
    unfold State.rstPinLow
    dsimp only
    rw [if_neg (by simp [hd, hm]), live, hl, if_neg Bool.false_ne_true]
  obtain ⟨asserted, pin⟩ := (rstAssert_asserted (s.put F.RST_STAT_PIN 0) (src := 1) (by decide)).pinLow
  refine does_of (u := s.rstPinLow) rfl ?_
  rw [low]
  exact ⟨(settled_bit_free _ _ (by decide) _ _).trans pin, asserted.settled s⟩

theorem does_pinHigh (hd : s.bit F.RST_STAT_DRIVE = false) (hm : s.get F.RST_STAT_STATE ≠ 3) (hl : (s.get F.RST_STAT_LIVE).testBit 1 = true) :
    Does .rstNHigh s fun t => t.bit F.RST_STAT_PIN = true ∧ (t.get F.RST_STAT_LIVE).testBit 1 = false ∧ s.keepsRegs t [R.RST_STAT.base] := by
  have high : s.rstPinHigh = (s.put F.RST_STAT_PIN 1).rstRelease 1 := by
    unfold State.rstPinHigh
    rw [if_neg (by simp [hd, hm])]
  have live : (s.put F.RST_STAT_PIN 1).get F.RST_STAT_LIVE = s.get F.RST_STAT_LIVE := State.get_put_beside _ (by decide) ..
  have keeps : s.keepsRegs (s.put F.RST_STAT_PIN 1) [R.RST_STAT.base] := State.keepsRegs_put (State.keepsRegs_refl _) _ _ _ _ (by decide)
  have pin : (s.put F.RST_STAT_PIN 1).bit F.RST_STAT_PIN = true := State.bit_put_one _ (by decide) (by decide) _ _
  obtain ⟨cleared, keeps', -, pin'⟩ := rstRelease_shows (s := s.put F.RST_STAT_PIN 1) (src := 1) (by decide) (by rw [live, hl])
  refine does_of (u := s.rstPinHigh) rfl ?_
  rw [high]
  refine ⟨(settled_bit_free _ _ (by decide) _ _).trans (pin'.trans pin), ?_, settled_keeps _ _ _ (State.keepsRegs_trans keeps keeps')⟩
  rw [settled_get_free _ _ (by decide)]
  exact cleared

/-! ## The end of an episode (R567) -/

theorem tioShow_regs (s : State) (i : Nat) : (s.tioShow i).regs = s.regs := by
  unfold State.tioShow
  split
  · rfl
  · split <;> rfl

theorem tioUnfence_regs (s : State) : s.tioUnfence.regs = s.regs := by
  unfold State.tioUnfence
  split
  · exact List.foldlRecOn (motive := fun u : State => u.regs = s.regs) _ _ rfl fun u hu i _ => (tioShow_regs u i).trans hu
  · rfl

theorem initialMode_reg {q : RegSpec} (h : free q R.GLB_MODE = true) (h' : free q R.GLB_MODE_STAT = true) (i j : Nat) :
    s.initialMode.reg q i j = s.reg q i j := by
  have refused : ∀ r, (s.modeRefuse r).reg q i j = s.reg q i j := fun r =>
    (State.reg_evt_free (f := F.GLB_MODE_STAT_REFUSED) _ h' ..).trans (State.reg_put_free (f := F.GLB_MODE_STAT_REASON) _ h' ..)
  unfold State.initialMode
  dsimp only
  split
  · rfl
  split
  · exact refused _
  split
  · exact refused _
  · exact (State.reg_put_free (f := F.GLB_MODE_TRANSIT) _ h ..).trans (State.reg_put_free (f := F.GLB_MODE_TARGET) _ h ..)

/-- The registers at the end of an episode once RST_N has been let go, before the image's initial mode. -/
def State.rstFresh (s : State) : State :=
  let s := (s.setReg R.GLB_MODE R.GLB_MODE.resetWord).epochState esLOCKED
  let s := s.polFresh
  if s.bit F.TWN_CTRL_EN then s else s.tioUnfence

theorem polFresh_regs (s : State) : s.polFresh.regs = s.regs := rfl

theorem epochLocked_state (s : State) (w : Word) :
    ((s.setReg R.GLB_MODE w).epochState esLOCKED).get F.RST_STAT_STATE = s.get F.RST_STAT_STATE := by
  rw [State.epochState, State.get_put_free _ (by decide), State.get_put_free _ (by decide), State.get_setReg_free (g := F.RST_STAT_STATE) _ (by decide)]

theorem rstFresh_state (s : State) : s.rstFresh.get F.RST_STAT_STATE = s.get F.RST_STAT_STATE := by
  have shown := epochLocked_state s R.GLB_MODE.resetWord
  unfold State.rstFresh
  dsimp only
  generalize (s.setReg R.GLB_MODE R.GLB_MODE.resetWord).epochState esLOCKED = w at *
  have full := (State.get_of_regs (polFresh_regs w) F.RST_STAT_STATE 0 0).trans shown
  generalize w.polFresh = x at *
  split
  · exact full
  · exact (State.get_of_regs (tioUnfence_regs x) ..).trans full

/-- The state of an episode that has ended. -/
def State.rstEnded (s : State) : State := ((s.put F.RST_STAT_STATE 0).rstDrive.emit (.pin "CORE_RST_N" true)).rstFresh

theorem rstEnded_state (s : State) : s.rstEnded.get F.RST_STAT_STATE = 0 := by
  have zero : (s.put F.RST_STAT_STATE 0).rstDrive.get F.RST_STAT_STATE = 0 := by
    rw [rstDrive_get (by decide)]
    exact State.get_put_fits _ (by decide) (by decide) _ _
  unfold State.rstEnded
  generalize (s.put F.RST_STAT_STATE 0).rstDrive = v at *
  rw [rstFresh_state]
  exact (State.get_of_regs (s := v) rfl ..).trans zero

theorem rstEnd_state (s : State) (straps : Nat) : (s.rstEnd straps).get F.RST_STAT_STATE = 0 := by
  have ended := rstEnded_state s
  have eq : s.rstEnd straps = if s.get F.RST_STAT_REACH == 1 then
      let v := s.rstEnded.evt F.RST_EVT_CORE_END
      if v.get F.IMG_STAT_STATE = 7 then v.initialMode
      else { v.put F.IMG_STAT_STATE 0 with img := { v.img with bytes := [], next := 0 } }
    else (s.rstEnded.put F.IMG_STAT_BOOT_HOST straps).put F.MGT_I2C_CFG_ADDR_PINS (straps / 2) := rfl
  rw [eq]
  generalize s.rstEnded = w at *
  dsimp only
  have event : (w.evt F.RST_EVT_CORE_END).get F.RST_STAT_STATE = 0 := (State.get_evt_free _ (by decide) ..).trans ended
  split
  · generalize w.evt F.RST_EVT_CORE_END = v at *
    split
    · rw [State.get, initialMode_reg (by decide) (by decide)]
      exact event
    · exact (State.get_of_regs (s := v.put F.IMG_STAT_STATE 0) rfl ..).trans ((State.get_put_free _ (by decide) ..).trans event)
  · rw [State.get_put_free _ (by decide), State.get_put_free _ (by decide), ended]

theorem does_stretchExpire {straps : BitVec 4} (hs : s.get F.RST_STAT_STATE = 2) (hi : s.rst.initDone = true) :
    (s.bit F.RST_STAT_DRIVE = true → Does (.stretchExpire straps) s fun t => t.get F.RST_STAT_STATE = 3 ∧ s.keepsRegs t [R.RST_STAT.base]) ∧
    (s.bit F.RST_STAT_DRIVE = false → Does (.stretchExpire straps) s fun t => t.get F.RST_STAT_STATE = 0) := by
  refine ⟨fun hd => ?_, fun hd => ?_⟩
  · have settle : s.stretchEnd straps.toNat = (s.put F.RST_STAT_STATE 3).rstDrive := by
      rw [State.stretchEnd, if_pos ⟨hs, hi⟩, if_pos hd]
    refine does_of (u := s.stretchEnd straps.toNat) rfl ?_
    rw [settle, settled_get_free _ _ (by decide), rstDrive_get (by decide)]
    refine ⟨State.get_put_fits _ (by decide) (by decide) _ _, settled_keeps _ _ _ (State.keepsRegs_trans ?_ (rstDrive_keeps _))⟩
    exact State.keepsRegs_put (State.keepsRegs_refl _) _ _ _ _ (by decide)
  · have ends : s.stretchEnd straps.toNat = s.rstEnd straps.toNat := by
      rw [State.stretchEnd, if_pos ⟨hs, hi⟩, hd, if_neg Bool.false_ne_true]
    refine does_of (u := s.stretchEnd straps.toNat) rfl ?_
    rw [ends, settled_get_free _ _ (by decide)]
    exact rstEnd_state _ _

theorem does_settleEnd {straps : BitVec 4} (hs : s.get F.RST_STAT_STATE = 3) :
    (Does (.settleEnd true straps) s fun t => t.get F.RST_STAT_STATE = 0) ∧
    (Does (.settleEnd false straps) s fun t => t.get F.RST_STAT_STATE = 1 ∧ t.bit F.RST_STAT_PIN = false ∧ t.bit (causeFld 1) = true) := by
  constructor
  · have ends : s.settleEnd true straps.toNat = (s.put F.RST_STAT_PIN 1).rstEnd straps.toNat := by
      rw [State.settleEnd, if_pos hs, if_pos rfl]
    refine does_of (u := s.settleEnd true straps.toNat) rfl ?_
    rw [ends, settled_get_free _ _ (by decide)]
    exact rstEnd_state _ _
  · have again : s.settleEnd false straps.toNat = (s.rstAssert 1).put F.RST_STAT_PIN 0 := by
      rw [State.settleEnd, if_pos hs, if_neg Bool.false_ne_true]
    obtain ⟨asserted, pin⟩ := (rstAssert_asserted s (src := 1) (by decide)).pinLow
    refine does_of (u := s.settleEnd false straps.toNat) rfl ?_
    rw [again]
    obtain ⟨state, -, cause⟩ := asserted.settled s
    exact ⟨state, (settled_bit_free _ _ (by decide) _ _).trans pin, cause⟩

/-- Settles O23: the last updates of an assertion, a release and an end decide RST_STAT and RST_CAUSE, whatever the episode clears. -/
theorem resetEpisodes : Obligations.ResetEpisodes :=
  ⟨fun _ _ ho => ⟨does_rowWrite_own rfl ho (by decide) (regWrite_rstCtrl 1 (by decide)) rfl,
      does_rowWrite_own rfl ho (by decide) (regWrite_rstCtrl 2 (by decide)) rfl⟩,
    fun s src due => does_of (u := s.rstAssert src) (congrArg (finish s) (if_pos due)) ((rstAssert_asserted s src.isLt).settled s),
    fun s => ⟨does_of rfl ((rstAssert_asserted s (by decide)).settled s), does_of rfl ((rstAssert_asserted s (by decide)).settled s),
      does_of rfl ((rstAssert_asserted s (by decide)).settled s)⟩,
    fun _ _ live => does_release live,
    fun _ hd hm => ⟨fun hl => does_pinLow hd hm hl, fun hl => does_pinHigh hd hm hl⟩,
    fun s he => does_of (congrArg (finish s) (if_pos he)) rfl,
    fun _ _ hs hi => does_stretchExpire hs hi,
    fun _ _ hs => does_settleEnd hs,
    fun _ => ⟨does_of rfl rfl, does_modeCorrected⟩⟩

end Sys2Proof.Machine
end

section
set_option Elab.async false
/-! PROOFS. Verification and preemption (03_ports_and_macs.md R88 to R90): where the statement fails. -/

namespace Sys2Proof.Machine

variable {s t u : State}

/-- What a command that does something does, by the state it settles. -/
theorem does_elim {c : Instr} {P : State → Prop} (h : Does c s P) (he : exec c s = finish s u) : P (settled s u) := by
  obtain ⟨t, ht, hp⟩ := h
  rw [he] at ht
  cases ht
  exact hp

/-- A frame of 124 bytes that its port has begun to cut through to itself; its MAXLEN is 0. -/
def loopedFrame : Frame :=
  { Tests.frame0 71 with stage := .admitted, drop := 1, rx := List.replicate 124 0, maxlen := 0, begun := 10 }

/-- The copy of the frame on the preemptable MAC, one fragment of which has left. -/
def loopedTx : Tx := { entry := none, list := 1, copy := { fid := 0 }, queue := 0, started := true, smd := some 0, frags := 1 }

/-- Port 71 in the MAC loopback of MAINTENANCE receives the frame that it sends. -/
def loopedState : State :=
  { ((Tests.wired 7 71).put F.PORT_CTRL_LOOPBACK 1 71).put F.PORT_MM_CFG_MM_EN 1 71 with
    frames := [(0, some loopedFrame)]
    ports := [(71, { preReq := true, lanes := [(1, some loopedTx)],
                     rxP := some { fid := 0, frame := 0, nextCount := 0, frags := 1, base := 124 } })] }

/-- The fragment that leaves comes back into the MAC, its frame exceeds MAXLEN, and the rest of it is to end stomped. -/
theorem looped_cut : ((loopedState.preemptDone 71 60).txGet 71 1).map (·.cut) = some (some 0) := by decide +kernel

/-- Refutes O25: a preempted copy whose fragment comes back by a loopback into its own frame, and makes that frame oversize, is cut short,
so that what waits is not the copy with 60 bytes more sent. -/
theorem not_verification : ¬ Obligations.Verification := by
  intro h
  obtain ⟨-, -, -, preempts⟩ := h
  have done := preempts loopedState 71 60 loopedTx (by decide +kernel) rfl (by decide +kernel) rfl rfl (by decide +kernel) (by decide)
    (by decide +kernel)
  obtain ⟨-, -, lane⟩ := does_elim done (u := loopedState.preemptDone 71 60) rfl
  have same : (settled loopedState (loopedState.preemptDone 71 60)).txGet 71 1 = (loopedState.preemptDone 71 60).txGet 71 1 := by
    rw [State.txGet, State.txGet, settled_port]
  have cut := looped_cut
  rw [← same, show (settled loopedState (loopedState.preemptDone 71 60)).txGet 71 1 = _ from lane] at cut
  cases cut

end Sys2Proof.Machine
end

section
set_option Elab.async false
/-! PROOFS. Bring-up of a port and its link (03_ports_and_macs.md R71 to R83, R101). -/

namespace Sys2Proof.Machine

variable {s t u : State} {p : Nat} {l : List Nat}

/-! ## What the steps of bring-up leave -/

theorem port_setPort_other (s : State) {p q : Nat} (h : q ≠ p) (v : PortSt) : (s.setPort p v).port q = s.port q := tabGet_set_other _ _ _ h _

/-- The registers of bring-up. -/
def State.unbrought (s : State) (p : Nat) : State :=
  ((s.put F.PORT_STAT_AN_DONE 0 p).put F.PORT_STAT_TRAIN_DONE 0 p).put F.PORT_STAT_FEC_LOCK 0 p

theorem unbrought_shows (s : State) (p : Nat) : (s.unbrought p).bit F.PORT_STAT_AN_DONE p = false ∧ (s.unbrought p).bit F.PORT_STAT_TRAIN_DONE p = false ∧
    (s.unbrought p).bit F.PORT_STAT_LINK p = s.bit F.PORT_STAT_LINK p := by
  unfold State.unbrought
  refine ⟨?_, ?_, ?_⟩
  · rw [State.bit_put_beside _ (by decide), State.bit_put_beside _ (by decide)]
    exact State.bit_put_zero _ (by decide) _ _
  · rw [State.bit_put_beside _ (by decide)]
    exact State.bit_put_zero _ (by decide) _ _
  · rw [State.bit_put_beside _ (by decide), State.bit_put_beside _ (by decide), State.bit_put_beside _ (by decide)]

theorem unbrought_keeps (h : s.keepsRegs t l) (hm : R.PORT_STAT.off p 0 ∈ l) : s.keepsRegs (t.unbrought p) l :=
  State.keepsRegs_put (State.keepsRegs_put (State.keepsRegs_put h _ _ _ _ hm) _ _ _ _ hm) _ _ _ _ hm

theorem bringUp_regs (s : State) (p : Nat) : (s.bringUp p).regs = (s.unbrought p).regs := by
  unfold State.bringUp
  dsimp only
  split <;> rfl

theorem bringUp_trainStart (s : State) (p : Nat) : ((s.bringUp p).port p).trainStart = none := by
  have advertised : ∀ v : State, (v.advertise p).port p = v.port p := fun v => State.port_of_ports (s := v) rfl p
  unfold State.bringUp
  dsimp only
  split
  · rw [advertised, State.port_setPort_same]
  · rw [State.port_setPort_same]

theorem bringUp_keeps (h : s.keepsRegs t l) (hm : R.PORT_STAT.off p 0 ∈ l) : s.keepsRegs (t.bringUp p) l :=
  State.keepsRegs_trans (unbrought_keeps h hm) (State.keepsRegs_of_eq _ (bringUp_regs t p))

theorem mmShow_keeps (h : s.keepsRegs t l) (hm : R.PORT_MM_STAT.off p 0 ∈ l) : s.keepsRegs (t.mmShow p) l :=
  State.keepsRegs_put (State.keepsRegs_put h _ _ _ _ hm) _ _ _ _ hm

/-- The pair TX_ACTIVE and VERIFY_STATUS stands in a register of its own. -/
theorem mmShow_reg {q : RegSpec} (h : free q R.PORT_MM_STAT = true) (i j : Nat) : (s.mmShow p).reg q i j = s.reg q i j :=
  (State.reg_put_free (f := F.PORT_MM_STAT_TX_ACTIVE) _ h ..).trans (State.reg_put_free (f := F.PORT_MM_STAT_VERIFY_STATUS) _ h ..)

theorem mmShow_get {f : Fld} (h : free f.reg R.PORT_MM_STAT = true) (i j : Nat) : (s.mmShow p).get f i j = s.get f i j := by
  rw [State.get, mmShow_reg h, State.get]

theorem mmShow_bit {f : Fld} (h : free f.reg R.PORT_MM_STAT = true) (i j : Nat) : (s.mmShow p).bit f i j = s.bit f i j := by
  rw [State.bit, mmShow_get h, State.bit]

/-- What a look at the stopped queues leaves of a field of the port's state. -/
theorem pauseShow_get {f : Fld} (h : besideFld F.PORT_STAT_FC_RX_PAUSED f = true) : (s.pauseShow p).get f p = s.get f p := by
  have reg : f.reg = R.PORT_STAT := (besideFld_iff.1 h).1.1
  have stat : free f.reg R.PORT_FC_STAT = true := by
    rw [reg]
    decide
  have event : free f.reg R.PORT_EVT = true := by
    rw [reg]
    decide
  unfold State.pauseShow
  dsimp only
  rw [State.get_evtIf_free (f := F.PORT_EVT_RX_XOFF) _ event, State.get_put_beside _ h, State.get_put_free (f := F.PORT_FC_STAT_RX_PAUSED_Q) _ stat]

theorem fcClear_get {f : Fld} (h : besideFld F.PORT_STAT_FC_RX_PAUSED f = true) : (s.fcClear p).get f p = s.get f p := by
  have reg : f.reg = R.PORT_STAT := (besideFld_iff.1 h).1.1
  have stat : free f.reg R.PORT_FC_STAT = true := by
    rw [reg]
    decide
  unfold State.fcClear
  rw [pauseShow_get h]
  refine (State.get_of_regs (s := (s.put F.PORT_FC_STAT_TX_XOFF_PRI 0 p).put F.PORT_FC_STAT_TX_XOFF_PORT 0 p) rfl ..).trans ?_
  rw [State.get_put_free (f := F.PORT_FC_STAT_TX_XOFF_PORT) _ stat, State.get_put_free (f := F.PORT_FC_STAT_TX_XOFF_PRI) _ stat]

/-- A port whose link has been lost shows no link. -/
theorem linkLost_link (s : State) (hp : p < 72) (disabled : Bool) : (s.linkLost p disabled).bit F.PORT_STAT_LINK p = false := by
  unfold State.linkLost
  cases link : s.bit F.PORT_STAT_LINK p
  · rw [if_neg Bool.false_ne_true]
    exact link
  · rw [if_pos rfl]
    dsimp only
    generalize (s.rxCut p disabled).txCut p = v
    rw [mmShow_bit (by decide), State.bit, fcClear_get (by decide), State.get_portCnt (by decide) hp (by decide) ⟨hp, by decide⟩,
      State.get_evt_free _ (by decide)]
    exact State.bit_put_zero _ (by decide) _ _

theorem linkLost_down (h : s.bit F.PORT_STAT_LINK p = false) (disabled : Bool) : s.linkLost p disabled = s := by
  unfold State.linkLost
  rw [h]
  rfl

theorem bringUp_get {f : Fld} (s : State) (p i j : Nat) : (s.bringUp p).get f i j = (s.unbrought p).get f i j := State.get_of_regs (bringUp_regs s p) f i j

theorem bringUp_link (s : State) (p : Nat) : (s.bringUp p).bit F.PORT_STAT_LINK p = s.bit F.PORT_STAT_LINK p := by
  rw [State.bit, bringUp_get]
  exact (unbrought_shows s p).2.2

/-! ## Writes of PORT_CTRL and PORT_MODE (R71, R73, R83) -/

/-- The word of a write of PORT_CTRL, taken apart. -/
theorem portCtrlWord_fields (en : Bool) {lb : Nat} (pcs : Bool) (h : lb ≤ 4) : getBits (portCtrlWord en lb pcs) 31 31 = (if en then 1 else 0) ∧
    getBits (portCtrlWord en lb pcs) 6 4 = lb ∧ getBits (portCtrlWord en lb pcs) 0 0 = (if pcs then 1 else 0) := by
  unfold portCtrlWord
  refine ⟨?_, ?_, ?_⟩ <;> rw [getBits_word] <;> cases en <;> cases pcs <;> simp <;> omega

theorem regWrite_portCtrl (host : Nat) (w : Word) : s.regWrite host R.PORT_CTRL p 0 15 w = ([], s.portCtrl p w) := rfl

/-- A write of PORT_CTRL with a loopback that there is, by whether it enables the port and whether it resets its PCS. -/
theorem portCtrl_eq (en : Bool) {lb : Nat} (pcs : Bool) (h : lb ≤ 4) : s.portCtrl p (portCtrlWord en lb pcs) =
    let was := s.bit F.PORT_CTRL_ENABLE p
    let a := (if was && !en then s.linkLost p true else s).put F.PORT_CTRL_ENABLE (if en then 1 else 0) p
    let b := (if was && !en then (a.bringUp p).fcClear p else a).put F.PORT_CTRL_LOOPBACK lb p
    let c := if en && !was then (b.bringUp p).mmShow p else b
    if was && en && pcs then (c.linkLost p false).bringUp p else c := by
  obtain ⟨hen, hlb, hpcs⟩ := portCtrlWord_fields en pcs h
  unfold State.portCtrl
  rw [hen, hlb, hpcs, decide_eq_false (by omega)]
  cases en <;> cases pcs <;> rfl

/-- What a write of PORT_CTRL leaves shown is what its register's own write leaves. -/
theorem settled_port_twn (b v : State) (x : TwnState) {f : Fld} (hf : pbaFree f.reg = true) (i j : Nat) :
    (settled b { v with twn := x }).get f i j = v.get f i j ∧ (settled b { v with twn := x }).bit f i j = v.bit f i j :=
  ⟨(settled_get_free _ _ hf _ _).trans (State.get_of_regs (s := v) rfl ..), (settled_bit_free _ _ hf _ _).trans (State.bit_of_regs (s := v) rfl ..)⟩

theorem settled_keeps_twn {b v : State} (h : b.keepsRegs v l) (x : TwnState) : b.keepsRegs (settled b { v with twn := x }) l :=
  settled_keeps _ _ _ (State.keepsRegs_trans h (State.keepsRegs_of_eq _ rfl))

/-- The enable and the loopback of a port written. -/
def State.ctrlPut (s : State) (p en lb : Nat) : State := (s.put F.PORT_CTRL_ENABLE en p).put F.PORT_CTRL_LOOPBACK lb p

theorem ctrlPut_shows {en lb : Nat} (hl : lb ≤ 4) : (s.ctrlPut p en lb).get F.PORT_CTRL_LOOPBACK p = lb ∧
    (s.ctrlPut p en lb).get F.PORT_CTRL_ENABLE p = en % 2 := by
  unfold State.ctrlPut
  refine ⟨State.get_put_fits _ (by decide) (show lb < 8 by omega) _ _, ?_⟩
  rw [State.get_put_beside _ (by decide)]
  exact State.get_put_same _ _ _ _ _ (by decide)

theorem does_portEnable {h : HostId} {p : Port} {lb : Fin 8} (ho : s.opens h R.PORT_CTRL p 0 = true) (hl : lb.val ≤ 4) :
    Does (.portEnable h p lb) s fun t => t.bit F.PORT_CTRL_ENABLE p = true ∧ t.get F.PORT_CTRL_LOOPBACK p = lb ∧
      s.keepsRegs t [R.PORT_CTRL.off p 0, R.PORT_STAT.off p 0, R.PORT_MM_STAT.off p 0] := by
  let c := s.ctrlPut p 1 lb
  let v := if s.bit F.PORT_CTRL_ENABLE p then c else (c.bringUp p).mmShow p
  have write : s.portCtrl p (portCtrlWord true lb false) = v := by
    rw [portCtrl_eq _ _ hl]
    cases was : s.bit F.PORT_CTRL_ENABLE p <;> simp [v, c, was, State.ctrlPut]
  obtain ⟨loop, enable⟩ := ctrlPut_shows (s := s) (p := p) (en := 1) hl
  have keeps : s.keepsRegs c [R.PORT_CTRL.off p 0, R.PORT_STAT.off p 0, R.PORT_MM_STAT.off p 0] :=
    State.keepsRegs_put (State.keepsRegs_put (State.keepsRegs_refl _) _ _ _ _ List.mem_cons_self) _ _ _ _ List.mem_cons_self
  have shown : ∀ f : Fld, f.reg = R.PORT_CTRL → v.get f p = c.get f p := fun f hf => by
    have mm : free f.reg R.PORT_MM_STAT = true := by rw [hf]; decide
    have stat : free f.reg R.PORT_STAT = true := by rw [hf]; decide
    simp only [v]
    split
    · rfl
    · rw [mmShow_get mm, bringUp_get, State.unbrought, State.get_put_free (f := F.PORT_STAT_FEC_LOCK) _ stat,
        State.get_put_free (f := F.PORT_STAT_TRAIN_DONE) _ stat, State.get_put_free (f := F.PORT_STAT_AN_DONE) _ stat]
  have keeps' : s.keepsRegs v [R.PORT_CTRL.off p 0, R.PORT_STAT.off p 0, R.PORT_MM_STAT.off p 0] := by
    simp only [v]
    split
    · exact keeps
    · exact mmShow_keeps (bringUp_keeps keeps (List.mem_cons_of_mem _ List.mem_cons_self)) (List.mem_cons_of_mem _ (List.mem_cons_of_mem _ List.mem_cons_self))
  have row := regWrite_portCtrl (s := s) (p := p) (hostNum h) (portCtrlWord true lb false)
  rw [write] at row
  generalize v = w at *
  refine does_rowWrite rfl ho row fun x => ⟨?_, ?_, settled_keeps_twn keeps' x⟩
  · rw [(settled_port_twn s w x (by decide) _ _).2, State.bit, shown _ rfl, enable]
    rfl
  · rw [(settled_port_twn s w x (by decide) _ _).1, shown _ rfl, loop]

theorem does_portDisable {h : HostId} {p : Port} {lb : Fin 8} (ho : s.opens h R.PORT_CTRL p 0 = true) (hl : lb.val ≤ 4) :
    Does (.portDisable h p lb) s fun t => t.bit F.PORT_CTRL_ENABLE p = false ∧ t.get F.PORT_CTRL_LOOPBACK p = lb ∧
      (s.bit F.PORT_CTRL_ENABLE p = true → t.bit F.PORT_STAT_LINK p = false) := by
  let a := (if s.bit F.PORT_CTRL_ENABLE p then s.linkLost p true else s).put F.PORT_CTRL_ENABLE 0 p
  let b := if s.bit F.PORT_CTRL_ENABLE p then (a.bringUp p).fcClear p else a
  let v := b.put F.PORT_CTRL_LOOPBACK lb p
  have write : s.portCtrl p (portCtrlWord false lb false) = v := by
    rw [portCtrl_eq _ _ hl]
    cases was : s.bit F.PORT_CTRL_ENABLE p <;> simp [v, b, a, was]
  have enable : b.get F.PORT_CTRL_ENABLE p = 0 := by
    have zero : a.get F.PORT_CTRL_ENABLE p = 0 := State.get_put_fits _ (by decide) (by decide) _ _
    simp only [b]
    split
    · have same : ∀ w : State, (w.fcClear p).get F.PORT_CTRL_ENABLE p = w.get F.PORT_CTRL_ENABLE p := fun w => by
        unfold State.fcClear State.pauseShow
        dsimp only
        rw [State.get_evtIf_free _ (by decide), State.get_put_free _ (by decide), State.get_put_free _ (by decide)]
        refine (State.get_of_regs (s := (w.put F.PORT_FC_STAT_TX_XOFF_PRI 0 p).put F.PORT_FC_STAT_TX_XOFF_PORT 0 p) rfl ..).trans ?_
        rw [State.get_put_free _ (by decide), State.get_put_free _ (by decide)]
      rw [same, bringUp_get, State.unbrought, State.get_put_free _ (by decide), State.get_put_free _ (by decide), State.get_put_free _ (by decide), zero]
    · exact zero
  have link : s.bit F.PORT_CTRL_ENABLE p = true → b.bit F.PORT_STAT_LINK p = false := fun was => by
    simp only [b, a, was, if_pos]
    rw [State.bit, fcClear_get (by decide)]
    exact (bringUp_link _ _).trans ((State.bit_put_free _ (by decide) ..).trans (linkLost_link s p.isLt true))
  have row := regWrite_portCtrl (s := s) (p := p) (hostNum h) (portCtrlWord false lb false)
  rw [write] at row
  have shown : v.get F.PORT_CTRL_ENABLE p = 0 := (State.get_put_beside _ (by decide) ..).trans enable
  have loop : v.get F.PORT_CTRL_LOOPBACK p = lb := State.get_put_fits _ (by decide) (show lb.val < 8 by omega) _ _
  have link' : s.bit F.PORT_CTRL_ENABLE p = true → v.bit F.PORT_STAT_LINK p = false := fun was =>
    (State.bit_put_free _ (by decide) ..).trans (link was)
  generalize v = w at *
  refine does_rowWrite rfl ho row fun x => ⟨?_, ?_, fun was => ?_⟩
  · rw [(settled_port_twn s w x (by decide) _ _).2, State.bit, shown]
    rfl
  · rw [(settled_port_twn s w x (by decide) _ _).1, loop]
  · rw [(settled_port_twn s w x (by decide) _ _).2, link' was]

theorem does_pcsReset {h : HostId} {p : Port} {lb : Fin 8} (ho : s.opens h R.PORT_CTRL p 0 = true) (hl : lb.val ≤ 4)
    (was : s.bit F.PORT_CTRL_ENABLE p = true) : Does (.pcsReset h p lb) s fun t => t.bit F.PORT_STAT_LINK p = false ∧
      t.bit F.PORT_STAT_AN_DONE p = false ∧ t.bit F.PORT_STAT_TRAIN_DONE p = false := by
  let v := ((s.ctrlPut p 1 lb).linkLost p false).bringUp p
  have write : s.portCtrl p (portCtrlWord true lb true) = v := by
    rw [portCtrl_eq _ _ hl]
    simp [v, was, State.ctrlPut]
  have row := regWrite_portCtrl (s := s) (p := p) (hostNum h) (portCtrlWord true lb true)
  rw [write] at row
  have link : v.bit F.PORT_STAT_LINK p = false := (bringUp_link _ _).trans (linkLost_link _ p.isLt false)
  obtain ⟨an, train, -⟩ := unbrought_shows ((s.ctrlPut p 1 lb).linkLost p false) p
  have an' : v.bit F.PORT_STAT_AN_DONE p = false := by rw [State.bit, bringUp_get]; exact an
  have train' : v.bit F.PORT_STAT_TRAIN_DONE p = false := by rw [State.bit, bringUp_get]; exact train
  generalize v = w at *
  refine does_rowWrite rfl ho row fun x => ⟨?_, ?_, ?_⟩
  · rw [(settled_port_twn s w x (by decide) _ _).2, link]
  · rw [(settled_port_twn s w x (by decide) _ _).2, an']
  · rw [(settled_port_twn s w x (by decide) _ _).2, train']

theorem regWrite_portMode (host : Nat) {p : Port} (w : Word) (h : s.bit F.PORT_CTRL_ENABLE p = false) :
    s.regWrite host R.PORT_MODE p 0 15 w = ([], s.portMode p w) := by
  have closed : s.closed R.PORT_MODE p = false := (Bool.and_eq_false_iff.2 (.inr h) : (R.PORT_MODE.has .rwe && s.bit F.PORT_CTRL_ENABLE p) = false)
  have write : s.regWrite host R.PORT_MODE p 0 15 w = if s.closed R.PORT_MODE p then ([flGATED], s) else ([], s.portMode p w) := rfl
  rw [write, closed]
  rfl

theorem does_portModeWrite {h : HostId} {p : Port} {data : Word} (ho : s.opens h R.PORT_MODE p 0 = true)
    (he : s.bit F.PORT_CTRL_ENABLE p = false) :
    (portModeOk p data = true → Does (.portModeWrite h p data) s fun t => t.reg R.PORT_MODE p = data &&& 0xEFF ∧
      s.keepsRegs t [R.PORT_MODE.off p 0]) ∧
    (portModeOk p data = false → Does (.portModeWrite h p data) s fun t => t.bit F.PORT_EVT_CFG_ERR p = true ∧
      s.keepsRegs t [R.PORT_EVT.off p 0]) := by
  have row := regWrite_portMode (hostNum h) data he
  refine ⟨fun ok => ?_, fun bad => ?_⟩
  · rw [State.portMode, ok, if_pos rfl] at row
    have keeps : s.keepsRegs (s.setReg R.PORT_MODE (data &&& 0xEFF) p) [R.PORT_MODE.off p 0] :=
      State.keepsRegs_setReg (State.keepsRegs_refl _) _ _ _ _ List.mem_cons_self
    refine does_rowWrite rfl ho row fun x => ⟨?_, settled_keeps_twn keeps x⟩
    rw [settled_reg_free _ _ (by decide)]
    exact State.reg_setReg_same ..
  · rw [State.portMode, bad, if_neg Bool.false_ne_true] at row
    have keeps : s.keepsRegs (s.evt F.PORT_EVT_CFG_ERR p) [R.PORT_EVT.off p 0] :=
      State.keepsRegs_evt (State.keepsRegs_refl _) _ _ _ List.mem_cons_self
    have shown : (s.evt F.PORT_EVT_CFG_ERR p).bit F.PORT_EVT_CFG_ERR p = true := State.bit_evt_same _ _ _ _ (by decide) (by decide)
    generalize s.evt F.PORT_EVT_CFG_ERR p = v at *
    exact does_rowWrite rfl ho row fun x => ⟨((settled_port_twn s v x (by decide) _ _).2).trans shown, settled_keeps_twn keeps x⟩

/-! ## Negotiation and training (R76, R77) -/

/-- The registers of a negotiation that is done. -/
def State.anDone (s : State) (p : Nat) : State := (s.put F.PORT_STAT_AN_DONE 1 p).evt F.PORT_EVT_AN_DONE p

theorem anDone_shows (s : State) (p : Nat) : (s.anDone p).bit F.PORT_STAT_AN_DONE p = true ∧ (s.anDone p).bit F.PORT_EVT_AN_DONE p = true ∧
    (∀ f : Fld, f.reg = R.PORT_AN_LP → (s.anDone p).get f p = s.get f p) := by
  unfold State.anDone
  refine ⟨?_, State.bit_evt_same _ _ _ _ (by decide) (by decide), fun f hf => ?_⟩
  · rw [State.bit_evt_free _ (by decide)]
    exact State.bit_put_one _ (by decide) (by decide) _ _
  · have evt : free f.reg R.PORT_EVT = true := by rw [hf]; decide
    have stat : free f.reg R.PORT_STAT = true := by rw [hf]; decide
    rw [State.get_evt_free (f := F.PORT_EVT_AN_DONE) _ evt, State.get_put_free (f := F.PORT_STAT_AN_DONE) _ stat]

theorem anDone_keeps (h : s.keepsRegs t l) (hs : R.PORT_STAT.off p 0 ∈ l) (he : R.PORT_EVT.off p 0 ∈ l) : s.keepsRegs (t.anDone p) l :=
  State.keepsRegs_evt (State.keepsRegs_put h _ _ _ _ hs) _ _ _ he

theorem does_autoneg {p : Port} {lp : BitVec 6} {same : Bool} (en : s.bit F.PORT_CTRL_ENABLE p = true) (mode : anMode (s.get F.PORT_MODE_MODE p) = true)
    (an : s.bit F.PORT_MODE_AN_EN p = true) (notYet : s.bit F.PORT_STAT_AN_DONE p = false) (agree : s.get F.PORT_MODE_MODE p = 1 ∨ same = true) :
    Does (.autonegComplete p lp same) s fun t => t.bit F.PORT_STAT_AN_DONE p = true ∧ t.bit F.PORT_EVT_AN_DONE p = true ∧
      t.get F.PORT_AN_LP_LP_ABIL p = lp.toNat ∧ s.keepsRegs t [R.PORT_STAT.off p 0, R.PORT_EVT.off p 0, R.PORT_AN_LP.off p 0] := by
  let a := s.put F.PORT_AN_LP_LP_ABIL lp.toNat p
  have negotiated : ∃ fec, ∃ t : State, s.autoneg p lp.toNat same = t ∧
      t.regs = ((if s.get F.PORT_MODE_MODE p = 1 then a else a.put F.PORT_STAT_FEC_RES fec p).anDone p).regs := by
    have go : (s.bit F.PORT_CTRL_ENABLE p && anMode (s.get F.PORT_MODE_MODE p) && s.bit F.PORT_MODE_AN_EN p && !s.bit F.PORT_STAT_AN_DONE p) = true := by
      rw [en, mode, an, notYet]
      rfl
    have stay : ¬ (s.get F.PORT_MODE_MODE p ≠ 1 ∧ same = false) := by
      rintro ⟨h1, h2⟩
      rcases agree with h | h
      · exact h1 h
      · rw [h2] at h
        cases h
    unfold State.autoneg
    dsimp only
    rw [if_pos go, if_neg stay]
    have unchanged : ∀ (c : Bool) (x : State) (y : PortSt), (if c = true then x.setPort p y else x).regs = x.regs := fun c x y => by cases c <;> rfl
    exact ⟨_, _, rfl, unchanged ..⟩
  obtain ⟨fec, t, ht, regs⟩ := negotiated
  have abil : a.get F.PORT_AN_LP_LP_ABIL p = lp.toNat := State.get_put_fits _ (by decide) (show lp.toNat < 64 from lp.isLt) _ _
  have keeps : s.keepsRegs a [R.PORT_STAT.off p 0, R.PORT_EVT.off p 0, R.PORT_AN_LP.off p 0] :=
    State.keepsRegs_put (State.keepsRegs_refl _) _ _ _ _ (List.mem_cons_of_mem _ (List.mem_cons_of_mem _ List.mem_cons_self))
  generalize a = v at *
  let w := if s.get F.PORT_MODE_MODE p = 1 then v else v.put F.PORT_STAT_FEC_RES fec p
  have abil' : w.get F.PORT_AN_LP_LP_ABIL p = lp.toNat := by
    simp only [w]
    split
    · exact abil
    · exact (State.get_put_free _ (by decide) ..).trans abil
  have keeps' : s.keepsRegs w [R.PORT_STAT.off p 0, R.PORT_EVT.off p 0, R.PORT_AN_LP.off p 0] := by
    simp only [w]
    split
    · exact keeps
    · exact State.keepsRegs_put keeps _ _ _ _ List.mem_cons_self
  obtain ⟨done, event, other⟩ := anDone_shows w p
  refine does_of (u := s.autoneg p lp.toNat same) rfl ?_
  rw [ht, settled_bit_free _ _ (by decide), settled_bit_free _ _ (by decide), settled_get_free _ _ (by decide), State.bit_of_regs regs,
    State.bit_of_regs regs, State.get_of_regs regs]
  refine ⟨done, event, (other _ rfl).trans abil', settled_keeps _ _ _ (State.keepsRegs_trans ?_ (State.keepsRegs_of_eq _ regs))⟩
  exact anDone_keeps keeps' List.mem_cons_self (List.mem_cons_of_mem _ List.mem_cons_self)

theorem does_trained {p : Port} {eq : BitVec 18} (h : (s.port p).trainStart.isSome = true) : Does (.trainingComplete p eq) s fun t =>
    t.bit F.PORT_STAT_TRAIN_DONE p = true ∧ t.port p = { s.port p with trainStart := none, eqUse := some eq } ∧
    s.keepsRegs t [R.PORT_STAT.off p 0] := by
  let a := s.put F.PORT_STAT_TRAIN_DONE 1 p
  have trained : s.trained p eq = a.setPort p { s.port p with trainStart := none, eqUse := some eq } := if_pos h
  have keeps : s.keepsRegs a [R.PORT_STAT.off p 0] := State.keepsRegs_put (State.keepsRegs_refl _) _ _ _ _ List.mem_cons_self
  have done : a.bit F.PORT_STAT_TRAIN_DONE p = true := State.bit_put_one _ (by decide) (by decide) _ _
  refine does_of (u := s.trained p eq) rfl ?_
  rw [trained]
  generalize a = v at *
  refine ⟨?_, ?_, settled_keeps _ _ _ (State.keepsRegs_trans keeps (State.keepsRegs_of_eq _ rfl))⟩
  · rw [settled_bit_free _ _ (by decide)]
    exact (State.bit_of_regs (s := v) rfl ..).trans done
  · rw [settled_port, State.port_setPort_same]

theorem does_trainTimeout {p : Port} {t0 : Int} (h : (s.port p).trainStart = some t0)
    (due : t0 + max (s.get F.PORT_KR_CFG_MAX_WAIT p) 1 * 1000000 ≤ s.now) : Does (.trainingTimeout p) s fun t =>
    t.bit F.PORT_EVT_TRAIN_FAIL p = true ∧ t.bit F.PORT_STAT_AN_DONE p = false ∧ (t.port p).trainStart = none ∧
    s.keepsRegs t [R.PORT_STAT.off p 0, R.PORT_EVT.off p 0] := by
  have timeout : s.trainTimeout p = (s.evt F.PORT_EVT_TRAIN_FAIL p).bringUp p := by
    unfold State.trainTimeout
    rw [h]
    exact if_pos due
  have event : (s.evt F.PORT_EVT_TRAIN_FAIL p).bit F.PORT_EVT_TRAIN_FAIL p = true := State.bit_evt_same _ _ _ _ (by decide) (by decide)
  have keeps : s.keepsRegs (s.evt F.PORT_EVT_TRAIN_FAIL p) [R.PORT_STAT.off p 0, R.PORT_EVT.off p 0] :=
    State.keepsRegs_evt (State.keepsRegs_refl _) _ _ _ (List.mem_cons_of_mem _ List.mem_cons_self)
  refine does_of (u := s.trainTimeout p) rfl ?_
  rw [timeout]
  generalize s.evt F.PORT_EVT_TRAIN_FAIL p = v at *
  refine ⟨?_, ?_, ?_, settled_keeps _ _ _ (bringUp_keeps keeps List.mem_cons_self)⟩
  · rw [settled_bit_free _ _ (by decide), State.bit, bringUp_get, State.unbrought, State.get_put_free _ (by decide), State.get_put_free _ (by decide),
      State.get_put_free _ (by decide)]
    exact event
  · rw [settled_bit_free _ _ (by decide), State.bit, bringUp_get]
    exact (unbrought_shows v p).1
  · rw [settled_port]
    exact bringUp_trainStart v p

/-! ## The link (R74, R75, R81, R82) -/

theorem sendMPacket_link (s : State) (p : Nat) (kind : MacPacket) : (s.sendMPacket p kind).reg R.PORT_STAT p = s.reg R.PORT_STAT p ∧
    (s.bit F.PORT_EVT_LINK_UP p = true → (s.sendMPacket p kind).bit F.PORT_EVT_LINK_UP p = true) ∧
    ∀ l, R.PORT_EVT.off p 0 ∈ l → R.PORT_MM_STAT.off p 0 ∈ l → s.keepsRegs (s.sendMPacket p kind) l := by
  unfold State.sendMPacket
  split
  · exact ⟨rfl, id, fun _ _ _ => State.keepsRegs_refl _⟩
  split
  · exact ⟨rfl, fun h => (State.bit_of_regs (s := s) rfl ..).trans h, fun _ _ _ => State.keepsRegs_of_eq _ rfl⟩
  split
  · refine ⟨?_, fun h => ?_, fun l he hm => mmShow_keeps (State.keepsRegs_evt (State.keepsRegs_put (State.keepsRegs_refl _) _ _ _ _ hm) _ _ _ he) hm⟩
    · rw [mmShow_reg (by decide), State.reg_evt_free _ (by decide), State.reg_put_free _ (by decide)]
    · rw [mmShow_bit (by decide), State.bit, State.get_evt_beside _ (by decide) (by decide) (by decide), State.get_put_free _ (by decide)]
      exact h
  · exact ⟨rfl, id, fun _ _ _ => State.keepsRegs_refl _⟩

theorem sendVerify_eq (s : State) (p k : Nat) : ∃ y : State, s.sendVerify p k = y.sendMPacket p .verify ∧
    y.regs = (s.put F.PORT_MM_STAT_VERIFY_STATUS 2 p).regs := ⟨_, rfl, rfl⟩

/-- The registers of a port whose link comes up. -/
def State.linkShown (s : State) (p : Nat) : State := (s.put F.PORT_STAT_LINK 1 p).evt F.PORT_EVT_LINK_UP p

theorem linkShown_shows (s : State) (p : Nat) : (s.linkShown p).bit F.PORT_STAT_LINK p = true ∧ (s.linkShown p).bit F.PORT_EVT_LINK_UP p = true := by
  unfold State.linkShown
  refine ⟨?_, State.bit_evt_same _ _ _ _ (by decide) (by decide)⟩
  rw [State.bit_evt_free _ (by decide)]
  exact State.bit_put_one _ (by decide) (by decide) _ _

/-- The registers that bring-up writes on a port. -/
def linkRegs (p : Nat) : List Nat := [R.PORT_STAT.off p 0, R.PORT_EVT.off p 0, R.PORT_MM_STAT.off p 0]

theorem linkUp_eq (ready : s.linkReady p = true) (down : s.bit F.PORT_STAT_LINK p = false) : ∃ a : State, s.keepsRegs a (linkRegs p) ∧
    ∃ v : State, v.regs = (a.linkShown p).regs ∧
      s.linkUp p = if (v.mmShow p).get F.PORT_MM_STAT_VERIFY_STATUS p = 1 then (v.mmShow p).sendVerify p 1 else v.mmShow p := by
  have go : (s.linkReady p && !s.bit F.PORT_STAT_LINK p) = true := by rw [ready, down]; rfl
  unfold State.linkUp
  rw [if_pos go]
  extract_lets m an a b c d e f
  have stat : ∀ {u : State} {g : Fld} {v : Nat}, g.reg = R.PORT_STAT → s.keepsRegs u (linkRegs p) → s.keepsRegs (u.put g v p) (linkRegs p) :=
    fun hg h => State.keepsRegs_put h _ _ _ _ (by rw [hg]; exact List.mem_cons_self)
  have ha : s.keepsRegs a (linkRegs p) := by
    simp only [a]
    split
    · split
      · exact State.keepsRegs_refl _
      · exact stat rfl (State.keepsRegs_refl _)
    · exact stat rfl (State.keepsRegs_refl _)
  have hb : s.keepsRegs b (linkRegs p) := by
    simp only [b]
    split
    · exact ha
    · exact stat rfl ha
  exact ⟨c, stat rfl hb, f, rfl, rfl⟩

theorem does_linkUp {p : Port} (ready : s.linkReady p = true) (down : s.bit F.PORT_STAT_LINK p = false) : Does (.linkUp p) s fun t =>
    t.bit F.PORT_STAT_LINK p = true ∧ t.bit F.PORT_EVT_LINK_UP p = true ∧
    s.keepsRegs t [R.PORT_STAT.off p 0, R.PORT_EVT.off p 0, R.PORT_MM_STAT.off p 0] := by
  obtain ⟨a, keeps, v, regs, up⟩ := linkUp_eq ready down
  obtain ⟨link, event⟩ := linkShown_shows a p
  have inStat : R.PORT_STAT.off p 0 ∈ linkRegs p := List.mem_cons_self
  have inEvt : R.PORT_EVT.off p 0 ∈ linkRegs p := List.mem_cons_of_mem _ List.mem_cons_self
  have inMm : R.PORT_MM_STAT.off p 0 ∈ linkRegs p := List.mem_cons_of_mem _ (List.mem_cons_of_mem _ List.mem_cons_self)
  have vkeeps : s.keepsRegs v (linkRegs p) :=
    State.keepsRegs_trans (State.keepsRegs_evt (State.keepsRegs_put keeps _ _ _ _ inStat) _ _ _ inEvt) (State.keepsRegs_of_eq _ regs)
  rw [← State.bit_of_regs regs] at link event
  have wlink : (v.mmShow p).bit F.PORT_STAT_LINK p = true := (mmShow_bit (by decide) ..).trans link
  have wevent : (v.mmShow p).bit F.PORT_EVT_LINK_UP p = true := (mmShow_bit (by decide) ..).trans event
  have wkeeps : s.keepsRegs (v.mmShow p) (linkRegs p) := mmShow_keeps vkeeps inMm
  refine does_of (u := s.linkUp p) rfl ?_
  rw [up, settled_bit_free _ _ (by decide), settled_bit_free _ _ (by decide)]
  generalize v.mmShow p = w at *
  have whole : ∀ x : State, x.bit F.PORT_STAT_LINK p = true ∧ x.bit F.PORT_EVT_LINK_UP p = true ∧ s.keepsRegs x (linkRegs p) →
      x.bit F.PORT_STAT_LINK p = true ∧ x.bit F.PORT_EVT_LINK_UP p = true ∧ s.keepsRegs (settled s x) (linkRegs p) :=
    fun x ⟨h1, h2, h3⟩ => ⟨h1, h2, settled_keeps _ _ _ h3⟩
  refine whole _ ?_
  split
  · obtain ⟨y, sent, ylink⟩ := sendVerify_eq w p 1
    obtain ⟨same, kept, keepsY⟩ := sendMPacket_link y p .verify
    rw [sent]
    refine ⟨?_, kept ?_, State.keepsRegs_trans (State.keepsRegs_trans (State.keepsRegs_put wkeeps _ _ _ _ inMm) (State.keepsRegs_of_eq _ ylink))
      (keepsY _ inEvt inMm)⟩
    · rw [State.bit, State.get, show (y.sendMPacket p .verify).reg F.PORT_STAT_LINK.reg p = _ from same]
      exact (State.bit_of_regs ylink F.PORT_STAT_LINK p 0).trans ((State.bit_put_free _ (by decide) ..).trans wlink)
    · exact (State.bit_of_regs ylink ..).trans ((State.bit_put_free _ (by decide) ..).trans wevent)
  · exact ⟨wlink, wevent, wkeeps⟩

theorem does_linkDown {p : Port} {cause : Fin 3} (up : s.bit F.PORT_STAT_LINK p = true) : Does (.linkDown p cause) s fun t =>
    t.bit F.PORT_STAT_LINK p = false := by
  have lost := linkLost_link s p.isLt false
  refine does_of (u := s.linkDown p cause.val) rfl ?_
  rw [settled_bit_free _ _ (by decide)]
  unfold State.linkDown
  rw [if_pos up]
  dsimp only
  generalize s.linkLost p false = v at *
  split
  · exact (bringUp_link v p).trans lost
  · exact (State.bit_put_beside _ (by decide) ..).trans lost

theorem does_fecErrors {p : Port} {n corrected : Nat} (up : s.bit F.PORT_STAT_LINK p = true) (fec : s.get F.PORT_STAT_FEC_RES p ≠ 0) :
    Does (.fecUncorrectable p n corrected) s fun t => t.portCount p 24 = (s.portCount p 24 + n) % 2 ^ 64 ∧
      t.portCount p 23 = (s.portCount p 23 + corrected) % 2 ^ 64 ∧ (n ≠ 0 → t.bit F.PORT_EVT_FEC_UNCORR p = true) ∧ s.onlyRegs t := by
  let a := (s.portCnt p 24 n).portCnt p 23 corrected
  have other : ∀ (w : State) (k j m : Nat), k ≠ j → k < 48 → j < 48 → (w.portCnt p j m).portCount p k = w.portCount p k := fun w k j m ne hk hj => by
    have lo : R.PORT_CNT_LO.off p k ≠ R.PORT_CNT_LO.off p j := off_ne_of_idx (by decide) ⟨p.isLt, hk⟩ ⟨p.isLt, hj⟩ (.inr ne)
    have hi : R.PORT_CNT_HI.off p k ≠ R.PORT_CNT_HI.off p j := off_ne_of_idx (by decide) ⟨p.isLt, hk⟩ ⟨p.isLt, hj⟩ (.inr ne)
    unfold State.portCount State.portCnt
    dsimp only
    rw [State.get_put_free _ (by decide), State.get_put_other _ _ _ _ _ _ _ _ lo, State.get_put_other _ _ _ _ _ _ _ _ hi, State.get_put_free _ (by decide)]
  have c24 : a.portCount p 24 = (s.portCount p 24 + n) % 2 ^ 64 := (other _ 24 23 _ (by decide) (by decide) (by decide)).trans (State.portCount_portCnt ..)
  have c23 : a.portCount p 23 = (s.portCount p 23 + corrected) % 2 ^ 64 := by
    rw [State.portCount_portCnt, other _ 23 24 _ (by decide) (by decide) (by decide)]
  have only : s.onlyRegs a := State.onlyRegs_trans (State.portCnt_only ..) (State.portCnt_only ..)
  have errors : s.fecErrors p n corrected = a.evtIf (n != 0 && !(a.bit F.PORT_EVT_FEC_UNCORR p)) F.PORT_EVT_FEC_UNCORR p := if_pos ⟨up, fec⟩
  refine does_of (u := s.fecErrors p n corrected) rfl ?_
  rw [errors, settled_portCount _ _ p.isLt (by decide), settled_portCount _ _ p.isLt (by decide), settled_bit_free _ _ (by decide)]
  generalize a = v at *
  have count : ∀ k < 48, (v.evtIf (n != 0 && !(v.bit F.PORT_EVT_FEC_UNCORR p)) F.PORT_EVT_FEC_UNCORR p).portCount p k = v.portCount p k := fun k hk => by
    rw [State.portCount, State.get_evtIf_other _ _ _ _ _ _ _ _ (off_ne (by decide) ⟨p.isLt, hk⟩ ⟨p.isLt, Nat.one_pos⟩),
      State.get_evtIf_other _ _ _ _ _ _ _ _ (off_ne (by decide) ⟨p.isLt, hk⟩ ⟨p.isLt, Nat.one_pos⟩), State.portCount]
  refine ⟨(count 24 (by decide)).trans c24, (count 23 (by decide)).trans c23, fun hn => ?_, settled_onlyRegs (State.onlyRegs_trans only (State.onlyRegs_evtIf State.onlyRegs_refl _ _ _ _))⟩
  cases was : v.bit F.PORT_EVT_FEC_UNCORR p
  · rw [show (n != 0 && !false) = true by simp [hn]]
    exact State.bit_evt_same _ _ _ _ (by decide) (by decide)
  · rw [show (n != 0 && !true) = false by simp]
    exact was

/-! ## The link word of a copper PHY (R74) -/

/-- The speed that a link word carries, where it carries one. -/
def State.resolveSpeed (s : State) (p : Nat) (speed : Option Nat) : State :=
  match speed with
  | some v => s.put F.PORT_STAT_SPEED_RES v p
  | none => s

theorem resolveSpeed_port (s : State) (p : Nat) (speed : Option Nat) : (s.resolveSpeed p speed).port p = s.port p := by
  cases speed <;> rfl

theorem resolveSpeed_get {f : Fld} (s : State) (p : Nat) (speed : Option Nat) (hf : free f.reg R.PORT_STAT = true) :
    (s.resolveSpeed p speed).get f p = s.get f p := by
  cases speed with
  | some v => exact State.get_put_free (f := F.PORT_STAT_SPEED_RES) _ hf ..
  | none => rfl

theorem resolveSpeed_keeps {l : List Nat} {v : State} (h : s.keepsRegs v l) (p : Nat) (speed : Option Nat) (hl : R.PORT_STAT.off p 0 ∈ l) :
    s.keepsRegs (v.resolveSpeed p speed) l := by
  cases speed with
  | some v => exact State.keepsRegs_put h _ _ _ _ hl
  | none => exact h

/-- The port after a link word: the word is kept, and what it says of the link. -/
def State.linkWord (s : State) (p w : Nat) (up half : Bool) : State :=
  (s.put F.PORT_AN_LP_LP_WORD w p).setPort p { s.port p with phyUp := up, half := half }

theorem linkWord_shows (s : State) {p w : Nat} (hw : w < 65536) (up half : Bool) : (s.linkWord p w up half).get F.PORT_AN_LP_LP_WORD p = w ∧
    (s.linkWord p w up half).port p = { s.port p with phyUp := up, half := half } ∧
    ∀ l, R.PORT_AN_LP.off p 0 ∈ l → s.keepsRegs (s.linkWord p w up half) l := by
  refine ⟨?_, State.port_setPort_same _ _ _, fun l hl => State.keepsRegs_trans (State.keepsRegs_put (State.keepsRegs_refl _) _ _ _ _ hl)
    (State.keepsRegs_of_eq _ rfl)⟩
  exact (State.get_of_regs (s := s.put F.PORT_AN_LP_LP_WORD w p) rfl _ p 0).trans (State.get_put_fits _ (by decide) hw _ _)

theorem controlWord_full {p w : Nat} (en : s.bit F.PORT_CTRL_ENABLE p = true) (mode : s.get F.PORT_MODE_MODE p = 0 ∨ s.get F.PORT_MODE_MODE p = 6)
    (up : w.testBit 15 = true) (full : w.testBit 12 = true) (an : s.bit F.PORT_MODE_AN_EN p = true) : ∃ speed,
    s.controlWord p w = if ((s.linkWord p w true false).resolveSpeed p speed).bit F.PORT_STAT_AN_DONE p
      then (s.linkWord p w true false).resolveSpeed p speed else ((s.linkWord p w true false).resolveSpeed p speed).anDone p := by
  have an' : (s.linkWord p w true false).bit F.PORT_MODE_AN_EN p = true :=
    (State.bit_of_regs (s := s.put F.PORT_AN_LP_LP_WORD w p) rfl F.PORT_MODE_AN_EN p 0).trans ((State.bit_put_free _ (by decide) ..).trans an)
  have go : ((s.linkWord p w true false).bit F.PORT_MODE_AN_EN p && true && !!true) = true := by rw [an']; rfl
  unfold State.controlWord
  dsimp only
  rw [if_pos ⟨en, mode⟩, up, full]
  apply Exists.intro
  exact if_pos go

theorem controlWord_half {p w : Nat} (en : s.bit F.PORT_CTRL_ENABLE p = true) (mode : s.get F.PORT_MODE_MODE p = 0 ∨ s.get F.PORT_MODE_MODE p = 6)
    (half : w.testBit 12 = false) (down : s.bit F.PORT_STAT_LINK p = false) :
    s.controlWord p w = (s.linkWord p w (w.testBit 15) true).evt F.PORT_EVT_CFG_ERR p := by
  have down' : ((s.linkWord p w (w.testBit 15) true).evt F.PORT_EVT_CFG_ERR p).bit F.PORT_STAT_LINK p = false := by
    rw [State.bit_evt_free _ (by decide)]
    exact (State.bit_of_regs (s := s.put F.PORT_AN_LP_LP_WORD w p) rfl F.PORT_STAT_LINK p 0).trans ((State.bit_put_free _ (by decide) ..).trans down)
  have lost : ∀ x : State, x.bit F.PORT_STAT_LINK p = false → (if (!false || !(w.testBit 15)) = true then x.linkLost p false else x) = x :=
    fun x hx => (if_pos rfl).trans (linkLost_down hx false)
  have stays : ∀ (x y : State) (b : Bool), (if (b && w.testBit 15 && !!false) = true then y else x) = x := fun x y b => if_neg (by simp)
  unfold State.controlWord
  dsimp only
  rw [if_pos ⟨en, mode⟩, half]
  refine (stays _ _ _).trans (lost _ ?_)
  exact down'

theorem does_linkWord {p : Port} {word : BitVec 16} (en : s.bit F.PORT_CTRL_ENABLE p = true)
    (mode : s.get F.PORT_MODE_MODE p = 0 ∨ s.get F.PORT_MODE_MODE p = 6) (up : word.toNat.testBit 15 = true)
    (full : word.toNat.testBit 12 = true) (an : s.bit F.PORT_MODE_AN_EN p = true) : Does (.controlWordReceived p word) s fun t =>
    t.bit F.PORT_STAT_AN_DONE p = true ∧ t.get F.PORT_AN_LP_LP_WORD p = word.toNat ∧ t.port p = { s.port p with phyUp := true, half := false } ∧
    s.keepsRegs t [R.PORT_STAT.off p 0, R.PORT_EVT.off p 0, R.PORT_AN_LP.off p 0] := by
  obtain ⟨speed, eq⟩ := controlWord_full en mode up full an
  obtain ⟨kept, port, keeps⟩ := linkWord_shows s (p := p) (w := word.toNat) word.isLt true false
  have k := resolveSpeed_keeps (keeps [R.PORT_STAT.off p 0, R.PORT_EVT.off p 0, R.PORT_AN_LP.off p 0] (by simp)) p speed List.mem_cons_self
  have wd : ((s.linkWord p word.toNat true false).resolveSpeed p speed).get F.PORT_AN_LP_LP_WORD p = word.toNat :=
    (resolveSpeed_get _ _ _ (by decide)).trans kept
  have pt := (resolveSpeed_port (s.linkWord p word.toNat true false) p speed).trans port
  refine does_of (u := s.controlWord p word.toNat) rfl ?_
  rw [eq]
  generalize (s.linkWord p word.toNat true false).resolveSpeed p speed = v at *
  rw [settled_bit_free _ _ (by decide), settled_get_free _ _ (by decide), settled_port]
  obtain ⟨done, -, other⟩ := anDone_shows v p
  cases was : v.bit F.PORT_STAT_AN_DONE p
  · exact ⟨done, (other F.PORT_AN_LP_LP_WORD rfl).trans wd, pt, settled_keeps _ _ _ (anDone_keeps k List.mem_cons_self (by simp))⟩
  · exact ⟨was, wd, pt, settled_keeps _ _ _ k⟩

theorem does_halfWord {p : Port} {word : BitVec 16} (en : s.bit F.PORT_CTRL_ENABLE p = true)
    (mode : s.get F.PORT_MODE_MODE p = 0 ∨ s.get F.PORT_MODE_MODE p = 6) (half : word.toNat.testBit 12 = false)
    (down : s.bit F.PORT_STAT_LINK p = false) : Does (.controlWordReceived p word) s fun t =>
    t.bit F.PORT_EVT_CFG_ERR p = true ∧ t.port p = { s.port p with phyUp := word.toNat.testBit 15, half := true } ∧
    s.keepsRegs t [R.PORT_EVT.off p 0, R.PORT_AN_LP.off p 0] := by
  obtain ⟨-, port, keeps⟩ := linkWord_shows s (p := p) (w := word.toNat) word.isLt (word.toNat.testBit 15) true
  refine does_of (u := s.controlWord p word.toNat) rfl ?_
  rw [controlWord_half en mode half down]
  have k := keeps [R.PORT_EVT.off p 0, R.PORT_AN_LP.off p 0] (by simp)
  generalize s.linkWord p word.toNat (word.toNat.testBit 15) true = v at *
  rw [settled_bit_free _ _ (by decide), settled_port]
  exact ⟨State.bit_evt_same _ _ _ _ (by decide) (by decide), port, settled_keeps _ _ _ (State.keepsRegs_evt k _ _ _ List.mem_cons_self)⟩

/-- Settles O24: each write, event or word moves the fields of its own port. -/
theorem portLinks : Obligations.PortLinks :=
  ⟨fun _ _ _ _ opens small => ⟨does_portEnable opens small, does_portDisable opens small, does_pcsReset opens small⟩,
   fun _ _ _ _ opens off => does_portModeWrite opens off,
   fun _ _ _ _ => does_autoneg,
   fun _ _ _ => does_trained,
   fun _ _ _ => does_trainTimeout,
   fun _ _ => does_linkUp,
   fun _ _ _ => does_linkDown,
   fun _ _ _ en mode => ⟨does_linkWord en mode, does_halfWord en mode⟩,
   fun _ _ _ _ => does_fecErrors⟩

end Sys2Proof.Machine
end

section
set_option Elab.async false
/-! PROOFS. What the twins send each other (14_twin_lockstep.md R425): where the statement fails. -/

namespace Sys2Proof.Machine

/-- A cycle number of more than 48 bits. -/
def longCycle : Nat := 2 ^ 49 - 2001

/-- The cycle counter is one cycle before it wraps, and a SYNC message of that cycle number waits. -/
def wrapState : State := { Tests.device modeSCHEDULED with twn := { tccOfs := 2 ^ 48 - 1, syncs := [(longCycle, [.meter 0 {}])] } }

/-- After the counter has wrapped the message's cycle is no longer 1,875 CCLK past. -/
theorem wrapState_waits : wrapState.timeTick.twn.syncs.length = 1 := by decide +kernel

/-- Refutes O60: a SYNC message that is due before a tick waits on after it, where its cycle number is not below 2^48 and the counter wraps. -/
theorem not_twinMessages : ¬ Obligations.TwinMessages := by
  intro h
  obtain ⟨-, -, -, -, -, -, -, -, -, -, -, -, -, -, -, applies⟩ := h
  have done := applies wrapState longCycle 0 {} rfl (by decide +kernel) (by decide +kernel) (by decide +kernel)
  obtain ⟨none, -, -⟩ := does_elim done (u := wrapState.timeTick) rfl
  have waits := wrapState_waits
  rw [settled_twn] at none
  rw [none] at waits
  cases waits

end Sys2Proof.Machine
end

section
set_option Elab.async false
/-! PROOFS. The late excess of a frame's filter (09_policing.md R274): where the statement fails. -/

namespace Sys2Proof.Machine

/-- A policed frame whose late excess has been handled already. -/
def lateFrame : Frame := { Tests.frame0 0 with stage := .policed, dec := { hit := true, filterEn := true }, sduLate := true }

/-- Port 0 receives the frame; its filter lets one byte pass. -/
def lateState : State :=
  { Tests.hears (Tests.wired modeSCHEDULED 0) 0 lateFrame with pol := { filters := [(0, { maxSdu := 1 })] } }

/-- Two bytes more exceed the filter's MAX_SDU, and its counts stay. -/
theorem lateState_stays : ((lateState.arrive 0 false [0, 0]).filter 0).notPassSdu = 0 := by decide +kernel

theorem settled_filter (b t : State) (i : Nat) : (settled b t).filter i = t.filter i := by
  rw [State.filter, settled_pol, State.filter]

/-- Refutes O31: where a late excess of the frame has been counted before, the bytes that first exceed MAX_SDU do not move the counts. -/
theorem not_frameEnds : ¬ Obligations.FrameEnds := by
  intro h
  obtain ⟨-, -, late, -⟩ := h
  have done := late lateState 0 false [0, 0] 0 lateFrame (by decide +kernel) (by decide +kernel) rfl rfl rfl (by decide) (by decide +kernel)
    rfl rfl (by decide) (by decide +kernel) (by decide +kernel) (by decide +kernel)
  obtain ⟨counted, -, -⟩ := does_elim done (u := lateState.arrive 0 false [0, 0]) rfl
  rw [settled_filter, show lateFrame.dec.filter = 0 from rfl, lateState_stays] at counted
  exact absurd counted (by decide +kernel)

end Sys2Proof.Machine
end

section
set_option Elab.async false
/-! PROOFS. The end of a transmission (03_ports_and_macs.md R103): where the statement fails. -/

namespace Sys2Proof.Machine

/-- A complete frame of one cell. -/
def sentFrame : Frame := { Tests.frame0 0 with stage := .admitted, done := true, begun := 1 }

/-- A copy of it in transmission from a list of which there is none: the occupancy of list 0x6000C would stand where counter 25 of port 0 does. -/
def sentTx : Tx := { entry := none, list := 0x6000C, copy := { fid := 0 }, queue := 0, started := true, bytes := [0] }

/-- Port 0 sends the copy on its express MAC. -/
def sentState : State :=
  { Tests.wired modeSCHEDULED 0 with frames := [(0, some sentFrame)], nextFid := 1, ports := [(0, { lanes := [(0, some sentTx)] })] }

/-- The cell that the copy gives back takes the count of the frame away again. -/
theorem sentState_count : (sentState.transmitDone 0 false).portCount 0 25 = 0 := by decide +kernel

/-- Refutes O34: a copy of a list beyond the last one gives its cell back to the word that holds counter 25 of its port. -/
theorem not_transmission : ¬ Obligations.Transmission := by
  intro h
  obtain ⟨-, -, ends⟩ := h
  have done := ends sentState 0 false sentTx sentFrame (by decide +kernel) rfl rfl (by decide +kernel) rfl rfl rfl (by decide) (by decide)
    (by decide +kernel) (by decide +kernel)
  obtain ⟨-, -, counted⟩ := does_elim done (u := sentState.transmitDone 0 false) rfl
  rw [settled_portCount _ _ (by decide) (by decide), show ((0 : Port) : Nat) = 0 from rfl, sentState_count] at counted
  exact absurd counted (by decide +kernel)

end Sys2Proof.Machine
end

section
set_option Elab.async false
/-! PROOFS. MAC control frames at a tick (03_ports_and_macs.md R96, R103): where the statement fails. -/

namespace Sys2Proof.Machine

/-- Ports 0 and 1 have both sent a MAC control frame to its end. Port 1, in the MAC loopback of MAINTENANCE, is about to receive its own, of
which a copy already stands on a list beyond the last one: the occupancy of list 0x6000E would stand where counter 29 of port 0 does. -/
def controlState : State :=
  { (((((Tests.wired modeMAINTENANCE 0).put F.PORT_CTRL_ENABLE 1 1).put F.PORT_STAT_LINK 1 1).put F.PORT_CTRL_LOOPBACK 1 1).put
      F.SWC_FREE_CELLS 1000).put F.PORT_RXCFG_MAXLEN 1518 1 with
    swc := { lists := [(0x6000E, [{ fid := 0, twin := true }])] }
    ports := [(0, { fcOut := some (.pause, []) }), (1, { fcOut := some (.pause, [0]) })] }

/-- The cell of the frame that port 1 receives counts on port 0 as well. -/
theorem controlState_count : controlState.timeTick.portCount 0 29 = 2 := by decide +kernel

/-- Refutes O26: the cell of a frame that another port receives in the same tick is added to the word that holds counter 29, where a copy of
that frame stands on a list beyond the last one. -/
theorem not_flowControl : ¬ Obligations.FlowControl := by
  intro h
  obtain ⟨-, -, -, ticks, -⟩ := h
  have done := ticks controlState 0 .pause [] (by decide +kernel) (by decide +kernel) (by decide +kernel) rfl rfl (by decide +kernel) rfl
    (by decide +kernel) (by decide +kernel)
  obtain ⟨-, counted, -⟩ := does_elim done (u := controlState.timeTick) rfl
  rw [settled_portCount _ _ (by decide) (by decide), show ((0 : Port) : Nat) = 0 from rfl, controlState_count] at counted
  exact absurd counted (by decide +kernel)

end Sys2Proof.Machine
end

section
set_option Elab.async false
/-! The event counters and the time ledger (18_counters_and_telemetry.md R517 to R525). An account of a port rests on registers that stand
below the ledger, so counting one port leaves the accounts of the others. -/

namespace Sys2Proof.Machine

/-! ## What the ledger's counters leave -/

/-- An offset of the ledger's part of BAR0. -/
def inLedger (a : Nat) : Prop := R.PMC_LP_LO.base ≤ a ∧ a < R.IMG_CFG.base

/-- The whole array of a register, as the ports index it, stands beside the ledger. -/
def besideLedger (r : RegSpec) : Bool :=
  !r.hostPrivate && (decide (r.off 71 7 < R.PMC_LP_LO.base) || decide (R.IMG_CFG.base ≤ r.base))

/-- From `s` to `t` registers of the ledger have changed at most. -/
structure LedgerOnly (s t : State) : Prop where
  rest : ∃ r, t = { s with regs := r }
  reg : ∀ q i j, ¬ inLedger (q.off i j) → t.reg q i j = s.reg q i j

namespace LedgerOnly

variable {s t u : State} {p q : Nat}

theorem refl (s : State) : LedgerOnly s s := ⟨⟨_, rfl⟩, fun _ _ _ _ => rfl⟩

theorem trans (h : LedgerOnly s t) (k : LedgerOnly t u) : LedgerOnly s u := by
  obtain ⟨a, rfl⟩ := h.rest
  obtain ⟨b, rfl⟩ := k.rest
  exact ⟨⟨b, rfl⟩, fun q i j hq => (k.reg q i j hq).trans (h.reg q i j hq)⟩

theorem put (s : State) (f : Fld) (v i j : Nat) (hf : inLedger (f.reg.off i j)) : LedgerOnly s (s.put f v i j) :=
  ⟨⟨_, rfl⟩, fun q a b hq => State.reg_put_other s f q v i j a b fun e => hq (e ▸ hf)⟩

theorem ledgerAdd (s : State) {lo hi : Fld} {i k : Nat} (hlo : inLedger (lo.reg.off i k)) (hhi : inLedger (hi.reg.off i k)) : LedgerOnly s (s.ledgerAdd lo hi i k) :=
  (put s lo _ i k hlo).trans (put _ hi _ i k hhi)

theorem off_not_in {r : RegSpec} (hr : besideLedger r = true) (hp : p < 72) (hq : q < 8) : ¬ inLedger (r.off p q) := by
  simp only [besideLedger, Bool.and_eq_true, Bool.not_eq_true', Bool.or_eq_true, decide_eq_true_eq] at hr
  obtain ⟨shared, below | above⟩ := hr
  · refine fun h => absurd h.1 (not_le.2 (lt_of_le_of_lt ?_ below))
    unfold RegSpec.off
    rw [shared]
    split <;> gcongr <;> omega
  · exact fun h => absurd h.2 (not_lt.2 (above.trans (r.base_le_off p q)))

variable (h : LedgerOnly s t) (hp : p < 72) (hq : q < 8)
include h

theorem get (f : Fld) (hf : besideLedger f.reg = true) (hp : p < 72) (hq : q < 8) : t.get f p q = s.get f p q := by
  unfold State.get
  rw [h.reg _ _ _ (off_not_in hf hp hq)]

theorem port (f : Fld) (hf : besideLedger f.reg = true) (hp : p < 72) : t.get f p = s.get f p := h.get f hf hp (by decide)

theorem bit (f : Fld) (hf : besideLedger f.reg = true) (hp : p < 72) (hq : q < 8) : t.bit f p q = s.bit f p q := by
  rw [State.bit, State.bit, h.get f hf hp hq]

theorem portBit (f : Fld) (hf : besideLedger f.reg = true) (hp : p < 72) : t.bit f p = s.bit f p := h.bit f hf hp (by decide)

/-! ## What a decision of a port reads -/

theorem mode : t.mode = s.mode := h.port F.GLB_MODE_CUR (by decide) (p := 0) (by decide)

theorem eg (p : Nat) : t.eg p = s.eg p := by
  obtain ⟨r, rfl⟩ := h.rest
  rfl

theorem now : t.now = s.now := by
  obtain ⟨r, rfl⟩ := h.rest
  rfl

theorem nowPs : t.nowPs = s.nowPs := by
  obtain ⟨r, rfl⟩ := h.rest
  rfl

theorem armed (p : Nat) : t.armed p = s.armed p := by rw [State.armed, h.eg, State.armed]

theorem launchNs (n : Nat) : t.launchNs n = s.launchNs n := by rw [State.launchNs, h.now, State.launchNs]

theorem tok (p q : Nat) : t.tok p q = s.tok p q := by rw [State.tok, h.eg, State.tok]

include hp

theorem lanePs : t.lanePs p = s.lanePs p := by
  simp only [State.lanePs, State.dselPs, State.fecTxPs, h.nowPs, h.port F.PORT_STAT_SPEED_RES (by decide) hp,
    h.port F.PORT_STAT_FEC_RES (by decide) hp]

theorem launchIsDue : t.launchIsDue p = s.launchIsDue p := by
  simp only [State.launchIsDue, h.armed, h.mode, h.launchNs, h.lanePs hp]

omit hp in
theorem queueHead_of_due (due : t.launchIsDue p = s.launchIsDue p) (q : Nat) : t.queueHead p q = s.queueHead p q := by
  simp only [State.queueHead, due, h.eg, h.armed]
  obtain ⟨r, rfl⟩ := h.rest
  rfl

theorem queueHead (q : Nat) : t.queueHead p q = s.queueHead p q := h.queueHead_of_due (h.launchIsDue hp) q

theorem runAt (a : Int) : t.runAt p a = s.runAt p a := by
  simp only [State.runAt, State.operRun, State.operBank, State.admBank, h.eg, h.port F.EGS_GATE_STAT_BANK (by decide) hp,
    h.port F.EGS_GATE_OPER_CYCLE_CYCLE (by decide) hp, h.port F.EGS_GATE_OPER_LEN_LEN (by decide) hp]

omit hp in
theorem gatesRun : t.gatesRun = s.gatesRun := by rw [State.gatesRun, h.mode, State.gatesRun]

theorem gatesAt (a : Int) : t.gatesAt p a = s.gatesAt p a := by
  simp only [State.gatesAt, State.gateInForce, State.gateEntry, h.gatesRun, h.runAt hp, h.portBit F.EGS_GATE_CFG_GATE_EN (by decide) hp,
    h.port F.EGS_GATE_CFG_ADM_GATES (by decide) hp]

theorem nextClose (q : Nat) (a : Int) : t.nextClose p q a = s.nextClose p q a := by
  simp only [State.nextClose, h.gatesRun, h.runAt hp, h.portBit F.EGS_GATE_CFG_GATE_EN (by decide) hp]

theorem lastOp (op : Nat) (a : Int) : t.lastOp p op a = s.lastOp p op a := by simp only [State.lastOp, h.runAt hp]

theorem lastAdvanced (op v : Nat) (a : Int) (l : List (Int × Nat)) : t.lastAdvanced p op v a l = s.lastAdvanced p op v a l := by
  induction l generalizing v a with
  | nil => simp only [State.lastAdvanced, h.lastOp hp]
  | cons x l ih => simp only [State.lastAdvanced, h.lastOp hp, ih]

theorem listHold (a : Int) : t.listHold p a = s.listHold p a := by
  simp only [State.listHold, h.gatesRun, h.eg, h.lastAdvanced hp, h.portBit F.EGS_GATE_CFG_GATE_EN (by decide) hp,
    h.port F.EGS_HOLD_ADV_HOLD_ADV (by decide) hp, h.port F.EGS_HOLD_ADV_REL_ADV (by decide) hp]

theorem isExpress (q : Nat) : t.isExpress p q = s.isExpress p q := by
  simp only [State.isExpress, h.portBit F.PORT_MM_STAT_TX_ACTIVE (by decide) hp, h.port F.PORT_MM_CFG_EXPRESS (by decide) hp]

theorem holdAt (a : Int) : t.holdAt p a = s.holdAt p a := by
  simp only [State.holdAt, State.launchHold, h.listHold hp, h.armed, h.mode, h.eg, h.isExpress hp, h.launchNs,
    h.portBit F.PORT_MM_STAT_TX_ACTIVE (by decide) hp, h.portBit F.EGS_GATE_CFG_HOLD_EN (by decide) hp,
    h.port F.EGS_HOLD_ADV_HOLD_ADV (by decide) hp]

theorem guardPs (q lg : Nat) (close : Option Int) : t.guardPs p q lg close = s.guardPs p q lg close := by
  simp only [State.guardPs, State.portMbps, h.isExpress hp, h.holdAt hp, h.portBit F.PORT_MM_STAT_TX_ACTIVE (by decide) hp,
    h.port F.PORT_STAT_SPEED_RES (by decide) hp]

theorem gateAdmits (q lg : Nat) (ls : Int) : t.gateAdmits p q lg ls = s.gateAdmits p q lg ls := by
  simp only [State.gateAdmits, h.gatesAt hp, h.nextClose hp, h.guardPs hp]

theorem launchGuard (q lg : Nat) (ls : Int) : t.launchGuard p q lg ls = s.launchGuard p q lg ls := by
  simp only [State.launchGuard, h.armed, h.mode, h.isExpress hp, h.launchNs, h.guardPs hp, h.nextClose hp]

include hq

theorem eligible : t.eligible p q = s.eligible p q := by
  simp only [State.eligible, h.lanePs hp, h.queueHead hp, h.gateAdmits hp, h.tok, h.launchGuard hp, h.isExpress hp, h.holdAt hp,
    h.portBit F.PORT_CTRL_ENABLE (by decide) hp, h.portBit F.PORT_STAT_LINK (by decide) hp,
    h.port F.PORT_FC_STAT_RX_PAUSED_Q (by decide) hp, h.bit F.EGS_SHP_CFG_EN (by decide) hp hq]

omit hq in
/-- The account of a port does not change while the ledger counts (R524). -/
theorem portAccount : t.portAccount p = s.portAccount p := by
  have held : (List.range 8).any (fun q => (s.queueHead p q).isSome && !t.eligible p q) =
      (List.range 8).any (fun q => (s.queueHead p q).isSome && !s.eligible p q) := by
    rw [Bool.eq_iff_iff, List.any_eq_true, List.any_eq_true]
    refine exists_congr fun q => and_congr_right fun hq => ?_
    rw [h.eligible hp (List.mem_range.1 hq)]
  have lanes : ∀ k, t.txGet p k = s.txGet p k := by
    obtain ⟨r, rfl⟩ := h.rest
    exact fun _ => rfl
  have port : t.port p = s.port p := by
    obtain ⟨r, rfl⟩ := h.rest
    rfl
  simp only [State.portAccount, h.queueHead hp, held, lanes, port, h.nowPs, h.armed, h.launchIsDue hp,
    h.portBit F.PORT_CTRL_ENABLE (by decide) hp, h.portBit F.PORT_STAT_LINK (by decide) hp,
    h.port F.PORT_FC_STAT_RX_PAUSED_Q (by decide) hp]

end LedgerOnly

/-! ## A tick of the ledger (R524) -/

section
variable {s t : State} {p k m j : Nat}

/-- The ledger counter of account `k` of port `p`. -/
def State.ledger (s : State) (p k : Nat) : Nat := s.get F.PMC_LP_LO_COUNT p k + 2 ^ 32 * s.get F.PMC_LP_HI_COUNT p k

theorem ledgerLo_off (p k : Nat) : R.PMC_LP_LO.off p k = 0x83000 + p * 0x20 + k * 8 := rfl

theorem ledgerHi_off (p k : Nat) : R.PMC_LP_HI.off p k = 0x83004 + p * 0x20 + k * 8 := rfl

theorem ledgerLo_in (hp : p < 72) (hk : k < 4) : inLedger (R.PMC_LP_LO.off p k) := by
  rw [inLedger, ledgerLo_off, show R.PMC_LP_LO.base = 0x83000 from rfl, show R.IMG_CFG.base = 0x90000 from rfl]
  omega

theorem ledgerHi_in (hp : p < 72) (hk : k < 4) : inLedger (R.PMC_LP_HI.off p k) := by
  rw [inLedger, ledgerHi_off, show R.PMC_LP_LO.base = 0x83000 from rfl, show R.IMG_CFG.base = 0x90000 from rfl]
  omega

theorem ledger_lt (s : State) (p k : Nat) : s.ledger p k < 2 ^ 48 := by
  have lo := State.get_lt s F.PMC_LP_LO_COUNT p k
  have hi := State.get_lt s F.PMC_LP_HI_COUNT p k
  rw [show F.PMC_LP_LO_COUNT.width = 32 from rfl] at lo
  rw [show F.PMC_LP_HI_COUNT.width = 16 from rfl] at hi
  rw [State.ledger]
  omega

theorem ledger_ledgerAdd_same (s : State) (p k : Nat) :
    (s.ledgerAdd F.PMC_LP_LO_COUNT F.PMC_LP_HI_COUNT p k).ledger p k = (s.ledger p k + 1) % 2 ^ 48 := by
  have apart : F.PMC_LP_LO_COUNT.reg.off p k ≠ F.PMC_LP_HI_COUNT.reg.off p k := by
    simp only [F.PMC_LP_LO_COUNT, F.PMC_LP_HI_COUNT, ledgerLo_off, ledgerHi_off]
    omega
  rw [State.ledger, State.ledgerAdd, State.get_put_other _ _ _ _ _ _ _ _ apart, State.get_put_same _ _ _ _ _ (by decide),
    State.get_put_same _ _ _ _ _ (by decide), show F.PMC_LP_LO_COUNT.width = 32 from rfl, show F.PMC_LP_HI_COUNT.width = 16 from rfl,
    ← State.ledger]
  omega

theorem ledger_put_other (s : State) (f : Fld) (v a b : Nat) (hlo : R.PMC_LP_LO.off p k ≠ f.reg.off a b)
    (hhi : R.PMC_LP_HI.off p k ≠ f.reg.off a b) : (s.put f v a b).ledger p k = s.ledger p k := by
  rw [State.ledger, State.ledger, State.get_put_other _ _ _ _ _ _ _ _ hlo, State.get_put_other _ _ _ _ _ _ _ _ hhi]

theorem ledger_ledgerAdd_other (s : State) (hk : k < 4) (hj : j < 4) (hne : ¬ (p = m ∧ k = j)) :
    (s.ledgerAdd F.PMC_LP_LO_COUNT F.PMC_LP_HI_COUNT m j).ledger p k = s.ledger p k := by
  rw [State.ledgerAdd, ledger_put_other, ledger_put_other] <;>
  · simp only [F.PMC_LP_LO_COUNT, F.PMC_LP_HI_COUNT, ledgerLo_off, ledgerHi_off]
    omega

theorem portAccount_lt (s : State) (p : Nat) : s.portAccount p < 4 := by
  unfold State.portAccount
  dsimp only
  split_ifs <;> decide

/-- After the first `n` ports each of them has counted once, in the account that it had at the tick's start. -/
theorem ledger_ports (s : State) {n : Nat} (hn : n ≤ 72) :
    LedgerOnly s ((List.range n).foldl (fun s p => s.ledgerAdd F.PMC_LP_LO_COUNT F.PMC_LP_HI_COUNT p (s.portAccount p)) s) ∧
    ∀ p k, k < 4 → ((List.range n).foldl (fun s p => s.ledgerAdd F.PMC_LP_LO_COUNT F.PMC_LP_HI_COUNT p (s.portAccount p)) s).ledger p k =
      (s.ledger p k + if p < n ∧ s.portAccount p = k then 1 else 0) % 2 ^ 48 := by
  induction n with
  | zero => exact ⟨LedgerOnly.refl s, fun p k _ => by
      rw [if_neg (by omega), Nat.add_zero, Nat.mod_eq_of_lt (ledger_lt s p k)]
      rfl⟩
  | succ n ih =>
    obtain ⟨only, count⟩ := ih (by omega)
    rw [List.range_succ, List.foldl_append, List.foldl_cons, List.foldl_nil]
    revert only count
    generalize (List.range n).foldl (fun s p => s.ledgerAdd F.PMC_LP_LO_COUNT F.PMC_LP_HI_COUNT p (s.portAccount p)) s = t
    intro only count
    have account : t.portAccount n = s.portAccount n := only.portAccount (by omega)
    have small := portAccount_lt s n
    rw [account]
    refine ⟨only.trans (LedgerOnly.ledgerAdd t (ledgerLo_in (by omega) small) (ledgerHi_in (by omega) small)), fun p k hk => ?_⟩
    by_cases this : p = n ∧ k = s.portAccount n
    · obtain ⟨rfl, rfl⟩ := this
      rw [ledger_ledgerAdd_same, count _ _ hk, if_neg (by omega), if_pos ⟨by omega, rfl⟩, Nat.add_zero, Nat.mod_add_mod]
    · rw [ledger_ledgerAdd_other t hk small this, count _ _ hk]
      have : (p < n ∧ s.portAccount p = k) ↔ (p < n + 1 ∧ s.portAccount p = k) := by
        refine and_congr_left fun e => ⟨fun h => by omega, fun h => ?_⟩
        by_contra hp
        obtain rfl : p = n := by omega
        exact this ⟨rfl, e.symm⟩
      simp only [this]

/-- The accounts of the clusters' engines stand behind those of the ports. -/
theorem ledger_clusterAdd (s : State) (hp : p < 72) (hk : k < 4) (c j : Nat) :
    (s.ledgerAdd F.PMC_LC_LO_COUNT F.PMC_LC_HI_COUNT c j).ledger p k = s.ledger p k := by
  have lo : R.PMC_LC_LO.off c j = 0x83900 + c * 0x20 + j * 8 := rfl
  have hi : R.PMC_LC_HI.off c j = 0x83904 + c * 0x20 + j * 8 := rfl
  rw [State.ledgerAdd, ledger_put_other, ledger_put_other] <;>
  · simp only [F.PMC_LC_LO_COUNT, F.PMC_LC_HI_COUNT, ledgerLo_off, ledgerHi_off, lo, hi]
    omega

theorem ledger_clusters (s : State) (hp : p < 72) (hk : k < 4) :
    ((List.range 3).foldl (fun s c =>
      if (s.get F.TIN_CFG_CLUSTER_EN).testBit c then
        (List.range 16).foldl (fun s i => s.ledgerAdd F.PMC_LC_LO_COUNT F.PMC_LC_HI_COUNT c (s.engineAccount (16 * c + i))) s
      else s) s).ledger p k = s.ledger p k := by
  refine List.foldlRecOn (motive := fun t : State => t.ledger p k = s.ledger p k) _ _ rfl fun t h c _ => ?_
  split
  · exact List.foldlRecOn (motive := fun t : State => t.ledger p k = s.ledger p k) _ _ h fun u hu i _ =>
      (ledger_clusterAdd u hp hk _ _).trans hu
  · exact h

theorem ledger_ledgerTick (hm : s.mode ≠ modePEWTER) (hc : s.pmc.clearLed = false) (hp : p < 72) (hk : k < 4) :
    s.ledgerTick.ledger p k = (s.ledger p k + if s.portAccount p = k then 1 else 0) % 2 ^ 48 := by
  rw [State.ledgerTick, hc]
  simp only [Bool.false_eq_true, if_false]
  rw [if_neg hm, ledger_clusters _ hp hk, (ledger_ports s le_rfl).2 p k hk]
  simp only [hp, true_and]

theorem settled_ledger (b t : State) (hp : p < 72) (hk : k < 4) : (settled b t).ledger p k = t.ledger p k := by
  have outside : ∀ a ∈ pbaOffs, a < R.PMC_LP_LO.base ∨ R.IMG_CFG.base ≤ a := by decide
  have shared : ∀ a, inLedger a → ¬ pbaOff a := fun a ha => not_pbaOff a fun hp => by
    obtain ⟨lo, hi⟩ := ha
    have := outside a hp
    omega
  rw [State.ledger, settled_get _ _ _ _ _ (shared _ (ledgerLo_in hp hk)), settled_get _ _ _ _ _ (shared _ (ledgerHi_in hp hk)),
    ← State.ledger]

end

/-! ## The counters' commands and their tick (R517 to R523, R529, R532) -/

section
variable (s : State)

theorem pmcCnt_counterTick_pewter {n : Nat} (busy : Nat) (hc : s.pmc.clear.testBit (n / 64) = false) (hm : s.mode = modePEWTER) :
    (s.counterTick busy).pmcCnt n = s.pmcCnt n := by
  have mode : s.pmcClears.mode = s.mode := s.pmcClears_same.get_below F.GLB_MODE_CUR 0 0 (by decide)
  rw [State.pmcCnt_counterTick, State.pmcAdds, if_pos (mode.trans hm), State.pmcCnt_pmcClears hc]

theorem pmcCnt_pmcClears_cleared {n : Nat} (hn : n < 512) (hc : s.pmc.clear.testBit (n / 64) = true) : s.pmcClears.pmcCnt n = 0 := by
  obtain ⟨u, -, -, turn⟩ := onOneCounter_clear.foldl_pmcCnt_of_mem s (nodup_groupCounters s.pmc.clear) (mem_groupCounters.2 ⟨hn, hc⟩)
  rw [State.pmcClears, State.pmcCnt_setPmc, turn, State.pmcCnt_setPmcCnt_same, Nat.zero_mod]

/-- A counter of a cleared group that does not count is 0 at the end of the tick. -/
theorem pmcCnt_counterTick_cleared {n : Nat} (busy : Nat) (hn : n < 512) (hc : s.pmc.clear.testBit (n / 64) = true)
    (he : s.pmc.eff.testBit (n / 64) = false) : (s.counterTick busy).pmcCnt n = 0 := by
  rw [← s.pmcClears_same.eff] at he
  rw [State.pmcCnt_counterTick, State.pmcCnt_pmcAdds_stopped he, pmcCnt_pmcClears_cleared s hn hc]

theorem clear_pmcAdd (n a : Nat) : (s.pmcAdd n a).pmc.clear = s.pmc.clear := by
  rw [State.pmcAdd_eq]
  split <;> rfl

theorem clear_pmcAdds (busy : Nat) : (s.pmcAdds busy).pmc.clear = s.pmc.clear := by
  unfold State.pmcAdds
  split
  · rfl
  · exact List.foldlRecOn (motive := fun t : State => t.pmc.clear = s.pmc.clear) _ _ rfl fun t h n _ => (clear_pmcAdd t n _).trans h

theorem clear_pmcClears : s.pmcClears.pmc.clear = 0 := by rw [State.pmcClears, State.setPmc]

theorem clear_pmcSample : ({ s.pmcSample with events := [] } : State).pmc.clear = s.pmc.clear := by rw [State.pmcSample, State.setPmc]

theorem clear_counterTick (busy : Nat) : (s.counterTick busy).pmc.clear = 0 := by
  rw [State.counterTick_eq, clear_pmcSample, clear_pmcAdds, clear_pmcClears]

theorem pmcCommand_groups (mask : Nat) : s.pmcCommand 0x5A 1 mask = s.setPmc { s.pmc with clear := s.pmc.clear ||| mask } := rfl

theorem pmcCommand_ledger (mask : Nat) : s.pmcCommand 0x5A 2 mask = s.setPmc { s.pmc with clearLed := true } := rfl

theorem pmcCommand_all (mask : Nat) :
    s.pmcCommand 0x5A 3 mask = s.setPmc { s.pmc with clear := s.pmc.clear ||| mask, clearLed := true } := rfl

theorem regWrite_pmcCmd (host : Nat) (w : Word) :
    s.regWrite host R.PMC_CMD 0 0 15 w = ([], s.pmcCommand (keyOf w) (getBits w 3 0) (getBits w 23 16)) := rfl

/-- A clear that reaches PMC_CMD is carried out as its word says. -/
theorem regWrite_pmcWord (host : Nat) {op : Nat} (hop : op < 16) (mask : Byte) :
    s.regWrite host R.PMC_CMD 0 0 15 (pmcWord op mask.toNat) = ([], s.pmcCommand 0x5A op mask.toNat) := by
  have small := mask.isLt
  have key : keyOf (pmcWord op mask.toNat) = 0x5A := by
    rw [keyOf, pmcWord, keyWord, getBits_word]
    omega
  have low : getBits (pmcWord op mask.toNat) 3 0 = op := by
    rw [pmcWord, keyWord, getBits_word]
    omega
  have groups : getBits (pmcWord op mask.toNat) 23 16 = mask.toNat := by
    rw [pmcWord, keyWord, getBits_word]
    omega
  rw [regWrite_pmcCmd, key, low, groups]

/-- A command that writes PMC_CMD and changes nothing but what the counters wait for. -/
theorem does_pmcClear {c : Instr} {h : HostId} {op : Nat} (mask : Byte) {p : PmcState}
    (he : exec c s = finish s (s.rowWrite (hostNum h) R.PMC_CMD 0 0 (pmcWord op mask.toNat))) (ho : s.opens h R.PMC_CMD 0 0 = true)
    (hop : op < 16) (hp : s.pmcCommand 0x5A op mask.toNat = s.setPmc p) : Does c s fun t => t.pmc = p ∧ s.keepsRegs t [] :=
  does_rowWrite_own he ho (by decide) (u := s.setPmc p) (by rw [regWrite_pmcWord s _ hop mask, hp])
    ⟨settled_pmc _ _, settled_keeps _ _ _ (State.keepsRegs_of_eq _ rfl)⟩

theorem pmcWrap_eq {n : Nat} (hn : n ∈ s.pmc.wraps) : s.pmcWrap n =
    ((s.putBit F.PMC_OVF_OVF (n % 32) true (n / 32)).evt F.PMC_EVT_OVF).setPmc { s.pmc with wraps := s.pmc.wraps.erase n } := by
  rw [State.pmcWrap, if_pos (List.contains_iff_mem.2 hn)]

end

/-- Settles O51: the clears come before the additions of a tick, and a port's account does not rest on the ledger that counts it. -/
theorem countersTick : Obligations.CountersTick := by
  refine ⟨fun s busy hc => does_of (u := s.counterTick busy) rfl ?_, fun s busy n hn hc he => does_of (u := s.counterTick busy) rfl ?_,
    fun s h mask ho => ⟨?_, ?_, ?_⟩, fun s n hn => does_of rfl ?_, fun s hm hc => does_of (u := s.ledgerTick) rfl ?_⟩
  · have stays : ∀ n, s.pmc.clear.testBit (n / 64) = false := fun n => by rw [hc, Nat.zero_testBit]
    refine ⟨settled_events _ _, fun n hn => ⟨fun hm he => ?_, fun hm => ?_⟩⟩ <;> rw [settled_pmcCnt _ _ hn]
    · exact State.pmcCnt_counterTick_counting busy (stays n) hn he hm
    · exact pmcCnt_counterTick_pewter s busy (stays n) hm
  · rw [settled_pmcCnt _ _ hn, settled_pmc]
    exact ⟨pmcCnt_counterTick_cleared s busy hn hc he, clear_counterTick s busy⟩
  · exact does_pmcClear s mask rfl ho (by decide) (pmcCommand_groups s _)
  · exact does_pmcClear s mask rfl ho (by decide) (pmcCommand_ledger s _)
  · exact does_pmcClear s mask rfl ho (by decide) (pmcCommand_all s _)
  · rw [pmcWrap_eq s hn]
    have word : n.val / 32 < 16 := by omega
    have digit : n.val % 32 < F.PMC_OVF_OVF.width := Nat.mod_lt _ (by decide)
    have flagged : ((s.putBit F.PMC_OVF_OVF (n % 32) true (n / 32)).get F.PMC_OVF_OVF (n / 32)).testBit (n % 32) = true := by
      rw [testBit_putBit s (by decide) true _ 0 digit digit, if_pos rfl]
    refine ⟨?_, ?_, settled_pmc _ _, settled_keeps _ _ _ ?_⟩
    · rw [settled_get _ _ _ _ _ (not_pba (by decide) ⟨word, Nat.one_pos⟩)]
      exact (congrArg (Nat.testBit · _) (State.get_evt_other _ _ _ _ _ _ _
        (off_ne (by decide) ⟨word, Nat.one_pos⟩ ⟨Nat.one_pos, Nat.one_pos⟩))).trans flagged
    · rw [settled_bit_free _ _ (by decide)]
      exact State.bit_evt_same _ _ _ _ (by decide) (by decide)
    · have kept : s.keepsRegs ((s.putBit F.PMC_OVF_OVF (n % 32) true (n / 32)).evt F.PMC_EVT_OVF) [R.PMC_OVF.off (n / 32) 0, R.PMC_EVT.base] :=
        State.keepsRegs_evt (State.keepsRegs_put (State.keepsRegs_refl _) _ _ _ _ List.mem_cons_self) _ _ _
          (List.mem_cons_of_mem _ List.mem_cons_self)
      exact fun q i j hq => kept q i j hq
  · intro p hp k hk
    have count := ledger_ledgerTick hm hc hp hk
    rw [← settled_ledger s _ hp hk] at count
    exact count

end Sys2Proof.Machine
end

section
set_option Elab.async false
/-! The buffer pools (16_dma_and_buffer_pools.md R487 to R494): what a host command finds once its word is stored, and what each of the pools'
operations does to the pool and to the registers that show it. -/

namespace Sys2Proof.Machine

section
variable (s u : State) {host k : Nat}

/-! ## The end of a command, where registers and vectors stay -/

/-- The registers and the vectors of two states are the same. -/
def SameVectors (s t : State) : Prop := t.regs = s.regs ∧ t.ha = s.ha ∧ t.hb = s.hb

theorem SameVectors.vectorSettle {s t : State} (h : SameVectors s t) {host v : Nat} (hh : host < 2) :
    SameVectors (s.vectorSettle host v) (t.vectorSettle host v) := by
  obtain ⟨regs, ha, hb⟩ := h
  have pending : t.vectorPending host v = s.vectorPending host v :=
    vectorPending_reg (fun q i j _ => by rw [State.reg, State.reg, regs]) host v hh
  have port : t.hostPort host = s.hostPort host := by rw [State.hostPort, State.hostPort, ha, hb]
  have busy : t.vectorBusy host v = s.vectorBusy host v := by
    rw [State.vectorBusy, State.vectorBusy, port, State.pba, State.pba, State.get_of_regs regs]
  have setHost : ∀ x, SameVectors (s.setHost host x) (t.setHost host x) := fun x => by
    unfold State.setHost
    split <;> exact ⟨regs, by simp only [ha], by simp only [hb]⟩
  unfold State.vectorSettle
  rw [pending, port, busy]
  split
  · obtain ⟨regs, ha, hb⟩ := setHost ((s.hostPort host).arm v)
    refine ⟨?_, ha, hb⟩
    simp only [State.setPba, State.putBit, State.put, State.setReg, State.get, State.reg, regs]
  · exact ⟨regs, ha, hb⟩

/-- The vectors settle by the registers and their own state alone. -/
theorem settled_regs_congr {s t : State} (h : SameVectors s t) (b c : State) : (settled b t).regs = (settled c s).regs := by
  have all : ∀ (l : List Nat) (s t : State) (host : Nat), host < 2 → SameVectors s t →
      SameVectors (l.foldl (fun s v => s.vectorSettle host v) s) (l.foldl (fun s v => s.vectorSettle host v) t) := by
    intro l
    induction l with
    | nil => exact fun _ _ _ _ h => h
    | cons v l ih => exact fun s t host hh h => ih _ _ _ hh (h.vectorSettle hh)
  exact (all _ _ _ 1 (by decide) (all _ _ _ 0 (by decide) h)).1

/-! ## Pools and the registers that show them -/

theorem State.pool_of_pools {s t : State} (h : t.pools = s.pools) (k : Nat) : t.pool k = s.pool k := by rw [State.pool, State.pool, h]

theorem settled_pool (b t : State) (k : Nat) : (settled b t).pool k = t.pool k := State.pool_of_pools (settled_pools b t) k

theorem State.pool_setPool (p : Pool) : (s.setPool k p).pool k = p := tabGet_set_same ..

theorem State.pool_poolSet (p : Pool) : (s.poolSet k p).pool k = p := State.pool_setPool s p

theorem State.owners_of_pools {s t : State} (h : t.pools = s.pools) (a : Nat) : t.owners a = s.owners a := by
  rw [State.owners, State.owners, State.pool_of_pools h]

theorem State.free_poolSet (p : Pool) :
    (s.poolSet k p).get F.BPM_POOL_FREE_FREE k = (p.cache.length + p.count) % 2 ^ F.BPM_POOL_FREE_FREE.width := by
  unfold State.poolSet State.poolShow
  rw [State.pool_setPool]
  exact (State.get_put_free _ (by decide) ..).trans (State.get_put_same _ _ _ _ _ (by decide))

/-- The registers that show a pool. -/
theorem State.keepsRegs_poolSet {s t : State} {l : List Nat} (h : s.keepsRegs t l) (p : Pool) (free : R.BPM_POOL_FREE.off k 0 ∈ l)
    (low : R.BPM_POOL_LOW.off k 0 ∈ l) : s.keepsRegs (t.poolSet k p) l := by
  have moved : s.keepsRegs (t.setPool k p) l := h
  exact State.keepsRegs_put (State.keepsRegs_put moved _ _ _ _ free) _ _ _ _ low

theorem State.get_poolSet {f : Fld} (p : Pool) (free : free f.reg R.BPM_POOL_FREE = true) (low : Machine.free f.reg R.BPM_POOL_LOW = true)
    (i j : Nat) : (s.poolSet k p).get f i j = s.get f i j :=
  (State.get_put_free _ low ..).trans (State.get_put_free (s.setPool k p) free ..)

theorem sramWrite_only (l : List Byte) (s : State) (a : Nat) : ∃ m, s.sramWrite a l = { s with sram := m } := by
  induction l generalizing s a with
  | nil => exact ⟨s.sram, rfl⟩
  | cons b l ih =>
    unfold State.sramWrite
    split
    · exact ⟨s.sram, rfl⟩
    · have put : ∃ m, s.sramPut a b = { s with sram := m } := by
        unfold State.sramPut
        split <;> exact ⟨_, rfl⟩
      obtain ⟨m, e⟩ := put
      rw [e]
      obtain ⟨n, e⟩ := ih { s with sram := m } (a + 1)
      exact ⟨n, e⟩

/-- Writing a ring changes the service SRAM or drives writes out. -/
theorem ringWrite_only (k pos : Nat) (l : List Nat) : ∃ m o, s.ringWrite k pos l = { s with sram := m, out := o } := by
  unfold State.ringWrite
  refine List.foldlRecOn (motive := fun t : State => ∃ m o, t = { s with sram := m, out := o }) _ _ ⟨s.sram, s.out, rfl⟩ ?_
  rintro _ ⟨m, o, rfl⟩ e -
  dsimp only
  split
  · exact ⟨m, _, rfl⟩
  · obtain ⟨n, e⟩ := sramWrite_only (ringEntry (handleOf k e.1)) { s with sram := m, out := o }
      (State.poolRing { s with sram := m, out := o } k + 4 * ((pos + e.2) % s.poolCount k))
    exact ⟨n, o, e⟩

/-- The state of a command that has ended with `st`. -/
theorem bpmStatus_shows {st : Nat} (hst : st < 16) : (u.bpmStatus host st).get F.BPM_CMD_STAT_STATUS host = st ∧
    u.keepsRegs (u.bpmStatus host st) [R.BPM_CMD_STAT.off host 0] ∧ (u.bpmStatus host st).pools = u.pools :=
  ⟨(State.get_put_beside _ (by decide) ..).trans (State.get_put_fits _ (by decide) hst _ _),
    State.keepsRegs_put (State.keepsRegs_put (State.keepsRegs_refl _) _ _ _ _ List.mem_cons_self) _ _ _ _ List.mem_cons_self, rfl⟩

theorem get_bpmStatus {f : Fld} (h : free f.reg R.BPM_CMD_STAT = true) (st i j : Nat) : (u.bpmStatus host st).get f i j = u.get f i j :=
  (State.get_put_free _ h ..).trans (State.get_put_free _ h ..)

/-! ## What a command finds -/

/-- The state in which a host command is carried out: its word stands in BPM_CMD. -/
def State.bpmCalled (s : State) (host : Nat) (v : Word) : State := s.setReg R.BPM_CMD v host

variable (hh : host < 2) (v : Word)
include hh

theorem bpmCalled_get {f : Fld} (hf : apart f.reg R.BPM_CMD = true) {i j : Nat} (hi : f.reg.inside i j) :
    (s.bpmCalled host v).get f i j = s.get f i j :=
  State.get_setReg_other _ _ _ _ _ _ _ _ (off_ne hf hi ⟨hh, Nat.one_pos⟩)

theorem bpmCalled_bit {f : Fld} (hf : apart f.reg R.BPM_CMD = true) {i j : Nat} (hi : f.reg.inside i j) :
    (s.bpmCalled host v).bit f i j = s.bit f i j := by
  rw [State.bit, State.bit, bpmCalled_get s hh v hf hi]

section
variable (hk : k < 8)
include hk

theorem bpmCalled_poolCount : (s.bpmCalled host v).poolCount k = s.poolCount k := bpmCalled_get s hh v (by decide) ⟨hk, Nat.one_pos⟩

theorem bpmCalled_poolHost : (s.bpmCalled host v).poolHost k = s.poolHost k := bpmCalled_bit s hh v (by decide) ⟨hk, Nat.one_pos⟩

theorem bpmCalled_open : (s.bpmCalled host v).bit F.BPM_POOL_CFG_EN k = s.bit F.BPM_POOL_CFG_EN k :=
  bpmCalled_bit s hh v (by decide) ⟨hk, Nat.one_pos⟩

theorem bpmCalled_users : (s.bpmCalled host v).get F.BPM_POOL_CFG_USERS k = s.get F.BPM_POOL_CFG_USERS k :=
  bpmCalled_get s hh v (by decide) ⟨hk, Nat.one_pos⟩

end

theorem bpmCalled_servingPool (size user : Nat) (place : Option Bool) :
    (s.bpmCalled host v).servingPool size user place = s.servingPool size user place := by
  refine List.find?_congr fun k hk => ?_
  have hk := List.mem_range.1 hk
  simp only [bpmCalled_poolCount s hh v hk, bpmCalled_poolHost s hh v hk, bpmCalled_open s hh v hk, bpmCalled_users s hh v hk]

theorem bpmCalled_handleUnknown (a : Nat) : (s.bpmCalled host v).handleUnknown a = s.handleUnknown a := by
  have hk : handlePool a < 8 := Nat.mod_lt _ (by decide)
  simp only [State.handleUnknown, bpmCalled_poolCount s hh v hk, bpmCalled_open s hh v hk]

theorem bpmCalled_rejectKind (a req : Nat) : (s.bpmCalled host v).rejectKind a req = s.rejectKind a req := by
  have owners : (s.bpmCalled host v).owners a = s.owners a := rfl
  rw [State.rejectKind, State.rejectKind, bpmCalled_handleUnknown s hh, owners]

theorem bpmCalled_underTest (m : Nat) : (s.bpmCalled host v).underTest m = s.underTest m := by
  simp only [State.underTest, bpmCalled_bit s hh v (f := F.GLB_MNT_STAT_BUSY) (by decide) ⟨Nat.one_pos, Nat.one_pos⟩,
    bpmCalled_get s hh v (f := F.GLB_MNT_STAT_OP) (by decide) ⟨Nat.one_pos, Nat.one_pos⟩,
    bpmCalled_get s hh v (f := F.GLB_MNT_STAT_MEM) (by decide) ⟨Nat.one_pos, Nat.one_pos⟩]

theorem bpmCalled_arg : (s.bpmCalled host v).get F.BPM_ARG_ARG host = s.get F.BPM_ARG_ARG host :=
  bpmCalled_get s hh v (by decide) ⟨hh, Nat.one_pos⟩

theorem bpmCalled_names : (s.bpmCalled host v).reg R.BPM_OWNERS host = s.reg R.BPM_OWNERS host :=
  State.reg_setReg_other _ _ _ _ _ _ _ _ (off_ne (by decide) ⟨hh, Nat.one_pos⟩ ⟨hh, Nat.one_pos⟩)

omit hh in
theorem bpmCalled_keeps : s.keepsRegs (s.bpmCalled host v) [R.BPM_CMD.off host 0] :=
  State.keepsRegs_setReg (State.keepsRegs_refl _) _ _ _ _ List.mem_cons_self

end

section
variable {s : State} {h : HostId}

/-- A write of BPM_CMD that finds no command in progress carries out its operation at once (R494). -/
theorem does_bpmCommand {c : Instr} {w : Word} {op : Nat} {P : State → Prop}
    (he : exec c s = finish s (s.rowWrite (hostNum h) R.BPM_CMD 0 0 w)) (ho : s.opens h R.BPM_CMD 0 0 = true)
    (hb : s.bit F.BPM_CMD_STAT_BUSY (hostNum h) = false) (hop : getBits w 2 0 = op)
    (hp : ∀ v, P (settled s ((s.bpmCalled (hostNum h) v).bpmCommand (hostNum h) op))) : Does c s P := by
  obtain ⟨v, hv⟩ := posted_idle (s := s) hb R.BPM_CMD (hostNum h) 0 w (fun s => s.bpmCommand (hostNum h) (getBits w 2 0))
  rw [hop] at hv
  have write : s.regWrite (hostNum h) R.BPM_CMD 0 0 15 w = ([], (s.bpmCalled (hostNum h) v).bpmCommand (hostNum h) op) := by
    rw [State.bpmCalled, ← hv, ← hop]
    rfl
  exact does_rowWrite_own he ho (by decide) write (hp v)

/-! ## ALLOC (R490) -/

variable (u : State) {host k i arg : Nat} {names l : List Nat}

theorem bpmCommand_alloc {a : Nat × Nat × State} (harg : u.get F.BPM_ARG_ARG host ≠ 0)
    (hn : ownerList (wordNames (u.reg R.BPM_OWNERS host)) ≠ []) (hall : (ownerList (wordNames (u.reg R.BPM_OWNERS host))).all nameOk = true)
    (ha : u.bpmAlloc (u.get F.BPM_ARG_ARG host) userHOST none (wordNames (u.reg R.BPM_OWNERS host)) = a) :
    u.bpmCommand host 1 = (a.2.2.put F.BPM_RESULT_HANDLE a.2.1 host).bpmStatus host a.1 := by
  subst ha
  have sound : ¬ (u.get F.BPM_ARG_ARG host = 0 ∨ (ownerList (wordNames (u.reg R.BPM_OWNERS host))).isEmpty = true ∨
      (ownerList (wordNames (u.reg R.BPM_OWNERS host))).all nameOk = false) := by
    simp [harg, hn, hall]
  unfold State.bpmCommand
  exact if_neg sound

theorem bpmAlloc_cached (size user : Nat) (place : Option Bool) (names : List Nat) (hs : u.servingPool size user place = some k)
    (hc : (u.pool k).cache = i :: l) (ht : u.underTest 3 = false ∨ u.poolHost k = true) : u.bpmAlloc size user place names =
      (0, handleOf k i, u.poolSet k { u.pool k with cache := l, alloc := tabInsert i (ownerList names) (u.pool k).alloc }) := by
  have alive : ¬ (u.underTest 3 = true ∧ u.poolHost k = false) := by
    rcases ht with e | e <;> simp [e]
  unfold State.bpmAlloc
  simp only [hs, hc]
  exact if_neg alive

theorem bpmAlloc_empty (size user : Nat) (place : Option Bool) (names : List Nat) (hs : u.servingPool size user place = some k)
    (hc : (u.pool k).cache = []) : u.bpmAlloc size user place names =
      (2, 0xFFFFFF, (u.inc F.BPM_POOL_FAIL_COUNT k).evt F.BPM_EVT_FAIL) := by
  unfold State.bpmAlloc
  simp only [hs, hc]
  rfl

/-- A handle has 24 bits. -/
theorem handleOf_lt (hk : k < 8) (hi : i < 2 ^ 21) : handleOf k i < 2 ^ 24 := by
  rw [handleOf]
  omega

/-! ## RELEASE and ADD (R491, R492) -/

theorem bpmCommand_release {a st : Nat} {t : State} (ha : a = u.get F.BPM_ARG_ARG host % 2 ^ 24)
    (hr : u.bpmRelease a (host + 1) = (some st, t)) : u.bpmCommand host 2 = t.bpmStatus host st := by
  subst ha
  unfold State.bpmCommand
  simp only [hr]

theorem bpmCommand_add {a st n : Nat} {rest : List Nat} {t : State} (ha : a = u.get F.BPM_ARG_ARG host % 2 ^ 24)
    (hn : wordNames (u.reg R.BPM_OWNERS host) = n :: rest) (ok : nameOk n = true) (hr : u.bpmAdd a (host + 1) n = (st, t)) :
    u.bpmCommand host 3 = t.bpmStatus host st := by
  subst ha
  unfold State.bpmCommand
  simp only [hn, List.headD_cons, ok, hr, Bool.not_true, Bool.false_eq_true, if_false]

theorem rejectKind_none {a req : Nat} (known : u.handleUnknown a = false) (owned : u.owners a = some l) (mine : req ∈ l) :
    u.rejectKind a req = none := by
  rw [State.rejectKind, known, owned]
  simp [mine]

theorem rejectKind_lt {a req kind : Nat} (h : u.rejectKind a req = some kind) : kind < 4 := by
  unfold State.rejectKind at h
  split at h
  · cases h
    decide
  · split at h
    · cases h
      decide
    · split at h <;> cases h
      decide

theorem bpmReject_pools (kind req a : Nat) : (u.bpmReject kind req a).pools = u.pools := by
  unfold State.bpmReject
  dsimp only
  split <;> simp

/-- What a rejection shows (R492). -/
theorem bpmReject_shows {kind req a : Nat} (hk : kind < 4) (hreq : req < 2 ^ 28) (ha : a < 2 ^ 24) :
    (u.bpmReject kind req a).bit F.BPM_EVT_REJECT = true ∧
    (u.bpmReject kind req a).get F.BPM_REJ_CNT_COUNT = min (u.get F.BPM_REJ_CNT_COUNT + 1) (2 ^ 32 - 1) ∧
    (u.bit F.BPM_ERR_VALID = false → (u.bpmReject kind req a).bit F.BPM_ERR_VALID = true ∧ (u.bpmReject kind req a).get F.BPM_ERR_KIND = kind ∧
      (u.bpmReject kind req a).get F.BPM_ERR_HANDLE_HANDLE = a) := by
  have counted : ((u.inc F.BPM_REJ_CNT_COUNT).evt F.BPM_EVT_REJECT).get F.BPM_REJ_CNT_COUNT = min (u.get F.BPM_REJ_CNT_COUNT + 1) (2 ^ 32 - 1) :=
    (State.get_evt_free _ (by decide) ..).trans (State.get_inc_same _ _ _ _ _ (by decide))
  have event : ((u.inc F.BPM_REJ_CNT_COUNT).evt F.BPM_EVT_REJECT).bit F.BPM_EVT_REJECT = true :=
    State.bit_evt_same _ _ _ _ (by decide) (by decide)
  have valid : ((u.inc F.BPM_REJ_CNT_COUNT).evt F.BPM_EVT_REJECT).bit F.BPM_ERR_VALID = u.bit F.BPM_ERR_VALID :=
    (State.bit_evt_free _ (by decide) ..).trans (State.bit_put_free _ (by decide) ..)
  unfold State.bpmReject State.capture
  dsimp only
  rw [valid]
  generalize (u.inc F.BPM_REJ_CNT_COUNT).evt F.BPM_EVT_REJECT = w at counted event
  cases u.bit F.BPM_ERR_VALID
  · simp only [Bool.not_false, if_true, Bool.false_eq_true, if_false]
    refine ⟨?_, ?_, fun _ => ⟨?_, ?_, State.get_put_fits _ (by decide) ha _ _⟩⟩
    · rw [State.bit_put_free _ (by decide), State.bit, State.get_setReg_free _ (by decide), ← State.bit, event]
    · rw [State.get_put_free _ (by decide), State.get_setReg_free _ (by decide), counted]
    · rw [State.bit_put_free _ (by decide), State.bit, State.get_setReg_same, getBits_setBits_same _ _ _ _ (by decide)]
      rfl
    · rw [State.get_put_free _ (by decide)]
      refine (State.get_setReg_same w F.BPM_ERR_KIND _ 0 0).trans ?_
      rw [getBits_setBits_other _ _ _ _ _ _ (by decide) (by decide)]
      refine (getBits_word (kind * 2 ^ 28 + req) 29 28).trans ?_
      omega
  · exact ⟨(State.bit_put_free _ (by decide) ..).trans event, (State.get_put_free _ (by decide) ..).trans counted, fun e => by simp at e⟩

theorem bpmRelease_shared {a req : Nat} (known : u.handleUnknown a = false) (owned : u.owners a = some l) (mine : req ∈ l)
    (others : l.filter (fun n => n != req) ≠ []) : u.bpmRelease a req = (some 0, u.setPool (handlePool a)
      { u.pool (handlePool a) with alloc := tabInsert (handleIndex a) (l.filter (fun n => n != req)) (u.pool (handlePool a)).alloc }) := by
  rw [State.bpmRelease, rejectKind_none u known owned mine]
  simp only [State.dropName, owned]
  rw [if_pos (by simpa using others)]
  rfl

theorem bpmRelease_last {a req : Nat} (known : u.handleUnknown a = false) (owned : u.owners a = some l) (mine : req ∈ l)
    (alone : l.filter (fun n => n != req) = []) (room : (u.pool (handlePool a)).cache.length < 32) :
    u.bpmRelease a req = (some 0, u.bufferBack a) := by
  rw [State.bpmRelease, rejectKind_none u known owned mine]
  simp only [State.dropName, owned]
  rw [if_neg (by simp [alone]), if_pos room]
  rfl

theorem pool_bufferBack {a : Nat} (here : (u.pool (handlePool a)).lost = false) : (u.bufferBack a).pool (handlePool a) =
    { u.pool (handlePool a) with alloc := tabErase (handleIndex a) (u.pool (handlePool a)).alloc,
                                 cache := (u.pool (handlePool a)).cache ++ [handleIndex a] } := by
  rw [State.bufferBack, State.pool_poolSet]
  simp only [here, Bool.false_eq_true, if_false]

theorem bpmAdd_new {a req n : Nat} (known : u.handleUnknown a = false) (owned : u.owners a = some l) (mine : req ∈ l) (new : n ∉ l)
    (room : l.length < 4) : u.bpmAdd a req n = (0, u.setPool (handlePool a)
      { u.pool (handlePool a) with alloc := tabInsert (handleIndex a) (l ++ [n]) (u.pool (handlePool a)).alloc }) := by
  rw [State.bpmAdd, rejectKind_none u known owned mine]
  simp only [owned]
  rw [if_neg (by simpa using new), if_neg (by omega)]
  rfl

theorem bpmAdd_full {a req n : Nat} (known : u.handleUnknown a = false) (owned : u.owners a = some l) (mine : req ∈ l) (new : n ∉ l)
    (full : 4 ≤ l.length) : u.bpmAdd a req n = (7, u) := by
  rw [State.bpmAdd, rejectKind_none u known owned mine]
  simp only [owned]
  rw [if_neg (by simpa using new), if_pos full]
  rfl

theorem owners_setPool {a : Nat} (p : Pool) (m : List Nat) :
    (u.setPool (handlePool a) { p with alloc := tabInsert (handleIndex a) m p.alloc }).owners a = some m := by
  rw [State.owners, State.pool_setPool]
  exact tabFind_insert_same ..

/-! ## QUERY (R494) -/

/-- The owners of a buffer as a word shows them, the first lowest. -/
def ownerWord (l : List Nat) : Nat := (l.zipIdx).foldl (fun a e => a + e.1 * 2 ^ (8 * e.2)) 0

theorem bpmCommand_query {a : Nat} (ha : a = u.get F.BPM_ARG_ARG host % 2 ^ 24) (known : u.handleUnknown a = false)
    (owned : u.owners a = some l) :
    u.bpmCommand host 4 = (u.setReg R.BPM_OWNERS (BitVec.ofNat 32 (ownerWord l)) host).bpmStatus host 0 := by
  subst ha
  unfold State.bpmCommand
  dsimp only
  rw [known, owned]
  rfl

/-- The number whose bytes are a list, the first lowest. -/
def leVal : List Nat → Nat
  | [] => 0
  | a :: l => a + 256 * leVal l

theorem ownerWord_eq (l : List Nat) : ownerWord l = leVal l := by
  have from_ : ∀ (l : List Nat) (k acc : Nat), (l.zipIdx k).foldl (fun a e => a + e.1 * 2 ^ (8 * e.2)) acc = acc + 2 ^ (8 * k) * leVal l := by
    intro l
    induction l with
    | nil => simp [leVal]
    | cons a l ih =>
      intro k acc
      rw [List.zipIdx_cons, List.foldl_cons, ih, leVal, show 8 * (k + 1) = 8 * k + 8 by omega, pow_add]
      ring
  rw [ownerWord, from_, Nat.mul_zero, pow_zero, Nat.one_mul, Nat.zero_add]

theorem leVal_lt (small : ∀ n ∈ l, n < 256) : leVal l < 256 ^ l.length := by
  induction l with
  | nil => exact Nat.one_pos
  | cons a l ih =>
    have head := small a List.mem_cons_self
    have tail := ih fun n hn => small n (List.mem_cons_of_mem _ hn)
    rw [leVal, List.length_cons, pow_succ]
    omega

theorem leVal_byte (small : ∀ n ∈ l, n < 256) (i : Nat) : leVal l / 256 ^ i % 256 = (l[i]?).getD 0 := by
  induction l generalizing i with
  | nil => simp [leVal]
  | cons a l ih =>
    have head := small a List.mem_cons_self
    cases i with
    | zero =>
      rw [leVal, pow_zero, Nat.div_one, Nat.add_mul_mod_self_left, Nat.mod_eq_of_lt head]
      rfl
    | succ i =>
      rw [leVal, pow_succ', ← Nat.div_div_eq_div_mul, show (a + 256 * leVal l) / 256 = leVal l by omega,
        ih (fun n hn => small n (List.mem_cons_of_mem _ hn)) i, List.getElem?_cons_succ]

/-- The names of a word that shows up to four owners are those owners, and 0 behind them. -/
theorem wordNames_ownerWord (small : ∀ n ∈ l, n < 256) (short : l.length ≤ 4) (i : Nat) (hi : i < 4) :
    (wordNames (BitVec.ofNat 32 (ownerWord l)))[i]? = some ((l[i]?).getD 0) := by
  have bits : ∀ n hi lo, getBits (BitVec.ofNat 32 n) hi lo = n % 2 ^ 32 / 2 ^ lo % 2 ^ (hi + 1 - lo) := getBits_word
  have fits : leVal l < 2 ^ 32 := lt_of_lt_of_le (leVal_lt small) (Nat.pow_le_pow_right (n := 256) (by decide) short)
  rw [← leVal_byte small i, ownerWord_eq, wordNames, bits, bits, bits, bits, Nat.mod_eq_of_lt fits]
  interval_cases i <;> rfl

/-- A command that returns a handle. -/
theorem bpmResult_shows {st handle : Nat} (hst : st < 16) (fits : handle < 2 ^ 24) :
    ((u.put F.BPM_RESULT_HANDLE handle host).bpmStatus host st).get F.BPM_RESULT_HANDLE host = handle ∧
    ((u.put F.BPM_RESULT_HANDLE handle host).bpmStatus host st).get F.BPM_CMD_STAT_STATUS host = st ∧
    ((u.put F.BPM_RESULT_HANDLE handle host).bpmStatus host st).pools = u.pools ∧
    ∀ (s : State) (m : List Nat), s.keepsRegs u m → R.BPM_RESULT.off host 0 ∈ m → R.BPM_CMD_STAT.off host 0 ∈ m →
      s.keepsRegs ((u.put F.BPM_RESULT_HANDLE handle host).bpmStatus host st) m := by
  obtain ⟨status, -, pools⟩ := bpmStatus_shows (u.put F.BPM_RESULT_HANDLE handle host) (host := host) hst
  exact ⟨(get_bpmStatus _ (by decide) ..).trans (State.get_put_fits _ (by decide) fits _ _), status, pools,
    fun s m keeps result stat => State.keepsRegs_put (State.keepsRegs_put (State.keepsRegs_put keeps _ _ _ _ result) _ _ _ _ stat) _ _ _ _ stat⟩

/-! ## The commands as the statements name them -/

section
variable (ho : s.opens h R.BPM_CMD 0 0 = true) (hb : s.bit F.BPM_CMD_STAT_BUSY (hostNum h) = false)
include ho hb

theorem does_bpmAlloc_cached (harg : arg = s.get F.BPM_ARG_ARG (hostNum h)) (pos : arg ≠ 0)
    (hn : names = ownerList (wordNames (s.reg R.BPM_OWNERS (hostNum h)))) (some_ : names ≠ []) (all : names.all nameOk = true)
    (hs : s.servingPool arg userHOST none = some k) (hc : (s.pool k).cache = i :: l) (hi : i < 2 ^ 21)
    (alive : s.underTest 3 = false ∨ s.poolHost k = true) : Does (.bpmAlloc h) s fun t =>
      t.get F.BPM_RESULT_HANDLE (hostNum h) = handleOf k i ∧ t.get F.BPM_CMD_STAT_STATUS (hostNum h) = 0 ∧
      t.pool k = { s.pool k with cache := l, alloc := tabInsert i names (s.pool k).alloc } ∧
      t.get F.BPM_POOL_FREE_FREE k = (l.length + (s.pool k).count) % 2 ^ F.BPM_POOL_FREE_FREE.width ∧
      s.keepsRegs t [R.BPM_RESULT.off (hostNum h) 0, R.BPM_CMD_STAT.off (hostNum h) 0, R.BPM_CMD.off (hostNum h) 0, R.BPM_POOL_FREE.off k 0,
        R.BPM_POOL_LOW.off k 0] := by
  have hh := hostNum_lt h
  have hk : k < 8 := List.mem_range.1 (List.mem_of_find?_eq_some hs)
  subst harg hn
  refine does_bpmCommand rfl ho hb (op := 1) rfl fun v => ?_
  have called := bpmCommand_alloc (s.bpmCalled (hostNum h) v) (host := hostNum h) (by rwa [bpmCalled_arg s hh]) (by rwa [bpmCalled_names s hh])
    (by rwa [bpmCalled_names s hh]) (bpmAlloc_cached _ _ _ _ _ (by rwa [bpmCalled_servingPool s hh, bpmCalled_arg s hh]) (show ((s.bpmCalled (hostNum h) v).pool k).cache = i :: l from hc)
      (by rwa [bpmCalled_underTest s hh, bpmCalled_poolHost s hh v hk]))
  rw [called, bpmCalled_names s hh]
  obtain ⟨result, status, pools, keeps⟩ := bpmResult_shows ((s.bpmCalled (hostNum h) v).poolSet k
    { s.pool k with cache := l, alloc := tabInsert i (ownerList (wordNames (s.reg R.BPM_OWNERS (hostNum h)))) (s.pool k).alloc })
    (host := hostNum h) (show 0 < 16 by decide) (handleOf_lt hk hi)
  refine ⟨(settled_get_free _ _ (by decide) ..).trans result, (settled_get_free _ _ (by decide) ..).trans status, ?_, ?_,
    settled_keeps _ _ _ (keeps _ _ (State.keepsRegs_poolSet (State.keepsRegs_setReg (State.keepsRegs_refl _) _ _ _ _ ?_) _ ?_ ?_) ?_ ?_)⟩
  · rw [settled_pool]
    exact (State.pool_of_pools pools k).trans (State.pool_poolSet ..)
  · rw [settled_get_free _ _ (by decide)]
    exact ((get_bpmStatus _ (by decide) ..).trans (State.get_put_free _ (by decide) ..)).trans (State.free_poolSet ..)
  all_goals simp only [List.mem_cons, true_or, or_true]

theorem does_bpmAlloc_empty (harg : arg = s.get F.BPM_ARG_ARG (hostNum h)) (pos : arg ≠ 0)
    (hn : names = ownerList (wordNames (s.reg R.BPM_OWNERS (hostNum h)))) (some_ : names ≠ []) (all : names.all nameOk = true)
    (hs : s.servingPool arg userHOST none = some k) (hc : (s.pool k).cache = []) : Does (.bpmAlloc h) s fun t =>
      t.get F.BPM_RESULT_HANDLE (hostNum h) = 0xFFFFFF ∧ t.get F.BPM_CMD_STAT_STATUS (hostNum h) = 2 ∧ t.bit F.BPM_EVT_FAIL = true ∧
      t.pools = s.pools ∧ t.get F.BPM_POOL_FAIL_COUNT k = min (s.get F.BPM_POOL_FAIL_COUNT k + 1) (2 ^ 32 - 1) := by
  have hh := hostNum_lt h
  have hk : k < 8 := List.mem_range.1 (List.mem_of_find?_eq_some hs)
  subst harg hn
  refine does_bpmCommand rfl ho hb (op := 1) rfl fun v => ?_
  have called := bpmCommand_alloc (s.bpmCalled (hostNum h) v) (host := hostNum h) (by rwa [bpmCalled_arg s hh]) (by rwa [bpmCalled_names s hh])
    (by rwa [bpmCalled_names s hh]) (bpmAlloc_empty _ _ _ _ _ (by rwa [bpmCalled_servingPool s hh, bpmCalled_arg s hh])
      (show ((s.bpmCalled (hostNum h) v).pool k).cache = [] from hc))
  rw [called]
  obtain ⟨result, status, pools, -⟩ := bpmResult_shows (((s.bpmCalled (hostNum h) v).inc F.BPM_POOL_FAIL_COUNT k).evt F.BPM_EVT_FAIL)
    (host := hostNum h) (show 2 < 16 by decide) (show 0xFFFFFF < 2 ^ 24 by decide)
  refine ⟨(settled_get_free _ _ (by decide) ..).trans result, (settled_get_free _ _ (by decide) ..).trans status, ?_, ?_, ?_⟩
  · rw [settled_bit_free _ _ (by decide), State.bit, get_bpmStatus _ (by decide), State.get_put_free _ (by decide), ← State.bit]
    exact State.bit_evt_same _ _ _ _ (by decide) (by decide)
  · rw [settled_pools]
    exact pools.trans (State.evt_pools ..)
  · rw [settled_get_free _ _ (by decide), get_bpmStatus _ (by decide), State.get_put_free _ (by decide), State.get_evt_free _ (by decide),
      State.get_inc_same _ _ _ _ _ (by decide), bpmCalled_get s hh v (by decide) ⟨hk, Nat.one_pos⟩]
    rfl

theorem does_bpmRelease_reject {a kind : Nat} (ha : a = s.get F.BPM_ARG_ARG (hostNum h) % 2 ^ 24)
    (hr : s.rejectKind a (hostNum h + 1) = some kind) : Does (.bpmRelease h) s fun t =>
      t.get F.BPM_CMD_STAT_STATUS (hostNum h) = kind + 3 ∧ t.bit F.BPM_EVT_REJECT = true ∧ t.pools = s.pools ∧
      t.get F.BPM_REJ_CNT_COUNT = min (s.get F.BPM_REJ_CNT_COUNT + 1) (2 ^ 32 - 1) ∧
      (s.bit F.BPM_ERR_VALID = false → t.bit F.BPM_ERR_VALID = true ∧ t.get F.BPM_ERR_KIND = kind ∧ t.get F.BPM_ERR_HANDLE_HANDLE = a) := by
  have hh := hostNum_lt h
  have small := rejectKind_lt s hr
  refine does_bpmCommand rfl ho hb (op := 2) rfl fun v => ?_
  have rejected : (s.bpmCalled (hostNum h) v).bpmRelease a (hostNum h + 1) =
      (some (kind + 3), (s.bpmCalled (hostNum h) v).bpmReject kind (hostNum h + 1) a) := by
    rw [State.bpmRelease, bpmCalled_rejectKind s hh, hr]
  rw [bpmCommand_release _ (ha.trans (by rw [bpmCalled_arg s hh])) rejected]
  obtain ⟨status, -, pools⟩ := bpmStatus_shows ((s.bpmCalled (hostNum h) v).bpmReject kind (hostNum h + 1) a) (host := hostNum h) (show kind + 3 < 16 by omega)
  obtain ⟨event, count, capture⟩ := bpmReject_shows (s.bpmCalled (hostNum h) v) small (show hostNum h + 1 < 2 ^ 28 by omega)
    (show a < 2 ^ 24 from ha ▸ Nat.mod_lt _ (by decide))
  rw [bpmCalled_bit s hh v (by decide) ⟨Nat.one_pos, Nat.one_pos⟩] at capture
  rw [bpmCalled_get s hh v (by decide) ⟨Nat.one_pos, Nat.one_pos⟩] at count
  refine ⟨(settled_get_free _ _ (by decide) ..).trans status, ?_, ?_, ?_, fun hv => ?_⟩
  · rwa [settled_bit_free _ _ (by decide), State.bit, get_bpmStatus _ (by decide), ← State.bit]
  · rw [settled_pools, pools, bpmReject_pools]
    rfl
  · rwa [settled_get_free _ _ (by decide), get_bpmStatus _ (by decide)]
  · rw [settled_bit_free _ _ (by decide), State.bit, get_bpmStatus _ (by decide), ← State.bit, settled_get_free _ _ (by decide),
      get_bpmStatus _ (by decide), settled_get_free _ _ (by decide), get_bpmStatus _ (by decide)]
    exact capture hv

section
variable {a : Nat} (ha : a = s.get F.BPM_ARG_ARG (hostNum h) % 2 ^ 24) (known : s.handleUnknown a = false) (owned : s.owners a = some l)
include ha known owned

theorem does_bpmRelease_shared (mine : hostNum h + 1 ∈ l) (others : l.filter (fun n => n != hostNum h + 1) ≠ []) :
    Does (.bpmRelease h) s fun t => t.get F.BPM_CMD_STAT_STATUS (hostNum h) = 0 ∧
      t.owners a = some (l.filter (fun n => n != hostNum h + 1)) ∧
      s.keepsRegs t [R.BPM_CMD_STAT.off (hostNum h) 0, R.BPM_CMD.off (hostNum h) 0] := by
  have hh := hostNum_lt h
  refine does_bpmCommand rfl ho hb (op := 2) rfl fun v => ?_
  have released := bpmRelease_shared (s.bpmCalled (hostNum h) v) (req := hostNum h + 1) ((bpmCalled_handleUnknown s hh v _).trans known) owned mine others
  rw [bpmCommand_release _ (ha.trans (by rw [bpmCalled_arg s hh])) released]
  obtain ⟨status, -, pools⟩ := bpmStatus_shows (host := hostNum h) (st := 0) ((s.bpmCalled (hostNum h) v).setPool _ _) (by decide)
  refine ⟨(settled_get_free _ _ (by decide) ..).trans status, ?_, settled_keeps _ _ _ ?_⟩
  · rw [State.owners_of_pools (settled_pools ..), State.owners_of_pools pools]
    exact owners_setPool ..
  · have called : s.keepsRegs (s.bpmCalled (hostNum h) v) [R.BPM_CMD_STAT.off (hostNum h) 0, R.BPM_CMD.off (hostNum h) 0] :=
      State.keepsRegs_setReg (State.keepsRegs_refl _) _ _ _ _ (List.mem_cons_of_mem _ List.mem_cons_self)
    exact State.keepsRegs_put (State.keepsRegs_put called _ _ _ _ List.mem_cons_self) _ _ _ _ List.mem_cons_self

theorem does_bpmRelease_last (mine : hostNum h + 1 ∈ l) (alone : l.filter (fun n => n != hostNum h + 1) = [])
    (room : (s.pool (handlePool a)).cache.length < 32) (here : (s.pool (handlePool a)).lost = false) :
    Does (.bpmRelease h) s fun t => t.get F.BPM_CMD_STAT_STATUS (hostNum h) = 0 ∧
      t.pool (handlePool a) = { s.pool (handlePool a) with
        alloc := tabErase (handleIndex a) (s.pool (handlePool a)).alloc, cache := (s.pool (handlePool a)).cache ++ [handleIndex a] } := by
  have hh := hostNum_lt h
  refine does_bpmCommand rfl ho hb (op := 2) rfl fun v => ?_
  have released := bpmRelease_last (s.bpmCalled (hostNum h) v) (req := hostNum h + 1) ((bpmCalled_handleUnknown s hh v _).trans known) owned mine alone
    room
  rw [bpmCommand_release _ (ha.trans (by rw [bpmCalled_arg s hh])) released]
  obtain ⟨status, -, pools⟩ := bpmStatus_shows (host := hostNum h) (st := 0)
    ((s.bpmCalled (hostNum h) v).bufferBack a) (by decide)
  refine ⟨(settled_get_free _ _ (by decide) ..).trans status, ?_⟩
  rw [settled_pool, State.pool_of_pools pools]
  exact pool_bufferBack _ here

theorem does_bpmAdd_new {n : Nat} {rest : List Nat} (hn : wordNames (s.reg R.BPM_OWNERS (hostNum h)) = n :: rest) (ok : nameOk n = true)
    (mine : hostNum h + 1 ∈ l) (new : n ∉ l) (room : l.length < 4) :
    Does (.bpmAdd h) s fun t => t.get F.BPM_CMD_STAT_STATUS (hostNum h) = 0 ∧ t.owners a = some (l ++ [n]) := by
  have hh := hostNum_lt h
  refine does_bpmCommand rfl ho hb (op := 3) rfl fun v => ?_
  have added := bpmAdd_new (s.bpmCalled (hostNum h) v) (req := hostNum h + 1) ((bpmCalled_handleUnknown s hh v _).trans known) owned mine new room
  rw [bpmCommand_add _ (ha.trans (by rw [bpmCalled_arg s hh])) (by rw [bpmCalled_names s hh, hn]) ok added]
  obtain ⟨status, -, pools⟩ := bpmStatus_shows (host := hostNum h) (st := 0) ((s.bpmCalled (hostNum h) v).setPool _ _) (by decide)
  refine ⟨(settled_get_free _ _ (by decide) ..).trans status, ?_⟩
  rw [State.owners_of_pools (settled_pools ..), State.owners_of_pools pools]
  exact owners_setPool ..

theorem does_bpmAdd_full {n : Nat} {rest : List Nat} (hn : wordNames (s.reg R.BPM_OWNERS (hostNum h)) = n :: rest) (ok : nameOk n = true)
    (mine : hostNum h + 1 ∈ l) (new : n ∉ l) (full : 4 ≤ l.length) :
    Does (.bpmAdd h) s fun t => t.get F.BPM_CMD_STAT_STATUS (hostNum h) = 7 ∧ t.pools = s.pools := by
  have hh := hostNum_lt h
  refine does_bpmCommand rfl ho hb (op := 3) rfl fun v => ?_
  have added := bpmAdd_full (s.bpmCalled (hostNum h) v) (req := hostNum h + 1) ((bpmCalled_handleUnknown s hh v _).trans known) owned mine new full
  rw [bpmCommand_add _ (ha.trans (by rw [bpmCalled_arg s hh])) (by rw [bpmCalled_names s hh, hn]) ok added]
  obtain ⟨status, -, pools⟩ := bpmStatus_shows (host := hostNum h) (st := 7) (s.bpmCalled (hostNum h) v) (by decide)
  exact ⟨(settled_get_free _ _ (by decide) ..).trans status, (settled_pools ..).trans pools⟩

theorem does_bpmQuery : Does (.bpmQuery h) s fun t => t.get F.BPM_CMD_STAT_STATUS (hostNum h) = 0 ∧ t.pools = s.pools ∧
    ((∀ n ∈ l, n < 256) → l.length ≤ 4 → ∀ i < 4, (wordNames (t.reg R.BPM_OWNERS (hostNum h)))[i]? = some ((l[i]?).getD 0)) := by
  have hh := hostNum_lt h
  refine does_bpmCommand rfl ho hb (op := 4) rfl fun v => ?_
  rw [bpmCommand_query _ (ha.trans (by rw [bpmCalled_arg s hh])) ((bpmCalled_handleUnknown s hh v _).trans known) owned]
  obtain ⟨status, -, pools⟩ := bpmStatus_shows (host := hostNum h) (st := 0)
    ((s.bpmCalled (hostNum h) v).setReg R.BPM_OWNERS (BitVec.ofNat 32 (ownerWord l)) (hostNum h)) (by decide)
  refine ⟨(settled_get_free _ _ (by decide) ..).trans status, (settled_pools ..).trans pools, fun small short i hi => ?_⟩
  have shown : (((s.bpmCalled (hostNum h) v).setReg R.BPM_OWNERS (BitVec.ofNat 32 (ownerWord l)) (hostNum h)).bpmStatus (hostNum h) 0).reg
      R.BPM_OWNERS (hostNum h) = BitVec.ofNat 32 (ownerWord l) :=
    (State.reg_put_free (f := F.BPM_CMD_STAT_BUSY) _ (by decide) ..).trans
      ((State.reg_put_free (f := F.BPM_CMD_STAT_STATUS) _ (by decide) ..).trans (State.reg_setReg_same ..))
  rw [settled_reg_free _ _ (by decide), shown]
  exact wordNames_ownerWord small short i hi

end

end

/-! ## Pools in host memory, and their caches (R488, R489) -/

theorem settled_regs_setPool (b c : State) (k : Nat) (p : Pool) : (settled b (s.setPool k p)).regs = (settled c s).regs :=
  settled_regs_congr (s := s) (t := s.setPool k p) ⟨rfl, rfl, rfl⟩ b c

theorem poolInit_eq (w : Word) (hw : getBits w 30 30 = 1) (k : Nat) (ph : s.poolHost k = true) (closed : s.bit F.BPM_POOL_CFG_EN k = false)
    (hc : s.poolCount k ≠ 0) (host : Nat) :
    s.regWrite host R.BPM_POOL_CFG k 0 15 w = ([], s.setPool k { s.pool k with init := true }) := by
  have write : s.regWrite host R.BPM_POOL_CFG k 0 15 w = actOnly (if getBits w 30 30 = 1 then s.poolInit k else s) := rfl
  rw [write, if_pos hw, State.poolInit, if_pos ⟨ph, closed, hc⟩, actOnly]

theorem poolReady_eq {k : Nat} (hi : (s.pool k).init = true) (hd : s.dma14Runs = true) : s.poolReady k =
    (((s.ringWrite k 0 (List.range (s.poolCount k))).poolSet k { count := s.poolCount k }).put F.BPM_POOL_CFG_EN 1 k).evt F.BPM_EVT_READY :=
  if_pos ⟨hi, hd⟩

theorem does_poolReady {k : Fin 8} (hi : (s.pool k).init = true) (hd : s.dma14Runs = true) : Does (.poolReady k) s fun t =>
    t.bit F.BPM_POOL_CFG_EN k = true ∧ t.bit F.BPM_EVT_READY = true ∧ t.pool k = { count := s.poolCount k } := by
  refine does_of rfl ?_
  rw [poolReady_eq hi hd]
  refine ⟨?_, ?_, ?_⟩
  · rw [settled_bit _ _ _ _ _ (not_pba (by decide) ⟨k.isLt, Nat.one_pos⟩), State.bit_evt_free _ (by decide)]
    exact State.bit_put_one _ (by decide) (by decide) _ _
  · rw [settled_bit_free _ _ (by decide)]
    exact State.bit_evt_same _ _ _ _ (by decide) (by decide)
  · rw [settled_pool, State.pool_of_pools (State.evt_pools ..), State.pool_of_pools (State.put_pools ..), State.pool_poolSet]

/-- What a refill brings into the cache, at its tail. -/
theorem cacheRefill_eq {data : List Word} (hc : (s.pool k).cache.length < 8) (hn : 0 < (s.pool k).count) (here : (s.pool k).lost = false)
    (hp : s.poolHost k = false ∨ (s.dma14Runs = true ∧ data.length = min 16 (s.pool k).count)) :
    ∃ (l : List Nat) (head : Nat) (u : State), s.cacheRefill k data = u.poolSet k
      { s.pool k with cache := (s.pool k).cache ++ l, head := head, count := (s.pool k).count - min 16 (s.pool k).count } ∧
      l.length = min 16 (s.pool k).count ∧ u.regs = s.regs := by
  unfold State.cacheRefill
  dsimp only
  rw [if_pos ⟨hc, by omega, here⟩]
  split
  · next ph =>
    obtain ⟨runs, length⟩ := hp.resolve_left (by simp [ph])
    rw [if_pos ⟨runs, length⟩]
    exact ⟨_, _, _, rfl, by rw [List.length_map, length], rfl⟩
  · exact ⟨_, _, _, rfl, by rw [List.length_map, List.length_range], rfl⟩

theorem does_cacheRefill {k : Fin 8} {data : List Word} (hc : (s.pool k).cache.length < 8) (hn : 0 < (s.pool k).count)
    (here : (s.pool k).lost = false) (hp : s.poolHost k = false ∨ (s.dma14Runs = true ∧ data.length = min 16 (s.pool k).count)) :
    Does (.cacheRefill k data) s fun t => (t.pool k).cache.length = (s.pool k).cache.length + min 16 (s.pool k).count ∧
      (s.pool k).cache <+: (t.pool k).cache ∧ (t.pool k).count = (s.pool k).count - min 16 (s.pool k).count ∧
      (t.pool k).alloc = (s.pool k).alloc ∧ s.keepsRegs t [R.BPM_POOL_FREE.off k 0, R.BPM_POOL_LOW.off k 0] := by
  obtain ⟨l, head, u, e, length, regs⟩ := cacheRefill_eq hc hn here hp
  refine does_of rfl ?_
  rw [e, settled_pool, State.pool_poolSet]
  refine ⟨by rw [List.length_append, length], List.prefix_append .., rfl, rfl, settled_keeps _ _ _ ?_⟩
  exact State.keepsRegs_poolSet (State.keepsRegs_of_eq _ regs) _ List.mem_cons_self (List.mem_cons_of_mem _ List.mem_cons_self)

/-- A spill with nothing that waits for the cache. -/
theorem cacheSpill_eq (hc : 24 < (s.pool k).cache.length) (hp : s.poolHost k = false ∨ s.dma14Runs = true) (hw : (s.pool k).waits = []) :
    s.cacheSpill k = s.spill k := by
  have pool : ((s.spill k).pool k).waits = [] := by
    unfold State.spill
    dsimp only
    rw [State.pool_poolSet]
    exact hw
  rw [State.cacheSpill, if_pos ⟨hc, hp⟩, State.waitsGo]
  simp only [pool]

theorem does_cacheSpill {k : Fin 8} (hc : 24 < (s.pool k).cache.length) (hp : s.poolHost k = false ∨ s.dma14Runs = true)
    (hw : (s.pool k).waits = []) : Does (.cacheSpill k) s fun t =>
      t.pool k = { s.pool k with cache := (s.pool k).cache.drop 16, count := (s.pool k).count + 16 } ∧
      s.keepsRegs t [R.BPM_POOL_FREE.off k 0, R.BPM_POOL_LOW.off k 0] := by
  refine does_of rfl ?_
  rw [cacheSpill_eq hc hp hw, State.spill]
  dsimp only
  obtain ⟨m, o, e⟩ := ringWrite_only s k ((s.pool k).head + (s.pool k).count) ((s.pool k).cache.take 16)
  rw [e, settled_pool, State.pool_poolSet, List.length_take, Nat.min_eq_left (by omega : 16 ≤ (s.pool k).cache.length)]
  refine ⟨rfl, settled_keeps _ _ _ ?_⟩
  exact State.keepsRegs_poolSet (State.keepsRegs_of_eq _ rfl) _ List.mem_cons_self (List.mem_cons_of_mem _ List.mem_cons_self)

end

/-- Settles O56: a host command runs on the state that its own word leaves, and each operation of a pool is one change of the pool and of the
registers that show it. -/
theorem bufferPools : Obligations.BufferPools := by
  refine ⟨fun s h ho hb => ⟨fun k i l arg names harg pos hn some_ all hs => ⟨fun hc hi alive => ?_, fun hc => ?_⟩, fun a kind ha hr => ?_,
    fun a l ha known owned => ⟨fun mine others => ?_, fun mine alone room here => ?_, fun n rest hn ok mine new => ⟨fun room => ?_, fun full => ?_⟩,
      ?_⟩⟩, fun s h k ho ph closed hc => ?_, fun s k hi hd => does_poolReady hi hd, fun s k data hc hn here hp => does_cacheRefill hc hn here hp,
    fun s k hc hp hw => does_cacheSpill hc hp hw⟩
  · exact does_bpmAlloc_cached ho hb harg pos hn some_ all hs hc hi alive
  · exact does_bpmAlloc_empty ho hb harg pos hn some_ all hs hc
  · exact does_bpmRelease_reject ho hb ha hr
  · exact does_bpmRelease_shared ho hb ha known owned mine others
  · exact does_bpmRelease_last ho hb ha known owned mine alone room here
  · exact does_bpmAdd_new ho hb ha known owned hn ok mine new room
  · exact does_bpmAdd_full ho hb ha known owned hn ok mine new full
  · exact does_bpmQuery ho hb ha known owned
  · refine does_rowWrite_own rfl ho (by decide) (poolInit_eq _ (by decide) k.val ph closed hc _) ⟨?_, settled_regs_setPool ..⟩
    rw [settled_pool]
    exact State.pool_setPool ..

end Sys2Proof.Machine
end

section
set_option Elab.async false
/-! The loader (19_configuration_image.md R544 to R546): an attempt that fails, one that goes on, and the moves of the loader between its states. -/

namespace Sys2Proof.Machine

section
variable (s : State)

/-- What stays beside some registers stays beside more of them. -/
theorem keepsRegs_subset {s t : State} {l m : List Nat} (h : s.keepsRegs t l) (sub : ∀ a ∈ l, a ∈ m) : s.keepsRegs t m := fun q i j hq =>
  h q i j fun e => hq (List.mem_append.2 ((List.mem_append.1 e).imp_left (sub _)))

/-! ## A failed attempt (R546) -/

/-- The field of IMG_STAT that shows the error of a source. -/
def errFld (src : Nat) : Fld := if src = 1 then F.IMG_STAT_ERR_SLOT0 else if src = 2 then F.IMG_STAT_ERR_SLOT1 else F.IMG_STAT_ERR_HOST

theorem errFld_cases (src : Nat) : errFld src = F.IMG_STAT_ERR_SLOT0 ∨ errFld src = F.IMG_STAT_ERR_SLOT1 ∨ errFld src = F.IMG_STAT_ERR_HOST := by
  unfold errFld
  split_ifs <;> simp

theorem imgFail_eq (err ofs : Nat) : s.imgFail err ofs =
    (((s.put (errFld (s.get F.IMG_STAT_SRC)) err).put F.IMG_ERR_OFS_OFS ofs).put F.IMG_STAT_STATE imgCLEAR).setImg
      { s.img with bytes := [], next := if s.get F.IMG_STAT_SRC = 1 then imgFLASH else imgWAIT_HOST } := by
  unfold State.imgFail errFld
  dsimp only
  split_ifs <;> rfl

theorem get_setImg (i : ImgState) (f : Fld) (a b : Nat) : (s.setImg i).get f a b = s.get f a b := rfl

theorem bit_setImg (i : ImgState) (f : Fld) (a b : Nat) : (s.setImg i).bit f a b = s.bit f a b := rfl

theorem reg_setImg (i : ImgState) (q : RegSpec) (a b : Nat) : (s.setImg i).reg q a b = s.reg q a b := rfl

theorem img_setImg (i : ImgState) : (s.setImg i).img = i := rfl

theorem keepsRegs_setImg {t : State} {l : List Nat} (h : s.keepsRegs t l) (i : ImgState) : s.keepsRegs (t.setImg i) l := h

theorem imgFail_img (err ofs : Nat) : (s.imgFail err ofs).img =
    { s.img with bytes := [], next := if s.get F.IMG_STAT_SRC = 1 then imgFLASH else imgWAIT_HOST } := by
  rw [imgFail_eq, img_setImg]

/-- What the end of an attempt shows: CLEAR, the error and its offset, and where the loader goes next. -/
theorem imgFail_shows {err ofs : Nat} (he : err < 16) : (s.imgFail err ofs).imgState = imgCLEAR ∧
    (s.imgFail err ofs).get (errFld (s.get F.IMG_STAT_SRC)) = err ∧
    (s.imgFail err ofs).get F.IMG_ERR_OFS_OFS = ofs % 2 ^ F.IMG_ERR_OFS_OFS.width ∧
    (s.imgFail err ofs).img = { s.img with bytes := [], next := if s.get F.IMG_STAT_SRC = 1 then imgFLASH else imgWAIT_HOST } ∧
    s.keepsRegs (s.imgFail err ofs) [R.IMG_STAT.base, R.IMG_ERR_OFS.base] := by
  rw [imgFail_img, imgFail_eq, State.imgState, get_setImg, get_setImg, get_setImg]
  have kept : ∀ f ∈ [F.IMG_STAT_ERR_SLOT0, F.IMG_STAT_ERR_SLOT1, F.IMG_STAT_ERR_HOST],
      (((s.put f err).put F.IMG_ERR_OFS_OFS ofs).put F.IMG_STAT_STATE imgCLEAR).get f = err ∧
      s.keepsRegs (((s.put f err).put F.IMG_ERR_OFS_OFS ofs).put F.IMG_STAT_STATE imgCLEAR) [R.IMG_STAT.base, R.IMG_ERR_OFS.base] := by
    intro f hf
    have shape : besideFld F.IMG_STAT_STATE f = true ∧ free f.reg R.IMG_ERR_OFS = true ∧ f.hi < 32 ∧ f.width = 4 ∧
        f.reg.off 0 0 ∈ [R.IMG_STAT.base, R.IMG_ERR_OFS.base] := by
      fin_cases hf <;> decide
    obtain ⟨beside, apart, high, width, listed⟩ := shape
    refine ⟨?_, State.keepsRegs_put (State.keepsRegs_put (State.keepsRegs_put (State.keepsRegs_refl _) _ _ _ _ listed) _ _ _ _ (by decide))
      _ _ _ _ (by decide)⟩
    rw [State.get_put_beside _ beside, State.get_put_free (f := F.IMG_ERR_OFS_OFS) _ apart, State.get_put_fits _ high (by rw [width]; exact he)]
  obtain ⟨shown, keeps⟩ := kept (errFld (s.get F.IMG_STAT_SRC)) (by simpa using errFld_cases _)
  refine ⟨State.get_put_fits _ (by decide) (by decide) _ _, shown, ?_, rfl, keepsRegs_setImg s keeps _⟩
  rw [State.get_put_free _ (by decide), State.get_put_same _ _ _ _ _ (by decide)]

/-- The attempt goes on: only IMG_STAT and IMG_ERR_OFS show it, and the bytes that other attempts are to get wait. -/
theorem imgProgress_keeps (last : Bool) : s.keepsRegs (s.imgProgress last) [R.IMG_STAT.base, R.IMG_ERR_OFS.base] ∧
    (s.imgProgress last).img.accepted = s.img.accepted ∧ (s.imgProgress last).img.inbox = s.img.inbox := by
  have failed : ∀ err ofs, s.keepsRegs (s.imgFail err ofs) [R.IMG_STAT.base, R.IMG_ERR_OFS.base] ∧
      (s.imgFail err ofs).img.accepted = s.img.accepted ∧ (s.imgFail err ofs).img.inbox = s.img.inbox := by
    intro err ofs
    rw [imgFail_img, imgFail_eq]
    refine ⟨keepsRegs_setImg s (State.keepsRegs_put (State.keepsRegs_put (State.keepsRegs_put (State.keepsRegs_refl _) _ _ _ _ ?_) _ _ _ _ (by decide))
      _ _ _ _ (by decide)) _, rfl, rfl⟩
    rcases errFld_cases (s.get F.IMG_STAT_SRC) with e | e | e <;> rw [e] <;> decide
  unfold State.imgProgress
  split
  · exact failed _ _
  · exact ⟨State.keepsRegs_put (State.keepsRegs_refl _) _ _ _ _ (by decide), rfl, rfl⟩
  · split
    · exact failed _ _
    · exact ⟨State.keepsRegs_refl _, rfl, rfl⟩

/-! ## The end of a command of the loader -/

theorem settled_imgState (b t : State) : (settled b t).imgState = t.imgState := settled_get_free _ _ (by decide) _ _

/-! ## DISCOVER (R457, R544) -/

/-- What the discovery of R457 leaves in MGT_SPI_STAT and MGT_EVT. -/
def State.sfdpShown (s : State) (sfdp : Option Sfdp) : State :=
  match sfdp with
  | some d => ((((s.put F.MGT_SPI_STAT_SFDP_OK 1).put F.MGT_SPI_STAT_BOOT_OP (if d.dual then 0x3B else 0x0B)).put
      F.MGT_SPI_STAT_BOOT_DUMMY d.dummy.toNat).put F.MGT_SPI_STAT_BOOT_ABYTES (if d.four then 1 else 0))
  | none => ((((s.put F.MGT_SPI_STAT_SFDP_OK 0).put F.MGT_SPI_STAT_BOOT_OP 0x03).put F.MGT_SPI_STAT_BOOT_DUMMY 0).put
      F.MGT_SPI_STAT_BOOT_ABYTES 0).evt F.MGT_EVT_SPI_ERR

theorem sfdpShown_shows (sfdp : Option Sfdp) : (s.sfdpShown sfdp).get F.MGT_SPI_STAT_SFDP_OK = (if sfdp.isSome then 1 else 0) ∧
    (sfdp = none → (s.sfdpShown sfdp).bit F.MGT_EVT_SPI_ERR = true ∧ (s.sfdpShown sfdp).get F.MGT_SPI_STAT_BOOT_OP = 3) ∧
    s.keepsRegs (s.sfdpShown sfdp) [R.IMG_STAT.base, R.MGT_SPI_STAT.base, R.MGT_EVT.base] ∧ s.onlyRegs (s.sfdpShown sfdp) := by
  have keep : ∀ a b c d : Nat, s.keepsRegs ((((s.put F.MGT_SPI_STAT_SFDP_OK a).put F.MGT_SPI_STAT_BOOT_OP b).put
      F.MGT_SPI_STAT_BOOT_DUMMY c).put F.MGT_SPI_STAT_BOOT_ABYTES d) [R.IMG_STAT.base, R.MGT_SPI_STAT.base, R.MGT_EVT.base] := fun a b c d =>
    State.keepsRegs_put (State.keepsRegs_put (State.keepsRegs_put (State.keepsRegs_put (State.keepsRegs_refl _) _ _ _ _ (by decide))
      _ _ _ _ (by decide)) _ _ _ _ (by decide)) _ _ _ _ (by decide)
  have only : ∀ a b c d : Nat, s.onlyRegs ((((s.put F.MGT_SPI_STAT_SFDP_OK a).put F.MGT_SPI_STAT_BOOT_OP b).put
      F.MGT_SPI_STAT_BOOT_DUMMY c).put F.MGT_SPI_STAT_BOOT_ABYTES d) := fun a b c d =>
    State.onlyRegs_put (State.onlyRegs_put (State.onlyRegs_put (State.onlyRegs_put State.onlyRegs_refl _ _ _ _) _ _ _ _) _ _ _ _) _ _ _ _
  cases sfdp with
  | some d =>
    refine ⟨?_, nofun, keep _ _ _ _, only _ _ _ _⟩
    simp only [State.sfdpShown]
    rw [State.get_put_beside _ (by decide), State.get_put_beside _ (by decide), State.get_put_beside _ (by decide),
      State.get_put_fits _ (by decide) (by decide)]
    rfl
  | none =>
    simp only [State.sfdpShown]
    refine ⟨?_, fun _ => ⟨State.bit_evt_same _ _ _ _ (by decide) (by decide), ?_⟩, State.keepsRegs_evt (keep _ _ _ _) _ _ _ (by decide),
      State.onlyRegs_evt (only _ _ _ _) _ _ _⟩
    · rw [State.get_evt_free _ (by decide), State.get_put_beside _ (by decide), State.get_put_beside _ (by decide),
        State.get_put_beside _ (by decide), State.get_put_fits _ (by decide) (by decide)]
      rfl
    · rw [State.get_evt_free _ (by decide), State.get_put_beside _ (by decide), State.get_put_beside _ (by decide),
        State.get_put_fits _ (by decide) (by decide)]

variable {s}

theorem imgDiscover_host (sfdp : Option Sfdp) (hs : s.imgState = imgDISCOVER) (he : s.episode = false) (hb : s.bit F.IMG_STAT_BOOT_HOST = true) :
    s.imgDiscover sfdp = s.put F.IMG_STAT_STATE imgWAIT_HOST := by
  unfold State.imgDiscover
  rw [if_neg (by simp [hs, he]), if_pos hb]

theorem imgDiscover_flash (sfdp : Option Sfdp) (hs : s.imgState = imgDISCOVER) (he : s.episode = false)
    (hb : s.bit F.IMG_STAT_BOOT_HOST = false) :
    s.imgDiscover sfdp = ((s.sfdpShown sfdp).put F.IMG_STAT_STATE imgFLASH).put F.IMG_STAT_SRC 1 := by
  unfold State.imgDiscover
  rw [if_neg (by simp [hs, he]), if_neg (by simp [hb])]
  rfl

theorem does_discover_flash (sfdp : Option Sfdp) (hs : s.imgState = imgDISCOVER) (he : s.episode = false)
    (hb : s.bit F.IMG_STAT_BOOT_HOST = false) : Does (.discover sfdp) s fun t => t.imgState = imgFLASH ∧ t.get F.IMG_STAT_SRC = 1 ∧
      t.get F.MGT_SPI_STAT_SFDP_OK = (if sfdp.isSome then 1 else 0) ∧ (sfdp = none → t.bit F.MGT_EVT_SPI_ERR = true ∧
        t.get F.MGT_SPI_STAT_BOOT_OP = 3) ∧ s.keepsRegs t [R.IMG_STAT.base, R.MGT_SPI_STAT.base, R.MGT_EVT.base] ∧ s.onlyRegs t := by
  obtain ⟨ok, failed, keeps, only⟩ := sfdpShown_shows s sfdp
  refine does_of rfl ?_
  rw [imgDiscover_flash sfdp hs he hb]
  refine ⟨?_, ?_, ?_, fun e => ⟨?_, ?_⟩, settled_keeps _ _ _ ?_, settled_onlyRegs ?_⟩
  · rw [settled_imgState]
    exact (State.get_put_beside _ (by decide) ..).trans (State.get_put_fits _ (by decide) (by decide) _ _)
  · rw [settled_get_free _ _ (by decide)]
    exact State.get_put_fits _ (by decide) (by decide) _ _
  · rw [settled_get_free _ _ (by decide), State.get_put_free _ (by decide), State.get_put_free _ (by decide), ok]
  · rw [settled_bit_free _ _ (by decide), State.bit_put_free _ (by decide), State.bit_put_free _ (by decide), (failed e).1]
  · rw [settled_get_free _ _ (by decide), State.get_put_free _ (by decide), State.get_put_free _ (by decide), (failed e).2]
  · exact State.keepsRegs_put (State.keepsRegs_put keeps _ _ _ _ (by decide)) _ _ _ _ (by decide)
  · exact State.onlyRegs_put (State.onlyRegs_put only _ _ _ _) _ _ _ _

/-! ## The end of a flash slot (R546) -/

/-- The state in which the bytes of a slot are judged. -/
def State.slotRead (s : State) (b : List Byte) : State :=
  (s.setImg { s.img with bytes := b.take (max 12 (imgTotal b)) }).put F.IMG_COUNT_BYTES (min b.length (imgTotal b))

theorem flashLoadEnd_fault (hs : s.imgState = imgFLASH) (he : s.episode = false) : s.flashLoadEnd none = s.imgFail 10 0 :=
  if_neg (by simp [hs, he])

theorem flashLoadEnd_read (b : List Byte) (hs : s.imgState = imgFLASH) (he : s.episode = false) :
    s.flashLoadEnd (some b) = (s.slotRead b).imgProgress true := if_neg (by simp [hs, he])

/-- Four bytes that are not the mark of an image are the first failure (R546). -/
theorem imgJudge_mark {b : List Byte} (hb : 4 ≤ b.length) (mark : beAt b 0 4 ≠ 0x58494D47) : s.imgJudge b = .fail 1 3 := by
  have first : (s.headerChecks b).find? (fun c => decide (c.1 < b.length) && c.2.2) = some (3, 1, beAt b 0 4 != 0x58494D47) := by
    rw [State.headerChecks]
    exact List.find?_cons_of_pos (by simp [mark]; omega)
  rw [State.imgJudge, first]

/-- The bytes of a slot that are kept show the same mark. -/
theorem mark_take {b : List Byte} {n : Nat} (hn : 4 ≤ n) : beAt (b.take n) 0 4 = beAt b 0 4 := by
  have bytes : bytesAt (b.take n) 0 4 = bytesAt b 0 4 := List.map_congr_left fun k hk => by
    rw [List.getElem?_take_of_lt (by have := List.mem_range.1 hk; omega)]
  rw [beAt, bytes, beAt]

theorem imgProgress_fail {last : Bool} {err ofs : Nat} (h : s.imgJudge s.img.bytes = .fail err ofs) : s.imgProgress last = s.imgFail err ofs := by
  rw [State.imgProgress, h]

theorem imgProgress_done {last : Bool} {v : State} (h : s.imgJudge s.img.bytes = .done v) : s.imgProgress last = s.put F.IMG_STAT_STATE imgVERIFY := by
  rw [State.imgProgress, h]

theorem src_slotRead (b : List Byte) : (s.slotRead b).get F.IMG_STAT_SRC = s.get F.IMG_STAT_SRC := State.get_put_free _ (by decide) ..

theorem keeps_slotRead (b : List Byte) {l : List Nat} (hl : R.IMG_COUNT.base ∈ l) : s.keepsRegs (s.slotRead b) l := by
  have moved : s.keepsRegs (s.setImg { s.img with bytes := b.take (max 12 (imgTotal b)) }) l := State.keepsRegs_refl _
  exact State.keepsRegs_put moved _ _ _ _ hl

/-- The error of a source, as the statements name the sources. -/
theorem errFld_shows {t : State} {err src : Nat} (h : t.get (errFld src) = err) :
    (src = 1 → t.get F.IMG_STAT_ERR_SLOT0 = err) ∧ (src = 2 → t.get F.IMG_STAT_ERR_SLOT1 = err) ∧ (src = 3 → t.get F.IMG_STAT_ERR_HOST = err) := by
  refine ⟨fun e => ?_, fun e => ?_, fun e => ?_⟩ <;>
  · subst e
    exact h

theorem settled_errFld (b t : State) (src : Nat) : (settled b t).get (errFld src) = t.get (errFld src) := by
  rcases errFld_cases src with e | e | e <;> rw [e] <;> exact settled_get_free _ _ (by decide) _ _

/-- What every failed attempt leaves at the end of its command. -/
theorem settled_imgFail (b : State) {err ofs : Nat} (he : err < 16) : (settled b (s.imgFail err ofs)).imgState = imgCLEAR ∧
    (settled b (s.imgFail err ofs)).get (errFld (s.get F.IMG_STAT_SRC)) = err ∧
    (settled b (s.imgFail err ofs)).get F.IMG_ERR_OFS_OFS = ofs % 2 ^ F.IMG_ERR_OFS_OFS.width ∧
    (settled b (s.imgFail err ofs)).img = { s.img with bytes := [], next := if s.get F.IMG_STAT_SRC = 1 then imgFLASH else imgWAIT_HOST } ∧
    ∀ (l : List Nat), b.keepsRegs s l → R.IMG_STAT.base ∈ l → R.IMG_ERR_OFS.base ∈ l → b.keepsRegs (settled b (s.imgFail err ofs)) l := by
  obtain ⟨state, error, offset, img, keeps⟩ := imgFail_shows s (ofs := ofs) he
  rw [settled_imgState, settled_errFld, settled_get_free _ _ (by decide), settled_img]
  exact ⟨state, error, offset, img, fun l hl stat ofs => settled_keeps _ _ _
    (State.keepsRegs_trans hl (keepsRegs_subset keeps (by simp [stat, ofs])))⟩

theorem does_flashLoadEnd_fault (hs : s.imgState = imgFLASH) (he : s.episode = false) : Does (.flashLoadEnd none) s fun t =>
    t.imgState = imgCLEAR ∧ t.img = { s.img with bytes := [], next := if s.get F.IMG_STAT_SRC = 1 then imgFLASH else imgWAIT_HOST } ∧
      (s.get F.IMG_STAT_SRC = 1 → t.get F.IMG_STAT_ERR_SLOT0 = 10) ∧ (s.get F.IMG_STAT_SRC = 2 → t.get F.IMG_STAT_ERR_SLOT1 = 10) ∧
      s.keepsRegs t [R.IMG_STAT.base, R.IMG_ERR_OFS.base] := by
  refine does_of rfl ?_
  rw [flashLoadEnd_fault hs he]
  obtain ⟨state, error, -, img, keeps⟩ := settled_imgFail (s := s) s (err := 10) (ofs := 0) (by decide)
  obtain ⟨slot0, slot1, -⟩ := errFld_shows error
  exact ⟨state, img, slot0, slot1, keeps _ (State.keepsRegs_refl _) (by decide) (by decide)⟩

theorem does_flashLoadEnd_mark (hs : s.imgState = imgFLASH) (he : s.episode = false) {b : List Byte} (hb : 4 ≤ b.length)
    (mark : beAt b 0 4 ≠ 0x58494D47) : Does (.flashLoadEnd (some b)) s fun t => t.imgState = imgCLEAR ∧
      (s.get F.IMG_STAT_SRC = 1 → t.get F.IMG_STAT_ERR_SLOT0 = 1) ∧ (s.get F.IMG_STAT_SRC = 2 → t.get F.IMG_STAT_ERR_SLOT1 = 1) ∧
      t.get F.IMG_ERR_OFS_OFS = 3 ∧ s.keepsRegs t [R.IMG_STAT.base, R.IMG_ERR_OFS.base, R.IMG_COUNT.base] := by
  have judged : (s.slotRead b).imgJudge (s.slotRead b).img.bytes = .fail 1 3 :=
    imgJudge_mark (b := b.take (max 12 (imgTotal b))) (by rw [List.length_take]; omega) (by rwa [mark_take (by omega)])
  refine does_of rfl ?_
  rw [flashLoadEnd_read b hs he, imgProgress_fail judged]
  obtain ⟨state, error, offset, -, keeps⟩ := settled_imgFail (s := s.slotRead b) s (err := 1) (ofs := 3) (by decide)
  rw [src_slotRead] at error
  obtain ⟨slot0, slot1, -⟩ := errFld_shows error
  exact ⟨state, slot0, slot1, offset, keeps _ (keeps_slotRead b (by decide)) (by decide) (by decide)⟩

theorem does_flashLoadEnd_done (hs : s.imgState = imgFLASH) (he : s.episode = false) {b : List Byte} {v : State}
    (hv : (s.slotRead b).imgJudge (s.slotRead b).img.bytes = .done v) : Does (.flashLoadEnd (some b)) s fun t =>
      t.imgState = imgVERIFY ∧ s.keepsRegs t [R.IMG_STAT.base, R.IMG_COUNT.base] ∧ t.img = (s.slotRead b).img := by
  refine does_of rfl ?_
  rw [flashLoadEnd_read b hs he, imgProgress_done hv, settled_imgState, settled_img]
  exact ⟨State.get_put_fits _ (by decide) (by decide) _ _,
    settled_keeps _ _ _ (State.keepsRegs_put (keeps_slotRead b (by decide)) _ _ _ _ (by decide)), State.put_img ..⟩

/-! ## A host's load (R545, R554) -/

variable {h : HostId}

theorem regWrite_imgCtrl (host : Nat) {op : Nat} (hop : op < 4) : s.regWrite host R.IMG_CTRL 0 0 15 (keyWord op) = ([], s.imgCtrl host 0x5A op) := by
  have write : s.regWrite host R.IMG_CTRL 0 0 15 (keyWord op) = ([], s.imgCtrl host (keyOf (keyWord op)) (getBits (keyWord op) 1 0)) := rfl
  rw [write, keyOf_keyWord (by omega), low_keyWord (by decide) (by omega)]

theorem imgCtrl_load (s : State) (host : Nat) : s.imgCtrl host 0x5A 1 = s.hostLoad host := rfl

theorem imgCtrl_abort (s : State) (host : Nat) : s.imgCtrl host 0x5A 2 = s.imgAbort host := rfl

/-- HOST begins with no byte. -/
def State.hostBegun (s : State) (host : Nat) : State :=
  ((((s.put F.IMG_STAT_STATE imgHOST).put F.IMG_STAT_HOST host).put F.IMG_STAT_SRC 3).put F.IMG_COUNT_BYTES 0).setImg
    { s.img with bytes := [], lastByte := s.inv.ticks }

theorem does_hostLoad (ho : s.opens h R.IMG_CTRL 0 0 = true) (hs : s.imgState = imgWAIT_HOST) (hf : s.bit F.IMG_FUSE_STAT_BUSY = false) :
    Does (.hostLoad h) s fun t => t.imgState = imgHOST ∧
      t.get F.IMG_STAT_HOST = hostNum h ∧ t.get F.IMG_STAT_SRC = 3 ∧ t.get F.IMG_COUNT_BYTES = 0 ∧
      t.img = { s.img with bytes := [], lastByte := s.inv.ticks } ∧ s.keepsRegs t [R.IMG_STAT.base, R.IMG_COUNT.base] := by
  have begun : s.imgCtrl (hostNum h) 0x5A 1 = s.hostBegun (hostNum h) := (imgCtrl_load ..).trans (if_pos ⟨hs, hf⟩)
  refine does_rowWrite_own rfl ho (by decide) ((regWrite_imgCtrl _ (by decide)).trans (by rw [begun])) ?_
  unfold State.hostBegun
  rw [settled_imgState, settled_img, State.imgState, settled_get_free _ _ (by decide), settled_get_free _ _ (by decide),
    settled_get_free _ _ (by decide), get_setImg, get_setImg, get_setImg, get_setImg, img_setImg]
  refine ⟨?_, ?_, ?_, State.get_put_fits _ (by decide) (by decide) _ _, rfl, settled_keeps _ _ _ (keepsRegs_setImg s ?_ _)⟩
  · rw [State.get_put_free _ (by decide), State.get_put_beside _ (by decide), State.get_put_beside _ (by decide),
      State.get_put_fits _ (by decide) (by decide)]
  · rw [State.get_put_free _ (by decide), State.get_put_beside _ (by decide), State.get_put_fits _ (by decide) (hostNum_lt h)]
  · rw [State.get_put_free _ (by decide), State.get_put_fits _ (by decide) (by decide)]
  · exact State.keepsRegs_put (State.keepsRegs_put (State.keepsRegs_put (State.keepsRegs_put (State.keepsRegs_refl _) _ _ _ _ (by decide))
      _ _ _ _ (by decide)) _ _ _ _ (by decide)) _ _ _ _ (by decide)

theorem does_abort_owner (ho : s.opens h R.IMG_CTRL 0 0 = true) (hs : s.imgState = imgHOST) (own : s.get F.IMG_STAT_HOST = hostNum h)
    (src : s.get F.IMG_STAT_SRC = 3) : Does (.abort h) s fun t =>
      t.imgState = imgCLEAR ∧ t.get F.IMG_STAT_ERR_HOST = 11 ∧ t.img = { s.img with bytes := [], next := imgWAIT_HOST } ∧
      s.keepsRegs t [R.IMG_STAT.base, R.IMG_ERR_OFS.base] := by
  have aborted : s.imgCtrl (hostNum h) 0x5A 2 = s.imgFail 11 s.img.bytes.length := (imgCtrl_abort ..).trans (if_pos ⟨Or.inl hs, own⟩)
  refine does_rowWrite_own rfl ho (by decide) ((regWrite_imgCtrl _ (by decide)).trans (by rw [aborted])) ?_
  obtain ⟨state, error, -, img, keeps⟩ := settled_imgFail (s := s) s (err := 11) (ofs := s.img.bytes.length) (by decide)
  rw [src, if_neg (by decide)] at img
  exact ⟨state, (errFld_shows error).2.2 src, img, keeps _ (State.keepsRegs_refl _) (by decide) (by decide)⟩

theorem does_abort_other (ho : s.opens h R.IMG_CTRL 0 0 = true) (other : s.get F.IMG_STAT_HOST ≠ hostNum h) :
    Does (.abort h) s fun t => t = settled s s := by
  have ignored : s.imgCtrl (hostNum h) 0x5A 2 = s := (imgCtrl_abort ..).trans (if_neg fun e => other e.2)
  exact does_rowWrite_own rfl ho (by decide) ((regWrite_imgCtrl _ (by decide)).trans (by rw [ignored])) rfl

theorem does_hostLoadTimeout (hs : s.imgState = imgHOST) (src : s.get F.IMG_STAT_SRC = 3) (late : s.img.lastByte + 500000000 ≤ s.inv.ticks) :
    Does .hostLoadTimeout s fun t => t.imgState = imgCLEAR ∧ t.get F.IMG_STAT_ERR_HOST = 10 ∧
      t.img = { s.img with bytes := [], next := imgWAIT_HOST } ∧ s.keepsRegs t [R.IMG_STAT.base, R.IMG_ERR_OFS.base] := by
  have failed : s.hostLoadTimeout = s.imgFail 10 s.img.bytes.length := if_pos ⟨hs, late⟩
  refine does_of rfl ?_
  rw [failed]
  obtain ⟨state, error, -, img, keeps⟩ := settled_imgFail (s := s) s (err := 10) (ofs := s.img.bytes.length) (by decide)
  rw [src, if_neg (by decide)] at img
  exact ⟨state, (errFld_shows error).2.2 src, img, keeps _ (State.keepsRegs_refl _) (by decide) (by decide)⟩

/-! ## The bytes of SPACE 2 (R545) -/

variable {k : Nat} {b : List Byte} {l : List (Nat × List Byte)}

theorem imageBytes_discarded (hi : s.img.inbox = (k, b) :: l) (other : s.imgState ≠ imgHOST ∨ s.get F.IMG_STAT_HOST ≠ k) :
    s.imageBytes = (s.setImg { s.img with inbox := l }).evtIf (!b.isEmpty) F.IMG_EVT_DISCARD := by
  unfold State.imageBytes
  rw [hi]
  exact if_pos other

/-- The state in which the bytes that a host has written are judged, where none of them is beyond the image. -/
def State.bytesTaken (s : State) (b : List Byte) (l : List (Nat × List Byte)) : State :=
  (s.setImg { s.img with inbox := l, bytes := s.img.bytes ++ b, accepted := s.img.accepted + b.length,
                         lastByte := if b.length = 0 then s.img.lastByte else s.inv.ticks }).put F.IMG_COUNT_BYTES (s.img.bytes ++ b).length

theorem imageBytes_taken (hi : s.img.inbox = (k, b) :: l) (hs : s.imgState = imgHOST) (own : s.get F.IMG_STAT_HOST = k)
    (fits : (s.img.bytes ++ b).length < 12 ∨ (s.img.bytes ++ b).length ≤ imgTotal (s.img.bytes ++ b)) :
    s.imageBytes = (s.bytesTaken b l).imgProgress false := by
  have kept : (if (s.img.bytes ++ b).length < 12 then s.img.bytes ++ b else (s.img.bytes ++ b).take (max 12 (imgTotal (s.img.bytes ++ b)))) =
      s.img.bytes ++ b := by
    split
    · rfl
    · exact List.take_of_length_le (by omega)
  have count : (s.img.bytes ++ b).length - s.img.bytes.length = b.length := by
    rw [List.length_append]
    omega
  unfold State.imageBytes
  rw [hi]
  dsimp only
  rw [if_neg (by simpa [State.imgState, get_setImg] using And.intro hs own)]
  rw [img_setImg, kept, count, show decide (b.length < b.length) = false by simp]
  rfl

theorem does_imageBytes_discarded (hi : s.img.inbox = (k, b) :: l) (other : s.imgState ≠ imgHOST ∨ s.get F.IMG_STAT_HOST ≠ k) :
    Does .imageBytes s fun t => t.img = { s.img with inbox := l } ∧ (b ≠ [] → t.bit F.IMG_EVT_DISCARD = true) ∧
      s.keepsRegs t [R.IMG_EVT.base] := by
  refine does_of rfl ?_
  rw [imageBytes_discarded hi other, settled_img, State.evtIf_img, img_setImg]
  refine ⟨rfl, fun hb => ?_, settled_keeps _ _ _ (State.keepsRegs_evtIf (keepsRegs_setImg s (State.keepsRegs_refl _) _) _ _ _ _ (by decide))⟩
  rw [settled_bit_free _ _ (by decide), State.bit_evtIf_same _ _ _ _ _ (by decide) (by decide)]
  simp [hb]

theorem does_imageBytes_taken (hi : s.img.inbox = (k, b) :: l) (hs : s.imgState = imgHOST) (own : s.get F.IMG_STAT_HOST = k)
    (size : (s.img.bytes ++ b).length ≤ 8388608)
    (fits : (s.img.bytes ++ b).length < 12 ∨ (s.img.bytes ++ b).length ≤ imgTotal (s.img.bytes ++ b)) : Does .imageBytes s fun t =>
      t.get F.IMG_COUNT_BYTES = (s.img.bytes ++ b).length ∧ t.img.accepted = s.img.accepted + b.length ∧ t.img.inbox = l ∧
      s.keepsRegs t [R.IMG_COUNT.base, R.IMG_STAT.base, R.IMG_ERR_OFS.base] := by
  refine does_of rfl ?_
  obtain ⟨keeps, accepted, inbox⟩ := imgProgress_keeps (s.bytesTaken b l) false
  rw [imageBytes_taken hi hs own fits, settled_img]
  refine ⟨?_, accepted, inbox, settled_keeps _ _ _ ?_⟩
  · have counted : (s.bytesTaken b l).get F.IMG_COUNT_BYTES = (s.img.bytes ++ b).length :=
      State.get_put_fits _ (by decide) (lt_of_le_of_lt size (by decide)) _ _
    rw [settled_get_free _ _ (by decide), ← counted, State.get, State.get, keeps _ _ _ (by decide)]
  · have moved : s.keepsRegs (s.bytesTaken b l) [R.IMG_COUNT.base, R.IMG_STAT.base, R.IMG_ERR_OFS.base] :=
      State.keepsRegs_put (keepsRegs_setImg s (State.keepsRegs_refl _) _) _ _ _ _ (by decide)
    exact State.keepsRegs_trans moved fun q i j hq => keeps q i j fun hm => hq (List.mem_cons_of_mem _ hm)

/-! ## VERIFY, CLEAR and RELEASE (R543, R544) -/

theorem does_verifyEnd (hs : s.imgState = imgVERIFY) (he : s.episode = false) :
    Does .verifyEnd s fun t => t.imgState = (if sigValid s.img.bytes then imgRELEASE else imgCLEAR) ∧
      s.keepsRegs t [R.IMG_STAT.base, R.IMG_ERR_OFS.base] ∧
      (sigValid s.img.bytes = true → s.keepsRegs t [R.IMG_STAT.base] ∧ s.onlyRegs t) ∧
      (sigValid s.img.bytes = false → (s.get F.IMG_STAT_SRC = 1 → t.get F.IMG_STAT_ERR_SLOT0 = 9) ∧
        (s.get F.IMG_STAT_SRC = 2 → t.get F.IMG_STAT_ERR_SLOT1 = 9) ∧ (s.get F.IMG_STAT_SRC = 3 → t.get F.IMG_STAT_ERR_HOST = 9)) := by
  have judged : s.verifyEnd = if sigValid s.img.bytes then s.put F.IMG_STAT_STATE imgRELEASE else s.imgFail 9 (imgTotal s.img.bytes - 1) :=
    if_neg (by simp [hs, he])
  refine does_of rfl ?_
  rw [judged]
  cases sigValid s.img.bytes with
  | true =>
    refine ⟨?_, settled_keeps _ _ _ (State.keepsRegs_put (State.keepsRegs_refl _) _ _ _ _ (by decide)),
      fun _ => ⟨settled_keeps _ _ _ (State.keepsRegs_put (State.keepsRegs_refl _) _ _ _ _ (by decide)),
        settled_onlyRegs (State.onlyRegs_put State.onlyRegs_refl _ _ _ _)⟩, nofun⟩
    rw [settled_imgState]
    exact State.get_put_fits _ (by decide) (by decide) _ _
  | false =>
    obtain ⟨state, error, -, -, keeps⟩ := settled_imgFail (s := s) s (err := 9) (ofs := imgTotal s.img.bytes - 1) (by decide)
    exact ⟨state, keeps _ (State.keepsRegs_refl _) (by decide) (by decide), nofun, fun _ => errFld_shows error⟩

theorem does_clearEnd (hs : s.imgState = imgCLEAR) (he : s.episode = false) (next : s.img.next ∈ [imgFLASH, imgWAIT_HOST]) :
    Does .clearEnd s fun t => t.imgState = s.img.next ∧ t.bit F.IMG_EVT_LOAD_FAIL = true ∧
      s.keepsRegs t [R.IMG_STAT.base, R.IMG_EVT.base] ∧ s.onlyRegs t := by
  have cleared : s.clearEnd =
      ((s.put F.IMG_STAT_STATE s.img.next).put F.IMG_STAT_SRC (if s.img.next = imgFLASH then 2 else 0)).evt F.IMG_EVT_LOAD_FAIL :=
    if_neg (by simp [hs, he])
  have small : s.img.next < 2 ^ F.IMG_STAT_STATE.width := by
    simp only [List.mem_cons, List.not_mem_nil, or_false] at next
    rcases next with e | e <;> rw [e] <;> decide
  refine does_of rfl ?_
  rw [cleared]
  refine ⟨?_, ?_, settled_keeps _ _ _ (State.keepsRegs_evt (State.keepsRegs_put (State.keepsRegs_put (State.keepsRegs_refl _) _ _ _ _ (by decide))
    _ _ _ _ (by decide)) _ _ _ (by decide)), settled_onlyRegs (State.onlyRegs_evt (State.onlyRegs_put (State.onlyRegs_put State.onlyRegs_refl
      _ _ _ _) _ _ _ _) _ _ _)⟩
  · rw [settled_imgState, State.imgState, State.get_evt_free _ (by decide), State.get_put_beside _ (by decide),
      State.get_put_fits _ (by decide) small]
  · rw [settled_bit_free _ _ (by decide)]
    exact State.bit_evt_same _ _ _ _ (by decide) (by decide)

theorem initialMode_img (s : State) : s.initialMode.img = s.img := by
  have refused : ∀ r, (s.modeRefuse r).img = s.img := fun r => State.evt_img ..
  unfold State.initialMode
  dsimp only
  split
  · rfl
  split
  · exact refused _
  split
  · exact refused _
  · rfl

/-- The digest of an image is shown in registers of its own. -/
theorem digest_reg (s : State) (d : Nat) {q : RegSpec} (h : free q R.IMG_DIGEST = true) (i j : Nat) :
    ((List.range 12).foldl (fun s k => s.put F.IMG_DIGEST_DIGEST (d >>> (32 * (11 - k))) k) s).reg q i j = s.reg q i j :=
  List.foldlRecOn (motive := fun t : State => t.reg q i j = s.reg q i j) _ _ rfl fun t ht _ _ =>
    (State.reg_put_free (f := F.IMG_DIGEST_DIGEST) t h ..).trans ht

/-- The registers that show an image which is in force (R556). -/
theorem imgIdentity_shows (u : State) (b : List Byte) :
    (u.imgIdentity b).reg R.IMG_VER = BitVec.ofNat 32 (beAt b 0x10 4) ∧
    (u.imgIdentity b).get F.IMG_LEN_LEN = imgTotal b % 2 ^ F.IMG_LEN_LEN.width ∧
    (u.imgIdentity b).get F.IMG_INFO_NSECT = imgNsect b % 2 ^ F.IMG_INFO_NSECT.width := by
  unfold State.imgIdentity
  dsimp only
  refine ⟨?_, ?_, ?_⟩
  · rw [State.reg_put_free (f := F.TIN_UCODE_CRC_CRC) _ (by decide), State.reg_put_free (f := F.IMG_STAT_OPEN) _ (by decide),
      digest_reg _ _ (by decide), State.reg_put_free (f := F.IMG_INFO_NSECT) _ (by decide), State.reg_put_free (f := F.IMG_INFO_KEY_IDX) _ (by decide),
      State.reg_put_free (f := F.IMG_INFO_ALLOW_PATCH) _ (by decide), State.reg_put_free (f := F.IMG_INFO_FORERUNNER) _ (by decide),
      State.reg_put_free (f := F.IMG_LEN_LEN) _ (by decide), State.reg_put_free (f := F.IMG_SVN_SVN) _ (by decide), State.reg_setReg_same]
  · rw [State.get_put_free _ (by decide), State.get_put_free _ (by decide), State.get, digest_reg _ _ (by decide), ← State.get,
      State.get_put_free _ (by decide), State.get_put_free _ (by decide), State.get_put_free _ (by decide), State.get_put_free _ (by decide),
      State.get_put_same _ _ _ _ _ (by decide)]
  · rw [State.get_put_free _ (by decide), State.get_put_free _ (by decide), State.get, digest_reg _ _ (by decide), ← State.get,
      State.get_put_same _ _ _ _ _ (by decide)]

/-- The state that RELEASE leaves, from the state `u` in which an image's values have taken effect. -/
def State.imgReleased (u : State) (b : List Byte) : State :=
  ((((u.imgIdentity b).setImg { (u.imgIdentity b).img with bytes := [] }).put F.IMG_STAT_STATE imgDONE).evt F.IMG_EVT_LOAD_DONE).initialMode

theorem releaseEnd_eq (hs : s.imgState = imgRELEASE) (he : s.episode = false) : ∃ u : State, s.releaseEnd = u.imgReleased s.img.bytes := by
  unfold State.releaseEnd
  rw [if_neg (by simp [hs, he])]
  exact ⟨_, rfl⟩

theorem imgReleased_img (u : State) (b : List Byte) : (u.imgReleased b).img.bytes = [] := by
  rw [State.imgReleased, initialMode_img, State.evt_img, State.put_img, img_setImg]

theorem imgReleased_reg (u : State) (b : List Byte) {q : RegSpec} (mode : free q R.GLB_MODE = true) (stat : free q R.GLB_MODE_STAT = true)
    (event : free q R.IMG_EVT = true) (state : free q R.IMG_STAT = true) : (u.imgReleased b).reg q = (u.imgIdentity b).reg q := by
  rw [State.imgReleased, initialMode_reg mode stat, State.reg_evt_free (f := F.IMG_EVT_LOAD_DONE) _ event,
    State.reg_put_free (f := F.IMG_STAT_STATE) _ state, reg_setImg]

theorem does_releaseEnd (hs : s.imgState = imgRELEASE) (he : s.episode = false) : Does .releaseEnd s fun t => t.imgState = imgDONE ∧
    t.bit F.IMG_EVT_LOAD_DONE = true ∧ t.img.bytes = [] ∧ t.reg R.IMG_VER = BitVec.ofNat 32 (beAt s.img.bytes 0x10 4) ∧
    t.get F.IMG_LEN_LEN = imgTotal s.img.bytes % 2 ^ F.IMG_LEN_LEN.width ∧
    t.get F.IMG_INFO_NSECT = imgNsect s.img.bytes % 2 ^ F.IMG_INFO_NSECT.width := by
  obtain ⟨u, e⟩ := releaseEnd_eq hs he
  obtain ⟨ver, len, nsect⟩ := imgIdentity_shows u s.img.bytes
  refine does_of rfl ?_
  rw [e, settled_imgState, settled_img, imgReleased_img, settled_bit_free _ _ (by decide), settled_reg_free _ _ (by decide),
    settled_get_free _ _ (by decide), settled_get_free _ _ (by decide)]
  refine ⟨?_, ?_, rfl, ?_, ?_, ?_⟩
  · rw [State.imgState, State.get, State.imgReleased, initialMode_reg (by decide) (by decide), ← State.get, State.get_evt_free _ (by decide),
      State.get_put_fits _ (by decide) (by decide)]
  · rw [State.bit, State.get, State.imgReleased, initialMode_reg (by decide) (by decide), ← State.get, ← State.bit]
    exact State.bit_evt_same _ _ _ _ (by decide) (by decide)
  · rw [imgReleased_reg u _ (by decide) (by decide) (by decide) (by decide), ver]
  · rw [State.get, imgReleased_reg u _ (by decide) (by decide) (by decide) (by decide), ← State.get, len]
  · rw [State.get, imgReleased_reg u _ (by decide) (by decide) (by decide) (by decide), ← State.get, nsect]

end

/-- Settles O53: each move of the loader from the state it starts in; what an image makes of the tables does not reach the registers that
identify it. -/
theorem imageLoading : Obligations.ImageLoading := by
  refine ⟨fun s sfdp hs he => ⟨fun hb => ?_, fun hb => does_discover_flash sfdp hs he hb⟩,
    fun s hs he => ⟨does_flashLoadEnd_fault hs he, fun b hb mark => does_flashLoadEnd_mark hs he hb mark,
      fun b u v hu hv => by subst hu; exact does_flashLoadEnd_done hs he hv⟩,
    fun s h ho => ⟨fun hs hf => does_hostLoad ho hs hf, fun hs own src => does_abort_owner ho hs own src,
      fun _ other => does_abort_other ho other⟩,
    fun s k b l hi => ⟨fun other => does_imageBytes_discarded hi other, fun hs own size fits => does_imageBytes_taken hi hs own size fits⟩,
    fun s hs src late => does_hostLoadTimeout hs src late, fun s hs he => does_verifyEnd hs he,
    fun s hs he next => does_clearEnd hs he next, fun s hs he => does_releaseEnd hs he⟩
  refine does_of rfl ?_
  rw [imgDiscover_host sfdp hs he hb]
  refine ⟨(settled_imgState ..).trans (State.get_put_fits _ (by decide) (by decide) _ _),
    settled_keeps _ _ _ (State.keepsRegs_put (State.keepsRegs_refl _) _ _ _ _ (by decide)),
    settled_onlyRegs (State.onlyRegs_put State.onlyRegs_refl _ _ _ _)⟩

end Sys2Proof.Machine
end

section
set_option Elab.async false
/-! PROOFS. What a change of role leaves: a list of fields that an operation keeps, and the operations of the twin controller as they act on the
fields that show the role (14_twin_lockstep.md R398, R418 to R421). -/

namespace Sys2Proof.Machine

variable {s t u : State} {l : List Fld}

/-! ## Fields that an operation keeps -/

/-- From `s` to `t` every field of a list reads as it did. -/
def Kept (l : List Fld) (s t : State) : Prop := ∀ f ∈ l, t.get f = s.get f

/-- The fields of a list stand in other registers than `g`, or beside it in its own. -/
def asideOf (g : Fld) (l : List Fld) : Bool := l.all fun f => free f.reg g.reg || besideFld g f

/-- The fields of a list are other events than `g`, or stand in other registers. -/
def asideOfEvt (g : Fld) (l : List Fld) : Bool := l.all fun f => free f.reg g.reg || (besideFld g f && decide (g.hi < 24) && decide (f.hi < 24))

/-- The fields of a list stand in other registers than `r`. -/
def offReg (r : RegSpec) (l : List Fld) : Bool := l.all fun f => free f.reg r

namespace Kept

theorem refl (l : List Fld) (s : State) : Kept l s s := fun _ _ => rfl

theorem trans (h : Kept l s t) (k : Kept l t u) : Kept l s u := fun f hf => (k f hf).trans (h f hf)

theorem get (h : Kept l s t) {f : Fld} (hf : f ∈ l) : t.get f = s.get f := h f hf

theorem bit (h : Kept l s t) {f : Fld} (hf : f ∈ l) : t.bit f = s.bit f := by rw [State.bit, State.bit, h f hf]

theorem subset {m : List Fld} (h : Kept l s t) (sub : ∀ f ∈ m, f ∈ l) : Kept m s t := fun f hf => h f (sub f hf)

theorem of_regs (h : Kept l s t) (hr : u.regs = t.regs) : Kept l s u := fun f hf => (State.get_of_regs hr f 0 0).trans (h f hf)

theorem put (h : Kept l s t) {g : Fld} (hg : asideOf g l = true) (v : Nat) : Kept l s (t.put g v) := fun f hf => by
  have aside := List.all_eq_true.1 hg f hf
  rw [Bool.or_eq_true] at aside
  rcases aside with apart | beside
  · exact (State.get_put_free (f := g) t apart ..).trans (h f hf)
  · exact (State.get_put_beside t beside ..).trans (h f hf)

theorem evt (h : Kept l s t) {g : Fld} (hg : asideOfEvt g l = true) : Kept l s (t.evt g) := fun f hf => by
  have aside := List.all_eq_true.1 hg f hf
  simp only [Bool.or_eq_true, Bool.and_eq_true, decide_eq_true_eq] at aside
  rcases aside with apart | ⟨⟨beside, hi⟩, hj⟩
  · exact (State.get_evt_free (f := g) t apart ..).trans (h f hf)
  · exact (State.get_evt_beside t beside hi hj ..).trans (h f hf)

theorem setReg (h : Kept l s t) {r : RegSpec} (hr : offReg r l = true) (v : Word) (i j : Nat) : Kept l s (t.setReg r v i j) := fun f hf =>
  (State.get_setReg_free t (List.all_eq_true.1 hr f hf) ..).trans (h f hf)

theorem putAt (h : Kept l s t) {g : Fld} (hg : offReg g.reg l = true) (v i j : Nat) : Kept l s (t.put g v i j) := fun f hf =>
  (State.get_put_free (f := g) t (List.all_eq_true.1 hg f hf) ..).trans (h f hf)

theorem evtAt (h : Kept l s t) {g : Fld} (hg : offReg g.reg l = true) (i j : Nat) : Kept l s (t.evt g i j) := fun f hf =>
  (State.get_evt_free (f := g) t (List.all_eq_true.1 hg f hf) ..).trans (h f hf)

theorem ite {c : Prop} [Decidable c] (h : Kept l s t) (k : Kept l s u) : Kept l s (if c then t else u) := by
  split
  · exact h
  · exact k

theorem foldl {α : Type} {f : State → α → State} (h : Kept l s t) (m : List α) (hf : ∀ v a, Kept l v (f v a)) : Kept l s (m.foldl f t) :=
  List.foldlRecOn m f h fun _ hv a _ => hv.trans (hf _ a)

end Kept

/-! ## A change of role (R398) -/

/-- The fields that the operations on a role are told by: of the roles themselves, their cause, their control and their events. -/
def twnFields : List Fld :=
  [F.TWN_STAT_LINK, F.TWN_STAT_PEER_ROLE, F.TWN_CAUSE_CAUSE, F.TWN_CAUSE_PEER, F.TWN_CTRL_EN, F.TWN_CTRL_SIDE, F.TWN_CTRL_FENCE_EN,
    F.TWN_EVT_JOINED, F.TWN_EVT_DUAL, F.TWN_EVT_CFG_ERR, F.TWN_EVT_DIVERGED, F.TWN_EVT_PROMOTED, F.TWN_EVT_PEER_LOST]

/-- The same with the role and the event of its change. -/
def roleFields : List Fld := F.TWN_STAT_ROLE :: F.TWN_EVT_ROLE_CHG :: twnFields

theorem Kept.role (h : Kept roleFields s t) : t.role = s.role := h.get (by decide)

/-- A staged entry goes: EPOCH_STAT shows one fewer, and the tables change. -/
theorem unstage_eq (s : State) (table index : Nat) : ∃ n k, s.unstage table index = { s.put F.EPOCH_STAT_STAGED n with lkp := k } := by
  unfold State.unstage
  obtain ⟨k, e⟩ := State.setSlot_lkp _ table index _
  exact ⟨_, _, e⟩

theorem Kept.unstage (table index : Nat) (s : State) : Kept roleFields s (s.unstage table index) := by
  obtain ⟨n, k, e⟩ := unstage_eq s table index
  have put : Kept roleFields s (s.put F.EPOCH_STAT_STAGED n) := (Kept.refl _ _).put (by decide) _
  rw [e]
  exact put.of_regs rfl

theorem Kept.epochState (s : State) (st : Nat) : Kept roleFields s (s.epochState st) := ((Kept.refl _ _).put (by decide) _).put (by decide) _

theorem Kept.epochRole (s : State) : Kept roleFields s s.epochRole := by
  unfold State.epochRole
  dsimp only
  exact Kept.ite (Kept.ite ((Kept.foldl (Kept.refl _ _) _ fun v e => Kept.unstage _ _ v).trans (Kept.epochState _ _)) (Kept.epochState _ _))
    (Kept.ite (Kept.ite (Kept.epochState _ _) (Kept.epochState _ _)) (Kept.epochState _ _))

/-- Beside registers and the tables' state, the commit machine's part in a change of role changes nothing. -/
theorem epochRole_rest (s : State) : s.epochRole.twn = s.twn ∧ s.epochRole.rst = s.rst ∧ s.epochRole.inv = s.inv ∧
    ∀ q i j, q.off i j < 0x40000 → s.epochRole.reg q i j = s.reg q i j := by
  have state : ∀ (v : State) st, (v.epochState st).twn = v.twn ∧ (v.epochState st).rst = v.rst := fun _ _ => ⟨rfl, rfl⟩
  have unstaged : ∀ (m : List Staged), (m.foldl (fun s e => s.unstage e.table e.index) s).twn = s.twn ∧
      (m.foldl (fun s e => s.unstage e.table e.index) s).rst = s.rst ∧ Low s (m.foldl (fun s e => s.unstage e.table e.index) s) := by
    refine fun m => List.foldlRecOn (motive := fun v : State => v.twn = s.twn ∧ v.rst = s.rst ∧ Low s v) _ _ ⟨rfl, rfl, Low.refl s⟩ ?_
    rintro v ⟨twn, rst, low⟩ x -
    obtain ⟨n, k, e⟩ := unstage_eq v x.table x.index
    rw [e]
    exact ⟨twn, rst, (low.put (f := F.EPOCH_STAT_STAGED) (v := n)).same⟩
  have low : Low s s.epochRole := by
    unfold State.epochRole
    dsimp only
    exact Low.ite (Low.ite ((unstaged _).2.2.trans (Low.epochState _ _)) (Low.epochState _ _))
      (Low.ite (Low.ite (Low.epochState _ _) (Low.epochState _ _)) (Low.epochState _ _))
  have rest : s.epochRole.twn = s.twn ∧ s.epochRole.rst = s.rst := by
    unfold State.epochRole
    dsimp only
    split
    · split
      · exact ⟨(state _ _).1.trans (unstaged _).1, (state _ _).2.trans (unstaged _).2.1⟩
      · exact state _ _
    · split
      · split <;> exact state _ _
      · exact state _ _
  exact ⟨rest.1, rest.2, low.inv, low.regs⟩

/-- The timed pins may be driven again or held from driving: no register and no state of the twin controller or of the resets changes. -/
structure PinsOnly (s t : State) : Prop where
  regs : t.regs = s.regs
  twn : t.twn = s.twn
  rst : t.rst = s.rst
  ticks : t.inv.ticks = s.inv.ticks

theorem PinsOnly.refl (s : State) : PinsOnly s s := ⟨rfl, rfl, rfl, rfl⟩

theorem PinsOnly.trans (h : PinsOnly s t) (k : PinsOnly t u) : PinsOnly s u :=
  ⟨k.regs.trans h.regs, k.twn.trans h.twn, k.rst.trans h.rst, k.ticks.trans h.ticks⟩

theorem PinsOnly.tioShow (s : State) (i : Nat) : PinsOnly s (s.tioShow i) := by
  unfold State.tioShow
  split
  · exact PinsOnly.refl s
  · split
    · exact PinsOnly.refl s
    · exact ⟨rfl, rfl, rfl, rfl⟩

theorem PinsOnly.tioUnfence (s : State) : PinsOnly s s.tioUnfence := by
  unfold State.tioUnfence
  split
  · exact List.foldlRecOn (motive := fun v : State => PinsOnly s v) _ _ ⟨rfl, rfl, rfl, rfl⟩ fun v h i _ => h.trans (PinsOnly.tioShow v i)
  · exact PinsOnly.refl s

theorem PinsOnly.tioFence (s : State) : PinsOnly s s.tioFence := ⟨rfl, rfl, rfl, rfl⟩

theorem PinsOnly.tioHold (s : State) : PinsOnly s s.tioHold := by
  unfold State.tioHold
  refine List.foldlRecOn (motive := fun v : State => PinsOnly s v) _ _ (PinsOnly.refl s) fun v h i _ => h.trans ?_
  split
  · exact ⟨rfl, rfl, rfl, rfl⟩
  · exact PinsOnly.refl v

/-- From `s` to `t` the role has become `r`: what else shows a twin's state stays, and so do the registers of GLB, RST, MGT and INV. -/
structure RoleSet (s t : State) (r : Nat) : Prop where
  role : t.role = r
  changed : s.role ≠ r → t.bit F.TWN_EVT_ROLE_CHG = true
  kept : Kept twnFields s t
  twn : t.twn = s.twn
  rst : t.rst = s.rst
  ticks : t.inv.ticks = s.inv.ticks
  low : ∀ q i j, q.off i j < 0x40000 → t.reg q i j = s.reg q i j

/-- The pins as the role that is entered drives them (R405). -/
def State.rolePins (s : State) (r : Nat) : State :=
  if r = roleACTIVE ∨ r = roleSOLO then s.tioUnfence else if r = roleSHADOW ∨ r = roleSTANDBY then s.tioFence else s

theorem PinsOnly.rolePins (s : State) (r : Nat) : PinsOnly s (s.rolePins r) := by
  unfold State.rolePins
  split_ifs
  · exact PinsOnly.tioUnfence s
  · exact PinsOnly.tioFence s
  · exact PinsOnly.refl s

theorem setRole_eq {r : Nat} (h : s.role ≠ r) : s.setRole r = (((s.rolePins r).put F.TWN_STAT_ROLE r).evt F.TWN_EVT_ROLE_CHG).epochRole := if_neg h

theorem setRole_same (s : State) : s.setRole s.role = s := if_pos rfl

theorem roleSet (s : State) {r : Nat} (hr : r < 8) : RoleSet s (s.setRole r) r := by
  by_cases h : s.role = r
  · subst h
    rw [setRole_same]
    exact ⟨rfl, fun h => absurd rfl h, Kept.refl _ _, rfl, rfl, rfl, fun _ _ _ _ => rfl⟩
  · have pins := PinsOnly.rolePins s r
    have shown : Kept twnFields s (((s.rolePins r).put F.TWN_STAT_ROLE r).evt F.TWN_EVT_ROLE_CHG) :=
      ((((Kept.refl _ _).of_regs pins.regs).put (by decide) _).evt (by decide))
    have role : (((s.rolePins r).put F.TWN_STAT_ROLE r).evt F.TWN_EVT_ROLE_CHG).role = r :=
      (State.get_evt_free _ (by decide) ..).trans (State.get_put_fits _ (by decide) hr _ _)
    have event : (((s.rolePins r).put F.TWN_STAT_ROLE r).evt F.TWN_EVT_ROLE_CHG).bit F.TWN_EVT_ROLE_CHG = true :=
      State.bit_evt_same _ _ _ _ (by decide) (by decide)
    have kept := Kept.epochRole (((s.rolePins r).put F.TWN_STAT_ROLE r).evt F.TWN_EVT_ROLE_CHG)
    obtain ⟨twn, rst, inv, low⟩ := epochRole_rest (((s.rolePins r).put F.TWN_STAT_ROLE r).evt F.TWN_EVT_ROLE_CHG)
    rw [setRole_eq h]
    refine ⟨kept.role.trans role, fun _ => (kept.bit (by decide)).trans event, shown.trans (kept.subset (by decide)), ?_, ?_, ?_,
      fun q i j hq => (low q i j hq).trans ?_⟩
    · rw [twn, State.evt_twn, State.put_twn, pins.twn]
    · rw [rst, State.evt_rst, State.put_rst, pins.rst]
    · rw [inv, State.evt_inv, State.put_inv, pins.ticks]
    · have off : ∀ f : Fld, 0x40000 ≤ f.reg.base → q.off i j ≠ f.reg.off 0 0 := fun f hf e => by
        have := f.reg.base_le_off 0 0
        omega
      rw [State.reg_evt_other _ _ _ _ _ _ _ (off F.TWN_EVT_ROLE_CHG (by decide)), State.reg_put_other _ _ _ _ _ _ _ _ (off F.TWN_STAT_ROLE (by decide)),
        State.reg, State.reg, pins.regs]

theorem RoleSet.mode {r : Nat} (h : RoleSet s t r) : t.mode = s.mode := by
  rw [State.mode, State.get, h.low _ _ _ (by decide), ← State.get, ← State.mode]

/-- Leaving a twin's role does not touch the pins. -/
theorem inv_setRole_off (s : State) : (s.setRole roleOFF).inv = s.inv := by
  by_cases h : s.role = roleOFF
  · rw [← h, setRole_same]
  · obtain ⟨-, -, inv, -⟩ := epochRole_rest (((s.rolePins roleOFF).put F.TWN_STAT_ROLE roleOFF).evt F.TWN_EVT_ROLE_CHG)
    rw [setRole_eq h, inv, State.evt_inv, State.put_inv]
    rfl

/-! ## HOLD, causes and messages (R419 to R421, R428) -/

/-- An operation that changes the mode and what goes out, but neither the role nor what shows it. -/
structure RoleKept (s t : State) : Prop where
  kept : Kept roleFields s t
  rst : t.rst = s.rst
  ticks : t.inv.ticks = s.inv.ticks

theorem RoleKept.refl (s : State) : RoleKept s s := ⟨Kept.refl _ _, rfl, rfl⟩

theorem RoleKept.trans (h : RoleKept s t) (k : RoleKept t u) : RoleKept s u :=
  ⟨h.kept.trans k.kept, k.rst.trans h.rst, k.ticks.trans h.ticks⟩

theorem RoleKept.pins (h : PinsOnly s t) : RoleKept s t := ⟨(Kept.refl _ _).of_regs h.regs, h.rst, h.ticks⟩

theorem RoleKept.put (s : State) {g : Fld} (hg : asideOf g roleFields = true) (v : Nat) : RoleKept s (s.put g v) := ⟨(Kept.refl _ _).put hg v, rfl, rfl⟩

theorem RoleKept.evt (s : State) {g : Fld} (hg : asideOfEvt g roleFields = true) : RoleKept s (s.evt g) :=
  ⟨(Kept.refl _ _).evt hg, State.evt_rst .., by rw [State.evt_inv]⟩

theorem RoleKept.same (hr : t.regs = s.regs) (hs : t.rst = s.rst) (hi : t.inv.ticks = s.inv.ticks) : RoleKept s t := ⟨(Kept.refl _ _).of_regs hr, hs, hi⟩

theorem RoleKept.enterHold (s : State) : RoleKept s s.enterHold := by
  have preempted : RoleKept s (if s.bit F.GLB_MODE_TRANSIT then
      (((s.put F.GLB_MODE_TRANSIT 0).put F.GLB_MODE_STAT_REASON 8).evt F.GLB_MODE_STAT_REFUSED) else s) := by
    split
    · exact ((RoleKept.put _ (by decide) _).trans (RoleKept.put _ (by decide) _)).trans (RoleKept.evt _ (by decide))
    · exact RoleKept.refl s
  unfold State.enterHold
  dsimp only
  generalize (if s.bit F.GLB_MODE_TRANSIT then _ else s) = v at preempted ⊢
  split
  · have noted : RoleKept v (v.noteMode v.now) := RoleKept.same rfl rfl rfl
    have held := (((preempted.trans noted).trans (RoleKept.put _ (g := F.GLB_MODE_PREV) (by decide) v.mode)).trans
      (RoleKept.put _ (g := F.GLB_MODE_CUR) (by decide) modeHOLD)).trans (RoleKept.pins (PinsOnly.tioHold _))
    have shown := ((held.trans (RoleKept.put _ (g := F.GLB_MODE_TARGET) (by decide) modeHOLD)).trans
      (RoleKept.put _ (g := F.GLB_MODE_FORCED) (by decide) 1)).trans (RoleKept.put _ (g := F.TWN_STAT_HOLDING) (by decide) 1)
    have told := (shown.trans (RoleKept.evt _ (g := F.GLB_MODE_STAT_DONE) (by decide))).trans (RoleKept.put _ (g := F.GLB_MODE_STAT_FORCED) (by decide) 1)
    exact told.trans (RoleKept.same rfl rfl rfl)
  · exact preempted

theorem RoleKept.assertFence (s : State) : RoleKept s s.assertFence := by
  unfold State.assertFence
  split
  · exact RoleKept.same rfl rfl rfl
  · exact RoleKept.refl s

theorem RoleKept.linkQueue (s : State) (m : LinkMsg) : RoleKept s (s.linkQueue m) := by
  unfold State.linkQueue
  split
  · exact RoleKept.same rfl rfl rfl
  · exact RoleKept.refl s

theorem RoleKept.twnCnt (s : State) (k n : Nat) : RoleKept s (s.twnCnt k n) := ⟨(Kept.refl _ _).putAt (by decide) _ _ _, rfl, rfl⟩

end Sys2Proof.Machine
end

section
set_option Elab.async false
/-! The roles of the twins (14_twin_lockstep.md R398, R399, R402, R412, R419, R420, R425, R428). -/

namespace Sys2Proof.Machine

variable {s t u : State} {r : Nat}

/-! ## The end of a command -/

theorem settled_role (b t : State) : (settled b t).role = t.role := settled_get_free _ _ (by decide) _ _

theorem settled_twn' (b t : State) : (settled b t).twn = t.twn := by
  obtain ⟨r, x, y, e⟩ := settled_only b t
  rw [e]

theorem settled_mode (b t : State) : (settled b t).mode = t.mode := settled_get_free _ _ (by decide) _ _

/-! ## Causes, and what is told to the peer (R419, R428) -/

/-- What a cause shows. -/
theorem cause_shows (s : State) {c : Nat} (hc : c < 256) (peer : Bool) : (s.cause c peer).get F.TWN_CAUSE_CAUSE = c ∧
    (s.cause c peer).bit F.TWN_CAUSE_PEER = peer := by
  refine ⟨(State.get_put_beside _ (by decide) ..).trans (State.get_put_fits _ (by decide) hc _ _), ?_⟩
  cases peer
  · exact State.bit_put_zero _ (by decide) _ _
  · exact State.bit_put_one _ (by decide) (by decide) _ _

theorem Kept.cause {l : List Fld} (h : Kept l s t) (off : offReg R.TWN_CAUSE l = true) (c : Nat) (peer : Bool) : Kept l s (t.cause c peer) :=
  (h.putAt off _ _ _).putAt off _ _ _

/-- The fields of the roles without the cause. -/
def noCause : List Fld :=
  [F.TWN_STAT_ROLE, F.TWN_EVT_ROLE_CHG, F.TWN_STAT_LINK, F.TWN_CTRL_EN, F.TWN_CTRL_SIDE, F.TWN_CTRL_FENCE_EN, F.TWN_EVT_JOINED, F.TWN_EVT_DUAL,
    F.TWN_EVT_CFG_ERR, F.TWN_EVT_DIVERGED, F.TWN_EVT_PROMOTED, F.TWN_EVT_PEER_LOST]

theorem sendFail_only (s : State) (c : Nat) : ∃ q, s.sendFail c = { s with twn := { s.twn with txq := q } } := by
  unfold State.sendFail State.sendLink State.linkQueue
  split
  · exact ⟨_, rfl⟩
  · exact ⟨s.twn.txq, rfl⟩

theorem RoleKept.sendFail (s : State) (c : Nat) : RoleKept s (s.sendFail c) := RoleKept.linkQueue s _

theorem RoleKept.sendCmd (s : State) (op low : Nat) (pl : List Nat) : RoleKept s (s.sendCmd op low pl) := RoleKept.linkQueue s _

theorem due_rstDue (s : State) (n : Nat) : (s.rstDue n).rst.due.testBit n = true := by
  rw [State.rstDue, Nat.testBit_or, Nat.testBit_two_pow_self, Bool.or_true]

/-- What leaving a role through an episode shows (R398). -/
theorem roleCore_shows (s : State) : s.roleCore.role = roleOFF ∧ s.roleCore.rst.due.testBit 5 = true ∧ Kept twnFields s s.roleCore ∧
    s.roleCore.inv = s.inv := by
  have off := roleSet s (r := roleOFF) (by decide)
  exact ⟨off.role, due_rstDue _ _, off.kept.of_regs rfl, inv_setRole_off s⟩

/-! ## Enabling and disabling (R398) -/

theorem does_twinEnable (en : s.bit F.TWN_CTRL_EN = true) (off : s.role = roleOFF) (mode : s.mode = modeSCHEDULED ∨ s.mode = modeSERVICE)
    (due : s.rst.due.testBit 5 = false) : Does .twinEnable s fun t => t.role = rolePAIRING ∧ t.bit F.TWN_EVT_ROLE_CHG = true := by
  have enabled : s.twinEnable = (s.setTwn { s.twn with roleFrom := s.inv.ticks, hbRecv := none }).setRole rolePAIRING := by
    rw [State.twinEnable, if_pos (by rcases mode with e | e <;> simp [en, off, due, e])]
  have set := roleSet (s.setTwn { s.twn with roleFrom := s.inv.ticks, hbRecv := none }) (r := rolePAIRING) (by decide)
  have before : (s.setTwn { s.twn with roleFrom := s.inv.ticks, hbRecv := none }).role = roleOFF := off
  refine does_of rfl ?_
  rw [enabled, settled_role, settled_bit_free _ _ (by decide)]
  exact ⟨set.role, set.changed (by rw [before]; decide)⟩

section
variable {h : HostId} {data : Word} (ho : s.opens h R.TWN_CTRL 0 0 = true)

/-- A write of EN = 0 takes FENCE_EN, and disables the twin (R398). -/
theorem regWrite_twinDisable (host : Nat) (data : Word) : s.regWrite host R.TWN_CTRL 0 0 15 (data &&& 0x7FFFFFFF) =
    ([], (s.put F.TWN_CTRL_FENCE_EN (getBits (data &&& 0x7FFFFFFF) 30 30)).twinDisable) := by
  have low : getBits (data &&& 0x7FFFFFFF) 31 31 = 0 := by
    have bound : (data &&& (0x7FFFFFFF : Word)).toNat ≤ 0x7FFFFFFF := by
      rw [BitVec.toNat_and]
      exact Nat.and_le_right
    rw [getBits, Nat.shiftRight_eq_div_pow]
    omega
  have write : s.regWrite host R.TWN_CTRL 0 0 15 (data &&& 0x7FFFFFFF) = actOnly (if getBits (data &&& 0x7FFFFFFF) 31 31 = 1 then
      ((s.put F.TWN_CTRL_FENCE_EN (getBits (data &&& 0x7FFFFFFF) 30 30)).put F.TWN_CTRL_EN 1).twinEnable
      else (s.put F.TWN_CTRL_FENCE_EN (getBits (data &&& 0x7FFFFFFF) 30 30)).twinDisable) := rfl
  rw [write, low, if_neg (by decide), actOnly]

theorem role_put {f : Fld} (hf : free F.TWN_STAT_ROLE.reg f.reg = true) (v i j : Nat) : (s.put f v i j).role = s.role :=
  State.get_put_free (f := f) s hf v i j 0 0

/-- The role OFF forgets what was received, and shows only that the role has changed. -/
theorem roleOff_shows (held : s.twn.held = []) : s.roleOff.role = roleOFF ∧ Kept twnFields s s.roleOff ∧
    (s.role ≠ roleOFF → s.roleOff.bit F.TWN_EVT_ROLE_CHG = true) := by
  have set := roleSet s (r := roleOFF) (by decide)
  unfold State.roleOff
  dsimp only
  rw [set.twn, held, List.foldl_nil]
  refine ⟨?_, ?_, fun hr => ?_⟩
  · exact (role_put (by decide) ..).trans set.role
  · exact (set.kept.of_regs rfl).put (by decide) _
  · exact (State.bit_put_free _ (by decide) ..).trans (set.changed hr)

include ho

theorem does_twinDisable_active (active : s.role = roleACTIVE) : Does (.twinDisable h data) s fun t => t.role = roleACTIVE ∧
    t.bit F.TWN_EVT_CFG_ERR = true ∧ t.bit F.TWN_CTRL_EN = s.bit F.TWN_CTRL_EN ∧ s.keepsRegs t [R.TWN_CTRL.base, R.TWN_EVT.base] := by
  refine does_rowWrite_own rfl ho (by decide) (regWrite_twinDisable _ data) ?_
  have role : (s.put F.TWN_CTRL_FENCE_EN (getBits (data &&& 0x7FFFFFFF) 30 30)).role = roleACTIVE := (role_put (by decide) ..).trans active
  rw [State.twinDisable, if_pos role, settled_role, settled_bit_free _ _ (by decide), settled_bit_free _ _ (by decide)]
  refine ⟨(State.get_evt_free _ (by decide) ..).trans role, State.bit_evt_same _ _ _ _ (by decide) (by decide),
    (State.bit_evt_free _ (by decide) ..).trans (State.bit_put_beside _ (by decide) ..), settled_keeps _ _ _ ?_⟩
  exact State.keepsRegs_evt (State.keepsRegs_put (State.keepsRegs_refl _) _ _ _ _ (by decide)) _ _ _ (by decide)

/-- The state in which a device that is not ACTIVE leaves its role: EN is 0, and the peer has been told. -/
def State.disabling (s : State) (data : Word) : State :=
  ((s.put F.TWN_CTRL_FENCE_EN (getBits (data &&& 0x7FFFFFFF) 30 30)).put F.TWN_CTRL_EN 0).sendFail causeDISABLED

omit ho in
theorem disabling_shows (s : State) (data : Word) : (s.disabling data).role = s.role ∧ (s.disabling data).bit F.TWN_CTRL_EN = false ∧
    (s.disabling data).twn.held = s.twn.held := by
  obtain ⟨q, e⟩ := sendFail_only ((s.put F.TWN_CTRL_FENCE_EN (getBits (data &&& 0x7FFFFFFF) 30 30)).put F.TWN_CTRL_EN 0) causeDISABLED
  rw [State.disabling, e]
  exact ⟨(role_put (by decide) ..).trans (role_put (by decide) ..), State.bit_put_zero _ (by decide) _ _, rfl⟩

omit ho in
theorem twinDisable_eq {data : Word} (hr : s.role ∉ [roleACTIVE, roleOFF, roleBAD]) :
    (s.put F.TWN_CTRL_FENCE_EN (getBits (data &&& 0x7FFFFFFF) 30 30)).twinDisable =
      if s.isLogged then (s.disabling data).roleCore else (s.disabling data).roleOff := by
  simp only [List.mem_cons, List.not_mem_nil, or_false, not_or] at hr
  obtain ⟨active, off, bad⟩ := hr
  have role : (s.put F.TWN_CTRL_FENCE_EN (getBits (data &&& 0x7FFFFFFF) 30 30)).role = s.role := role_put (by decide) ..
  have disabled : ((s.put F.TWN_CTRL_FENCE_EN (getBits (data &&& 0x7FFFFFFF) 30 30)).put F.TWN_CTRL_EN 0).role = s.role :=
    (role_put (by decide) ..).trans role
  have logged : (s.disabling data).isLogged = s.isLogged := by
    rw [State.isLogged, State.isLogged, (disabling_shows s data).1]
  unfold State.twinDisable
  dsimp only
  rw [role, if_neg active, disabled, if_neg (by tauto), ← State.disabling, logged]

theorem does_twinDisable_open (hr : s.role ∈ [rolePAIRING, roleSYNC, roleSOLO]) (held : s.twn.held = []) : Does (.twinDisable h data) s fun t =>
    t.role = roleOFF ∧ t.bit F.TWN_CTRL_EN = false ∧ t.bit F.TWN_EVT_ROLE_CHG = true := by
  obtain ⟨role, en, same⟩ := disabling_shows s data
  obtain ⟨off, kept, changed⟩ := roleOff_shows (s := s.disabling data) (same.trans held)
  have left : s.role ∉ [roleACTIVE, roleOFF, roleBAD] ∧ s.isLogged = false ∧ s.role ≠ roleOFF := by
    rw [State.isLogged]
    simp only [List.mem_cons, List.not_mem_nil, or_false] at hr
    rcases hr with e | e | e <;> rw [e] <;> decide
  refine does_rowWrite_own rfl ho (by decide) (regWrite_twinDisable _ data) ?_
  rw [twinDisable_eq left.1, left.2.1, if_neg (by decide), settled_role, settled_bit_free _ _ (by decide), settled_bit_free _ _ (by decide)]
  exact ⟨off, (kept.bit (by decide)).trans en, changed (by rw [role]; exact left.2.2)⟩

theorem does_twinDisable_logged (hr : s.role ∈ [roleSHADOW, roleSTANDBY]) : Does (.twinDisable h data) s fun t => t.role = roleOFF ∧
    t.bit F.TWN_CTRL_EN = false ∧ t.rst.due.testBit 5 = true := by
  obtain ⟨-, en, -⟩ := disabling_shows s data
  obtain ⟨off, due, kept, -⟩ := roleCore_shows (s.disabling data)
  have left : s.role ∉ [roleACTIVE, roleOFF, roleBAD] ∧ s.isLogged = true := by
    rw [State.isLogged]
    simp only [List.mem_cons, List.not_mem_nil, or_false] at hr
    rcases hr with e | e <;> rw [e] <;> decide
  refine does_rowWrite_own rfl ho (by decide) (regWrite_twinDisable _ data) ?_
  rw [twinDisable_eq left.1, left.2, if_pos rfl, settled_role, settled_bit_free _ _ (by decide), settled_rst]
  exact ⟨off, (kept.bit (by decide)).trans en, due⟩

end

/-! ## Waiting (R398, R425) -/

theorem goSolo_shows (s : State) {c : Nat} (hc : c < 256) : (s.goSolo c).role = roleSOLO ∧ (s.goSolo c).get F.TWN_CAUSE_CAUSE = c ∧
    (s.goSolo c).twn = s.twn := by
  have set := roleSet (s.cause c) (r := roleSOLO) (by decide)
  exact ⟨set.role, (set.kept.get (by decide)).trans (cause_shows s hc false).1, set.twn⟩

theorem does_pairTimeout (hr : s.role = rolePAIRING) (none_ : s.twn.hbRecv = none) (late : s.twn.roleFrom + s.pairWait ≤ s.inv.ticks) :
    Does .pairTimeout s fun t => t.role = roleSOLO ∧ t.get F.TWN_CAUSE_CAUSE = causeHB_TIMEOUT := by
  obtain ⟨role, cause, -⟩ := goSolo_shows s (c := causeHB_TIMEOUT) (by decide)
  have timeout : s.pairTimeout = s.goSolo causeHB_TIMEOUT := by
    unfold State.pairTimeout
    simp only [none_]
    exact if_pos ⟨hr, late⟩
  refine does_of rfl ?_
  rw [timeout, settled_role, settled_get_free _ _ (by decide)]
  exact ⟨role, cause⟩

theorem does_syncTimeout (hr : s.role = roleSYNC) (cut : s.twn.cut = none) (late : s.twn.roleFrom + s.pairWait ≤ s.inv.ticks) :
    Does .syncWaitTimeout s fun t => t.role = rolePAIRING ∧ t.twn.roleFrom = s.inv.ticks := by
  have set := roleSet (s.setTwn { s.twn with roleFrom := s.inv.ticks }) (r := rolePAIRING) (by decide)
  have timeout : s.syncTimeout = (s.setTwn { s.twn with roleFrom := s.inv.ticks }).setRole rolePAIRING := if_pos ⟨hr, by rw [cut]; rfl, late⟩
  refine does_of rfl ?_
  rw [timeout, settled_role, settled_twn', set.twn]
  exact ⟨set.role, rfl⟩

/-! ## Failure of the peer (R398, R419, R421) -/

/-- The state in which the peer's failure is judged. -/
def State.peerGone (s : State) : State :=
  (s.put F.TWN_STAT_PEER 0).setTwn { s.twn with hbRecv := none, cut := if s.role = roleSOLO then none else s.twn.cut, synced := false }

theorem peerGone_kept (s : State) : Kept roleFields s s.peerGone :=
  ((Kept.refl _ _).put (g := F.TWN_STAT_PEER) (by decide) _).of_regs (u := s.peerGone) rfl

theorem peerFailed_eq (s : State) (c : Nat) (peer : Bool) : s.peerFailed c peer =
    if s.peerGone.role = roleSTANDBY then
      ((((((s.peerGone.cause c peer).evt F.TWN_EVT_PEER_LOST).evt F.TWN_EVT_PROMOTED).twnCnt 14).setRole roleSOLO).enterHold).assertFence
    else if s.peerGone.role = roleACTIVE then ((s.peerGone.cause c peer).evt F.TWN_EVT_PEER_LOST).setRole roleSOLO
    else if s.peerGone.role = roleOFF ∨ s.peerGone.role = roleBAD then s.peerGone
    else (s.peerGone.cause c peer).evt F.TWN_EVT_PEER_LOST := rfl

/-- What the failure of the peer shows on an ACTIVE and on a STANDBY device. -/
structure PeerLost (s t : State) (c : Nat) (peer : Bool) : Prop where
  role : t.role = roleSOLO
  cause : t.get F.TWN_CAUSE_CAUSE = c
  told : t.bit F.TWN_CAUSE_PEER = peer
  lost : t.bit F.TWN_EVT_PEER_LOST = true
  link : t.bit F.TWN_STAT_LINK = s.bit F.TWN_STAT_LINK

/-- The state in which the role changes, once the cause and the loss of the peer show. -/
def State.peerNoted (s : State) (c : Nat) (peer : Bool) : State := ((s.peerGone.cause c peer).evt F.TWN_EVT_PEER_LOST)

theorem peerNoted_shows (s : State) {c : Nat} (hc : c < 256) (peer : Bool) : (s.peerNoted c peer).get F.TWN_CAUSE_CAUSE = c ∧
    (s.peerNoted c peer).bit F.TWN_CAUSE_PEER = peer ∧ (s.peerNoted c peer).bit F.TWN_EVT_PEER_LOST = true ∧
    (s.peerNoted c peer).role = s.role ∧ (s.peerNoted c peer).bit F.TWN_STAT_LINK = s.bit F.TWN_STAT_LINK := by
  obtain ⟨cause, told⟩ := cause_shows s.peerGone hc peer
  have kept : Kept [F.TWN_STAT_ROLE, F.TWN_STAT_LINK] s (s.peerNoted c peer) :=
    ((((peerGone_kept s).subset (by decide)).cause (by decide) c peer).evt (by decide))
  exact ⟨(State.get_evt_free _ (by decide) ..).trans cause, (State.bit_evt_free _ (by decide) ..).trans told,
    State.bit_evt_same _ _ _ _ (by decide) (by decide), kept.get (by decide), kept.bit (by decide)⟩

theorem mode_peerNoted (s : State) (c : Nat) (peer : Bool) : (s.peerNoted c peer).mode = s.mode := by
  have kept : Kept [F.GLB_MODE_CUR] s (s.peerNoted c peer) :=
    (((((Kept.refl _ s).put (g := F.TWN_STAT_PEER) (by decide) 0).of_regs (u := s.peerGone) rfl).cause (by decide) c peer).evt (by decide))
  exact kept.get (by decide)

theorem peerFailed_active (s : State) (hr : s.role = roleACTIVE) {c : Nat} (hc : c < 256) (peer : Bool) :
    PeerLost s (s.peerFailed c peer) c peer ∧ (s.peerFailed c peer).mode = s.mode := by
  have role : s.peerGone.role = roleACTIVE := (peerGone_kept s).role.trans hr
  have failed : s.peerFailed c peer = (s.peerNoted c peer).setRole roleSOLO := by
    rw [peerFailed_eq, role]
    rfl
  obtain ⟨cause, told, lost, -, link⟩ := peerNoted_shows s hc peer
  have set := roleSet (s.peerNoted c peer) (r := roleSOLO) (by decide)
  rw [failed, set.mode, mode_peerNoted]
  exact ⟨⟨set.role, (set.kept.get (by decide)).trans cause, (set.kept.bit (by decide)).trans told, (set.kept.bit (by decide)).trans lost,
    (set.kept.bit (by decide)).trans link⟩, rfl⟩

theorem peerFailed_standby (s : State) (hr : s.role = roleSTANDBY) {c : Nat} (hc : c < 256) (peer : Bool) :
    PeerLost s (s.peerFailed c peer) c peer ∧ (s.peerFailed c peer).bit F.TWN_EVT_PROMOTED = true := by
  have role : s.peerGone.role = roleSTANDBY := (peerGone_kept s).role.trans hr
  have failed : s.peerFailed c peer =
      (((((s.peerNoted c peer).evt F.TWN_EVT_PROMOTED).twnCnt 14).setRole roleSOLO).enterHold).assertFence := by
    rw [peerFailed_eq, role]
    rfl
  obtain ⟨cause, told, lost, -, link⟩ := peerNoted_shows s hc peer
  have noted : Kept [F.TWN_CAUSE_CAUSE, F.TWN_CAUSE_PEER, F.TWN_EVT_PEER_LOST, F.TWN_STAT_LINK] (s.peerNoted c peer)
      (((s.peerNoted c peer).evt F.TWN_EVT_PROMOTED).twnCnt 14) :=
    (((Kept.refl _ _).evt (g := F.TWN_EVT_PROMOTED) (by decide)).putAt (by decide) _ _ _)
  have promoted : (((s.peerNoted c peer).evt F.TWN_EVT_PROMOTED).twnCnt 14).bit F.TWN_EVT_PROMOTED = true :=
    (State.bit_put_free (f := F.TWN_CNT_COUNT) _ (by decide) ..).trans (State.bit_evt_same _ _ _ _ (by decide) (by decide))
  rw [failed]
  generalize hv : ((s.peerNoted c peer).evt F.TWN_EVT_PROMOTED).twnCnt 14 = v at noted promoted
  have set := roleSet v (r := roleSOLO) (by decide)
  have after := (RoleKept.enterHold (v.setRole roleSOLO)).trans (RoleKept.assertFence _)
  have all : Kept twnFields v ((v.setRole roleSOLO).enterHold).assertFence := set.kept.trans (after.kept.subset (by decide))
  exact ⟨⟨after.kept.role.trans set.role, (all.get (by decide)).trans ((noted.get (by decide)).trans cause),
    (all.bit (by decide)).trans ((noted.bit (by decide)).trans told), (all.bit (by decide)).trans ((noted.bit (by decide)).trans lost),
    (all.bit (by decide)).trans ((noted.bit (by decide)).trans link)⟩, (all.bit (by decide)).trans promoted⟩

end Sys2Proof.Machine
end

section
set_option Elab.async false
/-! PROOFS. What the roles of the twins make of a heartbeat (14_twin_lockstep.md R398, R399, R402, R419, R425). -/

namespace Sys2Proof.Machine

variable {s t u v : State} {r : Nat}

/-! ## A heartbeat (R402) -/

/-- The heartbeats that have not come are counted. -/
def State.hbMissed (s : State) : State :=
  let missed := match s.twn.hbRecv with | some t => (s.inv.ticks - t) / 128 - 1 | none => 0
  if missed = 0 ∨ s.role = roleOFF then s else s.twnCnt 9 missed

/-- The state in which a heartbeat is judged: what it says of the peer has been taken. -/
def State.hbTaken (s : State) (lseq peerRole base : Nat) (td : Nat × Nat × Nat) : State :=
  let s := (s.takeLseq 1 lseq).hbMissed
  let s := (s.put F.TWN_STAT_PEER 1).put F.TWN_STAT_PEER_ROLE peerRole
  s.setTwn { s.twn with hbRecv := some s.inv.ticks, baseIn := base, hbTd := td }

/-- What the roles of the two devices make of a heartbeat. -/
def State.hbJudged (s : State) (peerRole key : Nat) (a : Option Align) : State :=
  let r := s.role
  let same := key == s.imgKey
  let s := if r = roleSOLO ∧ joining peerRole = false ∧ peerRole ≠ roleSTANDBY then s.setTwn { s.twn with cut := none, synced := false } else s
  if r = rolePAIRING then
    if !same then s.goSolo causeIMAGE_MISMATCH
    else if peerRole = rolePAIRING ∧ s.twn.ordered = false then s.coldPair a
    else if peerRole = roleSOLO then (s.setTwn { s.twn with roleFrom := s.inv.ticks, cut := none }).setRole roleSYNC
    else s
  else if r = roleSYNC then
    if peerRole = roleSOLO then s
    else (s.setTwn { s.twn with roleFrom := s.inv.ticks, cut := none }).setRole rolePAIRING
  else if (r = roleACTIVE ∨ r = roleSOLO) ∧ (peerRole = roleACTIVE ∨ peerRole = roleSOLO) then
    let s := (s.cause causeDUAL_ACTIVE).evt F.TWN_EVT_DUAL
    if s.get F.TWN_CTRL_SIDE = 0 then s.enterHold else s.roleCore
  else if r = roleSOLO ∧ peerRole = roleSYNC then
    if s.twn.cut.isSome then s
    else
      let c := (s.tcc + 62500) % 2 ^ 48
      (s.setTwn { s.twn with cut := some c, cutTime := s.now + 50000 }).sendCmd 5 0 [c]
  else if r = roleSOLO ∧ peerRole = roleSTANDBY then
    ((s.setTwn { s.twn with cut := none, synced := false }).setRole roleACTIVE).evt F.TWN_EVT_JOINED
  else s

theorem heartbeatReceive_eq (s : State) (lseq peerRole base : Nat) (td : Nat × Nat × Nat) (key : Nat) (a : Option Align) :
    s.heartbeatReceive lseq peerRole base td key a = (s.hbTaken lseq peerRole base td).hbJudged peerRole key a := rfl

/-- The fields of a role that taking a link frame keeps. -/
def takenFields : List Fld :=
  [F.TWN_STAT_ROLE, F.TWN_STAT_LINK, F.TWN_CAUSE_CAUSE, F.TWN_CAUSE_PEER, F.TWN_CTRL_EN, F.TWN_CTRL_SIDE, F.TWN_CTRL_FENCE_EN]

/-- What taking a link frame leaves. -/
structure Taken (s t : State) : Prop where
  kept : Kept takenFields s t
  rst : t.rst = s.rst
  inv : t.inv = s.inv
  image : t.imgKey = s.imgKey
  ordered : t.twn.ordered = s.twn.ordered
  cut : t.twn.cut = s.twn.cut

theorem Taken.refl (s : State) : Taken s s := ⟨Kept.refl _ _, rfl, rfl, rfl, rfl, rfl⟩

theorem Taken.trans (h : Taken s t) (k : Taken t u) : Taken s u :=
  ⟨h.kept.trans k.kept, k.rst.trans h.rst, k.inv.trans h.inv, k.image.trans h.image, k.ordered.trans h.ordered, k.cut.trans h.cut⟩

theorem Taken.role (h : Taken s t) : t.role = s.role := h.kept.get (by decide)

theorem imgKey_congr (h : ∀ q ∈ [R.IMG_VER, R.TIN_UCODE_CRC, R.IMG_PATCH_CNT, R.IMG_PATCH_CRC], t.reg q = s.reg q) : t.imgKey = s.imgKey := by
  rw [State.imgKey, State.imgKey, h R.IMG_VER (by simp), h R.TIN_UCODE_CRC (by simp), h R.IMG_PATCH_CNT (by simp), h R.IMG_PATCH_CRC (by simp)]

/-- A register of the twin controller stands beside those that identify the image. -/
def besideImage (r : RegSpec) : Bool := [R.IMG_VER, R.TIN_UCODE_CRC, R.IMG_PATCH_CNT, R.IMG_PATCH_CRC].all fun q => free q r

theorem Taken.put (s : State) {f : Fld} (kept : asideOf f takenFields = true) (image : besideImage f.reg = true) (n : Nat) : Taken s (s.put f n) :=
  ⟨(Kept.refl _ _).put kept _, rfl, rfl, imgKey_congr fun q hq => State.reg_put_free (f := f) s (List.all_eq_true.1 image q hq) ..,
    by rw [State.put_twn], by rw [State.put_twn]⟩

theorem Taken.twnCnt (s : State) {k : Nat} (hk : k < 15) (n : Nat) : Taken s (s.twnCnt k n) := by
  have image : ∀ q ∈ [R.IMG_VER, R.TIN_UCODE_CRC, R.IMG_PATCH_CNT, R.IMG_PATCH_CRC], apart q R.TWN_CNT = true ∧ q.inside 0 0 := by decide
  exact ⟨(Kept.refl _ _).putAt (by decide) _ _ _, rfl, rfl, imgKey_congr fun q hq =>
    State.reg_put_other _ _ _ _ _ _ _ _ (off_ne (image q hq).1 (image q hq).2 ⟨hk, Nat.one_pos⟩), rfl, rfl⟩

theorem Taken.evt (s : State) {f : Fld} (kept : asideOfEvt f takenFields = true) (image : besideImage f.reg = true) : Taken s (s.evt f) :=
  ⟨(Kept.refl _ _).evt kept, State.evt_rst .., State.evt_inv .., imgKey_congr fun q hq =>
    State.reg_evt_free (f := f) s (List.all_eq_true.1 image q hq) .., by rw [State.evt_twn], by rw [State.evt_twn]⟩

theorem Taken.setTwn (s : State) {x : TwnState} (ordered : x.ordered = s.twn.ordered) (cut : x.cut = s.twn.cut) : Taken s (s.setTwn x) :=
  ⟨(Kept.refl _ _).of_regs rfl, rfl, rfl, rfl, ordered, cut⟩

/-- A gap in what the peer sends is counted, where it does not make the device diverge (R403). -/
theorem Taken.takeLseq (s : State) {type : Nat} (lseq : Nat) (h : ¬ ((type = 2 ∨ type = 6 ∨ type = 7) ∧ s.isLogged = true)) :
    Taken s (s.takeLseq type lseq) := by
  have moved : Taken s (s.setTwn { s.twn with lseqIn := tabSet 256 s.twn.lseqIn type ((lseq + 1) % 256) }) := Taken.setTwn s rfl rfl
  unfold State.takeLseq
  dsimp only
  split
  · exact moved
  · rw [if_neg (by rwa [show (s.setTwn { s.twn with lseqIn := tabSet 256 s.twn.lseqIn type ((lseq + 1) % 256) }).isLogged = s.isLogged from rfl])]
    exact (moved.trans (Taken.twnCnt _ (k := 8) (by decide) 1)).trans (Taken.evt _ (by decide) (by decide))

theorem hbTaken_shows (s : State) (lseq peerRole base : Nat) (td : Nat × Nat × Nat) : Taken s (s.hbTaken lseq peerRole base td) ∧
    (s.hbTaken lseq peerRole base td).twn.hbRecv = some s.inv.ticks := by
  have lseqTaken := Taken.takeLseq s (type := 1) lseq (by simp)
  unfold State.hbTaken
  dsimp only
  have before : Taken s (s.takeLseq 1 lseq).hbMissed := by
    have counted : ∀ n, Taken (s.takeLseq 1 lseq) (if n = 0 ∨ (s.takeLseq 1 lseq).role = roleOFF then s.takeLseq 1 lseq
        else (s.takeLseq 1 lseq).twnCnt 9 n) := fun n => by
      split
      · exact Taken.refl _
      · exact Taken.twnCnt _ (by decide) _
    exact lseqTaken.trans (counted _)
  generalize (s.takeLseq 1 lseq).hbMissed = x at before
  have shown := (before.trans (Taken.put x (f := F.TWN_STAT_PEER) (by decide) (by decide) 1)).trans
    (Taken.put _ (f := F.TWN_STAT_PEER_ROLE) (by decide) (by decide) peerRole)
  refine ⟨shown.trans (Taken.setTwn _ rfl rfl), ?_⟩
  exact congrArg (fun i : InvState => some i.ticks) before.inv

/-! ## What follows a heartbeat in the same command -/

/-- The state transfer that may begin, and what waits on TD0: no field of a role changes. -/
structure HeardOut (s t : State) : Prop where
  kept : RoleKept s t
  twn : ∃ q b, t.twn = { s.twn with txq := q, synced := b }

theorem HeardOut.syncTransfer (s : State) : HeardOut s s.syncTransfer := by
  have queued : ∀ (v : State) m, ∃ q, v.linkQueue m = { v with twn := { v.twn with txq := q } } := fun v m => by
    unfold State.linkQueue
    split
    · exact ⟨_, rfl⟩
    · exact ⟨v.twn.txq, rfl⟩
  unfold State.syncTransfer
  split
  · refine List.foldlRecOn (motive := fun v : State => HeardOut s v) _ _ ⟨RoleKept.same rfl rfl rfl, s.twn.txq, true, rfl⟩ fun v h x _ => ?_
    obtain ⟨kept, q, b, twn⟩ := h
    obtain ⟨q', e⟩ := queued v { type := 7, h := 0, pl := [], arr := some v.tcc, sync := [x] }
    refine ⟨kept.trans (RoleKept.linkQueue _ _), q', b, ?_⟩
    rw [e]
    simp only [twn]
  · exact ⟨RoleKept.refl s, s.twn.txq, s.twn.synced, rfl⟩

theorem rejudged_only (s : State) (n : Int) : ∃ a p, s.rejudged n = { s with adp := a, pmc := p } := by
  have adp : ∃ a, s.adpRejudge n = { s with adp := a } := by
    unfold State.adpRejudge
    split
    · exact ⟨_, rfl⟩
    · exact ⟨s.adp, rfl⟩
  obtain ⟨a, e⟩ := adp
  unfold State.rejudged State.dumpRejudge
  rw [e]
  split
  · exact ⟨a, s.pmc, rfl⟩
  · split
    · exact ⟨a, _, rfl⟩
    · exact ⟨a, s.pmc, rfl⟩

theorem HeardOut.rejudged (h : HeardOut s t) (n : Int) : HeardOut s (t.rejudged n) := by
  obtain ⟨a, p, e⟩ := rejudged_only t n
  rw [e]
  exact ⟨h.kept.trans (RoleKept.same rfl rfl rfl), h.twn⟩

theorem heardOut (s : State) (n : Int) : HeardOut s (s.syncTransfer.rejudged n) := (HeardOut.syncTransfer s).rejudged n

/-- A heartbeat, told by the state in which it is judged. -/
theorem does_heartbeat {lseq : Byte} {peer : Fin 8} {base : BeatTime} {key : BitVec 32} {a : Option Align} {P : State → Prop}
    (hp : ∀ v, Taken s v → v.twn.hbRecv = some s.inv.ticks → ∀ w, HeardOut (v.hbJudged peer.val key.toNat a) w → P (settled s w)) :
    Does (.heartbeatReceive lseq peer base key a) s P := by
  obtain ⟨taken, recv⟩ := hbTaken_shows s lseq.toNat peer.val base.base.toNat (base.sec.toNat, base.ns.toNat, base.frac.toNat * 2 ^ 32)
  exact does_of rfl (hp _ taken recv _ (heardOut _ s.now))

/-! ## What the roles make of a heartbeat (R398, R399, R419) -/

variable {peerRole key : Nat} {a : Option Align}

theorem hbJudged_pairing (hr : v.role = rolePAIRING) : v.hbJudged peerRole key a =
    if !(key == v.imgKey) then v.goSolo causeIMAGE_MISMATCH
    else if peerRole = rolePAIRING ∧ v.twn.ordered = false then v.coldPair a
    else if peerRole = roleSOLO then (v.setTwn { v.twn with roleFrom := v.inv.ticks, cut := none }).setRole roleSYNC
    else v := by
  unfold State.hbJudged
  simp only [hr]
  rfl

theorem hbJudged_sync (hr : v.role = roleSYNC) (hp : peerRole ≠ roleSOLO) :
    v.hbJudged peerRole key a = (v.setTwn { v.twn with roleFrom := v.inv.ticks, cut := none }).setRole rolePAIRING := by
  unfold State.hbJudged
  simp only [hr]
  exact if_neg hp

theorem hbJudged_joined (hr : v.role = roleSOLO) (hp : peerRole = roleSTANDBY) :
    v.hbJudged peerRole key a = ((v.setTwn { v.twn with cut := none, synced := false }).setRole roleACTIVE).evt F.TWN_EVT_JOINED := by
  unfold State.hbJudged
  simp only [hr, hp]
  rfl

/-- The state in which two devices that both forward part. -/
def State.dualSeen (s : State) : State := (s.cause causeDUAL_ACTIVE).evt F.TWN_EVT_DUAL

theorem hbJudged_dual (hr : v.role ∈ [roleACTIVE, roleSOLO]) (hp : peerRole ∈ [roleACTIVE, roleSOLO]) : ∃ w : State, w.regs = v.regs ∧
    v.hbJudged peerRole key a = if w.dualSeen.get F.TWN_CTRL_SIDE = 0 then w.dualSeen.enterHold else w.dualSeen.roleCore := by
  simp only [List.mem_cons, List.not_mem_nil, or_false] at hr hp
  have away : v.role ≠ rolePAIRING ∧ v.role ≠ roleSYNC := by
    rcases hr with e | e <;> rw [e] <;> decide
  unfold State.hbJudged
  dsimp only
  rw [if_neg away.1, if_neg away.2, if_pos ⟨hr, hp⟩]
  refine ⟨_, ?_, rfl⟩
  split <;> rfl

theorem dualSeen_shows (w : State) : w.dualSeen.get F.TWN_CAUSE_CAUSE = causeDUAL_ACTIVE ∧ w.dualSeen.bit F.TWN_EVT_DUAL = true ∧
    w.dualSeen.role = w.role ∧ w.dualSeen.get F.TWN_CTRL_SIDE = w.get F.TWN_CTRL_SIDE := by
  have kept : Kept [F.TWN_STAT_ROLE, F.TWN_CTRL_SIDE] w w.dualSeen := (((Kept.refl _ _).cause (by decide) _ _).evt (by decide))
  exact ⟨(State.get_evt_free _ (by decide) ..).trans (cause_shows w (by decide) false).1, State.bit_evt_same _ _ _ _ (by decide) (by decide),
    kept.get (by decide), kept.get (by decide)⟩

/-- Aligning the time base moves the domains and shows the lag. -/
theorem alignTime_shows (s : State) (x : Align) : RoleKept s (s.alignTime x) ∧ (s.alignTime x).twn.lagging = true := by
  have domains : ∀ (f : State → Nat → State), (∀ v d, f v d = v ∨ ∃ m, f v d = v.setDom d m) →
      (((List.range 4).foldl f s).regs = s.regs ∧ ((List.range 4).foldl f s).rst = s.rst ∧
        ((List.range 4).foldl f s).inv.ticks = s.inv.ticks) := fun f hf =>
    List.foldlRecOn (motive := fun v : State => v.regs = s.regs ∧ v.rst = s.rst ∧ v.inv.ticks = s.inv.ticks) _ _ ⟨rfl, rfl, rfl⟩
      fun v h d _ => by
        rcases hf v d with e | ⟨m, e⟩ <;> rw [e]
        · exact h
        · exact h
  unfold State.alignTime
  dsimp only
  generalize hw : List.foldl _ s _ = w
  have kept : RoleKept s w := by
    obtain ⟨regs, rst, ticks⟩ := domains _ fun v d => by
      show (match (if d = 0 then some s.twn.hbTd else x.td[d - 1]?) with
        | some (sec, ns, frac) => v.setDom d (domAdd { v.dom d with sec := sec % 2 ^ 48, ns := ns % 1000000000, frac := frac % 2 ^ 48 }
            (((x.tcc.toNat : Int) - s.twn.baseIn - 1875) * (2 * 2 ^ 48 + (State.dom v d).rate) * 2 / 5))
        | none => v) = v ∨ _
      split
      · exact Or.inr ⟨_, rfl⟩
      · exact Or.inl rfl
    rw [← hw]
    exact RoleKept.same regs rst ticks
  have moved : RoleKept w (w.setTwn { w.twn with tccOfs := (x.tcc.toNat : Int) - (s.inv.ticks * 5 / 2 : Nat), lagging := true, advances := List.replicate 750 (2 * 2 ^ 48 + (w.dom 0).rate) }) :=
    RoleKept.same rfl rfl rfl
  unfold State.showLag
  exact ⟨(kept.trans moved).trans (RoleKept.put _ (g := F.TWN_LAG_LAG) (by decide) _), rfl⟩

/-! ## The clauses of a heartbeat -/

section
variable {lseq : Byte} {peer : Fin 8} {base : BeatTime} {image : BitVec 32}

theorem HeardOut.role {w : State} (h : HeardOut v w) : w.role = v.role := h.kept.kept.role

theorem does_heartbeat_mismatch (hr : s.role = rolePAIRING) (hk : image.toNat ≠ s.imgKey) :
    Does (.heartbeatReceive lseq peer base image a) s fun t => t.role = roleSOLO ∧ t.get F.TWN_CAUSE_CAUSE = causeIMAGE_MISMATCH ∧
      t.twn.hbRecv = some s.inv.ticks := by
  refine does_heartbeat fun v taken recv w out => ?_
  rw [hbJudged_pairing (taken.role.trans hr), if_pos (by rw [taken.image]; simpa using hk)] at out
  obtain ⟨role, cause, same⟩ := goSolo_shows v (c := causeIMAGE_MISMATCH) (by decide)
  obtain ⟨q, b, twn⟩ := out.twn
  rw [settled_role, settled_get_free _ _ (by decide), settled_twn', twn, same]
  exact ⟨out.role.trans role, (out.kept.kept.get (by decide)).trans cause, recv⟩

theorem hbJudged_match (hr : v.role = rolePAIRING) (hk : key = v.imgKey) : v.hbJudged peerRole key a =
    if peerRole = rolePAIRING ∧ v.twn.ordered = false then v.coldPair a
    else if peerRole = roleSOLO then (v.setTwn { v.twn with roleFrom := v.inv.ticks, cut := none }).setRole roleSYNC
    else v := by
  rw [hbJudged_pairing hr, if_neg (by simp [hk])]

theorem does_heartbeat_join (hr : s.role = rolePAIRING) (hk : image.toNat = s.imgKey) (hp : peer.val = roleSOLO) :
    Does (.heartbeatReceive lseq peer base image a) s fun t => t.role = roleSYNC ∧ t.twn.cut = none := by
  refine does_heartbeat fun v taken _ w out => ?_
  rw [hbJudged_match (taken.role.trans hr) (hk.trans taken.image.symm), if_neg fun e => absurd (hp.symm.trans e.1) (by decide), if_pos hp] at out
  have set := roleSet (v.setTwn { v.twn with roleFrom := v.inv.ticks, cut := none }) (r := roleSYNC) (by decide)
  obtain ⟨q, b, twn⟩ := out.twn
  rw [settled_role, settled_twn', twn, set.twn]
  exact ⟨out.role.trans set.role, rfl⟩

theorem does_heartbeat_coldA (hr : s.role = rolePAIRING) (hk : image.toNat = s.imgKey) (hp : peer.val = rolePAIRING) (ho : s.twn.ordered = false)
    (side : s.get F.TWN_CTRL_SIDE = 0) : Does (.heartbeatReceive lseq peer base image a) s fun t =>
      t.role = roleACTIVE ∧ t.twn.pairAt = some (s.now + 20000) := by
  refine does_heartbeat fun v taken _ w out => ?_
  have now : v.now = s.now := by rw [State.now, State.now, State.dom, State.dom, taken.inv]
  have cold : v.coldPair a = ((v.setTwn { v.twn with pairAt := some (v.now + 20000) }).emit (.pairTime (v.now + 20000))).setRole roleACTIVE :=
    if_pos ((taken.kept.get (by decide)).trans side)
  rw [hbJudged_match (taken.role.trans hr) (hk.trans taken.image.symm), if_pos ⟨hp, taken.ordered.trans ho⟩, cold] at out
  have set := roleSet ((v.setTwn { v.twn with pairAt := some (v.now + 20000) }).emit (.pairTime (v.now + 20000))) (r := roleACTIVE) (by decide)
  obtain ⟨q, b, twn⟩ := out.twn
  rw [settled_role, settled_twn', twn, set.twn, ← now]
  exact ⟨out.role.trans set.role, rfl⟩

theorem does_heartbeat_coldB {x : Align} (hr : s.role = rolePAIRING) (hk : image.toNat = s.imgKey) (hp : peer.val = rolePAIRING)
    (ho : s.twn.ordered = false) (side : s.get F.TWN_CTRL_SIDE = 1) (ha : a = some x) :
    Does (.heartbeatReceive lseq peer base image a) s fun t =>
      t.role = roleSTANDBY ∧ t.twn.pairAt = some (x.tp : Int) ∧ t.twn.lagging = true := by
  subst ha
  refine does_heartbeat fun v taken _ w out => ?_
  have cold : v.coldPair (some x) = ((v.alignTime x).setTwn { (v.alignTime x).twn with pairAt := some x.tp }).setRole roleSTANDBY :=
    if_neg (by rw [taken.kept.get (show F.TWN_CTRL_SIDE ∈ takenFields by decide), side]; decide)
  rw [hbJudged_match (taken.role.trans hr) (hk.trans taken.image.symm), if_pos ⟨hp, taken.ordered.trans ho⟩, cold] at out
  have set := roleSet ((v.alignTime x).setTwn { (v.alignTime x).twn with pairAt := some x.tp }) (r := roleSTANDBY) (by decide)
  obtain ⟨q, b, twn⟩ := out.twn
  rw [settled_role, settled_twn', twn, set.twn]
  exact ⟨out.role.trans set.role, rfl, (alignTime_shows v x).2⟩

theorem does_heartbeat_parted (hr : s.role = roleSYNC) (hp : peer.val ≠ roleSOLO) :
    Does (.heartbeatReceive lseq peer base image a) s fun t => t.role = rolePAIRING := by
  refine does_heartbeat fun v taken _ w out => ?_
  rw [hbJudged_sync (taken.role.trans hr) hp] at out
  rw [settled_role]
  exact out.role.trans (roleSet _ (r := rolePAIRING) (by decide)).role

theorem does_heartbeat_joined (hr : s.role = roleSOLO) (hp : peer.val = roleSTANDBY) :
    Does (.heartbeatReceive lseq peer base image a) s fun t => t.role = roleACTIVE ∧ t.bit F.TWN_EVT_JOINED = true := by
  refine does_heartbeat fun v taken _ w out => ?_
  rw [hbJudged_joined (taken.role.trans hr) hp] at out
  rw [settled_role, settled_bit_free _ _ (by decide), out.role, out.kept.kept.bit (show F.TWN_EVT_JOINED ∈ roleFields by decide)]
  exact ⟨(State.get_evt_free _ (by decide) ..).trans (roleSet _ (r := roleACTIVE) (by decide)).role,
    State.bit_evt_same _ _ _ _ (by decide) (by decide)⟩

theorem does_heartbeat_dual (hr : s.role ∈ [roleACTIVE, roleSOLO]) (hp : peer.val ∈ [roleACTIVE, roleSOLO]) :
    Does (.heartbeatReceive lseq peer base image a) s fun t => t.get F.TWN_CAUSE_CAUSE = causeDUAL_ACTIVE ∧ t.bit F.TWN_EVT_DUAL = true ∧
      (s.get F.TWN_CTRL_SIDE = 0 → t.role = s.role) ∧ (s.get F.TWN_CTRL_SIDE = 1 → t.role = roleOFF ∧ t.rst.due.testBit 5 = true) := by
  refine does_heartbeat fun v taken _ w out => ?_
  obtain ⟨x, regs, judged⟩ := hbJudged_dual (v := v) (peerRole := peer.val) (key := image.toNat) (a := a) (by rwa [taken.role]) hp
  obtain ⟨cause, dual, role, side⟩ := dualSeen_shows x
  have before : x.role = s.role ∧ x.get F.TWN_CTRL_SIDE = s.get F.TWN_CTRL_SIDE :=
    ⟨(State.get_of_regs regs _ _ _).trans taken.role, (State.get_of_regs regs _ _ _).trans (taken.kept.get (by decide))⟩
  rw [before.1] at role
  rw [before.2] at side
  rw [judged, side] at out
  rw [settled_get_free _ _ (by decide), settled_bit_free _ _ (by decide), settled_role, settled_rst, out.kept.rst, out.role,
    out.kept.kept.get (show F.TWN_CAUSE_CAUSE ∈ roleFields by decide), out.kept.kept.bit (show F.TWN_EVT_DUAL ∈ roleFields by decide)]
  by_cases h : s.get F.TWN_CTRL_SIDE = 0
  · have hold := RoleKept.enterHold x.dualSeen
    rw [if_pos h, hold.kept.get (show F.TWN_CAUSE_CAUSE ∈ roleFields by decide), hold.kept.bit (show F.TWN_EVT_DUAL ∈ roleFields by decide),
      hold.kept.role]
    exact ⟨cause, dual, fun _ => role, fun e => by rw [h] at e; cases e⟩
  · obtain ⟨off, due, kept, -⟩ := roleCore_shows x.dualSeen
    rw [if_neg h, kept.get (show F.TWN_CAUSE_CAUSE ∈ twnFields by decide), kept.bit (show F.TWN_EVT_DUAL ∈ twnFields by decide)]
    exact ⟨cause, dual, fun e => absurd e h, fun _ => ⟨off, due⟩⟩

end

end Sys2Proof.Machine
end

section
set_option Elab.async false
/-! PROOFS. The warm join, the failures that end a role, and the commands of the twin controller (14_twin_lockstep.md R398, R412, R413, R419, R420,
R425, R428). -/

namespace Sys2Proof.Machine

variable {s t u v : State} {r : Nat}

/-! ## The warm join (R413, R425) -/

theorem does_syncCut (a : Align) {c : Nat} (hr : s.role = roleSYNC) (hc : s.twn.cut = some c) : Does (.syncCut a) s fun t =>
    t.role = roleSHADOW ∧ t.twn.lagging = true ∧ t.twn.okRun = 0 := by
  have cut : ∃ n, s.syncCut a = ((s.alignTime a).setTwn { (s.alignTime a).twn with cutTime := n, okRun := 0 }).setRole roleSHADOW := by
    unfold State.syncCut
    simp only [hc]
    exact ⟨_, if_pos hr⟩
  obtain ⟨n, cut⟩ := cut
  have set := roleSet ((s.alignTime a).setTwn { (s.alignTime a).twn with cutTime := n, okRun := 0 }) (r := roleSHADOW) (by decide)
  obtain ⟨x, p, e⟩ := rejudged_only (s.syncCut a) s.now
  refine does_of rfl ?_
  rw [e, settled_role, settled_twn', cut]
  refine ⟨set.role, ?_, ?_⟩
  · exact (congrArg TwnState.lagging set.twn).trans (alignTime_shows s a).2
  · exact congrArg TwnState.okRun set.twn

theorem does_cmdSyncCut (lseq : Byte) (c : CutCmd) (hop : c.op = 5) (hr : s.role = roleSYNC) : Does (.twinCmdSyncCut lseq c) s fun t =>
    t.twn.cut = some c.cut.toNat ∧ t.role = roleSYNC := by
  have unlogged : s.isLogged = false := by
    rw [State.isLogged, hr]
    decide
  have taken := Taken.takeLseq s (type := 6) lseq.toNat (by simp [unlogged])
  have role := taken.role.trans hr
  have cut : s.cmdSyncCut lseq.toNat c.op.toNat c.cut.toNat =
      (s.takeLseq 6 lseq.toNat).setTwn { (s.takeLseq 6 lseq.toNat).twn with cut := some c.cut.toNat } := by
    unfold State.cmdSyncCut
    rw [hop]
    exact if_pos role
  refine does_of rfl ?_
  rw [cut, settled_role, settled_twn']
  exact ⟨rfl, role⟩

theorem does_cmdUnknown (lseq : Byte) (c : CutCmd) (hop : c.op ≠ 5) (next : tabGet 256 s.twn.lseqIn 6 ∈ [256, lseq.toNat]) :
    Does (.twinCmdSyncCut lseq c) s fun t => t.get F.TWN_CNT_COUNT 8 = min (s.get F.TWN_CNT_COUNT 8 + 1) (2 ^ 32 - 1) ∧ t.role = s.role ∧
      t.twn.cut = s.twn.cut := by
  have odd : c.op.toNat ≠ 5 := fun e => hop (BitVec.eq_of_toNat_eq e)
  have taken : s.takeLseq 6 lseq.toNat = s.setTwn { s.twn with lseqIn := tabSet 256 s.twn.lseqIn 6 ((lseq.toNat + 1) % 256) } :=
    if_pos (by simpa using next)
  have counted : s.cmdSyncCut lseq.toNat c.op.toNat c.cut.toNat =
      (s.setTwn { s.twn with lseqIn := tabSet 256 s.twn.lseqIn 6 ((lseq.toNat + 1) % 256) }).twnCnt 8 := by
    unfold State.cmdSyncCut
    rw [taken]
    exact if_pos odd
  refine does_of rfl ?_
  rw [counted, settled_role, settled_twn', settled_get _ _ _ _ _ (not_pba (by decide) ⟨by decide, by decide⟩)]
  exact ⟨State.get_inc_same _ _ _ _ _ (by decide), (Taken.twnCnt _ (by decide) 1).role, rfl⟩

theorem does_joinComplete (hr : s.role = roleSHADOW) (past : s.twn.cutTime + s.lMax + 8000 ≤ s.now) (run : 64 ≤ s.twn.okRun) :
    Does .joinComplete s fun t => t.role = roleSTANDBY ∧ t.bit F.TWN_EVT_JOINED = true := by
  have joined : s.joinComplete = (s.setRole roleSTANDBY).evt F.TWN_EVT_JOINED := if_pos ⟨hr, past, run⟩
  refine does_of rfl ?_
  rw [joined, settled_role, settled_bit_free _ _ (by decide)]
  exact ⟨(State.get_evt_free _ (by decide) ..).trans (roleSet s (by decide)).role, State.bit_evt_same _ _ _ _ (by decide) (by decide)⟩

/-! ## The peer is lost (R398, R419) -/

section
variable {t0 : Nat} (hb : s.twn.hbRecv = some t0) (late : t0 + 384 ≤ s.inv.ticks)
include hb late

theorem hbTimeout_eq (hr : s.role ≠ roleOFF) : s.hbTimeout = (s.twnCnt 9 3).peerFailed causeHB_TIMEOUT false := by
  unfold State.hbTimeout
  rw [hb]
  dsimp only
  rw [if_neg (by omega), if_neg hr]

theorem does_hbTimeout_standby (hr : s.role = roleSTANDBY) : Does .hbTimeout s fun t => t.role = roleSOLO ∧
    t.get F.TWN_CAUSE_CAUSE = causeHB_TIMEOUT ∧ t.bit F.TWN_EVT_PROMOTED = true ∧ t.bit F.TWN_EVT_PEER_LOST = true := by
  have role : (s.twnCnt 9 3).role = roleSTANDBY := (Taken.twnCnt s (by decide) 3).role.trans hr
  obtain ⟨failed, promoted⟩ := peerFailed_standby (s.twnCnt 9 3) role (c := causeHB_TIMEOUT) (by decide) false
  refine does_of rfl ?_
  rw [hbTimeout_eq hb late (by rw [hr]; decide), settled_role, settled_get_free _ _ (by decide), settled_bit_free _ _ (by decide),
    settled_bit_free _ _ (by decide)]
  exact ⟨failed.role, failed.cause, promoted, failed.lost⟩

theorem does_hbTimeout_active (hr : s.role = roleACTIVE) : Does .hbTimeout s fun t => t.role = roleSOLO ∧
    t.get F.TWN_CAUSE_CAUSE = causeHB_TIMEOUT ∧ t.bit F.TWN_EVT_PEER_LOST = true ∧ t.mode = s.mode := by
  have role : (s.twnCnt 9 3).role = roleACTIVE := (Taken.twnCnt s (by decide) 3).role.trans hr
  obtain ⟨failed, mode⟩ := peerFailed_active (s.twnCnt 9 3) role (c := causeHB_TIMEOUT) (by decide) false
  refine does_of rfl ?_
  rw [hbTimeout_eq hb late (by rw [hr]; decide), settled_role, settled_get_free _ _ (by decide), settled_bit_free _ _ (by decide), settled_mode, mode]
  exact ⟨failed.role, failed.cause, failed.lost, State.get_put_free (f := F.TWN_CNT_COUNT) _ (by decide) ..⟩

end

/-- The state in which the transmitter has lost its link. -/
def State.linkCut (s : State) : State := (s.put F.TWN_STAT_LINK 0).setTwn { s.twn with txq := [], tagsOut := [] }

theorem twinLinkDown_eq (up : s.bit F.TWN_STAT_LINK = true) : s.twinLinkDown = s.linkCut.peerFailed causeLINK_DOWN false := if_pos up

/-- Whatever the role, the failure of the peer leaves the link as it is. -/
theorem link_peerFailed (s : State) {c : Nat} (hc : c < 256) (peer : Bool) : (s.peerFailed c peer).bit F.TWN_STAT_LINK = s.bit F.TWN_STAT_LINK := by
  by_cases standby : s.role = roleSTANDBY
  · exact (peerFailed_standby s standby hc peer).1.link
  by_cases active : s.role = roleACTIVE
  · exact (peerFailed_active s active hc peer).1.link
  have gone := peerGone_kept s
  rw [peerFailed_eq, gone.role, if_neg standby, if_neg active]
  split
  · exact gone.bit (by decide)
  · exact (peerNoted_shows s hc peer).2.2.2.2

theorem does_twinLinkDown (up : s.bit F.TWN_STAT_LINK = true) : Does .dvorfazaLinkDown s fun t => t.bit F.TWN_STAT_LINK = false ∧
    (s.role ∈ [roleACTIVE, roleSTANDBY] → t.role = roleSOLO ∧ t.get F.TWN_CAUSE_CAUSE = causeLINK_DOWN) := by
  have cut : s.linkCut.role = s.role ∧ s.linkCut.bit F.TWN_STAT_LINK = false :=
    ⟨State.get_put_beside s (by decide) .., State.bit_put_zero s (by decide) _ _⟩
  refine does_of rfl ?_
  rw [twinLinkDown_eq up, settled_bit_free _ _ (by decide), settled_role, settled_get_free _ _ (by decide), link_peerFailed _ (by decide)]
  refine ⟨cut.2, fun hr => ?_⟩
  simp only [List.mem_cons, List.not_mem_nil, or_false] at hr
  rcases hr with active | standby
  · obtain ⟨failed, -⟩ := peerFailed_active s.linkCut (cut.1.trans active) (c := causeLINK_DOWN) (by decide) false
    exact ⟨failed.role, failed.cause⟩
  · obtain ⟨failed, -⟩ := peerFailed_standby s.linkCut (cut.1.trans standby) (c := causeLINK_DOWN) (by decide) false
    exact ⟨failed.role, failed.cause⟩

theorem does_twinLinkUp (s : State) : Does .dvorfazaLinkUp s fun t => t.bit F.TWN_STAT_LINK = true ∧ t.role = s.role ∧ s.keepsRegs t [R.TWN_STAT.base] := by
  refine does_of (u := s.put F.TWN_STAT_LINK 1) rfl ?_
  rw [settled_bit_free _ _ (by decide), settled_role]
  exact ⟨State.bit_put_one _ (by decide) (by decide) _ _, State.get_put_beside s (by decide) ..,
    settled_keeps _ _ _ (State.keepsRegs_put (State.keepsRegs_refl _) _ _ _ _ (by decide))⟩

theorem does_failReceive (lseq cause : Byte) (hr : s.role = roleACTIVE) (hc : cause.toNat ≠ causeDIVERGED) :
    Does (.failReceive lseq cause) s fun t =>
      t.role = roleSOLO ∧ t.get F.TWN_CAUSE_CAUSE = cause.toNat ∧ t.bit F.TWN_CAUSE_PEER = true := by
  have taken := Taken.takeLseq s (type := 8) lseq.toNat (by simp)
  have failed : s.failReceive lseq.toNat cause.toNat = (s.takeLseq 8 lseq.toNat).peerFailed cause.toNat true := if_neg hc
  obtain ⟨lost, -⟩ := peerFailed_active (s.takeLseq 8 lseq.toNat) (taken.role.trans hr) cause.isLt true
  refine does_of rfl ?_
  rw [failed, settled_role, settled_get_free _ _ (by decide), settled_bit_free _ _ (by decide)]
  exact ⟨lost.role, lost.cause, lost.told⟩

theorem isActive_congr (h : t.role = s.role) : t.isActive = s.isActive := by rw [State.isActive, State.isActive, h]

theorem does_failDiverged (lseq cause : Byte) (active : s.isActive = true) (hc : cause.toNat = causeDIVERGED) :
    Does (.failReceive lseq cause) s fun t => t.role = roleSOLO ∧ t.bit F.TWN_EVT_DIVERGED = true ∧ t.get F.TWN_CAUSE_CAUSE = causeDIVERGED := by
  have taken := Taken.takeLseq s (type := 8) lseq.toNat (by simp)
  have failed : s.failReceive lseq.toNat cause.toNat = (s.takeLseq 8 lseq.toNat).peerDiverged true := if_pos hc
  refine does_of rfl ?_
  rw [failed]
  generalize s.takeLseq 8 lseq.toNat = v at taken
  have set := roleSet ((v.cause causeDIVERGED true).evt F.TWN_EVT_DIVERGED) (r := roleSOLO) (by decide)
  have event : ((v.cause causeDIVERGED true).evt F.TWN_EVT_DIVERGED).bit F.TWN_EVT_DIVERGED = true :=
    State.bit_evt_same _ _ _ _ (by decide) (by decide)
  have noted : ((v.cause causeDIVERGED true).evt F.TWN_EVT_DIVERGED).get F.TWN_CAUSE_CAUSE = causeDIVERGED :=
    (State.get_evt_free _ (by decide) ..).trans (cause_shows v (by decide) true).1
  have out := (RoleKept.sendCmd (((v.cause causeDIVERGED true).evt F.TWN_EVT_DIVERGED).setRole roleSOLO) 4 causeDIVERGED []).trans
    (RoleKept.assertFence _)
  have diverged : v.peerDiverged true =
      ((((v.cause causeDIVERGED true).evt F.TWN_EVT_DIVERGED).setRole roleSOLO).sendCmd 4 causeDIVERGED []).assertFence :=
    if_pos ((isActive_congr taken.role).trans active)
  rw [diverged, settled_role, settled_bit_free _ _ (by decide), settled_get_free _ _ (by decide), out.kept.role]
  exact ⟨set.role, (out.kept.bit (by decide)).trans ((set.kept.bit (by decide)).trans event),
    (out.kept.get (by decide)).trans ((set.kept.get (by decide)).trans noted)⟩

/-! ## Fencing, and the commands of the host (R412, R420, R428) -/

theorem does_fenced (sent : List (Port × Nat)) (en : s.bit F.TWN_CTRL_FENCE_EN = true) (hr : s.role ≠ roleOFF) :
    Does (.twfIAssert sent) s fun t => t.role = roleOFF ∧ t.inv.fenced = true ∧ t.rst.due.testBit 5 = true ∧
      t.get F.TWN_CAUSE_CAUSE = causeFENCED := by
  have fenced : ∃ w : State, s.fenced (sent.map fun e => (e.1.val, e.2)) = (w.tioFence.cause causeFENCED).roleCore := ⟨_, if_pos ⟨en, hr⟩⟩
  obtain ⟨w, fenced⟩ := fenced
  obtain ⟨off, due, kept, inv⟩ := roleCore_shows (w.tioFence.cause causeFENCED)
  refine does_of rfl ?_
  rw [fenced, settled_role, settled_inv, settled_rst, settled_get_free _ _ (by decide), inv]
  exact ⟨off, rfl, due, (kept.get (by decide)).trans (cause_shows w.tioFence (by decide) false).1⟩

theorem does_releaseFence {t0 : Nat} (ho : s.twn.twfO = some t0) (late : t0 + 5000 ≤ s.inv.ticks) : Does .twfORelease s fun t =>
    t = settled s ((s.setTwn { s.twn with twfO := none }).emit (.pin "TWF_O" false)) := by
  have released : s.releaseFence = (s.setTwn { s.twn with twfO := none }).emit (.pin "TWF_O" false) := by
    unfold State.releaseFence
    rw [ho]
    exact if_pos late
  exact does_of rfl (by rw [released])

section
variable {h : HostId} (ho : s.opens h R.TWN_CMD 0 0 = true)

theorem regWrite_twnCmd (host : Nat) {op : Nat} (hop : op < 16) : s.regWrite host R.TWN_CMD 0 0 15 (keyWord op) = ([], s.twinCommand 0x5A op) := by
  have write : s.regWrite host R.TWN_CMD 0 0 15 (keyWord op) = ([], s.twinCommand (keyOf (keyWord op)) (getBits (keyWord op) 3 0)) := rfl
  rw [write, keyOf_keyWord (by omega), low_keyWord (by decide) (by omega)]

include ho

theorem does_resetPeer (active : s.isActive = true) (up : s.bit F.TWN_STAT_LINK = true) : Does (.resetPeer h) s fun t =>
    t.twn.txq = s.twn.txq ++ [{ type := 6, h := 4 * 2 ^ 40, pl := [], arr := some s.tcc }] ∧ t.role = s.role := by
  have command : s.twinCommand 0x5A 1 = s.sendCmd 4 0 [] := if_pos ⟨rfl, rfl, active⟩
  have sent : s.sendCmd 4 0 [] = s.setTwn { s.twn with txq := s.twn.txq ++ [{ type := 6, h := 4 * 2 ^ 40, pl := [], arr := some s.tcc }] } := if_pos up
  refine does_rowWrite_own rfl ho (by decide) (regWrite_twnCmd _ (by decide)) ?_
  rw [command, sent, settled_role, settled_twn']
  exact ⟨rfl, rfl⟩

/-- A command that the role does not allow. -/
theorem does_twnRefused {c : Instr} {op : Nat} (he : exec c s = finish s (s.rowWrite (hostNum h) R.TWN_CMD 0 0 (keyWord op))) (hop : op < 16)
    (refused : s.twinCommand 0x5A op = s.evt F.TWN_EVT_CFG_ERR) : Does c s fun t =>
      t.bit F.TWN_EVT_CFG_ERR = true ∧ s.keepsRegs t [R.TWN_EVT.base] ∧ s.onlyRegs t := by
  refine does_rowWrite_own he ho (by decide) (regWrite_twnCmd _ hop) ?_
  rw [refused, settled_bit_free _ _ (by decide)]
  exact ⟨State.bit_evt_same _ _ _ _ (by decide) (by decide), settled_keeps _ _ _ (State.keepsRegs_evt (State.keepsRegs_refl _) _ _ _ (by decide)),
    settled_onlyRegs (State.onlyRegs_evt State.onlyRegs_refl _ _ _)⟩

theorem does_swap (hr : s.role = roleACTIVE) : Does (.swap h) s fun t => t.role = roleOFF ∧ t.get F.TWN_CAUSE_CAUSE = causeSWAP ∧
    t.rst.due.testBit 5 = true := by
  have command : s.twinCommand 0x5A 2 = ((s.cause causeSWAP).sendFail causeSWAP).roleCore := by
    unfold State.twinCommand
    rw [if_neg (fun e => absurd e.2.1 (by decide)), if_pos ⟨rfl, rfl, hr⟩]
  obtain ⟨off, due, kept, -⟩ := roleCore_shows ((s.cause causeSWAP).sendFail causeSWAP)
  refine does_rowWrite_own rfl ho (by decide) (regWrite_twnCmd _ (by decide)) ?_
  rw [command, settled_role, settled_rst, settled_get_free _ _ (by decide)]
  exact ⟨off, (kept.get (by decide)).trans (((RoleKept.sendFail _ _).kept.get (by decide)).trans (cause_shows s (by decide) false).1), due⟩

end

/-- No register of the capture FIFO's window is mirrored. -/
theorem not_cffWindow {a i j : Nat} {r : RegSpec} (hr : regAt a = some (r, i, j)) (hm : mirrored r = true) : cffWindow a = false := by
  by_contra window
  have inside : 0x71000 ≤ a ∧ a < 0x72000 := by simpa [cffWindow] using window
  have block : blockAt a = blockCFF := by
    unfold blockAt
    repeat rw [if_neg (by omega)]
    rw [if_pos (by omega)]
  have plain : ∀ q ∈ blockCFF.regs, mirrored q = false := by decide
  unfold regAt at hr
  rw [block] at hr
  split at hr
  · next r' i' j' e =>
    obtain ⟨q, hq, hi⟩ := List.exists_of_findSome?_eq_some e
    split at hr
    · cases hr
    · cases hr
      cases h : q.index a with
      | none => rw [h] at hi; cases hi
      | some ij =>
        rw [h] at hi
        cases hi
        rw [plain _ hq] at hm
        cases hm
  · cases hr

theorem does_ignoredWrite {h : HostId} {off : BitVec 24} {data : BitVec 64} {q : RegSpec} {i j : Nat} (hr : regAt off.toNat = some (q, i, j))
    (hm : mirrored q = true) (hi : s.ignoresMirrored = true) (hl : s.linked h = true) (hg : s.gated off.toNat = false) (hc : s.compact = false)
    (ok : s.maskOk (hostNum h) off.toNat = true) (aligned : off.toNat % 4 = 0) : Does (.registerWrite h (at0 off) .w32 data) s fun t =>
      t.bit F.TWN_EVT_WR_STANDBY = true ∧ t.get F.TWN_CNT_COUNT 13 = min (s.get F.TWN_CNT_COUNT 13 + 1) (2 ^ 32 - 1) ∧
      s.keepsRegs t [R.TWN_EVT.base, R.TWN_CNT.off 13 0] ∧ s.onlyRegs t := by
  have write : s.hostWrite (hostNum h) off.toNat .w32 data = (s.twnCnt 13).evt F.TWN_EVT_WR_STANDBY := by
    rw [hostWrite_w32 hl aligned, writeWord_reaches hg hc ok (not_cffWindow hr hm) hr]
    have at_ : s.regWriteAt (hostNum h) 0 off.toNat off.toNat 15 q i j (data.setWidth 32) (data.setWidth 32) =
        (s.twnCnt 13).evt F.TWN_EVT_WR_STANDBY := by
      unfold State.regWriteAt
      rw [hm, hi]
      rfl
    rw [at_]
    unfold State.rsvdWrite
    exact if_pos (by simp [hm, hi])
  have exec_ : exec (.registerWrite h (at0 off) .w32 data) s = finish s (s.hostWrite (hostNum h) off.toNat .w32 data) := rfl
  rw [write] at exec_
  refine does_of exec_ ?_
  rw [settled_bit_free _ _ (by decide), settled_get _ _ _ _ _ (not_pba (by decide) ⟨by decide, by decide⟩)]
  refine ⟨State.bit_evt_same _ _ _ _ (by decide) (by decide), ?_, settled_keeps _ _ _ ?_, settled_onlyRegs ?_⟩
  · have elsewhere : F.TWN_CNT_COUNT.reg.off 13 0 ≠ F.TWN_EVT_WR_STANDBY.reg.off 0 0 := by decide
    have width : F.TWN_CNT_COUNT.width = 32 := rfl
    rw [State.get_evt_other _ _ _ _ _ _ _ elsewhere, State.twnCnt, State.get_inc_same _ _ _ _ _ (by decide), width]
  · exact State.keepsRegs_evt (State.keepsRegs_put (State.keepsRegs_refl _) _ _ _ _ (by decide)) _ _ _ (by decide)
  · exact State.onlyRegs_evt (State.onlyRegs_put State.onlyRegs_refl _ _ _ _) _ _ _

/-- Settles O59: a change of role is one operation that shows the role and keeps what else shows a twin's state; each clause is the branch that its
event takes before that change. -/
theorem twinRoles : Obligations.TwinRoles := by
  refine ⟨fun s en off mode due => does_twinEnable en off mode due,
    fun s h data ho => ⟨fun hr => does_twinDisable_active ho hr, fun hr held => does_twinDisable_open ho hr held,
      fun hr => does_twinDisable_logged ho hr⟩,
    fun s hr none_ late => does_pairTimeout hr none_ late, fun s hr cut late => does_syncTimeout hr cut late,
    fun s lseq peer base key a => ⟨fun hr hk => does_heartbeat_mismatch hr hk, fun hr hk hp => does_heartbeat_join hr hk hp,
      fun hr hk hp ho side => does_heartbeat_coldA hr hk hp ho side, fun x hr hk hp ho side ha => does_heartbeat_coldB hr hk hp ho side ha,
      fun hr hp => does_heartbeat_parted hr hp, fun hr hp => does_heartbeat_joined hr hp, fun hr hp => does_heartbeat_dual hr hp⟩,
    fun s a c hr hc => does_syncCut a hr hc,
    fun s lseq c => ⟨fun hop hr => does_cmdSyncCut lseq c hop hr, fun hop next => does_cmdUnknown lseq c hop next⟩,
    fun s hr past run => does_joinComplete hr past run,
    fun s t0 hb late => ⟨fun hr => does_hbTimeout_standby hb late hr, fun hr => does_hbTimeout_active hb late hr⟩,
    fun s up => does_twinLinkDown up, fun s => does_twinLinkUp s,
    fun s lseq cause => ⟨fun hr hc => does_failReceive lseq cause hr hc, fun active hc => does_failDiverged lseq cause active hc⟩,
    fun s sent en hr => does_fenced sent en hr, fun s t0 ho late => does_releaseFence ho late,
    fun s h ho => ⟨fun active up => does_resetPeer ho active up, fun idle => does_twnRefused ho rfl (by decide) ?_,
      fun hr => does_swap ho hr, fun hr => does_twnRefused ho rfl (by decide) ?_⟩,
    fun s h off data r i j hr hm hi hl hg hc ok aligned => does_ignoredWrite hr hm hi hl hg hc ok aligned⟩
  · unfold State.twinCommand
    rw [if_neg (by simp [idle]), if_neg (fun e => absurd e.2.1 (by decide))]
  · unfold State.twinCommand
    rw [if_neg (fun e => absurd e.2.1 (by decide)), if_neg (by simp [hr])]

end Sys2Proof.Machine
end

section
set_option Elab.async false
/-! PROOFS. The operations of the switch core leave the registers of GLB, RST, MGT and INV and the state of Invar alone. -/

namespace Sys2Proof.Machine

variable {s t u : State}

/-- A kept key is found as before. -/
theorem tabFind_keep {α : Type} (p : Nat → Bool) (l : Tab α) {k : Nat} (h : p k = true) : tabFind? k (tabKeep p l) = tabFind? k l := by
  induction l with
  | nil => rfl
  | cons e l ih =>
    obtain ⟨j, v⟩ := e
    rw [tabKeep, List.filter_cons]
    split
    · rw [tabFind?, tabFind?, ← tabKeep, ih]
    · next drop =>
      have other : k ≠ j := fun e => drop (e ▸ h)
      rw [tabFind?, if_neg other, ← ih, tabKeep]

namespace Low

theorem dec {f : Fld} {i j n : Nat} (h : Low s t) (hf : 0x40000 ≤ f.reg.base := by decide) : Low s (t.dec f i j n) := h.put hf

theorem portCnt (h : Low s t) {p k n : Nat} : Low s (t.portCnt p k n) := (h.put).put

theorem dropCount (h : Low s t) {code : Nat} : Low s (t.dropCount code) := (h.inc (f := F.SWC_DROP_CNT_COUNT)).same

/-! ## Counts, cells and references (R203, R210) -/

theorem setOcc (s : State) (n v : Nat) : Low s (s.setOcc n v) := ((Low.refl s).put).put

theorem freeCell (s : State) (k i : Nat) : Low s (s.freeCell k i) := by
  unfold State.freeCell
  split
  · exact Low.refl s
  · dsimp only
    exact Low.ite (((Low.same (Low.refl s)).put).dec.dec) ((Low.same (Low.refl s)).put)

theorem unrefCell (s : State) (k i : Nat) : Low s (s.unrefCell k i) := by
  unfold State.unrefCell
  split
  · exact Low.refl s
  · exact Low.ite (freeCell _ _ _) (Low.same (Low.refl s))

theorem setRef (s : State) (k i r : Nat) : Low s (s.setRef k i r) := by
  unfold State.setRef
  split
  · exact Low.refl s
  · exact Low.same (Low.refl s)

theorem addRef (s : State) (k i : Nat) : Low s (s.addRef k i) := by
  unfold State.addRef
  split
  · exact Low.refl s
  · exact Low.same (Low.refl s)

theorem releaseRefs (s : State) (f : Frame) (c : Copy) : Low s (s.releaseRefs f c) :=
  Low.foldl (Low.refl s) _ fun v o => by
    cases o with
    | none => exact Low.refl v
    | some i => exact unrefCell _ _ _

theorem addRefs (s : State) (k cls : Nat) : Low s (s.addRefs k cls) := by
  unfold State.addRefs
  split
  · exact Low.refl s
  · refine Low.foldl (Low.refl s) _ fun v o => ?_
    cases o with
    | none => exact Low.refl v
    | some i => exact addRef _ _ _

theorem modFrame (h : Low s t) {k : Nat} {g : Frame → Frame} : Low s (t.modFrame k g) := by
  unfold State.modFrame
  split
  · exact h.same
  · exact h

theorem settle (s : State) (k : Nat) : Low s (s.settle k) := by
  unfold State.settle
  split
  · exact Low.refl s
  · refine Low.ite ?_ (Low.refl s)
    have heads : ∀ (v : State) (e : Nat × Option Nat), Low v (match e.2 with
        | some i => v.freeCell k i
        | none => v.put F.SWC_FREE_CELLS (v.get F.SWC_FREE_CELLS + 1)) := fun v e => by
      split
      · exact freeCell _ _ _
      · exact Low.put (Low.refl v)
    exact Low.ite (Low.same (Low.put (f := F.SWC_FREE_CELLS) (Low.foldl (Low.foldl (Low.refl s) _ fun v i => freeCell v k i) _ heads)))
      (Low.same (Low.put (f := F.SWC_FREE_CELLS) (Low.foldl (Low.foldl (Low.refl s) _ fun v i => freeCell v k i) _ heads)))

/-! ## Lists (R208 to R210) -/

theorem linkCopy (s : State) (n : Nat) (c : Copy) (cells : Nat) : Low s (s.linkCopy n c cells) :=
  modFrame (Low.same (((setOcc s n _).dec (f := F.SWC_FREE_DESC_DESC)).put (f := F.SWC_QFRM_COPIES)))

theorem unlink (s : State) (n i : Nat) : Low s (s.unlink n i) :=
  ((Low.same (Low.refl s)).put (f := F.SWC_FREE_DESC_DESC)).put (f := F.SWC_QFRM_COPIES)

theorem copyGone (s : State) (c : Copy) : Low s (s.copyGone c) := (modFrame (Low.refl s)).trans (settle _ _)

theorem endCopy (s : State) (n : Nat) (c : Copy) : Low s (s.endCopy n c) := by
  unfold State.endCopy
  split
  · exact Low.refl s
  · exact (modFrame ((setOcc _ _ _).trans (releaseRefs _ _ _))).trans (settle _ _)

theorem removeCopy (s : State) (n i : Nat) : Low s (s.removeCopy n i) := by
  unfold State.removeCopy
  split
  · exact Low.refl s
  · exact (unlink _ _ _).trans (endCopy _ _ _)

theorem removeWhere (s : State) (n : Nat) (p : Copy → Bool) (k : Nat) : Low s (s.removeWhere n p k) := by
  induction k generalizing s with
  | zero => exact Low.refl s
  | succ k ih =>
    unfold State.removeWhere
    split
    · exact Low.refl s
    · exact (removeCopy _ _ _).trans (ih _)

theorem removeFrameCopies (s : State) (k : Nat) (p : Copy → Bool) : Low s (s.removeFrameCopies k p) :=
  Low.foldl (Low.refl s) _ fun _ _ => removeWhere _ _ _ _

theorem exitTaken (s : State) (k code : Nat) : Low s (s.exitTaken k code) := Low.ite (modFrame (Low.refl s)) (Low.refl s)

theorem exitCopy (s : State) (n i code : Nat) : Low s (s.exitCopy n i code) := by
  unfold State.exitCopy
  split
  · exact Low.refl s
  · exact (removeCopy _ _ _).trans (exitTaken _ _ _)

/-! ## Drops and captures (R34, R499 to R503) -/

theorem refuse (s : State) (c : Copy) (code : Nat) : Low s (s.refuse c code) := by
  unfold State.refuse
  dsimp only
  split
  · exact Low.inc (Low.evt (dropCount (Low.refl s)))
  · exact Low.evt (dropCount (Low.refl s))

theorem admitMirror (s : State) (n : Nat) (c : Copy) : Low s (s.admitMirror n c) := by
  unfold State.admitMirror
  split
  · exact Low.refl s
  · split
    · exact Low.same ((linkCopy _ _ _ _).trans (addRefs _ _ _))
    · exact Low.same (refuse _ _ _)

theorem captureDrop (s : State) (k code : Nat) : Low s (s.captureDrop k code) := by
  unfold State.captureDrop
  split
  · exact Low.refl s
  · exact Low.ite (Low.foldl (Low.refl s) _ fun _ _ => admitMirror _ _ _) (Low.refl s)

theorem digestInput (h : Low s t) {k : Nat} {f : Frame} {code : Nat} : Low s (t.digestInput k f code) := Low.ite (Low.digestItem h) h

theorem dropFrame (s : State) (k code : Nat) : Low s (s.dropFrame k code) := by
  unfold State.dropFrame
  split
  · exact Low.refl s
  · next f _ =>
    refine Low.ite (Low.refl s) (Low.trans (modFrame (Low.trans ?_ (captureDrop _ _ _))) (settle _ _))
    have counted : Low s ((if f.stage == .policed then s.dropCount code else (s.dropCount code).digestInput k f code).modFrame k
        fun f => { f with stage := .gone, drop := code }) :=
      modFrame (Low.ite (dropCount (Low.refl s)) (digestInput (dropCount (Low.refl s))))
    exact Low.ite (counted.trans (addRefs _ _ _)) counted

theorem dropHold (s : State) (k : Nat) : Low s (s.dropHold k) := by
  unfold State.dropHold
  split
  · exact Low.refl s
  · exact modFrame (Low.ite (releaseRefs _ _ _) (Low.refl s))

/-! ## Transmissions that end (R222, R223, R228) -/

theorem txRelease (s : State) (x : Tx) : Low s (s.txRelease x) := by
  unfold State.txRelease
  split
  · exact Low.refl s
  · exact Low.ite (Low.refl s) ((setOcc _ _ _).trans (releaseRefs _ _ _))

theorem stompTx (s : State) (p k n : Nat) (mem : Bool) : Low s (s.stompTx p k n mem) := by
  unfold State.stompTx
  split
  · exact Low.refl s
  · next x _ =>
    refine Low.ite (Low.refl s) (Low.evt ?_)
    have cut : Low s ((s.txRelease x).txSet p k (some { x with cut := some n, copy := { x.copy with nread := 1000 } })) :=
      Low.same (txRelease s x)
    cases mem
    · exact Low.inc (portCnt (modFrame (Low.ite (Low.same cut) cut)))
    · exact Low.inc (portCnt (modFrame (Low.ite (Low.same cut) cut)))

theorem stompFrame (s : State) (k n : Nat) (mem : Bool) : Low s (s.stompFrame k n mem) :=
  Low.foldl (Low.refl s) _ fun v _ => Low.foldl (Low.refl v) _ fun w _ => Low.ite (stompTx _ _ _ _ _) (Low.refl w)

theorem stompAll (s : State) (sent : List (Nat × Nat)) : Low s (s.stompAll sent) :=
  Low.foldl (Low.refl s) _ fun v _ => Low.foldl (Low.refl v) _ fun w _ => Low.ite (stompTx _ _ _ _ _) (Low.refl w)

theorem txEnd (s : State) (x : Tx) : Low s (s.txEnd x) := (modFrame (Low.ite (Low.refl s) (txRelease s x))).trans (settle _ _)

theorem fwdStop (s : State) (n : Nat) : Low s (s.fwdStop n) := by
  unfold State.fwdStop
  split
  · exact Low.refl s
  · next c _ =>
    refine Low.trans (Low.same (t := match s.frame c.fid with
      | some f => if allRead f c then s else (s.subOcc n f.begun).releaseRefs f c
      | none => s) ?_) (copyGone _ _)
    split
    · exact Low.ite (Low.refl s) ((setOcc _ _ _).trans (releaseRefs _ _ _))
    · exact Low.refl s

theorem ageDiscard (s : State) (n : Nat) : Low s (s.ageDiscard n) :=
  (Low.evt (Low.inc (dropCount (Low.refl s)))).trans (exitCopy _ _ _ _)

/-! ## The memories are cleared (R238) -/

/-- The ingress occupancies stand above the registers that these operations leave alone. -/
theorem clearOcc (s : State) : Low s s.clearOcc := by
  refine ⟨fun q i j hq => ?_, rfl, rfl⟩
  have above : ∀ r : RegSpec, 0x40000 ≤ r.base → r.hostPrivate = false → (r.index (q.off i j)).isNone = true := fun r hr hp => by
    cases h : r.index (q.off i j) with
    | none => rfl
    | some ij =>
      have at_ := RegSpec.off_of_index (i := ij.1) (j := ij.2) h hp
      have := r.base_le_off ij.1 ij.2
      omega
  have kept : ((R.PORT_OCC_PORT.index (q.off i j)).isNone && (R.PORT_OCC_PRI.index (q.off i j)).isNone) = true := by
    rw [above R.PORT_OCC_PORT (by decide) (by decide), above R.PORT_OCC_PRI (by decide) (by decide)]
    rfl
  rw [State.reg, State.reg, State.clearOcc, tabGet, tabGet, tabFind_keep _ _ kept]

/-- The registers of the counts of a switch core with no cell in use. -/
theorem emptyCounts (h : Low s t) : Low s ((((t.put F.SWC_FREE_CELLS 131072).put F.SWC_FREE_DESC_DESC 131072).put F.SWC_SHARED_S 0).put F.SWC_QUAR_CELLS 0) :=
  h.put.put.put.put

/-- New contents of the switch core's memories. -/
theorem memories (h : Low s t) {x : SwcState} {l : Tab (Option Frame)} {w : TwnState} : Low s { t with swc := x, frames := l, twn := w } := h.same

theorem clearSwc (s : State) : Low s s.clearSwc := by
  have lists := Low.foldl (clearOcc s) s.usedLists fun v n => ((Low.refl v).put (f := F.SWC_QOCC_CELLS) (v := 0) (i := n) (j := 0)).put
    (f := F.SWC_QFRM_COPIES) (v := 0) (i := n) (j := 0)
  unfold State.clearSwc
  dsimp only
  generalize s.usedLists.foldl _ s.clearOcc = v at *
  have taken := Low.foldl lists v.twn.fwdTx fun w (e : Nat × Option Copy) =>
    (Low.refl w).put (f := F.SWC_QOCC_CELLS) (v := 0) (i := e.1) (j := 0)
  generalize v.twn.fwdTx.foldl _ v = w at *
  exact memories (emptyCounts taken)

theorem cffShow (h : Low s t) : Low s t.cffShow := Low.put (Low.put (Low.put h))

theorem setPtr {f g : Fld} {v : Nat} (h : Low s t) (hf : 0x40000 ≤ f.reg.base := by decide) (hg : 0x40000 ≤ g.reg.base := by decide) :
    Low s (t.setPtr f g v) := (h.put hf).put hg

theorem setCff (h : Low s t) {c : CffState} : Low s (t.setCff c) := h.same

theorem cffEmpty (s : State) : Low s s.cffEmpty := by
  have pointers : Low s ((((s.setW 0).setR 0).setF 0).setM 0) := setPtr (setPtr (setPtr (setPtr (Low.refl s))))
  unfold State.cffEmpty
  generalize (((s.setW 0).setR 0).setF 0).setM 0 = v at *
  exact cffShow (setCff pointers.put)

theorem poolsLost (s : State) : Low s s.poolsLost := Low.foldl (Low.refl s) _ fun v _ => Low.ite (Low.refl v) (Low.poolSet _ _ _)

end Low

end Sys2Proof.Machine
end

section
set_option Elab.async false
/-! PROOFS. The maintenance commands (02_operating_modes.md R57, R58, R68). -/

namespace Sys2Proof.Machine

variable {s t u : State}

theorem regWrite_mnt {host op mem : Nat} (hop : op < 4) (hm : mem < 8) :
    s.regWrite host R.GLB_MNT_CMD 0 0 15 (mntWord op mem) = ([], s.mntCommand 0x5A op mem) := by
  have write : s.regWrite host R.GLB_MNT_CMD 0 0 15 (mntWord op mem) =
      ([], s.mntCommand (keyOf (mntWord op mem)) (getBits (mntWord op mem) 1 0) (getBits (mntWord op mem) 6 4)) := rfl
  have key : keyOf (mntWord op mem) = 0x5A := keyOf_keyWord (by omega)
  have low : getBits (mntWord op mem) 1 0 = op := by
    rw [mntWord, keyWord, getBits_word]
    omega
  have high : getBits (mntWord op mem) 6 4 = mem := by
    rw [mntWord, keyWord, getBits_word]
    omega
  rw [write, key, low, high]

/-! ## A command starts (R58, R68) -/

/-- The registers of a command that starts. -/
def State.mntShown (s : State) (op mem : Nat) : State :=
  ((((s.put F.GLB_MNT_STAT_BUSY 1).put F.GLB_MNT_STAT_MEM mem).put F.GLB_MNT_STAT_OP op).setReg R.GLB_MNT_RESULT 0).setReg R.GLB_MNT_ERRS 0

/-- A command starts. -/
def State.mntRun (s : State) (op mem : Nat) : State := { s.mntShown op mem with md := { s.md with aborting := false } }

/-- The registers of the maintenance unit that a start writes. -/
def mntRegs : List Nat := [R.GLB_MNT_STAT.base, R.GLB_MNT_RESULT.base, R.GLB_MNT_ERRS.base]

theorem mntShown_shows (s : State) {op mem : Nat} (hop : op < 4) (hm : mem < 8) : (s.mntShown op mem).bit F.GLB_MNT_STAT_BUSY = true ∧
    (s.mntShown op mem).get F.GLB_MNT_STAT_OP = op ∧ (s.mntShown op mem).get F.GLB_MNT_STAT_MEM = mem ∧ (s.mntShown op mem).reg R.GLB_MNT_RESULT = 0 ∧
    (s.mntShown op mem).reg R.GLB_MNT_ERRS = 0 ∧ s.keepsRegs (s.mntShown op mem) mntRegs := by
  unfold State.mntShown
  refine ⟨?_, ?_, ?_, ?_, State.reg_setReg_same .., ?_⟩
  · rw [State.bit, State.get_setReg_free _ (by decide), State.get_setReg_free _ (by decide), State.get_put_beside _ (by decide),
      State.get_put_beside _ (by decide)]
    exact State.bit_put_one _ (by decide) (by decide) _ _
  · rw [State.get_setReg_free _ (by decide), State.get_setReg_free _ (by decide)]
    exact State.get_put_fits _ (by decide) hop _ _
  · rw [State.get_setReg_free _ (by decide), State.get_setReg_free _ (by decide), State.get_put_beside _ (by decide)]
    exact State.get_put_fits _ (by decide) hm _ _
  · rw [State.reg_setReg_free _ (by decide)]
    exact State.reg_setReg_same ..
  · have stat : s.keepsRegs (((s.put F.GLB_MNT_STAT_BUSY 1).put F.GLB_MNT_STAT_MEM mem).put F.GLB_MNT_STAT_OP op) mntRegs :=
      State.keepsRegs_put (State.keepsRegs_put (State.keepsRegs_put (State.keepsRegs_refl _) _ _ _ _ (by decide)) _ _ _ _ (by decide)) _ _ _ _ (by decide)
    exact State.keepsRegs_setReg (State.keepsRegs_setReg stat _ _ _ _ (by decide)) _ _ _ _ (by decide)

theorem mntRun_regs (s : State) (op mem : Nat) : (s.mntRun op mem).regs = (s.mntShown op mem).regs := rfl

theorem mntCommand_scrub {mem : Nat} (hm : s.mode = modeMAINTENANCE) (idle : s.bit F.GLB_MNT_STAT_BUSY = false) (h5 : mem < 5) :
    s.mntCommand 0x5A 1 mem = s.mntRun 1 mem := by
  unfold State.mntCommand
  rw [if_neg (by decide), if_neg (by simp [hm]), if_neg (by omega), if_neg (by simp [idle]), if_neg (by simp), if_neg (by decide), if_neg (by decide)]
  rfl

theorem mntCommand_bist {mem : Nat} (hm : s.mode = modeMAINTENANCE) (idle : s.bit F.GLB_MNT_STAT_BUSY = false) (h5 : mem < 5) :
    s.mntCommand 0x5A 2 mem = (s.bistStart mem).mntRun 2 mem := by
  unfold State.mntCommand
  rw [if_neg (by decide), if_neg (by simp [hm]), if_neg (by omega), if_neg (by simp [idle]), if_neg (by simp), if_neg (by decide), if_pos rfl]
  rfl

theorem mntCommand_abort {mem : Nat} (hm : s.mode = modeMAINTENANCE) (busy : s.bit F.GLB_MNT_STAT_BUSY = true) :
    s.mntCommand 0x5A 3 mem = { s with md := { s.md with aborting := true } } := by
  unfold State.mntCommand
  rw [if_neg (by decide), if_neg (by simp [hm]), if_neg (by omega), if_neg (by simp), if_neg (by simp [busy]), if_pos rfl]

theorem mntCommand_outside {op mem : Nat} (hm : s.mode ≠ modeMAINTENANCE) : s.mntCommand 0x5A op mem = s.put F.GLB_MNT_STAT_REJECT 2 := by
  unfold State.mntCommand
  rw [if_neg (by decide), if_pos hm]
  rfl

/-- A command outside MAINTENANCE shows code 2. -/
theorem does_mntOutside {c : Instr} {h : HostId} {op mem : Nat} (he : exec c s = finish s (s.rowWrite (hostNum h) R.GLB_MNT_CMD 0 0 (mntWord op mem)))
    (hop : op < 4) (h8 : mem < 8) (ho : s.opens h R.GLB_MNT_CMD 0 0 = true) (hm : s.mode ≠ modeMAINTENANCE) : Does c s fun t =>
      t.get F.GLB_MNT_STAT_REJECT = 2 ∧ s.keepsRegs t [R.GLB_MNT_STAT.base] ∧ s.onlyRegs t := by
  have write := regWrite_mnt (s := s) (host := hostNum h) hop h8
  rw [mntCommand_outside hm] at write
  refine does_rowWrite_own he ho (by decide) write ⟨?_, settled_keeps _ _ _ ?_, settled_onlyRegs ?_⟩
  · rw [settled_get_free _ _ (by decide)]
    exact State.get_put_fits _ (by decide) (by decide) _ _
  · exact State.keepsRegs_put (State.keepsRegs_refl _) _ _ _ _ (by decide)
  · exact State.onlyRegs_put State.onlyRegs_refl _ _ _ _

theorem settled_mntRun (b v : State) {op mem : Nat} (hop : op < 4) (hm : mem < 8) : (settled b (v.mntRun op mem)).bit F.GLB_MNT_STAT_BUSY = true ∧
    (settled b (v.mntRun op mem)).get F.GLB_MNT_STAT_OP = op ∧ (settled b (v.mntRun op mem)).get F.GLB_MNT_STAT_MEM = mem ∧
    (settled b (v.mntRun op mem)).reg R.GLB_MNT_RESULT = 0 ∧ (settled b (v.mntRun op mem)).reg R.GLB_MNT_ERRS = 0 ∧
    v.keepsRegs (v.mntRun op mem) mntRegs := by
  obtain ⟨busy, shownOp, shownMem, result, errs, keeps⟩ := mntShown_shows v hop hm
  have regs := mntRun_regs v op mem
  refine ⟨?_, ?_, ?_, ?_, ?_, State.keepsRegs_trans keeps (State.keepsRegs_of_eq _ regs)⟩
  · exact (settled_bit_free _ _ (by decide) _ _).trans ((State.bit_of_regs regs ..).trans busy)
  · exact (settled_get_free _ _ (by decide) _ _).trans ((State.get_of_regs regs ..).trans shownOp)
  · exact (settled_get_free _ _ (by decide) _ _).trans ((State.get_of_regs regs ..).trans shownMem)
  · rw [settled_reg_free _ _ (by decide), State.reg, regs]
    exact result
  · rw [settled_reg_free _ _ (by decide), State.reg, regs]
    exact errs

theorem does_mntScrub {h : HostId} {mem : Fin 8} (ho : s.opens h R.GLB_MNT_CMD 0 0 = true) (hm : s.mode = modeMAINTENANCE)
    (idle : s.bit F.GLB_MNT_STAT_BUSY = false) (h5 : mem.val < 5) : Does (.mntScrub h mem) s fun t =>
      t.bit F.GLB_MNT_STAT_BUSY = true ∧ t.get F.GLB_MNT_STAT_OP = 1 ∧ t.get F.GLB_MNT_STAT_MEM = mem ∧ t.reg R.GLB_MNT_RESULT = 0 ∧
      t.reg R.GLB_MNT_ERRS = 0 ∧ t.md = { s.md with aborting := false } ∧ s.keepsRegs t mntRegs := by
  have write := regWrite_mnt (s := s) (host := hostNum h) (op := 1) (by decide) mem.isLt
  rw [mntCommand_scrub hm idle h5] at write
  obtain ⟨busy, op, memory, result, errs, keeps⟩ := settled_mntRun s s (op := 1) (by decide) mem.isLt
  exact does_rowWrite_own rfl ho (by decide) write ⟨busy, op, memory, result, errs, settled_md _ _, settled_keeps _ _ _ keeps⟩

/-! ## A self-test loses the contents of its memory (R57) -/

/-- The loss of a memory's contents has been noted. -/
def State.bistNoted (s : State) : State := { s.evt F.GLB_MODE_STAT_BIST_DIRTY with md := { s.md with dirty := true } }

theorem bistNoted_dirty (s : State) : s.bistNoted.bit F.GLB_MODE_STAT_BIST_DIRTY = true :=
  (State.bit_of_regs (s := s.evt F.GLB_MODE_STAT_BIST_DIRTY) rfl ..).trans (State.bit_evt_same _ _ _ _ (by decide) (by decide))

theorem Low.bistCells (s : State) : Low s s.bistCells :=
  Low.memories (((Low.foldl (Low.refl s) _ fun v _ => Low.dropCount (Low.refl v)).trans (Low.stompAll _ _)).trans (Low.clearSwc _))

theorem Low.bistCalendars (s : State) : Low s s.bistCalendars :=
  Low.foldl (Low.refl s) _ fun v _ => Low.ite (Low.refl v)
    ((Low.setEg (Low.foldl (Low.refl v) _ fun w _ => (Low.dropCount (Low.refl w)).trans (Low.egressRelease _ _ _))).trans (Low.calReport _ _ _))

theorem bistStart_tables (s : State) : s.bistStart 0 =
    { s.bistNoted.put F.EPOCH_STAT_STAGED 0 with lkp := { s.bistNoted.lkp with slots := [], staged := [], taken := [], lost := none } } := rfl

theorem bistStart_store (s : State) : s.bistStart 1 = { s.bistNoted with tin := { s.bistNoted.tin with store := [], lost := none } } := rfl

theorem bistStart_cells (s : State) : s.bistStart 2 = s.bistNoted.bistCells := rfl

theorem bistStart_sram (s : State) : s.bistStart 3 = { s.bistNoted.bistCalendars.poolsLost with sram := [], sramLost := none } := rfl

theorem bistStart_fifo (s : State) (n : Nat) : s.bistStart (n + 4) = s.bistNoted.cffEmpty := rfl

/-- What a self-test of each memory leaves of it. -/
theorem bistStart_lost (s : State) (mem : Nat) : Low s.bistNoted (s.bistStart mem) ∧
    (mem = 0 → (s.bistStart mem).lkp.slots = [] ∧ (s.bistStart mem).lkp.staged = []) ∧ (mem = 1 → (s.bistStart mem).tin.store = []) ∧
    (mem = 2 → (s.bistStart mem).swc.cells = [] ∧ (s.bistStart mem).swc.lists = []) ∧
    (mem = 3 → (s.bistStart mem).sram = [] ∧ (s.bistStart mem).sramLost = none) := by
  match mem with
  | 0 =>
    rw [bistStart_tables]
    exact ⟨Low.same (Low.put (f := F.EPOCH_STAT_STAGED) (Low.refl _)), fun _ => ⟨rfl, rfl⟩, nofun, nofun, nofun⟩
  | 1 =>
    rw [bistStart_store]
    exact ⟨Low.same (Low.refl _), nofun, fun _ => rfl, nofun, nofun⟩
  | 2 =>
    rw [bistStart_cells]
    exact ⟨Low.bistCells _, nofun, nofun, fun _ => ⟨rfl, rfl⟩, nofun⟩
  | 3 =>
    have lost := (Low.bistCalendars s.bistNoted).trans (Low.poolsLost _)
    rw [bistStart_sram]
    generalize s.bistNoted.bistCalendars.poolsLost = v at *
    exact ⟨Low.same lost, nofun, nofun, nofun, fun _ => ⟨rfl, rfl⟩⟩
  | n + 4 =>
    rw [bistStart_fifo]
    exact ⟨Low.cffEmpty _, fun e => absurd e (by omega), fun e => absurd e (by omega), fun e => absurd e (by omega), fun e => absurd e (by omega)⟩

theorem does_mntBist {h : HostId} {mem : Fin 8} (ho : s.opens h R.GLB_MNT_CMD 0 0 = true) (hm : s.mode = modeMAINTENANCE)
    (idle : s.bit F.GLB_MNT_STAT_BUSY = false) (h5 : mem.val < 5) : Does (.mntBist h mem) s fun t =>
      t.bit F.GLB_MNT_STAT_BUSY = true ∧ t.get F.GLB_MNT_STAT_OP = 2 ∧ t.get F.GLB_MNT_STAT_MEM = mem ∧ t.bit F.GLB_MODE_STAT_BIST_DIRTY = true ∧
      (mem.val = 0 → t.lkp.slots = [] ∧ t.lkp.staged = []) ∧ (mem.val = 1 → t.tin.store = []) ∧
      (mem.val = 2 → t.swc.cells = [] ∧ t.swc.lists = []) ∧ (mem.val = 3 → t.sram = [] ∧ t.sramLost = none) := by
  have write := regWrite_mnt (s := s) (host := hostNum h) (op := 2) (by decide) mem.isLt
  rw [mntCommand_bist hm idle h5] at write
  obtain ⟨low, tables, store, cells, sram⟩ := bistStart_lost s mem.val
  have dirty : (s.bistStart mem.val).bit F.GLB_MODE_STAT_BIST_DIRTY = true := (low.bit _ (by decide)).trans (bistNoted_dirty s)
  generalize s.bistStart mem.val = v at *
  obtain ⟨busy, op, memory, -, -, keeps⟩ := settled_mntRun s v (op := 2) (by decide) mem.isLt
  have dirty' : (v.mntRun 2 mem.val).bit F.GLB_MODE_STAT_BIST_DIRTY = true := by
    rw [State.bit, State.get, keeps F.GLB_MODE_STAT_BIST_DIRTY.reg 0 0 (by decide)]
    exact dirty
  refine does_rowWrite_own rfl ho (by decide) write ⟨busy, op, memory, (settled_bit_free _ _ (by decide) _ _).trans dirty', ?_, ?_, ?_, ?_⟩
  · rw [settled_lkp]
    exact tables
  · rw [settled_tin]
    exact store
  · rw [settled_swc]
    exact cells
  · rw [settled_sram, settled_sramLost]
    exact sram

/-! ## The end of a command (R58, R169) -/

theorem Low.setSlot (h : Low s t) {k i : Nat} {v : Slot9} : Low s (t.setSlot k i v) := by
  unfold State.setSlot
  split
  · exact h
  · split <;> exact h.same

theorem Low.parityFound (s : State) (k i : Nat) : Low s (s.parityFound k i) :=
  Low.setSlot (Low.evt (Low.inc (Low.capture (Low.refl s))))

theorem Low.scrubTables (s : State) (slots : List (Nat × Nat)) : Low s (s.scrubTables slots) :=
  Low.foldl (Low.foldl (Low.refl s) _ fun v _ => Low.ite (Low.setSlot (Low.refl v)) (Low.refl v)) _ fun v _ => Low.parityFound v _ _

theorem Low.setUword (s : State) (c a : Nat) (w : UWord) : Low s (s.setUword c a w) := by
  unfold State.setUword
  split
  · exact Low.refl s
  · split <;> exact Low.same (Low.refl s)

theorem Low.scrub (s : State) (mem n : Nat) (slots : List (Nat × Nat)) : Low s (s.scrub mem n slots).2 := by
  unfold State.scrub
  split
  · exact Low.scrubTables _ _
  · exact Low.foldl (Low.refl s) _ fun v _ => Low.setUword v _ _ _
  · refine Low.foldl (Low.refl s) _ fun v i => ?_
    split
    · exact Low.same (Low.refl v)
    · exact Low.refl v
  · exact Low.refl s

theorem Low.bistUndefined (s : State) (mem : Nat) : Low s (s.bistUndefined mem) := by
  unfold State.bistUndefined
  dsimp only
  split
  · exact Low.same (Low.refl s)
  · exact Low.same (Low.refl s)
  · exact Low.put (Low.put (Low.same (Low.refl s)))
  · exact Low.same (Low.refl s)
  · exact Low.refl s

/-- What the scrub of the running command found, and the state after it: nothing where the command is a self-test. -/
def State.mntFound (s : State) (corr : Nat) (slots : List (Nat × Nat)) : (Nat × Nat × Option Nat) × State :=
  if s.get F.GLB_MNT_STAT_OP = 1 then s.scrub (s.get F.GLB_MNT_STAT_MEM) (if s.md.aborting then corr else 0x10000) slots else ((0, 0, none), s)

theorem Low.mntFound (s : State) (corr : Nat) (slots : List (Nat × Nat)) : Low s (s.mntFound corr slots).2 := by
  unfold State.mntFound
  split
  · exact Low.scrub _ _ _ _
  · exact Low.refl s

/-- The words in error that the command reports. -/
def State.mntUnc (s : State) (unc found : Nat) : Nat := if s.md.aborting then unc else min (max unc found) 0xFFFF

/-- The status that the command reports. -/
def State.mntStatus (s : State) (unc : Nat) : Nat :=
  if s.md.aborting then 3 else if unc = 0 then 0 else if s.get F.GLB_MNT_STAT_OP = 1 then 1 else 2

/-- The registers of what a command has found. -/
def State.mntErrs (s : State) (corr unc first : Nat) : State :=
  let s := (s.put F.GLB_MNT_ERRS_CORR corr).put F.GLB_MNT_ERRS_UNC unc
  if unc = 0 then s else (s.put F.GLB_MNT_RESULT_VALID 1).put F.GLB_MNT_RESULT_ADDR first

/-- What else a finished command does: a bad word of the microcode store is a critical error, and an aborted self-test leaves free values. -/
def State.mntLeft (s : State) (op mem unc : Nat) (abort : Bool) : State :=
  let s := if op = 1 ∧ mem = 1 ∧ unc ≠ 0 then s.rstDue 6 else s
  if op = 2 ∧ abort = true then s.bistUndefined mem else s

/-- The command is over. -/
def State.mntOver (s : State) (status : Nat) : State := ((s.put F.GLB_MNT_STAT_BUSY 0).put F.GLB_MNT_STAT_STATUS status).evt F.GLB_MODE_STAT_MNT_DONE

theorem mntComplete_eq {corr unc : Nat} {addr : Option Nat} {slots : List (Nat × Nat)} (busy : s.bit F.GLB_MNT_STAT_BUSY = true) :
    ∃ (first : Nat) (m : ModeState), s.mntComplete corr unc addr slots =
      { (((((s.mntFound corr slots).2.draw 24).2.mntErrs
          (if s.get F.GLB_MNT_STAT_OP = 1 then min (max corr (s.mntFound corr slots).1.1) 0xFFFF else 0)
          (s.mntUnc unc (s.mntFound corr slots).1.2.1) first).mntLeft (s.get F.GLB_MNT_STAT_OP) (s.get F.GLB_MNT_STAT_MEM)
          (s.mntUnc unc (s.mntFound corr slots).1.2.1) s.md.aborting).mntOver (s.mntStatus (s.mntUnc unc (s.mntFound corr slots).1.2.1))) with
        md := { m with aborting := false } } := by
  unfold State.mntComplete
  rw [busy, if_neg (by decide)]
  exact ⟨_, _, rfl⟩

theorem Low.mntLeft (s : State) (op mem unc : Nat) (abort : Bool) : Low s (s.mntLeft op mem unc abort) := by
  unfold State.mntLeft
  have due : Low s (if op = 1 ∧ mem = 1 ∧ unc ≠ 0 then s.rstDue 6 else s) := Low.ite (Low.same (Low.refl s)) (Low.refl s)
  exact Low.ite (due.trans (Low.bistUndefined _ _)) due

theorem mntErrs_shows (s : State) {corr unc : Nat} (first : Nat) (hc : corr < 2 ^ 16) (hu : unc < 2 ^ 16) :
    (s.mntErrs corr unc first).get F.GLB_MNT_ERRS_UNC = unc ∧ (s.mntErrs corr unc first).get F.GLB_MNT_ERRS_CORR = corr ∧
    (unc ≠ 0 → (s.mntErrs corr unc first).bit F.GLB_MNT_RESULT_VALID = true) := by
  have shown : ((s.put F.GLB_MNT_ERRS_CORR corr).put F.GLB_MNT_ERRS_UNC unc).get F.GLB_MNT_ERRS_UNC = unc :=
    State.get_put_fits _ (by decide) hu _ _
  have beside : ((s.put F.GLB_MNT_ERRS_CORR corr).put F.GLB_MNT_ERRS_UNC unc).get F.GLB_MNT_ERRS_CORR = corr :=
    (State.get_put_beside _ (by decide) ..).trans (State.get_put_fits _ (by decide) hc _ _)
  unfold State.mntErrs
  dsimp only
  generalize (s.put F.GLB_MNT_ERRS_CORR corr).put F.GLB_MNT_ERRS_UNC unc = v at *
  split
  · next none_ => exact ⟨shown, beside, fun h => absurd none_ h⟩
  · refine ⟨?_, ?_, fun _ => ?_⟩
    · rw [State.get_put_free _ (by decide), State.get_put_free _ (by decide), shown]
    · rw [State.get_put_free _ (by decide), State.get_put_free _ (by decide), beside]
    · rw [State.bit_put_beside _ (by decide)]
      exact State.bit_put_one _ (by decide) (by decide) _ _

theorem mntOver_shows (s : State) {status : Nat} (h : status < 16) : (s.mntOver status).bit F.GLB_MNT_STAT_BUSY = false ∧
    (s.mntOver status).bit F.GLB_MODE_STAT_MNT_DONE = true ∧ (s.mntOver status).get F.GLB_MNT_STAT_STATUS = status ∧
    (s.mntOver status).get F.GLB_MNT_ERRS_UNC = s.get F.GLB_MNT_ERRS_UNC ∧
    (s.mntOver status).get F.GLB_MNT_ERRS_CORR = s.get F.GLB_MNT_ERRS_CORR ∧
    (s.mntOver status).bit F.GLB_MNT_RESULT_VALID = s.bit F.GLB_MNT_RESULT_VALID := by
  unfold State.mntOver
  refine ⟨?_, State.bit_evt_same _ _ _ _ (by decide) (by decide), ?_, ?_, ?_, ?_⟩
  · rw [State.bit_evt_free _ (by decide), State.bit_put_beside _ (by decide)]
    exact State.bit_put_zero _ (by decide) _ _
  · rw [State.get_evt_free _ (by decide)]
    exact State.get_put_fits _ (by decide) h _ _
  · rw [State.get_evt_free _ (by decide), State.get_put_free _ (by decide), State.get_put_free _ (by decide)]
  · rw [State.get_evt_free _ (by decide), State.get_put_free _ (by decide), State.get_put_free _ (by decide)]
  · rw [State.bit_evt_free _ (by decide), State.bit_put_free _ (by decide), State.bit_put_free _ (by decide)]

theorem does_mntComplete (corr unc : BitVec 16) (addr : Option (BitVec 24)) (slots : List (Fin 9 × Nat)) (busy : s.bit F.GLB_MNT_STAT_BUSY = true) :
    Does (.mntComplete corr unc addr slots) s fun t =>
      t.bit F.GLB_MNT_STAT_BUSY = false ∧ t.bit F.GLB_MODE_STAT_MNT_DONE = true ∧ t.md.aborting = false ∧
      t.get F.GLB_MNT_STAT_STATUS = (if s.md.aborting then 3 else if t.get F.GLB_MNT_ERRS_UNC = 0 then 0 else if s.get F.GLB_MNT_STAT_OP = 1 then 1 else 2) ∧
      unc.toNat ≤ t.get F.GLB_MNT_ERRS_UNC ∧ (s.get F.GLB_MNT_STAT_OP = 2 → t.get F.GLB_MNT_ERRS_UNC = unc.toNat ∧ t.get F.GLB_MNT_ERRS_CORR = 0) ∧
      (t.get F.GLB_MNT_ERRS_UNC ≠ 0 → t.bit F.GLB_MNT_RESULT_VALID = true) := by
  have hu := unc.isLt
  have hc := corr.isLt
  obtain ⟨first, m, e⟩ := mntComplete_eq (corr := corr.toNat) (unc := unc.toNat) (addr := addr.map BitVec.toNat)
    (slots := slots.map fun e => (e.1.val, e.2)) busy
  have test : s.get F.GLB_MNT_STAT_OP = 2 → (s.mntFound corr.toNat (slots.map fun e => (e.1.val, e.2))).1.2.1 = 0 := fun h => by
    rw [State.mntFound, h]
    rfl
  have run : exec (.mntComplete corr unc addr slots) s =
      finish s (s.mntComplete corr.toNat unc.toNat (addr.map BitVec.toNat) (slots.map fun e => (e.1.val, e.2))) := rfl
  rw [e] at run
  refine does_of run ?_
  clear run
  generalize s.mntFound corr.toNat (slots.map fun e => (e.1.val, e.2)) = found at *
  obtain ⟨⟨hit, bad, _⟩, v⟩ := found
  dsimp only at test ⊢
  generalize (v.draw 24).2 = w
  generalize hn : (if s.get F.GLB_MNT_STAT_OP = 1 then min (max corr.toNat hit) 0xFFFF else 0) = n
  generalize hk : s.mntUnc unc.toNat bad = k
  have n16 : n < 2 ^ 16 := by
    rw [← hn]
    split <;> omega
  have k16 : k < 2 ^ 16 ∧ unc.toNat ≤ k ∧ (bad = 0 → k = unc.toNat) := by
    rw [← hk, State.mntUnc]
    split <;> omega
  have status : s.mntStatus k < 16 := by
    unfold State.mntStatus
    split_ifs <;> omega
  obtain ⟨shown, counted, valid⟩ := mntErrs_shows w first n16 k16.1
  have left := Low.mntLeft (w.mntErrs n k first) (s.get F.GLB_MNT_STAT_OP) (s.get F.GLB_MNT_STAT_MEM) k s.md.aborting
  generalize w.mntErrs n k first = a at *
  generalize a.mntLeft (s.get F.GLB_MNT_STAT_OP) (s.get F.GLB_MNT_STAT_MEM) k s.md.aborting = b at *
  obtain ⟨idle, done, stat, same, sameCorr, sameValid⟩ := mntOver_shows b status
  generalize b.mntOver (s.mntStatus k) = o at *
  have regs : ({ o with md := { m with aborting := false } } : State).regs = o.regs := rfl
  have unc_ : (settled s { o with md := { m with aborting := false } }).get F.GLB_MNT_ERRS_UNC = k := by
    rw [settled_get_free _ _ (by decide), State.get_of_regs regs, same, left.get _ (by decide), shown]
  rw [unc_, settled_bit_free _ _ (by decide), settled_bit_free _ _ (by decide), settled_bit_free _ _ (by decide), settled_get_free _ _ (by decide),
    settled_get_free _ _ (by decide), settled_md, State.bit_of_regs regs, State.bit_of_regs regs, State.bit_of_regs regs, State.get_of_regs regs,
    State.get_of_regs regs]
  refine ⟨idle, done, rfl, stat, k16.2.1, fun op => ⟨k16.2.2 (test op), ?_⟩, fun some_ => ?_⟩
  · rw [sameCorr, left.get _ (by decide), counted, ← hn, op]
    rfl
  · rw [sameValid, left.bit _ (by decide), valid some_]

/-- Settles O21: a start shows the command in the registers of the maintenance unit, whatever a self-test loses, and the end reports what was found. -/
theorem maintenanceCommands : Obligations.MaintenanceCommands := by
  refine ⟨fun s h mem ho hm idle h5 => does_mntScrub ho hm idle h5, fun s h mem ho hm idle h5 => does_mntBist ho hm idle h5,
    fun s h mem ho hm busy => ?_, fun s corr unc addr slots busy => does_mntComplete corr unc addr slots busy,
    fun s h mem ho hm => ⟨does_mntOutside rfl (by decide) mem.isLt ho hm, does_mntOutside rfl (by decide) mem.isLt ho hm,
      does_mntOutside rfl (by decide) mem.isLt ho hm⟩⟩
  have write := regWrite_mnt (s := s) (host := hostNum h) (op := 3) (by decide) mem.isLt
  rw [mntCommand_abort hm busy] at write
  exact does_rowWrite_own rfl ho (by decide) write rfl

end Sys2Proof.Machine
end

section
set_option Elab.async false
/-! PROOFS. The reception of a frame leaves the registers of GLB, RST, MGT and INV and the state of Invar alone, and so do the ends of a link. -/

namespace Sys2Proof.Machine

variable {s t u : State}

namespace Low

/-! ## Bytes and cells (R20, R212, R214) -/

theorem beginCells (s : State) (k c : Nat) : Low s (s.beginCells k c) :=
  Low.foldl (Low.foldl (modFrame (Low.dec (f := F.SWC_FREE_CELLS) (Low.refl s))) _ fun v n => setOcc v n _) _ fun v e => setOcc v e.1 _

theorem noCell (s : State) (k : Nat) : Low s (s.noCell k) := by
  unfold State.noCell
  have begun : Low s (((s.dropCount 0x03).evt F.SWC_EVT_NO_CELL).modFrame k fun f => { f with cap := min f.cap (128 * f.begun), drop := 0x03 }) :=
    modFrame (Low.evt (dropCount (Low.refl s)))
  exact (modFrame (((begun.trans (stompFrame _ _ _ _)).trans (removeFrameCopies _ _ _)).trans (dropHold _ _))).trans (settle _ _)

theorem setFrame (h : Low s t) {k : Nat} {f : Option Frame} : Low s (t.setFrame k f) := h.same

theorem takeBytes (s : State) (k : Nat) (b : List Byte) : Low s (s.takeBytes k b) := by
  unfold State.takeBytes
  split
  · exact Low.refl s
  · exact Low.ite ((setFrame (Low.refl s)).trans (beginCells _ _ _)) (((setFrame (Low.refl s)).trans (beginCells _ _ _)).trans (noCell _ _))

theorem oversize (s : State) (k : Nat) : Low s (s.oversize k) := by
  unfold State.oversize
  split
  · exact Low.refl s
  · exact Low.ite ((setFrame (Low.refl s)).trans (stompFrame _ _ _ _)) (Low.refl s)

theorem setFilter (h : Low s t) {k : Nat} {f : Filter} : Low s (t.setFilter k f) := h.same

theorem lateSdu (s : State) (k : Nat) : Low s (s.lateSdu k) := by
  unfold State.lateSdu
  split
  · exact Low.refl s
  · next f _ =>
    extract_lets linked sent x y a b c d e
    have moved : Low s a := Low.ite (Low.evt (setFilter (Low.refl s))) (setFilter (Low.refl s))
    have late : Low s b := modFrame moved
    have counted : Low s c := Low.ite (Low.evt (Low.inc late)) late
    exact Low.ite (counted.trans (dropFrame _ _ _))
      (Low.ite ((dropCount (modFrame (counted.trans (captureDrop _ _ _)))).trans (removeFrameCopies _ _ _)) counted)

theorem rxBytes (s : State) (k : Nat) (b : List Byte) : Low s (s.rxBytes k b) := by
  have bytes := (takeBytes s k b).trans (oversize _ k)
  unfold State.rxBytes
  dsimp only
  split
  · exact Low.ite (bytes.trans (lateSdu _ _)) bytes
  · exact bytes

/-! ## The last byte (R35, R84, R85, R98) -/

theorem deliverBad (s : State) (k : Nat) : Low s (s.deliverBad k) := by
  unfold State.deliverBad
  split
  · exact Low.refl s
  · next f _ =>
    extract_lets dec e g held w
    have stored : Low s w := ((setFrame (Low.refl s)).trans (addRefs _ _ _)).trans (removeFrameCopies _ _ _)
    split
    · exact stored
    · dsimp only
      split
      · exact Low.same ((setFrame stored).trans (linkCopy _ _ _ _))
      · exact (modFrame ((Low.same (stored.trans (refuse _ _ _))).trans (releaseRefs _ _ _))).trans (settle _ _)

theorem badFrame (s : State) (k port : Nat) : Low s (s.badFrame k port) := by
  unfold State.badFrame
  split
  · exact Low.refl s
  · next f _ =>
    extract_lets v a b early c d e g h i x
    have stomped : Low s v := stompFrame s k (goodBytes f) false
    have delivered : Low s b := (Low.ite (portCnt stomped) stomped).trans (deliverBad _ k)
    have told : Low s e := Low.ite (digestInput (dropCount (Low.ite (portCnt stomped) stomped))) (dropCount (Low.ite (portCnt stomped) stomped))
    have held : Low s g := Low.ite (told.trans (addRefs _ _ _)) told
    exact Low.ite ((stomped.trans (removeFrameCopies _ _ _)).trans (settle _ _)) (Low.ite (Low.ite (delivered.trans (admitMirror _ _ _)) delivered)
      ((((modFrame held).trans (captureDrop _ _ _)).trans (removeFrameCopies _ _ _)).trans (settle _ _)))

theorem lateDebit (h : Low s t) {f : Frame} : Low s (t.lateDebit f) := Low.ite h.same h

theorem learnQueue (s : State) (fid mac port : Nat) (time : Int) : Low s (s.learnQueue fid mac port time) := by
  unfold State.learnQueue
  dsimp only
  exact Low.ite (Low.same (Low.refl s)) (Low.ite (Low.evt (Low.inc (Low.refl s))) (Low.same (Low.refl s)))

theorem learnIssue (s : State) (k : Nat) : Low s (s.learnIssue k) := by
  unfold State.learnIssue
  split
  · exact Low.refl s
  · exact Low.ite ((setFrame (Low.refl s)).trans (learnQueue _ _ _ _ _)) (Low.refl s)

theorem frameDone (s : State) (k flags port : Nat) : Low s (s.frameDone k flags port) := by
  unfold State.frameDone
  split
  · exact Low.refl s
  · extract_lets bad v w
    have done : Low s w := lateDebit (setFrame (Low.refl s))
    exact Low.ite (done.trans (badFrame _ _ _)) ((done.trans (learnIssue _ _)).trans (settle _ _))

theorem discardFrame (s : State) (k : Nat) : Low s (s.discardFrame k) :=
  ((modFrame (dropHold s k)).trans (removeFrameCopies _ _ _)).trans (settle _ _)

theorem setPort (h : Low s t) {p : Nat} {x : PortSt} : Low s (t.setPort p x) := h.same

theorem pauseShow (h : Low s t) {p : Nat} : Low s (t.pauseShow p) := Low.evtIf (Low.put (Low.put h))

theorem honour (s : State) (p : Nat) (b : List Byte) : Low s (s.honour p b) := by
  unfold State.honour
  refine Low.ite (Low.refl s) ?_
  split
  · exact pauseShow (Low.ite (setPort (Low.refl s)) (setPort (Low.refl s)))
  · exact pauseShow (Low.foldl (Low.refl s) _ fun v _ => Low.ite (setPort (Low.refl v)) (Low.refl v))
  · exact Low.refl s

theorem countGood (h : Low s t) {p : Nat} {b : List Byte} : Low s (t.countGood p b) :=
  portCnt (Low.ite (portCnt (portCnt (portCnt h))) (Low.ite (portCnt (portCnt (portCnt h))) (portCnt (portCnt h))))

theorem countBad (h : Low s t) {p flags : Nat} {ended : Bool} : Low s (t.countBad p flags ended) := by
  have count : ∀ (v : State) (bit k : Nat), Low s v → Low s (if flags.testBit bit then v.portCnt p k else v) := fun v bit k h => Low.ite (portCnt h) h
  exact count _ _ _ (count _ _ _ (count _ _ _ (count _ _ _ (count _ _ _ (Low.ite (portCnt h) h)))))

theorem countReceived (s : State) (p : Nat) (b : List Byte) (flags : Nat) (ended : Bool) : Low s (s.countReceived p b flags ended) := by
  have form : Low s (if 1501 ≤ beAt b 12 2 ∧ beAt b 12 2 ≤ 1535 then s.portCnt p 8 else s) := Low.ite (portCnt (Low.refl s)) (Low.refl s)
  exact Low.ite (portCnt (Low.refl s)) (Low.ite (countBad form) (Low.ite (portCnt (portCnt (countGood form))) (countGood form)))

/-! ## A complete window (R110, R404 to R409, R415) -/

theorem setTwn (h : Low s t) {x : TwnState} : Low s (t.setTwn x) := h.same

theorem twnCnt (h : Low s t) {k n : Nat} : Low s (t.twnCnt k n) := h.inc

theorem sendLink (h : Low s t) {type x : Nat} {pl : List Nat} : Low s (t.sendLink type x pl) := Low.ite (setTwn h) h

theorem dupCheck (s : State) (c mac seq : Nat) : Low s (s.dupCheck c mac seq).2 := by
  unfold State.dupCheck
  split
  · exact Low.refl s
  · exact setTwn (Low.refl s)

theorem heartbeat (h : Low s t) : Low s t.heartbeat := sendLink (setTwn h)

theorem orderTag (s : State) (f : Frame) (port kind kh id : Nat) : Low s (s.orderTag f port kind kh id) := by
  unfold State.orderTag
  extract_lets twn v w
  have noted : Low s v := Low.same (Low.refl s)
  have beat : Low s w := Low.ite (heartbeat noted) noted
  exact Low.ite (twnCnt (setTwn beat)) noted

theorem fwdWindow (s : State) (k : Nat) (extra : List Nat) : Low s (s.fwdWindow k extra).2 := by
  unfold State.fwdWindow
  split
  · exact Low.refl s
  · exact twnCnt (sendLink (setTwn (setFrame (Low.refl s))))

theorem pipeShow (h : Low s t) {pl : Nat} : Low s (t.pipeShow pl) := (h.put (f := F.TIN_PIPE_STAT_WQ_OCC)).put (f := F.TIN_PIPE_STAT_ROB_OCC)

theorem setPipe (h : Low s t) {pl : Nat} {x : Pipe} : Low s (t.setPipe pl x) := h.same

theorem enqueueWindow (s : State) (pl k : Nat) : Low s (s.enqueueWindow pl k) := by
  unfold State.enqueueWindow
  split
  · exact Low.refl s
  · exact Low.ite ((Low.evt (Low.inc (Low.refl s))).trans (dropFrame _ _ _)) (pipeShow (setPipe (setFrame (Low.refl s))))

theorem takePosition (s : State) (k : Nat) : Low s (s.takePosition k) := by
  unfold State.takePosition
  split
  · exact Low.refl s
  · exact (setFrame (Low.refl s)).trans (enqueueWindow _ _ _)

theorem orderInput (s : State) (k : Nat) : Low s (s.orderInput k) := by
  unfold State.orderInput
  split
  · exact Low.refl s
  split
  · next c mac seq _ =>
    have judged := dupCheck s c mac seq
    generalize s.dupCheck c mac seq = d at *
    obtain ⟨dup, v⟩ := d
    have tagged : ∀ (g : Frame) (port kind kh id : Nat), Low s ((v.setFrame k (some g)).orderTag g port kind kh id) := fun g port kind kh id =>
      (setFrame judged).trans (orderTag _ _ _ _ _ _)
    dsimp only
    refine Low.ite (twnCnt (judged.trans (dropFrame _ _ _))) (Low.ite (Low.trans ?_ (takePosition _ _)) ((setFrame judged).trans (takePosition _ _)))
    exact Low.ite (tagged _ _ _ _ _) (Low.ite (twnCnt (setTwn (tagged _ _ _ _ _))) (setTwn (setFrame (tagged _ _ _ _ _))))
  · refine Low.ite (Low.ite ?_ ((orderTag _ _ _ _ _ _).trans (takePosition _ _))) (takePosition _ _)
    have sent := fwdWindow s k []
    generalize s.fwdWindow k [] = w at *
    exact (sent.trans (orderTag _ _ _ _ _ _)).trans (takePosition _ _)

theorem holdInput (s : State) (k : Nat) : Low s (s.holdInput k) := by
  unfold State.holdInput
  split
  · exact Low.refl s
  · next f _ =>
    extract_lets v held wait
    have waits : Low s v := setFrame (Low.refl s)
    split
    · extract_lets kh word w
      have told : Low s w := Low.ite (twnCnt (sendLink waits)) waits
      exact Low.ite ((told.trans (dupCheck _ _ _ _)).trans (discardFrame _ _)) (setTwn (told.trans (dupCheck _ _ _ _)))
    · exact Low.ite (setTwn (waits.trans (fwdWindow _ _ _))) (setTwn waits)

theorem windowArrived (s : State) (k : Nat) : Low s (s.windowArrived k) := by
  unfold State.windowArrived
  split
  · exact Low.refl s
  · exact Low.ite (Low.refl s) (Low.ite (Low.refl s) (Low.ite (Low.refl s) (Low.ite (holdInput _ _) (orderInput _ _))))

theorem rxJudge (s : State) (p k : Nat) (code odd reasm ended : Bool) : Low s (s.rxJudge p k code odd reasm ended) := by
  unfold State.rxJudge
  split
  · exact Low.refl s
  · next f _ =>
    dsimp only
    refine Low.ite ((setFrame (portCnt (Low.refl s))).trans (settle _ _)) (Low.ite ((setFrame (countReceived _ _ _ _ _)).trans (badFrame _ _ _)) ?_)
    refine (countReceived s p f.rx _ ended).trans (Low.ite (frameDone _ _ _ _) (Low.ite ?_ ((frameDone _ _ _ _).trans (windowArrived _ _))))
    exact ((setFrame (Low.refl _)).trans (discardFrame _ _)).trans (honour _ _ _)

theorem rxEnd (s : State) (p : Nat) (pre : Bool) (b : List Byte) (code odd reasm ended : Bool) : Low s (s.rxEnd p pre b code odd reasm ended) := by
  unfold State.rxEnd
  split
  · exact Low.refl s
  · exact Low.ite (setPort ((rxBytes _ _ _).trans (rxJudge _ _ _ _ _ _ _))) (setPort ((rxBytes _ _ _).trans (rxJudge _ _ _ _ _ _ _)))

/-! ## A link is lost, and comes back (R71, R77, R82) -/

theorem txCut (s : State) (p : Nat) : Low s (s.txCut p) := by
  have cut : ∀ (v : State) (k : Nat), Low v (match v.txGet p k with
      | none => v
      | some x => (match x.entry with
        | some e => if x.started then (v.portCnt p 34).txSet p k none else ((v.portCnt p 34).txSet p k none).egressRelease p e
        | none => (v.portCnt p 34).txSet p k none).txEnd x) := fun v k => by
    split
    · exact Low.refl v
    · have removed : Low v ((v.portCnt p 34).txSet p k none) := setPort (portCnt (Low.refl v))
      refine Low.trans ?_ (txEnd _ _)
      split
      · exact Low.ite removed (removed.trans (Low.egressRelease _ _ _))
      · exact removed
  have cuts := Low.foldl (Low.refl s) [0, 1, 2, 3] cut
  exact setPort (Low.ite (portCnt cuts) cuts)

theorem mmShow (h : Low s t) {p : Nat} : Low s (t.mmShow p) := Low.put (Low.put h)

theorem fcClear (h : Low s t) {p : Nat} : Low s (t.fcClear p) := pauseShow (setPort (Low.put (Low.put h)))

theorem linkLost (s : State) (p : Nat) (disabled : Bool) : Low s (s.linkLost p disabled) := by
  unfold State.linkLost
  refine Low.ite (mmShow (fcClear (portCnt (Low.evt (Low.put ?_))))) (Low.refl s)
  exact ((rxEnd _ _ _ _ _ _ _ _).trans (rxEnd _ _ _ _ _ _ _ _)).trans (txCut _ _)

theorem emit (h : Low s t) {o : Out} : Low s (t.emit o) := h.same

theorem bringUp (s : State) (p : Nat) : Low s (s.bringUp p) := by
  have down : Low s (((s.put F.PORT_STAT_AN_DONE 0 p).put F.PORT_STAT_TRAIN_DONE 0 p).put F.PORT_STAT_FEC_LOCK 0 p) :=
    ((Low.refl s).put.put).put
  unfold State.bringUp
  generalize ((s.put F.PORT_STAT_AN_DONE 0 p).put F.PORT_STAT_TRAIN_DONE 0 p).put F.PORT_STAT_FEC_LOCK 0 p = v at *
  exact Low.ite (emit (setPort down)) (setPort down)

end Low

end Sys2Proof.Machine
end

section
set_option Elab.async false
/-! PROOFS. What it changes that a copy leaves its list and ends, and that a frame is dropped or has settled (07_switch_core.md R203, R210, R228). -/

namespace Sys2Proof.Machine

variable {s t u : State}

/-! ## The registers that a group of operations writes -/

/-- From `s` to `t` only registers of a list change. -/
def Writes (l : List RegSpec) (s t : State) : Prop :=
  ∀ (q : RegSpec) (i j : Nat), (∀ r ∈ l, ∀ a b, q.off i j ≠ r.off a b) → t.reg q i j = s.reg q i j

namespace Writes

variable {l : List RegSpec}

theorem refl (l : List RegSpec) (s : State) : Writes l s s := fun _ _ _ _ => rfl

theorem trans (h : Writes l s t) (k : Writes l t u) : Writes l s u := fun q i j away => (k q i j away).trans (h q i j away)

theorem of_regs (h : Writes l s t) (hr : u.regs = t.regs) : Writes l s u := fun q i j away => by
  rw [← h q i j away, State.reg, State.reg, hr]

theorem put (h : Writes l s t) {f : Fld} (hf : f.reg ∈ l) (v i j : Nat) : Writes l s (t.put f v i j) := fun q qi qj away =>
  (t.reg_put_other f q v i j qi qj (away _ hf i j)).trans (h q qi qj away)

theorem evt (h : Writes l s t) {f : Fld} (hf : f.reg ∈ l) (i j : Nat) : Writes l s (t.evt f i j) := fun q qi qj away =>
  (t.reg_evt_other f q i j qi qj (away _ hf i j)).trans (h q qi qj away)

theorem ite {c : Prop} [Decidable c] (h : Writes l s t) (k : Writes l s u) : Writes l s (if c then t else u) := by
  split
  · exact h
  · exact k

theorem foldl {α : Type} {f : State → α → State} (h : Writes l s t) (m : List α) (hf : ∀ v a, Writes l v (f v a)) : Writes l s (m.foldl f t) :=
  List.foldlRecOn m f h fun _ hv a _ => hv.trans (hf _ a)

theorem get (h : Writes l s t) (f : Fld) {i j : Nat} (away : ∀ r ∈ l, ∀ a b, f.reg.off i j ≠ r.off a b) : t.get f i j = s.get f i j := by
  rw [State.get, State.get, h _ _ _ away]

theorem bit (h : Writes l s t) (f : Fld) {i j : Nat} (away : ∀ r ∈ l, ∀ a b, f.reg.off i j ≠ r.off a b) : t.bit f i j = s.bit f i j := by
  rw [State.bit, State.bit, h.get f away]

end Writes

/-! ## A copy ends -/

/-- The registers of the counts of cells, descriptors and lists. -/
def countRegs : List RegSpec := [R.SWC_FREE, R.SWC_FREE_DESC, R.SWC_SHARED, R.SWC_QOCC, R.SWC_QFRM, R.PORT_OCC_PORT, R.PORT_OCC_PRI]

/-- An offset below the counts of the lists, and not one of the counts below it. -/
theorem away_of_below {x : Nat} (h : x < 0x200008 ∨ 0x20001C ≤ x) (hx : x < 0x201008) : ∀ r ∈ countRegs, ∀ a b, x ≠ r.off a b := by
  intro r hr a b
  simp only [countRegs, List.mem_cons, List.not_mem_nil, or_false] at hr
  rcases hr with rfl | rfl | rfl | rfl | rfl | rfl | rfl
  all_goals
    simp only [RegSpec.off, R.SWC_FREE, R.SWC_FREE_DESC, R.SWC_SHARED, R.SWC_QOCC, R.SWC_QFRM, R.PORT_OCC_PORT, R.PORT_OCC_PRI]
    simp
    omega

/-- From `s` to `t` copies or frames have ended: cells and counts change, and frames. -/
structure Ends (s t : State) : Prop where
  writes : Writes countRegs s t
  rest : ∃ r c l, t = { s with regs := r, swc := { s.swc with cells := c }, frames := l }

namespace Ends

theorem refl (s : State) : Ends s s := ⟨Writes.refl _ _, _, _, _, rfl⟩

theorem trans (h : Ends s t) (k : Ends t u) : Ends s u := by
  obtain ⟨hw, r, c, l, rfl⟩ := h
  obtain ⟨kw, r', c', l', rfl⟩ := k
  exact ⟨hw.trans kw, r', c', l', rfl⟩

theorem put (h : Ends s t) {f : Fld} {v i j : Nat} (hf : f.reg ∈ countRegs := by decide) : Ends s (t.put f v i j) :=
  h.trans ⟨(Writes.refl _ _).put hf v i j, _, _, _, rfl⟩

theorem dec (h : Ends s t) {f : Fld} {i j n : Nat} (hf : f.reg ∈ countRegs := by decide) : Ends s (t.dec f i j n) := h.put hf

theorem cells (h : Ends s t) {c : Tab Cell} : Ends s { t with swc := { t.swc with cells := c } } :=
  h.trans ⟨fun _ _ _ _ => rfl, _, _, _, rfl⟩

theorem setFrame (h : Ends s t) {k : Nat} {f : Option Frame} : Ends s (t.setFrame k f) := h.trans ⟨fun _ _ _ _ => rfl, _, _, _, rfl⟩

theorem ite {c : Prop} [Decidable c] (h : Ends s t) (k : Ends s u) : Ends s (if c then t else u) := by
  split
  · exact h
  · exact k

theorem foldl {α : Type} {f : State → α → State} (h : Ends s t) (m : List α) (hf : ∀ v a, Ends v (f v a)) : Ends s (m.foldl f t) :=
  List.foldlRecOn m f h fun _ hv a _ => hv.trans (hf _ a)

theorem modFrame (h : Ends s t) {k : Nat} {g : Frame → Frame} : Ends s (t.modFrame k g) := by
  unfold State.modFrame
  split
  · exact h.setFrame
  · exact h

theorem setOcc (h : Ends s t) {n v : Nat} : Ends s (t.setOcc n v) := (h.put (f := F.SWC_QOCC_CELLS)).put (f := F.SWC_SHARED_S)

theorem freeCell (s : State) (k i : Nat) : Ends s (s.freeCell k i) := by
  unfold State.freeCell
  split
  · exact refl s
  · exact ite ((((refl s).cells.put (f := F.SWC_FREE_CELLS)).dec (f := F.PORT_OCC_PORT_OCC)).dec (f := F.PORT_OCC_PRI_OCC))
      ((refl s).cells.put (f := F.SWC_FREE_CELLS))

theorem unrefCell (s : State) (k i : Nat) : Ends s (s.unrefCell k i) := by
  unfold State.unrefCell
  split
  · exact refl s
  · exact ite (freeCell _ _ _) (refl s).cells

theorem releaseRefs (s : State) (f : Frame) (c : Copy) : Ends s (s.releaseRefs f c) :=
  foldl (refl s) _ fun v o => by
    cases o with
    | none => exact refl v
    | some i => exact unrefCell _ _ _

/-- The cells of an extra head go back, or its place is free again. -/
theorem freeHead (v : State) (k : Nat) (e : Nat × Option Nat) : Ends v (match e.2 with
    | some i => v.freeCell k i
    | none => v.put F.SWC_FREE_CELLS (v.get F.SWC_FREE_CELLS + 1)) := by
  split
  · exact freeCell _ _ _
  · exact (refl v).put (f := F.SWC_FREE_CELLS)

theorem settle (s : State) (k : Nat) : Ends s (s.settle k) := by
  unfold State.settle
  split
  · exact refl s
  · exact ite (ite (setFrame (put (f := F.SWC_FREE_CELLS) (foldl (foldl (refl s) _ fun v i => freeCell v k i) _ fun v e => freeHead v k e)))
      (setFrame (put (f := F.SWC_FREE_CELLS) (foldl (foldl (refl s) _ fun v i => freeCell v k i) _ fun v e => freeHead v k e)))) (refl s)

theorem endCopy (s : State) (n : Nat) (c : Copy) : Ends s (s.endCopy n c) := by
  unfold State.endCopy
  split
  · exact refl s
  · exact (modFrame ((setOcc (refl s)).trans (releaseRefs _ _ _))).trans (settle _ _)

theorem exitTaken (h : Ends s t) {k code : Nat} : Ends s (t.exitTaken k code) := ite h.modFrame h

theorem lists (h : Ends s t) : t.swc.lists = s.swc.lists := by
  obtain ⟨-, r, c, l, rfl⟩ := h
  rfl

theorem ageList (h : Ends s t) : t.swc.ageList = s.swc.ageList := by
  obtain ⟨-, r, c, l, rfl⟩ := h
  rfl

end Ends

/-! ## The frames that remain -/

theorem frame_setFrame (s : State) (k j : Nat) (v : Option Frame) : (s.setFrame k v).frame j = if j = k then v else s.frame j := by
  unfold State.frame State.setFrame
  split
  · next e =>
    subst e
    exact tabGet_set_same _ _ _ _
  · next ne => exact tabGet_set_other _ _ _ ne _

theorem frame_of_frames (h : t.frames = s.frames) (k : Nat) : t.frame k = s.frame k := by rw [State.frame, State.frame, h]

theorem frame_modFrame_same {k : Nat} {f : Frame} {g : Frame → Frame} (h : s.frame k = some f) : (s.modFrame k g).frame k = some (g f) := by
  unfold State.modFrame
  rw [h]
  exact (frame_setFrame ..).trans (if_pos rfl)

theorem frame_modFrame_other {k j : Nat} {g : Frame → Frame} (h : j ≠ k) : (s.modFrame k g).frame j = s.frame j := by
  unfold State.modFrame
  split
  · exact (frame_setFrame ..).trans (if_neg h)
  · rfl

theorem freeCell_frames (s : State) (k i : Nat) : (s.freeCell k i).frames = s.frames := by
  unfold State.freeCell
  split
  · rfl
  · dsimp only
    split <;> rfl

theorem unrefCell_frames (s : State) (k i : Nat) : (s.unrefCell k i).frames = s.frames := by
  unfold State.unrefCell
  split
  · rfl
  · split
    · exact freeCell_frames _ _ _
    · rfl

theorem foldl_frames {α : Type} {f : State → α → State} (m : List α) (s : State) (hf : ∀ v a, (f v a).frames = v.frames) :
    (m.foldl f s).frames = s.frames :=
  List.foldlRecOn (motive := fun v : State => v.frames = s.frames) m f rfl fun v hv a _ => (hf v a).trans hv

theorem releaseRefs_frames (s : State) (f : Frame) (c : Copy) : (s.releaseRefs f c).frames = s.frames :=
  foldl_frames _ _ fun v o => by
    cases o with
    | none => rfl
    | some i => exact unrefCell_frames _ _ _

/-- A frame that no copy holds any longer has given back its cells. -/
def State.cellsFreed (s : State) (k : Nat) (f : Frame) : State :=
  let s := f.cells.foldl (fun s i => s.freeCell k i) s
  let s := f.heads.foldl (fun s e => match e.2 with
    | some i => s.freeCell k i
    | none => s.put F.SWC_FREE_CELLS (s.get F.SWC_FREE_CELLS + 1)) s
  s.put F.SWC_FREE_CELLS (s.get F.SWC_FREE_CELLS + (f.begun - f.cells.length))

theorem cellsFreed_frames (s : State) (k : Nat) (f : Frame) : (s.cellsFreed k f).frames = s.frames := by
  have heads : ∀ (v : State) (e : Nat × Option Nat), (match e.2 with
      | some i => v.freeCell k i
      | none => v.put F.SWC_FREE_CELLS (v.get F.SWC_FREE_CELLS + 1)).frames = v.frames := fun v e => by
    split
    · exact freeCell_frames _ _ _
    · rfl
  exact (foldl_frames f.heads _ heads).trans (foldl_frames f.cells s fun v i => freeCell_frames v k i)

/-- What remains of a frame that settles: nothing, or what its MAC still counts at its last byte. -/
def settledFrame (f : Frame) : Option Frame :=
  if f.done then none else some { f with stage := .gone, cap := 0, begun := 0, cells := [], heads := [] }

theorem settle_eq {k : Nat} {f : Frame} (h : s.frame k = some f) : s.settle k =
    if liveCount f = 0 ∧ (f.stage == .admitted || (f.stage == .gone && f.done && !f.fwd)) = true then (s.cellsFreed k f).setFrame k (settledFrame f)
    else s := by
  unfold State.settle
  rw [h]
  dsimp only
  split
  · unfold settledFrame
    split <;> rfl
  · rfl

theorem settle_none {k : Nat} (h : s.frame k = none) : s.settle k = s := by
  unfold State.settle
  rw [h]

theorem settle_frame_other {k j : Nat} (h : j ≠ k) : (s.settle k).frame j = s.frame j := by
  cases hf : s.frame k with
  | none => rw [settle_none hf]
  | some f =>
    rw [settle_eq hf]
    split
    · rw [frame_setFrame, if_neg h, frame_of_frames (cellsFreed_frames s k f)]
    · rfl

theorem settle_frame_same {k : Nat} {f : Frame} (h : s.frame k = some f) : (s.settle k).frame k = some f ∨ (s.settle k).frame k = settledFrame f := by
  rw [settle_eq h]
  split
  · right
    rw [frame_setFrame, if_pos rfl]
  · exact .inl h

theorem setOcc_frames (s : State) (n v : Nat) : (s.setOcc n v).frames = s.frames := rfl

/-- Every frame in the device has passed stage 6 or is gone. -/
def Passed (s : State) : Prop := ∀ j g, s.frame j = some g → g.stage = .admitted ∨ g.stage = .gone

namespace Passed

theorem of_frames (h : Passed s) (hf : t.frames = s.frames) : Passed t := fun j g hg => h j g ((frame_of_frames hf j).symm.trans hg)

theorem modFrame (h : Passed s) {k : Nat} {g : Frame → Frame} (hg : ∀ f, (g f).stage = f.stage) : Passed (s.modFrame k g) := fun j x hx => by
  by_cases hj : j = k
  · subst hj
    cases hf : s.frame j with
    | none =>
      rw [State.modFrame, hf] at hx
      exact absurd (hf.symm.trans hx) nofun
    | some f =>
      rw [frame_modFrame_same hf] at hx
      cases hx
      rw [hg]
      exact h j f hf
  · rw [frame_modFrame_other hj] at hx
    exact h j x hx

theorem settle (h : Passed s) (k : Nat) : Passed (s.settle k) := fun j x hx => by
  by_cases hj : j = k
  · subst hj
    cases hf : s.frame j with
    | none =>
      rw [settle_none hf, hf] at hx
      cases hx
    | some f =>
      rcases settle_frame_same hf with same | gone
      · exact h j x (hf.trans (same.symm.trans hx))
      · rw [gone, settledFrame] at hx
        split at hx
        · cases hx
        · cases hx
          exact .inr rfl
  · rw [settle_frame_other hj] at hx
    exact h j x hx

theorem endCopy (h : Passed s) (n : Nat) (c : Copy) : Passed (s.endCopy n c) := by
  unfold State.endCopy
  split
  · exact h
  · next f _ =>
    have released : Passed ((s.subOcc n f.begun).releaseRefs f c) :=
      h.of_frames ((releaseRefs_frames (s.subOcc n f.begun) f c).trans (setOcc_frames s n _))
    refine settle (modFrame released fun f => ?_) _
    dsimp only
    split <;> rfl

theorem exitTaken (h : Passed s) (k code : Nat) : Passed (s.exitTaken k code) := by
  unfold State.exitTaken
  split
  · refine modFrame h fun f => ?_
    split <;> rfl
  · exact h

end Passed

/-! ## The head of a list is discarded (R210, R228) -/

theorem listClass_lt (n : Nat) : listClass n < 4 := by
  unfold listClass queueClass
  split_ifs <;> omega

theorem unlink_eq (s : State) (n i : Nat) : ∃ r, s.unlink n i = { s.setList n ((s.list n).eraseIdx i) with regs := r } := ⟨_, rfl⟩

theorem unlink_writes (s : State) (n i : Nat) : Writes countRegs s (s.unlink n i) :=
  (((Writes.refl _ s).of_regs (u := s.setList n ((s.list n).eraseIdx i)) rfl).put (f := F.SWC_FREE_DESC_DESC) (by decide) _ _ _).put
    (f := F.SWC_QFRM_COPIES) (by decide) _ _ _

/-- A discarded copy of list `n` has been counted (R228). -/
def State.ageCounted (s : State) (n : Nat) : State := ((s.dropCount 0x40).inc F.SWC_AGE_CNT_COUNT (listClass n)).evt F.SWC_EVT_AGE

theorem ageCounted_shows (s : State) (n : Nat) :
    (s.ageCounted n).get F.SWC_AGE_CNT_COUNT (listClass n) = min (s.get F.SWC_AGE_CNT_COUNT (listClass n) + 1) (2 ^ 32 - 1) ∧
    (s.ageCounted n).get F.SWC_DROP_CNT_COUNT 0x40 = min (s.get F.SWC_DROP_CNT_COUNT 0x40 + 1) (2 ^ 32 - 1) ∧
    (s.ageCounted n).bit F.SWC_EVT_AGE = true := by
  have class_ := listClass_lt n
  have apart_ : F.SWC_AGE_CNT_COUNT.reg.off (listClass n) 0 ≠ F.SWC_DROP_CNT_COUNT.reg.off 0x40 0 :=
    off_ne (by decide) ⟨class_, by decide⟩ ⟨by decide, by decide⟩
  have counted : ∀ f i, (s.dropCount 0x40).get f i = (s.inc F.SWC_DROP_CNT_COUNT 0x40).get f i := fun f i =>
    State.get_of_regs (s := s.inc F.SWC_DROP_CNT_COUNT 0x40) rfl f i 0
  have agew : F.SWC_AGE_CNT_COUNT.width = 32 := rfl
  have dropw : F.SWC_DROP_CNT_COUNT.width = 32 := rfl
  unfold State.ageCounted
  refine ⟨?_, ?_, State.bit_evt_same _ _ _ _ (by decide) (by decide)⟩
  · rw [State.get_evt_free _ (by decide), State.get_inc_same _ _ _ _ _ (by decide), counted, agew]
    congr 2
    exact State.get_put_other s _ _ _ _ _ _ _ apart_
  · rw [State.get_evt_free _ (by decide)]
    refine (State.get_put_other _ _ _ _ _ _ _ _ apart_.symm).trans ?_
    rw [counted, State.get_inc_same _ _ _ _ _ (by decide), dropw]

theorem ageDiscard_eq {n : Nat} {c : Copy} {l : List Copy} (h : s.list n = c :: l) :
    s.ageDiscard n = (((s.ageCounted n).unlink n 0).endCopy n c).exitTaken c.fid 0x40 := by
  have list : (s.ageCounted n).list n = c :: l := h
  have discard : s.ageDiscard n = (s.ageCounted n).exitCopy n 0 0x40 := rfl
  rw [discard, State.exitCopy, State.removeCopy, list]
  rfl

theorem list_setList_same (s : State) (n : Nat) (l : List Copy) : (s.setList n l).list n = l := tabGet_set_same _ _ _ _

/-- The discard of the head of a list counts once, takes the copy off the list, and leaves what else the counters of the switch core show. -/
theorem ageDiscard_shows {n : Nat} {c : Copy} {l : List Copy} (h : s.list n = c :: l) :
    (s.ageDiscard n).list n = l ∧ (s.ageDiscard n).swc.ageList = s.swc.ageList ∧
    (s.ageDiscard n).get F.SWC_AGE_CNT_COUNT (listClass n) = min (s.get F.SWC_AGE_CNT_COUNT (listClass n) + 1) (2 ^ 32 - 1) ∧
    (s.ageDiscard n).get F.SWC_DROP_CNT_COUNT 0x40 = min (s.get F.SWC_DROP_CNT_COUNT 0x40 + 1) (2 ^ 32 - 1) ∧
    (s.ageDiscard n).bit F.SWC_EVT_AGE = true ∧ (Passed s → Passed (s.ageDiscard n)) := by
  have class_ := listClass_lt n
  have list : (s.ageCounted n).list n = c :: l := h
  have passed : Passed s → Passed (s.ageCounted n) := fun p => p.of_frames rfl
  have ageList : (s.ageCounted n).swc.ageList = s.swc.ageList := rfl
  obtain ⟨aged, dropped, evt⟩ := ageCounted_shows s n
  rw [ageDiscard_eq h]
  generalize s.ageCounted n = v at *
  have writes := unlink_writes v n 0
  obtain ⟨r, e⟩ := unlink_eq v n 0
  generalize v.unlink n 0 = w at *
  have ends : Ends w ((w.endCopy n c).exitTaken c.fid 0x40) := Ends.exitTaken (Ends.endCopy w n c)
  have all := writes.trans ends.writes
  have wlist : w.list n = l := by
    have : w.list n = (v.setList n ((v.list n).eraseIdx 0)).list n := by rw [e]; rfl
    rw [this, list_setList_same, list]
    rfl
  refine ⟨?_, ?_, ?_, ?_, ?_, fun p => ?_⟩
  · rw [State.list, ends.lists]
    exact wlist
  · rw [ends.ageList, e]
    exact ageList
  · rw [all.get _ (away_of_below (.inr ?_) ?_), aged]
    all_goals
      simp only [RegSpec.off, F.SWC_AGE_CNT_COUNT, R.SWC_AGE_CNT]
      omega
  · rw [all.get _ (away_of_below (.inr (by decide)) (by decide)), dropped]
  · rw [all.bit _ (away_of_below (.inl (by decide)) (by decide)), evt]
  · have : Passed w := by
      rw [e]
      exact (passed p).of_frames rfl
    exact (this.endCopy n c).exitTaken _ _

end Sys2Proof.Machine
end

section
set_option Elab.async false
/-! PROOFS. PEWTER and MAINTENANCE, and the wake (02_operating_modes.md R49 to R54, R66, R67, R228). -/

namespace Sys2Proof.Machine

variable {s t u : State}

/-! ## Draining (R49) -/

theorem pewterDrained_eq (h : s.draining modePEWTER = true) (empty : s.drained = true) :
    ∃ v : State, s.pewterDrained = { v with md := { v.md with gate := some v.inv.ticks } } := by
  have due : (s.draining modePEWTER && s.drained) = true := by
    rw [h, empty]
    rfl
  unfold State.pewterDrained
  rw [if_pos due]
  exact ⟨_, rfl⟩

theorem does_pewterDrainComplete (h : s.draining modePEWTER = true) (empty : s.drained = true) : Does .pewterDrainComplete s fun t =>
    t.md.gate = some t.inv.ticks := by
  obtain ⟨v, e⟩ := pewterDrained_eq h empty
  have run : exec .pewterDrainComplete s = finish s s.pewterDrained := rfl
  rw [e] at run
  refine does_of run ?_
  rw [settled_md, settled_inv]

/-- On a device that transmits nothing and reads nothing, what is stuck is what its lists and its frames hold. -/
theorem drainDeadline_eq (acc : s.md.accept.isSome = true) (gate : s.md.gate = none) (late : s.md.deadline ≤ s.now) (held : s.drained = false)
    (ports : s.ports = []) (ch : s.dma.ch = []) (fwd : s.twn.fwdTx = []) : s.drainDeadline =
      (s.swc.lists.foldl (fun s e => s.stuckList e.1 e.2.length) s).frames.foldl (fun s e => s.stuckFrame e.1)
        (s.swc.lists.foldl (fun s e => s.stuckList e.1 e.2.length) s) := by
  have tx : ∀ p k, s.stuckTx p k = s := fun p k => by
    have none_ : s.txGet p k = none := by
      unfold State.txGet State.port
      rw [ports]
      rfl
    unfold State.stuckTx
    rw [none_]
  have taken : ∀ n, s.stuckFwd n = s := fun n => by
    unfold State.stuckFwd State.fwdTaken
    rw [fwd]
    rfl
  have dma : ∀ n, s.stuckDma n = s := fun n => by
    have none_ : (s.dch n).copy = none := by
      unfold State.dch
      rw [ch]
      rfl
    unfold State.stuckDma
    rw [none_]
  have lane : ∀ p, [0, 1, 2, 3].foldl (fun s k => s.stuckTx p k) s = s := fun p => List.foldl_fixed' (f := fun (s : State) k => s.stuckTx p k) (tx p) _
  have lanes : (List.range 72).foldl (fun s p => [0, 1, 2, 3].foldl (fun s k => s.stuckTx p k) s) s = s :=
    List.foldl_fixed' (f := fun (s : State) p => [0, 1, 2, 3].foldl (fun s k => s.stuckTx p k) s) lane _
  have fwds : (List.range 8).foldl (fun s i => s.stuckFwd (576 + i)) s = s :=
    List.foldl_fixed' (f := fun (s : State) i => s.stuckFwd (576 + i)) (fun i => taken (576 + i)) _
  have due : (s.md.accept.isSome && s.md.gate.isNone && decide (s.md.deadline ≤ s.now) && !s.drained) = true := by
    rw [acc, gate, held, decide_eq_true late]
    rfl
  unfold State.drainDeadline
  rw [if_pos due]
  dsimp only
  rw [lanes, fwds, List.foldl_fixed' dma]

theorem tabGet_single {α : Type} (d : α) (k : Nat) (v : α) : tabGet d [(k, v)] k = v := by
  rw [tabGet, tabFind?, if_pos rfl]
  rfl

theorem stuckList_single {n : Nat} {x : Copy} (h : s.list n = [x]) : s.stuckList n 1 = s.ageDiscard n := by
  unfold State.stuckList
  rw [h]
  rfl

/-- A frame that has passed stage 6 is not stuck before it. -/
theorem stuckFrame_passed (h : Passed s) (k : Nat) : s.stuckFrame k = s := by
  unfold State.stuckFrame
  split
  · next f hf =>
    rcases h k f hf with admitted | gone
    · rw [admitted]
      rfl
    · rw [gone]
      rfl
  · rfl

/-! ## A frame that is dropped under a code that no session captures -/

theorem Ends.addRefs (s : State) (k cls : Nat) : Ends s (s.addRefs k cls) := by
  unfold State.addRefs
  split
  · exact Ends.refl s
  · refine Ends.foldl (Ends.refl s) _ fun v o => ?_
    cases o with
    | none => exact Ends.refl v
    | some i =>
      show Ends v (v.addRef k i)
      unfold State.addRef
      split
      · exact Ends.refl v
      · exact (Ends.refl v).cells

theorem addRefs_frames (s : State) (k cls : Nat) : (s.addRefs k cls).frames = s.frames := by
  unfold State.addRefs
  split
  · rfl
  · refine foldl_frames _ _ fun v o => ?_
    cases o with
    | none => rfl
    | some i =>
      show (v.addRef k i).frames = v.frames
      unfold State.addRef
      split <;> rfl

/-- The registers that the drop of a frame writes. -/
def dropRegs : List RegSpec := R.SWC_DROP_CNT :: countRegs

theorem Ends.drops (h : Ends s t) : Writes dropRegs s t := fun q i j away => h.writes q i j fun r hr => away r (List.mem_cons_of_mem _ hr)

theorem captureDrop_quiet {code : Nat} (h : capturable code = false) (s : State) (k : Nat) : s.captureDrop k code = s := by
  unfold State.captureDrop
  split
  · rfl
  · rw [h, if_neg Bool.false_ne_true]

/-- The drop of a frame has been counted, and noted where the frame has not passed stage 5. -/
def State.dropNoted (s : State) (k : Nat) (f : Frame) (code : Nat) : State :=
  if f.stage == .policed then s.dropCount code else (s.dropCount code).digestInput k f code

theorem dropNoted_only (s : State) (k : Nat) (f : Frame) (code : Nat) : Writes dropRegs s (s.dropNoted k f code) ∧
    (s.dropNoted k f code).frames = s.frames := by
  have count : Writes dropRegs s (s.dropCount code) :=
    ((Writes.refl _ s).put (f := F.SWC_DROP_CNT_COUNT) (by decide) _ code 0).of_regs rfl
  have noted : Writes dropRegs s ((s.dropCount code).digestInput k f code) ∧ ((s.dropCount code).digestInput k f code).frames = s.frames := by
    unfold State.digestInput State.digestAt State.digestItem
    split
    · split
      · exact ⟨count.of_regs rfl, rfl⟩
      · exact ⟨count, rfl⟩
    · exact ⟨count, rfl⟩
  unfold State.dropNoted
  split
  · exact ⟨count, rfl⟩
  · exact noted

/-- A frame that is gone under a drop code. -/
def droppedFrame (code : Nat) (f : Frame) : Frame := { f with stage := .gone, drop := code }

/-- A dropped frame that no copy holds writes no further bytes. -/
def cappedFrame (f : Frame) : Frame := if liveCount f = 0 ∧ !f.fwd then { f with cap := min f.cap f.rx.length } else f

theorem cappedFrame_shows (f : Frame) : (cappedFrame f).stage = f.stage ∧ (cappedFrame f).drop = f.drop := by
  unfold cappedFrame
  split <;> exact ⟨rfl, rfl⟩

theorem dropFrame_eq {k code : Nat} {f : Frame} (hc : capturable code = false) (hf : s.frame k = some f) (hs : f.stage ≠ .gone) :
    s.dropFrame k code = ((if f.fwd then ((s.dropNoted k f code).modFrame k (droppedFrame code)).addRefs k f.headCls
      else (s.dropNoted k f code).modFrame k (droppedFrame code)).modFrame k cappedFrame).settle k := by
  unfold State.dropFrame
  rw [hf]
  dsimp only
  rw [if_neg (by simpa using hs), captureDrop_quiet hc]
  rfl

/-- A frame dropped under a code that no session captures is gone under that code, or has left the device. -/
theorem dropFrame_quiet {k code : Nat} {f : Frame} (hc : capturable code = false) (hf : s.frame k = some f) (hs : f.stage ≠ .gone) :
    Writes dropRegs s (s.dropFrame k code) ∧ ∀ g, (s.dropFrame k code).frame k = some g → g.stage = .gone ∧ g.drop = code := by
  obtain ⟨noted, frames⟩ := dropNoted_only s k f code
  have hd : (s.dropNoted k f code).frame k = some f := (frame_of_frames frames k).trans hf
  rw [dropFrame_eq hc hf hs]
  generalize s.dropNoted k f code = a at *
  have gone := frame_modFrame_same (g := droppedFrame code) hd
  have ends : Ends a (a.modFrame k (droppedFrame code)) := Ends.modFrame (Ends.refl a)
  generalize a.modFrame k (droppedFrame code) = b at *
  have held : Ends a (if f.fwd then b.addRefs k f.headCls else b) := Ends.ite (ends.trans (Ends.addRefs _ _ _)) ends
  have same : (if f.fwd then b.addRefs k f.headCls else b).frame k = some (droppedFrame code f) := by
    split
    · exact (frame_of_frames (addRefs_frames _ _ _) k).trans gone
    · exact gone
  generalize (if f.fwd then b.addRefs k f.headCls else b) = c at *
  have capped := frame_modFrame_same (g := cappedFrame) same
  obtain ⟨stage, drop⟩ := cappedFrame_shows (droppedFrame code f)
  refine ⟨noted.trans ((held.modFrame).trans (Ends.settle _ _)).drops, fun g hg => ?_⟩
  generalize cappedFrame (droppedFrame code f) = x at *
  rcases settle_frame_same capped with same' | settled_
  · have e := Option.some.inj (same'.symm.trans hg)
    exact e ▸ ⟨stage, drop⟩
  · rw [settled_, settledFrame] at hg
    split at hg
    · cases hg
    · have e := Option.some.inj hg
      exact e ▸ ⟨rfl, drop⟩

theorem age_away {c : Nat} (h : c < 4) : ∀ r ∈ dropRegs, ∀ a b, F.SWC_AGE_CNT_COUNT.reg.off c 0 ≠ r.off a b := by
  intro r hr a b
  have off : F.SWC_AGE_CNT_COUNT.reg.off c 0 = 0x200050 + c * 4 := by
    simp [RegSpec.off, F.SWC_AGE_CNT_COUNT, R.SWC_AGE_CNT]
  rcases List.mem_cons.1 hr with rfl | hr
  · have := R.SWC_DROP_CNT.base_le_off a b
    simp only [R.SWC_DROP_CNT] at this ⊢
    omega
  · exact away_of_below (.inr (by omega)) (by omega) r hr a b

theorem evt_away : ∀ r ∈ dropRegs, ∀ a b, F.SWC_EVT_AGE.reg.off 0 0 ≠ r.off a b := by
  intro r hr a b
  rcases List.mem_cons.1 hr with rfl | hr
  · have := R.SWC_DROP_CNT.base_le_off a b
    have : F.SWC_EVT_AGE.reg.off 0 0 = 0x200004 := rfl
    simp only [R.SWC_DROP_CNT] at *
    omega
  · exact away_of_below (.inl (by decide)) (by decide) r hr a b

theorem queueClass_lt (q : Nat) : queueClass q < 4 := by
  unfold queueClass
  split_ifs <;> omega

/-- A frame that stage 6 has not reached is discarded as stuck. -/
theorem stuckFrame_shows {k : Nat} {f : Frame} (hf : s.frame k = some f) (hs : f.stage ≠ .admitted) (hg : f.stage ≠ .gone) {c : Nat}
    (hc : c = queueClass (if f.dec.queued then f.dec.queue else 0)) :
    (s.stuckFrame k).get F.SWC_AGE_CNT_COUNT c = min (s.get F.SWC_AGE_CNT_COUNT c + 1) (2 ^ 32 - 1) ∧ (s.stuckFrame k).bit F.SWC_EVT_AGE = true ∧
    (s.stuckFrame k).md = s.md ∧ ∀ g, (s.stuckFrame k).frame k = some g → g.stage = .gone ∧ g.drop = 0x40 := by
  have c4 : c < 4 := hc ▸ queueClass_lt _
  have stuck : s.stuckFrame k = ((s.inc F.SWC_AGE_CNT_COUNT c).evt F.SWC_EVT_AGE).dropFrame k 0x40 := by
    unfold State.stuckFrame
    rw [hf, hc]
    dsimp only
    rw [if_neg (by simp [hs, hg])]
  have counted : ((s.inc F.SWC_AGE_CNT_COUNT c).evt F.SWC_EVT_AGE).get F.SWC_AGE_CNT_COUNT c = min (s.get F.SWC_AGE_CNT_COUNT c + 1) (2 ^ 32 - 1) := by
    have width : F.SWC_AGE_CNT_COUNT.width = 32 := rfl
    rw [State.get_evt_free _ (by decide), State.get_inc_same _ _ _ _ _ (by decide), width]
  have evt : ((s.inc F.SWC_AGE_CNT_COUNT c).evt F.SWC_EVT_AGE).bit F.SWC_EVT_AGE = true := State.bit_evt_same _ _ _ _ (by decide) (by decide)
  have md : ((s.inc F.SWC_AGE_CNT_COUNT c).evt F.SWC_EVT_AGE).md = s.md := State.evt_md _ _ _ _
  have hf' : ((s.inc F.SWC_AGE_CNT_COUNT c).evt F.SWC_EVT_AGE).frame k = some f := by
    refine (frame_of_frames ?_ k).trans hf
    exact State.evt_frames _ _ _ _
  rw [stuck]
  generalize (s.inc F.SWC_AGE_CNT_COUNT c).evt F.SWC_EVT_AGE = v at *
  obtain ⟨writes, gone⟩ := dropFrame_quiet (code := 0x40) (by decide) hf' hg
  exact ⟨(writes.get _ (age_away c4)).trans counted, (writes.bit _ evt_away).trans evt, (Low.dropFrame v k 0x40).md.trans md, gone⟩

theorem does_pewterDrainDeadline {k : Nat} {f : Frame} {c : Nat} (acc : s.md.accept.isSome = true) (gate : s.md.gate = none)
    (late : s.md.deadline ≤ s.now) (held : s.drained = false) (ports : s.ports = []) (ch : s.dma.ch = []) (fwd : s.twn.fwdTx = [])
    (frames : s.frames = [(k, some f)])
    (what : f.stage ≠ .admitted ∧ f.stage ≠ .gone ∧ s.swc.lists = [] ∧ c = queueClass (if f.dec.queued then f.dec.queue else 0)
      ∨ f.stage = .admitted ∧ ∃ n x, s.swc.lists = [(n, [x])] ∧ x.fid = k ∧ c = listClass n) : Does .pewterDrainDeadline s fun t =>
      t.get F.SWC_AGE_CNT_COUNT c = min (s.get F.SWC_AGE_CNT_COUNT c + 1) (2 ^ 32 - 1) ∧ t.bit F.SWC_EVT_AGE = true ∧ t.md = s.md ∧
      ∀ g, f.stage ≠ .admitted → t.frame k = some g → g.stage = .gone ∧ g.drop = 0x40 := by
  have hf : s.frame k = some f := by rw [State.frame, frames, tabGet_single]
  have run : exec .pewterDrainDeadline s = finish s s.drainDeadline := rfl
  rw [drainDeadline_eq acc gate late held ports ch fwd] at run
  refine does_of run ?_
  clear run
  have c4 : c < 4 := by
    rcases what with ⟨-, -, -, rfl⟩ | ⟨-, n, x, -, -, rfl⟩
    · exact queueClass_lt _
    · exact listClass_lt n
  rw [settled_get _ _ _ _ _ (not_pba (by decide) ⟨c4, by decide⟩), settled_bit_free _ _ (by decide), settled_md, State.frame, settled_frames]
  rcases what with ⟨hs, hg, lists, hc⟩ | ⟨hs, n, x, lists, -, hc⟩
  · obtain ⟨counted, evt, md, gone⟩ := stuckFrame_shows hf hs hg hc
    rw [lists, List.foldl_nil, frames, List.foldl_cons, List.foldl_nil]
    exact ⟨counted, evt, md, fun g _ hk => gone g hk⟩
  · have list : s.list n = [x] := by rw [State.list, lists, tabGet_single]
    have passed : Passed s := fun j g hj => by
      rw [State.frame, frames, tabGet, tabFind?, tabFind?] at hj
      split at hj
      · cases hj
        exact .inl hs
      · cases hj
    obtain ⟨-, -, counted, -, evt, passed'⟩ := ageDiscard_shows list
    have rest : ∀ l : Tab (Option Frame), l.foldl (fun s e => s.stuckFrame e.1) (s.ageDiscard n) = s.ageDiscard n :=
      List.foldl_fixed' (f := fun (s : State) (e : Nat × Option Frame) => s.stuckFrame e.1) fun e => stuckFrame_passed (passed' passed) e.1
    rw [lists, List.foldl_cons, List.foldl_nil, List.length_singleton, stuckList_single list, rest, hc]
    exact ⟨counted, evt, (Low.ageDiscard s n).md, fun g h => absurd hs h⟩

/-! ## The end of an entry sequence (R49) -/

/-- GLB_MODE and its event at the end of an entry sequence. -/
def State.entryShown (s : State) (old target : Nat) : State :=
  let s := (s.put F.GLB_MODE_PREV old).put F.GLB_MODE_CUR target
  ((s.put F.GLB_MODE_TRANSIT 0).put F.GLB_MODE_FORCED 0).evt F.GLB_MODE_STAT_DONE

theorem entryShown_shows {old target : Nat} (ho : old < 8) (ht : target < 8) : (s.entryShown old target).mode = target ∧
    (s.entryShown old target).get F.GLB_MODE_PREV = old ∧ (s.entryShown old target).bit F.GLB_MODE_TRANSIT = false := by
  unfold State.entryShown State.mode
  refine ⟨?_, ?_, ?_⟩
  · rw [State.get_evt_free _ (by decide), State.get_put_beside _ (by decide), State.get_put_beside _ (by decide)]
    exact State.get_put_fits _ (by decide) ht _ _
  · rw [State.get_evt_free _ (by decide), State.get_put_beside _ (by decide), State.get_put_beside _ (by decide), State.get_put_beside _ (by decide)]
    exact State.get_put_fits _ (by decide) ho _ _
  · rw [State.bit_evt_free _ (by decide), State.bit_put_beside _ (by decide)]
    exact State.bit_put_zero _ (by decide) _ _

theorem Low.adpPause (h : Low s t) : Low s t.adpPause := h.same

theorem entryDone_shows {target : Nat} (ht : target < 8) : (s.entryDone target).mode = target ∧ (s.entryDone target).get F.GLB_MODE_PREV = s.mode ∧
    (s.entryDone target).bit F.GLB_MODE_TRANSIT = false ∧ (s.entryDone target).md.accept = none := by
  obtain ⟨cur, prev, transit⟩ := entryShown_shows (s := s.noteMode s.now) (mode_lt s) ht
  have entry : s.entryDone target = { (if s.mode = modeADAPTIVE then
      (if target = modePEWTER then ((s.noteMode s.now).entryShown s.mode target).adpPause
        else ((s.noteMode s.now).entryShown s.mode target).adpLeave ((s.noteMode s.now).entryShown s.mode target).now)
      else (s.noteMode s.now).entryShown s.mode target) with
      md := { (if s.mode = modeADAPTIVE then
        (if target = modePEWTER then ((s.noteMode s.now).entryShown s.mode target).adpPause
          else ((s.noteMode s.now).entryShown s.mode target).adpLeave ((s.noteMode s.now).entryShown s.mode target).now)
        else (s.noteMode s.now).entryShown s.mode target).md with accept := none, gate := none } } := rfl
  rw [entry]
  generalize (s.noteMode s.now).entryShown s.mode target = v at *
  have low : Low v (if s.mode = modeADAPTIVE then (if target = modePEWTER then v.adpPause else v.adpLeave v.now) else v) :=
    Low.ite (Low.ite (Low.adpPause (Low.refl v)) (Low.adpLeave _ _)) (Low.refl v)
  generalize (if s.mode = modeADAPTIVE then (if target = modePEWTER then v.adpPause else v.adpLeave v.now) else v) = w at *
  exact ⟨low.mode.trans cur, (low.get _ (by decide)).trans prev, (low.bit _ (by decide)).trans transit, rfl⟩

theorem does_maintenanceEnter (h : s.draining modeMAINTENANCE = true) (empty : s.drained = true) : Does .maintenanceEnter s fun t =>
    t.mode = modeMAINTENANCE ∧ t.get F.GLB_MODE_PREV = s.mode ∧ t.bit F.GLB_MODE_TRANSIT = false ∧ t.md.accept = none := by
  have enter : s.maintenanceEnter = s.entryDone modeMAINTENANCE := by
    unfold State.maintenanceEnter
    rw [h, empty]
    rfl
  have run : exec .maintenanceEnter s = finish s s.maintenanceEnter := rfl
  rw [enter] at run
  obtain ⟨cur, prev, transit, accept⟩ := entryDone_shows (s := s) (target := modeMAINTENANCE) (by decide)
  refine does_of run ?_
  rw [settled_mode, settled_get_free _ _ (by decide), settled_bit_free _ _ (by decide), settled_md]
  exact ⟨cur, prev, transit, accept⟩

theorem does_pewterGated {g : Nat} (gate : s.md.gate = some g) (past : g + 15000 ≤ s.inv.ticks) : Does .pewterGated s fun t =>
    t.mode = modePEWTER ∧ t.get F.GLB_MODE_PREV = s.mode ∧ t.bit F.GLB_MODE_TRANSIT = false := by
  have gated : ∃ v, Low (s.entryDone modePEWTER) v ∧ s.pewterGated = v := by
    refine ⟨_, ?_, rfl⟩
    unfold State.pewterGated
    rw [gate]
    dsimp only
    rw [if_neg (by omega)]
    refine Low.foldl (Low.refl _) _ fun v p => Low.ite (Low.refl v) (Low.ite ((Low.linkLost _ _ _).trans (Low.bringUp _ _)) (Low.refl v))
  obtain ⟨v, low, e⟩ := gated
  have run : exec .pewterGated s = finish s s.pewterGated := rfl
  rw [e] at run
  obtain ⟨cur, prev, transit, -⟩ := entryDone_shows (s := s) (target := modePEWTER) (by decide)
  refine does_of run ?_
  rw [settled_mode, settled_get_free _ _ (by decide), settled_bit_free _ _ (by decide)]
  exact ⟨low.mode.trans cur, (low.get _ (by decide)).trans prev, (low.bit _ (by decide)).trans transit⟩

/-! ## What wakes the device, and the wake (R52 to R54) -/

/-- The sources of the slots that a frame meets. -/
def State.kaHits (s : State) (p : Nat) (b : List Byte) : Nat :=
  (List.range 4).foldl (fun (a : Nat) i => match s.md.ka[i]? with
    | some k => if k.en && k.port == p && k.matches b then a ||| 2 ^ (2 + i) else a
    | none => a) 0

/-- One slot judges a frame. -/
def kaHit (ka : List KaSlot) (p : Nat) (b : List Byte) (a i : Nat) : Nat :=
  match ka[i]? with
  | some k => if k.en && k.port == p && k.matches b then a ||| 2 ^ (2 + i) else a
  | none => a

theorem kaHit_keeps (ka : List KaSlot) (p : Nat) (b : List Byte) (a i n : Nat) (h : a.testBit n = true) : (kaHit ka p b a i).testBit n = true := by
  unfold kaHit
  split
  · split
    · rw [Nat.testBit_or, h, Bool.true_or]
    · exact h
  · exact h

theorem foldl_kaHit_keeps (ka : List KaSlot) (p : Nat) (b : List Byte) (l : List Nat) (a n : Nat) (h : a.testBit n = true) :
    (l.foldl (kaHit ka p b) a).testBit n = true :=
  List.foldlRecOn (motive := fun a : Nat => a.testBit n = true) l _ h fun a ha i _ => kaHit_keeps ka p b a i n ha

theorem foldl_kaHit {ka : List KaSlot} {p i : Nat} {b : List Byte} {k : KaSlot} (hk : ka[i]? = some k) (en : k.en = true) (port : k.port = p)
    (hit : k.matches b = true) (l : List Nat) (a : Nat) (hi : i ∈ l) : (l.foldl (kaHit ka p b) a).testBit (2 + i) = true := by
  induction l generalizing a with
  | nil => cases hi
  | cons j l ih =>
    rw [List.foldl_cons]
    rcases List.mem_cons.1 hi with rfl | hi
    · refine foldl_kaHit_keeps _ _ _ _ _ _ ?_
      rw [kaHit, hk]
      dsimp only
      rw [if_pos (by simp [en, port, hit]), Nat.testBit_or, Nat.testBit_two_pow_self, Bool.or_true]
    · exact ih _ hi

theorem does_keepaliveFrame {p : Port} {b : List Byte} {i : Nat} {k : KaSlot} (hm : s.mode = modePEWTER) (h4 : i < 4) (hk : s.md.ka[i]? = some k)
    (en : k.en = true) (port : k.port = p.val) (hit : k.matches b = true) (hw : s.md.wake = none) : Does (.keepaliveFrame p b) s fun t =>
      t.md.wakeDue.testBit (2 + i) = true := by
  let v := s.countReceived p b (errorFlags b (s.get F.PORT_RXCFG_MAXLEN p) false false false) false
  have md : v.md = s.md := (Low.countReceived s p b _ false).md
  have any : (s.md.ka.any fun k => k.en && k.port == p.val) = true :=
    List.any_eq_true.2 ⟨k, List.mem_of_getElem? hk, by simp [en, port]⟩
  have frame : s.keepAliveFrame p b = { v with md := { v.md with wakeDue := v.md.wakeDue ||| (List.range 4).foldl (kaHit v.md.ka p b) 0 } } := by
    unfold State.keepAliveFrame
    rw [if_pos ⟨hm, any⟩]
    have : v.md.wake.isSome = false := by rw [md, hw]; rfl
    exact if_neg (by rw [this]; exact Bool.false_ne_true)
  have run : exec (.keepaliveFrame p b) s = finish s (s.keepAliveFrame p b) := rfl
  rw [frame] at run
  refine does_of run ?_
  rw [settled_md]
  show (v.md.wakeDue ||| (List.range 4).foldl (kaHit v.md.ka p b) 0).testBit (2 + i) = true
  rw [Nat.testBit_or, md, foldl_kaHit hk en port hit _ _ (List.mem_range.2 h4), Bool.or_true]

theorem does_timeWake (hm : s.mode = modePEWTER) (hw : s.md.wake = none) (en : s.bit F.GLB_PEWTER_CFG_TIME_WAKE_EN = true)
    (due : fullTime (s.dom 0) (s.get F.GLB_WAKE_SEC_SEC) (s.get F.GLB_WAKE_NS_NS) ≤ s.now) : Does .timeWake s fun t =>
      t = settled s { s with md := { s.md with wakeDue := s.md.wakeDue ||| 2 } } := by
  refine does_of (u := s.timeWake) rfl ?_
  have wake : s.timeWake = { s with md := { s.md with wakeDue := s.md.wakeDue ||| 2 } } := if_pos ⟨hm, by rw [hw]; rfl, en, due⟩
  rw [wake]

theorem does_wakeStart (hm : s.mode = modePEWTER) (hw : s.md.wake = none) (due : s.md.wakeDue ≠ 0) : Does .wakeStart s fun t =>
    t.md = { s.md with wake := some s.inv.ticks, wakeDue := 0 } := by
  have start : ∃ v, v.md = { s.md with wake := some s.inv.ticks, wakeDue := 0 } ∧ Low v s.wakeStart := by
    unfold State.wakeStart
    rw [if_pos ⟨hm, by rw [hw]; rfl, due⟩]
    exact ⟨_, rfl, Low.foldl (Low.refl _) _ fun v p => Low.ite (Low.bringUp _ _) (Low.refl v)⟩
  obtain ⟨v, md, low⟩ := start
  refine does_of (u := s.wakeStart) rfl ?_
  rw [settled_md, low.md, md]

/-- The memories that a wake finds empty. -/
def State.wakeCleared (s : State) : State := ({ s.clearSwc with frames := s.rxOnly }.cffEmpty).noteMode s.now

/-- GLB_MODE and its events at the end of a wake. -/
def State.wakeShown (s : State) (prev : Nat) (forced : Bool) : State :=
  let s := ((s.put F.GLB_MODE_CUR prev).put F.GLB_MODE_PREV modePEWTER).put F.GLB_MODE_TRANSIT 0
  let s := (s.put F.GLB_MODE_FORCED (if forced then 1 else 0)).evt2 F.GLB_MODE_STAT_WAKE F.GLB_MODE_STAT_DONE
  let s := if forced then s.put F.GLB_MODE_STAT_FORCED 1 else s
  if s.bit F.MGT_WDT_CFG_EN then s.put F.MGT_WDT_LEFT_LEFT (s.get F.MGT_WDT_CFG_TIMEOUT) else s

theorem wakeShown_shows {prev : Nat} (forced : Bool) (hp : prev < 8) : (s.wakeShown prev forced).mode = prev ∧
    (s.wakeShown prev forced).get F.GLB_MODE_PREV = modePEWTER ∧ (s.wakeShown prev forced).bit F.GLB_MODE_TRANSIT = false := by
  have stat : ∀ (v : State) (f : Fld), f.reg = R.GLB_MODE →
      (if (if forced then v.put F.GLB_MODE_STAT_FORCED 1 else v).bit F.MGT_WDT_CFG_EN then
        (if forced then v.put F.GLB_MODE_STAT_FORCED 1 else v).put F.MGT_WDT_LEFT_LEFT
          ((if forced then v.put F.GLB_MODE_STAT_FORCED 1 else v).get F.MGT_WDT_CFG_TIMEOUT)
        else if forced then v.put F.GLB_MODE_STAT_FORCED 1 else v).get f = v.get f := fun v f hf => by
    have stat : free f.reg F.GLB_MODE_STAT_FORCED.reg = true := by rw [hf]; decide
    have left : free f.reg F.MGT_WDT_LEFT_LEFT.reg = true := by rw [hf]; decide
    have forced_ : (if forced then v.put F.GLB_MODE_STAT_FORCED 1 else v).get f = v.get f := by
      split
      · exact State.get_put_free (f := F.GLB_MODE_STAT_FORCED) _ stat ..
      · rfl
    generalize (if forced then v.put F.GLB_MODE_STAT_FORCED 1 else v) = w at *
    split
    · exact (State.get_put_free (f := F.MGT_WDT_LEFT_LEFT) _ left ..).trans forced_
    · exact forced_
  have evts : ∀ (v : State) (f : Fld), f.reg = R.GLB_MODE → (v.evt2 F.GLB_MODE_STAT_WAKE F.GLB_MODE_STAT_DONE).get f = v.get f := fun v f hf => by
    have done : free f.reg F.GLB_MODE_STAT_DONE.reg = true := by rw [hf]; decide
    have wake : free f.reg F.GLB_MODE_STAT_WAKE.reg = true := by rw [hf]; decide
    unfold State.evt2
    dsimp only
    rw [State.get_put_free (f := F.GLB_MODE_STAT_DONE) _ done, State.get_evt_free (f := F.GLB_MODE_STAT_WAKE) _ wake]
  unfold State.wakeShown State.mode
  dsimp only
  refine ⟨?_, ?_, ?_⟩
  · rw [stat _ _ rfl, evts _ _ rfl, State.get_put_beside _ (by decide), State.get_put_beside _ (by decide), State.get_put_beside _ (by decide)]
    exact State.get_put_fits _ (by decide) hp _ _
  · rw [stat _ _ rfl, evts _ _ rfl, State.get_put_beside _ (by decide), State.get_put_beside _ (by decide)]
    exact State.get_put_fits _ (by decide) (by decide) _ _
  · rw [State.bit, stat _ _ rfl, evts _ _ rfl, State.get_put_beside _ (by decide)]
    exact State.bit_put_zero _ (by decide) _ _

theorem wakeComplete_eq {w : Nat} (hw : s.md.wake = some w) (past : w + 22500 ≤ s.inv.ticks) : ∃ (forced : Bool) (a : AdpState) (x : PmcState)
    (g : MgtState) (m : ModeState) (at_ : Option Int), s.wakeComplete =
      { s.wakeCleared.wakeShown (s.get F.GLB_MODE_PREV) forced with
        adp := a, pmc := x, mgt := g, md := { m with wake := none, ka := [], pdsAt := at_ } } := by
  have early : ¬ s.inv.ticks < w + 22500 := by omega
  unfold State.wakeComplete
  rw [hw]
  by_cases hp : s.get F.GLB_MODE_PREV = modeADAPTIVE
  · exact ⟨_, _, _, _, _, _, (if_neg early).trans (if_pos hp)⟩
  · exact ⟨_, _, _, _, _, _, (if_neg early).trans (if_neg hp)⟩

theorem does_wakeComplete {w : Nat} (hw : s.md.wake = some w) (past : w + 22500 ≤ s.inv.ticks) : Does .wakeComplete s fun t =>
    t.mode = s.get F.GLB_MODE_PREV ∧ t.get F.GLB_MODE_PREV = modePEWTER ∧ t.bit F.GLB_MODE_TRANSIT = false ∧ t.md.wake = none ∧ t.md.ka = [] := by
  obtain ⟨forced, a, x, g, m, at_, e⟩ := wakeComplete_eq hw past
  have run : exec .wakeComplete s = finish s s.wakeComplete := rfl
  rw [e] at run
  obtain ⟨cur, prev, transit⟩ := wakeShown_shows (s := s.wakeCleared) forced (s.get_lt F.GLB_MODE_PREV 0 0)
  refine does_of run ?_
  clear run e
  generalize s.wakeCleared.wakeShown (s.get F.GLB_MODE_PREV) forced = v at *
  have regs : ({ v with adp := a, pmc := x, mgt := g, md := { m with wake := none, ka := [], pdsAt := at_ } } : State).regs = v.regs := rfl
  rw [State.mode, settled_get_free _ _ (by decide), settled_get_free _ _ (by decide), settled_bit_free _ _ (by decide), settled_md,
    State.get_of_regs regs, State.get_of_regs regs, State.bit_of_regs regs]
  exact ⟨cur, prev, transit, rfl, rfl⟩

/-- Settles O20: an entry sequence and a wake change GLB_MODE whatever else stops with them, and what is stuck is discarded once. -/
theorem pewterAndWake : Obligations.PewterAndWake :=
  ⟨fun _ h empty => does_pewterDrainComplete h empty,
    fun _ _ _ _ acc gate late held ports ch fwd frames what => does_pewterDrainDeadline acc gate late held ports ch fwd frames what,
    fun _ _ gate past => does_pewterGated gate past, fun _ h empty => does_maintenanceEnter h empty,
    fun _ _ _ _ _ hm h4 hk en port hit hw => does_keepaliveFrame hm h4 hk en port hit hw, fun _ hm hw en due => does_timeWake hm hw en due,
    fun _ hm hw due => does_wakeStart hm hw due, fun _ _ hw past => does_wakeComplete hw past⟩

end Sys2Proof.Machine
end

section
set_option Elab.async false
/-! PROOFS. What the reads of the forwarding tables depend on, and the staging of a change (05_forwarding_tables.md R149, R178; 06_epochs_and_consistency.md
R179). -/

namespace Sys2Proof.Machine

variable {s t u : State}

/-! ## What a search of the tables reads -/

/-- The fields that say whether the tables are under test. -/
def tableFlds : List Fld := [F.GLB_MNT_STAT_BUSY, F.GLB_MNT_STAT_OP, F.GLB_MNT_STAT_MEM]

/-- In `u` the tables, the frames and the times are those of `s`. -/
structure TablesAgree (s u : State) : Prop where
  fields : ∀ f ∈ tableFlds, ∀ i j, u.get f i j = s.get f i j
  epoch : u.epoch = s.epoch
  seed : ∀ k < 8, ∀ b < 2, u.get F.LKP_SEED_SEED k b = s.get F.LKP_SEED_SEED k b
  index : ∀ w < 2, u.get F.LKP_INDEX_INDEX w = s.get F.LKP_INDEX_INDEX w
  data : ∀ w < 2, u.lkpData w = s.lkpData w
  slots : u.lkp.slots = s.lkp.slots
  lost : u.lkp.lost = s.lkp.lost
  tcNow : u.lkp.tcNow = s.lkp.tcNow
  staged : u.lkp.staged = s.lkp.staged
  taken : u.lkp.taken = s.lkp.taken
  frames : u.frames = s.frames
  lists : u.swc.lists = s.swc.lists
  inv : u.inv = s.inv

namespace TablesAgree

theorem refl (s : State) : TablesAgree s s := ⟨fun _ _ _ _ => rfl, rfl, fun _ _ _ _ => rfl, fun _ _ => rfl, fun _ _ => rfl, rfl, rfl, rfl, rfl, rfl, rfl, rfl, rfl⟩

/-- A command's word stands in its own register. -/
theorem setCmd (s : State) (v : Word) {w : Nat} (hw : w < 2) : TablesAgree s (s.setReg R.LKP_CMD v w) := by
  have index : ∀ x < 2, (s.setReg R.LKP_CMD v w).get F.LKP_INDEX_INDEX x = s.get F.LKP_INDEX_INDEX x := fun x hx =>
    State.get_setReg_other _ _ _ _ _ _ _ _ (off_ne (by decide) ⟨hx, by decide⟩ ⟨hw, by decide⟩)
  refine ⟨fun f hf _ _ => ?_, ?_, fun k hk b hb => ?_, index, fun x hx => ?_, rfl, rfl, rfl, rfl, rfl, rfl, rfl, rfl⟩
  · have apart : (tableFlds.all fun f => free f.reg R.LKP_CMD) = true := by decide
    exact State.get_setReg_free s (List.all_eq_true.1 apart f hf) ..
  · exact State.get_setReg_other _ _ _ _ _ _ _ _ (off_ne (by decide) ⟨by decide, by decide⟩ ⟨hw, by decide⟩)
  · exact State.get_setReg_other _ _ _ _ _ _ _ _ (off_ne (by decide) ⟨hk, hb⟩ ⟨hw, by decide⟩)
  · unfold State.lkpData
    refine List.foldl_ext _ _ _ fun a i hi => ?_
    rw [State.get_setReg_other (s := s) _ _ _ _ _ _ _ (off_ne (by decide) ⟨hx, List.mem_range.1 hi⟩ ⟨hw, by decide⟩)]

variable (h : TablesAgree s u)
include h

theorem underTest : u.underTest 0 = s.underTest 0 := by
  rw [State.underTest, State.underTest, State.bit, State.bit, h.fields _ (by decide), h.fields _ (by decide), h.fields _ (by decide)]

theorem slot (k i : Nat) : u.slot k i = s.slot k i := State.slot_of_parts h.underTest h.slots h.lost k i

theorem hashBucket {k : Nat} (hk : k < 8) {b : Nat} (hb : b < 2) (x : Nat) : u.hashBucket k b x = s.hashBucket k b x := by
  unfold State.hashBucket
  rw [h.seed k hk b hb]

theorem candidates {k : Nat} (hk : k < 8) (x : Nat) : u.candidates k x = s.candidates k x := by
  unfold State.candidates
  rw [h.hashBucket hk (by decide), h.hashBucket hk (by decide)]

theorem matches_ (k x e i : Nat) : u.matches k x e i = s.matches k x e i := by
  unfold State.matches
  rw [h.slot, h.slot]

theorem findPresent {k : Nat} (hk : k < 8) (x : Nat) : u.findPresent k x = s.findPresent k x := by
  unfold State.findPresent
  rw [h.candidates hk, h.epoch]
  congr 1
  funext i
  rw [h.slot, h.matches_]

theorem stagedAt (k i : Nat) : u.stagedAt k i = s.stagedAt k i := by rw [State.stagedAt, State.stagedAt, h.staged]

theorem slotPairs (k i : Nat) : u.slotPairs k i = s.slotPairs k i := by
  unfold State.slotPairs
  rw [h.slot]

theorem oddPair (k i : Nat) : u.oddPair k i = s.oddPair k i := by rw [State.oddPair, State.oddPair, h.slotPairs]

theorem prevEpoch : u.prevEpoch = s.prevEpoch := by rw [State.prevEpoch, State.prevEpoch, h.epoch]

theorem epochCount (e : Nat) : u.epochCount e = s.epochCount e := by
  have counted : ∀ k f, u.counted k f = s.counted k f := fun k f => by
    unfold State.counted State.countCopies
    rw [h.lists]
  unfold State.epochCount
  rw [h.frames]
  congr 2
  funext x
  split
  · rw [counted]
  · rfl

theorem drainDone : u.drainDone = s.drainDone := by
  have now : u.now = s.now := by
    unfold State.now State.dom
    rw [h.inv]
  rw [State.drainDone, State.drainDone, h.prevEpoch, h.epochCount, h.tcNow, now]

theorem epochGone (e : Nat) : u.epochGone e = s.epochGone e := by
  unfold State.epochGone
  rw [h.epoch, h.prevEpoch, h.drainDone]

theorem slotFree (k i : Nat) : u.slotFree k i = s.slotFree k i := by
  unfold State.slotFree
  rw [h.slot, h.prevEpoch]
  simp only [h.epochGone]

theorem isFree (k i : Nat) : u.isFree k i = s.isFree k i := by
  unfold State.isFree
  rw [h.slotFree, h.slotFree, h.slotPairs]

theorem freePlace (k img lo n : Nat) : u.freePlace k img lo n = s.freePlace k img lo n := by
  unfold State.freePlace
  congr 1
  funext i
  rw [h.isFree, h.isFree]

theorem boundOk (k m : Nat) : u.boundOk k m = s.boundOk k m := by
  unfold State.boundOk State.nextImg
  rw [h.stagedAt, h.slot, h.epoch]

end TablesAgree

/-! ## Parity errors (R169) -/

theorem parityAmong_sound {k : Nat} (h : ∀ i, (s.slot k i).perr = false) (l : List Nat) : s.parityAmong k l = s := by
  unfold State.parityAmong
  refine List.foldl_fixed' (f := fun (s : State) i => if (s.slot k i).perr then s.parityFound k i else s) (fun i => ?_) l
  rw [h, if_neg Bool.false_ne_true]

/-! ## A staged change (R179) -/

/-- From `s` to `t` the set being built changes. -/
structure StagedOnly (s t : State) : Prop where
  agree : ∀ k i, t.slot k i = s.slot k i
  slots : t.lkp.slots = s.lkp.slots
  flush : t.lkp.flush = s.lkp.flush
  underTest : t.underTest 0 = s.underTest 0

theorem stage_shows (s : State) (e : Staged) (room : s.lkp.staged.length + s.lkp.taken.length < 4096) :
    (s.stage e).1 = 0 ∧ (s.stage e).2.stagedAt e.table e.index = some e ∧ StagedOnly s (s.stage e).2 := by
  have here : (e.table == e.table && e.index == e.index) = true := by simp
  have put : ∀ (l : List Staged) (n : Nat), StagedOnly s (({ s with lkp := { s.lkp with staged := l } } : State).put F.EPOCH_STAT_STAGED n) := fun l n => by
    have test : (({ s with lkp := { s.lkp with staged := l } } : State).put F.EPOCH_STAT_STAGED n).underTest 0 = s.underTest 0 := by
      unfold State.underTest
      rw [State.bit_put_free _ (by decide), State.get_put_free _ (by decide), State.get_put_free _ (by decide)]
      rfl
    exact ⟨fun k i => State.slot_of_parts test rfl rfl k i, rfl, rfl, test⟩
  unfold State.stage
  dsimp only
  split
  · next again =>
    refine ⟨rfl, ?_, ⟨fun k i => State.slot_of_parts rfl rfl rfl k i, rfl, rfl, rfl⟩⟩
    obtain ⟨y, mem, hy⟩ := List.any_eq_true.1 again
    have at_ : ((s.lkp.staged.map fun x => if x.table = e.table ∧ x.index = e.index then e else x).find? fun x =>
        x.table == e.table && x.index == e.index) = some e := by
      have found : ((s.lkp.staged.find? fun x => x.table == e.table && x.index == e.index)).isSome := List.find?_isSome.2 ⟨y, mem, hy⟩
      obtain ⟨z, hz⟩ := Option.isSome_iff_exists.1 found
      have same : ((fun x : Staged => x.table == e.table && x.index == e.index) ∘ fun x => if x.table = e.table ∧ x.index = e.index then e else x) =
          fun x => x.table == e.table && x.index == e.index := by
        funext x
        simp only [Function.comp_apply]
        split
        · next hx => simp [hx]
        · rfl
      rw [List.find?_map, same, hz, Option.map_some]
      have hz' := List.find?_some hz
      simp only [Bool.and_eq_true, beq_iff_eq] at hz'
      rw [if_pos hz']
    exact at_
  · next new =>
    rw [if_neg (by omega)]
    refine ⟨rfl, ?_, put _ _⟩
    have none_ : (s.lkp.staged.find? fun x => x.table == e.table && x.index == e.index) = none := by
      rw [List.find?_eq_none]
      intro x hx hit
      exact new (List.any_eq_true.2 ⟨x, hx, hit⟩)
    show ((s.lkp.staged ++ [e]).find? fun x => x.table == e.table && x.index == e.index) = some e
    rw [List.find?_append, none_, List.find?_cons, here]
    rfl

/-- The reservation of a slot leaves the set being built as it is. -/
theorem stagedAt_setSlot (k i k' i' : Nat) (v : Slot9) : (s.setSlot k i v).stagedAt k' i' = s.stagedAt k' i' := by
  obtain ⟨l, e⟩ := s.setSlot_lkp k i v
  rw [e]
  rfl

/-! ## VALID cleared -/

theorem testBit_sub_self (x n : Nat) : (x - (if x.testBit n then 2 ^ n else 0)).testBit n = false := by
  cases h : x.testBit n with
  | false => simpa using h
  | true =>
    have split_ := Nat.div_add_mod x (2 ^ n)
    have odd : x / 2 ^ n % 2 = 1 := by simpa [Nat.testBit_eq_decide_div_mod_eq] using h
    have pos : 0 < 2 ^ n := Nat.two_pow_pos n
    rw [if_pos rfl, Nat.testBit_eq_decide_div_mod_eq]
    have part : (x - 2 ^ n) / 2 ^ n = x / 2 ^ n - 1 := by
      conv_lhs => rw [show x - 2 ^ n = x - 2 ^ n * 1 by rw [Nat.mul_one], Nat.sub_mul_div]
    rw [part]
    simp
    omega

theorem imgValid_imgClear {k : Nat} (h : hashed k = true) (img : Nat) : imgValid k (imgClear k img) = false := by
  have cases_ : k = 0 ∨ k = 2 ∨ k = 3 ∨ k = 4 ∨ k = 7 := by simpa [hashed, or_assoc] using h
  rcases cases_ with rfl | rfl | rfl | rfl | rfl
  · exact testBit_sub_self img 64
  · exact testBit_sub_self img 41
  · exact testBit_sub_self img 139
  · exact testBit_sub_self img 28
  · exact testBit_sub_self img 0

end Sys2Proof.Machine
end

section
set_option Elab.async false
/-! PROOFS. The commands of the table access windows (05_forwarding_tables.md R172). -/

namespace Sys2Proof.Machine

variable {s t u : State}

/-! ## The command word -/

theorem lkpWord_op {op : Nat} (h : op < 16) (table : Fin 16) (ver : Bool) : getBits (lkpWord op table ver) 3 0 = op := by
  rw [lkpWord, getBits_word]
  cases ver <;> simp <;> omega

theorem lkpWord_table {op : Nat} (h : op < 16) (table : Fin 16) (ver : Bool) : getBits (lkpWord op table ver) 7 4 = table := by
  rw [lkpWord, getBits_word]
  cases ver <;> simp <;> omega

theorem lkpWord_ver {op : Nat} (h : op < 16) (table : Fin 16) (ver : Bool) : (getBits (lkpWord op table ver) 8 8 == 1) = ver := by
  rw [lkpWord, getBits_word]
  cases ver <;> simp <;> omega

/-! ## The acceptance of a command -/

/-- An accepted command of window `w` that answered `r` and left `v`. -/
def State.lkpAccepted (v : State) (w : Nat) (word : Word) (r : LkpRes) (op m : Nat) : State :=
  let v : State := if op = 6 ∧ r.status = 0 then { v with lkp := { v.lkp with flush := tabInsert w (m, 0) v.lkp.flush } } else v
  (v.put F.LKP_STAT_BUSY 1 w).setLkpCmd w (some { word := word, status := r.status, index := r.index, img := r.img, rtag := r.rtag })

theorem flushSome_idle (h : s.lkp.flush = []) (n : Nat) : s.flushSome n = s := by
  unfold State.flushSome
  rw [h, List.foldl_nil]

/-- The word of LKP_CMD as an accepted write of operation `op` runs it. -/
theorem lkpAccept_eq (h : s.lkp.flush = []) {op : Nat} (hop : op < 16) (w : Nat) (table : Fin 16) (ver : Bool) :
    s.lkpAccept w (lkpWord op table ver) =
      State.lkpAccepted (s.lkpDo op table (s.get F.LKP_INDEX_INDEX w) ver (s.lkpData w)).2 w (lkpWord op table ver)
        (s.lkpDo op table (s.get F.LKP_INDEX_INDEX w) ver (s.lkpData w)).1 op (s.lkpData w) := by
  unfold State.lkpAccept
  rw [flushSome_idle h, lkpWord_op hop, lkpWord_table hop, lkpWord_ver hop]
  rfl

/-- What the acceptance of a command leaves in `t`, where the command answered `r` and left `v`. -/
structure LkpAccepted (w : Nat) (word : Word) (op m : Nat) (r : LkpRes × State) (t : State) : Prop where
  cmd : t.lkpCmdOf w = some ⟨word, r.1.status, r.1.index, r.1.img, r.1.rtag⟩
  busy : t.bit F.LKP_STAT_BUSY w = true
  slots : t.lkp.slots = r.2.lkp.slots
  staged : t.lkp.staged = r.2.lkp.staged
  slot : ∀ k i, t.slot k i = r.2.slot k i
  flush : t.lkp.flush = if op = 6 ∧ r.1.status = 0 then tabInsert w (m, 0) r.2.lkp.flush else r.2.lkp.flush

theorem underTest_put {f : Fld} (hm : free R.GLB_MNT_STAT f.reg = true) (v i j m : Nat) : (s.put f v i j).underTest m = s.underTest m := by
  unfold State.underTest
  rw [State.bit_put_free _ hm, State.get_put_free _ hm, State.get_put_free _ hm]

theorem lkpAccepted_shows (v : State) {w : Nat} (hw : w < 2) (word : Word) (r : LkpRes) (op m : Nat) (x : _) :
    LkpAccepted w word op m (r, v) (settled s { v.lkpAccepted w word r op m with twn := x }) := by
  have split_ : ∀ (fl : Tab (Nat × Nat)), (if op = 6 ∧ r.status = 0 then tabInsert w (m, 0) v.lkp.flush else v.lkp.flush) = fl →
      v.lkpAccepted w word r op m = ((({ v with lkp := { v.lkp with flush := fl } } : State).put F.LKP_STAT_BUSY 1 w).setLkpCmd w
        (some { word := word, status := r.status, index := r.index, img := r.img, rtag := r.rtag })) := fun fl e => by
    subst e
    unfold State.lkpAccepted
    split <;> rfl
  generalize e : (if op = 6 ∧ r.status = 0 then tabInsert w (m, 0) v.lkp.flush else v.lkp.flush) = fl at split_
  rw [split_ fl rfl]
  have two : w = 0 ∨ w = 1 := by omega
  refine ⟨?_, ?_, ?_, ?_, fun k i => (settled_slot _ _ _ _).trans ?_, ?_⟩
  · rw [State.lkpCmdOf, settled_lkp]
    rcases two with rfl | rfl <;> rfl
  · exact (settled_bit _ _ _ _ _ (not_pba (by decide) ⟨hw, by decide⟩)).trans
      (State.bit_put_one ({ v with lkp := { v.lkp with flush := fl } } : State) (by decide) (by decide) _ _)
  · rw [settled_lkp]
    rcases two with rfl | rfl <;> rfl
  · rw [settled_lkp]
    rcases two with rfl | rfl <;> rfl
  · have test : (({ v with lkp := { v.lkp with flush := fl } } : State).put F.LKP_STAT_BUSY 1 w).underTest 0 = v.underTest 0 :=
      underTest_put (s := { v with lkp := { v.lkp with flush := fl } }) (by decide) _ _ _ _
    rcases two with rfl | rfl <;> exact State.slot_of_parts test rfl rfl k i
  · rw [settled_lkp, e]
    rcases two with rfl | rfl <;> rfl

/-- A row that writes LKP_CMD to a window that is not busy runs the command on the tables as they stand. -/
theorem does_lkpAccepted {c : Instr} {h : HostId} {w : Fin 2} {op : Nat} {table : Fin 16} {ver : Bool} {P : State → Prop} (hop : op < 16)
    (he : exec c s = finish s (s.rowWrite (hostNum h) R.LKP_CMD w 0 (lkpWord op table ver))) (ho : s.opens h R.LKP_CMD w 0 = true)
    (hb : s.bit F.LKP_STAT_BUSY w = false) (hl : s.loaded = true) (hf : s.lkp.flush = [])
    (hp : ∀ u t : State, TablesAgree s u → u.lkp.flush = [] → LkpAccepted w (lkpWord op table ver) op (s.lkpData w)
      (u.lkpDo op table (s.get F.LKP_INDEX_INDEX w) ver (s.lkpData w)) t → P t) : Does c s P := by
  obtain ⟨v, hv⟩ := posted_idle (s := s) hb R.LKP_CMD w 0 (lkpWord op table ver) (fun u => u.lkpAccept w (u.windowWord (lkpWord op table ver)))
  have agree : TablesAgree s (s.setReg R.LKP_CMD v w) := TablesAgree.setCmd s v w.isLt
  have word : (s.setReg R.LKP_CMD v w).windowWord (lkpWord op table ver) = lkpWord op table ver :=
    if_pos ((loaded_setReg (by decide) v w 0).trans hl)
  rw [word, lkpAccept_eq (s := s.setReg R.LKP_CMD v w) hf hop, agree.index _ w.isLt, agree.data _ w.isLt] at hv
  have write : s.regWrite (hostNum h) R.LKP_CMD w 0 15 (lkpWord op table ver) = _ := hv
  refine does_rowWrite he ho write fun x => hp _ _ agree hf ?_
  exact lkpAccepted_shows _ w.isLt _ _ _ _ x

/-! ## What the commands answer -/

/-- The first checks of a command pass (R172). -/
theorem lkpDo_known {op : Nat} {k : Nat} (hop : op < 7) (hk : k < 9) (ht : s.underTest 0 = false)
    (keyed : 3 ≤ op → op ≤ 5 → hashed k = true) (flush : op = 6 → k = 0) (write : op = 2 → hashed k = false) (m : Nat) :
    ¬ (7 ≤ op ∨ 9 ≤ k ∨ s.underTest 0 = true ∨ (3 ≤ op ∧ op ≤ 5 ∧ !hashed k) ∨ (op = 6 ∧ k ≠ 0)
      ∨ (op = 2 ∧ hashed k = true ∧ imgValid k m = true)) := by
  rintro (h | h | h | ⟨h, h', h''⟩ | ⟨h, h'⟩ | ⟨h, h', -⟩)
  · omega
  · omega
  · rw [ht] at h
    cases h
  · rw [keyed h h'] at h''
    cases h''
  · exact h' (flush h)
  · rw [write h] at h'
    cases h'

theorem lkpDo_nop (h : s.underTest 0 = false) (i : Nat) (ver : Bool) (m : Nat) : s.lkpDo 0 0 i ver m = ({ status := 0 }, s) := by
  unfold State.lkpDo
  exact (if_neg (lkpDo_known (op := 0) (k := 0) (by decide) (by decide) h (fun _ _ => rfl) nofun nofun _)).trans (if_pos rfl)

theorem lkpDo_read (h : s.underTest 0 = false) {k i : Nat} (hk : k < 9) (hi : i < tblSlots k) (odd : s.oddPair k i = false) (ver : Bool) (m : Nat) :
    s.lkpDo 1 k i ver m = s.lkpRead k i ver := by
  unfold State.lkpDo
  refine (if_neg (lkpDo_known (op := 1) (by decide) hk h (fun e => absurd e (by decide)) nofun nofun _)).trans ?_
  exact (if_neg (by decide)).trans (if_neg (by rw [odd]; simp; omega))

theorem lkpDo_write (h : s.underTest 0 = false) {k i : Nat} (hk : k < 9) (direct : hashed k = false) (hi : i < tblSlots k)
    (odd : s.oddPair k i = false) (ver : Bool) (m : Nat) : s.lkpDo 2 k i ver m = s.lkpWrite k i (m % 2 ^ imgWidth k) := by
  unfold State.lkpDo
  refine (if_neg (lkpDo_known (op := 2) (by decide) hk h (fun e => absurd e (by decide)) nofun (fun _ => direct) _)).trans ?_
  exact (if_neg (by decide)).trans (if_neg (by rw [odd]; simp; omega))

theorem hashed_lt {k : Nat} (h : hashed k = true) : k < 9 := by
  have cases_ : k = 0 ∨ k = 2 ∨ k = 3 ∨ k = 4 ∨ k = 7 := by simpa [hashed, or_assoc] using h
  omega

/-! A command by key of a hashed table. -/

theorem lkpDo_insert (h : s.underTest 0 = false) {k : Nat} (hk : hashed k = true) (i : Nat) (ver : Bool) (m : Nat) :
    s.lkpDo 3 k i ver m = s.lkpInsert k (m % 2 ^ imgWidth k) := by
  unfold State.lkpDo
  refine (if_neg (lkpDo_known (op := 3) (by decide) (hashed_lt hk) h (fun _ _ => hk) nofun nofun _)).trans ?_
  exact (if_neg (by decide)).trans (if_neg (by omega))

theorem lkpDo_delete (h : s.underTest 0 = false) {k : Nat} (hk : hashed k = true) (i : Nat) (ver : Bool) (m : Nat) :
    s.lkpDo 4 k i ver m = s.lkpDelete k (m % 2 ^ imgWidth k) := by
  unfold State.lkpDo
  refine (if_neg (lkpDo_known (op := 4) (by decide) (hashed_lt hk) h (fun _ _ => hk) nofun nofun _)).trans ?_
  exact (if_neg (by decide)).trans (if_neg (by omega))

theorem lkpDo_search (h : s.underTest 0 = false) {k : Nat} (hk : hashed k = true) (i : Nat) (ver : Bool) (m : Nat) :
    s.lkpDo 5 k i ver m = s.lkpSearch k (m % 2 ^ imgWidth k) ver := by
  unfold State.lkpDo
  refine (if_neg (lkpDo_known (op := 5) (by decide) (hashed_lt hk) h (fun _ _ => hk) nofun nofun _)).trans ?_
  exact (if_neg (by decide)).trans (if_neg (by omega))

theorem lkpDo_flush (h : s.underTest 0 = false) (i : Nat) (ver : Bool) (m : Nat) : s.lkpDo 6 0 i ver m = ({ status := 0 }, s) := by
  unfold State.lkpDo
  exact (if_neg (lkpDo_known (op := 6) (k := 0) (by decide) (by decide) h (fun _ e => absurd e (by decide)) (fun _ => rfl) nofun _)).trans ((if_neg (by decide)).trans (if_neg (by omega)))

/-- READ of the version in force, where no slot of the entry has a parity error (R172). -/
theorem lkpRead_sound {k i : Nat} (here : (s.slot k i).perr = false) (next : (s.slot k (i + 1)).perr = false) :
    ∃ tag, s.lkpRead k i false = ({ status := 0, img := some (shownImg k (s.slot k i) (versionFor (s.slot k i) s.epoch).img), rtag := some tag }, s) := by
  unfold State.lkpRead
  dsimp only
  rw [if_neg Bool.false_ne_true]
  dsimp only
  rw [here, next, if_neg Bool.false_ne_true, Bool.and_false, if_neg Bool.false_ne_true]
  exact ⟨_, rfl⟩

/-- WRITE of a direct table stages the image at INDEX (R172, R179). -/
theorem lkpWrite_stages {k i m : Nat} (hk : k = 1 ∨ k = 6 ∨ k = 8) (rsvd : rsvdOk k m = true) (key : keyOk k i m = true)
    (room : s.lkp.staged.length + s.lkp.taken.length < 4096) (free_ : (s.slot k i).res = none) :
    (s.lkpWrite k i m).1.status = 0 ∧ (s.lkpWrite k i m).2 = (s.stage { table := k, index := i, op := 2, img := m }).2 := by
  obtain ⟨done, -, only⟩ := stage_shows s { table := k, index := i, op := 2, img := m } room
  have plain : ¬ (k = 0 ∧ m.testBit 66 = true) := fun e => by omega
  have direct : (hashed k && imgValid k m) = false := by rcases hk with rfl | rfl | rfl <;> rfl
  have unbound : (!s.boundOk k m && k == 5) = false := by
    rw [show (k == 5) = false by rcases hk with rfl | rfl | rfl <;> rfl, Bool.and_false]
  have res : ((s.stage { table := k, index := i, op := 2, img := m }).2.slot k i).res.isSome = false := by
    rw [only.agree, free_]
    rfl
  unfold State.lkpWrite
  dsimp only
  rw [if_neg plain, direct, if_neg Bool.false_ne_true, rsvd, key, Bool.not_true, Bool.or_self, if_neg Bool.false_ne_true, unbound,
    if_neg Bool.false_ne_true]
  dsimp only
  rw [res, if_neg (fun e => Bool.false_ne_true e.2)]
  exact ⟨done, rfl⟩

/-- DELETE of a key that is present and has no staged change (R172, R179). -/
theorem lkpDelete_found {k i m : Nat} (found : s.findPresent k (imgKey k m) = some i) (fresh : s.stagedAt k i = none) :
    ∃ v : Nat, s.lkpDelete k m = ({ status := (s.stage { table := k, index := i, op := 4, img := imgClear k v }).1 },
      (s.stage { table := k, index := i, op := 4, img := imgClear k v }).2) := by
  unfold State.lkpDelete
  dsimp only
  rw [found]
  dsimp only
  rw [fresh]
  exact ⟨_, rfl⟩

theorem lkpDelete_absent {k m : Nat} (absent : s.findPresent k (imgKey k m) = none) : s.lkpDelete k m = ({ status := 1 }, s) := by
  unfold State.lkpDelete
  dsimp only
  rw [absent]

/-- SEARCH in the version in force where no slot has a parity error (R172). -/
theorem lkpSearch_sound {k m : Nat} (h : ∀ i, (s.slot k i).perr = false) :
    (s.lkpSearch k m false).2 = s ∧
    (s.lkpSearch k m false).1.index = (s.candidates k (imgKey k m)).find? (s.matches k (imgKey k m) s.epoch) ∧
    (s.lkpSearch k m false).1.status = if (s.lkpSearch k m false).1.index.isSome then 0 else 1 := by
  unfold State.lkpSearch
  dsimp only
  simp only [parityAmong_sound h, Bool.false_eq_true, if_false]
  cases (s.candidates k (imgKey k m)).find? (s.matches k (imgKey k m) s.epoch) with
  | none => exact ⟨rfl, rfl, rfl⟩
  | some i => exact ⟨rfl, rfl, rfl⟩

end Sys2Proof.Machine
end

section
set_option Elab.async false
/-! PROOFS. A FLUSH and the completion of a window's command (05_forwarding_tables.md R172). -/

namespace Sys2Proof.Machine

variable {s t u : State}

/-! ## The operations of a FLUSH -/

/-- An entry that a FLUSH with DATA0 `d` deletes. -/
def flushHit (d img : Nat) : Bool :=
  fdbDynamic img && (!d.testBit 7 || nb img 80 68 == nb d 6 0) && (!d.testBit 20 || nb img 59 48 == nb d 19 8)

theorem flushHit_iff (d img : Nat) : flushHit d img = true ↔
    fdbDynamic img = true ∧ (d.testBit 7 = false ∨ nb img 80 68 = nb d 6 0) ∧ (d.testBit 20 = false ∨ nb img 59 48 = nb d 19 8) := by
  simp [flushHit, and_assoc]

/-- A slot whose dynamic entry is deleted (R141). -/
def deletedSlot (x : Slot9) : Slot9 := { hwVersions x (imgClear 0) with stale := false }

/-- The visit of one slot of the FDB by a FLUSH. -/
def State.flushOne (d : Nat) (s : State) (i : Nat) : State :=
  let x := s.slot 0 i
  if !x.perr && flushHit d (versionFor x s.epoch).img then s.setSlot 0 i (deletedSlot x) else s

/-- The slots that operations `lo` to `hi` − 1 of a FLUSH visit. -/
def State.flushList (s : State) (lo hi : Nat) : List Nat :=
  (match s.lkp.lost with
    | none => (s.lkp.slots.map (fun (e : Nat × Slot9) => e.1)).filter (fun i => decide (i < 2 ^ 20))
    | some _ => List.range (tblSlots 0)).filter (fun i => decide (lo ≤ flushOp i ∧ flushOp i < hi))

theorem flushRange_eq (s : State) (d lo hi : Nat) : s.flushRange d lo hi = (s.flushList lo hi).foldl (State.flushOne d) s := rfl

/-- No version of a slot that is not pending is valid after the deletion. -/
theorem imgValid_deletedSlot {x : Slot9} (h : x.pend = false) (e : Nat) : imgValid 0 (versionFor (deletedSlot x) e).img = false := by
  have versions : (deletedSlot x).a.img = imgClear 0 x.a.img ∧ (deletedSlot x).b.img = imgClear 0 x.b.img := by
    simp [deletedSlot, hwVersions, h]
  obtain ⟨ha, hb⟩ := versions
  have invalid : ∀ y, imgValid 0 (imgClear 0 y) = false := fun y => imgValid_imgClear rfl y
  unfold versionFor newest older
  dsimp only
  split <;> split
  all_goals simp only [ha, hb, invalid]

theorem flushHit_deletedSlot (d : Nat) {x : Slot9} (h : x.pend = false) (e : Nat) : flushHit d (versionFor (deletedSlot x) e).img = false := by
  rw [flushHit, fdbDynamic, imgValid_deletedSlot h]
  rfl

/-- From `s` to `t` slots change only. -/
structure SlotsOnly (s t : State) : Prop where
  regs : t.regs = s.regs
  lkp : ∃ l, t.lkp = { s.lkp with slots := l }

namespace SlotsOnly

theorem refl (s : State) : SlotsOnly s s := ⟨rfl, _, rfl⟩

theorem trans (h : SlotsOnly s t) (k : SlotsOnly t u) : SlotsOnly s u := by
  obtain ⟨hr, l, hl⟩ := h
  obtain ⟨kr, m, hm⟩ := k
  exact ⟨kr.trans hr, m, by rw [hm, hl]⟩

theorem setSlot (s : State) (k i : Nat) (v : Slot9) : SlotsOnly s (s.setSlot k i v) := by
  obtain ⟨l, e⟩ := s.setSlot_lkp k i v
  exact ⟨s.setSlot_regs k i v, l, by rw [e]⟩

theorem underTest (h : SlotsOnly s t) (m : Nat) : t.underTest m = s.underTest m := State.underTest_of_regs h.regs m

theorem epoch (h : SlotsOnly s t) : t.epoch = s.epoch := State.get_of_regs h.regs _ _ _

theorem flush (h : SlotsOnly s t) : t.lkp.flush = s.lkp.flush := by
  obtain ⟨-, l, hl⟩ := h
  rw [hl]

theorem cmds (h : SlotsOnly s t) (w : Nat) : t.lkpCmdOf w = s.lkpCmdOf w := by
  obtain ⟨-, l, hl⟩ := h
  rw [State.lkpCmdOf, State.lkpCmdOf, hl]

theorem flushOne (d : Nat) (s : State) (i : Nat) : SlotsOnly s (s.flushOne d i) := by
  unfold State.flushOne
  dsimp only
  split
  · exact setSlot ..
  · exact refl s

end SlotsOnly

/-- What the visit of one slot leaves in every slot that holds no parity error and no pending version. -/
theorem flushOne_slot (d : Nat) (hu : s.underTest 0 = false) {i j : Nat} (hp : (s.slot 0 j).perr = false) :
    (s.flushOne d i).slot 0 j =
      if j = i ∧ flushHit d (versionFor (s.slot 0 j) s.epoch).img = true then deletedSlot (s.slot 0 j) else s.slot 0 j := by
  unfold State.flushOne
  dsimp only
  by_cases e : j = i
  · subst e
    rw [hp, Bool.not_false, Bool.true_and]
    by_cases hit : flushHit d (versionFor (s.slot 0 j) s.epoch).img = true
    · rw [if_pos hit, if_pos ⟨rfl, hit⟩]
      exact State.slot_setSlot_same hu ..
    · rw [if_neg hit]
      exact (if_neg fun e => hit e.2).symm
  · have away : 0 * 2 ^ 20 + j ≠ 0 * 2 ^ 20 + i := by simpa using e
    refine Eq.trans ?_ (if_neg fun h => e h.1).symm
    split
    · exact State.slot_setSlot_other away _
    · rfl

/-- What a FLUSH leaves in a slot that holds no parity error and no pending version: it deletes what it comes to and it hits. -/
theorem foldl_flushOne (d : Nat) (l : List Nat) (hu : s.underTest 0 = false) {j : Nat} (hp : (s.slot 0 j).perr = false)
    (hn : (s.slot 0 j).pend = false) :
    SlotsOnly s (l.foldl (State.flushOne d) s) ∧ (l.foldl (State.flushOne d) s).slot 0 j =
      if j ∈ l ∧ flushHit d (versionFor (s.slot 0 j) s.epoch).img = true then deletedSlot (s.slot 0 j) else s.slot 0 j := by
  induction l generalizing s with
  | nil => exact ⟨SlotsOnly.refl s, by simp⟩
  | cons i l ih =>
    have one := flushOne_slot (i := i) d hu hp
    have only := SlotsOnly.flushOne d s i
    have sound : ((s.flushOne d i).slot 0 j).perr = false ∧ ((s.flushOne d i).slot 0 j).pend = false := by
      rw [one]
      split
      · exact ⟨hp, hn⟩
      · exact ⟨hp, hn⟩
    obtain ⟨rest, last⟩ := ih ((only.underTest 0).trans hu) sound.1 sound.2
    refine ⟨only.trans rest, last.trans ?_⟩
    by_cases hit : flushHit d (versionFor (s.slot 0 j) s.epoch).img = true
    · by_cases e : j = i
      · rw [one.trans (if_pos ⟨e, hit⟩), flushHit_deletedSlot d hn]
        simp [e, e ▸ hit]
      · rw [one, only.epoch]
        simp [e]
    · rw [one, only.epoch]
      simp [hit]

theorem flushOp_lt (i : Nat) : flushOp i < flushOps := by
  unfold flushOp flushOps
  split <;> omega

/-- A slot that the table does not list holds no entry. -/
theorem slot_unlisted (hu : s.underTest 0 = false) (hl : s.lkp.lost = none) {i : Nat} (h : i ∉ s.lkp.slots.map fun (e : Nat × Slot9) => e.1) :
    s.slot 0 i = {} := by
  have absent : tabFind? i s.lkp.slots = none := by
    generalize s.lkp.slots = l at h
    induction l with
    | nil => rfl
    | cons e l ih =>
      obtain ⟨k, v⟩ := e
      rw [List.map_cons, List.mem_cons, not_or] at h
      rw [tabFind?, if_neg h.1]
      exact ih h.2
  rw [State.slot_eq hu, tabGet, hl, Nat.zero_mul, Nat.zero_add, absent]
  rfl

/-- The slots that the rest of a FLUSH leaves: what it hits is deleted, all else stands. -/
theorem flushRange_slot (d b : Nat) (hu : s.underTest 0 = false) (hl : s.lkp.lost = none) {i : Nat} (hi : i < 2 ^ 20)
    (hp : (s.slot 0 i).perr = false) (hn : (s.slot 0 i).pend = false) :
    (s.flushRange d b flushOps).slot 0 i =
      if b ≤ flushOp i ∧ flushHit d (versionFor (s.slot 0 i) s.epoch).img = true then deletedSlot (s.slot 0 i) else s.slot 0 i := by
  rw [flushRange_eq, (foldl_flushOne d _ hu hp hn).2]
  refine if_congr ?_ rfl rfl
  by_cases hit : flushHit d (versionFor (s.slot 0 i) s.epoch).img = true
  · have listed : i ∈ s.lkp.slots.map fun (e : Nat × Slot9) => e.1 := by
      by_contra h
      have empty : (versionFor ({} : Slot9) s.epoch).img = 0 := by
        unfold versionFor
        dsimp only
        split <;> rfl
      rw [slot_unlisted hu hl h, empty] at hit
      simp [flushHit, fdbDynamic, imgValid] at hit
    unfold State.flushList
    rw [hl]
    have small : i < 1048576 := hi
    simp [hit, small, listed, flushOp_lt i]
  · simp [hit]

/-! ## The completion of a command -/

/-- The results of a command, as its completion loads them. -/
def State.lkpShowIndex (s : State) (o : Option Nat) (w : Nat) : State :=
  match o with
  | some i => s.put F.LKP_INDEX_INDEX i w
  | none => s
def State.lkpShowImg (s : State) (o : Option Nat) (w : Nat) : State :=
  match o with
  | some m => (List.range 14).foldl (fun s i => s.put F.LKP_DATA_DATA (m >>> (32 * i)) w i) s
  | none => s
def State.lkpShowTag (s : State) (o : Option Word) (w : Nat) : State :=
  match o with
  | some r => s.setReg R.EPOCH_RTAG r w
  | none => s

/-- The end of a command that reports `st`. -/
def State.lkpEnd (s : State) (w st : Nat) : State :=
  (((s.put F.LKP_STAT_STATUS st w).put F.LKP_STAT_BUSY 0 w).setLkpCmd w none).evt (if w = 0 then F.LKP_EVT_CMD_DONE0 else F.LKP_EVT_CMD_DONE1)

theorem lkpComplete_eq {w : Nat} {c : LkpCmd} (h : s.lkpCmdOf w = some c) :
    s.lkpComplete w = ((((s.flushRest w).lkpShowIndex c.index w).lkpShowImg c.img w).lkpShowTag c.rtag w).lkpEnd w c.status := by
  unfold State.lkpComplete
  rw [h]
  rfl

theorem lkpShowIndex_lkp (o : Option Nat) (w : Nat) : (s.lkpShowIndex o w).lkp = s.lkp := by cases o <;> rfl

theorem lkpShowTag_lkp (o : Option Word) (w : Nat) : (s.lkpShowTag o w).lkp = s.lkp := by cases o <;> rfl

theorem lkpShowImg_lkp (o : Option Nat) (w : Nat) : (s.lkpShowImg o w).lkp = s.lkp := by
  cases o with
  | none => rfl
  | some m => exact List.foldlRecOn (motive := fun u : State => u.lkp = s.lkp) _ _ rfl fun _ h _ _ => h

theorem lkpShowIndex_get (o : Option Nat) (w : Nat) (f : Fld) {i j : Nat} (h : f.reg.off i j ≠ R.LKP_INDEX.off w 0) :
    (s.lkpShowIndex o w).get f i j = s.get f i j := by
  cases o with
  | none => rfl
  | some x => exact State.get_put_other (s := s) F.LKP_INDEX_INDEX f _ _ _ _ _ h

theorem lkpShowTag_get (o : Option Word) (w : Nat) (f : Fld) {i j : Nat} (h : f.reg.off i j ≠ R.EPOCH_RTAG.off w 0) :
    (s.lkpShowTag o w).get f i j = s.get f i j := by
  cases o with
  | none => rfl
  | some x => exact State.get_setReg_other _ _ _ _ _ _ _ _ h

theorem lkpShowImg_get (o : Option Nat) (w : Nat) (f : Fld) {i j : Nat} (h : ∀ x < 14, f.reg.off i j ≠ R.LKP_DATA.off w x) :
    (s.lkpShowImg o w).get f i j = s.get f i j := by
  cases o with
  | none => rfl
  | some m =>
    refine List.foldlRecOn (motive := fun u : State => u.get f i j = s.get f i j) _ _ rfl fun u hu x hx => ?_
    exact (State.get_put_other (s := u) F.LKP_DATA_DATA f _ _ _ _ _ (h x (List.mem_range.1 hx))).trans hu

/-- The results before the end of a command keep the fields of registers that stand apart from theirs. -/
theorem lkpShown_get (w : Nat) (c : LkpCmd) (f : Fld) {i j : Nat} (index : f.reg.off i j ≠ R.LKP_INDEX.off w 0)
    (data : ∀ x < 14, f.reg.off i j ≠ R.LKP_DATA.off w x) (tag : f.reg.off i j ≠ R.EPOCH_RTAG.off w 0) :
    (((s.lkpShowIndex c.index w).lkpShowImg c.img w).lkpShowTag c.rtag w).get f i j = s.get f i j := by
  rw [lkpShowTag_get _ _ _ tag, lkpShowImg_get _ _ _ data, lkpShowIndex_get _ _ _ index]

/-- The end of a command reports its STATUS; other registers than LKP_STAT and LKP_EVT stand. -/
theorem lkpEnd_shows {w st : Nat} (hw : w < 2) (hst : st < 16) : (s.lkpEnd w st).lkpCmdOf w = none ∧ (s.lkpEnd w st).bit F.LKP_STAT_BUSY w = false ∧
    (s.lkpEnd w st).get F.LKP_STAT_STATUS w = st ∧ (s.lkpEnd w st).bit (if w = 0 then F.LKP_EVT_CMD_DONE0 else F.LKP_EVT_CMD_DONE1) = true := by
  have busy : (s.lkpEnd w st).bit F.LKP_STAT_BUSY w = false ∧ (s.lkpEnd w st).get F.LKP_STAT_STATUS w = st := by
    have before : ∀ f : Fld, free f.reg R.LKP_EVT = true → ∀ i j, (s.lkpEnd w st).get f i j =
        ((s.put F.LKP_STAT_STATUS st w).put F.LKP_STAT_BUSY 0 w).get f i j := fun f hf i j => by
      unfold State.lkpEnd
      have evt : (if w = 0 then F.LKP_EVT_CMD_DONE0 else F.LKP_EVT_CMD_DONE1).reg = R.LKP_EVT := by split <;> rfl
      rw [State.get_evt_free _ (evt ▸ hf)]
      rfl
    refine ⟨?_, (before _ (by decide) _ _).trans ?_⟩
    · rw [State.bit, before _ (by decide)]
      exact State.bit_put_zero (s.put F.LKP_STAT_STATUS st w) (by decide) _ _
    · rw [State.get_put_beside _ (by decide)]
      exact State.get_put_fits _ (by decide) hst _ _
  refine ⟨?_, busy.1, busy.2, ?_⟩
  · unfold State.lkpEnd
    rw [State.lkpCmdOf, State.evt_lkp]
    split
    · next h => subst h; rfl
    · next h => simp [State.setLkpCmd, h]
  · unfold State.lkpEnd
    split
    · exact State.bit_evt_same _ _ _ _ (by decide) (by decide)
    · exact State.bit_evt_same _ _ _ _ (by decide) (by decide)

theorem lkpEnd_reg {w st : Nat} (q : RegSpec) {i j : Nat} (stat : q.off i j ≠ R.LKP_STAT.off w 0) (evt : q.off i j ≠ R.LKP_EVT.off 0 0) :
    (s.lkpEnd w st).reg q i j = s.reg q i j := by
  unfold State.lkpEnd
  have reg : (if w = 0 then F.LKP_EVT_CMD_DONE0 else F.LKP_EVT_CMD_DONE1).reg = R.LKP_EVT := by split <;> rfl
  rw [State.reg_evt_other _ _ _ _ _ _ _ (by rw [reg]; exact evt)]
  exact (State.reg_put_other (s := s.put F.LKP_STAT_STATUS st w) F.LKP_STAT_BUSY q _ _ _ _ _ stat).trans
    (State.reg_put_other (s := s) F.LKP_STAT_STATUS q _ _ _ _ _ stat)

theorem lkpEnd_get {w st : Nat} (f : Fld) {i j : Nat} (stat : f.reg.off i j ≠ R.LKP_STAT.off w 0) (evt : f.reg.off i j ≠ R.LKP_EVT.off 0 0) :
    (s.lkpEnd w st).get f i j = s.get f i j := by
  rw [State.get, State.get, lkpEnd_reg f.reg stat evt]

theorem lkpEnd_tables (w st : Nat) : (s.lkpEnd w st).lkp.slots = s.lkp.slots ∧ (s.lkpEnd w st).lkp.lost = s.lkp.lost ∧
    (s.lkpEnd w st).lkp.flush = s.lkp.flush := by
  unfold State.lkpEnd
  rw [State.evt_lkp]
  unfold State.setLkpCmd
  dsimp only
  split <;> exact ⟨rfl, rfl, rfl⟩

end Sys2Proof.Machine
end

section
set_option Elab.async false
/-! PROOFS. The table access windows (05_forwarding_tables.md R172). -/

namespace Sys2Proof.Machine

variable {s t u : State}

/-! ## What a completion leaves of the tables -/

theorem lkpComplete_tables {w : Nat} {c : LkpCmd} (h : s.lkpCmdOf w = some c) :
    (s.lkpComplete w).lkp.slots = (s.flushRest w).lkp.slots ∧ (s.lkpComplete w).lkp.flush = (s.flushRest w).lkp.flush ∧
    ∀ k i, (s.lkpComplete w).slot k i = (s.flushRest w).slot k i := by
  obtain ⟨slots, lost, flush⟩ := lkpEnd_tables (s := (((s.flushRest w).lkpShowIndex c.index w).lkpShowImg c.img w).lkpShowTag c.rtag w) w c.status
  rw [lkpShowTag_lkp, lkpShowImg_lkp, lkpShowIndex_lkp] at slots lost flush
  have test : (s.lkpComplete w).underTest 0 = (s.flushRest w).underTest 0 := by
    have fields : ∀ f ∈ tableFlds, (s.lkpComplete w).get f 0 0 = (s.flushRest w).get f 0 0 := fun f hf => by
      have apart : (tableFlds.all fun f => [R.LKP_INDEX, R.LKP_DATA, R.EPOCH_RTAG, R.LKP_STAT, R.LKP_EVT].all fun r => free f.reg r) = true := by decide
      have far : ∀ r ∈ [R.LKP_INDEX, R.LKP_DATA, R.EPOCH_RTAG, R.LKP_STAT, R.LKP_EVT], ∀ a b, f.reg.off 0 0 ≠ r.off a b := fun r hr a b =>
        off_ne_of_free (List.all_eq_true.1 (List.all_eq_true.1 apart f hf) r hr) 0 0 a b
      rw [lkpComplete_eq h, lkpEnd_get f (far _ (by decide) _ _) (far _ (by decide) _ _)]
      exact lkpShown_get _ _ f (far _ (by decide) _ _) (fun _ _ => far _ (by decide) _ _) (far _ (by decide) _ _)
    unfold State.underTest State.bit
    rw [fields _ (by decide), fields _ (by decide), fields _ (by decide)]
  rw [← lkpComplete_eq h] at slots lost flush
  exact ⟨slots, flush, fun k i => State.slot_of_parts test slots lost k i⟩

/-- The rest of a FLUSH runs, and the window has no operation left. -/
theorem flushRest_shows {w d b : Nat} (h : tabFind? w s.lkp.flush = some (d, b)) :
    tabFind? w (s.flushRest w).lkp.flush = none ∧ ∀ k i, (s.flushRest w).slot k i = (s.flushRange d b flushOps).slot k i := by
  unfold State.flushRest
  rw [h]
  dsimp only
  refine ⟨?_, fun k i => State.slot_of_parts rfl rfl rfl k i⟩
  generalize (s.flushRange d b flushOps).lkp.flush = l
  show tabFind? w (l.filter fun e => e.1 != w) = none
  induction l with
  | nil => rfl
  | cons e l ih =>
    obtain ⟨k, v⟩ := e
    rw [List.filter_cons]
    split
    · next ne =>
      rw [tabFind?, if_neg (by simpa using fun e => (bne_iff_ne.1 ne) e.symm)]
      exact ih
    · exact ih

theorem flushRest_idle {w : Nat} (h : tabFind? w s.lkp.flush = none) : s.flushRest w = s := by
  unfold State.flushRest
  rw [h]

/-- What a completed FLUSH leaves (R172). -/
theorem does_flushComplete {w : Fin 2} {c : LkpCmd} {d b : Nat} (hc : s.lkpCmdOf w = some c) (hf : tabFind? w.val s.lkp.flush = some (d, b))
    (hu : s.underTest 0 = false) (hl : s.lkp.lost = none) : Does (.lkpCmdComplete w) s fun t => tabFind? w.val t.lkp.flush = none ∧
      ∀ i < 2 ^ 20, (s.slot 0 i).perr = false → (s.slot 0 i).pend = false → t.slot 0 i =
        if b ≤ flushOp i ∧ flushHit d (versionFor (s.slot 0 i) s.epoch).img = true then deletedSlot (s.slot 0 i) else s.slot 0 i := by
  obtain ⟨-, flush, slot⟩ := lkpComplete_tables hc
  obtain ⟨gone, left⟩ := flushRest_shows hf
  refine does_of (u := s.lkpComplete w.val) rfl ⟨?_, fun i hi hp hn => ?_⟩
  · rw [settled_lkp, flush]
    exact gone
  · rw [settled_slot, slot, left]
    exact flushRange_slot d b hu hl hi hp hn

/-- The results that a completion loads (R172, R198). -/
theorem does_lkpComplete {w : Fin 2} {c : LkpCmd} (hc : s.lkpCmdOf w = some c) (hst : c.status < 16) (hf : tabFind? w.val s.lkp.flush = none) :
    Does (.lkpCmdComplete w) s fun t =>
      t.lkpCmdOf w = none ∧ t.bit F.LKP_STAT_BUSY w = false ∧ t.get F.LKP_STAT_STATUS w = c.status ∧
      (∀ i ∈ c.index, t.get F.LKP_INDEX_INDEX w = i % 2 ^ 18) ∧ (c.rtag ≠ none → some (t.reg R.EPOCH_RTAG w) = c.rtag) ∧
      t.bit (if w.val = 0 then F.LKP_EVT_CMD_DONE0 else F.LKP_EVT_CMD_DONE1) = true ∧ t.lkp.slots = s.lkp.slots := by
  obtain ⟨slots, -, -⟩ := lkpComplete_tables hc
  rw [flushRest_idle hf] at slots
  have eq := lkpComplete_eq hc
  rw [flushRest_idle hf] at eq
  obtain ⟨cmd, busy, status, done⟩ := lkpEnd_shows (s := ((s.lkpShowIndex c.index w).lkpShowImg c.img w).lkpShowTag c.rtag w) w.isLt hst
  refine does_of (u := s.lkpComplete w.val) rfl ⟨?_, ?_, ?_, fun i hi => ?_, fun hr => ?_, ?_, ?_⟩
  · rw [State.lkpCmdOf, settled_lkp, eq]
    exact cmd
  · rw [settled_bit _ _ _ _ _ (not_pba (by decide) ⟨w.isLt, by decide⟩), eq]
    exact busy
  · rw [settled_get _ _ _ _ _ (not_pba (by decide) ⟨w.isLt, by decide⟩), eq]
    exact status
  · rw [settled_get _ _ _ _ _ (not_pba (by decide) ⟨w.isLt, by decide⟩), eq,
      lkpEnd_get _ (off_ne (by decide) ⟨w.isLt, by decide⟩ ⟨w.isLt, by decide⟩) (off_ne (by decide) ⟨w.isLt, by decide⟩ ⟨by decide, by decide⟩),
      lkpShowTag_get _ _ _ (off_ne (by decide) ⟨w.isLt, by decide⟩ ⟨w.isLt, by decide⟩),
      lkpShowImg_get _ _ _ fun x hx => off_ne (by decide) ⟨w.isLt, by decide⟩ ⟨w.isLt, hx⟩]
    rw [Option.mem_def] at hi
    rw [hi]
    exact State.get_put_same _ F.LKP_INDEX_INDEX _ _ _ (by decide)
  · rw [settled_reg _ _ _ _ _ (not_pba (by decide) ⟨w.isLt, by decide⟩), eq]
    obtain ⟨r, hr'⟩ := Option.ne_none_iff_exists'.1 hr
    have reg : (((s.lkpShowIndex c.index w).lkpShowImg c.img w).lkpShowTag c.rtag w).reg R.EPOCH_RTAG w = r := by
      rw [hr']
      exact State.reg_setReg_same ..
    refine (congrArg some (Eq.trans ?_ reg)).trans hr'.symm
    exact (lkpEnd_reg R.EPOCH_RTAG (i := w) (j := 0) (off_ne (by decide) ⟨w.isLt, by decide⟩ ⟨w.isLt, by decide⟩)
      (off_ne (by decide) ⟨w.isLt, by decide⟩ ⟨by decide, by decide⟩))
  · rw [settled_bit _ _ _ _ _ (by split <;> exact not_pba (by decide) ⟨by decide, by decide⟩), eq]
    exact done
  · rw [settled_lkp]
    exact slots

/-! ## The statement -/

theorem hashed_lt_eight {k : Nat} (h : hashed k = true) : k < 8 := by
  have cases_ : k = 0 ∨ k = 2 ∨ k = 3 ∨ k = 4 ∨ k = 7 := by simpa [hashed, or_assoc] using h
  omega

section
variable {h : HostId} {w : Fin 2} (ho : s.opens h R.LKP_CMD w 0 = true) (hb : s.bit F.LKP_STAT_BUSY w = false) (hl : s.loaded = true)
  (hu : s.underTest 0 = false) (hf : s.lkp.flush = [])
include ho hb hl hu hf

theorem does_lkpNop : Does (.lkpNop h w) s fun t => t.lkpCmdOf w = some ⟨lkpWord 0 0 false, 0, none, none, none⟩ ∧
    t.bit F.LKP_STAT_BUSY w = true ∧ t.lkp.slots = s.lkp.slots ∧ t.lkp.staged = s.lkp.staged := by
  refine does_lkpAccepted (op := 0) (table := 0) (ver := false) (by decide) rfl ho hb hl hf fun u t agree _ acc => ?_
  rw [show ((0 : Fin 16) : Nat) = 0 from rfl, lkpDo_nop (agree.underTest.trans hu)] at acc
  exact ⟨acc.cmd, acc.busy, acc.slots.trans agree.slots, acc.staged.trans agree.staged⟩

theorem does_lkpRead {table : Fin 16} (ht : table.val < 9) (hi : s.get F.LKP_INDEX_INDEX w < tblSlots table)
    (odd : s.oddPair table (s.get F.LKP_INDEX_INDEX w) = false) (here : (s.slot table (s.get F.LKP_INDEX_INDEX w)).perr = false)
    (next : (s.slot table (s.get F.LKP_INDEX_INDEX w + 1)).perr = false) : Does (.lkpRead h w table false) s fun t =>
      t.lkp.slots = s.lkp.slots ∧ t.bit F.LKP_STAT_BUSY w = true ∧
      ∃ c, t.lkpCmdOf w = some c ∧ c.status = 0 ∧ c.img = some (shownImg table (s.slot table (s.get F.LKP_INDEX_INDEX w))
        (versionFor (s.slot table (s.get F.LKP_INDEX_INDEX w)) s.epoch).img) := by
  refine does_lkpAccepted (op := 1) (table := table) (ver := false) (by decide) rfl ho hb hl hf fun u t agree _ acc => ?_
  obtain ⟨tag, read⟩ := lkpRead_sound (s := u) (k := table) (i := s.get F.LKP_INDEX_INDEX w) (by rw [agree.slot, here]) (by rw [agree.slot, next])
  rw [lkpDo_read (agree.underTest.trans hu) ht hi (by rw [agree.oddPair, odd]), read, agree.slot, agree.epoch] at acc
  exact ⟨acc.slots.trans agree.slots, acc.busy, _, acc.cmd, rfl, rfl⟩

theorem does_lkpWrite {table : Fin 16} (hi : s.get F.LKP_INDEX_INDEX w < tblSlots table)
    (odd : s.oddPair table (s.get F.LKP_INDEX_INDEX w) = false) (direct : table.val = 1 ∨ table.val = 6 ∨ table.val = 8)
    (rsvd : rsvdOk table (s.lkpData w % 2 ^ imgWidth table) = true)
    (key : keyOk table (s.get F.LKP_INDEX_INDEX w) (s.lkpData w % 2 ^ imgWidth table) = true)
    (room : s.lkp.staged.length + s.lkp.taken.length < 4096) (unreserved : (s.slot table (s.get F.LKP_INDEX_INDEX w)).res = none) :
    Does (.lkpWrite h w table) s fun t => t.stagedAt table (s.get F.LKP_INDEX_INDEX w) =
        some ⟨table, s.get F.LKP_INDEX_INDEX w, 2, s.lkpData w % 2 ^ imgWidth table⟩ ∧
      t.lkp.slots = s.lkp.slots ∧ t.bit F.LKP_STAT_BUSY w = true ∧ ∃ c, t.lkpCmdOf w = some c ∧ c.status = 0 := by
  refine does_lkpAccepted (op := 2) (table := table) (ver := false) (by decide) rfl ho hb hl hf fun u t agree _ acc => ?_
  have room' : u.lkp.staged.length + u.lkp.taken.length < 4096 := by rw [agree.staged, agree.taken]; exact room
  obtain ⟨status, left⟩ := lkpWrite_stages direct rsvd key room' (by rw [agree.slot, unreserved])
  obtain ⟨-, staged, only⟩ := stage_shows u ⟨table, s.get F.LKP_INDEX_INDEX w, 2, s.lkpData w % 2 ^ imgWidth table⟩ room'
  rw [lkpDo_write (agree.underTest.trans hu) (by omega) (by rcases direct with e | e | e <;> rw [e] <;> rfl) hi (by rw [agree.oddPair, odd])] at acc
  refine ⟨?_, acc.slots.trans ((congrArg (fun v : State => v.lkp.slots) left).trans (only.slots.trans agree.slots)), acc.busy, _, acc.cmd, status⟩
  rw [State.stagedAt, acc.staged, left]
  exact staged

variable {table : Fin 16} (ht : hashed table = true)
include ht

theorem does_lkpDelete_absent (absent : s.findPresent table (imgKey table (s.lkpData w % 2 ^ imgWidth table)) = none) :
    Does (.lkpDelete h w table) s fun t => t.lkp.slots = s.lkp.slots ∧ t.lkp.staged = s.lkp.staged ∧
      ∃ c, t.lkpCmdOf w = some c ∧ c.status = 1 := by
  refine does_lkpAccepted (op := 4) (table := table) (ver := false) (by decide) rfl ho hb hl hf fun u t agree _ acc => ?_
  rw [lkpDo_delete (agree.underTest.trans hu) ht, lkpDelete_absent (by rw [agree.findPresent (hashed_lt_eight ht), absent])] at acc
  exact ⟨acc.slots.trans agree.slots, acc.staged.trans agree.staged, _, acc.cmd, rfl⟩

theorem does_lkpDelete_found {i : Nat} (found : s.findPresent table (imgKey table (s.lkpData w % 2 ^ imgWidth table)) = some i)
    (fresh : s.stagedAt table i = none) (room : s.lkp.staged.length + s.lkp.taken.length < 4096) :
    Does (.lkpDelete h w table) s fun t => t.lkp.slots = s.lkp.slots ∧
      (∃ e, t.stagedAt table i = some e ∧ e.op = 4 ∧ imgValid table e.img = false) ∧ ∃ c, t.lkpCmdOf w = some c ∧ c.status = 0 := by
  refine does_lkpAccepted (op := 4) (table := table) (ver := false) (by decide) rfl ho hb hl hf fun u t agree _ acc => ?_
  obtain ⟨v, done⟩ := lkpDelete_found (s := u) (by rw [agree.findPresent (hashed_lt_eight ht), found]) (by rw [agree.stagedAt, fresh])
  obtain ⟨status, staged, only⟩ := stage_shows u ⟨table, i, 4, imgClear table v⟩ (by rw [agree.staged, agree.taken]; exact room)
  rw [lkpDo_delete (agree.underTest.trans hu) ht, done] at acc
  refine ⟨acc.slots.trans (only.slots.trans agree.slots), ⟨(⟨table, i, 4, imgClear table v⟩ : Staged), ?_, rfl, imgValid_imgClear ht v⟩, _, acc.cmd, status⟩
  rw [State.stagedAt, acc.staged]
  exact staged

theorem does_lkpSearch (sound : ∀ i, (s.slot table i).perr = false) : Does (.lkpSearch h w table false) s fun t =>
    t.lkp.slots = s.lkp.slots ∧ ∃ c, t.lkpCmdOf w = some c ∧
      c.index = (s.candidates table (imgKey table (s.lkpData w % 2 ^ imgWidth table))).find?
        (s.matches table (imgKey table (s.lkpData w % 2 ^ imgWidth table)) s.epoch) ∧ c.status = (if c.index.isSome then 0 else 1) := by
  refine does_lkpAccepted (op := 5) (table := table) (ver := false) (by decide) rfl ho hb hl hf fun u t agree _ acc => ?_
  obtain ⟨still, index, status⟩ := lkpSearch_sound (s := u) (k := table) (m := s.lkpData w % 2 ^ imgWidth table) fun i => by rw [agree.slot, sound]
  have same : u.matches table (imgKey table (s.lkpData w % 2 ^ imgWidth table)) s.epoch =
      s.matches table (imgKey table (s.lkpData w % 2 ^ imgWidth table)) s.epoch := funext fun i => agree.matches_ ..
  rw [agree.candidates (hashed_lt_eight ht), agree.epoch, same] at index
  rw [lkpDo_search (agree.underTest.trans hu) ht] at acc
  exact ⟨acc.slots.trans ((congrArg (fun v : State => v.lkp.slots) still).trans agree.slots), _, acc.cmd, index, status⟩

omit ht in
theorem does_lkpFlush : Does (.lkpFlush h w 0) s fun t => (∃ c, t.lkpCmdOf w = some c ∧ c.status = 0) ∧ t.bit F.LKP_STAT_BUSY w = true ∧
    t.lkp.flush = [(w.val, (s.lkpData w, 0))] ∧ t.lkp.slots = s.lkp.slots := by
  refine does_lkpAccepted (op := 6) (table := 0) (ver := false) (by decide) rfl ho hb hl hf fun u t agree idle acc => ?_
  rw [show ((0 : Fin 16) : Nat) = 0 from rfl, lkpDo_flush (agree.underTest.trans hu)] at acc
  refine ⟨⟨_, acc.cmd, rfl⟩, acc.busy, ?_, acc.slots.trans agree.slots⟩
  rw [acc.flush, if_pos ⟨rfl, rfl⟩, idle]
  rfl

end

/-- Settles O40: an accepted command runs on the tables as they stand, its results wait for its completion, and the rest of a FLUSH visits every slot
that the table lists. -/
theorem tableCommands : Obligations.TableCommands := by
  refine ⟨fun s h w ho hb hl hu hf => ⟨does_lkpNop ho hb hl hu hf, ?_, ?_, does_lkpFlush ho hb hl hu hf⟩, ?_, ?_⟩
  · intro table ver ht hi odd
    refine ⟨?_, fun direct rsvd key room res => does_lkpWrite ho hb hl hu hf hi odd direct rsvd key room res⟩
    rintro rfl here next
    exact does_lkpRead ho hb hl hu hf ht hi odd here next
  · intro table ht
    exact ⟨does_lkpDelete_absent ho hb hl hu hf ht, fun i found fresh room => does_lkpDelete_found ho hb hl hu hf ht found fresh room,
      does_lkpSearch ho hb hl hu hf ht⟩
  · intro s w c d b hc hf hu hl
    obtain ⟨t, run, gone, left⟩ := does_flushComplete hc hf hu hl
    refine ⟨t, run, gone, fun i hi => ?_⟩
    intro x img hit hp hn
    have slot := left i hi hp hn
    refine ⟨fun hits later => ?_, fun other => ?_⟩
    · rw [slot, if_pos ⟨later, (flushHit_iff _ _).2 hits⟩]
      exact imgValid_deletedSlot hn _
    · refine slot.trans (if_neg ?_)
      rintro ⟨later, hits⟩
      rcases other with no | before
      · exact no ((flushHit_iff _ _).1 hits)
      · omega
  · exact fun s w c hc hst hf => does_lkpComplete hc hst hf

end Sys2Proof.Machine
end

section
set_option Elab.async false
/-! PROOFS. What enters and leaves the tables by key (05_forwarding_tables.md R151, R158, R161, R162, R172). -/

namespace Sys2Proof.Machine

variable {s t u : State}

/-! ## INSERT -/

/-- An INSERT whose checks have passed (R172). -/
def State.lkpInserts (s : State) (k m : Nat) : LkpRes × State :=
  match s.findPresent k (Machine.imgKey k m) with
  | some i =>
    let r := s.stage { table := k, index := i, op := 3, img := m }
    ({ status := r.1, index := some i }, if r.1 = 0 then r.2.setSlot k i { r.2.slot k i with res := some m } else r.2)
  | none =>
    if 4096 ≤ s.lkp.staged.length + s.lkp.taken.length then ({ status := 8 }, s.evt F.EPOCH_EVT_STAGE_FULL)
    else match s.placeKey k m with
      | (none, v) => ({ status := 2 }, v)
      | (some i, v) =>
        let r := (v.setSlot k i { v.slot k i with res := some m }).stage { table := k, index := i, op := 3, img := m }
        ({ status := r.1, index := some i }, r.2)

theorem lkpInsert_checked {k m : Nat} (plain : k = 0 → m.testBit 66 = false) (rsvd : rsvdOk k m = true) (key : keyOk k 0 m = true)
    (bound : s.boundOk k m = true) (sound : ∀ i, (s.slot k i).perr = false) : s.lkpInsert k m = s.lkpInserts k m := by
  have image : ¬ (k = 0 ∧ m.testBit 66 = true) := fun e => by
    rw [plain e.1] at e
    exact Bool.false_ne_true e.2
  unfold State.lkpInsert
  dsimp only
  rw [if_neg image, rsvd, key, bound, parityAmong_sound sound]
  rfl

/-- INSERT of a key that is present stages the image at its slot (R172). -/
theorem lkpInsert_present {k m i : Nat} (plain : k = 0 → m.testBit 66 = false) (rsvd : rsvdOk k m = true) (key : keyOk k 0 m = true)
    (bound : s.boundOk k m = true) (sound : ∀ i, (s.slot k i).perr = false) (room : s.lkp.staged.length + s.lkp.taken.length < 4096)
    (found : s.findPresent k (imgKey k m) = some i) :
    (s.lkpInsert k m).1.status = 0 ∧ (s.lkpInsert k m).1.index = some i ∧ (s.lkpInsert k m).2.stagedAt k i = some ⟨k, i, 3, m⟩ := by
  obtain ⟨status, staged, -⟩ := stage_shows s ⟨k, i, 3, m⟩ room
  rw [lkpInsert_checked plain rsvd key bound sound, State.lkpInserts, found]
  dsimp only
  rw [if_pos status, stagedAt_setSlot]
  exact ⟨status, rfl, staged⟩

/-- A key that is not present takes a free way of its first bucket (R151). -/
theorem placeKey_first {k m i : Nat} (h : s.freePlace k m (4 * s.hashBucket k 0 (imgKey k m)) 4 = some i) : s.placeKey k m = (some i, s) := by
  unfold State.placeKey
  dsimp only
  rw [h]
  rfl

/-- INSERT of a key that is not present reserves the free way and stages the image there (R151, R172). -/
theorem lkpInsert_absent {k m i : Nat} (plain : k = 0 → m.testBit 66 = false) (rsvd : rsvdOk k m = true) (key : keyOk k 0 m = true)
    (bound : s.boundOk k m = true) (sound : ∀ i, (s.slot k i).perr = false) (room : s.lkp.staged.length + s.lkp.taken.length < 4096)
    (hu : s.underTest 0 = false) (absent : s.findPresent k (imgKey k m) = none)
    (place : s.freePlace k m (4 * s.hashBucket k 0 (imgKey k m)) 4 = some i) :
    (s.lkpInsert k m).1.status = 0 ∧ (s.lkpInsert k m).1.index = some i ∧ (s.lkpInsert k m).2.stagedAt k i = some ⟨k, i, 3, m⟩ ∧
    ((s.lkpInsert k m).2.slot k i).res = some m := by
  obtain ⟨l, e⟩ := s.setSlot_lkp k i { s.slot k i with res := some m }
  have room' : (s.setSlot k i { s.slot k i with res := some m }).lkp.staged.length + (s.setSlot k i { s.slot k i with res := some m }).lkp.taken.length
      < 4096 := by
    rw [e]
    exact room
  obtain ⟨status, staged, only⟩ := stage_shows (s.setSlot k i { s.slot k i with res := some m }) ⟨k, i, 3, m⟩ room'
  rw [lkpInsert_checked plain rsvd key bound sound, State.lkpInserts, absent]
  dsimp only
  rw [if_neg (by omega), placeKey_first place]
  dsimp only
  refine ⟨status, rfl, staged, ?_⟩
  rw [only.agree, State.slot_setSlot_same hu]

/-! ## What the searches leave of the learning queue and of the scanner's place -/

/-- The learning queue and the scanner's place are those of `s`. -/
structure Queues (s t : State) : Prop where
  learnQ : t.lkp.learnQ = s.lkp.learnQ
  ageStep : t.lkp.ageStep = s.lkp.ageStep
  stashVisit : t.lkp.stashVisit = s.lkp.stashVisit

namespace Queues

theorem refl (s : State) : Queues s s := ⟨rfl, rfl, rfl⟩

theorem trans (h : Queues s t) (k : Queues t u) : Queues s u :=
  ⟨k.learnQ.trans h.learnQ, k.ageStep.trans h.ageStep, k.stashVisit.trans h.stashVisit⟩

theorem of_lkp (h : t.lkp = s.lkp) : Queues s t := by
  constructor <;> rw [h]

theorem of_slots (h : SlotsOnly s t) : Queues s t := by
  obtain ⟨-, l, e⟩ := h
  constructor <;> rw [e]

theorem setSlot (s : State) (k i : Nat) (v : Slot9) : Queues s (s.setSlot k i v) := of_slots (SlotsOnly.setSlot s k i v)

theorem foldl {α : Type} {f : State → α → State} (l : List α) (hf : ∀ v a, Queues v (f v a)) (s : State) : Queues s (l.foldl f s) :=
  List.foldlRecOn (motive := fun v => Queues s v) l f (refl s) fun _ h a _ => h.trans (hf _ a)

theorem ite {c : Prop} [Decidable c] (ht : Queues s t) (hu : Queues s u) : Queues s (if c then t else u) := by
  split
  · exact ht
  · exact hu

theorem flushRange (s : State) (d lo hi : Nat) : Queues s (s.flushRange d lo hi) := by
  rw [flushRange_eq]
  exact foldl _ (fun v i => of_slots (SlotsOnly.flushOne d v i)) s

theorem setFlush (h : Queues s t) (l : Tab (Nat × Nat)) : Queues s { t with lkp := { t.lkp with flush := l } } := ⟨h.learnQ, h.ageStep, h.stashVisit⟩

theorem flushSome (s : State) (n : Nat) : Queues s (s.flushSome n) := by
  unfold State.flushSome
  refine foldl _ (fun v e => ?_) s
  have drawn : Queues v (v.draw 16).2 := of_lkp rfl
  exact setFlush (drawn.trans (flushRange _ _ _ _)) _

theorem capture (s : State) (fv fm : Fld) (w : Word) : Queues s (s.capture fv fm w) := by
  unfold State.capture
  exact ite (of_lkp rfl) (of_lkp rfl)

theorem inc (s : State) (f : Fld) (i j n : Nat) : Queues s (s.inc f i j n) := of_lkp rfl

theorem evt (s : State) (f : Fld) (i j : Nat) : Queues s (s.evt f i j) := of_lkp (State.evt_lkp ..)

theorem parityFound (s : State) (k i : Nat) : Queues s (s.parityFound k i) := by
  unfold State.parityFound
  generalize BitVec.ofNat 32 (k * 2 ^ 18 + i) = w
  exact (((capture s _ _ w).trans (inc _ _ _ _ _)).trans (evt _ _ _ _)).trans (setSlot _ _ _ _)

theorem parityAmong (s : State) (k : Nat) (l : List Nat) : Queues s (s.parityAmong k l) := by
  unfold State.parityAmong
  exact foldl _ (fun v i => ite (parityFound v k i) (refl v)) s

theorem moveSlot (s : State) (k src dst : Nat) : Queues s (s.moveSlot k src dst) := by
  have moved := (setSlot s k dst (s.slot k src)).trans (setSlot (s.setSlot k dst (s.slot k src)) k src {})
  exact ⟨moved.learnQ, moved.ageStep, moved.stashVisit⟩

theorem moveAlong (k : Nat) (l : List Nat) (s : State) (dst : Nat) : Queues s (s.moveAlong k l dst) := by
  induction l generalizing s dst with
  | nil => exact refl s
  | cons i l ih => exact (moveSlot s k i dst).trans (ih _ _)

theorem movePath (k img ptr n : Nat) (s : State) (m b : Nat) (path picks : List Nat) : Queues s (s.movePath k img ptr n m b path picks).2 := by
  induction n generalizing s m b path picks with
  | zero => exact refl s
  | succ n ih =>
    unfold State.movePath
    split
    · exact refl s
    · dsimp only
      split
      · exact parityAmong s k _
      · exact (parityAmong s k _).trans (ih _ _ _ _ _)

theorem movePaths (s : State) (k img ptr m b0 b1 : Nat) : Queues s (s.movePaths k img ptr m b0 b1).2 := by
  have first := movePath k img ptr m s 0 b0 [b0] []
  unfold State.movePaths
  split
  · next e =>
    rw [e] at first
    exact first
  · next e =>
    rw [e] at first
    exact first.trans (movePath ..)

theorem placeKey (s : State) (k img : Nat) : Queues s (s.placeKey k img).2 := by
  unfold State.placeKey
  dsimp only
  split
  · exact refl s
  · have path := movePaths s k img (tabGet 0 s.lkp.ptr k) (max 1 (min 16 (s.get F.LKP_CFG_MAX_MOVES))) (s.hashBucket k 0 (imgKey k img))
      (s.hashBucket k 1 (imgKey k img))
    split
    · next picks f v e =>
      rw [e] at path
      have moved := path.trans (moveAlong k picks.reverse v f)
      exact ⟨moved.learnQ, moved.ageStep, moved.stashVisit⟩
    · next e =>
      rw [e] at path
      exact path

end Queues

/-! ## Learning (R158) -/

/-- The oldest request, taken from the queue. -/
def State.learnTaken (s : State) (rest : List LearnReq) : State := ({ s with lkp := { s.lkp with learnQ := rest } } : State).count 0x4E 0

/-- The execution of a learning request that has been taken (R158). -/
def State.learnRun (s : State) (r : LearnReq) : State :=
  let img := learnedImg r.mac r.fid r.port
  let k := Machine.imgKey 0 img
  let s := s.parityAmong 0 (s.candidates 0 k)
  match s.findPresent 0 k with
  | some i =>
    let x := s.slot 0 i
    let v := (versionFor x s.epoch).img
    if imgValid 0 v && Machine.imgKey 0 v == k then
      if v.testBit 65 then (s.inc F.FDB_STATIC_MOVE_COUNT).evt F.LKP_EVT_STATIC_MOVE
      else (s.inc F.FDB_MOVE_CNT_COUNT).setSlot 0 i (hwVersions x (withDest r.port))
    else s.setSlot 0 i { hwVersions x (fun _ => img) with stale := false }
  | none =>
    match s.placeKey 0 img with
    | (some i, s) => s.hwInsert 0 i img
    | (none, s) => (s.inc F.FDB_LEARN_FAIL_COUNT).evt F.LKP_EVT_FDB_FULL

theorem learnInsert_eq {r : LearnReq} {rest : List LearnReq} (hu : s.underTest 0 = false) (hq : s.lkp.learnQ = r :: rest) :
    s.learnInsert = ((s.flushSome 1).learnTaken rest).learnRun r := by
  unfold State.learnInsert
  rw [hu, if_neg Bool.false_ne_true]
  dsimp only
  rw [(Queues.flushSome s 1).learnQ, hq]
  rfl

theorem Queues.learnRun (s : State) (r : LearnReq) : Queues s (s.learnRun r) := by
  unfold State.learnRun
  dsimp only
  have searched := Queues.parityAmong s 0 (s.candidates 0 (imgKey 0 (learnedImg r.mac r.fid r.port)))
  generalize s.parityAmong 0 (s.candidates 0 (imgKey 0 (learnedImg r.mac r.fid r.port))) = v at searched
  refine searched.trans ?_
  split
  · exact ite (ite ((inc _ _ _ _ _).trans (evt _ _ _ _)) ((inc _ _ _ _ _).trans (setSlot _ _ _ _))) (setSlot _ _ _ _)
  · have placed := placeKey v 0 (learnedImg r.mac r.fid r.port)
    split
    · next e =>
      rw [e] at placed
      exact placed.trans (setSlot _ _ _ _)
    · next e =>
      rw [e] at placed
      exact placed.trans ((inc _ _ _ _ _).trans (evt _ _ _ _))

/-! ## What a warm join is told (R425) -/

/-- From `s` to `t` the twin controller's own state changes only. -/
def TwinOnly (s t : State) : Prop := ∃ x, t = { s with twn := x }

theorem TwinOnly.refl (s : State) : TwinOnly s s := ⟨_, rfl⟩

theorem TwinOnly.trans (h : TwinOnly s t) (k : TwinOnly t u) : TwinOnly s u := by
  obtain ⟨x, rfl⟩ := h
  obtain ⟨y, rfl⟩ := k
  exact ⟨y, rfl⟩

theorem TwinOnly.linkQueue (s : State) (m : LinkMsg) : TwinOnly s (s.linkQueue m) := by
  unfold State.linkQueue
  split
  · exact ⟨_, rfl⟩
  · exact refl s

theorem TwinOnly.syncUpdate (s b : State) (time : Int) : TwinOnly s (s.syncUpdate b time) := by
  unfold State.syncUpdate
  split
  · exact List.foldlRecOn (motive := fun v => TwinOnly s v) _ _ (refl s) fun _ h _ _ => h.trans (linkQueue _ _)
  · exact refl s

theorem TwinOnly.syncLearn (s b : State) : TwinOnly s (s.syncLearn b) := by
  unfold State.syncLearn
  split
  · exact syncUpdate _ _ _
  · exact refl s

theorem TwinOnly.slot (h : TwinOnly s t) (k i : Nat) : t.slot k i = s.slot k i := by
  obtain ⟨x, rfl⟩ := h
  exact State.slot_of_parts rfl rfl rfl k i

theorem TwinOnly.lkp (h : TwinOnly s t) : t.lkp = s.lkp := by
  obtain ⟨x, rfl⟩ := h
  rfl

theorem TwinOnly.regs (h : TwinOnly s t) : t.regs = s.regs := by
  obtain ⟨x, rfl⟩ := h
  rfl

theorem does_learnInsert {r : LearnReq} {rest : List LearnReq} (hu : s.underTest 0 = false) (hq : s.lkp.learnQ = r :: rest) :
    Does .learnInsert s fun t => t.lkp.learnQ = rest := by
  refine does_of (u := s.learnInsert.syncLearn s) rfl ?_
  rw [settled_lkp, (TwinOnly.syncLearn _ s).lkp, learnInsert_eq hu hq]
  exact (Queues.learnRun _ r).learnQ

/-- The request of a key that is not there goes into both versions of the free way. -/
theorem learnRun_absent {r : LearnReq} {i : Nat} (sound : ∀ i, (s.slot 0 i).perr = false)
    (absent : s.findPresent 0 (imgKey 0 (learnedImg r.mac r.fid r.port)) = none)
    (place : s.freePlace 0 (learnedImg r.mac r.fid r.port) (4 * s.hashBucket 0 0 (imgKey 0 (learnedImg r.mac r.fid r.port))) 4 = some i) :
    s.learnRun r = s.hwInsert 0 i (learnedImg r.mac r.fid r.port) := by
  unfold State.learnRun
  dsimp only
  rw [parityAmong_sound sound, absent]
  dsimp only
  rw [placeKey_first place]

theorem learnTaken_agree (s : State) (rest : List LearnReq) : TablesAgree s (s.learnTaken rest) :=
  ⟨fun _ _ _ _ => rfl, rfl, fun _ _ _ _ => rfl, fun _ _ => rfl, fun _ _ => rfl, rfl, rfl, rfl, rfl, rfl, rfl, rfl, rfl⟩

/-- A slot into which hardware has inserted an entry (R177). -/
def insertedSlot (img e : Nat) : Slot9 := { a := ⟨img, e, false⟩, b := ⟨img, e, false⟩, newB := true }

theorem does_learnInsert_absent {r : LearnReq} {rest : List LearnReq} (hu : s.underTest 0 = false) (hq : s.lkp.learnQ = r :: rest)
    (hf : s.lkp.flush = []) (sound : ∀ i, (s.slot 0 i).perr = false) {i : Nat}
    (absent : s.findPresent 0 (imgKey 0 (learnedImg r.mac r.fid r.port)) = none)
    (place : s.freePlace 0 (learnedImg r.mac r.fid r.port) (4 * s.hashBucket 0 0 (imgKey 0 (learnedImg r.mac r.fid r.port))) 4 = some i) :
    Does .learnInsert s fun t => (t.slot 0 i).a = ⟨learnedImg r.mac r.fid r.port, s.epoch, false⟩ ∧
      (t.slot 0 i).b = ⟨learnedImg r.mac r.fid r.port, s.epoch, false⟩ ∧ (t.slot 0 i).pend = false ∧ (t.slot 0 i).stale = false ∧
      s.keepsRegs t [] := by
  have agree := learnTaken_agree s rest
  have eq : s.learnInsert = (s.learnTaken rest).hwInsert 0 i (learnedImg r.mac r.fid r.port) := by
    rw [learnInsert_eq hu hq, flushSome_idle hf]
    refine learnRun_absent (fun i => by rw [agree.slot, sound]) (by rw [agree.findPresent (by decide), absent]) ?_
    rw [agree.freePlace, agree.hashBucket (by decide) (by decide), place]
  have slot : (settled s (s.learnInsert.syncLearn s)).slot 0 i = insertedSlot (learnedImg r.mac r.fid r.port) s.epoch := by
    rw [settled_slot, (TwinOnly.syncLearn _ s).slot, eq]
    exact State.slot_setSlot_same (agree.underTest.trans hu) _ _ _
  refine does_of (u := s.learnInsert.syncLearn s) rfl ?_
  rw [slot]
  refine ⟨rfl, rfl, rfl, rfl, settled_keeps _ _ _ (State.keepsRegs_of_eq _ ((TwinOnly.syncLearn _ s).regs.trans ?_))⟩
  rw [eq]
  exact State.setSlot_regs ..

end Sys2Proof.Machine
end

section
set_option Elab.async false
/-! PROOFS. The age scanner (05_forwarding_tables.md R153, R161, R162), and the entries of the tables. -/

namespace Sys2Proof.Machine

variable {s t u : State}

/-! ## A dropped frame leaves the tables alone -/

theorem Ends.lkp (h : Ends s t) : t.lkp = s.lkp := by
  obtain ⟨-, r, c, l, rfl⟩ := h
  rfl

theorem modFrame_lkp (s : State) (k : Nat) (g : Frame → Frame) : (s.modFrame k g).lkp = s.lkp := by
  unfold State.modFrame
  split <;> rfl

theorem refuse_lkp (s : State) (c : Copy) (code : Nat) : (s.refuse c code).lkp = s.lkp := by
  have dropped : ((s.dropCount code).evt F.SWC_EVT_ADMIT).lkp = s.lkp := State.evt_lkp ..
  unfold State.refuse
  dsimp only
  split
  · exact dropped
  · exact dropped

theorem admitMirror_lkp (s : State) (n : Nat) (c : Copy) : (s.admitMirror n c).lkp = s.lkp := by
  unfold State.admitMirror
  split
  · rfl
  · split
    · exact (Ends.addRefs _ _ _).lkp.trans (modFrame_lkp _ _ _)
    · exact refuse_lkp _ _ _

theorem captureDrop_lkp (s : State) (k code : Nat) : (s.captureDrop k code).lkp = s.lkp := by
  unfold State.captureDrop
  split
  · rfl
  · split
    · exact List.foldlRecOn (motive := fun v : State => v.lkp = s.lkp) _ _ rfl fun v h _ _ => (admitMirror_lkp _ _ _).trans h
    · rfl

theorem dropNoted_lkp (s : State) (k : Nat) (f : Frame) (code : Nat) : (s.dropNoted k f code).lkp = s.lkp := by
  unfold State.dropNoted State.digestInput State.digestAt State.digestItem
  split
  · rfl
  · split
    · split <;> rfl
    · rfl

/-- The drop of a frame, step by step (R20, R34). -/
theorem dropFrame_steps {k : Nat} {f : Frame} (hf : s.frame k = some f) (hs : f.stage ≠ .gone) (code : Nat) :
    s.dropFrame k code = (((if f.fwd then ((s.dropNoted k f code).modFrame k (droppedFrame code)).addRefs k f.headCls
      else (s.dropNoted k f code).modFrame k (droppedFrame code)).captureDrop k code).modFrame k cappedFrame).settle k := by
  unfold State.dropFrame
  rw [hf]
  dsimp only
  rw [if_neg (by simpa using hs)]
  rfl

theorem dropFrame_lkp (s : State) (k code : Nat) : (s.dropFrame k code).lkp = s.lkp := by
  cases hf : s.frame k with
  | none => rw [State.dropFrame, hf]
  | some f =>
    by_cases hs : f.stage = .gone
    · rw [State.dropFrame, hf]
      dsimp only
      rw [if_pos (by simp [hs])]
    · rw [dropFrame_steps hf hs, (Ends.settle _ _).lkp, modFrame_lkp, captureDrop_lkp]
      have noted : ((s.dropNoted k f code).modFrame k (droppedFrame code)).lkp = s.lkp := (modFrame_lkp _ _ _).trans (dropNoted_lkp _ _ _ _)
      split
      · exact (Ends.addRefs _ _ _).lkp.trans noted
      · exact noted

/-! ## One slot is aged (R161, R162) -/

/-- The scanner's place is that of `s`. -/
structure ScanAt (s t : State) : Prop where
  ageStep : t.lkp.ageStep = s.lkp.ageStep
  stashVisit : t.lkp.stashVisit = s.lkp.stashVisit

theorem Queues.scan (h : Queues s t) : ScanAt s t := ⟨h.ageStep, h.stashVisit⟩

namespace ScanAt

theorem refl (s : State) : ScanAt s s := ⟨rfl, rfl⟩

theorem trans (h : ScanAt s t) (k : ScanAt t u) : ScanAt s u := ⟨k.ageStep.trans h.ageStep, k.stashVisit.trans h.stashVisit⟩

theorem of_lkp (h : t.lkp = s.lkp) : ScanAt s t := (Queues.of_lkp h).scan

theorem ite {c : Prop} [Decidable c] (ht : ScanAt s t) (hu : ScanAt s u) : ScanAt s (if c then t else u) := by
  split
  · exact ht
  · exact hu

theorem foldl {α : Type} {f : State → α → State} (l : List α) (hf : ∀ v a, ScanAt v (f v a)) (s : State) : ScanAt s (l.foldl f s) :=
  List.foldlRecOn (motive := fun v => ScanAt s v) l f (refl s) fun _ h a _ => h.trans (hf _ a)

theorem setFrame (s : State) (k : Nat) (x : Option Frame) : ScanAt s (s.setFrame k x) := of_lkp rfl

theorem learnQueue (s : State) (fid mac port : Nat) (time : Int) : ScanAt s (s.learnQueue fid mac port time) := by
  unfold State.learnQueue
  exact ite ⟨rfl, rfl⟩ (ite (of_lkp (State.evt_lkp ..)) ⟨rfl, rfl⟩)

theorem learnIssue (s : State) (k : Nat) : ScanAt s (s.learnIssue k) := by
  unfold State.learnIssue
  split
  · exact refl s
  · exact ite ((setFrame _ _ _).trans (learnQueue _ _ _ _ _)) (refl s)

theorem learnLate (s : State) (k : Nat) : ScanAt s (s.learnLate k) := by
  unfold State.learnLate
  split
  · exact refl s
  · next f _ =>
    have excess : ((s.inc F.FDB_LEXC_COUNT f.src).evt F.LKP_EVT_LIMIT).lkp = s.lkp := State.evt_lkp ..
    exact ite (ite (of_lkp ((dropFrame_lkp _ _ _).trans excess)) (of_lkp excess)) ((setFrame _ _ _).trans (learnIssue _ _))

theorem cycleFresh (s : State) : ScanAt s s.cycleFresh := ite (refl s) ⟨rfl, rfl⟩

end ScanAt

/-- The hits of this tick on slot `i`. -/
def State.hitsOn (s : State) (i : Nat) : List FdbHit := s.cycleFresh.lkp.hits.filter fun h => h.slot == i

/-- The STALE flag by which the scanner judges slot `i` (R162). -/
def State.judgedStale (s : State) (i : Nat) : Bool :=
  match (s.hitsOn i).head? with
  | some h => h.stale
  | none => (s.cycleFresh.slot 0 i).stale

/-- The deletion of an entry, noted for the hits of this tick (R162). -/
def State.noteAged (s : State) (i : Nat) : State := { s with lkp := { s.lkp with aged := s.lkp.aged ++ [(i, s.slot 0 i)] } }

/-- The scanner deletes the entry of slot `i`, and its source frame learns the address again (R162). -/
def State.ageDeleted (s : State) (i : Nat) : State :=
  ((s.hitsOn i).filterMap fun h => h.again).foldl State.learnLate
    ((s.cycleFresh.noteAged i).setSlot 0 i (deletedSlot (s.cycleFresh.slot 0 i)))

theorem ageSlot_eq (s : State) (i : Nat) : s.ageSlot i =
    if (s.cycleFresh.slot 0 i).poison then s.cycleFresh
    else if (s.cycleFresh.slot 0 i).perr then s.cycleFresh.parityFound 0 i
    else if fdbDynamic (versionFor (s.cycleFresh.slot 0 i) s.cycleFresh.epoch).img then
      if s.judgedStale i then s.ageDeleted i
      else if (s.hitsOn i).isEmpty then s.cycleFresh.setSlot 0 i { s.cycleFresh.slot 0 i with stale := true }
      else s.cycleFresh
    else s.cycleFresh := rfl

theorem ScanAt.ageSlot (s : State) (i : Nat) : ScanAt s (s.ageSlot i) := by
  rw [ageSlot_eq]
  have fresh := ScanAt.cycleFresh s
  have deleted : ScanAt s (s.ageDeleted i) := by
    have noted : ScanAt s.cycleFresh (s.cycleFresh.noteAged i) := ⟨rfl, rfl⟩
    exact ((fresh.trans noted).trans (Queues.setSlot _ _ _ _).scan).trans (ScanAt.foldl _ ScanAt.learnLate _)
  exact ScanAt.ite fresh (ScanAt.ite (fresh.trans (Queues.parityFound _ _ _).scan)
    (ScanAt.ite (ScanAt.ite deleted (ScanAt.ite (fresh.trans (Queues.setSlot _ _ _ _).scan) fresh)) fresh))

theorem ScanAt.stashRelocate (s : State) (n : Nat) : ScanAt s (s.stashRelocate n) := by
  unfold State.stashRelocate
  dsimp only
  refine ScanAt.ite (ScanAt.refl s) (ScanAt.ite (Queues.parityFound _ _ _).scan ?_)
  split
  · exact ScanAt.refl s
  · next img _ =>
    have read := (Queues.parityAmong s 0 ((s.candidates 0 (imgKey 0 img)).take 8)).scan
    generalize s.parityAmong 0 ((s.candidates 0 (imgKey 0 img)).take 8) = v at read
    split
    · exact read.trans (Queues.moveSlot _ _ _ _).scan
    · exact read

/-- The age scanner moves on one step and one stash slot (R153, R161). -/
theorem does_ageScanStep (period : s.get F.FDB_AGE_CFG_PERIOD ≠ 0) (hu : s.underTest 0 = false) (awake : s.mode ≠ modePEWTER) :
    Does .ageScanStep s fun t => t.lkp.ageStep = (s.lkp.ageStep + 1) % 32768 ∧ t.lkp.stashVisit = (s.lkp.stashVisit + 1) % 16 := by
  refine does_of (u := s.ageScan) rfl ?_
  rw [settled_lkp]
  unfold State.ageScan
  rw [if_neg (by simp [period, hu, awake])]
  dsimp only
  have flushed := (Queues.flushSome s 1).scan
  generalize s.flushSome 1 = a at flushed
  have aged : ScanAt a ((List.range 4).foldl (fun s w => s.ageSlot (4 * a.lkp.ageStep + w)) a) := ScanAt.foldl _ (fun v w => ScanAt.ageSlot v _) a
  generalize (List.range 4).foldl (fun (s : State) w => s.ageSlot (4 * a.lkp.ageStep + w)) a = b at aged
  have stash : ScanAt b (if a.lkp.ageStep % 2048 = 0 then b.ageSlot (131072 + a.lkp.ageStep / 2048) else b) :=
    ScanAt.ite (ScanAt.ageSlot _ _) (ScanAt.refl b)
  generalize (if a.lkp.ageStep % 2048 = 0 then b.ageSlot (131072 + a.lkp.ageStep / 2048) else b) = c at stash
  have moved := ((flushed.trans aged).trans stash).trans (ScanAt.stashRelocate c c.lkp.stashVisit)
  rw [flushed.ageStep, moved.stashVisit]
  exact ⟨rfl, rfl⟩

/-! ## The marks of the scanner -/

/-- What a new tick leaves of the tables. -/
theorem cycleFresh_shows (s : State) : s.cycleFresh.regs = s.regs ∧ (∀ i, s.cycleFresh.slot 0 i = s.slot 0 i) ∧ (s.lkp.hits = [] → s.cycleFresh.lkp.hits = []) := by
  unfold State.cycleFresh
  split
  · exact ⟨rfl, fun _ => rfl, id⟩
  · exact ⟨rfl, fun i => State.slot_of_parts rfl rfl rfl 0 i, fun _ => rfl⟩

theorem ageDeleted_slot {i : Nat} (hu : s.underTest 0 = false) (none_ : (s.hitsOn i).filterMap (fun h => h.again) = []) :
    (s.ageDeleted i).slot 0 i = deletedSlot (s.slot 0 i) := by
  obtain ⟨regs, slot, -⟩ := cycleFresh_shows s
  unfold State.ageDeleted
  rw [none_, List.foldl_nil, slot]
  exact State.slot_setSlot_same ((State.underTest_of_regs (t := s.cycleFresh.noteAged i) regs 0).trans hu) _ _ _

section
variable {i : Nat} (hu : s.underTest 0 = false) (whole : (s.slot 0 i).poison = false) (sound : (s.slot 0 i).perr = false)
  (dynamic : fdbDynamic (versionFor (s.slot 0 i) s.epoch).img = true)
include whole sound dynamic

/-- The scanner comes to a dynamic entry. -/
theorem ageSlot_dynamic : s.ageSlot i = if s.judgedStale i then s.ageDeleted i
    else if (s.hitsOn i).isEmpty then s.cycleFresh.setSlot 0 i { s.slot 0 i with stale := true } else s.cycleFresh := by
  obtain ⟨regs, slot, -⟩ := cycleFresh_shows s
  have epoch : s.cycleFresh.epoch = s.epoch := State.get_of_regs regs _ _ _
  rw [ageSlot_eq, slot, epoch, whole, sound, if_neg Bool.false_ne_true, if_neg Bool.false_ne_true, if_pos dynamic]

include hu

/-- Without a hit of this tick an unmarked entry is marked. -/
theorem ageSlot_marks (hits : s.lkp.hits = []) (fresh : (s.slot 0 i).stale = false) :
    (s.ageSlot i).slot 0 i = { s.slot 0 i with stale := true } := by
  obtain ⟨regs, slot, quiet⟩ := cycleFresh_shows s
  have on : s.hitsOn i = [] := by rw [State.hitsOn, quiet hits, List.filter_nil]
  have judged : s.judgedStale i = false := by
    rw [State.judgedStale, on]
    exact (congrArg Slot9.stale (slot i)).trans fresh
  rw [ageSlot_dynamic whole sound dynamic, judged, on, if_neg Bool.false_ne_true, List.isEmpty_nil, if_pos rfl]
  exact State.slot_setSlot_same ((State.underTest_of_regs regs 0).trans hu) _ _ _

/-- An entry judged stale is deleted. -/
theorem ageSlot_deletes (stale : s.judgedStale i = true) (none_ : (s.hitsOn i).filterMap (fun h => h.again) = []) (hn : (s.slot 0 i).pend = false) :
    imgValid 0 (versionFor ((s.ageSlot i).slot 0 i) s.epoch).img = false ∧ ((s.ageSlot i).slot 0 i).stale = false := by
  rw [ageSlot_dynamic whole sound dynamic, if_pos stale, ageDeleted_slot hu none_]
  exact ⟨imgValid_deletedSlot hn _, rfl⟩

end

/-! ## The statement -/

/-- Settles O41: an INSERT and a learned address take the slot of their key or the free way of its first bucket, and the scanner marks a dynamic
entry and deletes it at its next visit. -/
theorem tableEntries : Obligations.TableEntries := by
  refine ⟨?_, ?_, fun s period hu awake => does_ageScanStep period hu awake, ?_, ?_⟩
  · intro s h w table ho hb hl hu hf ht room m k plain rsvd key bound sound
    refine ⟨fun i found => ?_, fun i absent place => ?_⟩
    · refine does_lkpAccepted (op := 3) (table := table) (ver := false) (by decide) rfl ho hb hl hf fun u t agree _ acc => ?_
      obtain ⟨status, index, staged⟩ := lkpInsert_present (s := u) plain rsvd key ((agree.boundOk _ _).trans bound)
        (fun i => by rw [agree.slot, sound]) (by rw [agree.staged, agree.taken]; exact room) ((agree.findPresent (hashed_lt_eight ht) k).trans found)
      rw [lkpDo_insert (agree.underTest.trans hu) ht] at acc
      refine ⟨?_, _, acc.cmd, status, index⟩
      rw [State.stagedAt, acc.staged]
      exact staged
    · refine does_lkpAccepted (op := 3) (table := table) (ver := false) (by decide) rfl ho hb hl hf fun u t agree _ acc => ?_
      have place' : u.freePlace table m (4 * u.hashBucket table 0 k) 4 = some i := by
        rw [agree.freePlace, agree.hashBucket (hashed_lt_eight ht) (by decide), place]
      obtain ⟨status, index, staged, res⟩ := lkpInsert_absent (s := u) plain rsvd key ((agree.boundOk _ _).trans bound)
        (fun i => by rw [agree.slot, sound]) (by rw [agree.staged, agree.taken]; exact room) (agree.underTest.trans hu)
        ((agree.findPresent (hashed_lt_eight ht) k).trans absent) place'
      rw [lkpDo_insert (agree.underTest.trans hu) ht] at acc
      refine ⟨?_, ?_, _, acc.cmd, status, index⟩
      · rw [State.stagedAt, acc.staged]
        exact staged
      · rw [acc.slot]
        exact res
  · intro s r rest hu hq
    exact ⟨does_learnInsert hu hq, fun hf sound i absent place => does_learnInsert_absent hu hq hf sound absent place⟩
  · intro s i hu whole sound dynamic hits
    have on : s.hitsOn i = [] := by rw [State.hitsOn, (cycleFresh_shows s).2.2 hits, List.filter_nil]
    refine ⟨ageSlot_marks hu whole sound dynamic hits, fun stale hn => ageSlot_deletes hu whole sound dynamic ?_ (by rw [on]; rfl) hn⟩
    rw [State.judgedStale, on]
    exact (congrArg Slot9.stale ((cycleFresh_shows s).2.1 i)).trans stale
  · intro s i was hu whole sound hn dynamic same hits
    have fresh : s.cycleFresh = s := if_pos same
    have on : s.hitsOn i = [{ slot := i, stale := was, again := none }] := by
      rw [State.hitsOn, fresh, hits]
      simp
    have judged : s.judgedStale i = was := by
      rw [State.judgedStale, on]
      rfl
    refine ⟨fun e => ?_, fun e => (ageSlot_deletes hu whole sound dynamic (judged.trans e) (by rw [on]; rfl) hn).1⟩
    rw [ageSlot_dynamic whole sound dynamic, judged, e, on, if_neg Bool.false_ne_true, fresh]
    rfl

end Sys2Proof.Machine
end

section
set_option Elab.async false
/-! PROOFS. The stages of the switch core and the age unit (05_forwarding_tables.md R143; 09_policing.md R271; 07_switch_core.md R212, R221, R228). -/

namespace Sys2Proof.Machine

variable {s t u : State}

/-! ## A stage's end -/

theorem TwinOnly.syncFrame (s b : State) (k : Option Nat) : TwinOnly s (s.syncFrame b k) := by
  unfold State.syncFrame
  split
  · exact TwinOnly.syncUpdate _ _ _
  · exact TwinOnly.refl s

theorem TwinOnly.pipe (h : TwinOnly s t) (pl : Nat) : t.pipe pl = s.pipe pl := by
  obtain ⟨x, rfl⟩ := h
  rfl

theorem TwinOnly.frame (h : TwinOnly s t) (k : Nat) : t.frame k = s.frame k := by
  obtain ⟨x, rfl⟩ := h
  rfl

theorem TwinOnly.tin (h : TwinOnly s t) : t.tin = s.tin := by
  obtain ⟨x, rfl⟩ := h
  rfl

theorem TwinOnly.digestInput (s : State) (k : Nat) (f : Frame) (code : Nat) : TwinOnly s (s.digestInput k f code) := by
  unfold State.digestInput State.digestAt State.digestItem
  split
  · split
    · exact ⟨_, rfl⟩
    · exact refl s
  · exact refl s

/-- A stage that ends by moving frame `k` on, in a command that may tell a joining twin of it. -/
theorem does_stage {c : Instr} {b v : State} {j : Option Nat} {P : State → Prop} (pl : Nat) (x : Pipe)
    (he : exec c s = finish s ((v.setPipe pl x).syncFrame b j))
    (hp : ∀ t : State, t.pipe pl = x → (∀ k, t.frame k = v.frame k) → (v.regs = s.regs → s.keepsRegs t []) → P t) : Does c s P := by
  have told := TwinOnly.syncFrame (v.setPipe pl x) b j
  refine does_of he (hp _ ?_ (fun k => ?_) fun regs => ?_)
  · rw [settled_pipe, told.pipe, State.pipe_setPipe]
  · rw [frame_of_frames (settled_frames ..), told.frame]
    rfl
  · exact settled_keeps _ _ _ (State.keepsRegs_of_eq _ (told.regs.trans regs))

theorem settled_list (b v : State) (n : Nat) : (settled b v).list n = v.list n := by rw [State.list, State.list, settled_swc]

/-! ## Stage 4 (R143) -/

/-- Frame `k` needs a decision of stage 4. -/
def State.stage4Needs (s : State) (k : Nat) : Bool :=
  match s.frame k with
  | some f => f.stage == .parsed && f.slow == 0
  | none => false

/-- The work of stage 4 on frame `k`, before the frame moves on. -/
def State.stage4Work (s : State) (pl : Nat) (parity : List (Nat × Nat)) (k : Nat) : State :=
  let s := parity.foldl (fun s e =>
    if e.1 < 9 ∧ e.2 < tblSlots e.1 then s.setSlot e.1 e.2 { s.slot e.1 e.2 with perr := true } else s) s
  if s.underTest 0 && s.stage4Needs k then s.dropFrame k 0x02 else s.lookupFrame pl k

theorem stage4_eq {pl k : Nat} {rest : List Nat} (h : (s.pipe pl).st4 = k :: rest) (parity : List (Nat × Nat)) :
    s.stage4 pl parity = (s.stage4Work pl parity k).setPipe pl
      { (s.stage4Work pl parity k).pipe pl with st4 := rest, st5 := ((s.stage4Work pl parity k).pipe pl).st5 ++ [k] } := by
  unfold State.stage4
  rw [h]
  rfl

/-- A frame on the slow path passes stage 4 without a decision. -/
theorem stage4Work_slow {pl k : Nat} {f : Frame} (hf : s.frame k = some f) (hs : f.stage = .parsed) (slow : f.slow ≠ 0) :
    s.stage4Work pl [] k = s.setFrame k (some { f with stage := .looked }) := by
  have work : s.lookupFrame pl k = s.setFrame k (some { f with stage := .looked }) := by
    unfold State.lookupFrame
    rw [hf]
    exact (if_neg (by simp [hs])).trans (if_pos slow)
  have needs : s.stage4Needs k = false := by
    rw [State.stage4Needs, hf]
    simp [slow]
  have skip : ¬ (s.underTest 0 && s.stage4Needs k) = true := by
    rw [needs, Bool.and_false]
    exact Bool.false_ne_true
  exact (if_neg skip).trans work

/-! ## Stage 5 (R271) -/

/-- The work of stage 5 on frame `k`, before the frame moves on. -/
def State.stage5Work (s : State) (upset : Option (Nat × Bool)) (k : Nat) : State :=
  let s : State := match upset, s.frame k with
    | some (t, double), some f =>
      let e := match t with
        | 0 => f.dec.meter
        | 1 => f.dec.filter
        | _ => f.dec.gate
      if f.stage != .looked then s
      else if t = 3 then s.schedUpset (s.gate f.dec.gate).sched f.time double
      else s.polUpset t e true double
    | _, _ => s
  let s := s.policeFrame k
  match s.frame k with
  | some f => if f.stage == .policed then s.digestInput k f 0 else s
  | none => s

theorem stage5_eq {pl k : Nat} {rest : List Nat} (h : (s.pipe pl).st5 = k :: rest) (upset : Option (Nat × Bool)) :
    s.stage5 pl upset = (s.stage5Work upset k).setPipe pl
      { (s.stage5Work upset k).pipe pl with st5 := rest, st6 := ((s.stage5Work upset k).pipe pl).st6 ++ [k] } := by
  unfold State.stage5
  rw [h]
  rfl

/-- A frame on the slow path passes stage 5 without a decision. -/
theorem stage5Work_slow {k : Nat} {f : Frame} (hf : s.frame k = some f) (hs : f.stage = .looked) (slow : f.slow ≠ 0) :
    TwinOnly (s.setFrame k (some { f with stage := .policed })) (s.stage5Work none k) := by
  have work : s.policeFrame k = s.setFrame k (some { f with stage := .policed }) := by
    unfold State.policeFrame
    rw [hf]
    exact (if_neg (by simp [hs])).trans (if_pos slow)
  unfold State.stage5Work
  dsimp only
  rw [work]
  split
  · split
    · exact TwinOnly.digestInput _ _ _ _
    · exact TwinOnly.refl _
  · exact TwinOnly.refl _

/-! ## Stage 6 (R212) -/

theorem stage6_pipe {pl k : Nat} {rest : List Nat} (h : (s.pipe pl).st6 = k :: rest) : ((s.stage6 pl).pipe pl).st6 = rest := by
  unfold State.stage6
  rw [h]
  dsimp only
  rw [State.pipe_setPipe]

/-! ## Cut-through copies (R221) -/

theorem ctSelectable_list (s : State) (n : Nat) : (s.ctSelectable n).list n = (s.list n).map fun c =>
    match s.frame c.fid with
    | some f => if c.ct ∧ 2 ≤ f.cells.length ∧ !f.bad then { c with sel := true } else c
    | none => c := list_setList_same _ _ _

/-! ## The age unit (R228) -/

theorem ageUnit_passes (h : ∀ c ∈ (s.list s.swc.ageList).head?, s.expired s.swc.ageList c = false) :
    s.ageUnit = { s with swc := { s.swc with ageList := (s.swc.ageList + 1) % 616 } } := by
  unfold State.ageUnit
  dsimp only
  split
  · next c rest e =>
    rw [h c (by rw [e]; rfl), if_neg Bool.false_ne_true]
  · rfl

/-! ## The statement -/

/-- Settles O32: the stages take the oldest frame of their pipeline and move it on, whatever they decide; the age unit visits one list head. -/
theorem switchStages : Obligations.SwitchStages := by
  refine ⟨fun s pl k rest parity h => ⟨?_, fun f hf hs slow => ?_⟩, fun s pl k rest upset h => ⟨?_, fun f hf hs slow => ?_⟩, ?_, ?_, fun s => ⟨?_, ?_⟩⟩
  · refine does_stage (b := s) (j := (s.pipe pl.val).st4.head?) pl _ (congrArg (fun v : State => finish s (v.syncFrame s _)) (stage4_eq h parity))
      fun t pipe _ _ => ?_
    rw [pipe]
    exact ⟨rfl, List.getLast?_concat ..⟩
  · refine does_stage (b := s) (j := (s.pipe pl.val).st4.head?) pl _ (congrArg (fun v : State => finish s (v.syncFrame s _)) (stage4_eq h []))
      fun t pipe frame keeps => ?_
    rw [stage4Work_slow hf hs slow] at pipe frame keeps
    refine ⟨(frame k).trans ((frame_setFrame ..).trans (if_pos rfl)), ?_, keeps rfl⟩
    rw [pipe]
    rfl
  · refine does_stage (b := s) (j := (s.pipe pl.val).st5.head?) pl _ (congrArg (fun v : State => finish s (v.syncFrame s _)) (stage5_eq h _))
      fun t pipe _ _ => ?_
    rw [pipe]
    exact ⟨rfl, List.getLast?_concat ..⟩
  · refine does_stage (b := s) (j := (s.pipe pl.val).st5.head?) pl _ (congrArg (fun v : State => finish s (v.syncFrame s _)) (stage5_eq h none))
      fun t pipe frame keeps => ?_
    have work := stage5Work_slow hf hs slow
    refine ⟨(frame k).trans ((work.frame k).trans ((frame_setFrame ..).trans (if_pos rfl))), ?_, keeps work.regs⟩
    rw [pipe]
    exact congrArg (fun p : Pipe => p.st6 ++ [k]) (work.pipe pl)
  · intro s pl k rest h
    refine does_of (u := s.stage6 pl.val) rfl ?_
    rw [settled_pipe]
    exact stage6_pipe h
  · intro s n
    refine does_of (u := s.ctSelectable n.val) rfl ⟨settled_keeps _ _ _ (State.keepsRegs_of_eq _ rfl), ?_, fun i c f hi hf ct two good => ?_⟩
    · rw [settled_list, ctSelectable_list, List.length_map]
    · rw [settled_list, ctSelectable_list, List.getElem?_map, hi, Option.map_some, hf]
      exact congrArg some (if_pos ⟨ct, two, by rw [good]; rfl⟩)
  · intro h
    have run : exec .ageUnitStep s = finish s s.ageUnit := rfl
    rw [ageUnit_passes h] at run
    refine does_of run ⟨?_, settled_keeps _ _ _ (State.keepsRegs_of_eq _ rfl)⟩
    rw [settled_swc]
  · intro c rest h old _
    have run : exec .ageUnitStep s = finish s s.ageUnit := rfl
    have discards : s.ageUnit = s.ageDiscard s.swc.ageList := by
      unfold State.ageUnit
      dsimp only
      rw [h]
      exact if_pos old
    rw [discards] at run
    obtain ⟨list, ageList, -, dropped, -⟩ := ageDiscard_shows h
    refine does_of run ⟨?_, ?_, ?_⟩
    · rw [settled_list]
      exact list
    · rw [settled_get _ _ _ _ _ (not_pba (by decide) ⟨by decide, by decide⟩)]
      exact dropped
    · rw [settled_swc]
      exact ageList

end Sys2Proof.Machine
end

section
set_option Elab.async false
/-! PROOFS. A frame begins, grows and is written into cells (01_frame_journey.md R20 to R22; 03_ports_and_macs.md R86; 07_switch_core.md R202). -/

namespace Sys2Proof.Machine

variable {s t u : State}

/-! ## The first symbol (R21) -/

/-- The device's state keeps a frame on a port out, or does not; whether it counts. -/
def State.keptOut (s : State) (p : Nat) : Option Bool := if s.underTest 2 then some true else s.closedFor p

/-- The record that a frame stamped `t` begins with on a MAC of a port, which the mode may keep out. -/
def State.rxRecord (s : State) (p : Nat) (pre : Bool) (t : Int) : Frame :=
  if (s.keptOut p).isSome then modeDropped (s.mkFrame p .net pre (s.get F.PORT_RXCFG_MAXLEN p) t)
  else s.mkFrame p .net pre (s.get F.PORT_RXCFG_MAXLEN p) t

theorem rxStart_eq (s : State) (p : Nat) (pre : Bool) (t : Int) :
    s.rxStart p pre t = (if s.keptOut p = some true then s.dropCount 0x02 else s).addFrame (s.rxRecord p pre t) := by
  unfold State.rxStart State.rxRecord State.keptOut
  dsimp only
  cases (if s.underTest 2 = true then some true else s.closedFor p) with
  | none => rfl
  | some counts => cases counts <;> rfl

theorem rxStart_shows (s : State) (p : Nat) (pre : Bool) (t : Int) : (s.rxStart p pre t).1 = s.nextFid ∧
    (s.rxStart p pre t).2.nextFid = s.nextFid + 1 ∧ (s.rxStart p pre t).2.frame s.nextFid = some (s.rxRecord p pre t) ∧
    (s.rxStart p pre t).2.port p = s.port p := by
  have entered : ∀ (v : State) (f : Frame), v.nextFid = s.nextFid → v.ports = s.ports → (v.addFrame f).1 = s.nextFid ∧
      (v.addFrame f).2.nextFid = s.nextFid + 1 ∧ (v.addFrame f).2.frame s.nextFid = some f ∧ (v.addFrame f).2.port p = s.port p := fun v f hn hp => by
    refine ⟨hn, congrArg (· + 1) hn, ?_, State.port_of_ports hp p⟩
    rw [← hn]
    exact (frame_setFrame v v.nextFid v.nextFid (some f)).trans (if_pos rfl)
  rw [rxStart_eq]
  split
  · exact entered (s.dropCount 0x02) _ rfl rfl
  · exact entered s _ rfl rfl

theorem rxRecord_shows (s : State) (p : Nat) (pre : Bool) (t : Int) : (s.rxRecord p pre t).src = p ∧ (s.rxRecord p pre t).origin = .net ∧
    (s.rxRecord p pre t).pre = pre ∧ (s.rxRecord p pre t).rx = [] ∧ (s.rxRecord p pre t).time = t ∧ (s.rxRecord p pre t).stamp = ts40 t ∧
    (s.rxRecord p pre t).maxlen = s.get F.PORT_RXCFG_MAXLEN p := by
  unfold State.rxRecord
  split <;> exact ⟨rfl, rfl, rfl, rfl, rfl, rfl, rfl⟩

section
variable {p : Port} {sub : Fin 2} (open_ : s.macReceives p = true) (awake : s.mode ≠ modePEWTER)
include open_ awake

theorem ingressStamp_open (pre : Bool) : s.ingressStamp p pre sub = s.macStart p pre (s.laneStamp sub) := by
  unfold State.ingressStamp
  exact if_neg (by simp [open_, awake])

theorem does_ingressExpress (idle : (s.port p).rxE = none) : Does (.ingressTimestamp p false sub) s fun t =>
    (t.port p).rxE = some s.nextFid ∧ t.nextFid = s.nextFid + 1 ∧
    ∃ f, t.frame s.nextFid = some f ∧ f.src = p ∧ f.origin = .net ∧ f.rx = [] ∧ f.time = s.laneStamp sub ∧ f.stamp = ts40 (s.laneStamp sub) ∧
      f.maxlen = s.get F.PORT_RXCFG_MAXLEN p := by
  obtain ⟨number, next, frame, -⟩ := rxStart_shows s p false (s.laneStamp sub)
  obtain ⟨src, origin, -, rx, time, stamp, maxlen⟩ := rxRecord_shows s p false (s.laneStamp sub)
  have run : exec (.ingressTimestamp p false sub) s = finish s (s.ingressStamp p false sub) := rfl
  have starts : s.macStart p false (s.laneStamp sub) = (s.rxStart p false (s.laneStamp sub)).2.setPort p
      { (s.rxStart p false (s.laneStamp sub)).2.port p with rxE := some (s.rxStart p false (s.laneStamp sub)).1 } := by
    unfold State.macStart
    exact (if_neg Bool.false_ne_true).trans (if_neg (by rw [idle]; exact Bool.false_ne_true))
  rw [ingressStamp_open open_ awake, starts, number] at run
  refine does_of run ⟨?_, ?_, _, ?_, src, origin, rx, time, stamp, maxlen⟩
  · rw [settled_port, State.port_setPort_same]
  · rw [settled_nextFid]
    exact next
  · exact (frame_of_frames (settled_frames ..) _).trans frame

theorem does_ingressBusy (busy : (s.port p).rxE.isSome = true) : Does (.ingressTimestamp p false sub) s fun t => t = settled s s := by
  have run : exec (.ingressTimestamp p false sub) s = finish s (s.ingressStamp p false sub) := rfl
  have stays : s.macStart p false (s.laneStamp sub) = s := by
    unfold State.macStart
    exact (if_neg Bool.false_ne_true).trans (if_pos busy)
  rw [ingressStamp_open open_ awake, stays] at run
  exact does_of run rfl

theorem does_ingressPreemptable (merges : s.bit F.PORT_MM_CFG_MM_EN p = true) (idle : (s.port p).rxP = none) :
    Does (.ingressTimestamp p true sub) s fun t => t.rxFid p true = some s.nextFid ∧ t.nextFid = s.nextFid + 1 ∧
      ∃ f, t.frame s.nextFid = some f ∧ f.src = p ∧ f.pre = true ∧ f.rx = [] ∧ f.time = s.laneStamp sub := by
  obtain ⟨number, next, frame, -⟩ := rxStart_shows s p true (s.laneStamp sub)
  obtain ⟨src, -, pre, rx, time, -, -⟩ := rxRecord_shows s p true (s.laneStamp sub)
  have run : exec (.ingressTimestamp p true sub) s = finish s (s.ingressStamp p true sub) := rfl
  have starts : s.macStart p true (s.laneStamp sub) = (s.rxStart p true (s.laneStamp sub)).2.setPort p
      { (s.rxStart p true (s.laneStamp sub)).2.port p with
        rxP := some { fid := (s.rxStart p true (s.laneStamp sub)).1, frame := 0, nextCount := 0, frags := 0, base := 0 } } := by
    unfold State.macStart
    refine ((if_pos rfl).trans (if_pos merges)).trans ?_
    rw [idle]
    rfl
  rw [ingressStamp_open open_ awake, starts, number] at run
  refine does_of run ⟨?_, ?_, _, ?_, src, pre, rx, time⟩
  · rw [State.rxFid, if_pos rfl, settled_port, State.port_setPort_same]
    rfl
  · rw [settled_nextFid]
    exact next
  · exact (frame_of_frames (settled_frames ..) _).trans frame

end

/-! ## Bytes arrive (R20) -/

/-- The record of a frame after further bytes (R20, R94). -/
def State.withBytes (s : State) (f : Frame) (b : List Byte) : Frame :=
  { f with rx := f.rx ++ b, pri := if f.origin == .net ∧ f.rx.length < 18 then s.framePri f.src (f.rx ++ b) else f.pri }

/-- The record of a frame after further bytes and the cells that they begin. -/
def State.grown (s : State) (f : Frame) (b : List Byte) (cells : Nat) : Frame := { s.withBytes f b with begun := f.begun + cells }

theorem addOcc_frames (s : State) (n c : Nat) : (s.addOcc n c).frames = s.frames := rfl

theorem beginCells_frame {k : Nat} {f : Frame} (h : s.frame k = some f) (c : Nat) :
    (s.beginCells k c).frame k = some { f with begun := f.begun + c } := by
  have begun : ((s.dec F.SWC_FREE_CELLS 0 0 c).modFrame k fun f => { f with begun := f.begun + c }).frame k = some { f with begun := f.begun + c } :=
    frame_modFrame_same (s := s.dec F.SWC_FREE_CELLS 0 0 c) h
  unfold State.beginCells
  dsimp only
  generalize (s.dec F.SWC_FREE_CELLS 0 0 c).modFrame k (fun f => { f with begun := f.begun + c }) = v at begun ⊢
  have sent : ((v.txLists k).foldl (fun s n => s.addOcc n c) v).frames = v.frames := foldl_frames _ _ fun w n => addOcc_frames w n c
  generalize (v.txLists k).foldl (fun s n => s.addOcc n c) v = w at sent ⊢
  have listed := foldl_frames (f := fun (s : State) (e : Nat × List Copy) => s.addOcc e.1 (c * (e.2.filter fun x => x.fid == k).length)) w.swc.lists w
    fun x e => addOcc_frames x e.1 _
  exact (frame_of_frames (listed.trans sent) k).trans begun

theorem takeBytes_eq {k : Nat} {f : Frame} (h : s.frame k = some f) (b : List Byte) : s.takeBytes k b =
    if cellsOf (storedLen (s.withBytes f b)) - f.begun ≤ s.get F.SWC_FREE_CELLS then
      (s.setFrame k (some (s.withBytes f b))).beginCells k (cellsOf (storedLen (s.withBytes f b)) - f.begun)
    else ((s.setFrame k (some (s.withBytes f b))).beginCells k (s.get F.SWC_FREE_CELLS)).noCell k := by
  unfold State.takeBytes
  rw [h]
  rfl

/-- The bytes are kept where F has the cells that they begin. -/
theorem takeBytes_frame {k : Nat} {f : Frame} {b : List Byte} (h : s.frame k = some f)
    (room : cellsOf (min (f.rx.length + b.length) f.cap) - f.begun ≤ s.get F.SWC_FREE_CELLS) :
    ∃ c, (s.takeBytes k b).frame k = some (s.grown f b c) := by
  have stored : storedLen (s.withBytes f b) = min (f.rx.length + b.length) f.cap := congrArg (min · f.cap) (List.length_append ..)
  have set : (s.setFrame k (some (s.withBytes f b))).frame k = some (s.withBytes f b) := (frame_setFrame ..).trans (if_pos rfl)
  rw [takeBytes_eq h, stored, if_pos room]
  exact ⟨_, beginCells_frame set _⟩

/-- No decision has been taken about an arriving frame: its length is not judged. -/
theorem sduExceeds_arriving {f : Frame} (h : f.stage = .arriving) : s.sduExceeds f = false := by
  unfold State.sduExceeds
  rw [h]
  simp

theorem lineBytes_eq {p k : Nat} {pre : Bool} (h : s.rxFid p pre = some k) (b : List Byte) :
    s.lineBytes p pre b = (s.remote p b).rxBytes k b := by
  have same : (s.remote p b).rxFid p pre = s.rxFid p pre := by
    unfold State.remote
    split <;> rfl
  unfold State.lineBytes
  dsimp only
  rw [same, h]

theorem remote_frame (s : State) (p : Nat) (b : List Byte) (k : Nat) : (s.remote p b).frame k = s.frame k := by
  unfold State.remote
  split <;> rfl

theorem remote_regs (s : State) (p : Nat) (b : List Byte) : (s.remote p b).regs = s.regs := by
  unfold State.remote
  split <;> rfl

/-- Bytes within MAXLEN are kept, and nothing more happens to the frame. -/
theorem rxBytes_frame {k : Nat} {f : Frame} {b : List Byte} (h : s.frame k = some f) (stage : f.stage = .arriving) (cap : f.cap = f.maxlen)
    (fits : f.rx.length + b.length ≤ f.maxlen) (room : cellsOf (f.rx.length + b.length) - f.begun ≤ s.get F.SWC_FREE_CELLS) :
    ∃ c, (s.rxBytes k b).frame k = some (s.grown f b c) := by
  obtain ⟨c, taken⟩ := takeBytes_frame (b := b) h (by rw [cap, min_eq_left fits]; exact room)
  have within : (s.takeBytes k b).oversize k = s.takeBytes k b := by
    unfold State.oversize
    rw [taken]
    refine if_neg fun e => ?_
    have long : f.maxlen < (f.rx ++ b).length := e.1
    rw [List.length_append] at long
    omega
  have unjudged : (s.takeBytes k b).sduExceeds (s.grown f b c) = false := sduExceeds_arriving stage
  refine ⟨c, ?_⟩
  unfold State.rxBytes
  dsimp only
  rw [within, taken]
  dsimp only
  rw [unjudged]
  exact taken

/-! ## A cell is written (R202, R205) -/

theorem linkNext_frames (s : State) (k l i : Nat) : (s.linkNext k l i).frames = s.frames := by
  unfold State.linkNext
  split <;> rfl

/-- The data and the source of the cell at `i` are kept. -/
def keepsData (i : Nat) (s t : State) : Prop := ∀ c, s.cell i = some c → ∃ d, t.cell i = some d ∧ d.data = c.data ∧ d.src = c.src

theorem keepsData_linkNext (s : State) (k l i j : Nat) : keepsData j s (s.linkNext k l i) := fun c hc => by
  unfold State.linkNext
  split
  · next x hx =>
    by_cases e : j = l
    · subst e
      have same : x = c := by
        unfold State.cellOf at hx
        rw [hc, Option.bind_some] at hx
        split at hx
        · exact (Option.some.inj hx).symm
        · cases hx
      subst same
      exact ⟨_, tabFind_insert_same _ _ _, rfl, rfl⟩
    · exact ⟨c, (tabFind_insert_other e _ _).trans hc, rfl, rfl⟩
  · exact ⟨c, hc, rfl, rfl⟩

theorem keepsData_trans {i : Nat} (h : keepsData i s t) (k : keepsData i t u) : keepsData i s u := fun c hc => by
  obtain ⟨d, hd, data, src⟩ := h c hc
  obtain ⟨e, he, data', src'⟩ := k d hd
  exact ⟨e, he, data'.trans data, src'.trans src⟩

/-- The cells before cell `i` of frame `k` are linked to it: the last one, and before the second cell every head cell. -/
def State.linkedTo (s : State) (k i : Nat) (f : Frame) : State :=
  let s := match f.cells.getLast? with
    | some l => s.linkNext k l i
    | none => s
  if f.cells.length = 1 then f.heads.foldl (fun s e => match e.2 with | some h => s.linkNext k h i | none => s) s else s

theorem linkedTo_shows (s : State) (k i : Nat) (f : Frame) : (s.linkedTo k i f).frames = s.frames ∧ keepsData i s (s.linkedTo k i f) := by
  have kept : ∀ (v : State) (o : Option Nat), (match o with | some l => v.linkNext k l i | none => v).frames = v.frames ∧
      keepsData i v (match o with | some l => v.linkNext k l i | none => v) := fun v o => by
    cases o with
    | none => exact ⟨rfl, fun c hc => ⟨c, hc, rfl, rfl⟩⟩
    | some l => exact ⟨linkNext_frames _ _ _ _, keepsData_linkNext _ _ _ _ _⟩
  obtain ⟨frames, data⟩ := kept s f.cells.getLast?
  unfold State.linkedTo
  dsimp only
  split
  · refine List.foldlRecOn (motive := fun v : State => v.frames = s.frames ∧ keepsData i s v) _ _ ⟨frames, data⟩ fun v hv e _ => ?_
    obtain ⟨frames', data'⟩ := kept v e.2
    exact ⟨frames'.trans hv.1, keepsData_trans hv.2 data'⟩
  · exact ⟨frames, data⟩

/-- The cell that frame `k` writes next. -/
def State.nextWritten (s : State) (k : Nat) (f : Frame) : Cell :=
  { fid := k, data := ((stored f).drop (128 * f.cells.length)).take 128,
    ref := s.readers k f (if f.cells.length = 0 then some f.headCls else none),
    edit := if f.cells.length = 0 ∧ f.stage == .admitted then f.edits[f.headCls]? else none, src := f.src, pri := f.pri,
    counted := f.origin == .net }

theorem writeCell_eq {k i : Nat} {f : Frame} (h : s.frame k = some f) (complete : f.cells.length < completeCells f) (begun : f.cells.length < f.begun) :
    s.writeCell k i =
      if f.origin == .net then
        ((((s.setCell i (s.nextWritten k f)).linkedTo k i f).setFrame k (some { f with cells := f.cells ++ [i] })).inc F.PORT_OCC_PORT_OCC f.src).inc
          F.PORT_OCC_PRI_OCC f.src f.pri
      else ((s.setCell i (s.nextWritten k f)).linkedTo k i f).setFrame k (some { f with cells := f.cells ++ [i] }) := by
  unfold State.writeCell
  rw [h]
  exact if_pos ⟨complete, begun⟩

/-- A complete cell that is written is the frame's next one, and holds its next 128 bytes. -/
theorem writeCell_shows {k i : Nat} {f : Frame} (h : s.frame k = some f) (complete : f.cells.length < completeCells f) (begun : f.cells.length < f.begun) :
    (s.writeCell k i).frame k = some { f with cells := f.cells ++ [i] } ∧
    ∃ c, (s.writeCell k i).cell i = some c ∧ c.data = ((stored f).drop (128 * f.cells.length)).take 128 ∧ c.src = f.src := by
  have written : ((s.setCell i (s.nextWritten k f)).cell i) = some (s.nextWritten k f) := tabFind_insert_same _ _ _
  obtain ⟨c, hc, data, src⟩ := (linkedTo_shows (s.setCell i (s.nextWritten k f)) k i f).2 _ written
  rw [writeCell_eq h complete begun]
  generalize (s.setCell i (s.nextWritten k f)).linkedTo k i f = v at *
  have set : (v.setFrame k (some { f with cells := f.cells ++ [i] })).frame k = some { f with cells := f.cells ++ [i] } :=
    (frame_setFrame ..).trans (if_pos rfl)
  split
  · exact ⟨set, c, hc, data, src⟩
  · exact ⟨set, c, hc, data, src⟩

/-- What the write of a cell changes of the frames' records: cells only. -/
def CellsOnly (s t : State) : Prop := ∀ k f, s.frame k = some f → ∃ c h, t.frame k = some { f with cells := c, heads := h }

theorem CellsOnly.refl (s : State) : CellsOnly s s := fun _ f h => ⟨f.cells, f.heads, h⟩

theorem CellsOnly.trans (h : CellsOnly s t) (k : CellsOnly t u) : CellsOnly s u := fun j f hf => by
  obtain ⟨c, d, ht⟩ := h j f hf
  obtain ⟨c', d', hu⟩ := k j _ ht
  exact ⟨c', d', hu⟩

theorem CellsOnly.of_frames (h : t.frames = s.frames) : CellsOnly s t := fun _ f hf => ⟨f.cells, f.heads, (frame_of_frames h _).trans hf⟩

theorem CellsOnly.setFrame {k : Nat} {f : Frame} (h : s.frame k = some f) {v : State} (hv : v.frames = s.frames) (c : List Nat) (d : List (Nat × Option Nat)) :
    CellsOnly s (v.setFrame k (some { f with cells := c, heads := d })) := fun j g hg => by
  by_cases e : j = k
  · subst e
    obtain rfl : f = g := Option.some.inj (h.symm.trans hg)
    exact ⟨c, d, (frame_setFrame ..).trans (if_pos rfl)⟩
  · exact ⟨g.cells, g.heads, (frame_setFrame ..).trans ((if_neg e).trans ((frame_of_frames hv j).trans hg))⟩

theorem CellsOnly.writeCell (s : State) (k i : Nat) : CellsOnly s (s.writeCell k i) := by
  cases hf : s.frame k with
  | none =>
    rw [State.writeCell, hf]
    exact CellsOnly.refl s
  | some f =>
    by_cases h : f.cells.length < completeCells f ∧ f.cells.length < f.begun
    · rw [writeCell_eq hf h.1 h.2]
      have linked : ((s.setCell i (s.nextWritten k f)).linkedTo k i f).frames = s.frames := (linkedTo_shows _ _ _ _).1
      have set := CellsOnly.setFrame hf linked (f.cells ++ [i]) f.heads
      split
      · exact set.trans (CellsOnly.of_frames rfl)
      · exact set
    · unfold State.writeCell
      rw [hf]
      dsimp only
      rw [if_neg h]
      split
      · exact CellsOnly.refl s
      · exact CellsOnly.setFrame hf rfl f.cells _

theorem CellsOnly.writeSlot (s : State) : CellsOnly s s.writeSlot := by
  unfold State.writeSlot
  dsimp only
  refine List.foldlRecOn (motive := fun v : State => CellsOnly s v) _ _ (CellsOnly.of_frames rfl) fun v hv x _ => ?_
  refine hv.trans ?_
  have turned : CellsOnly v { v with swc := { v.swc with rrW := tabSet 0 v.swc.rrW x.1 ((x.2.1 + 1) % 5) } } := CellsOnly.of_frames rfl
  split
  · exact turned.trans (CellsOnly.writeCell _ _ _)
  · exact turned

/-- Bytes that arrive in a cycle are kept in order. -/
theorem does_cellWrite {p : Port} {pre : Bool} {b : List Byte} {k : Nat} {f : Frame} (h : s.receiving p pre k f b) :
    Does (.cellWrite [⟨p, pre, b⟩]) s fun t => ∃ g, t.frame k = some g ∧ g.rx = f.rx ++ b ∧ g.stage = f.stage ∧ g.drop = f.drop := by
  obtain ⟨fid, frame, stage, cap, fits, room⟩ := h
  have room' : cellsOf (f.rx.length + b.length) - f.begun ≤ (s.remote p b).get F.SWC_FREE_CELLS := by
    rw [State.get_of_regs (remote_regs ..)]
    exact room
  obtain ⟨c, grown⟩ := rxBytes_frame ((remote_frame ..).trans frame) stage cap fits room'
  have line : (s.lineBytes p pre b).frame k = some ((s.remote p b).grown f b c) := by
    rw [lineBytes_eq fid]
    exact grown
  have written : CellsOnly (s.lineBytes p pre b) (s.cellWrite [(p.val, pre, b)]) := by
    unfold State.cellWrite
    dsimp only [List.foldl_cons, List.foldl_nil]
    split
    · exact CellsOnly.refl _
    · exact CellsOnly.writeSlot _
  obtain ⟨d, e, last⟩ := written k _ line
  refine does_of (u := s.cellWrite [(p.val, pre, b)]) rfl ⟨_, (frame_of_frames (settled_frames ..) k).trans last, rfl, rfl, rfl⟩


end Sys2Proof.Machine
end

section
set_option Elab.async false
/-! PROOFS. A frame that exceeds MAXLEN (03_ports_and_macs.md R86, R222). -/

namespace Sys2Proof.Machine

variable {s t u : State}

/-! ## Copies that are cut short (R222) -/

/-- What is stored of every frame stays; the records change in what further bytes they may store. -/
def CapsOnly (s t : State) : Prop :=
  ∀ k f, s.frame k = some f → ∃ c, t.frame k = some { f with cap := c } ∧ min f.rx.length c = min f.rx.length f.cap

theorem CapsOnly.refl (s : State) : CapsOnly s s := fun _ f h => ⟨f.cap, h, rfl⟩

theorem CapsOnly.trans (h : CapsOnly s t) (k : CapsOnly t u) : CapsOnly s u := fun j f hf => by
  obtain ⟨c, ht, hc⟩ := h j f hf
  obtain ⟨d, hu, hd⟩ := k j _ ht
  exact ⟨d, hu, hd.trans hc⟩

theorem CapsOnly.of_frames (h : t.frames = s.frames) : CapsOnly s t := fun _ f hf => ⟨f.cap, (frame_of_frames h _).trans hf, rfl⟩

/-- No more than the bytes received need be stored. -/
theorem CapsOnly.modFrame (s : State) (k : Nat) {g : Frame → Frame} (hg : ∀ f, g f = f ∨ g f = { f with cap := min f.cap f.rx.length }) :
    CapsOnly s (s.modFrame k g) := fun j f hf => by
  by_cases e : j = k
  · subst e
    rw [frame_modFrame_same hf]
    rcases hg f with h | h
    · exact ⟨f.cap, congrArg some h, rfl⟩
    · exact ⟨_, congrArg some h, by omega⟩
  · exact ⟨f.cap, (frame_modFrame_other e).trans hf, rfl⟩

theorem txRelease_frames (s : State) (x : Tx) : (s.txRelease x).frames = s.frames := by
  unfold State.txRelease
  split
  · rfl
  · split
    · rfl
    · exact releaseRefs_frames _ _ _

theorem CapsOnly.stompTx (s : State) (p i n : Nat) (mem : Bool) : CapsOnly s (s.stompTx p i n mem) := by
  unfold State.stompTx
  split
  · exact refl s
  · next x _ =>
    split
    · exact refl s
    · dsimp only
      have released := of_frames (txRelease_frames s x)
      generalize s.txRelease x = v at released ⊢
      have cut : CapsOnly v (v.txSet p i (some { x with cut := some n, copy := { x.copy with nread := 1000 } })) := of_frames rfl
      generalize v.txSet p i (some { x with cut := some n, copy := { x.copy with nread := 1000 } }) = w at cut ⊢
      have idle : CapsOnly w (if i = 2 ∨ i = 3 ∨ ((w.txGet p 2).isNone ∧ (w.txGet p 3).isNone) then w.setPort p { w.port p with laneFree := none } else w) := by
        split
        · exact of_frames rfl
        · exact refl w
      generalize (if i = 2 ∨ i = 3 ∨ ((w.txGet p 2).isNone ∧ (w.txGet p 3).isNone) then w.setPort p { w.port p with laneFree := none } else w) = y
        at idle ⊢
      refine ((released.trans cut).trans idle).trans (trans (modFrame y x.copy.fid fun f => ?_) (of_frames (State.evt_frames ..)))
      split
      · exact Or.inr rfl
      · exact Or.inl rfl

theorem CapsOnly.stompFrame (s : State) (k n : Nat) (mem : Bool) : CapsOnly s (s.stompFrame k n mem) := by
  unfold State.stompFrame
  refine List.foldlRecOn (motive := fun v => CapsOnly s v) _ _ (refl s) fun v hv p _ => ?_
  refine List.foldlRecOn (motive := fun w => CapsOnly s w) _ _ hv fun w hw i _ => ?_
  split
  · exact hw.trans (stompTx _ _ _ _ _)
  · exact hw

/-! ## Byte MAXLEN + 1 (R86) -/

/-- The record of a frame that has exceeded MAXLEN. -/
def oversized (f : Frame) : Frame := { f with flags := f.flags + 4, bad := true }

theorem oversize_frame {k : Nat} {f : Frame} (h : s.frame k = some f) (long : f.maxlen < f.rx.length) (first : f.flags.testBit 2 = false) :
    ∃ c, (s.oversize k).frame k = some { oversized f with cap := c } ∧ min f.rx.length c = min f.rx.length f.cap := by
  have eq : s.oversize k = (s.setFrame k (some (oversized f))).stompFrame k f.maxlen false := by
    unfold State.oversize
    rw [h]
    exact if_pos ⟨long, first⟩
  rw [eq]
  exact CapsOnly.stompFrame _ k f.maxlen false k (oversized f) ((frame_setFrame ..).trans (if_pos rfl))

theorem does_oversizeTruncate {p : Port} {pre : Bool} {b : List Byte} {k : Nat} {f : Frame} (fid : s.rxFid p pre = some k) (frame : s.frame k = some f)
    (stage : f.stage = .arriving) (cap : f.cap = f.maxlen) (first : f.flags.testBit 2 = false) (long : f.maxlen < f.rx.length + b.length)
    (room : cellsOf f.maxlen - f.begun ≤ s.get F.SWC_FREE_CELLS) : Does (.oversizeTruncate p pre b) s fun t =>
      ∃ g, t.frame k = some g ∧ g.bad = true ∧ g.flags.testBit 2 = true ∧ g.rx = f.rx ++ b ∧ storedLen g = f.maxlen := by
  have room' : cellsOf (min (f.rx.length + b.length) f.cap) - f.begun ≤ (s.remote p b).get F.SWC_FREE_CELLS := by
    rw [State.get_of_regs (remote_regs ..), cap, min_eq_right long.le]
    exact room
  obtain ⟨n, taken⟩ := takeBytes_frame ((remote_frame s p b k).trans frame) room'
  have length : ((s.remote p b).grown f b n).rx.length = f.rx.length + b.length := List.length_append ..
  obtain ⟨c, over_, stored⟩ := oversize_frame taken (long.trans_eq length.symm) first
  have unjudged : (((s.remote p b).takeBytes k b).oversize k).sduExceeds { oversized ((s.remote p b).grown f b n) with cap := c } = false :=
    sduExceeds_arriving stage
  have line : (s.lineBytes p pre b).frame k = some { oversized ((s.remote p b).grown f b n) with cap := c } := by
    rw [lineBytes_eq fid]
    unfold State.rxBytes
    dsimp only
    rw [over_]
    dsimp only
    rw [unjudged]
    exact over_
  refine does_of (u := s.lineBytes p pre b) rfl ⟨_, (frame_of_frames (settled_frames ..) k).trans line, rfl, ?_, rfl, ?_⟩
  · show (f.flags + 4).testBit 2 = true
    have flip := Nat.testBit_two_pow_add_eq f.flags 2
    rw [Nat.add_comm, first] at flip
    exact flip
  · refine stored.trans ?_
    rw [length]
    show min (f.rx.length + b.length) f.cap = f.maxlen
    rw [cap, min_eq_right long.le]

/-! ## The statement -/

/-- Settles O30: a frame's record begins empty with its stamp, grows by the bytes that arrive, and only its cells change as they are written. -/
theorem frameBegins : Obligations.FrameBegins := by
  refine ⟨fun s p sub open_ awake => ⟨does_ingressExpress open_ awake, does_ingressBusy open_ awake, does_ingressPreemptable open_ awake⟩, ?_, ?_, ?_⟩
  · exact fun s p pre b k f h => does_cellWrite h
  · exact fun s p pre b k f fid frame stage cap first long room => does_oversizeTruncate fid frame stage cap first long room
  · exact fun s k i f frame complete begun => writeCell_shows frame complete begun

end Sys2Proof.Machine
end

section
set_option Elab.async false
/-! PROOFS. The DMA engine: the states of a channel and the commands that move it (16_dma_and_buffer_pools.md R478, R483). -/

namespace Sys2Proof.Machine

section
variable (s : State) {n st cause : Nat}

theorem chState_setChState (hs : st < 8) : (s.setChState n st cause).chState n = st := by
  rw [State.setChState, State.chState, State.putBit, State.get_put_free _ (by decide), State.get_put_beside _ (by decide),
    State.get_put_beside _ (by decide), State.get_put_fits _ (by decide) hs]

theorem cause_setChState (hc : cause < 8) : (s.setChState n st cause).get F.DMA_CH_STAT_CAUSE n = cause := by
  rw [State.setChState, State.putBit, State.get_put_free _ (by decide), State.get_put_fits _ (by decide) hc]

theorem enable_setChState : (s.setChState n st cause).bit F.DMA_CH_STAT_ENABLE n = (st != chIDLE) := by
  rw [State.setChState, State.putBit, State.bit_put_free _ (by decide), State.bit_put_beside _ (by decide)]
  by_cases h : st = chIDLE
  · rw [if_pos h, State.bit_put_zero _ (by decide), h]
    rfl
  · rw [if_neg h, State.bit_put_one _ (by decide) (by decide)]
    exact (bne_iff_ne.2 h).symm

theorem active_setChState (hn : n < 16) :
    ((s.setChState n st cause).get F.DMA_STAT_ACTIVE).testBit n = (st == chRUN || st == chPAUSING) := by
  rw [State.setChState, testBit_putBit _ (by decide) _ 0 0 hn hn, if_pos rfl]

theorem setChState_keeps {l : List Nat} {t : State} (h : s.keepsRegs t l) (own : R.DMA_CH_STAT.off n 0 ∈ l) (all : R.DMA_STAT.base ∈ l) :
    s.keepsRegs (t.setChState n st cause) l :=
  State.keepsRegs_put (State.keepsRegs_put (State.keepsRegs_put (State.keepsRegs_put h _ _ _ _ own) _ _ _ _ own) _ _ _ _ own) _ _ _ _ all

theorem setChState_onlyRegs {t : State} (h : s.onlyRegs t) : s.onlyRegs (t.setChState n st cause) :=
  State.onlyRegs_put (State.onlyRegs_put (State.onlyRegs_put (State.onlyRegs_put h _ _ _ _) _ _ _ _) _ _ _ _) _ _ _ _

theorem get_setChState {f : Fld} (own : free f.reg R.DMA_CH_STAT = true) (all : free f.reg R.DMA_STAT = true) (i j : Nat) :
    (s.setChState n st cause).get f i j = s.get f i j := by
  rw [State.setChState, State.putBit, State.get_put_free _ all, State.get_put_free _ own, State.get_put_free _ own, State.get_put_free _ own]

theorem setChState_dma : (s.setChState n st cause).dma = s.dma := rfl

theorem settled_chState (b : State) : (settled b s).chState n = s.chState n := settled_get_free _ _ (by decide) _ _

theorem State.dch_setDch (c : DmaCh) : (s.setDch n c).dch n = c := tabGet_set_same ..

theorem State.dch_setDch_other {m : Nat} (h : m ≠ n) (c : DmaCh) : (s.setDch n c).dch m = s.dch m := tabGet_set_other _ _ _ h _

theorem State.dch_of_dma {t : State} (h : t.dma = s.dma) (m : Nat) : t.dch m = s.dch m := by rw [State.dch, State.dch, h]

theorem settled_dch (b : State) : (settled b s).dch n = s.dch n := State.dch_of_dma _ (settled_dma b s) n

end

/-! ## Completions (R477, R481) -/

/-- HEAD and the counts of a completion. -/
def State.tallied (s : State) (n status : Nat) : State :=
  let s := s.put F.DMA_CH_HEAD_HEAD (s.get F.DMA_CH_HEAD_HEAD n + 1) n
  let s := (s.inc F.DMA_CH_DESC_CNT_COUNT n).put F.DMA_CH_CUR_BYTES 0 n
  if status ≠ 0 then s.inc F.DMA_CH_ERR_CNT_COUNT n else s

/-- The events of a completion. -/
def State.announced (s : State) (n status : Nat) (irq : Bool) : State :=
  if status ≠ 0 ∧ irq = true then s.evt2 F.DMA_CH_EVT_DESC_DONE F.DMA_CH_EVT_DESC_ERR n
  else if status ≠ 0 then s.evt F.DMA_CH_EVT_DESC_ERR n
  else if irq then s.evt F.DMA_CH_EVT_DESC_DONE n
  else s

section
variable (s : State) {n : Nat} (status : Nat) (irq : Bool)

theorem completed_eq : s.completed n status irq = (s.tallied n status).announced n status irq := rfl

theorem get_announced {f : Fld} (h : free f.reg R.DMA_CH_EVT = true) (i j : Nat) : (s.announced n status irq).get f i j = s.get f i j := by
  unfold State.announced
  split_ifs
  · rw [State.evt2, State.get_put_free _ h, State.get_evt_free _ h]
  · rw [State.get_evt_free _ h]
  · rw [State.get_evt_free _ h]
  · rfl

theorem announced_keeps {l : List Nat} {t : State} (h : s.keepsRegs t l) (hl : R.DMA_CH_EVT.off n 0 ∈ l) :
    s.keepsRegs (t.announced n status irq) l := by
  unfold State.announced
  split_ifs
  · exact State.keepsRegs_put (State.keepsRegs_evt h _ _ _ hl) _ _ _ _ hl
  · exact State.keepsRegs_evt h _ _ _ hl
  · exact State.keepsRegs_evt h _ _ _ hl
  · exact h

theorem announced_done : (s.announced n status true).bit F.DMA_CH_EVT_DESC_DONE n = true := by
  unfold State.announced
  by_cases h : status ≠ 0
  · rw [if_pos ⟨h, rfl⟩, State.evt2, State.bit_put_beside _ (by decide), State.bit_evt_same _ _ _ _ (by decide) (by decide)]
  · rw [if_neg (fun c => h c.1), if_neg h, if_pos rfl, State.bit_evt_same _ _ _ _ (by decide) (by decide)]

theorem announced_failed (h : status ≠ 0) : (s.announced n status irq).bit F.DMA_CH_EVT_DESC_ERR n = true := by
  unfold State.announced
  cases irq with
  | true => rw [if_pos ⟨h, rfl⟩, State.evt2, State.bit_put_one _ (by decide) (by decide)]
  | false => rw [if_neg (fun c => Bool.noConfusion c.2), if_pos h, State.bit_evt_same _ _ _ _ (by decide) (by decide)]

theorem announced_dma : (s.announced n status irq).dma = s.dma := by
  unfold State.announced
  split_ifs <;> simp

theorem announced_out : (s.announced n status irq).out = s.out := by
  unfold State.announced
  split_ifs <;> simp

theorem get_tallied {f : Fld} (head : free f.reg R.DMA_CH_HEAD = true) (cnt : free f.reg R.DMA_CH_DESC_CNT = true)
    (cur : free f.reg R.DMA_CH_CUR = true) (err : free f.reg R.DMA_CH_ERR_CNT = true) (i j : Nat) :
    (s.tallied n status).get f i j = s.get f i j := by
  unfold State.tallied
  extract_lets u v
  have h : v.get f i j = s.get f i j := by rw [State.get_put_free _ cur, State.get_inc_free _ cnt, State.get_put_free _ head]
  split_ifs
  · rw [State.get_inc_free _ err, h]
  · exact h

theorem tallied_head : (s.tallied n status).get F.DMA_CH_HEAD_HEAD n = (s.get F.DMA_CH_HEAD_HEAD n + 1) % 2 ^ 16 := by
  unfold State.tallied
  extract_lets u v
  have h : v.get F.DMA_CH_HEAD_HEAD n = (s.get F.DMA_CH_HEAD_HEAD n + 1) % 2 ^ 16 := by
    rw [State.get_put_free _ (by decide), State.get_inc_free _ (by decide), State.get_put_same _ _ _ _ _ (by decide)]
    rfl
  split_ifs
  · rw [State.get_inc_free _ (by decide), h]
  · exact h

theorem tallied_count : (s.tallied n status).get F.DMA_CH_DESC_CNT_COUNT n = min (s.get F.DMA_CH_DESC_CNT_COUNT n + 1) (2 ^ 32 - 1) := by
  unfold State.tallied
  extract_lets u v
  have width : F.DMA_CH_DESC_CNT_COUNT.width = 32 := rfl
  have h : v.get F.DMA_CH_DESC_CNT_COUNT n = min (s.get F.DMA_CH_DESC_CNT_COUNT n + 1) (2 ^ 32 - 1) := by
    rw [State.get_put_free _ (by decide), State.get_inc_same _ _ _ _ _ (by decide), State.get_put_free _ (by decide), width]
  split_ifs
  · rw [State.get_inc_free _ (by decide), h]
  · exact h

theorem tallied_keeps {l : List Nat} {t : State} (h : s.keepsRegs t l) (head : R.DMA_CH_HEAD.off n 0 ∈ l) (cnt : R.DMA_CH_DESC_CNT.off n 0 ∈ l)
    (cur : R.DMA_CH_CUR.off n 0 ∈ l) (err : R.DMA_CH_ERR_CNT.off n 0 ∈ l) : s.keepsRegs (t.tallied n status) l := by
  unfold State.tallied
  extract_lets u v
  have hv : s.keepsRegs v l :=
    State.keepsRegs_put (State.keepsRegs_put (State.keepsRegs_put h _ _ _ _ head) _ _ _ _ cnt) _ _ _ _ cur
  split_ifs
  · exact State.keepsRegs_put hv _ _ _ _ err
  · exact hv

theorem tallied_dma : (s.tallied n status).dma = s.dma := by
  unfold State.tallied
  extract_lets u v
  split_ifs <;> rfl

theorem tallied_out : (s.tallied n status).out = s.out := by
  unfold State.tallied
  extract_lets u v
  split_ifs <;> rfl

theorem completed_head : (s.completed n status irq).get F.DMA_CH_HEAD_HEAD n = (s.get F.DMA_CH_HEAD_HEAD n + 1) % 2 ^ 16 := by
  rw [completed_eq, get_announced _ _ _ (by decide), tallied_head]

theorem completed_count :
    (s.completed n status irq).get F.DMA_CH_DESC_CNT_COUNT n = min (s.get F.DMA_CH_DESC_CNT_COUNT n + 1) (2 ^ 32 - 1) := by
  rw [completed_eq, get_announced _ _ _ (by decide), tallied_count]

theorem completed_chState (m : Nat) : (s.completed n status irq).chState m = s.chState m := by
  rw [completed_eq, State.chState, get_announced _ _ _ (by decide), get_tallied _ _ (by decide) (by decide) (by decide) (by decide)]
  rfl

theorem completed_dma : (s.completed n status irq).dma = s.dma := by rw [completed_eq, announced_dma, tallied_dma]

theorem completed_out : (s.completed n status irq).out = s.out := by rw [completed_eq, announced_out, tallied_out]

theorem completed_keeps {l : List Nat} {t : State} (h : s.keepsRegs t l) (head : R.DMA_CH_HEAD.off n 0 ∈ l) (cnt : R.DMA_CH_DESC_CNT.off n 0 ∈ l)
    (cur : R.DMA_CH_CUR.off n 0 ∈ l) (err : R.DMA_CH_ERR_CNT.off n 0 ∈ l) (evts : R.DMA_CH_EVT.off n 0 ∈ l) :
    s.keepsRegs (t.completed n status irq) l := by
  rw [completed_eq]
  exact announced_keeps _ _ _ (tallied_keeps _ _ h head cnt cur err) evts

end

/-! ## Commands -/

section
variable {s : State} {h : HostId} {n : Fin 16}

/-- A write of DMA_CHn_CTRL that is let through carries out its command. -/
theorem does_dmaCommand {c : Instr} {op : Nat} {P : State → Prop} (hop : getBits (word op) 2 0 = op)
    (he : exec c s = finish s (s.rowWrite (hostNum h) R.DMA_CH_CTRL n.val 0 (word op))) (ho : s.opens h R.DMA_CH_CTRL n 0 = true)
    (hp : P (settled s (s.dmaCommand n op))) : Does c s P := by
  have write : s.regWrite (hostNum h) R.DMA_CH_CTRL n.val 0 15 (word op) = ([], s.dmaCommand n op) := by
    conv_rhs => rw [← hop]
    rfl
  exact does_rowWrite_own he ho (by decide) write hp

/-- The state after an owed write-back has been issued. -/
def State.paid (s : State) (n : Nat) (d : BitVec 256) (st info : Nat) : State :=
  let u := ((s.writeBack n st info none).completed n st (db d 156 156 == 1)).put F.DMA_CH_STAT_COMMITTED 0 n
  u.setDch n { u.dch n with owed := none }

theorem payOwed_none {m : Nat} (t : State) (ho : (t.dch m).owed = none) : t.payOwed m = t := by
  rw [State.payOwed, ho]

theorem payOwed_some {m : Nat} {t : State} {d : BitVec 256} {st info : Nat} (ho : (t.dch m).owed = some (d, st, info)) :
    t.payOwed m = t.paid m d st info := by
  simp only [State.payOwed, ho]
  rfl

theorem does_dmaStart (ho : s.opens h R.DMA_CH_CTRL n 0 = true) (idle : s.chState n = chIDLE) (mode : 14 ≤ n.val ∨ s.chMode n ≠ 3)
    (owed : (s.dch n).owed = none) : Does (.dmaStart h n) s fun t =>
      t.chState n = chRUN ∧ t.bit F.DMA_CH_STAT_ENABLE n = true ∧ (t.get F.DMA_STAT_ACTIVE).testBit n = true ∧ t.get F.DMA_CH_CUR_BYTES n = 0 ∧
      s.keepsRegs t [R.DMA_CH_STAT.off n 0, R.DMA_STAT.base, R.DMA_CH_CUR.off n 0] ∧ s.onlyRegs t := by
  have run : s.dmaCommand n 1 = (s.setChState n chRUN 0).put F.DMA_CH_CUR_BYTES 0 n := by
    rw [State.dmaCommand, if_pos idle, if_pos ⟨rfl, mode⟩]
    dsimp only
    rw [payOwed_none (s.setChState n chRUN 0) owed]
  refine does_dmaCommand (op := 1) rfl rfl ho ?_
  rw [run]
  refine ⟨?_, ?_, ?_, ?_, settled_keeps _ _ _ ?_, settled_onlyRegs ?_⟩
  · rw [settled_chState, State.chState, State.get_put_free _ (by decide)]
    exact chState_setChState s (by decide)
  · rw [settled_bit_free _ _ (by decide), State.bit_put_free _ (by decide), enable_setChState]
    rfl
  · rw [settled_get_free _ _ (by decide), State.get_put_free _ (by decide), active_setChState s n.isLt]
    rfl
  · rw [settled_get_free _ _ (by decide), State.get_put_fits _ (by decide) (by decide)]
  · exact State.keepsRegs_put (setChState_keeps s (State.keepsRegs_refl _) (by simp) (by simp)) F.DMA_CH_CUR_BYTES _ _ _ (List.mem_cons_of_mem _ (List.mem_cons_of_mem _ List.mem_cons_self))
  · exact State.onlyRegs_put (setChState_onlyRegs s State.onlyRegs_refl) _ _ _ _

theorem does_dmaStart_owed {d : BitVec 256} {st info : Nat} (ho : s.opens h R.DMA_CH_CTRL n 0 = true) (idle : s.chState n = chIDLE)
    (mode : 14 ≤ n.val ∨ s.chMode n ≠ 3) (owed : (s.dch n).owed = some (d, st, info)) : Does (.dmaStart h n) s fun t =>
      t.chState n = chRUN ∧ t.bit F.DMA_CH_STAT_COMMITTED n = false ∧ (t.dch n).owed = none ∧
        t.get F.DMA_CH_HEAD_HEAD n = (s.get F.DMA_CH_HEAD_HEAD n + 1) % 2 ^ 16 ∧
        t.out = s.out ++ [.hostWrite (s.chHost n) (s.ringBase n + 32 * s.ringHead n + 28) (leBytes 4 (cmplWord st info))] := by
  have run : s.dmaCommand n 1 = ((s.setChState n chRUN 0).paid n d st info).put F.DMA_CH_CUR_BYTES 0 n := by
    rw [State.dmaCommand, if_pos idle, if_pos ⟨rfl, mode⟩]
    dsimp only
    rw [payOwed_some (t := s.setChState n chRUN 0) owed]
  refine does_dmaCommand (op := 1) rfl rfl ho ?_
  rw [run]
  have host : (s.setChState n chRUN 0).chHost n = s.chHost n := by
    rw [State.chHost, get_setChState _ (by decide) (by decide), get_setChState _ (by decide) (by decide)]
    rfl
  have base : (s.setChState n chRUN 0).ringBase n = s.ringBase n := by
    rw [State.ringBase, get_setChState _ (by decide) (by decide), get_setChState _ (by decide) (by decide)]
    rfl
  have head : (s.setChState n chRUN 0).get F.DMA_CH_HEAD_HEAD n = s.get F.DMA_CH_HEAD_HEAD n := get_setChState _ (by decide) (by decide) _ _
  have place : (s.setChState n chRUN 0).ringHead n = s.ringHead n := by
    rw [State.ringHead, State.ringSize, head, get_setChState _ (by decide) (by decide)]
    rfl
  have running : (s.setChState n chRUN 0).chState n = chRUN := chState_setChState s (by decide)
  have out : (s.setChState n chRUN 0).out = s.out := rfl
  generalize s.setChState n chRUN 0 = v at *
  refine ⟨?_, ?_, ?_, ?_, ?_⟩
  · rw [settled_chState, State.chState, State.get_put_free _ (by decide)]
    exact (State.get_put_beside _ (by decide) _ _ _).trans ((completed_chState _ _ _ _).trans running)
  · rw [settled_bit_free _ _ (by decide), State.bit_put_free _ (by decide)]
    exact State.bit_put_zero _ (by decide) _ _
  · rw [settled_dch]
    exact congrArg DmaCh.owed (State.dch_setDch _ _)
  · rw [settled_get_free _ _ (by decide), State.get_put_free _ (by decide)]
    exact (State.get_put_free _ (by decide) _ _ _ _ _).trans ((completed_head _ _ _).trans (by rw [← head]; rfl))
  · rw [settled_out, ← out, ← host, ← base, ← place]
    exact completed_out ..

/-- What a command that its channel's state does not permit leaves: the event (R478). -/
theorem cfgErr_shows (s : State) (n : Nat) : (settled s (s.evt F.DMA_CH_EVT_CFG_ERR n)).bit F.DMA_CH_EVT_CFG_ERR n = true ∧
    s.keepsRegs (settled s (s.evt F.DMA_CH_EVT_CFG_ERR n)) [R.DMA_CH_EVT.off n 0] ∧ s.onlyRegs (settled s (s.evt F.DMA_CH_EVT_CFG_ERR n)) :=
  ⟨by rw [settled_bit_free _ _ (by decide), State.bit_evt_same _ _ _ _ (by decide) (by decide)],
    settled_keeps _ _ _ (State.keepsRegs_evt (State.keepsRegs_refl _) _ _ _ List.mem_cons_self), settled_onlyRegs (State.onlyRegs_evt State.onlyRegs_refl _ _ _)⟩

/-- What a change of a channel's state alone leaves. -/
theorem setChState_shows (s : State) (n : Nat) {st : Nat} (hst : st < 8) : (settled s (s.setChState n st 0)).chState n = st ∧
    s.keepsRegs (settled s (s.setChState n st 0)) [R.DMA_CH_STAT.off n 0, R.DMA_STAT.base] ∧ s.onlyRegs (settled s (s.setChState n st 0)) :=
  ⟨by rw [settled_chState, chState_setChState _ hst],
    settled_keeps _ _ _ (setChState_keeps _ (State.keepsRegs_refl _) (by simp) (by simp)), settled_onlyRegs (setChState_onlyRegs _ State.onlyRegs_refl)⟩

theorem does_dmaStart_refused (ho : s.opens h R.DMA_CH_CTRL n 0 = true) (stopped : s.chState n = chSTOPPED)
    (cause : s.get F.DMA_CH_STAT_CAUSE n = 2) (valid : s.bit F.DMA_ERR_VALID = true) : Does (.dmaStart h n) s fun t =>
      t.bit F.DMA_CH_EVT_CFG_ERR n = true ∧ s.keepsRegs t [R.DMA_CH_EVT.off n 0] ∧ s.onlyRegs t := by
  have run : s.dmaCommand n 1 = s.evt F.DMA_CH_EVT_CFG_ERR n := by
    simp only [State.dmaCommand, stopped, cause, valid]
    rfl
  refine does_dmaCommand (op := 1) rfl rfl ho ?_
  rw [run]
  exact cfgErr_shows s n

theorem does_dmaPause (ho : s.opens h R.DMA_CH_CTRL n 0 = true) (running : s.chState n = chRUN) : Does (.dmaPause h n) s fun t =>
    t.chState n = chPAUSING ∧ s.keepsRegs t [R.DMA_CH_STAT.off n 0, R.DMA_STAT.base] ∧ s.onlyRegs t := by
  have run : s.dmaCommand n 2 = s.setChState n chPAUSING 0 := by
    simp only [State.dmaCommand, running]
    rfl
  refine does_dmaCommand (op := 2) rfl rfl ho ?_
  rw [run]
  exact setChState_shows s n (by decide)

/-- PAUSE of a channel that is not in RUN is refused. -/
theorem dmaCommand_pause (s : State) (n : Nat) (running : s.chState n ≠ chRUN) : s.dmaCommand n 2 = s.evt F.DMA_CH_EVT_CFG_ERR n := by
  unfold State.dmaCommand
  dsimp only
  rw [if_neg running]
  simp

theorem does_dmaPause_refused (ho : s.opens h R.DMA_CH_CTRL n 0 = true) (running : s.chState n ≠ chRUN) : Does (.dmaPause h n) s fun t =>
    t.bit F.DMA_CH_EVT_CFG_ERR n = true ∧ s.keepsRegs t [R.DMA_CH_EVT.off n 0] ∧ s.onlyRegs t := by
  refine does_dmaCommand (op := 2) rfl rfl ho ?_
  rw [dmaCommand_pause s n running]
  exact cfgErr_shows s n

/-- A channel whose first descriptor has been judged, or that has none in hand, judges nothing. -/
theorem chJudge_same (t : State) (n : Nat) (hn : (t.dch n).started = true ∨ (t.dch n).descs = []) : t.chJudge n = t := by
  unfold State.chJudge
  dsimp only
  split
  · rfl
  next d l hd =>
    rcases hn with started | none
    · exact if_pos (by rw [started]; rfl)
    · rw [none] at hd
      cases hd

theorem does_dmaResume (ho : s.opens h R.DMA_CH_CTRL n 0 = true) (paused : s.chState n = chPAUSED)
    (hn : (s.dch n).started = true ∨ (s.dch n).descs = []) : Does (.dmaResume h n) s fun t => t.chState n = chRUN ∧
      s.keepsRegs t [R.DMA_CH_STAT.off n 0, R.DMA_STAT.base] ∧ s.onlyRegs t := by
  have run : s.dmaCommand n 3 = (s.setChState n chRUN 0).chJudge n := by
    simp only [State.dmaCommand, paused]
    rfl
  refine does_dmaCommand (op := 3) rfl rfl ho ?_
  rw [run, chJudge_same (s.setChState n chRUN 0) n hn]
  exact setChState_shows s n (by decide)

theorem does_dmaPaused (pausing : s.chState n = chPAUSING) : Does (.dmaPaused n) s fun t => t.chState n = chPAUSED ∧
    t.bit F.DMA_CH_EVT_PAUSED n = true ∧ s.keepsRegs t [R.DMA_CH_STAT.off n 0, R.DMA_STAT.base, R.DMA_CH_EVT.off n 0] ∧ s.onlyRegs t := by
  have run : exec (.dmaPaused n) s = finish s (s.chPaused n) := rfl
  rw [State.chPaused, if_pos pausing] at run
  refine does_of run ⟨?_, ?_, settled_keeps _ _ _ ?_, settled_onlyRegs ?_⟩
  · rw [settled_chState, State.chState, State.get_evt_free _ (by decide)]
    exact chState_setChState s (by decide)
  · rw [settled_bit_free _ _ (by decide), State.bit_evt_same _ _ _ _ (by decide) (by decide)]
  · exact State.keepsRegs_evt (setChState_keeps _ (State.keepsRegs_refl _) (by simp) (by simp)) F.DMA_CH_EVT_PAUSED _ _
      (List.mem_cons_of_mem _ (List.mem_cons_of_mem _ List.mem_cons_self))
  · exact State.onlyRegs_evt (setChState_onlyRegs _ State.onlyRegs_refl) _ _ _

theorem does_dmaTailWrite {tail : BitVec 16} (ho : s.opens h R.DMA_CH_TAIL n 0 = true) : Does (.dmaTailWrite h n tail) s fun t =>
    t.get F.DMA_CH_TAIL_TAIL n = tail.toNat ∧ s.keepsRegs t [R.DMA_CH_TAIL.off n 0] ∧ s.onlyRegs t := by
  have write : s.regWrite (hostNum h) R.DMA_CH_TAIL n.val 0 15 (word tail.toNat) =
      ([], s.setReg R.DMA_CH_TAIL (plainWord R.DMA_CH_TAIL (s.reg R.DMA_CH_TAIL n.val 0) (word tail.toNat)) n.val 0) :=
    Eq.trans (b := s.plainWrite R.DMA_CH_TAIL n.val 0 (word tail.toNat)) rfl (plainWrite_open (by decide) _)
  have mask : accMask R.DMA_CH_TAIL (fun a => a == .rw) = bitMask 15 0 := by decide
  have whole : clampWord R.DMA_CH_TAIL (word tail.toNat) = word tail.toNat := rfl
  refine does_rowWrite_own rfl ho (by decide) write ⟨?_, settled_keeps _ _ _ ?_, settled_onlyRegs ?_⟩
  · rw [settled_get_free _ _ (by decide)]
    refine (State.get_setReg_same _ F.DMA_CH_TAIL_TAIL _ _ _).trans ?_
    rw [plainWord, mask, whole]
    have lt := tail.isLt
    refine (getBits_merge_bitMask _ _ 15 0 (by decide)).trans ?_
    rw [getBits_word]
    omega
  · exact State.keepsRegs_setReg (State.keepsRegs_refl _) _ _ _ _ (by simp)
  · exact State.onlyRegs_setReg State.onlyRegs_refl _ _ _ _

end

/-! ## STOP (R478, R493) -/

/-- From `s` to `t` host commands of the buffer pools have ended: the pools change, and no register but BPM_CMD_STAT. -/
structure CommandsEnded (s t : State) : Prop where
  dma : t.dma = s.dma
  get : ∀ f : Fld, free f.reg R.BPM_CMD_STAT = true → ∀ i j, t.get f i j = s.get f i j
  keeps : s.keepsRegs t [R.BPM_CMD_STAT.off 0 0, R.BPM_CMD_STAT.off 1 0]

section
variable {s t u : State}

theorem CommandsEnded.refl : CommandsEnded s s := ⟨rfl, fun _ _ _ _ => rfl, State.keepsRegs_refl _⟩

theorem CommandsEnded.trans (h : CommandsEnded s t) (k : CommandsEnded t u) : CommandsEnded s u :=
  ⟨k.dma.trans h.dma, fun f hf i j => (k.get f hf i j).trans (h.get f hf i j), State.keepsRegs_trans h.keeps k.keeps⟩

theorem CommandsEnded.setPool (k : Nat) (p : Pool) : CommandsEnded s (s.setPool k p) := ⟨rfl, fun _ _ _ _ => rfl, fun _ _ _ _ => rfl⟩

theorem CommandsEnded.status {host : Nat} (hh : host < 2) (st : Nat) : CommandsEnded s (s.bpmStatus host st) := by
  have here : R.BPM_CMD_STAT.off host 0 ∈ [R.BPM_CMD_STAT.off 0 0, R.BPM_CMD_STAT.off 1 0] := by
    rcases (by omega : host = 0 ∨ host = 1) with rfl | rfl <;> simp
  exact ⟨rfl, fun f hf i j => get_bpmStatus s hf st i j,
    State.keepsRegs_put (State.keepsRegs_put (State.keepsRegs_refl _) _ _ _ _ here) _ _ _ _ here⟩

theorem CommandsEnded.waitsRetry : CommandsEnded s s.waitsRetry := by
  unfold State.waitsRetry
  refine List.foldlRecOn (motive := fun v => CommandsEnded s v) _ _ CommandsEnded.refl fun v hv k _ => hv.trans ?_
  extract_lets p mine v'
  refine List.foldlRecOn (motive := fun x => CommandsEnded v x) _ _ (CommandsEnded.setPool _ _) fun x hx w hw => hx.trans ?_
  have host : w.2 = 1 ∨ w.2 = 2 := by simpa using (List.mem_filter.1 hw).2
  exact CommandsEnded.status (by omega) _

end

section
variable {s : State} {h : HostId} {n : Fin 16}

/-- A channel that has no uncommitted frame drops none. -/
theorem dropPartial_same (t : State) (n : Nat) (hn : (t.dch n).fid = none ∨ (t.dch n).committed = true) : t.dropPartial n = t := by
  unfold State.dropPartial
  dsimp only
  split
  next k fid waits =>
    rcases hn with none | done
    · rw [none] at fid
      cases fid
    · rw [done] at waits
      cases waits
  · rfl

theorem oweCommitted_same (t : State) (n : Nat) (hn : (t.dch n).committed = false) : t.oweCommitted n = t := by
  unfold State.oweCommitted
  dsimp only
  split
  next done _ _ =>
    rw [hn] at done
    cases done
  · rfl

/-- What a channel holds whose work is forgotten. -/
def DmaCh.forgotten (c : DmaCh) : DmaCh := { copy := c.copy, handle := c.handle, info := c.info, again := c.again, owed := c.owed }

theorem dch_forget (t : State) (n : Nat) : (t.forget n).dch n = (t.dch n).forgotten := State.dch_setDch _ _

theorem chIdle_eq (fid : (s.dch n).fid = none) (committed : (s.dch n).committed = false) : s.chIdle n =
    if n.val = 14 then ((s.forget n).setChState n chIDLE 0).waitsRetry else (s.forget n).setChState n chIDLE 0 := by
  unfold State.chIdle
  rw [dropPartial_same s n (.inl fid), oweCommitted_same s n committed]
  have unpaid : (if (s.dch n).committed = true then s.payOwed n else s) = s := if_neg (by rw [committed]; exact Bool.false_ne_true)
  dsimp only
  rw [unpaid]

theorem does_dmaStop (ho : s.opens h R.DMA_CH_CTRL n 0 = true) (state : s.chState n = chPAUSED ∨ s.chState n = chSTOPPED)
    (fid : (s.dch n).fid = none) (committed : (s.dch n).committed = false) : Does (.dmaStop h n) s fun t =>
      t.chState n = chIDLE ∧ t.bit F.DMA_CH_STAT_ENABLE n = false ∧ (t.dch n).descs = [] ∧ (t.dch n).started = false ∧
      s.keepsRegs t [R.DMA_CH_STAT.off n 0, R.DMA_STAT.base, R.BPM_CMD_STAT.off 0 0, R.BPM_CMD_STAT.off 1 0] := by
  have run : s.dmaCommand n 4 = s.chIdle n := by
    rcases state with state | state <;> simp only [State.dmaCommand, state] <;> rfl
  refine does_dmaCommand (op := 4) rfl rfl ho ?_
  rw [run, chIdle_eq fid committed]
  have ended : CommandsEnded ((s.forget n).setChState n chIDLE 0)
      (if n.val = 14 then ((s.forget n).setChState n chIDLE 0).waitsRetry else (s.forget n).setChState n chIDLE 0) := by
    split_ifs
    · exact CommandsEnded.waitsRetry
    · exact CommandsEnded.refl
  obtain ⟨dma, get, keeps⟩ := ended
  have here : ((s.forget n).setChState n chIDLE 0).dch n = (s.dch n).forgotten := dch_forget s n
  have idle : ((s.forget n).setChState n chIDLE 0).chState n = chIDLE := chState_setChState _ (by decide)
  have off : ((s.forget n).setChState n chIDLE 0).bit F.DMA_CH_STAT_ENABLE n = false := enable_setChState _
  have kept : s.keepsRegs ((s.forget n).setChState n chIDLE 0) [R.DMA_CH_STAT.off n 0, R.DMA_STAT.base] :=
    setChState_keeps _ (fun _ _ _ _ => rfl) (by simp) (by simp)
  generalize (s.forget n).setChState n chIDLE 0 = v at *
  generalize (if n.val = 14 then v.waitsRetry else v) = t at *
  refine ⟨?_, ?_, ?_, ?_, settled_keeps _ _ _ ?_⟩
  · rw [settled_chState, State.chState, get _ (by decide)]
    exact idle
  · rw [settled_bit_free _ _ (by decide), State.bit, get _ (by decide)]
    exact off
  · rw [settled_dch, State.dch_of_dma _ dma, here]
    rfl
  · rw [settled_dch, State.dch_of_dma _ dma, here]
    rfl
  · exact State.keepsRegs_trans (keepsRegs_subset kept (by simp)) (keepsRegs_subset keeps (by simp))

end
end Sys2Proof.Machine
end

section
set_option Elab.async false
/-! PROOFS. The DMA engine: descriptors fetched, copies between a host and the service SRAM, and completions
(16_dma_and_buffer_pools.md R467 to R472, R481). -/

namespace Sys2Proof.Machine

/-! ## What is driven to a host -/

section
variable (s : State)

theorem fetchRequest_only (n k : Nat) : ∃ o, s.fetchRequest n k = { s with out := o } := ⟨_, rfl⟩

theorem hostWrites_only (host k a : Nat) (b : List Byte) : ∃ o, s.hostWrites host k a b = { s with out := o } := by
  induction k generalizing s a b with
  | zero => exact ⟨_, rfl⟩
  | succ k ih =>
    unfold State.hostWrites
    split_ifs
    · exact ⟨_, rfl⟩
    · obtain ⟨o, e⟩ := ih (s.emit (.hostWrite host a (b.take (256 - a % 256)))) (a + (256 - a % 256)) (b.drop (256 - a % 256))
      exact ⟨o, e⟩

theorem sramWrite_out (l : List Byte) (o : List Out) (a : Nat) : ({ s with out := o } : State).sramWrite a l = { s.sramWrite a l with out := o } := by
  induction l generalizing s a with
  | nil => rfl
  | cons b l ih =>
    have put : ({ s with out := o } : State).sramPut a b = { s.sramPut a b with out := o } := by
      cases h : s.sramLost <;> simp only [State.sramPut, h]
    have test : ({ s with out := o } : State).underTest 3 = s.underTest 3 := rfl
    unfold State.sramWrite
    rw [test, put, ih]
    split_ifs <;> rfl

end

/-! ## Descriptors (R467, R469, R471) -/

section
variable {s : State} {n : Fin 16} {ds l : List (BitVec 256)} {d : BitVec 256}

/-- The channel's state with further descriptors in hand. -/
def State.fetched (s : State) (n : Nat) (ds : List (BitVec 256)) : State :=
  (s.fetchRequest n ds.length).setDch n { s.dch n with descs := (s.dch n).descs ++ ds }

theorem fetched_dch (s : State) (n : Nat) (ds : List (BitVec 256)) :
    (s.fetched n ds).dch n = { s.dch n with descs := (s.dch n).descs ++ ds } := State.dch_setDch _ _

theorem fetched_regs (s : State) (n : Nat) (ds : List (BitVec 256)) : SameVectors s (s.fetched n ds) := ⟨rfl, rfl, rfl⟩

theorem descFetch_eq (running : s.chState n = chRUN) (hn : n.val ≠ 14) (few : ds.length ≤ 4) (owned : (s.dch n).descs.length + ds.length ≤ s.owned n) :
    s.descFetch n ds = (s.fetched n ds).chJudge n :=
  if_pos ⟨running, hn, few, owned⟩

/-- The state of a channel that has stopped. -/
theorem chStop_eq (s : State) {n : Nat} (hn : n ≠ 14) (cause : Nat) (up : Bool) : ∃ u, s.chStop n cause up =
    (State.setChState u n chSTOPPED cause).evt F.DMA_CH_EVT_STOPPED n := ⟨_, if_neg hn⟩

theorem chJudge_bad {t : State} {n : Nat} (hd : (t.dch n).descs = d :: l) (fresh : (t.dch n).started = false) (may : t.mayProcess n = true)
    (running : t.chState n = chRUN) (bad : t.descBad n d = true) : ∃ u, t.chJudge n = State.chStop u n 1 true := by
  simp only [State.chJudge, hd, fresh, may, running, bad]
  exact ⟨_, rfl⟩

theorem chJudge_sound {t : State} {n : Nat} (hd : (t.dch n).descs = d :: l) (fresh : (t.dch n).started = false) (may : t.mayProcess n = true)
    (running : t.chState n = chRUN) (good : t.descBad n d = false) (hc : t.descCheck d = none) :
    t.chJudge n = t.setDch n { t.dch n with started := true, count0 := t.img.accepted } := by
  simp only [State.chJudge, hd, fresh, may, running, good, hc]
  rfl

theorem chJudge_fails {t : State} {n st : Nat} (hd : (t.dch n).descs = d :: l) (fresh : (t.dch n).started = false) (may : t.mayProcess n = true)
    (running : t.chState n = chRUN) (good : t.descBad n d = false) (hc : t.descCheck d = some st) :
    ∃ (u : State) (info : Nat), u.dma = t.dma ∧ t.chJudge n = u.setDch n { u.dch n with started := true, result := some (st, info) } := by
  simp only [State.chJudge, hd, fresh, may, running, good, hc]
  exact ⟨(t.infoWord 0 0 0).2, (t.infoWord 0 0 0).1, rfl, rfl⟩

theorem does_fetch_started (running : s.chState n = chRUN) (hn : n.val ≠ 14) (few : ds.length ≤ 4)
    (owned : (s.dch n).descs.length + ds.length ≤ s.owned n) (started : (s.dch n).started = true) : Does (.descriptorFetch n ds) s fun t =>
      t = settled s ((s.fetchRequest n ds.length).setDch n { s.dch n with descs := (s.dch n).descs ++ ds }) := by
  have run : exec (.descriptorFetch n ds) s = finish s (s.descFetch n ds) := rfl
  rw [descFetch_eq running hn few owned, chJudge_same _ _ (.inl ((congrArg DmaCh.started (fetched_dch s n ds)).trans started))] at run
  exact does_of run rfl

section
variable (running : s.chState n = chRUN) (hn : n.val ≠ 14) (few : ds.length ≤ 4) (owned : (s.dch n).descs.length + ds.length ≤ s.owned n)
  (empty : (s.dch n).descs = []) (fresh : (s.dch n).started = false) (may : s.mayProcess n = true) (hds : ds = d :: l)
include running hn few owned empty fresh may hds

theorem does_fetch_bad (bad : s.descBad n d = true) : Does (.descriptorFetch n ds) s fun t =>
    t.chState n = chSTOPPED ∧ t.get F.DMA_CH_STAT_CAUSE n = 1 := by
  have run : exec (.descriptorFetch n ds) s = finish s (s.descFetch n ds) := rfl
  obtain ⟨u, e⟩ := chJudge_bad (t := s.fetched n ds) (d := d) (l := l) (by rw [fetched_dch, empty, hds]; rfl) (by rw [fetched_dch]; exact fresh) may running bad
  obtain ⟨v, stop⟩ := chStop_eq u hn 1 true
  rw [descFetch_eq running hn few owned, e, stop] at run
  refine does_of run ⟨?_, ?_⟩
  · rw [settled_chState, State.chState, State.get_evt_free _ (by decide)]
    exact chState_setChState v (by decide)
  · rw [settled_get_free _ _ (by decide), State.get_evt_free _ (by decide), cause_setChState v (by decide)]

theorem does_fetch_sound (good : s.descBad n d = false) (hc : s.descCheck d = none) : Does (.descriptorFetch n ds) s fun t => (t.dch n).descs = ds ∧
    (t.dch n).started = true ∧ (t.dch n).result = (s.dch n).result ∧ t.regs = (settled s s).regs := by
  have run : exec (.descriptorFetch n ds) s = finish s (s.descFetch n ds) := rfl
  rw [descFetch_eq running hn few owned, chJudge_sound (t := s.fetched n ds) (d := d) (l := l) (by rw [fetched_dch, empty, hds]; rfl)
    (by rw [fetched_dch]; exact fresh) may running good hc] at run
  have here := fetched_dch s n ds
  have same := fetched_regs s n ds
  generalize s.fetched n ds = v at *
  refine does_of run ⟨?_, ?_, ?_, settled_regs_congr (s := s) (t := v.setDch n _) same _ _⟩
  · rw [settled_dch, State.dch_setDch, here, empty]
    rfl
  · rw [settled_dch, State.dch_setDch]
  · rw [settled_dch, State.dch_setDch, here]

theorem does_fetch_fails {st : Nat} (good : s.descBad n d = false) (hc : s.descCheck d = some st) : Does (.descriptorFetch n ds) s fun t =>
    (t.dch n).descs = ds ∧ (t.dch n).started = true ∧ ∃ info, (t.dch n).result = some (st, info) := by
  have run : exec (.descriptorFetch n ds) s = finish s (s.descFetch n ds) := rfl
  obtain ⟨u, info, dma, e⟩ := chJudge_fails (t := s.fetched n ds) (d := d) (l := l) (by rw [fetched_dch, empty, hds]; rfl)
    (by rw [fetched_dch]; exact fresh) may running good hc
  rw [descFetch_eq running hn few owned, e] at run
  refine does_of run ⟨?_, ?_, info, ?_⟩
  · rw [settled_dch, State.dch_setDch, State.dch_of_dma _ dma, fetched_dch, empty]
    rfl
  · rw [settled_dch, State.dch_setDch]
  · rw [settled_dch, State.dch_setDch]

end

/-! ## Copies (R470, R472) -/

/-- The bytes of a descriptor are moved: the outcome, where they are all (R471). -/
def State.copied (s : State) (n total : Nat) : State :=
  if (s.dch n).moved = total then
    (s.infoWord 0 0 0).2.setDch n { (s.infoWord 0 0 0).2.dch n with result := some (stOK, (s.infoWord 0 0 0).1) }
  else s

theorem copied_shows (s : State) (n total : Nat) : (s.copied n total).sram = s.sram ∧ (s.copied n total).out = s.out ∧
    (s.copied n total).regs = s.regs ∧ ((s.copied n total).dch n).moved = (s.dch n).moved ∧
    ((s.dch n).moved = total → ∃ info, ((s.copied n total).dch n).result = some (stOK, info)) := by
  unfold State.copied
  split_ifs with h
  · exact ⟨rfl, rfl, rfl, (congrArg DmaCh.moved (State.dch_setDch _ _) :), fun _ => ⟨_, congrArg DmaCh.result (State.dch_setDch _ _)⟩⟩
  · exact ⟨rfl, rfl, rfl, rfl, fun e => absurd e h⟩

theorem movedBytes_dch (s : State) (n k : Nat) : (s.movedBytes n k).dch n = { s.dch n with moved := (s.dch n).moved + k } := State.dch_setDch _ _

theorem movedBytes_keeps (s : State) (n k : Nat) : s.keepsRegs (s.movedBytes n k) [R.DMA_CH_CUR.off n 0] :=
  State.keepsRegs_put (t := s.setDch n { s.dch n with moved := (s.dch n).moved + k }) (fun _ _ _ _ => rfl) F.DMA_CH_CUR_BYTES _ _ _ List.mem_cons_self

theorem movedBytes_cur (s : State) (n k : Nat) : (s.movedBytes n k).get F.DMA_CH_CUR_BYTES n = ((s.dch n).moved + k) % 2 ^ 24 :=
  State.get_put_same _ _ _ _ _ (by decide)

/-- The state in which a copy has moved bytes into the service SRAM, before its outcome. -/
def State.landed (s : State) (n : Nat) (d : BitVec 256) (data : List Byte) : State :=
  let a := s.devAddr d (s.dch n).moved
  let u := (s.haddrReads n d data.length).sramWrite a data
  (u.setDch n { u.dch n with back := lastWord a data }).movedBytes n data.length

theorem h2d_eq {data : List Byte} (act : s.active n = some d) (ty : dType d = 1) (space : db d 99 96 = 0)
    (fits : (s.dch n).moved + data.length ≤ dLen d) : s.h2d n data = (s.landed n d data).copied n (dLen d) := by
  have whole : data.take (dLen d - (s.dch n).moved) = data := List.take_of_length_le (by omega)
  simp only [State.h2d, act, ty, space, whole]
  rfl

theorem landed_shows (s : State) (n : Nat) (d : BitVec 256) (data : List Byte) :
    (s.landed n d data).sram = (s.sramWrite (s.devAddr d (s.dch n).moved) data).sram ∧
    (s.landed n d data).out = (s.haddrReads n d data.length).out ∧ ((s.landed n d data).dch n).moved = (s.dch n).moved + data.length ∧
    (s.landed n d data).get F.DMA_CH_CUR_BYTES n = ((s.dch n).moved + data.length) % 2 ^ 24 ∧
    s.keepsRegs (s.landed n d data) [R.DMA_CH_CUR.off n 0] := by
  unfold State.landed
  extract_lets a u
  have hu : u = { s.sramWrite a data with out := (s.haddrReads n d data.length).out } := sramWrite_out s data _ a
  obtain ⟨m, only⟩ := sramWrite_only data s a
  have back : (u.setDch n { u.dch n with back := lastWord a data }).dch n = { u.dch n with back := lastWord a data } := State.dch_setDch _ _
  have dch : u.dch n = s.dch n := by rw [hu, only]; rfl
  have sram : u.sram = (s.sramWrite a data).sram := by rw [hu]
  have out : u.out = (s.haddrReads n d data.length).out := by rw [hu]
  have regs : u.regs = s.regs := by rw [hu, only]
  refine ⟨sram, out, ?_, ?_, ?_⟩
  · rw [movedBytes_dch, back, dch]
  · rw [movedBytes_cur, back, dch]
  · exact State.keepsRegs_trans (State.keepsRegs_of_eq (t := u.setDch n { u.dch n with back := lastWord a data }) _ regs) (movedBytes_keeps _ n _)

theorem does_h2d {data : List Byte} (act : s.active n = some d) (ty : dType d = 1) (space : db d 99 96 = 0)
    (fits : (s.dch n).moved + data.length ≤ dLen d) : Does (.h2d n data) s fun t => t.sram = (s.sramWrite (s.devAddr d (s.dch n).moved) data).sram ∧
      (t.dch n).moved = (s.dch n).moved + data.length ∧ t.get F.DMA_CH_CUR_BYTES n = ((s.dch n).moved + data.length) % 2 ^ 24 ∧
      ((s.dch n).moved + data.length = dLen d → ∃ info, (t.dch n).result = some (stOK, info)) ∧
      s.keepsRegs t [R.DMA_CH_CUR.off n 0] ∧ t.out = (s.haddrReads n d data.length).out := by
  have run : exec (.h2d n data) s = finish s (s.h2d n data) := rfl
  rw [h2d_eq act ty space fits] at run
  obtain ⟨sram, out, moved, cur, keeps⟩ := landed_shows s n d data
  obtain ⟨sram', out', regs, moved', done⟩ := copied_shows (s.landed n d data) n (dLen d)
  refine does_of run ⟨?_, ?_, ?_, fun e => ?_, settled_keeps _ _ _ ?_, ?_⟩
  · rw [settled_sram, sram', sram]
  · rw [settled_dch, moved', moved]
  · rw [settled_get_free _ _ (by decide), State.get_of_regs regs, cur]
  · rw [settled_dch]
    exact done (moved.trans e)
  · exact State.keepsRegs_trans keeps (State.keepsRegs_of_eq _ regs)
  · rw [settled_out, out', out]

/-- The state in which a copy has moved bytes to the host, before its outcome. -/
def State.delivered (s : State) (n : Nat) (d : BitVec 256) (k : Nat) : State :=
  let b := s.devBytes d (s.dch n).moved k
  let u := s.hostWrites (s.chHost n) b.length ((db d 63 0 + (s.dch n).moved) % 2 ^ 64) b
  (u.setDch n { u.dch n with back := none }).movedBytes n k

theorem d2h_eq {k : Nat} {data : List Byte} (act : s.active n = some d) (ty : dType d = 2) (space : db d 99 96 = 0)
    (fits : (s.dch n).moved + k ≤ dLen d) : s.d2h n k data = (s.delivered n d k).copied n (dLen d) := by
  have total : s.d2hTotal d = dLen d := if_neg (by rw [space]; decide)
  have whole : min k (dLen d - (s.dch n).moved) = k := by omega
  simp only [State.d2h, act, ty, space, total, whole]
  rfl

theorem does_d2h {k : Nat} {data : List Byte} (act : s.active n = some d) (ty : dType d = 2) (space : db d 99 96 = 0)
    (fits : (s.dch n).moved + k ≤ dLen d) : Does (.d2h n k data) s fun t =>
      t.out = (s.hostWrites (s.chHost n) (s.devBytes d (s.dch n).moved k).length ((db d 63 0 + (s.dch n).moved) % 2 ^ 64)
        (s.devBytes d (s.dch n).moved k)).out ∧
      (t.dch n).moved = (s.dch n).moved + k ∧ t.sram = s.sram ∧
      ((s.dch n).moved + k = dLen d → ∃ info, (t.dch n).result = some (stOK, info)) ∧ s.keepsRegs t [R.DMA_CH_CUR.off n 0] := by
  have run : exec (.d2h n k data) s = finish s (s.d2h n k data) := rfl
  rw [d2h_eq act ty space fits] at run
  obtain ⟨sram', out', regs, moved', done⟩ := copied_shows (s.delivered n d k) n (dLen d)
  have shows : (s.delivered n d k).out = (s.hostWrites (s.chHost n) (s.devBytes d (s.dch n).moved k).length ((db d 63 0 + (s.dch n).moved) % 2 ^ 64)
      (s.devBytes d (s.dch n).moved k)).out ∧ ((s.delivered n d k).dch n).moved = (s.dch n).moved + k ∧ (s.delivered n d k).sram = s.sram ∧
      s.keepsRegs (s.delivered n d k) [R.DMA_CH_CUR.off n 0] := by
    unfold State.delivered
    extract_lets b u
    obtain ⟨o, hu⟩ : ∃ o, u = { s with out := o } := hostWrites_only ..
    have back : (u.setDch n { u.dch n with back := none }).dch n = { u.dch n with back := none } := State.dch_setDch _ _
    refine ⟨rfl, ?_, ?_, ?_⟩
    · rw [movedBytes_dch, back, hu]
      rfl
    · exact (show _ = u.sram from rfl).trans (by rw [hu])
    · exact State.keepsRegs_trans (State.keepsRegs_of_eq (t := u.setDch n { u.dch n with back := none }) _ (by rw [hu]; rfl)) (movedBytes_keeps _ n _)
  obtain ⟨out, moved, sram, keeps⟩ := shows
  refine does_of run ⟨?_, ?_, ?_, fun e => ?_, settled_keeps _ _ _ ?_⟩
  · rw [settled_out, out', out]
  · rw [settled_dch, moved', moved]
  · rw [settled_sram, sram', sram]
  · rw [settled_dch]
    exact done (moved.trans e)
  · exact State.keepsRegs_trans keeps (State.keepsRegs_of_eq _ regs)

/-! ## Completion (R468, R481) -/

/-- What the write-back of a descriptor drives to the host. -/
def State.backOut (s : State) (n : Nat) (d : BitVec 256) (st info : Nat) : Out :=
  if dType d = 6 then
    .hostWrite (s.chHost n) (s.ringBase n + 32 * s.ringHead n) (leBytes 32 (s.rxWord n d % 2 ^ 224 + cmplWord st info * 2 ^ 224))
  else .hostWrite (s.chHost n) (s.ringBase n + 32 * s.ringHead n + 28) (leBytes 4 (cmplWord st info))

theorem writeBack_eq (s : State) (n : Nat) (d : BitVec 256) (st info : Nat) :
    s.writeBack n st info (if dType d = 6 then some (s.rxWord n d) else none) = s.emit (s.backOut n d st info) := by
  unfold State.backOut
  split_ifs <;> rfl

/-- The channel after the last of its descriptors: DMA15's dump has ended with it (R470). -/
def State.emptied (s : State) (n : Nat) (owed : Option (BitVec 256 × Nat × Nat)) : State :=
  let s := s.setDch n { owed := owed }
  if n = 15 then { s with pmc := { s.pmc with go := false, ended := true } } else s

theorem emptied_shows (s : State) (n : Nat) (owed : Option (BitVec 256 × Nat × Nat)) :
    (s.emptied n owed).regs = s.regs ∧ (s.emptied n owed).out = s.out ∧ (s.emptied n owed).dch n = { owed := owed } := by
  unfold State.emptied
  extract_lets u
  split_ifs
  · exact ⟨rfl, rfl, State.dch_setDch _ _⟩
  · exact ⟨rfl, rfl, State.dch_setDch _ _⟩

theorem descComplete_eq {same : Bool} {st info : Nat} (hd : (s.dch n).descs = [d]) (hr : (s.dch n).result = some (st, info))
    (runs : s.chState n ∈ [chRUN, chPAUSING]) (taken : dType d = 1 → db d 99 96 = 2 → s.img.inbox = []) (quiet : s.verifies = false) :
    s.descComplete n same = ((s.emit (s.backOut n d st info)).completed n st (db d 156 156 == 1)).emptied n (s.dch n).owed := by
  have works : (!(s.chState n == chRUN || s.chState n == chPAUSING)) = false := by
    rcases (by simpa using runs : s.chState n = chRUN ∨ s.chState n = chPAUSING) with e | e <;> rw [e] <;> rfl
  have loaded : ¬ (dType d = 1 ∧ db d 99 96 = 2 ∧ (!s.img.inbox.isEmpty) = true) := fun ⟨a, b, c⟩ => by
    rw [taken a b] at c
    exact Bool.noConfusion c
  have step : s.descComplete n same =
      (((s.writeBack n st info (if dType d = 6 then some (s.rxWord n d) else none)).completed n st (db d 156 156 == 1)).emptied n
        (s.dch n).owed).chJudge n := by
    simp only [State.descComplete, hd, hr, works, quiet, if_neg loaded]
    rfl
  rw [step, writeBack_eq, chJudge_same _ _ (.inr (congrArg DmaCh.descs (emptied_shows _ _ _).2.2))]

theorem does_complete {same : Bool} {st info : Nat} (hd : (s.dch n).descs = [d]) (hr : (s.dch n).result = some (st, info))
    (runs : s.chState n ∈ [chRUN, chPAUSING]) (taken : dType d = 1 → db d 99 96 = 2 → s.img.inbox = []) (quiet : s.verifies = false) :
    Does (.descriptorComplete n same) s fun t =>
      t.get F.DMA_CH_HEAD_HEAD n = (s.get F.DMA_CH_HEAD_HEAD n + 1) % 2 ^ 16 ∧
      t.get F.DMA_CH_DESC_CNT_COUNT n = min (s.get F.DMA_CH_DESC_CNT_COUNT n + 1) (2 ^ 32 - 1) ∧
      t.out = s.out ++ [if dType d = 6 then
          .hostWrite (s.chHost n) (s.ringBase n + 32 * s.ringHead n) (leBytes 32 (s.rxWord n d % 2 ^ 224 + cmplWord st info * 2 ^ 224))
        else .hostWrite (s.chHost n) (s.ringBase n + 32 * s.ringHead n + 28) (leBytes 4 (cmplWord st info))] ∧
      t.dch n = { owed := (s.dch n).owed } ∧ (db d 156 156 = 1 → t.bit F.DMA_CH_EVT_DESC_DONE n = true) ∧
      (st ≠ 0 → t.bit F.DMA_CH_EVT_DESC_ERR n = true) ∧
      s.keepsRegs t [R.DMA_CH_HEAD.off n 0, R.DMA_CH_DESC_CNT.off n 0, R.DMA_CH_CUR.off n 0, R.DMA_CH_ERR_CNT.off n 0, R.DMA_CH_EVT.off n 0] := by
  have run : exec (.descriptorComplete n same) s = finish s (s.descComplete n same) := rfl
  rw [descComplete_eq hd hr runs taken quiet] at run
  obtain ⟨regs, out, dch⟩ := emptied_shows ((s.emit (s.backOut n d st info)).completed n st (db d 156 156 == 1)) n (s.dch n).owed
  refine does_of run ⟨?_, ?_, ?_, ?_, fun irq => ?_, fun failed => ?_, settled_keeps _ _ _ ?_⟩
  · rw [settled_get_free _ _ (by decide), State.get_of_regs regs, completed_head]
    rfl
  · rw [settled_get_free _ _ (by decide), State.get_of_regs regs, completed_count]
    rfl
  · rw [settled_out, out, completed_out]
    rfl
  · rw [settled_dch, dch]
  · rw [settled_bit_free _ _ (by decide), State.bit_of_regs regs, irq]
    exact announced_done _ _
  · rw [settled_bit_free _ _ (by decide), State.bit_of_regs regs]
    exact announced_failed _ _ _ failed
  · refine State.keepsRegs_trans (State.keepsRegs_trans ?_ (completed_keeps _ _ _ (State.keepsRegs_refl _) ?_ ?_ ?_ ?_ ?_)) (State.keepsRegs_of_eq _ regs)
    · exact fun _ _ _ _ => rfl
    all_goals simp

end
end Sys2Proof.Machine
end

section
set_option Elab.async false
/-! PROOFS. The DMA engine: frames read from a host (16_dma_and_buffer_pools.md R473, R474). -/

namespace Sys2Proof.Machine

variable {s t : State}

/-! ## What happens to a frame and its copies leaves the channels as they were -/

theorem Ends.dma (h : Ends s t) : t.dma = s.dma := by
  obtain ⟨-, r, c, l, rfl⟩ := h
  rfl

theorem modFrame_dma (s : State) (k : Nat) (g : Frame → Frame) : (s.modFrame k g).dma = s.dma := by
  unfold State.modFrame
  split <;> rfl

theorem foldl_dma {α : Type} {f : State → α → State} (m : List α) (s : State) (hf : ∀ v a, (f v a).dma = v.dma) : (m.foldl f s).dma = s.dma :=
  List.foldlRecOn (motive := fun v => v.dma = s.dma) m f rfl fun v hv a _ => (hf v a).trans hv

theorem beginCells_dma (s : State) (k c : Nat) : (s.beginCells k c).dma = s.dma := by
  unfold State.beginCells
  extract_lets a b d
  have listed : d.dma = b.dma := foldl_dma _ _ fun _ _ => rfl
  have grown : b.dma = s.dma := modFrame_dma _ _ _
  refine Eq.trans (foldl_dma _ _ ?_) (listed.trans grown)
  exact fun _ _ => rfl

theorem stompTx_dma (s : State) (p k n : Nat) (mem : Bool) : (s.stompTx p k n mem).dma = s.dma := by
  unfold State.stompTx
  split
  · rfl
  · next x _ =>
    split
    · rfl
    · have released : (s.txRelease x).dma = s.dma := by
        unfold State.txRelease
        split
        · rfl
        · split
          · rfl
          · exact (Ends.releaseRefs _ _ _).dma
      dsimp only
      rw [State.evt_dma]
      refine (modFrame_dma _ _ _).trans ?_
      split
      · exact released
      · exact released

theorem stompFrame_dma (s : State) (k n : Nat) (mem : Bool) : (s.stompFrame k n mem).dma = s.dma := by
  unfold State.stompFrame
  refine foldl_dma _ _ fun v p => foldl_dma _ _ fun w i => ?_
  split
  · exact stompTx_dma _ _ _ _ _
  · rfl

theorem removeCopy_dma (s : State) (n i : Nat) : (s.removeCopy n i).dma = s.dma := by
  unfold State.removeCopy
  split
  · rfl
  · exact (Ends.endCopy _ _ _).dma

theorem removeWhere_dma (s : State) (n : Nat) (p : Copy → Bool) (k : Nat) : (s.removeWhere n p k).dma = s.dma := by
  induction k generalizing s with
  | zero => rfl
  | succ k ih =>
    unfold State.removeWhere
    split
    · rfl
    · exact (ih _).trans (removeCopy_dma _ _ _)

theorem dropHold_dma (s : State) (k : Nat) : (s.dropHold k).dma = s.dma := by
  unfold State.dropHold
  split
  · rfl
  · refine (modFrame_dma _ _ _).trans ?_
    split
    · exact (Ends.releaseRefs _ _ _).dma
    · rfl

theorem noCell_dma (s : State) (k : Nat) : (s.noCell k).dma = s.dma := by
  unfold State.noCell
  extract_lets a b n c d e
  have counted : b.dma = s.dma := (modFrame_dma _ _ _).trans (State.evt_dma ..)
  have stomped : c.dma = b.dma := stompFrame_dma _ _ _ _
  have removed : (c.removeFrameCopies k fun _ => true).dma = c.dma := foldl_dma _ _ fun _ _ => removeWhere_dma _ _ _ _
  exact (Ends.settle _ _).dma.trans ((modFrame_dma _ _ _).trans ((dropHold_dma _ _).trans (removed.trans (stomped.trans counted))))

theorem takeBytes_dma (s : State) (k : Nat) (b : List Byte) : (s.takeBytes k b).dma = s.dma := by
  unfold State.takeBytes
  split
  · rfl
  · extract_lets rx pri f' s' need free
    split
    · exact beginCells_dma _ _ _
    · exact (noCell_dma _ _).trans (beginCells_dma _ _ _)

/-! ## Bytes of a frame are read (R474) -/

section
variable {n : Fin 16} {d : BitVec 256} {type : Nat} {data : List Byte}

/-- The frame that a channel reads, begun with its first bytes. -/
def State.txFrame (s : State) (n type : Nat) (d : BitVec 256) : Nat × State :=
  match (s.dch n).fid with
  | some k => (k, s)
  | none =>
    let f := txFields (s.mkFrame 72 (if type = 3 then .hostSw n else .hostDir n) false 16000 (domRound (s.dom 0))) (db d 191 128) (db d 103 64)
    s.addFrame { f with hostType := type }

theorem txFrame_shows (s : State) (n type : Nat) (d : BitVec 256) :
    (s.txFrame n type d).1 = (s.dch n).fid.getD s.nextFid ∧ (s.txFrame n type d).2.dma = s.dma := by
  unfold State.txFrame
  cases (s.dch n).fid with
  | none => exact ⟨rfl, rfl⟩
  | some k => exact ⟨rfl, rfl⟩

/-- The state in which the bytes are in the frame, before its commit. -/
def State.txGrown (s : State) (n type : Nat) (d : BitVec 256) (b : List Byte) : State :=
  let u := (s.haddrReads n d b.length).txFrame n type d
  let v := u.2.takeBytes u.1 b
  (v.setDch n { v.dch n with fid := some u.1 }).movedBytes n b.length

/-- The frame is committed at its last byte. -/
def State.txCommitted (s : State) (n k : Nat) (d : BitVec 256) : State :=
  let rx : List Byte := match s.frame k with | some f => f.rx | none => []
  let r := (s.takeBytes k (leBytes 4 (crc32 rx).toNat)).hostCommit n k d
  r.2.setDch n { r.2.dch n with result := some r.1, committed := true }

theorem txRead_eq (act : s.active n = some d) (ty : dType d = type) (some_ : data.take (dLen d - (s.dch n).moved) ≠ []) : s.txRead n type data =
    if ((s.txGrown n type d (data.take (dLen d - (s.dch n).moved))).dch n).moved = dLen d then
      (s.txGrown n type d (data.take (dLen d - (s.dch n).moved))).txCommitted n
        ((s.haddrReads n d (data.take (dLen d - (s.dch n).moved)).length).txFrame n type d).1 d
    else s.txGrown n type d (data.take (dLen d - (s.dch n).moved)) := by
  have filled : (data.take (dLen d - (s.dch n).moved)).isEmpty = false := by simpa using some_
  unfold State.txRead
  rw [act]
  dsimp only
  rw [if_neg (not_not.2 ty), if_neg (by rw [filled]; exact Bool.false_ne_true)]
  rfl

theorem txGrown_dch (s : State) (n type : Nat) (d : BitVec 256) (b : List Byte) : (s.txGrown n type d b).dch n =
    { s.dch n with fid := some ((s.dch n).fid.getD s.nextFid), moved := (s.dch n).moved + b.length } := by
  obtain ⟨number, same⟩ := txFrame_shows (s.haddrReads n d b.length) n type d
  have kept : ((((s.haddrReads n d b.length).txFrame n type d).2.takeBytes ((s.haddrReads n d b.length).txFrame n type d).1 b).dch n) = s.dch n :=
    State.dch_of_dma s ((takeBytes_dma _ _ _).trans same) n
  unfold State.txGrown
  dsimp only
  generalize (s.haddrReads n d b.length).txFrame n type d = u at *
  generalize u.2.takeBytes u.1 b = v at *
  rw [movedBytes_dch, State.dch_setDch, kept, number]
  rfl

/-- The row of a TYPE. -/
theorem txRow_exec {c : Instr} (row : (dType d, c) ∈ [(3, .txSw n data), (4, .txDir n data), (5, .txLaunch n data)]) (s : State) :
    exec c s = finish s (s.txRead n (dType d) data) := by
  simp only [List.mem_cons, List.not_mem_nil, or_false, Prod.mk.injEq] at row
  rcases row with ⟨e, rfl⟩ | ⟨e, rfl⟩ | ⟨e, rfl⟩ <;> rw [e] <;> rfl

theorem does_tx_grows {c : Instr} (act : s.active n = some d) (row : (dType d, c) ∈ [(3, .txSw n data), (4, .txDir n data), (5, .txLaunch n data)])
    (some_ : data ≠ []) (more : (s.dch n).moved + data.length < dLen d) : Does c s fun t => (t.dch n).moved = (s.dch n).moved + data.length ∧
      (t.dch n).fid = some ((s.dch n).fid.getD s.nextFid) ∧ (t.dch n).committed = (s.dch n).committed ∧ (t.dch n).result = none := by
  have whole : data.take (dLen d - (s.dch n).moved) = data := List.take_of_length_le (by omega)
  have run := txRow_exec row s
  have here := txGrown_dch s n (dType d) d data
  have open_ : (s.dch n).result = none := by
    unfold State.active at act
    dsimp only at act
    split at act
    next h =>
      simp only [Bool.and_eq_true, Option.isNone_iff_eq_none] at h
      exact h.2
    · cases act
  rw [txRead_eq act rfl (by rw [whole]; exact some_), whole, if_neg (by rw [here]; exact Nat.ne_of_lt more)] at run
  refine does_of run ?_
  rw [settled_dch, here]
  exact ⟨rfl, rfl, rfl, open_⟩

/-- A committed frame of the switch completes with OK. -/
theorem hostCommit_sw (s : State) (n k : Nat) (ty : dType d = 3) : ∃ info, (s.hostCommit n k d).1 = (stOK, info) := by
  unfold State.hostCommit
  split
  · exact ⟨_, rfl⟩
  · dsimp only
    rw [if_pos ty]
    exact ⟨_, rfl⟩

theorem does_tx_commits {c : Instr} (act : s.active n = some d) (row : (dType d, c) ∈ [(3, .txSw n data), (4, .txDir n data), (5, .txLaunch n data)])
    (open_ : (s.dch n).moved < dLen d) (last : dLen d ≤ (s.dch n).moved + data.length) : Does c s fun t => (t.dch n).committed = true ∧
      (t.dch n).result.isSome = true ∧ (dType d = 3 → ∃ info, (t.dch n).result = some (stOK, info)) := by
  have run := txRow_exec row s
  have long : (data.take (dLen d - (s.dch n).moved)).length = dLen d - (s.dch n).moved := List.length_take_of_le (by omega)
  have some_ : data.take (dLen d - (s.dch n).moved) ≠ [] := fun e => by
    rw [e, List.length_nil] at long
    omega
  have whole : ((s.txGrown n (dType d) d (data.take (dLen d - (s.dch n).moved))).dch n).moved = dLen d := by
    rw [txGrown_dch, long]
    show (s.dch n).moved + (dLen d - (s.dch n).moved) = dLen d
    omega
  rw [txRead_eq act rfl some_, if_pos whole] at run
  refine does_of run ?_
  rw [settled_dch, State.txCommitted, State.dch_setDch]
  refine ⟨rfl, rfl, fun ty => ?_⟩
  obtain ⟨info, e⟩ := hostCommit_sw ((s.txGrown n (dType d) d (data.take (dLen d - (s.dch n).moved))).takeBytes _ _) n _ ty
  exact ⟨info, congrArg some e⟩

end
end Sys2Proof.Machine
end

section
set_option Elab.async false
/-! PROOFS. The DMA engine: grants of the arbiters and bus errors (16_dma_and_buffer_pools.md R480, R484). -/

namespace Sys2Proof.Machine

variable {s t u : State}

/-! ## A grant (R480) -/

theorem le_foldl_max {α : Type} (f : α → Nat) (l : List α) (a : Nat) :
    a ≤ l.foldl (fun m x => max m (f x)) a ∧ ∀ x ∈ l, f x ≤ l.foldl (fun m x => max m (f x)) a := by
  induction l generalizing a with
  | nil => exact ⟨le_refl _, fun x hx => absurd hx List.not_mem_nil⟩
  | cons y l ih =>
    obtain ⟨start, rest⟩ := ih (max a (f y))
    refine ⟨(le_max_left _ _).trans start, fun x hx => ?_⟩
    rcases List.mem_cons.1 hx with rfl | hx
    · exact (le_max_right _ _).trans start
    · exact rest x hx

theorem foldl_max_attained {α : Type} (f : α → Nat) (l : List α) (a : Nat) :
    l.foldl (fun m x => max m (f x)) a = a ∨ ∃ x ∈ l, f x = l.foldl (fun m x => max m (f x)) a := by
  induction l generalizing a with
  | nil => exact .inl rfl
  | cons y l ih =>
    rcases ih (max a (f y)) with e | ⟨x, hx, e⟩
    · rcases max_choice a (f y) with h | h
      · exact .inl (e.trans h)
      · exact .inr ⟨y, List.mem_cons_self, (e.trans h).symm⟩
    · exact .inr ⟨x, List.mem_cons_of_mem _ hx, e⟩

/-- The channels of a host that have a beat ready. -/
def State.readyChannels (s : State) (host : Nat) (write : Bool) : List Nat :=
  (List.range 16).filter (fun n => s.chHost n == host && s.beatReady n write)

/-- The channels of highest priority among them. -/
def State.topChannels (s : State) (host : Nat) (write : Bool) : List Nat :=
  (s.readyChannels host write).filter (fun n => s.chPrio n == (s.readyChannels host write).foldl (fun m n => max m (s.chPrio n)) 0)

theorem mem_readyChannels {host : Nat} {write : Bool} {n : Nat} :
    n ∈ s.readyChannels host write ↔ n < 16 ∧ s.chHost n = host ∧ s.beatReady n write = true := by
  simp [State.readyChannels]

theorem topChannels_prio {host m n : Nat} {write : Bool} (hm : m ∈ s.readyChannels host write) (hn : n ∈ s.topChannels host write) :
    n ∈ s.readyChannels host write ∧ s.chPrio m ≤ s.chPrio n := by
  obtain ⟨ready, top⟩ := List.mem_filter.1 hn
  exact ⟨ready, ((le_foldl_max s.chPrio _ 0).2 m hm).trans (le_of_eq (beq_iff_eq.1 top).symm)⟩

theorem topChannels_ne_nil {host m : Nat} {write : Bool} (hm : m ∈ s.readyChannels host write) : ∃ n, n ∈ s.topChannels host write := by
  rcases foldl_max_attained s.chPrio (s.readyChannels host write) 0 with e | ⟨n, hn, e⟩
  · have low := (le_foldl_max s.chPrio _ 0).2 m hm
    rw [e] at low
    exact ⟨m, List.mem_filter.2 ⟨hm, by rw [e]; exact beq_iff_eq.2 (Nat.le_zero.1 low)⟩⟩
  · exact ⟨n, List.mem_filter.2 ⟨hn, beq_iff_eq.2 e⟩⟩

/-- From a turn on, round robin comes to every channel. -/
theorem roundRobin_finds (last : Nat) {l : List Nat} {n : Nat} (hn : n ∈ l) (lt : n < 16) :
    ∃ m ∈ l, ((List.range 16).map (fun i => (last + 1 + i) % 16)).find? (fun n => l.contains n) = some m := by
  have comes : n ∈ (List.range 16).map (fun i => (last + 1 + i) % 16) :=
    List.mem_map.2 ⟨(n + 16 - (last + 1) % 16) % 16, List.mem_range.2 (Nat.mod_lt _ (by decide)), by omega⟩
  have found := (List.find?_isSome (p := fun n => l.contains n)).2 ⟨n, comes, by simpa using hn⟩
  obtain ⟨m, hm⟩ := Option.isSome_iff_exists.1 found
  exact ⟨m, by simpa using List.find?_some hm, hm⟩

/-- The state after a beat has been granted to a channel. -/
def State.beatGiven (s : State) (a n b : Nat) : State :=
  ({ s with dma := { s.dma with turn := tabSet 0 s.dma.turn a n, beats := tabSet 0 s.dma.beats a b } }).count 0x4F a

theorem beatGrant_picks {host m : Nat} {write : Bool} (hm : m ∈ s.readyChannels host write) :
    ∃ n ∈ s.topChannels host write, ∃ b, s.beatGrant host write = s.beatGiven (2 * host + (if write then 1 else 0)) n b := by
  obtain ⟨c, hc⟩ := topChannels_ne_nil hm
  have lt : c < 16 := (mem_readyChannels.1 (topChannels_prio hm hc).1).1
  unfold State.beatGrant
  extract_lets a ready top cand last beats keep pick
  obtain ⟨n, hn, found⟩ := roundRobin_finds last (l := cand) hc lt
  cases hk : keep with
  | true =>
    have same : pick = some last := if_pos hk
    have mem : last ∈ cand := by
      have h : (cand.contains last && decide (0 < beats ∧ beats < 64) && (s.dch last).result.isNone) = true := hk
      simp only [Bool.and_eq_true] at h
      simpa using h.1.1
    rw [same]
    exact ⟨last, mem, _, rfl⟩
  | false =>
    have next : pick = some n := (if_neg (by rw [hk]; exact Bool.false_ne_true)).trans found
    rw [next]
    exact ⟨n, hn, _, rfl⟩

theorem beatGiven_shows (s : State) (a n b : Nat) :
    SameVectors s (s.beatGiven a n b) ∧ tabGet 0 (s.beatGiven a n b).dma.turn a = n ∧ (s.beatGiven a n b).dma.ch = s.dma.ch :=
  ⟨⟨rfl, rfl, rfl⟩, tabGet_set_same .., rfl⟩

theorem does_beatGrant {h : HostId} {write : Bool} {m : Nat} (lt : m < 16) (host : s.chHost m = hostNum h) (ready : s.beatReady m write = true) :
    Does (.beatGrant h write) s fun t => ∃ n < 16, s.chHost n = hostNum h ∧ s.beatReady n write = true ∧ s.chPrio m ≤ s.chPrio n ∧
      tabGet 0 t.dma.turn (2 * hostNum h + (if write then 1 else 0)) = n ∧ t.regs = (settled s s).regs ∧ t.dma.ch = s.dma.ch := by
  have run : exec (.beatGrant h write) s = finish s (s.beatGrant (hostNum h) write) := rfl
  have hm : m ∈ s.readyChannels (hostNum h) write := mem_readyChannels.2 ⟨lt, host, ready⟩
  obtain ⟨n, hn, b, e⟩ := beatGrant_picks hm
  obtain ⟨mem, prio⟩ := topChannels_prio hm hn
  obtain ⟨ltn, hostn, readyn⟩ := mem_readyChannels.1 mem
  rw [e] at run
  obtain ⟨same, turn, ch⟩ := beatGiven_shows s (2 * hostNum h + (if write then 1 else 0)) n b
  generalize s.beatGiven (2 * hostNum h + (if write then 1 else 0)) n b = v at *
  exact does_of run ⟨n, ltn, hostn, readyn, prio, by rw [settled_dma, turn], settled_regs_congr same _ _, by rw [settled_dma, ch]⟩

/-! ## A channel stops (R478, R484) -/

/-- The registers that a channel's end may write. -/
def stopRegs (n : Nat) : List Nat :=
  [R.DMA_CH_HEAD.off n 0, R.DMA_CH_DESC_CNT.off n 0, R.DMA_CH_CUR.off n 0, R.DMA_CH_ERR_CNT.off n 0, R.DMA_CH_EVT.off n 0, R.DMA_CH_STAT.off n 0,
    R.DMA_STAT.base, R.BPM_CMD_STAT.off 0 0, R.BPM_CMD_STAT.off 1 0]

/-- From `s` to `t` nothing of another channel changes. -/
structure ChannelOnly (n : Nat) (s t : State) : Prop where
  others : ∀ m, m ≠ n → t.dch m = s.dch m
  keeps : s.keepsRegs t (stopRegs n)

namespace ChannelOnly

variable {n : Nat}

theorem refl (n : Nat) (s : State) : ChannelOnly n s s := ⟨fun _ _ => rfl, State.keepsRegs_refl _⟩

theorem trans (h : ChannelOnly n s t) (k : ChannelOnly n t u) : ChannelOnly n s u :=
  ⟨fun m hm => (k.others m hm).trans (h.others m hm), State.keepsRegs_trans h.keeps k.keeps⟩

theorem of_dma (dma : t.dma = s.dma) (keeps : s.keepsRegs t (stopRegs n)) : ChannelOnly n s t := ⟨fun m _ => State.dch_of_dma s dma m, keeps⟩

theorem setDch (s : State) (n : Nat) (c : DmaCh) : ChannelOnly n s (s.setDch n c) :=
  ⟨fun _ hm => State.dch_setDch_other s hm c, fun _ _ _ _ => rfl⟩

theorem put (s : State) (f : Fld) (v : Nat) (hf : f.reg.off n 0 ∈ stopRegs n) : ChannelOnly n s (s.put f v n) :=
  of_dma rfl (State.keepsRegs_put (State.keepsRegs_refl _) f _ _ _ hf)

theorem oweCommitted (s : State) (n : Nat) : ChannelOnly n s (s.oweCommitted n) := by
  unfold State.oweCommitted
  dsimp only
  split
  · exact trans (setDch s n _) (put _ F.DMA_CH_STAT_COMMITTED 1 (by simp [stopRegs, F.DMA_CH_STAT_COMMITTED]))
  · exact refl n s

theorem payOwed (s : State) (n : Nat) : ChannelOnly n s (s.payOwed n) := by
  cases h : (s.dch n).owed with
  | none => rw [payOwed_none s h]; exact refl n s
  | some e =>
    obtain ⟨d, st, info⟩ := e
    rw [payOwed_some h, State.paid]
    have back : ChannelOnly n s (s.writeBack n st info none) := of_dma rfl (State.keepsRegs_of_eq _ rfl)
    have done : ChannelOnly n (s.writeBack n st info none) ((s.writeBack n st info none).completed n st (db d 156 156 == 1)) :=
      of_dma (completed_dma _ _ _) (completed_keeps _ _ _ (State.keepsRegs_refl _) (by simp [stopRegs]) (by simp [stopRegs]) (by simp [stopRegs])
        (by simp [stopRegs]) (by simp [stopRegs]))
    generalize (s.writeBack n st info none).completed n st (db d 156 156 == 1) = v at done ⊢
    exact (back.trans done).trans (trans (put v F.DMA_CH_STAT_COMMITTED 0 (by simp [stopRegs, F.DMA_CH_STAT_COMMITTED])) (setDch _ n _))

theorem forget (s : State) (n : Nat) : ChannelOnly n s (s.forget n) := setDch s n _

theorem stopped (s : State) (n cause : Nat) : ChannelOnly n s ((s.setChState n chSTOPPED cause).evt F.DMA_CH_EVT_STOPPED n) := by
  refine of_dma ((State.evt_dma ..).trans (setChState_dma s)) (State.keepsRegs_evt (setChState_keeps s (State.keepsRegs_refl _) ?_ ?_) F.DMA_CH_EVT_STOPPED _ _ ?_)
  · simp [stopRegs]
  · simp [stopRegs]
  · simp [stopRegs, F.DMA_CH_EVT_STOPPED]

theorem waitsRetry (s : State) (n : Nat) : ChannelOnly n s s.waitsRetry :=
  of_dma CommandsEnded.waitsRetry.dma (keepsRegs_subset CommandsEnded.waitsRetry.keeps (by simp [stopRegs]))

end ChannelOnly

/-- A channel without an uncommitted frame stops, its write-back issued: nothing of another channel changes. -/
theorem chStop_shows {n cause : Nat} (whole : (s.dch n).fid = none ∨ (s.dch n).committed = true) (hc : cause < 8) :
    (s.chStop n cause true).chState n = chSTOPPED ∧ (s.chStop n cause true).get F.DMA_CH_STAT_CAUSE n = cause ∧
      ChannelOnly n s (s.chStop n cause true) := by
  have eq : s.chStop n cause true =
      (if n = 14 then (((((s.oweCommitted n).payOwed n).forget n).setChState n chSTOPPED cause).evt F.DMA_CH_EVT_STOPPED n).waitsRetry
        else ((((s.oweCommitted n).payOwed n).forget n).setChState n chSTOPPED cause).evt F.DMA_CH_EVT_STOPPED n) := by
    unfold State.chStop
    rw [dropPartial_same s n whole]
    rfl
  have before : ChannelOnly n s (((s.oweCommitted n).payOwed n).forget n) :=
    ((ChannelOnly.oweCommitted s n).trans (ChannelOnly.payOwed _ n)).trans (ChannelOnly.forget _ n)
  rw [eq]
  generalize ((s.oweCommitted n).payOwed n).forget n = v at before
  have state : ((v.setChState n chSTOPPED cause).evt F.DMA_CH_EVT_STOPPED n).chState n = chSTOPPED :=
    (State.get_evt_free _ (by decide) _ _ _ _).trans (chState_setChState v (by decide))
  have why : ((v.setChState n chSTOPPED cause).evt F.DMA_CH_EVT_STOPPED n).get F.DMA_CH_STAT_CAUSE n = cause :=
    (State.get_evt_free _ (by decide) _ _ _ _).trans (cause_setChState v hc)
  have only := before.trans (ChannelOnly.stopped v n cause)
  generalize (v.setChState n chSTOPPED cause).evt F.DMA_CH_EVT_STOPPED n = w at *
  split
  · have ended : CommandsEnded w w.waitsRetry := CommandsEnded.waitsRetry
    exact ⟨(ended.get _ (by decide) _ _).trans state, (ended.get _ (by decide) _ _).trans why, only.trans (ChannelOnly.waitsRetry w n)⟩
  · exact ⟨state, why, only⟩

/-! ## A bus error (R484) -/

/-- The registers that do not belong to a channel are not written when it stops. -/
theorem stopRegs_away {n m : Nat} (hm : m < 16) (ne : m ≠ n) : R.DMA_CH_STAT.off m 0 ∉ stopRegs n ++ pbaOffs := by
  simp only [stopRegs, pbaOffs, RegSpec.off, List.cons_append, List.nil_append, List.mem_cons, List.not_mem_nil, or_false]
  simp [R.DMA_CH_HEAD, R.DMA_CH_DESC_CNT, R.DMA_CH_CUR, R.DMA_CH_ERR_CNT, R.DMA_CH_EVT, R.DMA_CH_STAT, R.DMA_STAT, R.BPM_CMD_STAT, R.MSIX_PBA]
  omega

theorem stopRegs_err {a n : Nat} (ha : a = R.DMA_ERR.base ∨ a = R.DMA_ERR_ADDR_LO.base) : a ∉ stopRegs n ++ pbaOffs := by
  simp only [stopRegs, pbaOffs, RegSpec.off, List.cons_append, List.nil_append, List.mem_cons, List.not_mem_nil, or_false]
  simp [R.DMA_CH_HEAD, R.DMA_CH_DESC_CNT, R.DMA_CH_CUR, R.DMA_CH_ERR_CNT, R.DMA_CH_EVT, R.DMA_CH_STAT, R.DMA_STAT, R.BPM_CMD_STAT, R.MSIX_PBA,
    R.DMA_ERR, R.DMA_ERR_ADDR_LO] at ha ⊢
  omega

/-- One channel meets a bus error. -/
def State.busStop (s : State) (n : Nat) : State := if s.chState n = chIDLE ∨ s.chState n = chSTOPPED then s else s.chStop n 2 true

/-- The channels below `k` have met a bus error. -/
structure BusStopped (s : State) (k : Nat) (t : State) : Prop where
  state : ∀ n < k, t.chState n = if s.chState n = chIDLE then chIDLE else chSTOPPED
  cause : ∀ n < k, s.chState n ≠ chIDLE → s.chState n ≠ chSTOPPED → t.get F.DMA_CH_STAT_CAUSE n = 2
  rest : ∀ n, k ≤ n → n < 16 → t.reg R.DMA_CH_STAT n 0 = s.reg R.DMA_CH_STAT n 0 ∧ t.dch n = s.dch n
  err : ∀ f : Fld, f.reg = R.DMA_ERR ∨ f.reg = R.DMA_ERR_ADDR_LO → t.get f 0 0 = s.get f 0 0

theorem BusStopped.zero (s : State) : BusStopped s 0 s :=
  ⟨fun _ h => absurd h (Nat.not_lt_zero _), fun _ h => absurd h (Nat.not_lt_zero _), fun _ _ _ => ⟨rfl, rfl⟩, fun _ _ => rfl⟩

theorem BusStopped.succ {k : Nat} (h : BusStopped s k t) (hk : k < 16) (whole : (s.dch k).fid = none ∨ (s.dch k).committed = true) :
    BusStopped s (k + 1) (t.busStop k) := by
  obtain ⟨same, dch⟩ := h.rest k (le_refl _) hk
  have now : t.chState k = s.chState k := by rw [State.chState, State.chState, State.get, State.get]; exact congrArg (getBits · _ _) same
  unfold State.busStop
  by_cases idle : t.chState k = chIDLE ∨ t.chState k = chSTOPPED
  · rw [if_pos idle]
    refine ⟨fun n hn => ?_, fun n hn a b => ?_, fun n hn lt => h.rest n (by omega) lt, h.err⟩
    · rcases Nat.lt_succ_iff_lt_or_eq.1 hn with lt | rfl
      · exact h.state n lt
      · rw [now] at idle ⊢
        rcases idle with e | e <;> rw [e] <;> rfl
    · rcases Nat.lt_succ_iff_lt_or_eq.1 hn with lt | rfl
      · exact h.cause n lt a b
      · exact absurd (now ▸ idle) (not_or.2 ⟨a, b⟩)
  · rw [if_neg idle]
    obtain ⟨stopped, cause, only⟩ := chStop_shows (s := t) (n := k) (cause := 2) (by rw [dch]; exact whole) (by decide)
    generalize t.chStop k 2 true = v at *
    have kept : ∀ n < 16, n ≠ k → v.reg R.DMA_CH_STAT n 0 = t.reg R.DMA_CH_STAT n 0 := fun n hn ne =>
      only.keeps _ _ _ (stopRegs_away hn ne)
    refine ⟨fun n hn => ?_, fun n hn a b => ?_, fun n hn lt => ⟨?_, ?_⟩, fun f hf => ?_⟩
    · rcases Nat.lt_succ_iff_lt_or_eq.1 hn with lt | rfl
      · rw [← h.state n lt]
        exact congrArg (getBits · _ _) (kept n (by omega) (by omega))
      · rw [stopped, if_neg fun e => idle (.inl (now.trans e))]
    · rcases Nat.lt_succ_iff_lt_or_eq.1 hn with lt | rfl
      · rw [← h.cause n lt a b]
        exact congrArg (getBits · _ _) (kept n (by omega) (by omega))
      · exact cause
    · exact (kept n lt (by omega)).trans (h.rest n (by omega) lt).1
    · exact (only.others n (by omega)).trans (h.rest n (by omega) lt).2
    · rw [← h.err f hf]
      refine congrArg (getBits · _ _) (only.keeps _ _ _ (stopRegs_err ?_))
      rcases hf with e | e <;> rw [e]
      · exact .inl rfl
      · exact .inr rfl

theorem busStopped_all (whole : ∀ n < 16, (s.dch n).fid = none ∨ (s.dch n).committed = true) {k : Nat} (hk : k ≤ 16) :
    BusStopped s k ((List.range k).foldl State.busStop s) := by
  induction k with
  | zero => exact BusStopped.zero s
  | succ k ih =>
    rw [List.range_succ, List.foldl_append]
    exact (ih (by omega)).succ (by omega) (whole k (by omega))

/-- The error is captured with its address (R484). -/
def State.busCaptured (s : State) (host kind : Nat) (fetch : Bool) (addr : Nat) : State :=
  let first := !(s.bit F.DMA_ERR_VALID)
  let s := s.capture F.DMA_ERR_VALID F.DMA_ERR_MULTI (BitVec.ofNat 32 ((if fetch then 8 else 0) + host * 4 + kind))
  if first then (s.put F.DMA_ERR_ADDR_LO_ADDR (addr % 2 ^ 32)).put F.DMA_ERR_ADDR_HI_ADDR (addr / 2 ^ 32) else s

theorem busError_eq (s : State) (host kind : Nat) (fetch : Bool) (addr : Nat) :
    s.busError host kind fetch addr = (List.range 16).foldl State.busStop (s.busCaptured host kind fetch addr) := rfl

theorem busCaptured_first {host kind addr : Nat} (fetch : Bool) (hh : host < 2) (hk : kind < 4) (free_ : s.bit F.DMA_ERR_VALID = false) :
    (s.busCaptured host kind fetch addr).bit F.DMA_ERR_VALID = true ∧ (s.busCaptured host kind fetch addr).get F.DMA_ERR_KIND = kind ∧
    (s.busCaptured host kind fetch addr).get F.DMA_ERR_HOST = host ∧
    (s.busCaptured host kind fetch addr).get F.DMA_ERR_ADDR_LO_ADDR = addr % 2 ^ 32 := by
  have eq : s.busCaptured host kind fetch addr =
      ((s.setReg R.DMA_ERR (setBits (word ((if fetch then 8 else 0) + host * 4 + kind)) 31 31 1)).put F.DMA_ERR_ADDR_LO_ADDR (addr % 2 ^ 32)).put
        F.DMA_ERR_ADDR_HI_ADDR (addr / 2 ^ 32) := by
    simp only [State.busCaptured, State.capture, free_]
    rfl
  have field : ∀ f : Fld, f.reg = R.DMA_ERR → (s.busCaptured host kind fetch addr).get f =
      getBits (setBits (word ((if fetch then 8 else 0) + host * 4 + kind)) 31 31 1) f.hi f.lo := fun f hf => by
    rw [eq, State.get_put_free _ (by rw [hf]; decide), State.get_put_free _ (by rw [hf]; decide), ← hf, State.get_setReg_same]
  refine ⟨?_, ?_, ?_, ?_⟩
  · rw [State.bit, field _ rfl]
    have valid : ∀ w : Word, getBits (setBits w 31 31 1) 31 31 = 1 := fun w => getBits_setBits_same _ _ _ _ (by decide)
    exact bne_iff_ne.2 fun e => absurd ((valid _).symm.trans e) (by decide)
  · rw [field _ rfl, getBits_setBits_other _ _ _ _ _ _ (by decide) (by decide), getBits_word]
    cases fetch <;> simp [F.DMA_ERR_KIND] <;> omega
  · rw [field _ rfl, getBits_setBits_other _ _ _ _ _ _ (by decide) (by decide), getBits_word]
    cases fetch <;> simp [F.DMA_ERR_HOST] <;> omega
  · have width : F.DMA_ERR_ADDR_LO_ADDR.width = 32 := rfl
    rw [eq, State.get_put_free _ (by decide), State.get_put_same _ _ _ _ _ (by decide), width, Nat.mod_mod]

theorem busCaptured_later {host kind addr : Nat} (fetch : Bool) (held : s.bit F.DMA_ERR_VALID = true) :
    (s.busCaptured host kind fetch addr).bit F.DMA_ERR_MULTI = true ∧
    (s.busCaptured host kind fetch addr).get F.DMA_ERR_ADDR_LO_ADDR = s.get F.DMA_ERR_ADDR_LO_ADDR := by
  have eq : s.busCaptured host kind fetch addr = s.put F.DMA_ERR_MULTI 1 := by
    simp only [State.busCaptured, State.capture, held]
    rfl
  rw [eq]
  exact ⟨State.bit_put_one _ (by decide) (by decide) _ _, State.get_put_free _ (by decide) _ _ _ _ _⟩

theorem busCaptured_keeps (s : State) (host kind : Nat) (fetch : Bool) (addr : Nat) : (s.busCaptured host kind fetch addr).dma = s.dma ∧
    ∀ n, (s.busCaptured host kind fetch addr).chState n = s.chState n := by
  unfold State.busCaptured
  extract_lets first v
  have hv : v.dma = s.dma ∧ ∀ n, v.chState n = s.chState n := by
    unfold v State.capture
    split
    · exact ⟨rfl, fun n => State.get_put_free _ (by decide) _ _ _ _ _⟩
    · exact ⟨rfl, fun n => State.get_setReg_free (r := R.DMA_ERR) _ (by decide) _ _ _ _ _⟩
  split
  · exact ⟨hv.1, fun n => (State.get_put_free _ (by decide) _ _ _ _ _).trans ((State.get_put_free _ (by decide) _ _ _ _ _).trans (hv.2 n))⟩
  · exact hv

theorem does_busError {h : HostId} {kind : Fin 4} {fetch : Bool} {addr : BitVec 64}
    (whole : ∀ n < 16, (s.dch n).fid = none ∨ (s.dch n).committed = true) : Does (.busError h kind fetch addr) s fun t =>
      (∀ n < 16, t.chState n = if s.chState n = chIDLE then chIDLE else chSTOPPED) ∧
      (∀ n < 16, s.chState n ≠ chIDLE → s.chState n ≠ chSTOPPED → t.get F.DMA_CH_STAT_CAUSE n = 2) ∧
      (s.bit F.DMA_ERR_VALID = false → t.bit F.DMA_ERR_VALID = true ∧ t.get F.DMA_ERR_KIND = kind ∧ t.get F.DMA_ERR_HOST = hostNum h ∧
        t.get F.DMA_ERR_ADDR_LO_ADDR = addr.toNat % 2 ^ 32) ∧
      (s.bit F.DMA_ERR_VALID = true → t.bit F.DMA_ERR_MULTI = true ∧ t.get F.DMA_ERR_ADDR_LO_ADDR = s.get F.DMA_ERR_ADDR_LO_ADDR) := by
  have run : exec (.busError h kind fetch addr) s = finish s (s.busError (hostNum h) kind.val fetch addr.toNat) := rfl
  obtain ⟨dma, same⟩ := busCaptured_keeps s (hostNum h) kind.val fetch addr.toNat
  have first := fun f => busCaptured_first (s := s) (host := hostNum h) (kind := kind.val) (addr := addr.toNat) fetch (hostNum_lt h) kind.isLt f
  have later := fun f => busCaptured_later (s := s) (host := hostNum h) (kind := kind.val) (addr := addr.toNat) fetch f
  rw [busError_eq] at run
  generalize s.busCaptured (hostNum h) kind.val fetch addr.toNat = v at *
  obtain ⟨state, cause, -, err⟩ := busStopped_all (s := v) (fun n hn => by rw [State.dch_of_dma s dma]; exact whole n hn) (le_refl 16)
  generalize (List.range 16).foldl State.busStop v = w at *
  have bit : ∀ f : Fld, f.reg = R.DMA_ERR ∨ f.reg = R.DMA_ERR_ADDR_LO → w.bit f = v.bit f := fun f hf => congrArg (· != 0) (err f hf)
  refine does_of run ⟨fun n hn => ?_, fun n hn a b => ?_, fun e => ?_, fun e => ?_⟩
  · rw [settled_chState, state n hn, same n]
  · rw [settled_get_free _ _ (by decide), cause n hn (by rw [same]; exact a) (by rw [same]; exact b)]
  · rw [settled_bit_free _ _ (by decide), settled_get_free _ _ (by decide), settled_get_free _ _ (by decide), settled_get_free _ _ (by decide),
      bit _ (.inl rfl), err _ (.inl rfl), err _ (.inl rfl), err _ (.inr rfl)]
    exact first e
  · rw [settled_bit_free _ _ (by decide), settled_get_free _ _ (by decide), bit _ (.inl rfl), err _ (.inr rfl)]
    exact later e

end Sys2Proof.Machine
end

section
set_option Elab.async false
/-! PROOFS. The DMA engine: received copies written to a host (16_dma_and_buffer_pools.md R475, R476), and the obligation about the engine. -/

namespace Sys2Proof.Machine

variable {s u : State}

/-! ## A reader takes the head of a list (R210, R231) -/

theorem takeHead_nil {n : Nat} (hl : s.list n = []) : s.takeHead n = (none, s) := by
  simp only [State.takeHead, hl]

theorem takeHead_cons {n : Nat} {c : Copy} {l : List Copy} (hl : s.list n = c :: l) :
    s.takeHead n = if s.expired n c then (none, s.ageDiscard n) else (some c, s.unlink n 0) := by
  simp only [State.takeHead, hl]

theorem takeHead_some {n : Nat} {c : Copy} (h : (s.takeHead n).1 = some c) :
    ∃ l, s.list n = c :: l ∧ s.expired n c = false ∧ s.takeHead n = (some c, s.unlink n 0) := by
  cases hl : s.list n with
  | nil =>
    rw [takeHead_nil hl] at h
    cases h
  | cons x l =>
    rw [takeHead_cons hl] at h ⊢
    by_cases old : s.expired n x = true
    · rw [if_pos old] at h
      cases h
    · rw [if_neg old] at h ⊢
      cases h
      exact ⟨l, rfl, by simpa using old, rfl⟩

theorem takeSound_some {n : Nat} {c : Copy} (h : (s.takeSound n).1 = some c) : ∃ l, s.list n = c :: l ∧ s.expired n c = false ∧
    (s.takeSound n).2 = (s.unlink n 0).eccCorrect ((s.unlink n 0).unreadCells c) := by
  have head : (s.takeHead n).1 = some c := by
    unfold State.takeSound at h
    split at h
    · cases h
    next x v e =>
      rw [e]
      dsimp only at h ⊢
      split at h <;> cases h
      rfl
  obtain ⟨l, hl, young, e⟩ := takeHead_some head
  refine ⟨l, hl, young, ?_⟩
  unfold State.takeSound at h ⊢
  rw [e] at h ⊢
  dsimp only at h ⊢
  cases sound : ((s.unlink n 0).unreadCells c).find? (fun i => (s.unlink n 0).cellEcc i == 2) with
  | some i => simp [sound] at h
  | none => rfl

theorem eccCorrect_regs (s : State) (cells : List Nat) : ∃ r, s.eccCorrect cells = { s with regs := r } := by
  refine List.foldlRecOn (motive := fun v => ∃ r : Tab Word, v = { s with regs := r }) _ _ ⟨s.regs, rfl⟩ fun v hv i _ => ?_
  obtain ⟨r, rfl⟩ := hv
  split
  · exact ⟨_, rfl⟩
  · exact ⟨_, rfl⟩

/-- The copy that a reader takes leaves its list, and no channel changes. -/
theorem takeSound_shows {n : Nat} {c : Copy} (h : (s.takeSound n).1 = some c) :
    (s.takeSound n).2.list n = (s.list n).tail ∧ (s.takeSound n).2.dma = s.dma := by
  obtain ⟨l, hl, -, e⟩ := takeSound_some h
  obtain ⟨r, unlinked⟩ := unlink_eq s n 0
  obtain ⟨r', corrected⟩ := eccCorrect_regs (s.unlink n 0) ((s.unlink n 0).unreadCells c)
  rw [e, corrected, unlinked, hl]
  exact ⟨list_setList_same s n l, rfl⟩

/-! ## The place and the bytes of a received copy (R475) -/

section
variable {n : Fin 16} {k flen : Nat} {d : BitVec 256} {data : List Byte}

/-- A copy that has moved bytes, or has the place that its descriptor asks for, keeps it. -/
theorem rxPlace_same (s : State) (n : Nat) (d : BitVec 256) (h : 0 < (s.dch n).moved ∨ db d 157 157 = if (s.dch n).handle.isSome then 1 else 0) :
    s.rxPlace n d = s := by
  unfold State.rxPlace
  extract_lets ch
  have placed : ¬ ch.moved ≠ 0 → db d 157 157 = if ch.handle.isSome then 1 else 0 := fun e => h.resolve_left (by
    have : ch.moved = 0 := not_not.1 e
    exact Nat.not_lt.2 (le_of_eq this))
  split
  · rfl
  · split
    · rfl
    next fresh =>
      have bpm := placed fresh
      split
      next one =>
        have : ch.handle.isSome = true := by
          by_contra none
          rw [if_neg none] at bpm
          omega
        rw [if_pos this]
      next zero =>
        have none : ch.handle = none := by
          by_contra some
          rw [if_pos (Option.isSome_iff_ne_none.2 some)] at bpm
          exact zero bpm
        split
        next held => rw [none] at held; cases held
        · rfl

/-- The end of the copy that a channel holds, if it holds one. -/
def State.copyEnded (s : State) : Option (Nat × Copy) → State
  | some (list, c) => s.endCopy list c
  | none => s

theorem copyEnded_dma (s : State) (o : Option (Nat × Copy)) : (s.copyEnded o).dma = s.dma := by
  cases o with
  | none => rfl
  | some e => exact (Ends.endCopy _ _ _).dma

/-- Bytes of a copy are written to its host. -/
def State.rxSent (s : State) (n k : Nat) (d : BitVec 256) (data : List Byte) : State :=
  let b := (data.drop (s.dch n).moved).take k
  (s.hostWrites (s.rxPort n) b.length (s.rxAddr n d + (s.dch n).moved) b).movedBytes n k

/-- A copy has been written whole. -/
def State.rxWritten (s : State) (n : Nat) (d : BitVec 256) (data : List Byte) (flen : Nat) (copy : Option (Nat × Copy)) : State :=
  let r := s.infoWord (min data.length (dLen d)) 0 14
  (r.2.setDch n { r.2.dch n with result := some (if dLen d < flen then stTRUNC else stOK, r.1), copy := none, again := some (data, flen) }).copyEnded copy

/-- A copy in hand, placed. -/
def State.rxReady (s : State) (n : Nat) (d : BitVec 256) : State :=
  (if (s.dch n).copy.isNone ∧ (s.dch n).again.isNone ∧ s.chState n = chRUN then s.rxTake n d else s).rxPlace n d

theorem rx_eq (act : s.active n = some d) (ty : dType d = 6) (ready : s.rxReady n d = u) (whole : u.rxWhole n = some (data, flen)) : s.rx n k =
    let m := min k (min data.length (dLen d) - (u.dch n).moved)
    if ((u.rxSent n m d data).dch n).moved = min data.length (dLen d) then (u.rxSent n m d data).rxWritten n d data flen (u.dch n).copy
    else u.rxSent n m d data := by
  subst ready
  unfold State.rx
  rw [act]
  dsimp only
  rw [if_neg (not_not.2 ty)]
  have same : (if (s.dch n).copy.isNone ∧ (s.dch n).again.isNone ∧ s.chState n = chRUN then s.rxTake n d else s).rxPlace n d = s.rxReady n d := rfl
  rw [same, whole]
  generalize s.rxReady n d = v
  cases (v.dch n).copy <;> rfl

theorem rxSent_shows (s : State) (n k : Nat) (d : BitVec 256) (data : List Byte) :
    (s.rxSent n k d data).dch n = { s.dch n with moved := (s.dch n).moved + k } ∧
    (s.rxSent n k d data).out = (s.hostWrites (s.rxPort n) ((data.drop (s.dch n).moved).take k).length (s.rxAddr n d + (s.dch n).moved)
      ((data.drop (s.dch n).moved).take k)).out ∧
    (s.rxSent n k d data).swc = s.swc ∧ s.keepsRegs (s.rxSent n k d data) [R.DMA_CH_CUR.off n 0] := by
  unfold State.rxSent
  extract_lets b
  obtain ⟨o, e⟩ := hostWrites_only s (s.rxPort n) b.length (s.rxAddr n d + (s.dch n).moved) b
  rw [e]
  exact ⟨movedBytes_dch _ n k, rfl, rfl, movedBytes_keeps { s with out := o } n k⟩

theorem rxWritten_dch (s : State) (n : Nat) (d : BitVec 256) (data : List Byte) (flen : Nat) (copy : Option (Nat × Copy)) :
    ∃ info, info % 2 ^ 14 = min data.length (dLen d) % 2 ^ 14 ∧ (s.rxWritten n d data flen copy).dch n = { s.dch n with
      result := some (if dLen d < flen then stTRUNC else stOK, info), copy := none, again := some (data, flen) } := by
  refine ⟨(s.infoWord (min data.length (dLen d)) 0 14).1, ?_, ?_⟩
  · have free_ : ∀ v : Nat, (v &&& (2 ^ 24 - 1 - ((2 ^ 14 - 1) <<< 0))) % 2 ^ 14 = 0 := fun v => by
      rw [Nat.and_mod_two_pow]
      exact Nat.and_zero _
    have sum : (s.infoWord (min data.length (dLen d)) 0 14).1 =
        ((s.draw 24).1.toNat &&& (2 ^ 24 - 1 - ((2 ^ 14 - 1) <<< 0))) + min data.length (dLen d) * 2 ^ 0 := rfl
    rw [sum, Nat.add_mod, free_, Nat.zero_add, Nat.mod_mod, pow_zero, Nat.mul_one]
  · unfold State.rxWritten
    extract_lets r
    rw [State.dch_of_dma _ (copyEnded_dma _ _)]
    exact State.dch_setDch _ _

/-- Part of a copy that is in hand is written. -/
theorem rx_part (act : s.active n = some d) (ty : dType d = 6) (ready : s.rxReady n d = u) (whole : u.rxWhole n = some (data, flen))
    (more : (u.dch n).moved + k < min data.length (dLen d)) : s.rx n k = u.rxSent n k d data := by
  have all : min k (min data.length (dLen d) - (u.dch n).moved) = k := by omega
  refine (rx_eq act ty ready whole).trans ?_
  dsimp only
  rw [all, if_neg]
  rw [(rxSent_shows u n k d data).1]
  exact Nat.ne_of_lt more

/-- The rest of a copy that is in hand is written. -/
theorem rx_rest (act : s.active n = some d) (ty : dType d = 6) (ready : s.rxReady n d = u) (whole : u.rxWhole n = some (data, flen))
    (begun : (u.dch n).moved ≤ min data.length (dLen d)) (last : min data.length (dLen d) ≤ (u.dch n).moved + k) : s.rx n k =
    (u.rxSent n (min data.length (dLen d) - (u.dch n).moved) d data).rxWritten n d data flen (u.dch n).copy := by
  have all : min k (min data.length (dLen d) - (u.dch n).moved) = min data.length (dLen d) - (u.dch n).moved := by omega
  refine (rx_eq act ty ready whole).trans ?_
  dsimp only
  rw [all, if_pos]
  rw [(rxSent_shows u n _ d data).1]
  exact Nat.add_sub_of_le begun

/-- With a copy in hand none is taken. -/
theorem rxReady_same (held : ¬ ((s.dch n).copy.isNone ∧ (s.dch n).again.isNone ∧ s.chState n = chRUN))
    (place : 0 < (s.dch n).moved ∨ db d 157 157 = if (s.dch n).handle.isSome then 1 else 0) : s.rxReady n d = s := by
  rw [State.rxReady, if_neg held, rxPlace_same s n d place]

section
variable {f : Frame} {list : Nat} {c : Copy} (copy : (s.dch n).copy = some (list, c)) (frame : s.frame c.fid = some f)
  (place : 0 < (s.dch n).moved ∨ db d 157 157 = if (s.dch n).handle.isSome then 1 else 0)
include copy frame place

theorem rxReady_copy : s.rxReady n d = s ∧ s.rxWhole n = some (stored f, min f.rx.length f.maxlen) := by
  refine ⟨rxReady_same (fun h => ?_) place, ?_⟩
  · rw [copy] at h
    cases h.1
  · unfold State.rxWhole
    rw [copy]
    dsimp only
    rw [frame]
    rfl

theorem does_rx_part (act : s.active n = some d) (ty : dType d = 6) (more : (s.dch n).moved + k < min (stored f).length (dLen d)) : Does (.rx n k) s fun t =>
    t.dch n = { s.dch n with moved := (s.dch n).moved + k } ∧
    t.out = (s.hostWrites (s.rxPort n) (((stored f).drop (s.dch n).moved).take k).length (s.rxAddr n d + (s.dch n).moved)
      (((stored f).drop (s.dch n).moved).take k)).out ∧ t.swc.lists = s.swc.lists ∧ s.keepsRegs t [R.DMA_CH_CUR.off n 0] := by
  obtain ⟨ready, whole⟩ := rxReady_copy copy frame place
  have run : exec (.rx n k) s = finish s (s.rx n k) := rfl
  rw [rx_part act ty ready whole more] at run
  obtain ⟨dch, out, swc, keeps⟩ := rxSent_shows s n k d (stored f)
  exact does_of run ⟨by rw [settled_dch, dch], by rw [settled_out, out], by rw [settled_swc, swc], settled_keeps _ _ _ keeps⟩

theorem does_rx_rest (act : s.active n = some d) (ty : dType d = 6) (begun : (s.dch n).moved ≤ min (stored f).length (dLen d)) 
    (last : min (stored f).length (dLen d) ≤ (s.dch n).moved + k) : Does (.rx n k) s fun t => (t.dch n).copy = none ∧ (t.dch n).moved = min (stored f).length (dLen d) ∧
      (t.dch n).again = some (stored f, min f.rx.length f.maxlen) ∧ ∃ info,
      (t.dch n).result = some (if dLen d < min f.rx.length f.maxlen then stTRUNC else stOK, info) ∧
      info % 2 ^ 14 = min (stored f).length (dLen d) % 2 ^ 14 := by
  obtain ⟨ready, whole⟩ := rxReady_copy copy frame place
  have run : exec (.rx n k) s = finish s (s.rx n k) := rfl
  rw [rx_rest act ty ready whole begun last] at run
  obtain ⟨dch, -⟩ := rxSent_shows s n (min (stored f).length (dLen d) - (s.dch n).moved) d (stored f)
  generalize s.rxSent n (min (stored f).length (dLen d) - (s.dch n).moved) d (stored f) = v at *
  obtain ⟨info, low, written⟩ := rxWritten_dch v n d (stored f) (min f.rx.length f.maxlen) (s.dch n).copy
  refine does_of run ?_
  rw [settled_dch, written, dch]
  exact ⟨rfl, Nat.add_sub_of_le begun, rfl, info, rfl, low⟩

end

theorem does_rx_again {b : List Byte} {l : Nat} (act : s.active n = some d) (ty : dType d = 6) (copy : (s.dch n).copy = none)
    (again : (s.dch n).again = some (b, l)) (place : 0 < (s.dch n).moved ∨ db d 157 157 = if (s.dch n).handle.isSome then 1 else 0)
    (more : (s.dch n).moved + k < min b.length (dLen d)) : Does (.rx n k) s fun t => t.dch n = { s.dch n with moved := (s.dch n).moved + k } ∧
      t.out = (s.hostWrites (s.rxPort n) ((b.drop (s.dch n).moved).take k).length (s.rxAddr n d + (s.dch n).moved)
        ((b.drop (s.dch n).moved).take k)).out ∧ t.swc.lists = s.swc.lists := by
  have ready : s.rxReady n d = s := rxReady_same (fun h => by rw [again] at h; cases h.2.1) place
  have whole : s.rxWhole n = some (b, l) := by
    unfold State.rxWhole
    rw [copy]
    exact again
  have run : exec (.rx n k) s = finish s (s.rx n k) := rfl
  rw [rx_part act ty ready whole more] at run
  obtain ⟨dch, out, swc, -⟩ := rxSent_shows s n k d b
  exact does_of run ⟨by rw [settled_dch, dch], by rw [settled_out, out], by rw [settled_swc, swc]⟩

/-- The channel with a copy that it has taken from the head of a list. -/
def State.rxTaken (s : State) (n list : Nat) (c : Copy) (f : Frame) : State :=
  (s.takeSound list).2.setDch n { (s.takeSound list).2.dch n with copy := some (list, c), handle := none, info := rxMeta f (copyEdit f c) }

theorem rxTake_eq {q : Nat} {c : Copy} {f : Frame} (queue : s.rxQueue n = some q) (taken : (s.takeSound (592 + q)).1 = some c)
    (frame : (s.takeSound (592 + q)).2.frame c.fid = some f) : s.rxTake n d = s.rxTaken n (592 + q) c f := by
  unfold State.rxTake State.rxTaken
  rw [queue]
  dsimp only
  generalize s.takeSound (592 + q) = r at *
  obtain ⟨o, v⟩ := r
  cases taken
  dsimp only at frame ⊢
  rw [frame]

theorem does_rx_takes {q : Nat} {c : Copy} {f : Frame} (act : s.active n = some d) (ty : dType d = 6) (copy : (s.dch n).copy = none)
    (again : (s.dch n).again = none) (running : s.chState n = chRUN) (bpm : db d 157 157 = 0) (queue : s.rxQueue n = some q)
    (taken : (s.takeSound (592 + q)).1 = some c) (only : s.list (592 + q) = [c]) (frame : (s.takeSound (592 + q)).2.frame c.fid = some f)
    (more : (s.dch n).moved + k < min (stored f).length (dLen d)) : Does (.rx n k) s fun t => t.list (592 + q) = [] ∧
      (t.dch n).copy = some (592 + q, c) ∧ (t.dch n).moved = (s.dch n).moved + k ∧ (t.dch n).handle = none ∧
      (t.dch n).info = rxMeta f (copyEdit f c) := by
  obtain ⟨list, dma⟩ := takeSound_shows taken
  have before := State.dch_of_dma s dma n
  have held : (s.rxTaken n (592 + q) c f).dch n =
      { s.dch n with copy := some (592 + q, c), handle := none, info := rxMeta f (copyEdit f c) } := by
    rw [State.rxTaken, State.dch_setDch, before]
  have empty : (s.rxTaken n (592 + q) c f).list (592 + q) = [] := by
    have same : (s.rxTaken n (592 + q) c f).list (592 + q) = (s.takeSound (592 + q)).2.list (592 + q) := rfl
    rw [same, list, only]
    rfl
  have inHand : (s.rxTaken n (592 + q) c f).frame c.fid = some f := frame
  have ready : s.rxReady n d = s.rxTaken n (592 + q) c f := by
    rw [State.rxReady, if_pos ⟨by rw [copy]; rfl, by rw [again]; rfl, running⟩, rxTake_eq queue taken frame]
    exact rxPlace_same _ n d (.inr (by rw [held, bpm]; rfl))
  generalize s.rxTaken n (592 + q) c f = v at *
  have whole : v.rxWhole n = some (stored f, min f.rx.length f.maxlen) := by
    unfold State.rxWhole
    rw [held]
    dsimp only
    rw [inHand]
    rfl
  have run : exec (.rx n k) s = finish s (s.rx n k) := rfl
  rw [rx_part act ty ready whole (by rw [held]; exact more)] at run
  obtain ⟨dch, -, swc, -⟩ := rxSent_shows v n k d (stored f)
  refine does_of run ?_
  rw [settled_list, settled_dch, dch, held]
  refine ⟨?_, rfl, rfl, rfl, rfl⟩
  rw [State.list, swc]
  exact empty

end

/-- Settles O55: each clause is a lemma above, about one command of a channel, one transfer, one grant or the bus error. -/
theorem dmaChannels : Obligations.DmaChannels := by
  unfold Obligations.DmaChannels
  refine ⟨fun s h n ho => ⟨fun a b c => does_dmaStart ho a b c, fun d st info a b c => does_dmaStart_owed ho a b c,
    fun a b c => does_dmaStart_refused ho a b c, fun a => does_dmaPause ho a, fun a => does_dmaPause_refused ho a, fun a b => does_dmaResume ho a b,
    fun a b c => does_dmaStop ho a b c⟩, fun s n a => does_dmaPaused a, fun s h n tail ho => does_dmaTailWrite ho, fun s n ds a b c e => ⟨?_, ?_⟩,
    fun s n d data a b c e => does_h2d a b c e, fun s n d k data a b c e => does_d2h a b c e,
    fun s n d data c a b e => ⟨does_tx_grows a b e, does_tx_commits a b⟩, fun s n same d st info a b c e g => does_complete a b c e g,
    fun s h write m a b c => does_beatGrant a b c, fun s h kind fetch addr a => does_busError a, fun s n k d f act ty => ?_⟩
  · exact does_fetch_started a b c e
  · intro d l empty fresh may hds
    exact ⟨does_fetch_bad a b c e empty fresh may hds, does_fetch_sound a b c e empty fresh may hds,
      fun st => does_fetch_fails a b c e empty fresh may hds⟩
  · refine ⟨fun list c copy frame place => ⟨does_rx_part copy frame place act ty, does_rx_rest copy frame place act ty⟩,
      fun b l copy again place more => does_rx_again act ty copy again place more,
      fun q c copy again running bpm queue taken only frame more => does_rx_takes act ty copy again running bpm queue taken only frame more⟩

end Sys2Proof.Machine
end

section
set_option Elab.async false
/-! PROOFS. What the passes of the process data service leave alone (12_process_data_service.md R347 to R361): a pass builds and launches frames, and
touches neither the fan-out groups, nor the held passes that wait, nor the lists of copies, nor the counts of other passes. -/

namespace Sys2Proof.Machine

variable {s t u : State} {b : Prop}

/-- From `s` to `t` a pass has done work: a gather pass in progress goes on, and no fan-out group, no waiting held pass and no list of copies
changes; nor, if `b`, does a count of fan-out passes. -/
structure PassRest (b : Prop) (s t : State) : Prop where
  gather : t.pds.gather.isSome = s.pds.gather.isSome
  fanouts : t.pds.fanouts = s.pds.fanouts
  late : t.pds.late = s.pds.late
  lists : t.swc.lists = s.swc.lists
  counts : b → ∀ k, 7 ≤ k → k ≤ 9 → t.reg R.PDS_CNT k 0 = s.reg R.PDS_CNT k 0

theorem pdsCnt_off (k : Nat) : R.PDS_CNT.off k 0 = 0x500080 + 4 * k := by
  rw [RegSpec.off_eq, Nat.mul_comm]
  rfl

namespace PassRest

theorem refl (b : Prop) (s : State) : PassRest b s s := ⟨rfl, rfl, rfl, rfl, fun _ _ _ _ => rfl⟩

theorem trans (h : PassRest b s t) (k : PassRest b t u) : PassRest b s u :=
  ⟨k.gather.trans h.gather, k.fanouts.trans h.fanouts, k.late.trans h.late, k.lists.trans h.lists,
    fun hb i lo hi => (k.counts hb i lo hi).trans (h.counts hb i lo hi)⟩

/-- A change of other parts of the state. -/
theorem same (h : PassRest b s t) (hr : u.regs = t.regs := by rfl) (hp : u.pds = t.pds := by rfl) (hl : u.swc = t.swc := by rfl) : PassRest b s u :=
  h.trans ⟨by rw [hp], by rw [hp], by rw [hp], by rw [hl], fun _ _ _ _ => by simp only [State.reg, hr]⟩

theorem setReg {r : RegSpec} {v : Word} {i j : Nat} (h : PassRest b s t) (hr : b → r.off i j < 0x50009C ∨ 0x5000A4 < r.off i j) :
    PassRest b s (t.setReg r v i j) :=
  h.trans ⟨rfl, rfl, rfl, rfl, fun hb k lo hi => t.reg_setReg_other _ _ _ _ _ _ _ fun e => by
    have := hr hb
    rw [pdsCnt_off] at e
    omega⟩

theorem put {f : Fld} {v i j : Nat} (h : PassRest b s t) (hr : b → f.reg.off i j < 0x50009C ∨ 0x5000A4 < f.reg.off i j) : PassRest b s (t.put f v i j) :=
  h.setReg hr

theorem evt {f : Fld} {i j : Nat} (h : PassRest b s t) (hr : b → f.reg.off i j < 0x50009C ∨ 0x5000A4 < f.reg.off i j) : PassRest b s (t.evt f i j) :=
  h.trans ⟨by rw [State.evt_pds], by rw [State.evt_pds], by rw [State.evt_pds], by rw [State.evt_swc], fun hb k lo hi =>
    t.reg_evt_other _ _ _ _ _ _ fun e => by
      have := hr hb
      rw [pdsCnt_off] at e
      omega⟩

theorem evtIf {f : Fld} {c : Bool} {i j : Nat} (h : PassRest b s t) (hr : b → f.reg.off i j < 0x50009C ∨ 0x5000A4 < f.reg.off i j) :
    PassRest b s (t.evtIf c f i j) := by
  cases c
  · exact h
  · exact h.evt hr

theorem ite {c : Prop} [Decidable c] (ht : PassRest b s t) (hu : PassRest b s u) : PassRest b s (if c then t else u) := by
  split
  · exact ht
  · exact hu

theorem foldl {α : Type} {f : State → α → State} (h : PassRest b s t) (l : List α) (hf : ∀ u, ∀ a ∈ l, PassRest b u (f u a)) : PassRest b s (l.foldl f t) :=
  List.foldlRecOn (motive := fun t => PassRest b s t) l f h fun _ ht a ha => ht.trans (hf _ a ha)

/-- A single register, at its offset. -/
theorem single {r : RegSpec} (hr : r.rowStride = 0 ∧ r.colStride = 0 ∧ (r.base < 0x50009C ∨ 0x5000A4 < r.base)) (i j : Nat) :
    r.off i j < 0x50009C ∨ 0x5000A4 < r.off i j := by
  obtain ⟨row, col, base⟩ := hr
  rw [RegSpec.off_eq, row, col]
  omega

/-! ## The service SRAM and the pools -/

theorem sramWrite (l : List Byte) (s : State) (a : Nat) : PassRest b s (s.sramWrite a l) := by
  obtain ⟨m, e⟩ := sramWrite_only l s a
  rw [e]
  exact (refl b s).same

theorem setPool (s : State) (k : Nat) (p : Pool) : PassRest b s (s.setPool k p) := (refl b s).same

/-- The registers of the pools lie below those of the process data service. -/
theorem poolOff {r : RegSpec} (hr : r.base + r.rowStride * 8 < 0x50009C ∧ r.colStride = 0) {k : Nat} (hk : k < 8) (j : Nat) :
    r.off k j < 0x50009C ∨ 0x5000A4 < r.off k j := by
  obtain ⟨row, col⟩ := hr
  rw [RegSpec.off_eq, col]
  have : k * r.rowStride ≤ r.rowStride * 8 := by rw [Nat.mul_comm]; exact Nat.mul_le_mul_left _ (by omega)
  omega

theorem poolSet (s : State) {k : Nat} (hk : k < 8) (p : Pool) : PassRest b s (s.poolSet k p) := by
  unfold State.poolSet State.poolShow
  exact put (put (setPool s k p) fun _ => poolOff (by decide) hk 0) fun _ => poolOff (by decide) hk 0

theorem ringWrite (s : State) (k pos : Nat) (l : List Nat) : PassRest b s (s.ringWrite k pos l) := by
  obtain ⟨m, o, e⟩ := ringWrite_only s k pos l
  rw [e]
  exact (refl b s).same

theorem spill (s : State) {k : Nat} (hk : k < 8) : PassRest b s (s.spill k) := (ringWrite s k _ _).trans (poolSet _ hk _)

theorem handlePool_lt (h : Nat) : handlePool h < 8 := Nat.mod_lt _ (by decide)

theorem bufferBack (s : State) (h : Nat) : PassRest b s (s.bufferBack h) := poolSet _ (handlePool_lt h) _

theorem dropName (s : State) (h req : Nat) : PassRest b s (s.dropName h req).2 := by
  unfold State.dropName
  dsimp only
  split
  · exact refl b s
  · split
    · exact setPool _ _ _
    · split
      · exact bufferBack _ _
      · split
        · split
          · exact refl b s
          · exact setPool _ _ _
        · exact (spill _ (handlePool_lt h)).trans (bufferBack _ _)

theorem bpmReject (s : State) (kind req h : Nat) : PassRest b s (s.bpmReject kind req h) := by
  have captured : PassRest b s (((s.inc F.BPM_REJ_CNT_COUNT).evt F.BPM_EVT_REJECT).capture F.BPM_ERR_VALID F.BPM_ERR_MULTI
      (BitVec.ofNat 32 (kind * 2 ^ 28 + req))) := by
    have counted : PassRest b s ((s.inc F.BPM_REJ_CNT_COUNT).evt F.BPM_EVT_REJECT) :=
      evt (put (refl b s) fun _ => single (by decide) _ _) fun _ => single (by decide) _ _
    unfold State.capture
    exact ite (put counted fun _ => single (by decide) _ _) (setReg counted fun _ => single (by decide) _ _)
  unfold State.bpmReject
  exact ite (put captured fun _ => single (by decide) _ _) captured

theorem hwRelease (s : State) (h req : Nat) : PassRest b s (s.hwRelease h req) := by
  unfold State.hwRelease State.bpmRelease
  split
  · exact bpmReject _ _ _ _
  · exact dropName _ _ _

theorem bpmAdd (s : State) (h req name : Nat) : PassRest b s (s.bpmAdd h req name).2 := by
  unfold State.bpmAdd
  split
  · exact bpmReject _ _ _ _
  · split
    · exact refl b s
    · split
      · exact refl b s
      · split
        · exact refl b s
        · exact setPool _ _ _

theorem bpmAlloc (s : State) (size user : Nat) (place : Option Bool) (names : List Nat) : PassRest b s (s.bpmAlloc size user place names).2.2 := by
  unfold State.bpmAlloc
  split
  · exact evt (f := F.BPM_EVT_FAIL) (refl b s) fun _ => single (by decide) _ _
  · next k serves =>
    have hk : k < 8 := List.mem_range.1 (List.mem_of_find?_eq_some serves)
    have failed : PassRest b s ((s.inc F.BPM_POOL_FAIL_COUNT k).evt F.BPM_EVT_FAIL) :=
      evt (put (refl b s) fun _ => poolOff (by decide) hk 0) fun _ => single (by decide) _ _
    dsimp only
    split
    · split
      · exact failed
      · exact poolSet _ hk _
    · exact failed

/-! ## The launch calendars -/

/-- The registers of the schedulers lie below those of the process data service. -/
theorem egsOff {r : RegSpec} (hr : r.base + r.rowStride * 128 < 0x50009C ∧ r.colStride = 0) {p : Nat} (hp : p < 128) (j : Nat) :
    r.off p j < 0x50009C ∨ 0x5000A4 < r.off p j := by
  obtain ⟨row, col⟩ := hr
  rw [RegSpec.off_eq, col]
  have : p * r.rowStride ≤ r.rowStride * 128 := by rw [Nat.mul_comm]; exact Nat.mul_le_mul_left _ (by omega)
  omega

theorem calAdd (s : State) {p : Nat} (hp : b → p < 128) (e : CalEntry) : PassRest b s (s.calAdd p e).2 := by
  unfold State.calAdd
  dsimp only
  split
  · have counted : PassRest b s (s.inc F.EGS_LC_FULL_COUNT p) := put (refl b s) fun hb => egsOff (by decide) (hp hb) 0
    exact evt (f := F.EGS_EVT_LC_FULL) counted fun hb => egsOff (by decide) (hp hb) 0
  · split
    · exact refl b s
    · unfold State.calReport
      have shown := put (put ((refl b s).same (u := s.setEg p { s.eg p with cal := calInsert s.now e (s.eg p).cal }))
        (f := F.EGS_LC_STAT_OCC) (v := (((s.setEg p { s.eg p with cal := calInsert s.now e (s.eg p).cal }).eg p).cal).length) (j := 0)
        fun hb => egsOff (by decide) (hp hb) 0) (f := F.EGS_LC_STAT_ARMED)
        (v := if ((s.setEg p { s.eg p with cal := calInsert s.now e (s.eg p).cal }).eg p).cal.isEmpty then 0 else 1) (j := 0)
        fun hb => egsOff (by decide) (hp hb) 0
      exact ite shown.same shown

theorem launchInsert (s : State) {ports : List Nat} (hp : b → ∀ p ∈ ports, p < 128) (e : CalEntry) (mac : Nat) :
    PassRest b s (s.launchInsert ports e mac).2.2 := by
  have numbered : PassRest b s (s.launchSeq ports mac).2 := by
    unfold State.launchSeq
    split
    · exact (refl b s).same
    · exact refl b s
  rw [launchInsert_eq]
  exact List.foldlRecOn (motive := fun a : CalResult × List Nat × State => PassRest b s a.2.2) _ _ numbered fun a ha p mem => by
    rw [launchPort_state]
    exact ha.trans (calAdd _ (fun hb => hp hb p mem) _)

theorem egressRelease (s : State) (p : Nat) (e : CalEntry) : PassRest b s (s.egressRelease p e) :=
  foldl (refl b s) _ fun _ _ _ => hwRelease _ _ _

theorem pdsCnt (h : PassRest b s t) {k n : Nat} (hk : b → k < 7 ∨ 9 < k) : PassRest b s (t.pdsCnt k n) := h.put fun hb => by
  have := hk hb
  have at_ : F.PDS_CNT_COUNT.reg.off k 0 = 0x500080 + 4 * k := pdsCnt_off k
  omega

theorem pdsEvt (h : PassRest b s t) {f : Fld} (hf : f.reg = R.PDS_EVT) : PassRest b s (t.evt f) := h.evt fun _ => by
  rw [hf]
  exact single (by decide) _ _

theorem launchPorts_lt (s : State) {p : Nat} (hp : p < 128) : ∀ q ∈ s.launchPorts p, q < 128 := by
  unfold State.launchPorts
  split
  · intro q hq
    have : q < 72 := by simpa using (List.mem_filter.1 hq).2
    omega
  · intro q hq
    rw [List.mem_singleton.1 hq]
    exact hp

theorem pdsInsert (s : State) {r : Retained} (hr : b → r.port < 128) (l : List Byte) (start at_ : Int) :
    PassRest b s (s.pdsInsert r l start at_).2 := by
  unfold State.pdsInsert
  extract_lets ports lt e
  have inserted : PassRest b s (s.launchInsert ports e (beAt l 6 6)).2.2 := launchInsert s (fun hb => launchPorts_lt s (hr hb)) e _
  generalize s.launchInsert ports e (beAt l 6 6) = a at *
  obtain ⟨res, took, v⟩ := a
  have released := inserted.trans (foldl (refl b v) (ports.filter fun p => !took.contains p) fun u p _ => egressRelease u p e)
  dsimp only
  split
  · exact ite released.same released
  · exact pdsEvt (f := F.PDS_EVT_LC_REFUSED) (pdsCnt (k := 12) released fun _ => by decide) rfl

theorem relaunch (s : State) (r : Option Retained) (start at_ : Int) : PassRest False s (s.relaunch r start at_) := by
  unfold State.relaunch
  split
  · exact refl _ s
  · next x =>
    dsimp only
    split
    · exact refl _ s
    · refine pdsCnt (trans ?_ (pdsInsert _ False.elim _ _ _)) False.elim
      exact foldl (refl _ s) _ fun u h _ => foldl (refl _ u) _ fun _ _ _ => bpmAdd _ _ _ _

/-! ## Frames are built (R360, R361) -/

theorem pdsBuffers (n : Nat) (s : State) (size : Nat) (names acc : List Nat) : PassRest b s (s.pdsBuffers size names n acc).2 := by
  induction n generalizing s acc with
  | zero => exact refl b s
  | succ n ih =>
    unfold State.pdsBuffers
    have taken := bpmAlloc (b := b) s size userPDS (some false) names
    generalize s.bpmAlloc size userPDS (some false) names = a at *
    obtain ⟨st, h, v⟩ := a
    dsimp only at taken ⊢
    split
    · next e =>
      cases e
      exact taken.trans (ih _ _)
    · next e =>
      cases e
      exact taken.trans (foldl (refl b v) _ fun u h _ => foldl (refl b u) _ fun _ _ _ => hwRelease _ _ _)

theorem pdsStore (s : State) (hs : List Nat) (l : List Byte) : PassRest b s (s.pdsStore hs l) := by
  unfold State.pdsStore
  split
  · exact sramWrite _ _ _
  · exact foldl (refl b s) _ fun u e _ => (sramWrite _ _ _).trans (sramWrite _ _ _)

theorem retRelease (s : State) (r : Option Retained) : PassRest b s (s.retRelease r) := by
  unfold State.retRelease
  split
  · exact foldl (refl b s) _ fun _ _ _ => hwRelease _ _ _
  · exact refl b s

theorem setPds (h : PassRest b s t) {p : PdsState} (gather : p.gather.isSome = t.pds.gather.isSome := by rfl)
    (fanouts : p.fanouts = t.pds.fanouts := by rfl) (late : p.late = t.pds.late := by rfl) : PassRest b s (t.setPds p) :=
  h.trans ⟨gather, fanouts, late, rfl, fun _ _ _ _ => rfl⟩

theorem pdsBuild (s : State) (slot : Bool) (i : Nat) (body : List Byte) {port cnt : Nat} (hp : b → port < 128) (hc : b → cnt < 7 ∨ 9 < cnt)
    (queue : Nat) (timed : Bool) (ofs : Nat) (start at_ : Int) : PassRest b s (s.pdsBuild slot i body port queue timed ofs start at_ cnt) := by
  unfold State.pdsBuild
  extract_lets l n names
  have buffers := pdsBuffers (b := b) n s (if n = 1 then l.length else 1024) names []
  generalize s.pdsBuffers (if n = 1 then l.length else 1024) names n [] = a at *
  obtain ⟨o, v⟩ := a
  cases o with
  | none =>
    dsimp only at buffers ⊢
    exact pdsEvt (pdsCnt buffers fun _ => by omega) rfl
  | some hs =>
    dsimp only at buffers ⊢
    have inserted := fun r hr => (buffers.trans (pdsStore v hs l)).trans (pdsInsert (b := b) (v.pdsStore hs l) (r := r) hr l start at_)
    generalize hr : (Retained.mk hs port queue l.length timed ofs (ts40 (domRound ((v.pdsStore hs l).dom 0)))) = r
    have here := inserted r (fun hb => by rw [← hr]; exact hp hb)
    generalize (v.pdsStore hs l).pdsInsert r l start at_ = w at here
    have counted : PassRest b s (if w.1 then w.2.pdsCnt cnt else w.2) := ite (pdsCnt here hc) here
    generalize (if w.1 then w.2.pdsCnt cnt else w.2) = x at counted
    split
    · exact setPds (counted.trans (retRelease _ _))
    · exact setPds (counted.trans (retRelease _ _))

/-! ## Link operations (R365) -/

theorem linkRun (s : State) (gather : Option Gather) (i : Nat) : PassRest b s (s.linkRun gather i).2 := by
  unfold State.linkRun
  extract_lets l src dst xs xd so dof stale x p y s1 s2 rlim y' s3 s4
  split
  · exact pdsCnt (refl b s) fun _ => by omega
  · split
    · exact refl b s
    · have counted : PassRest b s s1 := pdsCnt (refl b s) fun _ => by omega
      have limited : PassRest b s s2 := ite counted (pdsEvt (pdsCnt counted fun _ => by omega) rfl)
      have slewed : PassRest b s s3 := ite limited (pdsEvt (pdsCnt limited fun _ => by omega) rfl)
      exact setPds (slewed.trans (sramWrite _ _ _))

theorem linksRun (s : State) (gather : Option Gather) (grp : Option Nat) : PassRest b s (s.linksRun gather grp).2 := by
  unfold State.linksRun
  refine List.foldlRecOn (motive := fun a : List (Nat × Bool) × State => PassRest b s a.2) _ _ (refl b s) fun a ha i _ => ?_
  have ran := ha.trans (linkRun a.2 gather i)
  generalize a.2.linkRun gather i = r at ran
  obtain ⟨o, v⟩ := r
  cases o <;> exact ran

/-! ## The passes (R347, R352, R354, R368) -/

theorem nb_lt (n hi lo : Nat) : nb n hi lo < 2 ^ (hi + 1 - lo) := Nat.mod_lt _ (Nat.two_pow_pos _)

theorem gatherStep (s : State) (st : GatherStep) : PassRest b s (s.gatherStep st) := by
  unfold State.gatherStep
  split
  · exact refl b s
  · next gt hg =>
    have some_ : s.pds.gather.isSome = true := by rw [hg]; rfl
    extract_lets gt'
    cases st with
    | link i =>
      dsimp only
      have ran : PassRest b s (s.linkRun (some gt') i).2 := linkRun s _ i
      generalize s.linkRun (some gt') i = r at ran
      exact setPds ran (gather := (ran.gather.trans some_).symm)
    | virtuals =>
      dsimp only
      have begun : PassRest b s (s.setPds { s.pds with gather := some gt' }) := setPds (refl b s) (gather := some_.symm)
      refine foldl begun _ fun u e _ => ?_
      unfold State.slotVirtualDone
      exact ite (setPds (refl b u)) (setPds (refl b u))
    | record g i => exact setPds (refl b s) (gather := some_.symm)
    | build g =>
      have begun : PassRest b s (s.setPds { s.pds with gather := some { gt' with part := [] } }) := setPds (refl b s) (gather := some_.symm)
      exact begun.trans (pdsBuild _ _ _ _ (fun _ => nb_lt _ 32 26) (fun _ => by omega) _ _ _ _ _)

theorem gatherCatchUp (s : State) : PassRest b s s.gatherCatchUp := by
  unfold State.gatherCatchUp
  split
  · exact refl b s
  · refine foldl ((refl b s).same) _ fun u st _ => ?_
    split
    · exact ite (gatherStep _ _) (refl b u)
    · exact refl b u

theorem passBegin (s : State) (due : Int) : PassRest b s (s.passBegin due).2 := by
  unfold State.passBegin
  dsimp only
  exact ite (pdsEvt (pdsCnt (gatherCatchUp s) fun _ => by omega) rfl) (gatherCatchUp s)

theorem passEnd (s : State) (began : Int) (cost : Nat) : PassRest b s (s.passEnd began cost) := setPds (refl b s) (gather := by simp)

/-- The frame of one output slot in a pass. -/
def passSlot (cyc : Int × Nat) (held : Bool) (began : Int) (wrote : List (Nat × Bool)) (a : Nat × State) (i : Nat) : Nat × State :=
  let s := a.2
  let x := s.pslot i
  match s.axisFrame i cyc.2 held wrote with
  | none => (a.1, (s.pdsCnt 16).evt F.PDS_EVT_BUILD_ERR)
  | some b =>
    let cost := a.1 + 16 + (nb (s.template (nb x.img 59 50)) 29 19 + 63) / 64
    (cost, s.pdsBuild true i b (nb x.img 76 70) (nb x.img 79 77) (x.img.testBit 80) (nb x.img 104 81) cyc.1 (began + 800 * cost) 10)

theorem passSlot_rest (cyc : Int × Nat) (held : Bool) (began : Int) (wrote : List (Nat × Bool)) (a : Nat × State) (i : Nat) :
    PassRest b a.2 (passSlot cyc held began wrote a i).2 := by
  unfold passSlot
  dsimp only
  split
  · exact pdsEvt (f := F.PDS_EVT_BUILD_ERR) (pdsCnt (k := 16) (refl b a.2) fun _ => by decide) rfl
  · exact pdsBuild _ _ _ _ (fun _ => nb_lt _ 76 70) (fun _ => by omega) _ _ _ _ _

theorem passFrames_eq (s : State) (g : Nat) (cyc : Int × Nat) (held : Bool) (began : Int) (cost : Nat) : s.passFrames g cyc held began cost =
    let v := (s.linksRun none (some g)).2
    let r := (v.groupOut g).foldl (passSlot cyc held began (s.linksRun none (some g)).1) (cost + 2 * (v.linksOf (some g)).length, v)
    r.2.passEnd began r.1 := rfl

theorem passFrames (s : State) (g : Nat) (cyc : Int × Nat) (held : Bool) (began : Int) (cost : Nat) :
    PassRest b s (s.passFrames g cyc held began cost) := by
  rw [passFrames_eq]
  dsimp only
  refine PassRest.trans ?_ (passEnd _ _ _)
  exact List.foldlRecOn (motive := fun a : Nat × State => PassRest b s a.2) _ _ (linksRun s none (some g)) fun a ha i _ =>
    ha.trans (passSlot_rest _ _ _ _ _ _)

theorem setPslot (h : PassRest b s t) {i : Nat} {x : PdsSlot} : PassRest b s (t.setPslot i x) := setPds h

theorem extract (s : State) (g : Nat) (f : Frame) : PassRest b s (s.extract g f) := by
  unfold State.extract
  extract_lets all fits good s1 s2
  have counted : PassRest b s s1 := pdsCnt (refl b s) fun _ => by omega
  have stored : PassRest b s s2 := foldl counted _ fun u i _ => sramWrite _ _ _
  exact foldl stored _ fun u i _ => setPslot (refl b u)

end PassRest
end Sys2Proof.Machine
end

section
set_option Elab.async false
/-! PROOFS. The process data service: fan-in, the gather deadline and the gather pass (12_process_data_service.md R342 to R347). -/

namespace Sys2Proof.Machine

variable {s t u : State}

/-! ## The service SRAM reads back what was written -/

theorem Low.underTest (h : Low s t) (m : Nat) : t.underTest m = s.underTest m := by
  unfold State.underTest
  rw [h.bit _ (by decide), h.get _ (by decide), h.get _ (by decide)]

theorem sramByte_congr (ram : t.sram = s.sram) (lost : t.sramLost = s.sramLost) (test : t.underTest 3 = s.underTest 3) (a : Nat) :
    t.sramByte a = s.sramByte a := by
  unfold State.sramByte
  rw [ram, lost, test]

theorem sramWrite_other (l : List Byte) (s : State) {a x : Nat} (hx : x < a) : (s.sramWrite a l).sramByte x = s.sramByte x := by
  induction l generalizing s a with
  | nil => rfl
  | cons b l ih =>
    unfold State.sramWrite
    split
    · rfl
    · exact (ih (s.sramPut a b) (by omega)).trans (State.sramByte_sramPut_other s b (by omega))

theorem sramWrite_same (l : List Byte) (s : State) {a : Nat} (fits : a + l.length ≤ sramSize) (idle : s.underTest 3 = false) (k : Nat) (hk : k < l.length) :
    (s.sramWrite a l).sramByte (a + k) = l[k] := by
  induction l generalizing s a k with
  | nil => exact absurd hk (Nat.not_lt_zero _)
  | cons b l ih =>
    have len : (b :: l).length = l.length + 1 := rfl
    have step : s.sramWrite a (b :: l) = (s.sramPut a b).sramWrite (a + 1) l := by
      refine Eq.trans (b := if sramSize ≤ a ∨ s.underTest 3 = true then s else (s.sramPut a b).sramWrite (a + 1) l) rfl (if_neg ?_)
      rintro (h | h)
      · omega
      · rw [idle] at h
        cases h
    have idle' : (s.sramPut a b).underTest 3 = false := by rw [State.sramPut_underTest, idle]
    rw [step]
    cases k with
    | zero => exact (sramWrite_other l _ (by omega)).trans (State.sramByte_sramPut_same s a b idle)
    | succ k =>
      have next : a + (k + 1) = a + 1 + k := by omega
      rw [next]
      exact ih (s.sramPut a b) (by omega) idle' k (by omega)

theorem sramWrite_readsBack {l : List Byte} {a : Nat} (fits : a + l.length ≤ sramSize) (idle : s.underTest 3 = false)
    (hb : ∀ x, t.sramByte x = (s.sramWrite a l).sramByte x) : t.sramBytes a l.length = l := by
  unfold State.sramBytes
  rw [min_eq_left (by omega)]
  refine List.ext_getElem (by simp) fun k h _ => ?_
  rw [List.getElem_map, List.getElem_range, hb]
  exact sramWrite_same l s fits idle k (by simpa using h)

/-! ## A copy of a list of the service ends -/

namespace PassRest

variable {b : Prop}

theorem dec {f : Fld} {i j n : Nat} (h : PassRest b s t) (hr : b → f.reg.off i j < 0x50009C ∨ 0x5000A4 < f.reg.off i j) :
    PassRest b s (t.dec f i j n) := h.put hr

theorem portOff {r : RegSpec} (hr : 0x800000 ≤ r.base) (i j : Nat) : r.off i j < 0x50009C ∨ 0x5000A4 < r.off i j := by
  have := r.base_le_off i j
  omega

/-- The registers of the lists lie below those of the service. -/
theorem listOff {r : RegSpec} (hr : r.base + r.rowStride * 616 < 0x50009C ∧ r.colStride = 0) {n : Nat} (hn : n < 616) (j : Nat) :
    r.off n j < 0x50009C ∨ 0x5000A4 < r.off n j := by
  obtain ⟨row, col⟩ := hr
  rw [RegSpec.off_eq, col]
  have : n * r.rowStride ≤ r.rowStride * 616 := by rw [Nat.mul_comm]; exact Nat.mul_le_mul_left _ (by omega)
  omega

theorem setFrame (h : PassRest b s t) {k : Nat} {f : Option Frame} : PassRest b s (t.setFrame k f) := h.same

theorem modFrame (h : PassRest b s t) {k : Nat} {g : Frame → Frame} : PassRest b s (t.modFrame k g) := by
  unfold State.modFrame
  split
  · exact h.setFrame
  · exact h

theorem cells (h : PassRest b s t) {c : Tab Cell} : PassRest b s { t with swc := { t.swc with cells := c } } :=
  h.trans ⟨rfl, rfl, rfl, rfl, fun _ _ _ _ => rfl⟩

theorem freeCell (s : State) (k i : Nat) : PassRest b s (s.freeCell k i) := by
  unfold State.freeCell
  split
  · exact refl b s
  · have freed := put (cells (refl b s) (c := tabErase i s.swc.cells)) (f := F.SWC_FREE_CELLS) (v := s.get F.SWC_FREE_CELLS + 1) (i := 0) (j := 0)
      fun _ => single (by decide) _ _
    exact ite (dec (dec freed fun _ => portOff (by decide) _ _) fun _ => portOff (by decide) _ _) freed

theorem unrefCell (s : State) (k i : Nat) : PassRest b s (s.unrefCell k i) := by
  unfold State.unrefCell
  split
  · exact refl b s
  · exact ite (freeCell _ _ _) (cells (refl b s))

theorem releaseRefs (s : State) (f : Frame) (c : Copy) : PassRest b s (s.releaseRefs f c) :=
  foldl (refl b s) _ fun v o _ => by
    cases o with
    | none => exact refl b v
    | some i => exact unrefCell _ _ _

theorem settle (s : State) (k : Nat) : PassRest b s (s.settle k) := by
  cases hf : s.frame k with
  | none => rw [settle_none hf]; exact refl b s
  | some f =>
    rw [settle_eq hf]
    have freed : PassRest b s (s.cellsFreed k f) := by
      unfold State.cellsFreed
      refine put (foldl (foldl (refl b s) _ fun v i _ => freeCell v k i) _ fun v e _ => ?_) fun _ => single (by decide) _ _
      split
      · exact freeCell _ _ _
      · exact put (refl b v) fun _ => single (by decide) _ _
    exact ite freed.setFrame (refl b s)

theorem endCopy (s : State) {n : Nat} (hn : n < 616) (c : Copy) : PassRest b s (s.endCopy n c) := by
  unfold State.endCopy
  split
  · exact refl b s
  · next f _ =>
    have counted : PassRest b s (s.subOcc n f.begun) :=
      put (put (refl b s) (f := F.SWC_QOCC_CELLS) fun _ => listOff (by decide) hn 0) (f := F.SWC_SHARED_S) fun _ => single (by decide) _ _
    exact (modFrame (counted.trans (releaseRefs _ _ _))).trans (settle _ _)

end PassRest

theorem Ends.pds (h : Ends s t) : t.pds = s.pds := by
  obtain ⟨-, r, c, l, rfl⟩ := h
  rfl

theorem Ends.memory (h : Ends s t) : t.sram = s.sram ∧ t.sramLost = s.sramLost := by
  obtain ⟨-, r, c, l, rfl⟩ := h
  exact ⟨rfl, rfl⟩

/-! ## The copy that the service takes (R342) -/

theorem pdsHead_some {n : Nat} {c : Copy} {f : Frame} {ed : EditRec} (h : s.pdsHead = some (n, c, f, ed)) :
    n < 616 ∧ (∃ l, s.list n = c :: l) ∧ s.frame c.fid = some f := by
  unfold State.pdsHead at h
  split at h
  · cases h
  next m hm =>
    split at h
    · cases h
    next x hx =>
      cases hf : s.frame x.fid with
      | none =>
        rw [hf] at h
        cases h
      | some y =>
        rw [hf] at h
        cases h
        have mem := List.mem_of_find?_eq_some hm
        refine ⟨?_, List.head?_eq_some_iff.1 hx, hf⟩
        simp only [List.mem_cons, List.not_mem_nil, or_false] at mem
        omega

/-- A head copy that has not expired, in cells without errors, is taken. -/
theorem takeSound_head {n : Nat} {c : Copy} {l : List Copy} (hl : s.list n = c :: l) (young : s.expired n c = false)
    (sound : ∀ i ∈ s.unreadCells c, s.cellEcc i = 0) : s.takeSound n = (some c, s.unlink n 0) := by
  have head : s.takeHead n = (some c, s.unlink n 0) := by
    rw [takeHead_cons hl, if_neg (by rw [young]; exact Bool.false_ne_true)]
  have cells : (s.unlink n 0).unreadCells c = s.unreadCells c := rfl
  have errors : ∀ i, (s.unlink n 0).cellEcc i = s.cellEcc i := fun i => rfl
  have none_ : ((s.unlink n 0).unreadCells c).find? (fun i => (s.unlink n 0).cellEcc i == 2) = none :=
    List.find?_eq_none.2 fun i hi => by
      rw [cells] at hi
      simp only [errors, sound i hi]
      decide
  have clean : (s.unlink n 0).eccCorrect ((s.unlink n 0).unreadCells c) = s.unlink n 0 := by
    unfold State.eccCorrect
    refine List.foldlRecOn (motive := fun v => v = s.unlink n 0) _ _ rfl fun v hv i hi => ?_
    rw [cells] at hi
    rw [hv, if_neg (by rw [errors, sound i hi]; decide)]
  unfold State.takeSound
  rw [head]
  dsimp only
  rw [none_, clean]

theorem unlink_list {n : Nat} {c : Copy} {l : List Copy} (hl : s.list n = c :: l) : (s.unlink n 0).list n = l := by
  obtain ⟨r, e⟩ := unlink_eq s n 0
  rw [e, hl]
  exact list_setList_same s n l

theorem unlink_pds (s : State) (n i : Nat) : (s.unlink n i).pds = s.pds := rfl

/-! ## Fan-in (R343 to R345) -/

/-- The counts and the event of a drive input. -/
def State.fanInNoted (s : State) (x : PdsSlot) (f : Frame) : State :=
  let s := s.pdsCnt 0
  let s := if x.fresh then s.pdsCnt 2 else s
  match s.pds.lastDue with
  | some d => if f.time < d then (s.pdsCnt 1).evt F.PDS_EVT_LATE else s
  | none => s

/-- Only registers change, and the vectors that an event arms. -/
theorem fanInNoted_shows (s : State) (x : PdsSlot) (f : Frame) : Low s (s.fanInNoted x f) ∧ (s.fanInNoted x f).sram = s.sram ∧
    (s.fanInNoted x f).sramLost = s.sramLost ∧ (s.fanInNoted x f).pds = s.pds ∧ (s.fanInNoted x f).swc = s.swc := by
  have counted : Low s (s.pdsCnt 0) ∧ (s.pdsCnt 0).sram = s.sram ∧ (s.pdsCnt 0).sramLost = s.sramLost ∧ (s.pdsCnt 0).pds = s.pds ∧
      (s.pdsCnt 0).swc = s.swc := ⟨Low.pdsCnt (Low.refl s), rfl, rfl, rfl, rfl⟩
  unfold State.fanInNoted
  generalize s.pdsCnt 0 = v at *
  obtain ⟨low, ram, lost, pds, swc⟩ := counted
  have again : Low s (if x.fresh then v.pdsCnt 2 else v) ∧ (if x.fresh then v.pdsCnt 2 else v).sram = s.sram ∧
      (if x.fresh then v.pdsCnt 2 else v).sramLost = s.sramLost ∧ (if x.fresh then v.pdsCnt 2 else v).pds = s.pds ∧
      (if x.fresh then v.pdsCnt 2 else v).swc = s.swc := by
    split
    · exact ⟨Low.pdsCnt low, ram, lost, pds, swc⟩
    · exact ⟨low, ram, lost, pds, swc⟩
  dsimp only
  generalize (if x.fresh then v.pdsCnt 2 else v) = w at *
  obtain ⟨low, ram, lost, pds, swc⟩ := again
  split
  · split
    · refine ⟨Low.evt (Low.pdsCnt low), ?_, ?_, ?_, ?_⟩
      · rw [State.evt_sram]; exact ram
      · rw [State.evt_sramLost]; exact lost
      · rw [State.evt_pds]; exact pds
      · rw [State.evt_swc]; exact swc
    · exact ⟨low, ram, lost, pds, swc⟩
  · exact ⟨low, ram, lost, pds, swc⟩

theorem fanIn_eq {f : Frame} {i : Nat} (idle : s.pds.gather = none) (used : slotIn (s.pslot i) = true) (real : slotVirtual (s.pslot i) = false)
    (long : slotSrcOfs (s.pslot i) + slotLen (s.pslot i) ≤ f.rx.length - 4) : s.fanIn f i =
    ((s.sramWrite (slotBuf (s.pslot i) (!(s.pslot i).cur)) (bytesAt f.rx (slotSrcOfs (s.pslot i)) (slotLen (s.pslot i)))).fanInNoted
      (s.pslot i) f).setPslot i { s.pslot i with cur := !(s.pslot i).cur, fresh := true } := by
  simp only [State.fanIn, used, real, if_neg (Nat.not_lt.2 long), idle]
  rfl

theorem pslot_setPslot (s : State) (i : Nat) (x : PdsSlot) : (s.setPslot i x).pslot i = x := tabGet_set_same ..

theorem State.pslot_of_pds (h : t.pds = s.pds) (i : Nat) : t.pslot i = s.pslot i := by rw [State.pslot, State.pslot, h]

theorem settled_pslot (b t : State) (i : Nat) : (settled b t).pslot i = t.pslot i := State.pslot_of_pds (settled_pds b t) i

section
variable {n : Nat} {c : Copy} {f : Frame} {ed : EditRec}

theorem pdsFanIn_eq (head : s.pdsHead = some (n, c, f, ed)) (role : ed.pdsRole = 1) (young : s.expired n c = false)
    (sound : ∀ i ∈ s.unreadCells c, s.cellEcc i = 0) : s.pdsFanIn = ((s.unlink n 0).fanIn f ed.pdsIndex).endCopy n c := by
  obtain ⟨-, ⟨l, hl⟩, -⟩ := pdsHead_some head
  have other : ¬ (s.pdsRuns = true ∧ ed.pdsRole = 2) := fun h => by
    rw [role] at h
    exact absurd h.2 (by decide)
  unfold State.pdsFanIn
  rw [head]
  dsimp only
  rw [if_neg other, takeSound_head hl young sound]
  dsimp only
  rw [if_pos role]

theorem does_fanin (head : s.pdsHead = some (n, c, f, ed)) (role : ed.pdsRole = 1) (young : s.expired n c = false) (idle : s.pds.gather = none)
    (untested : s.underTest 3 = false) (sound : ∀ i ∈ s.unreadCells c, s.cellEcc i = 0) (used : slotIn (s.pslot ed.pdsIndex) = true)
    (real : slotVirtual (s.pslot ed.pdsIndex) = false) (long : slotSrcOfs (s.pslot ed.pdsIndex) + slotLen (s.pslot ed.pdsIndex) ≤ f.rx.length - 4)
    (fits : slotBuf (s.pslot ed.pdsIndex) (!(s.pslot ed.pdsIndex).cur) + slotLen (s.pslot ed.pdsIndex) ≤ sramSize) : Does .fanin s fun t =>
      t.pslot ed.pdsIndex = { s.pslot ed.pdsIndex with cur := !(s.pslot ed.pdsIndex).cur, fresh := true } ∧
      t.slotBytes (s.pslot ed.pdsIndex) (!(s.pslot ed.pdsIndex).cur) = bytesAt f.rx (slotSrcOfs (s.pslot ed.pdsIndex)) (slotLen (s.pslot ed.pdsIndex)) ∧
      t.list n = (s.list n).tail := by
  obtain ⟨-, ⟨l, hl⟩, -⟩ := pdsHead_some head
  have run : exec .fanin s = finish s s.pdsFanIn := rfl
  rw [pdsFanIn_eq head role young sound] at run
  have same : (s.unlink n 0).pslot ed.pdsIndex = s.pslot ed.pdsIndex := rfl
  have list : (s.unlink n 0).list n = l := unlink_list hl
  have low : Low s (s.unlink n 0) := Low.unlink s n 0
  have waits : (s.unlink n 0).pds.gather = none := idle
  generalize s.unlink n 0 = v at *
  have eq := fanIn_eq (s := v) (f := f) (i := ed.pdsIndex) waits (by rw [same]; exact used) (by rw [same]; exact real) (by rw [same]; exact long)
  rw [same] at eq
  have length : (bytesAt f.rx (slotSrcOfs (s.pslot ed.pdsIndex)) (slotLen (s.pslot ed.pdsIndex))).length = slotLen (s.pslot ed.pdsIndex) := by
    simp [bytesAt]
  rw [eq] at run
  generalize s.pslot ed.pdsIndex = x at *
  generalize bytesAt f.rx (slotSrcOfs x) (slotLen x) = data at *
  obtain ⟨noted, ram, lost, -, swc⟩ := fanInNoted_shows (v.sramWrite (slotBuf x (!x.cur)) data) x f
  obtain ⟨m, only⟩ := sramWrite_only data v (slotBuf x (!x.cur))
  have stored : Low v (v.sramWrite (slotBuf x (!x.cur)) data) := Low.sramWrite _ _ _
  have wtest : (v.sramWrite (slotBuf x (!x.cur)) data).underTest 3 = false := (stored.underTest 3).trans ((low.underTest 3).trans untested)
  have kept : (v.sramWrite (slotBuf x (!x.cur)) data).swc = v.swc := by rw [only]
  generalize (v.sramWrite (slotBuf x (!x.cur)) data).fanInNoted x f = w at *
  have slot := pslot_setPslot w ed.pdsIndex { x with cur := !x.cur, fresh := true }
  have ram' : (w.setPslot ed.pdsIndex { x with cur := !x.cur, fresh := true }).sram = w.sram := rfl
  have lost' : (w.setPslot ed.pdsIndex { x with cur := !x.cur, fresh := true }).sramLost = w.sramLost := rfl
  have swc' : (w.setPslot ed.pdsIndex { x with cur := !x.cur, fresh := true }).swc = w.swc := rfl
  have low' : Low w (w.setPslot ed.pdsIndex { x with cur := !x.cur, fresh := true }) := Low.setPds (Low.refl w)
  generalize w.setPslot ed.pdsIndex { x with cur := !x.cur, fresh := true } = y at *
  have ended : Ends y (y.endCopy n c) := Ends.endCopy y n c
  have low'' : Low y (y.endCopy n c) := Low.endCopy y n c
  generalize y.endCopy n c = z at *
  refine does_of run ⟨?_, ?_, ?_⟩
  · rw [settled_pslot, State.pslot_of_pds ended.pds, slot]
  · obtain ⟨eram, elost⟩ := ended.memory
    have bytes := sramWrite_readsBack (s := v) (t := settled s z) (a := slotBuf x (!x.cur)) (l := data) (by rw [length]; exact fits)
      ((low.underTest 3).trans untested) fun a => sramByte_congr (by rw [settled_sram, eram, ram', ram]) (by rw [settled_sramLost, elost, lost', lost])
        (by rw [settled_underTest, low''.underTest, low'.underTest, noted.underTest]) a
    rw [length] at bytes
    exact bytes
  · rw [settled_list, State.list, ended.lists, swc', swc, kept, hl]
    exact list

end

end Sys2Proof.Machine
end

section
set_option Elab.async false
/-! PROOFS. The process data service: the gather deadline and the passes (12_process_data_service.md R346, R347, R351 to R356), and the obligation
about them. -/

namespace Sys2Proof.Machine

variable {s t u : State}

/-! ## The snapshot of the slots (R346) -/

/-- What a slot in use becomes at the gather deadline. -/
def snapValue (oper : PdsOper) (x : PdsSlot) : PdsSlot :=
  if slotVirtual x then { x with fresh := false }
  else if x.fresh then { x with fresh := false, stale := false, miss := 0, fault := false }
  else { x with fresh := false, stale := true, miss := min 255 (x.miss + 1), fault := decide (oper.missIn ≠ 0 ∧ oper.missIn ≤ min 255 (x.miss + 1)) }

/-- The snapshot of one slot. -/
def State.snapSlot (s : State) (e : Nat × PdsSlot) : State :=
  if slotVirtual e.2 then s.setPslot e.1 { e.2 with fresh := false }
  else if e.2.fresh then s.slotFresh e.1 e.2 else s.slotMissed e.1 e.2

theorem snapSlot_pds (s : State) (e : Nat × PdsSlot) :
    (s.snapSlot e).pds = { s.pds with slots := tabSet {} s.pds.slots e.1 (snapValue s.pds.oper e.2) } := by
  unfold State.snapSlot snapValue
  split_ifs
  · rfl
  · rfl
  · unfold State.slotMissed
    extract_lets m f v
    have same : v.pds = s.pds := State.evtIf_pds ..
    have slots : (v.setPslot e.1 { e.2 with fresh := false, stale := true, miss := m, fault := f }).pds =
        { v.pds with slots := tabSet {} v.pds.slots e.1 { e.2 with fresh := false, stale := true, miss := m, fault := f } } := rfl
    rw [slots, same]

/-- The snapshot of slots with different numbers: each takes its value, and nothing else of the service changes. -/
theorem foldl_snapSlot (l : List (Nat × PdsSlot)) (nodup : (l.map (·.1)).Nodup) (s : State) :
    (∃ x, (l.foldl State.snapSlot s).pds = { s.pds with slots := x }) ∧
    (∀ e ∈ l, (l.foldl State.snapSlot s).pslot e.1 = snapValue s.pds.oper e.2) ∧
    ∀ i, i ∉ l.map (·.1) → (l.foldl State.snapSlot s).pslot i = s.pslot i := by
  induction l generalizing s with
  | nil => exact ⟨⟨s.pds.slots, rfl⟩, fun e he => absurd he List.not_mem_nil, fun _ _ => rfl⟩
  | cons e l ih =>
    obtain ⟨away, rest⟩ := List.nodup_cons.1 nodup
    have first := snapSlot_pds s e
    have here : (s.snapSlot e).pslot e.1 = snapValue s.pds.oper e.2 := by
      rw [State.pslot, first]
      exact tabGet_set_same ..
    have others : ∀ i, i ≠ e.1 → (s.snapSlot e).pslot i = s.pslot i := fun i hi => by
      rw [State.pslot, first]
      exact tabGet_set_other _ _ _ hi _
    obtain ⟨⟨x, pds⟩, mem, out⟩ := ih rest (s.snapSlot e)
    rw [List.foldl_cons]
    refine ⟨⟨x, by rw [pds, first]⟩, fun y hy => ?_, fun i hi => ?_⟩
    · rcases List.mem_cons.1 hy with rfl | hy
      · rw [out _ away, here]
      · rw [mem y hy, first]
    · rw [List.map_cons, List.mem_cons, not_or] at hi
      rw [out i hi.2, others i hi.1]

/-- The state at the gather deadline before the snapshot: an OVERRUN counted, if the pass begins late (R369). -/
def State.gatherOpened (s : State) : State :=
  let v := s.setPds { s.pds with gathered := true }
  if psOf v.gatherDue + 1000000 < max (psOf v.now) v.pds.foEnd then (v.pdsCnt 17).evt F.PDS_EVT_OVERRUN else v

theorem gatherOpened_pds (s : State) : s.gatherOpened.pds = { s.pds with gathered := true } := by
  unfold State.gatherOpened
  extract_lets v
  split
  · rw [State.evt_pds]
    rfl
  · rfl

/-- The gather pass of a deadline. -/
def gatherOf (due began : Int) (cur : List Nat) (todo : List GatherStep) (p : PdsState) : Gather :=
  { start := p.start, cnt := p.cnt, due := due, cur := cur, began := began, used := 2, todo := todo }

/-- The gather pass begins, over the slots that have taken their snapshots. -/
def State.gatherBegun (s v : State) (cur : List Nat) (began : Int) : State :=
  let w := v.put F.PDS_STAT_GATHER_BUSY 1
  w.setPds { w.pds with lastDue := some s.gatherDue, gather := some (gatherOf s.gatherDue began cur w.gatherSteps w.pds) }

theorem gatherBegun_shows (s v : State) (cur : List Nat) (began : Int) : (s.gatherBegun v cur began).bit F.PDS_STAT_GATHER_BUSY = true ∧
    (s.gatherBegun v cur began).pds.gathered = v.pds.gathered ∧ (∀ i, (s.gatherBegun v cur began).pslot i = v.pslot i) ∧
    ∃ todo, (s.gatherBegun v cur began).pds.gather = some (gatherOf s.gatherDue began cur todo v.pds) :=
  ⟨State.bit_put_one v (by decide) (by decide) 0 0, rfl, fun _ => rfl, _, rfl⟩

theorem gatherDeadline_eq (runs : s.pdsRuns = true) (cycle : s.pds.cycle ≠ 0) (open_ : s.pds.gathered = false) (idle : s.pds.gather = none)
    (due : s.gatherDue ≤ s.now) (mode : s.mode ≠ modeHOLD) (live : s.pds.paused = false) :
    s.gatherDeadline = s.gatherBegun (s.gatherOpened.inSlots.foldl State.snapSlot s.gatherOpened)
      ((s.gatherOpened.inSlots.filter (fun e => e.2.cur)).map (fun e => e.1)) (max (psOf s.now) s.pds.foEnd) := by
  have go : (!s.pdsRuns || s.pds.cycle == 0 || s.pds.gathered || s.pds.gather.isSome || decide (s.now < s.gatherDue)) = false := by
    rw [runs, open_, idle, beq_eq_false_iff_ne.2 cycle, decide_eq_false (by omega)]
    rfl
  unfold State.gatherDeadline
  rw [go]
  have walk : ∀ v u : State, v.pds.paused = false → v.mode = s.mode → (if v.pds.paused then v else if v.mode = modeHOLD then
      v.pds.retGroup.foldl (fun s e => s.relaunch e.2 s.pds.start (psOf s.now)) v else u) = u := fun v u hv hm => by
    rw [if_neg (by rw [hv]; exact Bool.false_ne_true), if_neg (by rw [hm]; exact mode)]
  exact walk _ _ live rfl

/-- The input slots in use have different numbers. -/
theorem inSlots_nodup (h : (s.pds.slots.map (·.1)).Nodup) : (s.inSlots.map (·.1)).Nodup :=
  List.Nodup.sublist (List.Sublist.map _ List.filter_sublist) h

theorem mem_of_tabFind {α : Type} {i : Nat} {x : α} {l : Tab α} (h : tabFind? i l = some x) : (i, x) ∈ l := by
  induction l with
  | nil => cases h
  | cons e l ih =>
    obtain ⟨j, v⟩ := e
    unfold tabFind? at h
    split at h
    next same =>
      cases h
      rw [same]
      exact List.mem_cons_self
    · exact List.mem_cons_of_mem _ (ih h)

theorem does_gatherDeadline (runs : s.pdsRuns = true) (cycle : s.pds.cycle ≠ 0) (open_ : s.pds.gathered = false) (idle : s.pds.gather = none)
    (due : s.gatherDue ≤ s.now) (mode : s.mode ≠ modeHOLD) (live : s.pds.paused = false) (nodup : (s.pds.slots.map (·.1)).Nodup) :
    Does .gatherDeadline s fun t =>
      t.bit F.PDS_STAT_GATHER_BUSY = true ∧ t.pds.gathered = true ∧
      (∃ g, t.pds.gather = some g ∧ g.start = s.pds.start ∧ g.due = s.gatherDue ∧ g.cnt = s.pds.cnt) ∧
      ∀ i x, tabFind? i s.pds.slots = some x → slotIn x = true → slotVirtual x = false →
        (x.fresh = true → t.pslot i = { x with fresh := false, stale := false, miss := 0, fault := false }) ∧
        (x.fresh = false →
          let m := min 255 (x.miss + 1)
          t.pslot i = { x with fresh := false, stale := true, miss := m, fault := decide (s.pds.oper.missIn ≠ 0 ∧ s.pds.oper.missIn ≤ m) }) := by
  have run : exec .gatherDeadline s = finish s s.gatherDeadline := rfl
  rw [gatherDeadline_eq runs cycle open_ idle due mode live] at run
  have opened := gatherOpened_pds s
  have slots : s.gatherOpened.inSlots = s.inSlots := by rw [State.inSlots, State.inSlots, opened]
  rw [slots] at run
  obtain ⟨⟨y, pds⟩, value, -⟩ := foldl_snapSlot s.inSlots (inSlots_nodup nodup) s.gatherOpened
  generalize s.inSlots.foldl State.snapSlot s.gatherOpened = v at *
  rw [opened] at pds value
  obtain ⟨busy, gathered, slot, todo, gather⟩ := gatherBegun_shows s v ((s.inSlots.filter (fun e => e.2.cur)).map (fun e => e.1)) (max (psOf s.now) s.pds.foEnd)
  generalize s.gatherBegun v ((s.inSlots.filter (fun e => e.2.cur)).map (fun e => e.1)) (max (psOf s.now) s.pds.foEnd) = w at *
  refine does_of run ⟨?_, ?_, ?_, fun i x found used real => ?_⟩
  · rw [settled_bit_free _ _ (by decide), busy]
  · rw [settled_pds, gathered, pds]
  · rw [settled_pds, gather, pds]
    exact ⟨_, rfl, rfl, rfl, rfl⟩
  · have mem : (i, x) ∈ s.inSlots := List.mem_filter.2 ⟨mem_of_tabFind found, used⟩
    have here := value _ mem
    unfold snapValue at here
    rw [if_neg (by rw [real]; exact Bool.false_ne_true)] at here
    refine ⟨fun fresh => ?_, fun stale => ?_⟩
    · rw [settled_pslot, slot, here, if_pos fresh]
    · rw [settled_pslot, slot, here, if_neg (by rw [stale]; exact Bool.false_ne_true)]

/-! ## Held passes (R356) -/

theorem setFanout_pds (s : State) (g : Nat) (x : FanOut) : (s.setFanout g x).pds = { s.pds with fanouts := tabSet {} s.pds.fanouts g x } := rfl

/-- A held pass takes the place of no gather pass. -/
theorem heldRun_gather (s : State) (h : HeldRun) : (s.heldRun h).pds.gather.isSome = s.pds.gather.isSome := by
  unfold State.heldRun
  extract_lets g src v src' x w m
  have start : v.pds.gather.isSome = s.pds.gather.isSome := rfl
  split
  · have began : (w.passBegin h.due).2.pds.gather.isSome = w.pds.gather.isSome := (PassRest.passBegin (b := False) w h.due).gather
    generalize w.passBegin h.due = p at *
    dsimp only
    refine (PassRest.passEnd (b := False) _ _ _).gather.trans ?_
    refine List.foldlRecOn (motive := fun a : Nat × State => a.2.pds.gather.isSome = s.pds.gather.isSome) _ _ (began.trans start) fun a ha i _ => ?_
    exact (PassRest.relaunch _ _ _ _).gather.trans ha
  · have began : (v.passBegin h.due).2.pds.gather.isSome = v.pds.gather.isSome := (PassRest.passBegin (b := False) v h.due).gather
    generalize v.passBegin h.due = p at *
    dsimp only
    refine (PassRest.passFrames (b := False) _ _ _ _ _ _).gather.trans ?_
    rw [setFanout_pds]
    exact (congrArg (fun p : PdsState => p.gather.isSome) (State.evtIf_pds ..)).trans (began.trans start)

theorem gatherStep_gather (s : State) (st : GatherStep) : (s.gatherStep st).pds.gather.isSome = s.pds.gather.isSome :=
  (PassRest.gatherStep (b := False) s st).gather

theorem gatherRest_ends (h : s.pds.gather.isSome = true) : s.gatherRest.pds.gather = none ∧ s.gatherRest.bit F.PDS_STAT_GATHER_BUSY = false := by
  unfold State.gatherRest
  split
  next none_ =>
    rw [none_] at h
    cases h
  · exact ⟨rfl, State.bit_put_zero _ (by decide) _ _⟩

theorem does_gatherPass (h : s.pds.gather.isSome = true) : Does .gatherPass s fun t => t.pds.gather = none ∧ t.bit F.PDS_STAT_GATHER_BUSY = false := by
  have run : exec .gatherPass s = finish s s.gatherPass := rfl
  have some_ : s.pds.gather.isNone = false := by
    cases hg : s.pds.gather with
    | none =>
      rw [hg] at h
      cases h
    | some g => rfl
  have pass : s.gatherPass = (s.heldDue.foldl (fun s h => s.heldRun h) s).gatherRest := if_neg (by rw [some_]; exact Bool.false_ne_true)
  have kept : (s.heldDue.foldl (fun s h => s.heldRun h) s).pds.gather.isSome = true :=
    List.foldlRecOn (motive := fun v => v.pds.gather.isSome = true) _ _ h fun v hv x _ => (heldRun_gather v x).trans hv
  rw [pass] at run
  obtain ⟨ended, off⟩ := gatherRest_ends kept
  exact does_of run ⟨by rw [settled_pds, ended], by rw [settled_bit_free _ _ (by decide), off]⟩

/-- The group of a held pass after it. -/
def heldValue (oper : PdsOper) (h : HeldRun) (x : FanOut) : FanOut :=
  { x with miss := min 255 (x.miss + 1), held := true, lastRun := max x.lastRun h.id,
           fault := x.fault || decide (oper.missOut ≠ 0 ∧ oper.missOut ≤ min 255 (x.miss + 1)) }

theorem State.fanout_setFanout (s : State) (g : Nat) (x : FanOut) : (s.setFanout g x).fanout g = x := tabGet_set_same ..

theorem State.fanout_of_fanouts (h : t.pds.fanouts = s.pds.fanouts) (g : Nat) : t.fanout g = s.fanout g := by rw [State.fanout, State.fanout, h]

theorem settled_fanout (b t : State) (g : Nat) : (settled b t).fanout g = t.fanout g := State.fanout_of_fanouts (by rw [settled_pds]) g

theorem pdsCnt_same (s : State) (k : Nat) : (s.pdsCnt k).get F.PDS_CNT_COUNT k = min (s.get F.PDS_CNT_COUNT k + 1) (2 ^ 32 - 1) := by
  have width : F.PDS_CNT_COUNT.width = 32 := rfl
  rw [State.pdsCnt, State.get_inc_same _ _ _ _ _ (by decide), width]

theorem settled_count (b t : State) {k : Nat} (hk : k < 21) : (settled b t).get F.PDS_CNT_COUNT k = t.get F.PDS_CNT_COUNT k :=
  settled_get _ _ _ _ _ (not_pba (by decide) ⟨hk, Nat.one_pos⟩)

theorem PassRest.count (h : PassRest True s t) {k : Nat} (lo : 7 ≤ k) (hi : k ≤ 9) : t.get F.PDS_CNT_COUNT k = s.get F.PDS_CNT_COUNT k :=
  congrArg (getBits · _ _) (h.counts trivial k lo hi)

/-- A state that a held pass comes to before its frames: a miss has been counted. -/
def State.heldMissed (s : State) (h : HeldRun) : State :=
  let v := (s.setPds { s.pds with late := s.pds.late.filter (fun y => y != h) })
  let w := (v.passBegin h.due).2
  let x := { v.fanout h.group with lastRun := max (v.fanout h.group).lastRun h.id }
  let f := decide (w.pds.oper.missOut ≠ 0 ∧ w.pds.oper.missOut ≤ min 255 (x.miss + 1))
  ((w.pdsCnt 8).evtIf (f && !x.fault) F.PDS_EVT_OUT_FAULT).setFanout h.group { x with miss := min 255 (x.miss + 1), fault := x.fault || f, held := true }

theorem heldRun_eq (h : HeldRun) (mode : s.mode ≠ modeHOLD) : ∃ began, s.heldRun h = (s.heldMissed h).passFrames h.group (h.start, h.cnt) true began 0 := by
  have mode' : ({ s with pds := { s.pds with late := s.pds.late.filter (fun y => y != h) } } : State).mode ≠ modeHOLD := mode
  exact ⟨_, if_neg mode'⟩

/-- A pass that suspends no gather pass only begins. -/
theorem passBegin_pds (idle : s.pds.gather = none) (due : Int) : (s.passBegin due).2.pds = s.pds := by
  have same : s.gatherCatchUp = s := by
    unfold State.gatherCatchUp
    rw [idle]
  unfold State.passBegin
  rw [same]
  dsimp only
  split
  · rw [State.evt_pds]
    rfl
  · rfl

theorem heldMissed_shows (h : HeldRun) (idle : s.pds.gather = none) :
    (s.heldMissed h).fanout h.group = heldValue s.pds.oper h (s.fanout h.group) ∧ h ∉ (s.heldMissed h).pds.late ∧
    (s.heldMissed h).get F.PDS_CNT_COUNT 8 = min (s.get F.PDS_CNT_COUNT 8 + 1) (2 ^ 32 - 1) := by
  unfold State.heldMissed
  extract_lets src v w src' x f
  have pds : w.pds = v.pds := passBegin_pds (s := v) idle h.due
  have rest : PassRest True v w := PassRest.passBegin v h.due
  have oper : w.pds.oper = s.pds.oper := by rw [pds]; rfl
  have noted : ((w.pdsCnt 8).evtIf (f && !x.fault) F.PDS_EVT_OUT_FAULT).pds = v.pds := (State.evtIf_pds ..).trans pds
  refine ⟨?_, ?_, ?_⟩
  · rw [State.fanout_setFanout]
    unfold f heldValue
    rw [oper]
    rfl
  · rw [setFanout_pds, noted]
    intro mem
    have := (List.mem_filter.1 mem).2
    simp at this
  · have evt : ((w.pdsCnt 8).evtIf (f && !x.fault) F.PDS_EVT_OUT_FAULT).get F.PDS_CNT_COUNT 8 = (w.pdsCnt 8).get F.PDS_CNT_COUNT 8 :=
      State.get_evtIf_free _ (by decide) _ _ _ _ _
    refine Eq.trans ?_ (evt.trans ((pdsCnt_same w 8).trans (by rw [rest.count (by decide) (by decide)]; rfl)))
    exact State.get_of_regs rfl _ _ _

theorem does_heldPass {g : Fin 64} {h : HeldRun} {rest : List HeldRun} (due : s.heldDue = h :: rest) (group : h.group = g.val)
    (others : ∀ y ∈ rest, y.group ≠ g.val) (mode : s.mode ≠ modeHOLD) (idle : s.pds.gather = none) : Does (.heldPass g) s fun t =>
      let x := s.fanout g
      let m := min 255 (x.miss + 1)
      t.fanout g = { x with miss := m, held := true, lastRun := max x.lastRun h.id,
                            fault := x.fault || decide (s.pds.oper.missOut ≠ 0 ∧ s.pds.oper.missOut ≤ m) } ∧
      t.get F.PDS_CNT_COUNT 8 = min (s.get F.PDS_CNT_COUNT 8 + 1) (2 ^ 32 - 1) ∧ h ∉ t.pds.late := by
  have run : exec (.heldPass g) s = finish s (s.heldPass g) := rfl
  have none_ : rest.any (fun x => x.group == g.val) = false := by simpa using others
  have one : s.heldPass g = s.heldRun h := by
    unfold State.heldPass
    rw [due]
    have first : ((h :: rest).any fun x => x.group == g.val) = true := by rw [List.any_cons, group, beq_self_eq_true, Bool.true_or]
    unfold State.heldUpTo
    rw [if_pos first]
    cases rest with
    | nil => rfl
    | cons y rest => exact if_neg (by rw [none_]; exact Bool.false_ne_true)
  obtain ⟨began, eq⟩ := heldRun_eq h mode
  obtain ⟨value, late, count⟩ := heldMissed_shows h idle
  rw [one, eq] at run
  have frames : PassRest True (s.heldMissed h) ((s.heldMissed h).passFrames h.group (h.start, h.cnt) true began 0) := PassRest.passFrames _ _ _ _ _ _
  generalize (s.heldMissed h).passFrames h.group (h.start, h.cnt) true began 0 = w at *
  refine does_of run ⟨?_, ?_, ?_⟩
  · rw [settled_fanout, State.fanout_of_fanouts frames.fanouts, ← group, value]
    rfl
  · rw [settled_count _ _ (by decide), frames.count (by decide) (by decide), count]
  · rw [settled_pds, frames.late]
    exact late

end Sys2Proof.Machine
end

section
set_option Elab.async false
/-! PROOFS. The process data service: controller frames (12_process_data_service.md R351 to R354), and the obligation about the passes. -/

namespace Sys2Proof.Machine

variable {s t u : State}

/-! ## A controller frame is taken -/

/-- A copy leaves its list: the counts of the passes stay. -/
theorem unlink_count (s : State) {n : Nat} (hn : n < 616) (i : Nat) {k : Nat} (lo : 7 ≤ k) (hi : k ≤ 9) :
    (s.unlink n i).get F.PDS_CNT_COUNT k = s.get F.PDS_CNT_COUNT k := by
  have free_ : F.PDS_CNT_COUNT.reg.off k 0 ≠ F.SWC_FREE_DESC_DESC.reg.off 0 0 := by
    have := PassRest.single (r := R.SWC_FREE_DESC) (by decide) 0 0
    have := pdsCnt_off k
    show R.PDS_CNT.off k 0 ≠ R.SWC_FREE_DESC.off 0 0
    omega
  have copies : F.PDS_CNT_COUNT.reg.off k 0 ≠ F.SWC_QFRM_COPIES.reg.off n 0 := by
    have := PassRest.listOff (r := R.SWC_QFRM) (by decide) hn 0
    have := pdsCnt_off k
    show R.PDS_CNT.off k 0 ≠ R.SWC_QFRM.off n 0
    omega
  exact (State.get_put_other _ _ _ _ _ _ _ _ copies).trans ((State.get_put_other _ _ _ _ _ _ _ _ free_).trans rfl)

/-- A controller frame's bytes are extracted, and its copy ends. -/
def State.controllerTaken (s : State) (n : Nat) (c : Copy) (f : Frame) (g : Nat) : State := (s.extract g f).endCopy n c

theorem controllerTaken_rest (s : State) {n : Nat} (hn : n < 616) (c : Copy) (f : Frame) (g : Nat) : PassRest True s (s.controllerTaken n c f g) :=
  (PassRest.extract s g f).trans (PassRest.endCopy _ hn c)

/-- The state of a triggered pass before its frames. -/
def State.passTriggered (s : State) (n : Nat) (c : Copy) (f : Frame) (g id : Nat) : State :=
  let q := ((s.unlink n 0).passBegin (s.unlink n 0).now).2.controllerTaken n c f g
  (q.pdsCnt 7).setFanout g { q.fanout g with miss := 0, fault := false, held := false, lastRun := id }

theorem passTriggered_shows {n : Nat} (hn : n < 616) (c : Copy) (f : Frame) (g id : Nat) :
    (s.passTriggered n c f g id).fanout g = { s.fanout g with miss := 0, fault := false, held := false, lastRun := id } ∧
    (s.passTriggered n c f g id).swc.lists = (s.unlink n 0).swc.lists ∧
    (s.passTriggered n c f g id).get F.PDS_CNT_COUNT 7 = min (s.get F.PDS_CNT_COUNT 7 + 1) (2 ^ 32 - 1) := by
  unfold State.passTriggered
  extract_lets q
  have rest : PassRest True (s.unlink n 0) q := (PassRest.passBegin _ _).trans (controllerTaken_rest _ hn c f g)
  refine ⟨?_, rest.lists, ?_⟩
  · have fanout : q.fanout g = s.fanout g := State.fanout_of_fanouts (s := s) rest.fanouts g
    exact (State.fanout_setFanout _ _ _).trans
      (congrArg (fun x : FanOut => { x with miss := 0, fault := false, held := false, lastRun := id }) fanout)
  · refine Eq.trans (State.get_of_regs (s := q.pdsCnt 7) rfl _ _ _) ?_
    rw [pdsCnt_same, rest.count (by decide) (by decide), unlink_count s hn 0 (by decide) (by decide)]

section
variable {n : Nat} {c : Copy} {f : Frame} {ed : EditRec} (head : s.pdsHead = some (n, c, f, ed)) (role : ed.pdsRole = 2)
  (young : s.expired n c = false) (runs : s.pdsRuns = true) (cycle : s.pds.cycle ≠ 0) (mode : s.mode ≠ modeHOLD) (live : s.pds.paused = false)
  (due : s.heldDue = []) (sound : ∀ i ∈ s.unreadCells c, s.cellEcc i = 0) (group : ed.pdsIndex < 64)
  (enabled : (s.fanout ed.pdsIndex).img.testBit 0 = true)
include head role young runs cycle mode live due sound group enabled

/-- What a controller frame of an enabled group does while no held pass is due: a pass runs, or the frame is extracted alone. -/
theorem fanOut_eq (extra : Bool) (hx : decide ((s.fanout ed.pdsIndex).lastRun < s.foWindow ed.pdsIndex) = !extra) : s.fanOut extra =
    if extra then ((s.unlink n 0).controllerTaken n c f ed.pdsIndex).pdsCnt 9
    else (s.passTriggered n c f ed.pdsIndex (s.foWindow ed.pdsIndex)).passFrames ed.pdsIndex
      ((s.passTriggered n c f ed.pdsIndex (s.foWindow ed.pdsIndex)).passCycle (s.foWindow ed.pdsIndex)) false
      ((s.unlink n 0).passBegin (s.unlink n 0).now).1 ((s.passTriggered n c f ed.pdsIndex (s.foWindow ed.pdsIndex)).groupOut ed.pdsIndex).length := by
  obtain ⟨-, ⟨l, hl⟩, -⟩ := pdsHead_some head
  have go : ¬ ((!s.pdsRuns) = true ∨ s.pds.cycle = 0 ∨ ed.pdsRole ≠ 2) := by simp [runs, cycle, role]
  have bad : (decide (63 < ed.pdsIndex) || !(s.fanout ed.pdsIndex).img.testBit 0) = false := by
    rw [enabled, decide_eq_false (by omega)]
    rfl
  have quiet : (s.mode == modeHOLD || s.pds.paused) = false := by
    rw [live, beq_eq_false_iff_ne.2 mode]
    rfl
  have held : s.heldPass ed.pdsIndex = s := by
    rw [State.heldPass, due]
    rfl
  have taken := takeSound_head hl young sound
  unfold State.fanOut
  rw [head]
  dsimp only
  rw [if_neg go, bad, quiet]
  simp only [Bool.or_self, Bool.false_eq_true, if_false, held, hx, taken, Bool.not_false, Bool.true_and, true_and]
  cases extra with
  | true => rfl
  | false =>
    rw [if_neg (by decide : ¬ (!false) = false), if_pos (show (!false) = true from rfl), if_neg Bool.false_ne_true]
    unfold State.passTriggered State.controllerTaken
    generalize (s.unlink n 0).passBegin (s.unlink n 0).now = p
    rfl

theorem does_fanoutPass (fresh : (s.fanout ed.pdsIndex).lastRun < s.foWindow ed.pdsIndex) : Does .fanoutPass s fun t =>
    t.fanout ed.pdsIndex = { s.fanout ed.pdsIndex with miss := 0, fault := false, held := false, lastRun := s.foWindow ed.pdsIndex } ∧
    t.list n = (s.list n).tail ∧ t.get F.PDS_CNT_COUNT 7 = min (s.get F.PDS_CNT_COUNT 7 + 1) (2 ^ 32 - 1) := by
  obtain ⟨hn, ⟨l, hl⟩, -⟩ := pdsHead_some head
  have run : exec .fanoutPass s = finish s (s.fanOut false) := rfl
  rw [fanOut_eq head role young runs cycle mode live due sound group enabled false (decide_eq_true fresh), if_neg Bool.false_ne_true] at run
  obtain ⟨value, lists, count⟩ := passTriggered_shows (s := s) hn c f ed.pdsIndex (s.foWindow ed.pdsIndex)
  generalize s.passTriggered n c f ed.pdsIndex (s.foWindow ed.pdsIndex) = v at *
  have frames : PassRest True v (v.passFrames ed.pdsIndex (v.passCycle (s.foWindow ed.pdsIndex)) false ((s.unlink n 0).passBegin (s.unlink n 0).now).1
      (v.groupOut ed.pdsIndex).length) := PassRest.passFrames _ _ _ _ _ _
  generalize v.passFrames ed.pdsIndex (v.passCycle (s.foWindow ed.pdsIndex)) false ((s.unlink n 0).passBegin (s.unlink n 0).now).1
    (v.groupOut ed.pdsIndex).length = w at *
  refine does_of run ⟨?_, ?_, ?_⟩
  · rw [settled_fanout, State.fanout_of_fanouts frames.fanouts, value]
  · rw [settled_list, State.list, frames.lists, lists, hl]
    exact unlink_list hl
  · rw [settled_count _ _ (by decide), frames.count (by decide) (by decide), count]

theorem does_fanoutExtra (late : s.foWindow ed.pdsIndex ≤ (s.fanout ed.pdsIndex).lastRun) : Does .fanoutExtra s fun t =>
    t.fanout ed.pdsIndex = s.fanout ed.pdsIndex ∧ t.list n = (s.list n).tail ∧
    t.get F.PDS_CNT_COUNT 9 = min (s.get F.PDS_CNT_COUNT 9 + 1) (2 ^ 32 - 1) := by
  obtain ⟨hn, ⟨l, hl⟩, -⟩ := pdsHead_some head
  have run : exec .fanoutExtra s = finish s (s.fanOut true) := rfl
  rw [fanOut_eq head role young runs cycle mode live due sound group enabled true (decide_eq_false (Nat.not_lt.2 late)), if_pos rfl] at run
  have rest := controllerTaken_rest (s.unlink n 0) hn c f ed.pdsIndex
  have count := unlink_count s hn 0 (k := 9) (by decide) (by decide)
  generalize (s.unlink n 0).controllerTaken n c f ed.pdsIndex = v at *
  refine does_of run ⟨?_, ?_, ?_⟩
  · rw [settled_fanout]
    exact State.fanout_of_fanouts (s := s) rest.fanouts _
  · have lists : (v.pdsCnt 9).swc.lists = (s.unlink n 0).swc.lists := rest.lists
    rw [settled_list, State.list, lists, hl]
    exact unlink_list hl
  · rw [settled_count _ _ (by decide), pdsCnt_same, rest.count (by decide) (by decide), count]

end

/-- Settles O48: each clause is a lemma about one pass. -/
theorem processData : Obligations.ProcessData := by
  unfold Obligations.ProcessData
  refine ⟨fun s n c f ed head role young idle untested sound => ?_, fun s runs cycle open_ idle due mode live nodup =>
    does_gatherDeadline runs cycle open_ idle due mode live nodup, fun s h => does_gatherPass h, ?_, ?_,
    fun s g h rest due group others mode idle => does_heldPass due group others mode idle⟩
  · exact fun used real long fits => does_fanin head role young idle untested sound used real long fits
  · exact fun s n c f ed head role young runs cycle mode live _ due sound group enabled fresh =>
      does_fanoutPass head role young runs cycle mode live due sound group enabled fresh
  · exact fun s n c f ed head role young runs cycle mode live _ due sound group enabled late =>
      does_fanoutExtra head role young runs cycle mode live due sound group enabled late

end Sys2Proof.Machine
end

section
set_option Elab.async false
/-! PROOFS. The commands and the reads of the time domains (11_invar_time_unit.md R304 to R306, R332). -/

namespace Sys2Proof.Machine

variable {s t u : State}

/-! ## An accepted command waits for its tick (R304, R306) -/

/-- What the acceptance of a command leaves, beside the registers of `bases`. -/
def Waits (s : State) (a : InvAct) (bases : List Nat) (t : State) : Prop :=
  t.bit F.INV_STAT_BUSY = true ∧ t.inv = { s.inv with act := some (a, false) } ∧ s.keepsRegs t bases

theorem settled_invTake {v : State} {a : InvAct} {bases : List Nat} (same : v.inv = s.inv) (keeps : s.keepsRegs v bases)
    (mem : R.INV_STAT.base ∈ bases) (x : TwnState) : Waits s a bases (settled s { v.invTake a with twn := x }) := by
  have busy : (v.put F.INV_STAT_BUSY 1).bit F.INV_STAT_BUSY = true := State.bit_put_one _ (by decide) (by decide) _ _
  have keeps' : s.keepsRegs (v.put F.INV_STAT_BUSY 1) bases := State.keepsRegs_put keeps _ _ _ _ mem
  refine ⟨?_, ?_, settled_keeps _ _ _ (State.keepsRegs_trans keeps' (State.keepsRegs_of_eq _ rfl))⟩
  · rw [settled_bit_free _ _ (by decide)]
    exact (State.bit_of_regs (s := v.put F.INV_STAT_BUSY 1) rfl ..).trans busy
  · rw [settled_inv, ← same]
    rfl

theorem invTake_now (v : State) (a : InvAct) : (v.invTake a).now = v.now := rfl

theorem adpRejudge_still {x : Int} (h : s.now = x) : s.adpRejudge x = s := if_neg (by omega)

theorem dumpRejudge_still {x : Int} (h : s.now = x) : s.dumpRejudge x = s := by
  unfold State.dumpRejudge
  split
  · rfl
  · exact if_neg (by omega)

/-- A write of INV_CMD while no command waits is the command `a` that it samples. -/
theorem regWrite_invCmd {host op d : Nat} {a : InvAct} (idle : s.bit F.INV_STAT_BUSY = false) (hop : op < 16) (hd : d < 4)
    (takes : ∀ v, (s.setReg R.INV_CMD v).invCommand op d = (s.setReg R.INV_CMD v).invTake a) :
    ∃ v, s.regWrite host R.INV_CMD 0 0 15 (word (op + d * 16)) = ([], (s.setReg R.INV_CMD v).invTake a) := by
  have low : getBits (word (op + d * 16)) 3 0 = op := by
    rw [getBits_word]
    omega
  have high : getBits (word (op + d * 16)) 5 4 = d := by
    rw [getBits_word]
    omega
  obtain ⟨v, hv⟩ := posted_idle (s := s) idle R.INV_CMD 0 0 (word (op + d * 16)) fun s => s.invCmdWrite (word (op + d * 16))
  have row : s.regWrite host R.INV_CMD 0 0 15 (word (op + d * 16)) =
    s.posted (s.bit F.INV_STAT_BUSY) R.INV_CMD 0 0 (word (op + d * 16)) fun s => s.invCmdWrite (word (op + d * 16)) := rfl
  refine ⟨v, row.trans (hv.trans (congrArg (Prod.mk _) ?_))⟩
  unfold State.invCmdWrite
  rw [low, high, takes]
  dsimp only
  rw [adpRejudge_still (invTake_now _ _), dumpRejudge_still (invTake_now _ _)]

theorem does_invCmd {c : Instr} {h : HostId} {op d : Nat} {a : InvAct}
    (run : exec c s = finish s (s.rowWrite (hostNum h) R.INV_CMD 0 0 (word (op + d * 16)))) (ho : s.opens h R.INV_CMD 0 0 = true)
    (idle : s.bit F.INV_STAT_BUSY = false) (hop : op < 16) (hd : d < 4)
    (takes : ∀ v, (s.setReg R.INV_CMD v).invCommand op d = (s.setReg R.INV_CMD v).invTake a) :
    Does c s (Waits s a [R.INV_CMD.base, R.INV_STAT.base]) := by
  obtain ⟨v, write⟩ := regWrite_invCmd (host := hostNum h) idle hop hd takes
  have keeps : s.keepsRegs (s.setReg R.INV_CMD v) [R.INV_CMD.base, R.INV_STAT.base] :=
    State.keepsRegs_setReg (State.keepsRegs_refl _) _ _ _ _ List.mem_cons_self
  exact does_rowWrite run ho write fun x =>
    settled_invTake (s := s) (v := s.setReg R.INV_CMD v) (a := a) rfl keeps (List.mem_cons_of_mem _ List.mem_cons_self) x

/-! ## The staging registers are sampled as they stand -/

/-- The staging registers of the domains lie apart from INV_CMD. -/
theorem get_staged {f : Fld} (v : Word) (d : Fin 4) (far : apart f.reg R.INV_CMD = true) (hf : f.reg.inside d 0) :
    (s.setReg R.INV_CMD v).get f d = s.get f d := State.get_setReg_other _ _ _ _ _ _ _ _ (off_ne far hf (by decide))

theorem invCommand_set (v : Word) (d : Fin 4) : (s.setReg R.INV_CMD v).invCommand 1 d = (s.setReg R.INV_CMD v).invTake
    (.set d (s.get F.INV_TD_SET_SEC_LO_SEC d + 2 ^ 32 * s.get F.INV_TD_SET_SEC_HI_SEC d) (s.get F.INV_TD_SET_NS_NS d)) := by
  have lo := get_staged (s := s) (f := F.INV_TD_SET_SEC_LO_SEC) v d (by decide) ⟨d.isLt, by decide⟩
  have hi := get_staged (s := s) (f := F.INV_TD_SET_SEC_HI_SEC) v d (by decide) ⟨d.isLt, by decide⟩
  have ns := get_staged (s := s) (f := F.INV_TD_SET_NS_NS) v d (by decide) ⟨d.isLt, by decide⟩
  rw [State.invCommand, lo, hi, ns]

theorem invCommand_step (v : Word) (d : Fin 4) : (s.setReg R.INV_CMD v).invCommand 2 d = (s.setReg R.INV_CMD v).invTake
    (.step d (signed 64 (s.get F.INV_TD_OFS_LO_OFS d + 2 ^ 32 * s.get F.INV_TD_OFS_HI_OFS d))) := by
  have lo := get_staged (s := s) (f := F.INV_TD_OFS_LO_OFS) v d (by decide) ⟨d.isLt, by decide⟩
  have hi := get_staged (s := s) (f := F.INV_TD_OFS_HI_OFS) v d (by decide) ⟨d.isLt, by decide⟩
  rw [State.invCommand, lo, hi]

/-- A word reads 0 in two's complement only when it is 0. -/
theorem signed_eq_zero {v : Nat} (h : v < 2 ^ 32) : signed 32 v = 0 ↔ v = 0 := by
  unfold signed
  split <;> omega

theorem invCommand_slew (v : Word) (d : Fin 4) (some_ : s.get F.INV_TD_ADJ_ADJ d ≠ 0) :
    (s.setReg R.INV_CMD v).invCommand 3 d = (s.setReg R.INV_CMD v).invTake
      (.slew d (signed 32 (s.get F.INV_TD_ADJ_ADJ d) * 2 ^ 32) (s.get F.INV_TD_SLEW_CFG_SHIFT d)) := by
  have adj := get_staged (s := s) (f := F.INV_TD_ADJ_ADJ) v d (by decide) ⟨d.isLt, by decide⟩
  have shift := get_staged (s := s) (f := F.INV_TD_SLEW_CFG_SHIFT) v d (by decide) ⟨d.isLt, by decide⟩
  have slews : signed 32 (s.get F.INV_TD_ADJ_ADJ d) ≠ 0 := fun e => some_ ((signed_eq_zero (s.get_lt F.INV_TD_ADJ_ADJ d 0)).1 e)
  rw [State.invCommand, adj, shift, if_neg slews]

theorem invCommand_noSlew (v : Word) (d : Fin 4) (none_ : s.get F.INV_TD_ADJ_ADJ d = 0) :
    (s.setReg R.INV_CMD v).invCommand 3 d = (s.setReg R.INV_CMD v).invTake (.stop d) := by
  have adj := get_staged (s := s) (f := F.INV_TD_ADJ_ADJ) v d (by decide) ⟨d.isLt, by decide⟩
  rw [State.invCommand, adj, none_, if_pos (by decide)]

/-! ## RATE_LOAD (R306, R333) -/

theorem does_rateLoad {h : HostId} {d : Fin 4} {data : Word} (ho : s.opens h R.INV_TD_RATE_HI d 0 = true) (idle : s.bit F.INV_STAT_BUSY = false) :
    Does (.rateLoad h d data) s fun t =>
      t.inv = { s.inv with act := some (.rate d (signed 40 (s.get F.INV_TD_RATE_LO_RATE d + 2 ^ 32 * getBits data 7 0)), false) } ∧
      t.bit F.INV_STAT_BUSY = true ∧ s.keepsRegs t [R.INV_TD_RATE_HI.off d 0, R.INV_STAT.base] := by
  obtain ⟨v, hv⟩ := posted_idle (s := s) idle R.INV_TD_RATE_HI d 0 data fun s => s.rateLoad d (getBits data 7 0)
  have row : s.regWrite (hostNum h) R.INV_TD_RATE_HI d 0 15 data =
    s.posted (s.bit F.INV_STAT_BUSY) R.INV_TD_RATE_HI d 0 data fun s => s.rateLoad d (getBits data 7 0) := rfl
  have apart_ : F.INV_TD_RATE_LO_RATE.reg.off d 0 ≠ R.INV_TD_RATE_HI.off d 0 := off_ne (by decide) ⟨d.isLt, by decide⟩ ⟨d.isLt, by decide⟩
  have lo : ((s.setReg R.INV_TD_RATE_HI v d).put F.INV_TD_RATE_HI_RATE (getBits data 7 0) d).get F.INV_TD_RATE_LO_RATE d =
      s.get F.INV_TD_RATE_LO_RATE d :=
    (State.get_put_other _ _ _ _ _ _ _ _ apart_).trans (State.get_setReg_other _ _ _ _ _ _ _ _ apart_)
  have small : getBits data 7 0 % 256 = getBits data 7 0 := Nat.mod_eq_of_lt (getBits_lt data 7 0)
  have write := row.trans hv
  rw [State.rateLoad, lo, small] at write
  have stored : s.keepsRegs (s.setReg R.INV_TD_RATE_HI v d) [R.INV_TD_RATE_HI.off d 0, R.INV_STAT.base] :=
    State.keepsRegs_setReg (State.keepsRegs_refl _) _ _ _ _ List.mem_cons_self
  have keeps := State.keepsRegs_put stored F.INV_TD_RATE_HI_RATE (getBits data 7 0) d 0 List.mem_cons_self
  have same : ((s.setReg R.INV_TD_RATE_HI v d).put F.INV_TD_RATE_HI_RATE (getBits data 7 0) d).inv = s.inv := rfl
  generalize (s.setReg R.INV_TD_RATE_HI v d).put F.INV_TD_RATE_HI_RATE (getBits data 7 0) d = u at *
  refine does_rowWrite rfl ho write fun x => ?_
  obtain ⟨busy, inv, kept⟩ := settled_invTake (v := u) (a := .rate _ _) same keeps (List.mem_cons_of_mem _ List.mem_cons_self) x
  exact ⟨inv, busy, kept⟩

/-! ## The end of a slew (R305) -/

theorem does_slewDone {d : Fin 4} (spent : (s.dom d).slewRem = 0) (slews : (s.get F.INV_STAT_SLEWING).testBit d = true) :
    Does (.slewDone d) s fun t => (t.get F.INV_STAT_SLEWING).testBit d = false ∧ t.bit F.INV_EVT_SLEW_DONE = true ∧
      s.keepsRegs t [R.INV_STAT.base, R.INV_EVT.base] ∧ s.onlyRegs t := by
  have run : exec (.slewDone d) s = finish s (s.slewDone d) := rfl
  rw [State.slewDone, if_pos ⟨spent, slews⟩] at run
  refine does_of run ⟨?_, ?_, settled_keeps _ _ _ ?_, settled_onlyRegs ?_⟩
  · rw [settled_get_free _ _ (by decide), State.get_evt_free _ (by decide),
      testBit_putBit _ (by decide) _ _ _ (show d.val < 4 from d.isLt) (show d.val < 4 from d.isLt), if_pos rfl]
  · rw [settled_bit_free _ _ (by decide)]
    exact State.bit_evt_same _ _ _ _ (by decide) (by decide)
  · exact State.keepsRegs_evt (State.keepsRegs_put (State.keepsRegs_refl _) _ _ _ _ (by decide)) _ _ _ (by decide)
  · exact State.onlyRegs_evt (State.onlyRegs_put State.onlyRegs_refl _ _ _ _) _ _ _

/-! ## A read of the nanoseconds takes the snapshot (R332) -/

theorem does_tdNsRead {h : HostId} {d : Fin 4} (hr : s.reaches h R.INV_TD_NS d 0 = true) : Does (.tdNsRead h d) s fun t =>
    t.out = s.out ++ [.readData (hostNum h) (BitVec.ofNat 64
      ((BitVec.ofNat 32 (s.dom d).ns : Word) ||| s.rsvdShown (hostNum h) R.INV_TD_NS d 0).toNat)] ∧
    tabGet {} t.inv.snap d = { sec := (s.dom d).sec, ns := (s.dom d).ns, frac16 := (s.dom d).frac / 2 ^ 32 } ∧ s.keepsRegs t [] := by
  have read : s.regRead (hostNum h) (R.INV_TD_NS.addr d 0) R.INV_TD_NS d 0 =
    ((BitVec.ofNat 32 (s.dom d).ns : Word) ||| s.rsvdShown (hostNum h) R.INV_TD_NS d 0, s.snapDom d) := rfl
  refine does_rowRead rfl hr read ⟨?_, ?_, settled_keeps _ _ _ (State.keepsRegs_of_eq _ rfl)⟩
  · rw [settled_out]
    rfl
  · rw [settled_inv]
    exact tabGet_set_same ..

end Sys2Proof.Machine
end

section
set_option Elab.async false
/-! PROOFS. What a tick does beside the time domains leaves Invar alone (R98, R103, R246, R403, R405, R425). -/

namespace Sys2Proof.Machine

variable {s t u : State}

namespace Low

/-! ## A frame that goes back into its MAC (R101) -/

theorem addFrame (h : Low s t) {f : Frame} : Low s (t.addFrame f).2 := h.same

theorem rxStart (s : State) (p : Nat) (pre : Bool) (x : Int) : Low s (s.rxStart p pre x).2 := by
  rw [rxStart_eq]
  exact addFrame (Low.ite (dropCount (Low.refl s)) (Low.refl s))

theorem macStart (s : State) (p : Nat) (x : Int) : Low s (s.macStart p false x) := by
  unfold State.macStart
  rw [if_neg Bool.false_ne_true]
  exact Low.ite (Low.refl s) (setPort (rxStart s p false x))

theorem loopFrame (s : State) (p : Nat) (x : Int) (b : List Byte) : Low s (s.loopFrame p x b) :=
  Low.ite ((macStart s p x).trans (rxEnd _ _ _ _ _ _ _ _)) (Low.refl s)

/-! ## MAC control frames, pauses and the weighted queues -/

theorem controlSent (s : State) (p : Nat) : Low s (s.controlSent p) := by
  unfold State.controlSent
  cases (s.port p).fcOut with
  | none => exact Low.refl s
  | some out =>
    have counted (k : Nat) : Low s (((s.setPort p { s.port p with fcOut := none }).portCnt p 29).portCnt p k) :=
      portCnt (portCnt (setPort (Low.refl s)))
    dsimp only
    exact Low.ite (Low.ite (emit (counted _)) ((counted _).trans (loopFrame _ _ _ _))) (Low.refl s)

theorem controlsSent (s : State) : Low s s.controlsSent := Low.foldl (Low.refl s) _ fun v e => controlSent v e.1

theorem pauseTick (s : State) (p : Nat) : Low s (s.pauseTick p) :=
  Low.ite (Low.ite (setPort (portCnt (Low.refl s))) (setPort (Low.refl s))) (Low.refl s)

theorem setTag (h : Low s t) {p q v cost : Nat} : Low s (t.setTag p q v cost) := h.same

theorem tagLook (s : State) (p q : Nat) : Low s (s.tagLook p q) := by
  unfold State.tagLook
  cases s.groupCost p q with
  | none => exact Low.ite (Low.refl s) (Low.setEg (Low.refl s))
  | some c =>
    dsimp only
    split
    · exact Low.ite (setTag (Low.refl s)) (Low.ite (setTag (Low.refl s)) (Low.refl s))
    · exact Low.setEg (Low.ite (setTag (Low.refl s)) (Low.ite (setTag (Low.refl s)) (Low.refl s)))

theorem tagLooks (s : State) (p : Nat) : Low s (s.tagLooks p) := Low.foldl (Low.refl s) _ fun v q => tagLook v p q

/-! ## The twins' link and their lag -/

theorem lagTick (s : State) (x : Domain) : Low s (s.lagTick x) := Low.ite (Low.put (setTwn (Low.refl s))) (Low.refl s)

end Low

/-- One tick of the transmitter changes the state of the twins' link, and what is driven out. -/
theorem linkServe_shows (s : State) : Low s s.linkServe ∧ s.linkServe.twn.syncs = s.twn.syncs := by
  have log : Low s s.logSend ∧ s.logSend.twn.syncs = s.twn.syncs := ⟨(Low.refl s).same, rfl⟩
  unfold State.linkServe
  split
  · exact ⟨Low.refl s, rfl⟩
  split
  · split
    · exact log
    · exact ⟨(Low.refl s).same, rfl⟩
  · split
    · exact ⟨Low.refl s, rfl⟩
    · exact log

theorem lagTick_syncs (s : State) (x : Domain) : (s.lagTick x).twn.syncs = s.twn.syncs := by
  unfold State.lagTick
  split <;> rfl

/-- With no SYNC message waiting none is due (R425). -/
theorem Low.syncDue (none : s.twn.syncs = []) : Low s s.syncDue := by
  unfold State.syncDue
  rw [none]
  exact (Low.refl s).same

end Sys2Proof.Machine
end

section
set_option Elab.async false
/-! PROOFS. The tick of the time domains (11_invar_time_unit.md R301, R304 to R309, R332). -/

namespace Sys2Proof.Machine

variable {s t u : State}

/-! ## The domains of a state -/

theorem dom_of_inv (h : t.inv.dom = s.inv.dom) (e : Nat) : t.dom e = s.dom e := by rw [State.dom, h, State.dom]

theorem dom_setDom (s : State) (d e : Nat) (x : Domain) : (s.setDom d x).dom e = if e = d then x else s.dom e := tabGet_set ..

theorem ticked_of_mode (h : t.mode = s.mode) (e : Nat) (x : Domain) : t.ticked e x = s.ticked e x := by
  have runs : t.domRuns e = s.domRuns e := by rw [State.domRuns, h, State.domRuns]
  rw [State.ticked, runs, State.ticked]

/-- Domain `d` alone moves by `f`. -/
theorem dom_moved (s : State) (d e : Nat) (f : Domain → Domain) :
    (if e = d then f (s.dom d) else s.dom e) = if e = d then f (s.dom e) else s.dom e := by
  by_cases here : e = d
  · rw [here]
  · rw [if_neg here, if_neg here]

/-- The registers and the twin's state are as they were, and of Invar the domains, the waiting command and the count of ticks. -/
structure TimeKept (s t : State) : Prop where
  regs : t.regs = s.regs
  twn : t.twn = s.twn
  dom : t.inv.dom = s.inv.dom
  act : t.inv.act = s.inv.act
  ticks : t.inv.ticks = s.inv.ticks

namespace TimeKept

theorem refl (s : State) : TimeKept s s := ⟨rfl, rfl, rfl, rfl, rfl⟩

theorem trans (h : TimeKept s t) (k : TimeKept t u) : TimeKept s u :=
  ⟨k.regs.trans h.regs, k.twn.trans h.twn, k.dom.trans h.dom, k.act.trans h.act, k.ticks.trans h.ticks⟩

theorem get (h : TimeKept s t) (f : Fld) : t.get f = s.get f := State.get_of_regs h.regs f 0 0

theorem bit (h : TimeKept s t) (f : Fld) : t.bit f = s.bit f := State.bit_of_regs h.regs f 0 0

theorem tioRejudge (s : State) (d i : Nat) : TimeKept s (s.tioRejudge d i) := by
  unfold State.tioRejudge
  split
  · exact ⟨rfl, rfl, rfl, rfl, rfl⟩
  · exact refl s

theorem tioRejudges (s : State) (d : Nat) (l : List Nat) : TimeKept s (l.foldl (fun s i => s.tioRejudge d i) s) :=
  List.foldlRecOn (motive := fun t => TimeKept s t) l _ (refl s) fun _ h i _ => h.trans (tioRejudge _ d i)

theorem cycRejudge (s : State) (x : Int) : TimeKept s (s.cycRejudge x) := by
  unfold State.cycRejudge
  split
  · exact refl s
  · dsimp only
    split
    · exact ⟨rfl, rfl, rfl, rfl, rfl⟩
    · exact refl s

theorem rejudged (s : State) (x : Int) : TimeKept s (s.rejudged x) := by
  have adp : TimeKept s (s.adpRejudge x) := by
    unfold State.adpRejudge
    split
    · exact ⟨rfl, rfl, rfl, rfl, rfl⟩
    · exact refl s
  refine adp.trans (u := (s.adpRejudge x).dumpRejudge x) ?_
  unfold State.dumpRejudge
  split
  · exact refl _
  · split
    · exact ⟨rfl, rfl, rfl, rfl, rfl⟩
    · exact refl _

end TimeKept

/-! ## A step when its tick is over (R307 to R309) -/

/-- GEN of a domain has toggled, and a step has been reported (R308). -/
def State.stepNoted (s : State) (d : Nat) : State :=
  (s.putBit F.INV_STAT_GEN d (!(s.get F.INV_STAT_GEN).testBit d)).evt F.INV_EVT_STEP

theorem stepEffects_kept (s : State) (d : Nat) (old : Domain) : TimeKept (s.stepNoted d) (s.stepEffects d old) := by
  have pins := TimeKept.tioRejudges (s.stepNoted d) d (List.range 16)
  have policed (v : State) (x y : Int) : TimeKept v ((v.moveMeters x).cycRejudge y) :=
    TimeKept.trans (t := v.moveMeters x) ⟨rfl, rfl, rfl, rfl, rfl⟩ (TimeKept.cycRejudge _ _)
  unfold State.stepEffects
  dsimp only
  split
  · exact pins.trans (policed _ _ _)
  · exact pins

theorem stepNoted_shows (s : State) (d : Nat) : (s.stepNoted d).inv = s.inv ∧ (s.stepNoted d).twn = s.twn ∧ (s.stepNoted d).mode = s.mode ∧
    (s.stepNoted d).bit F.INV_STAT_BUSY = s.bit F.INV_STAT_BUSY ∧ (s.stepNoted d).bit F.INV_EVT_STEP = true ∧
    (d < 4 → ((s.stepNoted d).get F.INV_STAT_GEN).testBit d = !(s.get F.INV_STAT_GEN).testBit d) := by
  refine ⟨State.evt_inv .., State.evt_twn .., ?_, ?_, ?_, fun hd => ?_⟩
  · exact (State.get_evt_free _ (by decide) ..).trans (State.get_put_free _ (by decide) ..)
  · exact (State.bit_evt_free _ (by decide) ..).trans (State.bit_put_beside _ (by decide) ..)
  · exact State.bit_evt_same _ _ _ _ (by decide) (by decide)
  · rw [State.stepNoted, State.get_evt_free _ (by decide), testBit_putBit _ (by decide) _ _ _ (show d < 4 from hd) (show d < 4 from hd), if_pos rfl]

/-- What the end of the tick at which command `a` has acted leaves. -/
structure Ended (s : State) (a : InvAct) (t : State) : Prop where
  act : t.inv.act = none
  ticks : t.inv.ticks = s.inv.ticks
  dom : ∀ e, t.dom e = a.afterTick e (s.dom e)
  twn : t.twn = s.twn
  mode : t.mode = s.mode
  busy : t.bit F.INV_STAT_BUSY = false
  stepped : ∀ d < 4, a.steps = some d →
    (t.get F.INV_STAT_GEN).testBit d = !(s.get F.INV_STAT_GEN).testBit d ∧ t.bit F.INV_EVT_STEP = true

/-- The command is over: BUSY falls. -/
def State.actOver (s : State) : State := { s.put F.INV_STAT_BUSY 0 with inv := { s.inv with act := none } }

theorem actOver_shows (s : State) : s.actOver.bit F.INV_STAT_BUSY = false ∧ s.actOver.mode = s.mode ∧
    s.actOver.get F.INV_STAT_GEN = s.get F.INV_STAT_GEN :=
  ⟨(State.bit_of_regs (s := s.put F.INV_STAT_BUSY 0) rfl ..).trans (State.bit_put_zero _ (by decide) ..),
    (State.get_of_regs (s := s.put F.INV_STAT_BUSY 0) rfl ..).trans (State.get_put_free _ (by decide) ..),
    (State.get_of_regs (s := s.put F.INV_STAT_BUSY 0) rfl ..).trans (State.get_put_beside _ (by decide) ..)⟩

/-- A command that moves domain `d` to `x` has acted. -/
theorem ended_step {a : InvAct} {d : Nat} {x old : Domain} (steps : a.steps = some d)
    (after : ∀ e, (if e = d then x else s.dom e) = a.afterTick e (s.dom e)) : Ended s a ((s.actOver.setDom d x).stepEffects d old) := by
  have kept := stepEffects_kept (s.actOver.setDom d x) d old
  obtain ⟨inv, twn, mode, busy, step, gen⟩ := stepNoted_shows (s.actOver.setDom d x) d
  obtain ⟨busy', mode', gen'⟩ := actOver_shows s
  refine ⟨?_, ?_, fun e => ?_, ?_, ?_, ?_, fun e he toggles => ?_⟩
  · rw [kept.act, inv]
    rfl
  · rw [kept.ticks, inv]
    rfl
  · rw [dom_of_inv kept.dom, dom_of_inv (congrArg InvState.dom inv), dom_setDom]
    exact after e
  · rw [kept.twn, twn]
    rfl
  · exact (kept.get _).trans (mode.trans mode')
  · rw [kept.bit, busy]
    exact busy'
  · obtain rfl : d = e := Option.some.inj (steps.symm.trans toggles)
    refine ⟨?_, ?_⟩
    · rw [kept.get, gen he]
      exact congrArg (fun v => !v.testBit d) gen'
    · rw [kept.bit, step]

/-- A command that steps no domain has acted. -/
theorem ended_still {a : InvAct} (steps : a.steps = none) (after : ∀ e x, a.afterTick e x = x) : Ended s a s.actOver := by
  obtain ⟨busy, mode, -⟩ := actOver_shows s
  refine ⟨rfl, rfl, fun e => ?_, rfl, mode, busy, fun d _ toggles => ?_⟩
  · rw [after]
    rfl
  · rw [steps] at toggles
    cases toggles

theorem invEnd_acted {a : InvAct} (acted : s.inv.act = some (a, true)) : Ended s a s.invEnd := by
  unfold State.invEnd
  rw [acted]
  cases a with
  | set d sec ns => exact ended_step rfl fun e => dom_moved s d e fun x => { x with sec := sec, ns := ns, frac := 0 }
  | step d ofs => exact ended_step rfl fun e => dom_moved s d e fun x => domAdd x (ofs * 2 ^ 48)
  | _ => exact ended_still rfl fun _ _ => rfl

theorem invEnd_rest (rest : ∀ a, s.inv.act ≠ some (a, true)) : s.invEnd = s := by
  unfold State.invEnd
  split
  · exact absurd ‹_› (rest _)
  · rfl

/-! ## The tick at which a command acts begins (R307) -/

/-- What the beginning of the tick at which command `a` acts leaves. -/
structure Begun (s : State) (a : InvAct) (t : State) : Prop where
  act : t.inv.act = some (a, true)
  ticks : t.inv.ticks = s.inv.ticks
  dom : ∀ e, t.dom e = a.fromTick e (s.dom e)
  twn : t.twn = s.twn
  mode : t.mode = s.mode

/-- The command acts at this tick. -/
def State.actNow (s : State) (a : InvAct) : State := { s with inv := { s.inv with act := some (a, true) } }

theorem begun_setDom {a : InvAct} {d : Nat} {x : Domain} (from_ : ∀ e, (if e = d then x else s.dom e) = a.fromTick e (s.dom e)) :
    Begun s a ((s.actNow a).setDom d x) :=
  ⟨rfl, rfl, fun e => (dom_setDom (s.actNow a) d e x).trans (from_ e), rfl, rfl⟩

theorem Begun.slewing {a : InvAct} (h : Begun s a t) (d : Nat) (b : Bool) : Begun s a (t.putBit F.INV_STAT_SLEWING d b) :=
  ⟨h.act, h.ticks, h.dom, h.twn, (State.get_put_free _ (by decide) ..).trans h.mode⟩

theorem invBegin_taken {a : InvAct} (taken : s.inv.act = some (a, false)) : Begun s a s.invBegin := by
  unfold State.invBegin
  rw [taken]
  cases a with
  | set d sec ns => exact (begun_setDom fun e => dom_moved s d e fun x => { x with slewRem := 0 }).slewing _ _
  | stop d => exact (begun_setDom fun e => dom_moved s d e fun x => { x with slewRem := 0 }).slewing _ _
  | slew d rem shift => exact (begun_setDom fun e => dom_moved s d e fun x => { x with slewRem := rem, slewShift := shift }).slewing _ _
  | rate d r => exact begun_setDom fun e => dom_moved s d e fun x => { x with rate := r }
  | _ => exact ⟨rfl, rfl, fun _ => rfl, rfl, rfl⟩

theorem invBegin_rest (rest : ∀ a, s.inv.act ≠ some (a, false)) : s.invBegin = s := by
  unfold State.invBegin
  split
  · exact absurd ‹_› (rest _)
  · rfl

end Sys2Proof.Machine
end

section
set_option Elab.async false
/-! PROOFS. The increment of the time domains at a tick, what the whole tick shows of them, and the obligation about the time domains
(11_invar_time_unit.md R301, R304 to R309, R332). -/

namespace Sys2Proof.Machine

variable {s t u : State}

/-! ## The increment (R301, R331) -/

/-- The running domains have advanced; nothing else has changed but the count of ticks and, perhaps, the snapshots. -/
structure Advanced (s t : State) : Prop where
  regs : t.regs = s.regs
  twn : t.twn = s.twn
  act : t.inv.act = s.inv.act
  ticks : t.inv.ticks = s.inv.ticks + 1
  dom : ∀ e < 4, t.dom e = s.ticked e (s.dom e)

theorem mode_of_regs (h : t.regs = s.regs) : t.mode = s.mode := State.get_of_regs h ..

/-- The tick of domain `d` moves that domain alone. -/
structure TickedOne (d : Nat) (s t : State) : Prop where
  regs : t.regs = s.regs
  twn : t.twn = s.twn
  act : t.inv.act = s.inv.act
  ticks : t.inv.ticks = s.inv.ticks
  same : t.dom d = s.ticked d (s.dom d)
  others : ∀ e ≠ d, t.dom e = s.dom e

theorem tickDom_one (s : State) (d : Nat) : TickedOne d s (s.tickDom d) := by
  unfold State.tickDom
  split
  next runs =>
    refine ⟨rfl, rfl, rfl, rfl, ?_, fun e ne => ?_⟩
    · rw [dom_setDom, if_pos rfl, State.ticked, if_pos runs]
    · rw [dom_setDom, if_neg ne]
  next stands => exact ⟨rfl, rfl, rfl, rfl, (if_neg stands).symm, fun _ _ => rfl⟩

/-- The ticks of different domains, one after the other, move each of them once. -/
theorem tickDoms (l : List Nat) (s : State) (nodup : l.Nodup) : (l.foldl State.tickDom s).regs = s.regs ∧
    (l.foldl State.tickDom s).twn = s.twn ∧ (l.foldl State.tickDom s).inv.act = s.inv.act ∧
    (l.foldl State.tickDom s).inv.ticks = s.inv.ticks ∧
    (∀ e ∈ l, (l.foldl State.tickDom s).dom e = s.ticked e (s.dom e)) ∧ ∀ e ∉ l, (l.foldl State.tickDom s).dom e = s.dom e := by
  induction l generalizing s with
  | nil => exact ⟨rfl, rfl, rfl, rfl, fun _ h => absurd h List.not_mem_nil, fun _ _ => rfl⟩
  | cons d l ih =>
    obtain ⟨fresh, rest⟩ := List.nodup_cons.1 nodup
    have one := tickDom_one s d
    obtain ⟨regs, twn, act, ticks, moved, stays⟩ := ih (s.tickDom d) rest
    refine ⟨regs.trans one.regs, twn.trans one.twn, act.trans one.act, ticks.trans one.ticks, fun e he => ?_, fun e he => ?_⟩
    · rcases List.mem_cons.1 he with rfl | later
      · exact (stays e fresh).trans one.same
      · rw [List.foldl_cons, moved e later, one.others e fun eq => fresh (eq ▸ later), ticked_of_mode (mode_of_regs one.regs)]
    · have out : e ∉ l := fun later => he (List.mem_cons_of_mem _ later)
      exact (stays e out).trans (one.others e fun eq => he (eq ▸ List.mem_cons_self))

theorem domsTick_advanced (s : State) : Advanced s s.domsTick := by
  obtain ⟨regs, twn, act, ticks, moved, -⟩ :=
    tickDoms [0, 1, 2, 3] { s with inv := { s.inv with ticks := s.inv.ticks + 1 } } (by decide)
  exact ⟨regs, twn, act, ticks, fun e he => moved e (by interval_cases e <;> decide)⟩

/-! ## SNAP_ALL (R332) -/

/-- The snapshot that a domain gives. -/
def Domain.shot (x : Domain) : DomSnap := { sec := x.sec, ns := x.ns, frac16 := x.frac / 2 ^ 32 }

/-- Snapshots move no domain; those of the domains of the list are taken. -/
theorem snapDoms (l : List Nat) (s : State) : TimeKept s (l.foldl State.snapDom s) ∧
    ∀ e, e ∈ l ∨ tabGet {} s.inv.snap e = (s.dom e).shot → tabGet {} (l.foldl State.snapDom s).inv.snap e = (s.dom e).shot := by
  induction l generalizing s with
  | nil => exact ⟨TimeKept.refl s, fun e h => h.resolve_left List.not_mem_nil⟩
  | cons d l ih =>
    have one : TimeKept s (s.snapDom d) := ⟨rfl, rfl, rfl, rfl, rfl⟩
    have taken (e : Nat) : tabGet {} (s.snapDom d).inv.snap e = if e = d then (s.dom d).shot else tabGet {} s.inv.snap e := tabGet_set ..
    obtain ⟨kept, shots⟩ := ih (s.snapDom d)
    refine ⟨one.trans kept, fun e h => (shots e ?_).trans rfl⟩
    have same : (s.snapDom d).dom e = s.dom e := rfl
    rw [taken, same]
    by_cases here : e = d
    · exact .inr (by rw [if_pos here, here])
    · rw [if_neg here]
      exact h.imp_left fun mem => (List.mem_cons.1 mem).resolve_left here

theorem invSnap_shows (s : State) : TimeKept s s.invSnap ∧
    (s.inv.act = some (.snap, true) → ∀ e < 4, tabGet {} s.invSnap.inv.snap e = (s.dom e).shot) := by
  obtain ⟨kept, shots⟩ := snapDoms [0, 1, 2, 3] s
  unfold State.invSnap
  split
  next => exact ⟨kept, fun _ e he => shots e (.inl (by interval_cases e <;> decide))⟩
  next other => exact ⟨TimeKept.refl s, fun acts => absurd acts other⟩

/-! ## The tick of the domains -/

/-- The increment and the snapshots after it. -/
theorem tickRest (s : State) : Advanced s s.domsTick.invSnap ∧
    (s.inv.act = some (.snap, true) → ∀ e < 4, tabGet {} s.domsTick.invSnap.inv.snap e = (s.domsTick.invSnap.dom e).shot) := by
  have adv := domsTick_advanced s
  obtain ⟨kept, shots⟩ := invSnap_shows s.domsTick
  refine ⟨⟨kept.regs.trans adv.regs, kept.twn.trans adv.twn, kept.act.trans adv.act, kept.ticks.trans adv.ticks, fun e he =>
    (dom_of_inv kept.dom e).trans (adv.dom e he)⟩, fun acts e he => ?_⟩
  rw [shots (adv.act.trans acts) e he, dom_of_inv kept.dom]

/-- A tick at which no command begins to act. -/
theorem tickDomains_plain (rest : ∀ a, s.inv.act ≠ some (a, false)) : Advanced s s.tickDomains := by
  unfold State.tickDomains
  rw [invBegin_rest rest]
  exact (tickRest s).1

/-- A tick at which command `a` acts. -/
theorem tickDomains_acts {a : InvAct} (taken : s.inv.act = some (a, false)) :
    s.tickDomains.inv.act = some (a, true) ∧ s.tickDomains.inv.ticks = s.inv.ticks + 1 ∧ s.tickDomains.twn = s.twn ∧
    (∀ e < 4, s.tickDomains.dom e = s.ticked e (a.fromTick e (s.dom e))) ∧
    (a = .snap → ∀ e < 4, tabGet {} s.tickDomains.inv.snap e = (s.tickDomains.dom e).shot) := by
  have begun := invBegin_taken taken
  obtain ⟨adv, shots⟩ := tickRest s.invBegin
  refine ⟨adv.act.trans begun.act, adv.ticks.trans (congrArg (· + 1) begun.ticks), adv.twn.trans begun.twn, fun e he => ?_, fun snaps =>
    shots (by rw [begun.act, snaps])⟩
  exact (adv.dom e he).trans (by rw [ticked_of_mode begun.mode, begun.dom])

/-! ## The whole tick (R301) -/

/-- What the tick leaves when the domains have advanced changes no state of Invar, and no register below 0x40000 but WDT_LEFT. -/
structure Shown (s t : State) : Prop where
  inv : t.inv = s.inv
  get : ∀ f : Fld, f.reg.off 0 0 < 0x40000 → free f.reg R.MGT_WDT_LEFT = true → pbaFree f.reg = true → t.get f = s.get f

theorem settled_wdtStep (b v : State) : Shown v (settled b v.wdtStep) := by
  have dec (f : Fld) (h : free f.reg R.MGT_WDT_LEFT = true) : v.wdtStep.get f = v.get f := by
    unfold State.wdtStep
    split
    · exact State.get_put_free _ h ..
    · rfl
  have inv : v.wdtStep.inv = v.inv := by
    unfold State.wdtStep
    split <;> rfl
  exact ⟨(settled_inv _ _).trans inv, fun f _ h hp => (settled_get_free _ _ hp _ _).trans (dec f h)⟩

/-- The time domains as the tick has left them: the transmitter's turn comes before, and what waited on TD0 is judged again. -/
def State.timed (s : State) : State := (s.invEnd.rejudged s.now).tickDomains

/-- The looks at the tags, the pause meters and the MAC control frames have had their tick. -/
def State.lanesTick (s : State) : State := ((List.range 72).foldl State.pauseTick (s.groupPorts.foldl State.tagLooks s)).controlsSent

theorem Low.lanesTick (s : State) : Low s s.lanesTick :=
  ((Low.foldl (Low.refl s) s.groupPorts Low.tagLooks).trans (Low.foldl (Low.refl _) (List.range 72) Low.pauseTick)).trans (Low.controlsSent _)

theorem timeTick_eq (s : State) : s.timeTick = (s.linkServe.timed.lagTick (s.linkServe.dom 0)).syncDue.lanesTick.wdtStep := rfl

theorem timeTick_shows (quiet : s.linkServe.timed.twn.syncs = []) (b : State) : Shown s.linkServe.timed (settled b s.timeTick) := by
  rw [timeTick_eq]
  have low := (Low.lagTick s.linkServe.timed (s.linkServe.dom 0)).trans
    ((Low.syncDue ((lagTick_syncs s.linkServe.timed (s.linkServe.dom 0)).trans quiet)).trans (Low.lanesTick _))
  have wdt := settled_wdtStep b (s.linkServe.timed.lagTick (s.linkServe.dom 0)).syncDue.lanesTick
  exact ⟨wdt.inv.trans low.inv, fun f hf h hp => (wdt.get f hf h hp).trans (low.get f hf)⟩

namespace Shown

theorem dom (h : Shown s t) (e : Nat) : t.dom e = s.dom e := dom_of_inv (congrArg InvState.dom h.inv) e

theorem bit (h : Shown s t) (f : Fld) (hf : f.reg.off 0 0 < 0x40000) (hw : free f.reg R.MGT_WDT_LEFT = true) (hp : pbaFree f.reg = true) :
    t.bit f = s.bit f := by
  rw [State.bit, h.get f hf hw hp, State.bit]

end Shown

/-- A tick of the block: what the domains' part leaves after the transmitter's turn is what the registers and Invar show. -/
theorem does_tick {P : State → Prop} (quiet : s.linkServe.timed.twn.syncs = []) (hp : ∀ t, Shown s.linkServe.timed t → P t) :
    Does .timeDomainTick s P :=
  does_of (u := s.timeTick) rfl (hp _ (timeTick_shows quiet s))

/-- The transmitter's turn changes neither the domains nor whether they run. -/
theorem ticked_linkServe (s : State) (e : Nat) (f : Domain → Domain) : s.linkServe.ticked e (f (s.linkServe.dom e)) = s.ticked e (f (s.dom e)) := by
  obtain ⟨low, -⟩ := linkServe_shows s
  rw [ticked_of_mode low.mode, dom_of_inv (congrArg InvState.dom low.inv)]

theorem linkServe_act (s : State) : s.linkServe.inv.act = s.inv.act := congrArg InvState.act (linkServe_shows s).1.inv

theorem linkServe_ticks (s : State) : s.linkServe.inv.ticks = s.inv.ticks := congrArg InvState.ticks (linkServe_shows s).1.inv

/-- A tick with no command waiting. -/
theorem does_idleTick (quiet : s.twn.syncs = []) (idle : s.inv.act = none) : Does .timeDomainTick s fun t =>
    t.inv.ticks = s.inv.ticks + 1 ∧ t.inv.act = none ∧ ∀ e < 4, t.dom e = s.ticked e (s.dom e) := by
  have act : s.linkServe.inv.act = none := (linkServe_act s).trans idle
  have still : s.linkServe.invEnd = s.linkServe := invEnd_rest fun a => by
    rw [act]
    exact nofun
  have kept := TimeKept.rejudged s.linkServe s.linkServe.now
  have adv : Advanced _ _ := tickDomains_plain (s := s.linkServe.rejudged s.linkServe.now) fun a => by
    rw [kept.act, act]
    exact nofun
  have timed : s.linkServe.timed = (s.linkServe.rejudged s.linkServe.now).tickDomains := by rw [State.timed, still]
  rw [← timed] at adv
  refine does_tick ?_ fun t shown => ⟨?_, ?_, fun e he => ?_⟩
  · rw [adv.twn, kept.twn, (linkServe_shows s).2, quiet]
  · rw [shown.inv, adv.ticks, kept.ticks, linkServe_ticks]
  · rw [shown.inv, adv.act, kept.act, act]
  · rw [shown.dom, adv.dom e he, ticked_of_mode (mode_of_regs kept.regs), dom_of_inv kept.dom]
    exact ticked_linkServe s e id

/-- The tick at which command `a` acts. -/
theorem does_actingTick {a : InvAct} (quiet : s.twn.syncs = []) (taken : s.inv.act = some (a, false)) : Does .timeDomainTick s fun t =>
    t.inv.ticks = s.inv.ticks + 1 ∧ t.inv.act = some (a, true) ∧ (∀ e < 4, t.dom e = s.ticked e (a.fromTick e (s.dom e))) ∧
    (a = .snap → ∀ e < 4, tabGet {} t.inv.snap e = (t.dom e).shot) := by
  have act : s.linkServe.inv.act = some (a, false) := (linkServe_act s).trans taken
  have still : s.linkServe.invEnd = s.linkServe := invEnd_rest fun b => by
    rw [act]
    exact fun e => Bool.noConfusion (congrArg Prod.snd (Option.some.inj e))
  have kept := TimeKept.rejudged s.linkServe s.linkServe.now
  have acts := tickDomains_acts (s := s.linkServe.rejudged s.linkServe.now) (kept.act.trans act)
  have timed : s.linkServe.timed = (s.linkServe.rejudged s.linkServe.now).tickDomains := by rw [State.timed, still]
  rw [← timed] at acts
  obtain ⟨acting, ticks, twn, dom, shots⟩ := acts
  refine does_tick ?_ fun t shown => ⟨?_, ?_, fun e he => ?_, fun snaps e he => ?_⟩
  · rw [twn, kept.twn, (linkServe_shows s).2, quiet]
  · rw [shown.inv, ticks, kept.ticks, linkServe_ticks]
  · rw [shown.inv, acting]
  · rw [shown.dom, dom e he, ticked_of_mode (mode_of_regs kept.regs), dom_of_inv kept.dom]
    exact ticked_linkServe s e (a.fromTick e)
  · rw [shown.inv, shown.dom, shots snaps e he]

/-- The tick after: command `a` is over. -/
theorem does_actedTick {a : InvAct} (quiet : s.twn.syncs = []) (acted : s.inv.act = some (a, true)) : Does .timeDomainTick s fun t =>
    t.inv.ticks = s.inv.ticks + 1 ∧ t.inv.act = none ∧ t.bit F.INV_STAT_BUSY = false ∧
    (∀ e < 4, t.dom e = s.ticked e (a.afterTick e (s.dom e))) ∧ ∀ d < 4, a.steps = some d →
      (t.get F.INV_STAT_GEN).testBit d = !(s.get F.INV_STAT_GEN).testBit d ∧ t.bit F.INV_EVT_STEP = true := by
  have low := (linkServe_shows s).1
  have ended := invEnd_acted ((linkServe_act s).trans acted)
  have kept := TimeKept.rejudged s.linkServe.invEnd s.linkServe.now
  have adv : Advanced (s.linkServe.invEnd.rejudged s.linkServe.now) s.linkServe.timed := tickDomains_plain fun b => by
    rw [kept.act, ended.act]
    exact nofun
  refine does_tick ?_ fun t shown => ⟨?_, ?_, ?_, fun e he => ?_, fun d hd steps => ?_⟩
  · rw [adv.twn, kept.twn, ended.twn, (linkServe_shows s).2, quiet]
  · rw [shown.inv, adv.ticks, kept.ticks, ended.ticks, linkServe_ticks]
  · rw [shown.inv, adv.act, kept.act, ended.act]
  · rw [shown.bit _ (by decide) (by decide) (by decide), State.bit_of_regs adv.regs, kept.bit, ended.busy]
  · rw [shown.dom, adv.dom e he, ticked_of_mode (mode_of_regs kept.regs), dom_of_inv kept.dom, ticked_of_mode ended.mode, ended.dom]
    exact ticked_linkServe s e (a.afterTick e)
  · obtain ⟨gen, step⟩ := ended.stepped d hd steps
    refine ⟨?_, ?_⟩
    · rw [shown.get _ (by decide) (by decide) (by decide), State.get_of_regs adv.regs, kept.get, gen, low.get _ (by decide)]
    · rw [shown.bit _ (by decide) (by decide) (by decide), State.bit_of_regs adv.regs, kept.bit, step]

/-- Settles O15: a command waits for its tick, acts with it and is over with the next one; the rest of a tick leaves Invar alone. -/
theorem timeDomains : Obligations.TimeDomains := by
  unfold Obligations.TimeDomains
  refine ⟨fun s h d ho idle => ?_, fun _ _ _ _ ho idle => does_rateLoad ho idle, fun _ _ spent slews => does_slewDone spent slews,
    fun _ _ _ hr => does_tdNsRead hr, fun s quiet => ⟨does_idleTick quiet, fun _ => does_actingTick quiet, fun _ => does_actedTick quiet⟩⟩
  refine ⟨?_, ?_, ?_, fun slews => ?_, fun stops => ?_, ?_, ?_⟩
  · exact does_invCmd (op := 0) rfl ho idle (by decide) d.isLt fun _ => rfl
  · exact does_invCmd (op := 1) rfl ho idle (by decide) d.isLt fun v => invCommand_set v d
  · exact does_invCmd (op := 2) rfl ho idle (by decide) d.isLt fun v => invCommand_step v d
  · exact does_invCmd (op := 3) rfl ho idle (by decide) d.isLt fun v => invCommand_slew v d slews
  · exact does_invCmd (op := 3) rfl ho idle (by decide) d.isLt fun v => invCommand_noSlew v d stops
  · exact does_invCmd (op := 4) rfl ho idle (by decide) d.isLt fun _ => rfl
  · exact does_invCmd (op := 5) rfl ho idle (by decide) d.isLt fun _ => rfl

end Sys2Proof.Machine
end
